-- ==== Sys2Proof/Word.lean ====
section
/-! DEFINITION. The word and byte types of the G8 (R5: every register is 32 bits wide). -/

namespace Sys2Proof

/-- A register word (R5). -/
abbrev Word := BitVec 32

/-- A byte of memory or of a mailbox entry. -/
abbrev Byte := BitVec 8

end Sys2Proof
end

