-- ==== Sys2Proof/Syntax.lean ====
section
/-! DEFINITION. The commands of the block: one constructor of `Instr` per row of spec/opcode_table.json.
The table gives no operands; each constructor's operands are what its rule needs from outside the block (log 1). -/

namespace Sys2Proof

/-- A braid master M0-M13 (R243): 0-3 control cores, 4 solver, 5 DMA, 6 recorder, 7-8 network,
9-12 host ports, 13 boot and wipe engine. -/
abbrev Master := Fin 14

/-- A mailbox time: TAI seconds and nanoseconds (R6, R210); both zero asks for the earliest instant (R146). -/
structure MailTime where
  s : Nat := 0
  ns : Nat := 0
  deriving DecidableEq, Repr

/-- The supplies of R369, in the order of `HKC_RAIL` (R269). -/
inductive Rail where
  | vcore | vio | vana | vhtr | vneg | vddq | vserdes
  deriving DecidableEq, Repr

/-- The 314 switchable power domains of R15. -/
inductive Domain where
  | cluster (c : Fin 256)
  | spare (r : Fin 16)
  | island (r : Fin 16)
  | core (i : Fin 4)
  | sram (b : Fin 8)
  | net (p : Fin 2)
  | pcie (h : Fin 4)
  | ddr (c : Fin 2)
  | hkc
  | recorder
  | dma
  | solver
  | periph
  | braid
  deriving DecidableEq, Repr

/-- One monitor input as the SAR would convert it: `code` may lie above 4,095, and `sat` gives, where the comparator at the TIA's
output has seen it saturated since the capture before, how many ns before this capture it last was (R121). -/
structure RawInput where
  code : Nat := 64
  sat : Option Nat := none
  deriving DecidableEq, Repr

/-- What the loop engine's own checks found in a period (R93). -/
inductive EngineCheck where
  /-- residues, parity and ECC all clean -/
  | clean
  /-- the state memory corrected `n` errors -/
  | corrected (n : Nat)
  /-- a residue or parity mismatch -/
  | residue
  /-- an uncorrectable state-memory error -/
  | eccUe
  deriving DecidableEq, Repr

/-- What the F driver saw at one cell's pad in a computed period (R113): the pad current exceeded 50 µA, or the
pad reached its compliance limit. -/
structure PadSense where
  cell : Fin 32
  overCurrent : Bool := false
  compliance : Bool := false
  deriving DecidableEq, Repr

/-- One change of a plan (R134, plan change entry of R216). `reserved` is the reserved byte. -/
structure PlanChange where
  kind : Nat
  port : Nat := 0
  port2 : Nat := 0
  ratio : Nat := 0
  reserved : Nat := 0
  deriving DecidableEq, Repr

/-- The head of a mailbox command (R210). `badByte` is the offset of the first non-zero reserved byte, if any. -/
structure Hdr where
  port : Fin 4
  tag : Word := 0
  flags : Nat := 0
  badByte : Option Nat := none
  deriving DecidableEq, Repr

/-- A command entry as it stands in a BAR0 ring (R210). -/
structure RawCmd where
  code : Nat
  flags : Nat := 0
  tag : Word := 0
  params : List Byte := []
  deriving DecidableEq, Repr

/-- One step of a TABLE route (R42). -/
structure RouteStep where
  cell : Nat
  state : Nat
  arm : Nat
  deriving DecidableEq, Repr

/-- A route record of a TABLE instance (R42). -/
structure Route where
  inp : Nat
  out : Nat
  pref : Nat := 0
  steps : List RouteStep := []
  deriving DecidableEq, Repr

/-- An instance descriptor of FABM (R39) with its route table (R42). -/
structure InstDesc where
  topo : Nat
  log2n : Nat := 0
  n : Nat
  inBase : Nat
  outBase : Nat
  logicalCount : Nat
  gateCount : Nat := 0
  trimCount : Nat := 0
  routeCount : Nat := 0
  tableOffset : Nat := 0
  tableLength : Nat := 0
  routes : List Route := []
  deriving DecidableEq, Repr

/-- A cell entry of FABM (R40) for physical cell `n`; a cell without an entry here is UNUSED. -/
structure CellEntry where
  n : Nat
  role : Nat
  inst : Nat := 0xFF
  logical : Nat := 0xFFFF
  cls : Nat := 0
  flags : Nat := 0
  deriving DecidableEq, Repr

/-- A port-end entry of FABM (R41) for port end `id`; a port end without an entry here is not used. -/
structure PortEntry where
  id : Nat
  tap : Nat := 0xFFFF
  dir : Nat := 0
  inst : Nat := 0xFF
  gate : Nat := 0xFFFF
  trim : Nat := 0xFFFF
  deriving DecidableEq, Repr

/-- The FABM body (R38). `bodyLength` is BODY_LENGTH, which R46 does not check. `badReserved` is the body offset of the first non-zero reserved byte, `tableCrc` the CRC-32C of its
CELL table (R329). -/
structure Fabm where
  format : Nat := 1
  instCount : Nat := 0
  bodyLength : Nat := 0x12100
  picId : Nat := 0
  picRev : Nat := 0
  insts : List InstDesc := []
  cells : List CellEntry := []
  ports : List PortEntry := []
  tableCrc : Word := 0
  badReserved : Option Nat := none
  deriving DecidableEq, Repr

/-- A PART record (R43). -/
structure PartRec where
  inst : Nat
  owner : Nat
  policy : Nat := 0
  flags : Nat := 0
  tag : Word := 0
  maxCircuits : Nat := 0
  deriving DecidableEq, Repr

/-- The PART body (R43). -/
structure Part where
  format : Nat := 1
  instCount : Nat := 0
  recs : List PartRec := []
  badReserved : Option Nat := none
  deriving DecidableEq, Repr

/-- A loop-class record (R45) with the defaults of R69 and R102. -/
structure ClassRec where
  fMode : Nat := 1
  fRange : Nat := 2
  hMode : Nat := 0
  hRange : Nat := 2
  tiaRange : Nat := 1
  hDiv : Nat := 8
  kpF : Nat := 0x0400
  kiF : Nat := 0x0400
  kpH : Nat := 0
  kiH : Nat := 0x4000
  rampRate : Nat := 64
  downRate : Nat := 64
  cellCap : Nat := 32000
  pilotAmp : Nat := 128
  pilotWin : Nat := 32
  fAuth : Nat := 0x7000
  darkLevel : Nat := 24
  stuckK : Nat := 256
  retireN : Nat := 5000
  deriving DecidableEq, Repr

/-- The LOOP body (R44): one period code per cluster and up to 16 classes. -/
structure LoopSec where
  format : Nat := 1
  classCount : Nat := 1
  periods : List Nat := []
  classes : List ClassRec := [{}]
  badReserved : Option Nat := none
  deriving DecidableEq, Repr

/-- A channel entry of EVTR (R241). -/
structure EvtrCh where
  owner : Nat := 4
  en : Bool := false
  sec : Bool := true
  src : Nat := 0
  reMax : Nat := 8
  reWin : Nat := 1000
  holdoff : Nat := 16
  deriving DecidableEq, Repr

/-- A consumer entry of EVTR (R241): the four bytes of `EVT_CON_SEL`, valid bit and channel, then F2, ACTION and WIDTH. -/
structure EvtrCon where
  sel : List Nat := [0, 0, 0, 0]
  f2 : Bool := false
  action : Nat := 0
  width : Nat := 0
  deriving DecidableEq, Repr

/-- The EVTR body (R241). Channels and consumers are listed in ascending number; missing ones take the defaults. -/
structure Evtr where
  format : Nat := 1
  groupEn : Nat := 0
  gpioDir : Nat := 0
  gpioInit : Nat := 0
  gpioEdge : Nat := 0
  gpioOwner : List Nat := []
  chans : List EvtrCh := []
  cons : List EvtrCon := []
  badReserved : Option Nat := none
  deriving DecidableEq, Repr

/-- A threshold triple as the THRM section gives it (R301), Q8.8 °C. -/
structure Limits where
  warnSet : Int
  warnClr : Int
  thrSet : Int
  thrClr : Int
  shutSet : Int
  shutClr : Int
  deriving DecidableEq, Repr

/-- The THRM body (R301) with the defaults of R284 and R289. -/
structure Thrm where
  format : Nat := 1
  roundMs : Nat := 10
  persist : Nat := 2
  die : Limits := ⟨0x6400, 0x5F00, 0x6C00, 0x6700, 0x7600, 0x6C00⟩
  anc : Limits := ⟨0x5000, 0x4D00, 0x5A00, 0x5600, 0x6900, 0x5F00⟩
  skipN : Nat := 4
  recHz : Nat := 4
  derStart : Nat := 32000
  derFloor : Nat := 4000
  iLim : Nat := 36000
  delta : List Int := []
  pLim : Nat := 110000
  badReserved : Option Nat := none
  deriving DecidableEq, Repr

/-- One entry of a converter sequence (`HKC_SEQ`, R273, R282). -/
structure SeqEntry where
  probeD : Nat := 0
  samples : Nat := 0
  gain : Nat := 0
  input : Nat := 0
  deriving DecidableEq, Repr

/-- Settings of a user converter core in HKCV (R281). -/
structure CoreCfg where
  sigmaDelta : Bool := false
  mains60 : Bool := false
  trig : Nat := 0
  rate : Nat := 0
  diag : Bool := false
  len : Nat := 1
  thresh : Nat := 16
  seq : List SeqEntry := []
  deriving DecidableEq, Repr

/-- The HKCV body (R281). Resistances in mΩ; `rtd` gives R0 and GAIN of each anchor. -/
structure Hkcv where
  format : Nat := 1
  core1 : CoreCfg := {}
  core2 : CoreCfg := {}
  oscPair : Nat := 0xFF
  vrefOutEn : Bool := false
  oscBeta : Nat := 3435
  oscR25 : Nat := 10000000
  oscRfix : Nat := 10000000
  rtd : List (Nat × Nat) := []
  badReserved : Option Nat := none
  deriving DecidableEq, Repr

/-- The DMAP body (R344); region sizes LOG, SKIM, CAP in MiB. -/
structure Dmap where
  format : Nat := 1
  capEn : Bool := false
  skimHz : Nat := 16
  capCount : Nat := 0
  regions : List (Nat × Nat × Nat) := []
  capCells : List Nat := []
  badReserved : Option Nat := none
  deriving DecidableEq, Repr

/-- The HOST body (R319). -/
structure HostSec where
  format : Nat := 1
  steward : Nat := 0
  qos : List Nat := [6, 6, 6, 6]
  subsysVid : Nat := 0
  subsysId : List Nat := [0, 0, 0, 0]
  badReserved : Option Nat := none
  deriving DecidableEq, Repr

/-- The IDNT body (R319). `ownerKeyHash` is the SHA-384 value it carries, its bytes read big-endian (log 172). -/
structure Idnt where
  format : Nat := 1
  sealReq : Bool := false
  wdtReset : Bool := false
  integrator : Nat := 0
  /-- PRODUCT, 24 ASCII characters -/
  product : List Byte := []
  ownerKeyHash : Nat := 0
  badReserved : Option Nat := none
  deriving DecidableEq, Repr

/-- One channel of the DRAM body (R319). -/
structure DramCh where
  fitted : Bool := true
  sizeGib : Nat := 64
  ranks : Nat := 1
  width : Nat := 8
  rate : Nat := 6400
  /-- TIMING, 24 bytes of device timing parameters to JESD79-5 -/
  timing : List Byte := []
  deriving DecidableEq, Repr

/-- The ATLS body (R319). -/
structure Atls where
  format : Nat := 1
  calResume : Bool := false
  steps : Nat := 256
  settleUs : Nat := 200
  accept : Nat := 1174
  maxRetire : Nat := 0
  badReserved : Option Nat := none
  deriving DecidableEq, Repr

/-- The TIME body (R319). `seed` lists the seed bins, `none` for 0x8000_0000. -/
structure TimeSec where
  format : Nat := 1
  ref : Nat := 2
  source : Nat := 0
  profile : Nat := 1
  domain : Nat := 24
  learn : Bool := false
  synt : Bool := false
  efc : Bool := false
  stepEn : Bool := false
  freeOut : Bool := false
  dPps : Int := 0
  ppsOfs : Int := 0
  classLimit : Nat := 0
  hoSec : Nat := 28800
  efcCentre : Nat := 0x800000
  efcGain : Nat := 0
  kp : Word := 0x00640000
  ki : Word := 0x00002800
  lockThr : Nat := 100
  stepThr : Nat := 100000
  seed : List (Option Int) := []
  badReserved : Option Nat := none
  deriving DecidableEq, Repr

/-- The NETC body (R319). -/
structure Netc where
  format : Nat := 1
  aFitted : Bool := false
  bFitted : Bool := false
  primaryB : Bool := false
  aSlow : Bool := false
  bSlow : Bool := false
  foCfg : Word := 0x001E0A00
  mac : Nat := 0
  /-- the VLAN tag: PCP and VID, 0 for none -/
  pcp : Nat := 0
  vid : Nat := 0
  clockId : Nat := 0
  ipv4 : Nat := 0
  prefixLen : Nat := 0
  ipv6 : Nat := 0
  /-- unicast master addresses, up to three -/
  masters : List Nat := []
  latIn : List Int := []
  latOut : List Int := []
  badReserved : Option Nat := none
  deriving DecidableEq, Repr

/-- The SIGN body (R319): KEY of 97 bytes and SIG of 96. -/
structure Sign where
  key : List Byte := []
  sig : List Byte := []
  badReserved : Option Nat := none
  deriving DecidableEq, Repr

/-- The fields of a Korkistan image's sections, as firmware reads them from its bytes (R318, R319; `readImage`). `headFormat` and
`headReserved` are HEAD's. -/
structure Image where
  headFormat : Nat := 1
  headReserved : Option Nat := none
  idnt : Idnt := {}
  dramFormat : Nat := 1
  dram : List DramCh := [{}, {}]
  dramReserved : Option Nat := none
  fabm : Fabm := {}
  part : Part := {}
  loop : LoopSec := {}
  atls : Atls := {}
  time : TimeSec := {}
  netc : Netc := {}
  evtr : Evtr := {}
  dmap : Dmap := {}
  thrm : Thrm := {}
  hkcv : Hkcv := {}
  host : HostSec := {}
  sign : Sign := {}
  deriving DecidableEq, Repr

/-- One image slot of the flash (R318, R325): its bytes from offset 0 on, and its ACT word (R328). A byte past those given is erased
and reads 0xFF. -/
structure ImageSlot where
  bytes : List Byte := []
  act : Word := 0xFFFFFFFF
  deriving DecidableEq, Repr

/-- Dark constants of a tap (R122, R329): D_ref Q12.4, β Q4.12, G Q2.14. -/
structure TapCal where
  dRef : Nat := 1024
  beta : Int := 0
  gain : Nat := 0x4000
  deriving DecidableEq, Repr

/-- An atlas cell record (R329). `role` is the cell's role when it was calibrated (R330). -/
structure AtlasCell where
  pB : Nat := 0
  alphaB : Int := 0
  p2pi : Nat := 25000
  pPark : Nat := 0
  alphaPark : Int := 0
  tauH : Nat := 200
  rH : Nat := 9600
  sFNeg : Bool := false
  accepted : Bool := true
  role : Nat := 1
  /-- greatest error of the predicted feedforward phase over [T_lo, T_hi] that a sweep found, phase units: no field of the record,
  but what its acceptance rests on (R68) -/
  ffErr : Nat := 0
  tLo : Int := -10240
  tHi : Int := 28160
  fCurve : List Int := []
  tapB : TapCal := {}
  tapX : TapCal := {}
  deriving DecidableEq, Repr

/-- A retirement-list entry (R86). -/
structure RetireEntry where
  unit : Nat
  kind : Nat
  reason : Nat
  taiS : Nat := 0
  crc : Word := 0
  deriving DecidableEq, Repr

/-- An atlas slot (R329): the header's fields, and the records by their fields; a record not listed is not written.
`ptaps` gives D_ref and β of each port tap's four ranges. -/
structure AtlasSlot where
  /-- the header is programmed: not so between the erasing of the slot and the commit (R331) -/
  headed : Bool := true
  magic : Word := 0x534C5441
  format : Nat := 1
  generation : Word := 1
  picId : Nat := 0
  picRev : Nat := 0
  tRef : Int := 0
  cellsCrc : Word := 0
  bodyCrc : Word := 0
  taiS : Nat := 0
  hdrCrc : Word := 0
  cells : List (Nat × AtlasCell) := []
  ptaps : List (Nat × List (Nat × Int)) := []
  retire : List RetireEntry := []
  deriving DecidableEq, Repr

/-- A calibration-journal entry (R331). -/
structure JournalEntry where
  gen : Word
  kind : Nat
  slot : Nat
  unit : Nat := 0
  blockCrc : Word := 0
  taiS : Nat := 0
  crc : Word := 0
  deriving DecidableEq, Repr

/-- A record the device writes to the flash, or queues (R331, R333, R334). Contents are the bytes of its table. -/
inductive NvmRecord where
  | retire (e : RetireEntry)
  | coef (x : Nat) (c0 : Int) (g : Nat)
  | shutdown (bytes : List Byte)
  | eraseAtlas (slot : Nat)
  | cells (slot : Nat) (recs : List (Nat × AtlasCell))
  | ports (slot : Nat) (recs : List (Nat × List (Nat × Int)))
  | list (slot : Nat) (l : List RetireEntry)
  | header (slot : Nat) (a : AtlasSlot)
  | atlas (slot : Nat) (a : AtlasSlot)
  | journal (e : JournalEntry)
  deriving DecidableEq, Repr

/-- A copy of the learned frequency table in the record area (R183, R325): y and n per valid bin. `seq` tells which of the two copies,
written alternately, is the later (log 174). -/
structure FreqCopy where
  seq : Nat
  bins : List (Nat × Int × Nat)
  crc : Word := 0
  deriving DecidableEq, Repr

/-- A coefficient's entry of the record area (R279). -/
structure CoefEntry where
  x : Nat
  c0 : Int
  g : Nat
  crc : Word := 0
  deriving DecidableEq, Repr

/-- A copy of the converter coefficients in the record area (R279, R325, log 174). -/
structure CoefCopy where
  seq : Nat
  entries : List CoefEntry
  deriving DecidableEq, Repr

/-- The flash (R325): its JEDEC identification and JESD216 parameters (R333), and what its areas hold. An erased slot is `none`. -/
structure Flash where
  jedec : Nat := 1
  /-- the parameter table, which begins with the signature "SFDP" (log 175) -/
  sfdp : List Byte := [0x53, 0x46, 0x44, 0x50]
  slotA : Option ImageSlot := none
  slotB : Option ImageSlot := none
  atlasA : Option AtlasSlot := none
  atlasB : Option AtlasSlot := none
  /-- the newer journal sector, the older one, and which of the two sectors is the newer (R331) -/
  journal : List JournalEntry := []
  journalOld : List JournalEntry := []
  jSector : Nat := 0
  /-- the two copies of each of the record area's contents -/
  freqs : List (Option FreqCopy) := [none, none]
  coefs : List (Option CoefCopy) := [none, none]
  /-- the shutdown records and tail capsules by their places, and the place of the next (R325) -/
  shutdowns : List (List Byte) := []
  shutNext : Nat := 0
  capsules : List (List Byte) := []
  capNext : Nat := 0
  deriving DecidableEq, Repr

/-- What answers a periodic flash test (R333), and whether it goes on to answer until the next. -/
inductive FlashFound where
  /-- nothing with a valid parameter signature -/
  | absent
  /-- the flash as firmware left it -/
  | held (answers : Bool)
  /-- a flash with these contents -/
  | other (f : Flash) (answers : Bool)
  deriving DecidableEq, Repr

/-- What the fill and compare of SRAM find, and the check of the on-die ROM (R307, R336). -/
structure WipeEnd where
  sram : Bool
  rom : Bool
  deriving DecidableEq, Repr

/-- A calibration sweep's progress (R315): what it measured, and how far it has come. Clusters below `upTo` are measured, from 257 on the
port-end taps too, from 258 on all of it (log 176). -/
structure SweepReport where
  measured : AtlasSlot
  upTo : Nat
  deriving DecidableEq, Repr

/-- A digital die sensor's report in a round (R285): no reading at all is `present := false`. -/
structure DieReading where
  present : Bool := true
  fault : Bool := false
  t : Int := 0
  deriving DecidableEq, Repr

/-- What a core 0 slot measured (R269): the raw code and overload; for slots 18 to 25 also the value `val` that their diode or
divider makes of it, in its register's unit; for census slots the held integrals ⟨V⟩ in µV and ⟨I⟩ in nA; `die` carries the digital die sensors read at
the end of the round. -/
structure SlotReading where
  raw : Int := 0
  ovr : Bool := false
  val : Int := 0
  vUv : Nat := 0
  iNa : Nat := 0
  die : List DieReading := []
  deriving DecidableEq, Repr

/-- What a braid request asks for. -/
inductive BraidOp where
  | read (len : Nat)
  | write (bytes : List Byte)
  deriving DecidableEq, Repr

/-- A request arriving at a braid target port (R243, R245). `qos` matters for M5 alone, whose QoS is per
instruction; `sec` likewise (R243). -/
structure BraidReq where
  master : Master
  addr : Nat
  op : BraidOp
  qos : Nat := 0
  sec : Bool := true
  deriving DecidableEq, Repr

/-- Atomic operations (R249). -/
inductive AtomicKind where
  | swap | compareSwap | add | and | or | xor
  deriving DecidableEq, Repr

/-- What a PTP frame shows of R188's table besides its message: the domain, the transport (UDP or Ethernet) and the VID of
its tag, 0 for none. -/
structure PtpFrame where
  domain : Nat := 24
  udp : Bool := false
  vid : Nat := 0
  deriving DecidableEq, Repr

/-- An Announce message as received (R188): the master and what the master selection compares; the address it comes from
under UDP. -/
structure Announce where
  master : Nat
  clockClass : Nat := 6
  accuracy : Nat := 0x21
  variance : Nat := 0
  priority2 : Nat := 128
  localPriority : Nat := 128
  identity : Nat := 0
  steps : Nat := 0
  domain : Nat := 24
  udp : Bool := false
  vid : Nat := 0
  addr : Nat := 0
  annRate : Nat := 8
  syncRate : Nat := 16
  delayRate : Nat := 16
  deriving DecidableEq, Repr

/-- Rates of a host port's link, in GT/s (R204). -/
inductive LinkRate where
  | gt16 | gt8 | gt5 | gt2p5
  deriving DecidableEq, Repr

/-- The read pairs of R363. -/
inductive Pair where
  | timeWns
  | timeTos
  | timeCap (i : Fin 8)
  | netFo
  | mtxErr
  | dmaErr
  | dmaMism (n : Fin 32)
  | dmaBase (n : Fin 32)
  | dmaSrc (n : Fin 16)
  | dmaDst (n : Fin 16)
  | recWptr (i : Fin 4) (k : Fin 3)
  deriving DecidableEq, Repr

/-- Writers of event-channel registers (R230): firmware through the braid, or a host through its window. -/
inductive Writer where
  | firmware (secure : Bool)
  | host (h : Fin 4)
  deriving DecidableEq, Repr

/-- Triggers of a failover (R196). -/
inductive FailCause where
  | link | firmware | event
  deriving DecidableEq, Repr

/-- The commands: one constructor per row of spec/opcode_table.json. -/
inductive Instr where
  /-- POWER_ON_RESET (R303). VCORE or VIO falls below its reset threshold; the time base restarts, the SAFE latch clears and the device resets. -/
  | powerOnReset
  /-- RESET_N_RESET (R370). RESET_N is held low for at least 1 µs and causes a device reset that keeps the SAFE latch. -/
  | resetNReset (lowNs : Nat)
  /-- SUPPLY_LOSS (R371). A supply is lost abruptly; every pad parks passively and the heaters stop without a ramp. -/
  | supplyLoss (rail : Rail)
  /-- DEVICE_RESET_RAMP_DONE (R304). The reset heater ramp ends; pads park, circuits and epochs are discarded, domains switch off and CHURN is entered. -/
  | deviceResetRampDone
  /-- LCS_SRESET_WRITE (R337). A write of LCS_SRESET requests a steward reset, which is performed only with the correct KEY and either no circuit established or FORCE set. -/
  | lcsSresetWrite (m : Master) (v : Word)
  /-- LCS_LC_REQ_WRITE (R324). A write of key 0x3E0D to LCS_LC_REQ with LCSTRAP high erases the NVM and moves the device to END. -/
  | lcsLcReqWrite (m : Master) (v : Word)
  /-- MAKER_AUTHORISATION (R324). Maker authorisation presented over JTAG with LCSTRAP high erases the NVM and enters RETURNED. -/
  | makerAuthorisation
  /-- PLL_LOCK (R161). The PLL locks to REFCLK_IN and the counters start at the next tick. -/
  | pllLock (freq : Fin 4)
  /-- REF_ABSENT_START (R308). With no reference detected by L + 20 ms, the counters start from the internal oscillator in FREERUN with REF_LOST set. -/
  | refAbsentStart
  /-- SRAM_WIPE_DONE (R307). The SRAM fill and compare finish; on success LOAD begins, and on failure start-up halts. -/
  | sramWipeDone (ok : WipeEnd)
  /-- LOAD_IMAGE_CHECK (R321). The image copy completes and firmware checks slots in order, choosing the newer valid slot. -/
  | loadImageCheck (flash : Option Flash)
  /-- HALT_UART_REPORT (R309). Once per second during a halt, firmware writes the boot status to the UART. -/
  | haltUartReport
  /-- DDR_TRAINING_DONE (R307). DDR channel training ends; a failed channel is marked failed and the wipe starts on each good channel. -/
  | ddrTrainingDone (ch : Fin 2) (ok : Bool)
  /-- DRAM_WIPE_DONE (R307). The DRAM fill and compare of a channel complete, and a channel that fails is marked failed. -/
  | dramWipeDone (ch : Fin 2) (ok : Bool)
  /-- LOAD_END (R306). LOAD ends: EVTR is applied, READY is set, and the device enters SAFE, CALIBRATE or SERVICE. -/
  | loadEnd
  /-- POWER_DOMAIN_REQUEST (R16). Firmware requests a power-domain switch, which the power controller refuses if it violates a dependency. -/
  | powerDomainRequest (d : Domain) (on : Bool)
  /-- POWER_DOMAIN_UP (R17). A switchable domain completes power-up within 100 µs of the request. -/
  | powerDomainUp (d : Domain) (sarCal : List (List Nat))
  /-- CLUSTER_ROW_POWER_UP (R306). The next tile row of clusters is powered, 100 µs after the previous one, on entry to SERVICE or on leaving DARK. -/
  | clusterRowPowerUp (sarCal : List (List (List Nat)))
  /-- CLUSTER_BOUNDARY (R11). At each sample boundary a cluster captures its inputs, delivers the previous codes to the engine and applies the new outputs. -/
  | clusterBoundary (c : Fin 256) (inputs : List RawInput) (sarCodes : List Nat)
  /-- LOOP_PERIOD_DONE (R50). The loop engine completes a period's work for 32 cells and then evaluates the loop-state transitions. -/
  | loopPeriodDone (c : Fin 256) (chk : EngineCheck) (slack : Nat) (pads : List PadSense)
  /-- H_PATH_UPDATE (R58). Every M computed periods, the H path moves a share of φ̄ into h_trim without a bump. -/
  | hPathUpdate (n : Fin 8192)
  /-- HONLY_DITHER_FLIP (R83). Every W periods, a heater-only cell reverses its square dither and, after each pair of halves, updates h_trim. -/
  | honlyDitherFlip (n : Fin 8192)
  /-- DARK_DETECT (R78). Eight consecutive samples below DARK_LEVEL put the cell in DARK, with LOOP_DARK raised. -/
  | darkDetect (n : Fin 8192)
  /-- LIT_DETECT (R78). Four consecutive samples at or above twice DARK_LEVEL return a DARK cell to HITCH or TRACK. -/
  | litDetect (n : Fin 8192)
  /-- FROZEN_CODE_RUN (R79). A tap repeating its raw value for STUCK_K samples sets STUCK_CODE, and the cell enters STUCK. -/
  | frozenCodeRun (n : Fin 8192)
  /-- STUCK_RETEST_END (R76). At the end of the STUCK_K retest samples, the cell returns to its prior state or enters HOLD (FAULT). -/
  | stuckRetestEnd (n : Fin 8192)
  /-- HOLD_RECOVERY (R76). After 1,024 samples with live taps, a HOLD (FAULT) cell recovers to HITCH or TRACK and STUCK_EPIS increments. -/
  | holdRecovery (n : Fin 8192)
  /-- PEND_RETIRE_TIMEOUT (R76). A fault that persists in HOLD for RETIRE_N ms sets PEND_RETIRE. -/
  | pendRetireTimeout (n : Fin 8192)
  /-- ENGINE_LIVENESS_FAIL (R94). Eight consecutive misses while the row has slack fail the engine for liveness. -/
  | engineLivenessFail (c : Fin 256)
  /-- ENGINE_CHECKPOINT (R95). Every 64 computed periods, an engine writes a checkpoint of its 32 cells to its drive island. -/
  | engineCheckpoint (c : Fin 256)
  /-- F_PAD_FAULT (R113). F_LEAK or F_OPEN that persists for 16 computed periods sets F_PAD_FAULT. -/
  | fPadFault (n : Fin 8192)
  /-- DARK_TRIM_UPDATE (R123). After every 1,024 samples in DARK, the front end moves each tap's δ by one code toward the mean. -/
  | darkTrimUpdate (n : Fin 8192)
  /-- PTAP_RANGE_STEP (R124). An auto-ranging port-end tap steps its range up or down and applies a break to that tap. -/
  | ptapRangeStep (c : Fin 256) (t : Fin 4)
  /-- HEATER_OC_TRIP (R110). Heater current above 45 mA switches the pad to k = 0 for the period, sets H_OC and, after four trips, parks the pad. -/
  | heaterOcTrip (n : Fin 8192)
  /-- PADCFG_APPLY (R114). A write of CLU_CELL_PADCFG with APPLY set starts a range or mode change at the next eligible boundary. -/
  | padcfgApply (n : Fin 8192) (v : Word)
  /-- RANGE_BREAK_END (R114). The 2 µs break ends and the drivers reconnect in the new configuration at code 0x0000. -/
  | rangeBreakEnd (n : Fin 8192)
  /-- SPARE_POWERED (R96). The spare engine's domain finishes powering and the spare starts loading its data. -/
  | sparePowered (r : Fin 16)
  /-- SPARE_LOADED (R96). The spare finishes loading the class records, atlas values and checkpoint, and starts its residue self-test. -/
  | spareLoaded (r : Fin 16)
  /-- SPARE_SELFTEST_DONE (R96). The spare's self-test ends; on a pass the buses switch to it, and on a failure the cells go to HOLD (NO_ENGINE). -/
  | spareSelftestDone (r : Fin 16) (ok : Bool)
  /-- CLUSTER_POWER_DOWN (R100). Firmware requests a cluster power-down, and every driven heater ramps to zero at DOWN_RATE. -/
  | clusterPowerDown (c : Fin 256)
  /-- RETIRE_LIST_APPEND (R86). Firmware appends a retirement-list entry for a retired cell, a heater-only cell or a failed engine. -/
  | retireListAppend (kind : Nat) (unit : Nat)
  /-- ISLAND_INTERVAL (R116). At the end of each 16 µs interval, a drive island measures VHTR and its current and updates κ. -/
  | islandInterval (r : Fin 16) (vhtrMv : Nat) (measMa : Nat)
  /-- ISENSE_FAULT (R116). An implausible current ratio in 64 consecutive judged intervals sets ISENSE_FAULT and freezes κ. -/
  | isenseFault (r : Fin 16)
  /-- BUDGET_INTERVAL (R62). At the end of each 16 µs interval, the thermal sequencer computes the grants and writes each cluster's allowance. -/
  | budgetInterval
  /-- CONNECT (R134). The owner requests a circuit between an IN and an OUT port end as a plan of one change. -/
  | connect (h : Hdr) (inst : Nat) (inp : Nat) (out : Nat) (time : MailTime)
  /-- DISCONNECT (R134). The owner releases the circuit on a port end as a plan of one change. -/
  | disconnect (h : Hdr) (inst : Nat) (port : Nat) (time : MailTime)
  /-- PLAN_OPEN (R135). The owner opens a plan on an instance, which takes a pending place and an epoch number. -/
  | planOpen (h : Hdr) (inst : Nat)
  /-- PLAN_ADD (R134). The owner adds up to 14 checked changes to an open plan. -/
  | planAdd (h : Hdr) (epoch : Nat) (changes : List PlanChange)
  /-- PLAN_COMMIT (R134). The owner commits a plan at an instant, at the earliest instant or on an event, after the whole-plan checks. -/
  | planCommit (h : Hdr) (epoch : Nat) (channel : Nat) (time : MailTime)
  /-- PLAN_ABORT (R153). The owner ends a pending or armed epoch before its seal, and later epochs of the instance are re-solved. -/
  | planAbort (h : Hdr) (epoch : Nat)
  /-- SOLVER_TAKE_ITEM (R136). The solver takes the next queued item, round robin over hosts. -/
  | solverTakeItem
  /-- SOLVE_DONE (R137). A solve finishes, the policy is applied and the tagged NEXT shadows are written in three passes. -/
  | solveDone
  /-- COMMIT_AT_LOAD (R146). Once B lies within 2 s ahead, firmware loads FAB_COMMIT_AT for the pending epoch. -/
  | commitAtLoad (slot : Fin 8)
  /-- EPOCH_SEAL (R150). At S = B − 2P_E the epoch is sealed and every cluster stages its tagged targets. -/
  | epochSeal (slot : Fin 8)
  /-- EPOCH_COMMIT (R152). At B the staged targets become live, hand-overs begin and EPOCH_COMMITTED is raised. -/
  | epochCommit
  /-- EPOCH_EXPIRE (R155). An epoch with cells still unfinished 1 s after B closes EXPIRED. -/
  | epochExpire (slot : Fin 8)
  /-- EPOCH_REPORT_WRITE (R160). Firmware writes the report of a CLOSED slot to the epoch log, posts it to the owner and frees the slot. -/
  | epochReportWrite (slot : Fin 8)
  /-- FAB_EP_CTRL_WRITE (R160). Firmware writes an epoch slot's STATE, and only the allowed transitions take effect. -/
  | fabEpCtrlWrite (slot : Fin 8) (v : Word)
  /-- ALLOW_RETIRE_MOVE (R139). Under ALLOW, firmware moves circuits off SWITCH cells in PEND_RETIRE, retrying after later commits. -/
  | allowRetireMove (inst : Fin 4)
  /-- QUERY_PORT (R216). Any host reads the state of a range of port ends into host memory. -/
  | queryPort (h : Hdr) (first : Nat) (count : Nat) (outAddr : Nat) (outLen : Nat) (busOk : Bool)
  /-- QUERY_CELL (R216). The owner reads a cell's live registers. -/
  | queryCell (h : Hdr) (cell : Nat)
  /-- HEALTH (R217). A host reads the health header and its entries into host memory. -/
  | health (h : Hdr) (outAddr : Nat) (outLen : Nat) (busOk : Bool)
  /-- TIME_GET (R216). A host reads the current time and servo status. -/
  | timeGet (h : Hdr)
  /-- EVENT_BIND (R230). The owner writes a channel's source, vector and enable in one write. -/
  | eventBind (h : Hdr) (channel : Nat) (vector : Nat) (source : Nat) (enable : Nat)
  /-- REC_MARK (R348). The owner writes a MARK record to the logs of its instances. -/
  | recMark (h : Hdr) (inst : Nat) (value : Word)
  /-- REC_FREEZE (R348). The steward freezes or releases the recorder's Skim and capture rings. -/
  | recFreeze (h : Hdr) (action : Nat)
  /-- REC_EXPORT (R349). The steward copies a byte range of a ring to host memory. -/
  | recExport (h : Hdr) (region : Nat) (src : Nat) (len : Nat) (outAddr : Nat)
  /-- MODE_SET (R312). The steward requests SERVICE, DARK or RESTART by an allowed mode transition. -/
  | modeSet (h : Hdr) (mode : Nat)
  /-- THERMAL_RESUME (R300). The steward asks to leave SAFE, which succeeds only when every sensor is healthy and cool. -/
  | thermalResume (h : Hdr)
  /-- CAL_REQUEST (R220). The steward asks for CALIBRATE, which is refused while any circuit is established. -/
  | calRequest (h : Hdr)
  /-- HKC_SYSCAL (R278). The steward runs a zero capture, a full-scale capture or a coefficient store step of system calibration. -/
  | hkcSyscal (h : Hdr) (core : Nat) (input : Nat) (stage : Nat) (fsUv : Int)
  /-- SYSCAL_CAPTURE_DONE (R278). A system-calibration capture completes and the core resumes its sequence with a new pass. -/
  | syscalCaptureDone (core : Fin 3) (raws : List Int) (ovr : Bool)
  /-- NET_FAILOVER (R197). The steward triggers a failover, which also clears STORM and is exempt from HOLDDOWN. -/
  | netFailover (h : Hdr)
  /-- IMAGE_STAGE (R327). The steward writes and verifies a new image into the slot that is not running. -/
  | imageStage (h : Hdr) (bytes : List Byte) (srcAddr : Nat) (len : Nat)
  /-- IMAGE_ACTIVATE (R220). The steward activates a staged image, with an optional grace release, and this ends in a steward reset. -/
  | imageActivate (h : Hdr) (graceMs : Nat)
  /-- RELEASE_GRACE_END (R220). The grace period ends; the ACT word is programmed and the steward reset is performed. -/
  | releaseGraceEnd
  /-- COMMAND_DOORBELL (R209). A host write of MBX_CMD_TAIL posts commands, and a tail that would overfill the ring is ignored. -/
  | commandDoorbell (p : Fin 4) (tail : Nat) (entries : List RawCmd)
  /-- COMMAND_TAKE (R210). Firmware takes a command once room, READY and the absence of PAUSED allow it. -/
  | commandTake (p : Fin 4)
  /-- COMPLETION_HEAD_WRITE (R207). A host write of MBX_CPL_HEAD consumes completions, and an index beyond the producer is ignored. -/
  | completionHeadWrite (p : Fin 4) (v : Nat)
  /-- NOTICE_HEAD_WRITE (R211). A host write of MBX_NTC_HEAD consumes notices and frees room in the ring. -/
  | noticeHeadWrite (p : Fin 4) (v : Nat)
  /-- MBX_ENABLE_WRITE (R211). A host write of MBX_CTRL.ENABLE allows notices to be posted from the backlog. -/
  | mbxEnableWrite (p : Fin 4) (v : Word)
  /-- NOTICE_POST (R211). Firmware posts the next backlogged notice when room exists, and a LOST notice covers any drops. -/
  | noticePost (p : Fin 4)
  /-- EVENT_DOORBELL (R207). A host write of MBX_EVT_DB raises HOST_DOORBELLh. -/
  | eventDoorbell (p : Fin 4)
  /-- MIRROR_REFRESH (R208). Firmware refreshes the status mirrors every 1 ms and at each change, bracketed by MIR_SEQ. -/
  | mirrorRefresh (p : Fin 4)
  /-- MSIX_HOLDOFF_END (R219). At the end of HOLDOFF, one message is sent for the postings made during the interval. -/
  | msixHoldoffEnd (p : Fin 4) (vector : Fin 2)
  /-- BAR4_WRITE (R213). A steward BAR4 write changes RWS fields only, and any other write is counted as denied. -/
  | bar4Write (p : Fin 4) (offset : Nat) (v : Word)
  /-- BAR2_READ (R214). A host reads its recorder view, and bytes outside its regions read zero and set B2_OUT. -/
  | bar2Read (p : Fin 4) (offset : Nat) (len : Nat)
  /-- PAIR_LOW_READ (R362). Reading the low word of a pair latches the high word into the reading master's shadow. -/
  | pairLowRead (m : Master) (pair : Pair)
  /-- HOST_PORT_RESET (R221). A port reset frees the pending and armed epochs of the host's instances, aborts its commands and disables its channels. -/
  | hostPortReset (p : Fin 4)
  /-- HOST_LINK_UP (R221). The port's link comes up again and is enumerated, and BAR0 becomes readable with ENABLE clear. -/
  | hostLinkUp (p : Fin 4) (rate : LinkRate)
  /-- INC_RELOAD (R163). Every 1,024 ticks, INC is reloaded from y, with the rounding residue carried forward. -/
  | incReload
  /-- NS_WRAP (R164). WNS carries out of bit 31; NS_WRAP is raised and ERA_STALE is set. -/
  | nsWrap
  /-- ERA_WRITE (R170). A write of TIME_ERA takes effect only as ERA + 1 while ERA_STALE is set, and otherwise sets ERA_WR_ERR. -/
  | eraWrite (v : Word)
  /-- ERA_AUTO_INCREMENT (R170). With ERA_STALE still set when WNS reaches 2³¹, the time base increments ERA itself. -/
  | eraAutoIncrement
  /-- TOP_OF_SECOND (R165). SPH wraps at the top of the second, and ERA and WNS are latched into TIME_TOS. -/
  | topOfSecond
  /-- TIME_STEP_WRITE (R167). A write of TIME_STEP requests a step, and one larger than 1 s is ignored with STEP_ERR set. -/
  | timeStepWrite (v : Word)
  /-- STEP_APPLY (R169). A pending step is applied once its conditions hold, and boundaries and compares are adjusted. -/
  | stepApply
  /-- TIME_LOAD (R168). TIME_CTRL.LOAD sets ERA, WNS and SPH while every FAB slot is FREE, and disarms every compare. `taiS` is
  the TAI second that firmware's new origin gives the loaded top of second (R166). -/
  | timeLoad (taiS : Nat)
  /-- COMPARE_ARM (R174). An ARM write arms a compare unit if its target is ahead, and otherwise sets ARM_ERR. -/
  | compareArm (i : Fin 8)
  /-- COMPARE_DISARM (R174). A DISARM write disarms a compare unit. -/
  | compareDisarm (i : Fin 8)
  /-- COMPARE_FIRE (R174). An armed unit reaches its target, raises TIME_CMPi and re-arms if PERIODIC is set. -/
  | compareFire (i : Fin 8)
  /-- CAPTURE_STAMP (R176). A capture source occurs; the unit stores the stamp, or sets OVR if a stamp is already held. -/
  | captureStamp (i : Fin 8) (origin : Option (Fin 128))
  /-- CAPTURE_SW_TRIGGER (R176). A write of the SW bit triggers a software capture. -/
  | captureSwTrigger (i : Fin 8)
  /-- CAPTURE_READ (R176). A firmware read of TIME_CAP_WNS clears FULL. -/
  | captureRead (i : Fin 8) (m : Master)
  /-- PPS_IN_RISE (R177). A rising edge on PPS_IN starts qualification, and its tick is noted for capture. -/
  | ppsInRise
  /-- PPS_IN_QUALIFIED (R177). A pulse held high for 100 ns qualifies, PPS_IN_EDGE is raised and the capture is stored. -/
  | ppsInQualified (highNs : Nat)
  /-- PPS_OUT_RISE (R178). PPS_OUT rises at its scheduled SPH offset when enabled and permitted. -/
  | ppsOutRise
  /-- PPS_OUT_FALL (R178). PPS_OUT falls WIDTH µs after it rose. -/
  | ppsOutFall
  /-- SERVO_UPDATE (R179). A write of θ to TIME_SRV_OFFSET runs one servo update, requesting a step or updating the PI. -/
  | servoUpdate (theta : Word)
  /-- SERVO_STATE_WRITE (R180). Firmware writes the servo state to FREERUN, ACQUIRE or HOLDOVER. -/
  | servoStateWrite (v : Word)
  /-- REFERENCE_LOSS (R162). No REFCLK_IN edge for 400 ns sets REF_LOST, holds the PLL and puts the servo in FREERUN. -/
  | referenceLoss
  /-- REFERENCE_RETURN (R162). The PLL re-acquires a returned reference without a phase step, and REF_LOST clears. -/
  | referenceReturn (freq : Fin 4)
  /-- FT_LEARN (R183). Every 16 s while LOCKED, firmware updates the frequency-temperature bins. -/
  | ftLearn
  /-- FT_BIN_COMMIT (R183). A write of TIME_FT_N commits a bin, and with IADJ set the integrator is adjusted in the same tick. -/
  | ftBinCommit (b : Fin 128) (v : Word)
  /-- FT_TABLE_SAVE (R183). Firmware saves the learned table to the NVM record area hourly and at shutdown. -/
  | ftTableSave
  /-- DRIFT_UPDATE (R184). Each hour, firmware fits the aging rate and writes TIME_DRIFT. -/
  | driftUpdate
  /-- HOLDOVER_SPEC_EXCEEDED (R184). TIME_HO_SEC passes the holdover duration and HO_SPEC is set. -/
  | holdoverSpecExceeded
  /-- ANNOUNCE_TIMEOUT (R181). Three announce intervals pass with no announce, so holdover is entered and a failover may be triggered. -/
  | announceTimeout
  /-- SYNT_GATE_END (R186). At the end of a 2²⁴-tick gate, the recovered-clock count is reported in TIME_SYNT_CNT. -/
  | syntGateEnd (count : Word)
  /-- EFC_UPDATE (R187). At 10 Hz in EFC mode, firmware writes the EFC code and the time base reloads INC for the residual. -/
  | efcUpdate
  /-- PTP_SYNC (R189). A Sync message is received and timestamped. -/
  | ptpSync (frame : PtpFrame) (master : Nat) (seq : Nat) (twoStep : Bool) (origin : MailTime) (corr : Int)
  /-- PTP_FOLLOW_UP (R189). A Follow_Up message is received and completes a two-step Sync. -/
  | ptpFollowUp (frame : PtpFrame) (master : Nat) (seq : Nat) (origin : MailTime) (corr : Int)
  /-- PTP_DELAY_REQ_SEND (R188). Firmware sends a Delay_Req at the profile's rate. -/
  | ptpDelayReqSend
  /-- PTP_DELAY_RESP (R189). A Delay_Resp is received and the offset of the completed pair is written to the servo. -/
  | ptpDelayResp (frame : PtpFrame) (master : Nat) (seq : Nat) (receipt : MailTime) (corr : Int)
  /-- PTP_ANNOUNCE (R188). An Announce message is received and the master selection is updated. -/
  | ptpAnnounce (msg : Announce)
  /-- ARP_ND_REQUEST (R193). An ARP request or neighbour solicitation for the device's own address is answered. -/
  | arpNdRequest (addr : Nat)
  /-- OTHER_FRAME_RX (R193). Any other received frame is dropped and counted. -/
  | otherFrameRx
  /-- CLEAT_WRITE (R195). A write of NETA_CLEAT sets TXEN bits under the interlock, and a write setting both is refused. -/
  | cleatWrite (v : Word)
  /-- CLEAT_BBM_RELEASE (R195). With the other TXDIS high for 50 µs, a waiting release drives TXDIS low. -/
  | cleatBbmRelease
  /-- LINK_CHANGE (R223). A port's link state changes and NET_LINK_A or NET_LINK_B is raised. -/
  | linkChange (port : Fin 2) (up : Bool) (hiBer : Bool)
  /-- LINK_LOSS_TRIGGER (R196). Link loss persisting for LINK_HOLD ms is a hardware failover trigger. -/
  | linkLossTrigger
  /-- FAILOVER_WRITE (R196). A firmware write of NETA_PATH.FAILOVER triggers a failover. -/
  | failoverWrite (v : Word)
  /-- FAILOVER_TRIGGER (R199). An accepted trigger switches ACTIVE, sets FAILING, raises TXDIS on the old path and raises NET_FAILOVER. -/
  | failoverTrigger (cause : FailCause)
  /-- NET_PATH_POWERED (R199). The new path's domain and SerDes come up and firmware sets its TXEN. -/
  | netPathPowered
  /-- FAILING_CLEAR (R199). Firmware clears FAILING at link-up on the new path, completing the failover. -/
  | failingClear
  /-- FAILOVER_TIMEOUT (R199). With no link by F + 1 s, firmware completes the failover anyway. -/
  | failoverTimeout
  /-- HOLDDOWN_EXPIRE (R197). HOLDDOWN expires and a standing link-loss trigger is evaluated again. -/
  | holddownExpire
  /-- STORM_CLEAR (R198). Firmware clears STORM by W1C. -/
  | stormClear
  /-- LINK_STABLE (R198). A link that stays up for 60 s on the active path clears STORM. -/
  | linkStable
  /-- SNAPSHOT_WRITE (R200). Firmware writes the older retention snapshot copy every 1 s or after a change. -/
  | snapshotWrite
  /-- CHANNEL_ACCEPT (R228). An occurrence reaches a channel and is discarded, held off or forwarded to its consumers. -/
  | channelAccept (ch : Fin 128) (origin : Option (Fin 128))
  /-- SOFTWARE_FIRE (R228). A write of EVT_CH_FIRE.SWFIRE injects an occurrence with no origin. -/
  | softwareFire (w : Writer) (ch : Fin 128)
  /-- CONSUMER_ARRIVE (R232). An arrival at a consumer acts, is held pending, is merged or is dropped. -/
  | consumerArrive (x : Fin 96) (sel : Fin 4) (origin : Fin 128) (merged : Nat)
  /-- CONSUMER_IDLE (R232). A consumer stops being busy and acts on its pending occurrence, if it has one. -/
  | consumerIdle (x : Fin 96)
  /-- GPIO_IN_EDGE (R226). An input pin holds a selected edge for 20 ns and GPIO_INn is raised. -/
  | gpioInEdge (pin : Fin 16) (level : Bool) (heldNs : Nat)
  /-- GPIO_PULSE_END (R227). A GPIO_OUT pulse ends after WIDTH × 64 ns and the pin returns to its resting level. -/
  | gpioPulseEnd (pin : Fin 16)
  /-- EVT_CH_CFG_WRITE (R230). A write of a channel's configuration, where clearing EN purges its pending select bits. -/
  | evtChCfgWrite (w : Writer) (ch : Fin 128) (v : Word)
  /-- TRIPPED_CLEAR (R230). The owner clears a channel's TRIPPED bit by W1C. -/
  | trippedClear (w : Writer) (ch : Fin 128)
  /-- BRAID_PIECE_GRANT (R245). A target port grants a piece to the waiting request with the highest effective priority. -/
  | braidPieceGrant (target : Fin 11) (arrivals : List BraidReq) (ecc : Bool)
  /-- ATOMIC_OP (R249). An atomic read-modify-write is performed indivisibly on an aligned SRAM or DRAM word. -/
  | atomicOp (m : Master) (addr : Nat) (size : Nat) (kind : AtomicKind) (operand : Nat) (compare : Nat) (ecc : Bool)
  /-- MASTER_RESET (R253). A master reset closes its port, removes waiting requests and truncates granted pieces. -/
  | masterReset (m : Master) (beats : Nat)
  /-- MASTER_PORT_REOPEN (R253). Once every granted piece of the master has completed, its port reopens. -/
  | masterPortReopen (m : Master)
  /-- MTX_ERR_REARM (R263). Clearing MTX_ERR_INFO.VALID re-arms the braid error log. -/
  | mtxErrRearm
  /-- DMA_START (R254). START or a DMA_STARTn arrival starts an enabled channel's program from PC_BASE. -/
  | dmaStart (n : Fin 32) (origin : Option (Fin 128))
  /-- DMA_DISABLE (R261). Clearing EN disables a running or waiting channel in flight and puts it in ABORTED. -/
  | dmaDisable (n : Fin 32)
  /-- DMA_NOP (R255). The NOP instruction does nothing. -/
  | dmaNop (n : Fin 32)
  /-- DMA_MOVE (R257). The MOVE instruction copies COUNT bytes through the holding register. -/
  | dmaMove (n : Fin 32) (cut : Option Nat)
  /-- DMA_FILL (R258). The FILL instruction writes PATTERN repeated over COUNT bytes. -/
  | dmaFill (n : Fin 32) (cut : Option Nat)
  /-- DMA_COMPARE (R258). The COMPARE instruction compares memory against a pattern or memory and counts mismatches. -/
  | dmaCompare (n : Fin 32) (cut : Option Nat)
  /-- DMA_GATHER (R255). The GATHER instruction gathers or scatters through a list of entries. -/
  | dmaGather (n : Fin 32) (cut : Option Nat)
  /-- DMA_LOOP (R256). The LOOP instruction opens a loop level with a count and a stride. -/
  | dmaLoop (n : Fin 32)
  /-- DMA_ENDLOOP (R256). The ENDLOOP instruction closes a loop level and repeats or exits it. -/
  | dmaEndloop (n : Fin 32)
  /-- DMA_WAIT (R258). The WAIT instruction waits for a DMA_STARTn arrival or a request line. -/
  | dmaWait (n : Fin 32)
  /-- DMA_WAIT_RESUME (R258). An arrival or request assertion resumes a waiting channel. -/
  | dmaWaitResume (n : Fin 32) (pins : List (BitVec 8))
  /-- DMA_WAIT_TIMEOUT (R258). A WAIT timeout expires and the channel ends in TIMEOUT. -/
  | dmaWaitTimeout (n : Fin 32)
  /-- DMA_SIGNAL (R258). The SIGNAL instruction raises DMA_DONEn and continues. -/
  | dmaSignal (n : Fin 32)
  /-- DMA_HALT (R255). The HALT instruction ends the channel in DONE and, with A set, raises DMA_DONEn. -/
  | dmaHalt (n : Fin 32)
  /-- DMA_PACED_BLOCK (R259). A paced block starts when its request line is asserted and then completes in full. -/
  | dmaPacedBlock (n : Fin 32) (pins : List (BitVec 8)) (cut : Option Nat)
  /-- DMA_ACCESS_ERROR (R262). A non-OK response to a DMA access stops the whole engine and raises DMA_ERROR. -/
  | dmaAccessError (n : Fin 32) (addr : Nat) (write : Bool) (resp : Fin 4) (fetching : List (Fin 32))
  /-- DMA_STOP_CLEAR (R262). Firmware clears DMA_STATUS.STOPPED so that the engine may start channels again. -/
  | dmaStopClear
  /-- REF_ENABLE (R268). A write of HKC_CTRL.REF_EN enables the reference buffer. -/
  | refEnable
  /-- REF_READY (R268). 20 ms after REF_EN, REF_RDY is set and core 0 begins its rounds. -/
  | refReady
  /-- HKC_SLOT_END (R269). A core 0 slot ends and its result and flags go to the thermal sequencer. -/
  | hkcSlotEnd (r : SlotReading)
  /-- HKC_CONVERSION_DONE (R273). A user-core conversion completes and its result word enters the FIFO. -/
  | hkcConversionDone (core : Fin 3) (raw : Int) (ovr : Bool)
  /-- HKC_PASS_END (R274). A user-core pass ends and HKC_DONEn is raised. -/
  | hkcPassEnd (core : Fin 3) (probe : Int) (ovr : Bool)
  /-- HKC_SW_START (R274). A write of HKC_CORE_CTRL.START starts one pass in SW mode. -/
  | hkcSwStart (core : Fin 3)
  /-- HKC_CORE_DISABLE (R280). Clearing EN of core 1 or 2 stops its conversion and writes an ABT marker. -/
  | hkcCoreDisable (core : Fin 3)
  /-- HKC_DISCHARGE_END (R280). An integrating core finishes its 0.5 ms discharge. -/
  | hkcDischargeEnd (core : Fin 3)
  /-- HKC_FLUSH (R276). A write of FLUSH empties a core's FIFO. -/
  | hkcFlush (core : Fin 3)
  /-- HKC_FIFO_READ (R276). A firmware read of HKC_CORE_FIFO removes the head word, or counts an over-read. -/
  | hkcFifoRead (core : Fin 3) (m : Master)
  /-- CENSUS_PRIO_WRITE (R271). A write of HKC_CENSUS_PRIO queues a cell, or sets PRIO_FULL. -/
  | censusPrioWrite (v : Word)
  /-- HKC_SEQ_WRITE (R273). A write of a sequence entry takes effect at the next pass, or is ignored with CFG_ERR. -/
  | hkcSeqWrite (core : Fin 3) (e : Fin 16) (v : Word)
  /-- SHUTDOWN_RAMP_DONE (R298). Every heater reaches zero, the pads park and the cluster and island domains switch off. -/
  | shutdownRampDone
  /-- SHUTDOWN_RECORD_WRITE (R299). Firmware writes the shutdown record to the NVM, or queues it. -/
  | shutdownRecordWrite
  /-- TAIL_CAPSULE_WRITE (R298). Firmware writes the tail capsule to an erased NVM slot. -/
  | tailCapsuleWrite
  /-- THM_RESUME_WRITE (R300). A write of THM_CTRL.RESUME clears the SAFE latch when the resume conditions hold. -/
  | thmResumeWrite (v : Word)
  /-- FIRMWARE_RETURN (R316). Firmware returns from RESTART, checks its kept items, rebuilds its origin and clears PAUSED. -/
  | firmwareReturn (circuitTableOk : Bool)
  /-- FIRMWARE_FAULT (R317). A firmware fault enters RESTART, or in LOAD or CALIBRATE causes a watchdog reset. -/
  | firmwareFault
  /-- WATCHDOG_KICK (R317). A write of LCS_WDT restarts the watchdog. -/
  | watchdogKick
  /-- WATCHDOG_FIRST_EXPIRE (R317). 500 ms without a watchdog write enters RESTART. -/
  | watchdogFirstExpire
  /-- WATCHDOG_RESTART_EXPIRE (R317). The 2 s RESTART allowance expires, causing a watchdog reset, a new RESTART or giving up. -/
  | watchdogRestartExpire
  /-- DARK_DEFERRED_POWER_DOWN (R314). After an open epoch closes, firmware powers down a cluster that now meets every condition for DARK. -/
  | darkDeferredPowerDown (c : Fin 256)
  /-- DARK_ENTRY_DONE (R312). 1 ms after the last cluster is off, entry to DARK completes and is notified. -/
  | darkEntryDone
  /-- DARK_EXIT_DONE (R312). The last re-powered cluster has its outputs in force, and MODE changes to SERVICE or DERATED. -/
  | darkExitDone
  /-- CAL_SWEEP_DONE (R315). The calibration sweep completes and the new atlas is committed. -/
  | calSweepDone (measured : SweepReport)
  /-- NVM_TEST (R333). Every 1 s firmware tests the flash for absence, return or replacement. -/
  | nvmTest (found : FlashFound)
  /-- SKIM_SNAPSHOT (R340). At a Skim instant the recorder takes one block per instance. -/
  | skimSnapshot
  /-- CAPTURE_BLOCK (R341). At a grid instant with listed cells, the recorder writes one full-rate capture block. -/
  | captureBlock
  /-- BLOCK_WRITE_DONE (R345). A block is wholly written, W advances and the region header is refreshed. -/
  | blockWriteDone
  /-- DDR_CHANNEL_FAIL (R350). A DDR channel fails in service and every Skim and capture ring halves its size. -/
  | ddrChannelFail (ch : Fin 2)
  /-- LOG_RECORD_WRITE (R347). Firmware writes a log record to the log of each instance it concerns. -/
  | logRecordWrite (kind : Nat) (insts : List (Fin 4)) (value : Word)
  /-- REC_CTRL_FREEZE (R348). Firmware sets or clears the FREEZE bit of REC_CTRL. -/
  | recCtrlFreeze (v : Bool)
  /-- REC_CTRL_CAP_EN (R341). Firmware sets or clears CAP_EN to enable full-rate capture. -/
  | recCtrlCapEn (v : Bool)
  /-- EFC_ENABLE (R129). A write of DRV_EFC_CTRL.EN drives EFC_OUT or returns it to high impedance. -/
  | efcEnable (v : Bool)
  /-- EFC_CODE_WRITE (R129). A write of DRV_EFC_CODE takes effect at the next modulator edge. -/
  | efcCodeWrite (v : Word)
  /-- REGISTER_WRITE (R357). A write to a register with no row of its own changes only the fields that the writer may write. -/
  | registerWrite (m : Master) (addr : Nat) (v : Word)
  /-- RESET_RELEASE (R306). RESET_N is released, or the supplies come into range so that the power-on reset ends, with every supply in range, and the CHURN start-up timeline begins. -/
  | resetRelease (strap : Bool)
  /-- PPS_IN_TIMEOUT (R181). With PPS_IN as the phase source, 2 s pass without a PPS_IN_EDGE and firmware enters HOLDOVER. -/
  | ppsInTimeout
  /-- IMAGE_STAGE_DONE (R327). Writing, reading back and checking of a staged image in NVM finishes, and the IMAGE_STAGE completion with its slot or IMAGE_INVALID is posted. -/
  | imageStageDone (readBackOk : Bool)
  /-- REC_EXPORT_DONE (R349). The last byte of a recorder export reaches the steward's memory, or the export is overtaken, and REC_EXPORT completes with the bytes written. -/
  | recExportDone (bytes : Nat) (busOk : Bool)
  deriving DecidableEq, Repr

end Sys2Proof
end

