-- ==== Sys2Proof/Config.lean ====
section
/-! DEFINITION. Constants of the device, and the free values: what the spec leaves open.
A free value is an opaque constant: nothing in the model can see which value it has. -/

namespace Sys2Proof

/-- FREE VALUE (log 5). Whether a fractional internal quantity shows its upper neighbour in an integer register
view; the spec gives no rounding for these views. -/
opaque Config.roundUp : Rat → Bool

/-- FREE VALUE (log 6). Either-outcome points of the spec (R177, R226, R232, R370): the n-th such choice. -/
opaque Config.either : Nat → Bool

/-- FREE VALUE (log 7). The n-th 32-bit value that the spec leaves unstated. -/
opaque Config.freeWord : Nat → BitVec 32

/-- FREE VALUE (log 7). The n-th unbounded value that the spec leaves unstated. -/
opaque Config.freeNat : Nat → Nat

/-- The mean phase of the window when no sample of it is valid (0 / 0 in R54, R80): unstated (log 8). -/
opaque Config.ratioOfNothing : Nat → Rat

/-- FREE VALUE (log 76). γ of R266 per °C, fused at die test; the spec gives no value. -/
opaque Config.hkcGamma : Rat

/-- FREE VALUE (log 139). The bit that the EFC modulator puts out at its n-th edge, by the codes in force: the spec gives its order and
its mean, and neither structure nor coefficients. -/
opaque Config.efcBit : Nat → Nat → Bool

/-- Where the 40 bytes that R217 leaves in the HEALTH header carry PIC_ID, PIC_REV and BUILD, which R38 and R318 have HEALTH
report: the byte at an offset, of the three identifiers. The spec gives no layout (log 146). -/
opaque Config.healthId : Nat → Nat → Nat → Nat → BitVec 8

/-! FREE VALUES (log 147). The FIFOs of the UART and of I²C, k = 0 UART receive, 1 UART transmit, 2 I²C receive, 3 I²C transmit:
R259 gives their behaviour and no chapter their layout. -/

/-- Offset of FIFO k's register in the PERI block. -/
opaque Config.periFifo : Nat → Nat
/-- Bytes that FIFO k holds. -/
opaque Config.periDepth : Nat → Nat
/-- Threshold of FIFO k. -/
opaque Config.periThresh : Nat → Nat
/-- The word that receive FIFO k returns for a byte it holds, VALID set. -/
opaque Config.periWord : Nat → BitVec 8 → BitVec 32
/-- The word that receive FIFO k returns when it is drained, VALID clear. -/
opaque Config.periEmpty : Nat → BitVec 32

/-- Cells on the die (R9). -/
def Config.cells : Nat := 8192
/-- Clusters on the die (R9). -/
def Config.clusters : Nat := 256
/-- `LCS_DEVICE_ID` (R2). -/
def Config.deviceId : Nat := 0x5A470008

end Sys2Proof
end

