-- ==== Sys2Proof/Machine/Num.lean ====
section
/-! DEFINITION. Numbers: rounding, roots, angles, bit fields, bytes and list places that the meanings share.
Internal quantities of the control law are exact rationals (log 4). -/

namespace Sys2Proof.Machine

/-- Nearest integer, halves up (R63, R115 say only "to nearest"). -/
def roundNear (x : Rat) : Int := (x + 1 / 2).floor

/-- Nearest integer, halves away from zero (R117). -/
def roundAway (x : Rat) : Int := if 0 ≤ x then (x + 1 / 2).floor else -((-x + 1 / 2).floor)

/-- Limit to an interval. -/
def clampR (lo hi x : Rat) : Rat := max lo (min hi x)

/-- Limit to an interval. -/
def clampI (lo hi x : Int) : Int := max lo (min hi x)

/-- A sum that stops at `top` (saturating counters of the spec). -/
def satAdd (top a b : Nat) : Nat := min top (a + b)

/-- Increment a 32-bit saturating counter. -/
def sat32 (a : Nat) : Nat := satAdd 0xFFFFFFFF a 1

/-- Increment an 8-bit saturating counter. -/
def sat8 (a : Nat) : Nat := satAdd 0xFF a 1

/-- Increment a 16-bit saturating counter. -/
def sat16 (a : Nat) : Nat := satAdd 0xFFFF a 1

/-- Largest r with r² ≤ n, by halving the interval `[lo, hi)` `fuel` times. -/
def isqrtIn (n : Nat) : Nat → Nat → Nat → Nat
  | 0, lo, _ => lo
  | fuel + 1, lo, hi =>
    let mid := (lo + hi) / 2
    if mid * mid ≤ n then isqrtIn n fuel mid hi else isqrtIn n fuel lo mid

/-- Integer square root of a number below 2²⁵⁶. -/
def isqrt (n : Nat) : Nat := isqrtIn n 130 0 (2 ^ 129)

/-- Square root of a non-negative rational, to nine decimal places (log 4). -/
def sqrtR (x : Rat) : Rat := (isqrt (x * 1000000000000000000).floor.toNat : Rat) / 1000000000

/-- Fixed-point product at 10¹². -/
def fxMul (a b : Int) : Int := a * b / 1000000000000

/-- Terms of the cosine series in fixed point: `t` is the current term, `x2` the squared angle. -/
def cosSum (x2 : Int) : Nat → Nat → Int → Int
  | 0, _, _ => 0
  | fuel + 1, k, t => t + cosSum x2 fuel (k + 2) (-(fxMul t x2) / ((k + 1) * (k + 2) : Nat))

/-- cos of `n` phase units, fixed point at 10¹², for 0 ≤ n ≤ 32,768. -/
def cosFx (n : Nat) : Int :=
  let x : Int := (n : Int) * 314159265358979 / 3276800
  cosSum (fxMul x x) 20 0 1000000000000

/-- Bisection for the angle in phase units whose cosine is nearest above `c` (fixed point at 10¹²). -/
def arccosIn (c : Int) : Nat → Nat → Nat → Nat
  | 0, lo, _ => lo
  | fuel + 1, lo, hi =>
    let mid := (lo + hi) / 2
    if cosFx mid ≥ c then arccosIn c fuel mid hi else arccosIn c fuel lo mid

/-- arccos(1 − 2ρ) to the nearest phase unit, for ρ in Q1.15 (R49, log 4). -/
def thetaOf (ratio : Nat) : Nat :=
  let c : Int := 1000000000000 - 2 * ((ratio : Int) * 1000000000000 / 32768)
  let lo := arccosIn c 17 0 32769
  if cosFx lo - c ≤ c - cosFx (lo + 1) then lo else min 32768 (lo + 1)

/-- 65536 / 2π, the constant of R54. -/
def radUnits : Rat := 1043038 / 100

/-- A quarter of the table of round(2,047 × sin(2π i / 256)) of R117, for i = 0 to 64. -/
def sineQuarter : List Int :=
    [0, 50, 100, 151, 201, 251, 300, 350, 399, 449, 497, 546, 594, 642, 690, 737]
    ++ [783, 830, 875, 920, 965, 1009, 1052, 1095, 1137, 1179, 1219, 1259, 1299, 1337, 1375, 1411]
    ++ [1447, 1483, 1517, 1550, 1582, 1614, 1644, 1674, 1702, 1729, 1756, 1781, 1805, 1828, 1850, 1871]
    ++ [1891, 1910, 1927, 1944, 1959, 1973, 1986, 1997, 2008, 2017, 2025, 2032, 2037, 2041, 2045, 2046]
    ++ [2047]

/-- The 256-entry table of R117. -/
def sineTable (i : Nat) : Int :=
  let i := i % 256
  if i ≤ 64 then sineQuarter.getD i 0
  else if i ≤ 128 then sineQuarter.getD (128 - i) 0
  else if i ≤ 192 then -(sineQuarter.getD (i - 128) 0)
  else -(sineQuarter.getD (256 - i) 0)

/-- The integer a 16-bit register shows of a fractional quantity: one of its two neighbours, which one the spec does
not say (log 5). -/
def viewInt (x : Rat) : Int :=
  if (x.floor : Rat) = x then x.floor else if Config.roundUp x then x.floor + 1 else x.floor

/-- As `viewInt`, limited to an unsigned field of `w` bits. -/
def viewU (w : Nat) (x : Rat) : Nat := (clampI 0 ((2 ^ w : Nat) - 1) (viewInt x)).toNat

/-- As `viewInt`, limited to a signed field of `w` bits and given in two's complement. -/
def viewS (w : Nat) (x : Rat) : Nat :=
  (clampI (-(2 ^ (w - 1) : Nat)) ((2 ^ (w - 1) : Nat) - 1) (viewInt x) % (2 ^ w : Nat)).toNat

/-- Two's complement of an integer in `w` bits. -/
def twos (w : Nat) (x : Int) : Nat := (x % (2 ^ w : Nat)).toNat

/-- The signed value of a `w`-bit number. -/
def untwos (w : Nat) (n : Nat) : Int :=
  let n := n % 2 ^ w
  if n < 2 ^ (w - 1) then n else (n : Int) - (2 ^ w : Nat)

/-- Bits [hi:lo] of a number. -/
def bits (n hi lo : Nat) : Nat := n / 2 ^ lo % 2 ^ (hi - lo + 1)

/-- Bit `i` of a number. -/
def bit (n i : Nat) : Bool := n / 2 ^ i % 2 = 1

/-- A Boolean as a number. -/
def b2n (b : Bool) : Nat := if b then 1 else 0

/-- A list of Booleans as a number, bit 0 first. -/
def mask : List Bool → Nat
  | [] => 0
  | b :: bs => b2n b + 2 * mask bs

/-- The low `k` bits of a number, bit 0 first. -/
def unmask : Nat → Nat → List Bool
  | 0, _ => []
  | k + 1, n => (n % 2 = 1) :: unmask k (n / 2)

/-- The `k` bytes of a number, little-endian (R5). -/
def leBytes : Nat → Nat → List Byte
  | 0, _ => []
  | k + 1, n => BitVec.ofNat 8 n :: leBytes k (n / 256)

/-- The number whose little-endian bytes are given. -/
def leNat : List Byte → Nat
  | [] => 0
  | b :: bs => b.toNat + 256 * leNat bs

/-- Change place `i` of a list. -/
def modAt {α : Type} (f : α → α) : Nat → List α → List α
  | _, [] => []
  | 0, x :: xs => f x :: xs
  | i + 1, x :: xs => x :: modAt f i xs

/-- Set place `i` of a list. -/
def setAt {α : Type} (a : α) (i : Nat) (l : List α) : List α := modAt (fun _ => a) i l

/-- Map with the place number. -/
def mapIx {α β : Type} (f : Nat → α → β) : Nat → List α → List β
  | _, [] => []
  | i, x :: xs => f i x :: mapIx f (i + 1) xs

/-- Sum of rationals. -/
def sumR (l : List Rat) : Rat := l.foldl (· + ·) 0

/-- Remove the first element that satisfies `p`. -/
def removeFirst {α : Type} (p : α → Bool) : List α → List α
  | [] => []
  | x :: xs => if p x then xs else x :: removeFirst p xs

/-- Insert into a list kept in ascending order of `key`. -/
def insertBy {α : Type} (key : α → Nat) (a : α) : List α → List α
  | [] => [a]
  | x :: xs => if key a < key x then a :: x :: xs else x :: insertBy key a xs

/-- Insert before the first element that is not below. -/
def insLe {α : Type} (le : α → α → Bool) (a : α) : List α → List α
  | [] => [a]
  | x :: xs => if le a x then a :: x :: xs else x :: insLe le a xs

/-- A list in ascending order, equals in their order. -/
def sortLe {α : Type} (le : α → α → Bool) (l : List α) : List α := l.foldr (insLe le) []

/-- Numbers in ascending order. -/
def sortNat (l : List Nat) : List Nat := sortLe (fun a b => decide (a ≤ b)) l

/-- The place of the least key, first among equals. -/
def argMin {α : Type} (key : α → Nat) : List α → Option α
  | [] => none
  | x :: xs =>
    match argMin key xs with
    | none => some x
    | some y => if key x ≤ key y then some x else some y

/-- Tick of 4 ns containing or following an instant: ⌈x / 4⌉. -/
def ceilDiv (a b : Int) : Int := -((-a) / b)

/-- A function applied to a number that is worked out first: only the way Lean's kernel evaluates it differs (`force_eq`). -/
def force {α : Type} (k : Nat → α) : Nat → α
  | 0 => k 0
  | n + 1 => k (n + 1)

/-- One bit of the CRC-32C register, reflected form of polynomial 0x1EDC_6F41 (R299, log 78). -/
def crcBit (r : Nat) : Nat := Nat.xor (Nat.div r 2) (Nat.mul (Nat.mod r 2) 0x82F63B78)

/-- CRC-32C over bytes, before the final inversion (R299). Each step's result is taken apart so that Lean's kernel works it out. -/
def crcRun : Nat → List Byte → Nat
  | r, [] => r
  | r, b :: bs =>
    match crcBit (crcBit (crcBit (crcBit (crcBit (crcBit (crcBit (crcBit (Nat.xor r b.toNat)))))))) with
    | 0 => crcRun 0 bs
    | n + 1 => crcRun (n + 1) bs

/-- CRC-32C of some bytes (R299). -/
def crc32c (bs : List Byte) : Nat := crcRun 0xFFFFFFFF bs ^^^ 0xFFFFFFFF

/-- A number in fixed point at 10¹² brought into [1, 2) by halving or doubling, with the power of two taken out. -/
def lnNorm : Nat → Int → Int → Int × Int
  | 0, y, k => (y, k)
  | fuel + 1, y, k =>
    if 2000000000000 ≤ y then lnNorm fuel (y / 2) (k + 1)
    else if y < 1000000000000 ∧ 0 < y then lnNorm fuel (y * 2) (k - 1)
    else (y, k)

/-- Odd powers of z over their exponents: half the series of ln((1 + z) / (1 − z)), in fixed point. -/
def lnSum (z2 : Int) : Nat → Int → Int → Int
  | 0, _, _ => 0
  | fuel + 1, k, t => t / k + lnSum z2 fuel (k + 2) (fxMul t z2)

/-- Natural logarithm of a positive rational, to about ten decimal places (log 4). -/
def lnR (x : Rat) : Rat :=
  let q := lnNorm 80 (x * 1000000000000).floor 0
  let z := (q.1 - 1000000000000) * 1000000000000 / (q.1 + 1000000000000)
  ((q.2 * 693147180560 + 2 * lnSum (fxMul z z) 16 1 z : Int) : Rat) / 1000000000000

/-- Median of rationals: the middle one, or the mean of the middle two; none of an empty list. -/
def medianR (l : List Rat) : Option Rat :=
  let q := sortLe (fun a b => decide (a ≤ b)) l
  let n := q.length
  if n = 0 then none
  else if n % 2 = 1 then some (q.getD (n / 2) 0)
  else some ((q.getD (n / 2 - 1) 0 + q.getD (n / 2) 0) / 2)

/-- Mean of rationals; none of an empty list. -/
def meanR (l : List Rat) : Option Rat := if l.isEmpty then none else some (sumR l / l.length)

/-- The greatest of some integers; the given one of an empty list. -/
def maxOf (d : Int) : List Int → Int
  | [] => d
  | x :: xs => xs.foldl max x

end Sys2Proof.Machine
end

