-- ==== Sys2Proof/Machine/StLoop.lean ====
section
/-! DEFINITION. State of the cells, clusters, spare engines and drive islands (R47-R132).
Every default is the field's value at reset; where the rule gives none the value is zero or empty (log 3). -/

namespace Sys2Proof.Machine

/-- Target states (R23, `CLU_CELL_TARGET.STATE` of R71). -/
inductive TState where
  | park | bar | cross | split | retired
  deriving DecidableEq, Repr

/-- The STATE code of R71. -/
def TState.code : TState → Nat
  | .park => 0 | .bar => 1 | .cross => 2 | .split => 3 | .retired => 15

/-- A target: state, ratio and the epoch that set it (R71). -/
structure Target where
  /-- STATE, 4 bits (R71) -/
  state : TState := .park
  /-- ρ in Q1.15, 16 bits (R71) -/
  ratio : Nat := 0
  /-- EPOCH, 16 bits (R71) -/
  epoch : Nat := 0
  deriving DecidableEq, Repr

/-- Loop states (R72). -/
inductive LState where
  | off | hitch | track | hold | dark | stuck | limit | retired
  deriving DecidableEq, Repr

/-- Loop state codes (R72). -/
def LState.code : LState → Nat
  | .off => 0 | .hitch => 1 | .track => 2 | .hold => 3
  | .dark => 4 | .stuck => 5 | .limit => 6 | .retired => 7

/-- HOLD_CAUSE (R103). -/
inductive HoldCause where
  | fault | sparing | noEngine
  deriving DecidableEq, Repr

/-- HOLD_CAUSE codes (R103). -/
def HoldCause.code : HoldCause → Nat
  | .fault => 0 | .sparing => 1 | .noEngine => 2

/-- WINNER of the heater competition (R60, R71). -/
inductive Winner where
  | phase | cap | derate | budget
  deriving DecidableEq, Repr

/-- WINNER codes (R71). -/
def Winner.code : Winner → Nat
  | .phase => 0 | .cap => 1 | .derate => 2 | .budget => 3

/-- A response test in progress (R80). -/
structure RespTest where
  /-- r of the sample captured at B, once delivered -/
  rB : Option Rat := none
  /-- samples after B examined so far -/
  seen : Nat := 0
  /-- +1 where r must rise, −1 where it must fall -/
  up : Bool := true
  /-- neither of the first two samples showed the jump -/
  miss : Bool := false
  /-- least and greatest r seen while watching -/
  lo : Rat := 0
  hi : Rat := 0
  deriving DecidableEq, Repr

/-- What a loop engine holds for one cell, and the health registers it writes. -/
structure Eng where
  /-- `CLU_CELL_STATE.STATE`, 3 bits (R103) -/
  st : LState := .off
  /-- `CLU_CELL_STATE.PREV`, 3 bits (R103) -/
  prev : LState := .off
  /-- `CLU_CELL_STATE.HOLD_CAUSE`, 2 bits (R103) -/
  cause : HoldCause := .fault
  /-- `CLU_CELL_STATE.HONLY`, 1 bit (R103) -/
  honly : Bool := false
  /-- `CLU_CELL_STATE.PEND_RETIRE`, 1 bit (R103) -/
  pendRetire : Bool := false
  /-- `CLU_CELL_FAULT`, 8 bits, W1C (R103) -/
  fault : Word := 0
  /-- `CLU_CELL_RUN`, 32 bits, saturating (R103) -/
  run : Nat := 0
  /-- `CLU_CELL_FCNT.STUCK_EPIS`, 8 bits, saturating (R103) -/
  stuckEpis : Nat := 0
  /-- `CLU_CELL_FCNT.FRESP_CONSEC`, 8 bits (R103) -/
  frespConsec : Nat := 0
  /-- `CLU_CELL_FCNT.DARK_ENTRIES`, 8 bits, saturating (R103) -/
  darkEntries : Nat := 0
  /-- `CLU_CELL_FCNT.LIMIT_ENTRIES`, 8 bits, saturating (R103) -/
  limitEntries : Nat := 0
  /-- the target last taken (R64) -/
  taken : Option Target := none
  /-- index of the boundary at which the taken target's first outputs take effect (R55) -/
  takeB : Nat := 0
  /-- φ_P in phase units (R53) -/
  phiP : Rat := 0
  /-- φ_I in phase units (R53) -/
  phiI : Rat := 0
  /-- φ_ff of the latest period (R53) -/
  phiFf : Rat := 0
  /-- h_trim in power units (R58) -/
  hTrim : Rat := 0
  /-- effective heater power p_eff (R47) -/
  pEff : Rat := 0
  /-- heater setpoint p_set (R61) -/
  pSet : Rat := 0
  /-- p_goal, 16 bits in its register (R49, R71) -/
  pGoal : Rat := 0
  /-- p_win, 16 bits in its register (R60, R71) -/
  pWin : Rat := 0
  /-- ladder index j (R49) -/
  j : Int := 0
  /-- the sign of θ is negative (R49) -/
  thNeg : Bool := false
  /-- no candidate goal lay within [0, d_cap] when the target was taken (R49) -/
  noCand : Bool := false
  /-- the F deviation v_c in codes (R53) -/
  vC : Rat := 0
  /-- demodulation window, newest first: (y, s) of a valid sample, none of an excluded one (R55) -/
  win : List (Option (Rat × Rat)) := []
  /-- the F error of the latest period, none if invalid (R54) -/
  err : Option Rat := none
  /-- W_v, 8 bits (R71) -/
  wv : Nat := 0
  /-- F_SAT (R71) -/
  fSat : Bool := false
  /-- HITCH_ACT (R71) -/
  hitchAct : Bool := false
  /-- LADDER_UP (R71) -/
  ladderUp : Bool := false
  /-- DELAYED (R52, R71) -/
  delayed : Bool := false
  /-- UNIPOLAR (R57, R71) -/
  unipolar : Bool := false
  /-- WINNER, 2 bits (R60, R71) -/
  winner : Winner := .phase
  /-- computed periods since the cell's first enable (R58) -/
  count : Nat := 0
  /-- sum of φ_P + φ_I, periods and invalid errors since the last H-path update (R58) -/
  barSum : Rat := 0
  barN : Nat := 0
  barInvalid : Nat := 0
  /-- φ̄ of the previous update (R58) -/
  barPrev : Rat := 0
  /-- an H-path update is due (R58) -/
  hDue : Bool := false
  /-- heater-only dither: sign, periods in this half, sums of r over the two halves (R83) -/
  dithNeg : Bool := false
  dithN : Nat := 0
  rPlus : Rat := 0
  rPlusN : Nat := 0
  rMinus : Rat := 0
  rMinusN : Nat := 0
  /-- sum and number of the SPLIT ratio errors since the last update of a heater-only cell (R83) -/
  ratSum : Rat := 0
  ratN : Nat := 0
  /-- a dither reversal is due (R83) -/
  flipDue : Bool := false
  /-- run of samples below DARK_LEVEL (R78) -/
  darkRun : Nat := 0
  /-- run of samples at or above twice DARK_LEVEL (R78) -/
  litRun : Nat := 0
  /-- raw 13-bit values of the previous sample, none before the first (R79) -/
  lastMb : Option Nat := none
  lastMx : Option Nat := none
  /-- runs of samples equal to the one before (R79) -/
  sameMb : Nat := 0
  sameMx : Nat := 0
  /-- retest in STUCK: samples so far, whether each tap changed, whether a run reached STUCK_K (R76) -/
  retest : Nat := 0
  chgMb : Bool := false
  chgMx : Bool := false
  rerun : Bool := false
  /-- loop state before STUCK (R76) -/
  beforeStuck : LState := .track
  /-- HOLD (FAULT): consecutive samples with both taps changing at least once in 16 (R76) -/
  recRun : Nat := 0
  /-- the response test in progress (R80) -/
  resp : Option RespTest := none
  /-- computed periods since the target was taken in which the clamp was active (R67) -/
  limitN : Nat := 0
  /-- computed periods since the target was taken (R83) -/
  sinceTake : Nat := 0
  /-- F code computed for the next boundary, 16 bits -/
  uF : Nat := 0
  /-- heater code computed for the next boundary, 16 bits -/
  uH : Nat := 0
  /-- table entry E of the pilot in uF, 0 with the pilot off (R117) -/
  pilotE : Int := 0
  deriving DecidableEq, Repr

/-- A sample of one cell: raw 12-bit codes and over-range bits of the physical taps (R121). -/
structure Smp where
  mb : Nat := 0
  mbOr : Bool := false
  mx : Nat := 0
  mxOr : Bool := false
  deriving DecidableEq, Repr

/-- A tagged NEXT shadow slot (R149). -/
structure NextSlot where
  valid : Bool := false
  epoch : Nat := 0
  state : TState := .park
  ratio : Nat := 0
  deriving DecidableEq, Repr

/-- Pad modes and ranges (R114, R130). -/
structure PadCfg where
  /-- F_MODE, 1 VOLT -/
  fVolt : Bool := false
  fRange : Nat := 0
  /-- H_MODE, 1 CURR -/
  hCurr : Bool := false
  hRange : Nat := 0
  tia : Nat := 0
  deriving DecidableEq, Repr

/-- A checkpoint of one cell (R95). -/
structure Checkpoint where
  phiI : Rat := 0
  hTrim : Rat := 0
  j : Int := 0
  thNeg : Bool := false
  taken : Option Target := none
  st : LState := .off
  deriving DecidableEq, Repr

/-- One cell: targets, applied codes, front end and pads. -/
structure Cell where
  /-- `CLU_CELL_TARGET` and `CLU_CELL_RATIO`, the live target (R71) -/
  live : Target := {}
  /-- the target presented for the commit under way, one boundary early (R51) -/
  staged : Option Target := none
  /-- the target latched at the latest boundary (R50) -/
  seen : Target := {}
  /-- the four tagged NEXT slots (R149) -/
  next : List NextSlot := List.replicate 4 {}
  /-- the engine's state left by the last completed period -/
  eng : Eng := {}
  /-- the results of the period just computed, until its boundary (R50, R88) -/
  out : Option Eng := none
  /-- `CLU_CELL_UF`, 16 bits (R71) -/
  uf : Nat := 0
  /-- `CLU_CELL_UH`, 16 bits (R71) -/
  uh : Nat := 0
  /-- table entry E of the pilot in the applied F code (R54) -/
  pilotE : Int := 0
  /-- the pilot entry in force over the period before the latest capture (R54) -/
  capE : Int := 0
  /-- the pilot entry that belongs to the delivered sample (R54) -/
  smpE : Int := 0
  /-- `CLU_CELL_SMP`, the latest delivered sample (R130) -/
  smp : Smp := {}
  /-- x of the logical MB and MX taps of the delivered sample, 1/16 codes (R122, `CLU_CELL_DSUB`) -/
  xb : Rat := 0
  xx : Rat := 0
  /-- D of the physical taps, Q12.4, 16 bits each (R122, `CLU_CELL_DARK`) -/
  dMb : Nat := 0
  dMx : Nat := 0
  /-- dark trims δ of the physical taps, −8 to 8 (R123, `CLU_DTRIM`) -/
  trimMb : Int := 0
  trimMx : Int := 0
  /-- samples of the running DARK block, and the sums and counts of code − D per tap (R123) -/
  dkN : Nat := 0
  dkSumMb : Rat := 0
  dkCntMb : Nat := 0
  dkSumMx : Rat := 0
  dkCntMx : Nat := 0
  /-- `CLU_CELL_PMEAS`, 16 bits (R115, R130) -/
  pmeas : Nat := 0
  /-- `CLU_CELL_PILOT.TONE`, 4 bits: k − 1 (R130) -/
  tone : Nat := 0
  /-- `CLU_CELL_PILOT.QUAD` (R130) -/
  quad : Bool := false
  /-- `CLU_CELL_PILOT.CLASH` (R130) -/
  clash : Bool := false
  /-- `CLU_CELL_PILOT.ACC`, 16 bits (R117, R130) -/
  acc : Nat := 0
  /-- `CLU_CELL_PADCFG.APPLY` (R130) -/
  apply : Bool := false
  /-- the requested modes and ranges of `CLU_CELL_PADCFG` (R130) -/
  cfg : PadCfg := {}
  /-- modes and ranges in force (R114) -/
  cfgNow : PadCfg := {}
  /-- `CLU_CELL_PADSTAT.RANGE_BUSY` (R130) -/
  rangeBusy : Bool := false
  /-- the break of R114 is running: drivers disconnected -/
  brk : Bool := false
  /-- boundary instant at which the change began, TAI-free counter ns (R114) -/
  brkAt : Int := 0
  /-- `CLU_CELL_PADSTAT.PARKED` (R106, R130) -/
  parked : Bool := true
  /-- the F pad alone is parked (R100) -/
  fParked : Bool := true
  /-- the sticky bits of `CLU_CELL_PADSTAT`: H_COMPL, H_OC, F_PAD_FAULT, F_OPEN, F_LEAK (R130) -/
  hCompl : Bool := false
  hOc : Bool := false
  fPadFault : Bool := false
  fOpen : Bool := false
  fLeak : Bool := false
  /-- consecutive computed periods with a pad condition (R113) -/
  padRun : Nat := 0
  /-- `CLU_CELL_ORCNT`, 16 bits each, saturating (R130) -/
  orMb : Nat := 0
  orMx : Nat := 0
  /-- heater over-current: switched to k = 0 for the period (R110) -/
  hOff : Bool := false
  /-- boundary indices of the latest trips (R110) -/
  trips : List Nat := []
  /-- parked by the drive island after four trips (R110) -/
  hParked : Bool := false
  /-- r_H in use, 1/64 Ω (R84) -/
  rH : Nat := 0
  /-- latched at the latest boundary (R50): r_H, the island's park of the heater (R110), whether an established circuit passes
  through the cell (R85), whether a cell that is OFF may start (R76, R114), and p_set at the start of the ramp of R298 -/
  latRH : Nat := 0
  latPark : Bool := false
  latCircuit : Bool := false
  latStart : Bool := false
  latRamp0 : Rat := 0
  /-- the last census result lay outside ±20 % (R84) -/
  censusOut : Bool := false
  /-- the quantiser's two latest errors in units of 1 / (49 × 65,536) (R107); cleared when the pad parks -/
  qErr1 : Int := 0
  qErr2 : Int := 0
  /-- extended time up to which the modulator's edges have been run (R12, R107) -/
  modAt : Int := 0
  /-- computed outputs of the cell have been in force since power-up (R106) -/
  everOut : Bool := false
  /-- `CLU_HO_PEND` bit and the epoch whose hand-over the cell is in (R154) -/
  handover : Option Nat := none
  /-- the hand-over has been reported DELAYED (R154) -/
  hoDelayed : Bool := false
  /-- the commit period of the target now presented was missed (R52) -/
  lateTake : Bool := false
  /-- boundary at which a heater-only cell's HITCH ended, TAI ns (R154) -/
  hoTrackAt : Option Int := none
  /-- p_set at the start of the ramp of R298: the cell's heater falls by it within 1.9 ms -/
  ramp0 : Rat := 0
  deriving DecidableEq, Repr

/-- Where a cluster's engine outputs come from: `CLU_ENG_STATUS.SOURCE` (R104). -/
inductive EngSource where
  | native | spare | none
  deriving DecidableEq, Repr

/-- One port-end tap of a cluster (R124, R131). -/
structure PTap where
  /-- `CLU_PTAP_SMP.VALID` -/
  valid : Bool := false
  /-- `CLU_PTAP_SMP.RANGE` at capture -/
  range : Nat := 1
  /-- `CLU_PTAP_SMP.OR` -/
  ovr : Bool := false
  /-- `CLU_PTAP_SMP.CODE`, 12 bits -/
  code : Nat := 0
  /-- the range now in force -/
  now : Nat := 1
  /-- consecutive over-range samples -/
  orRun : Nat := 0
  /-- consecutive samples below 300 codes -/
  lowRun : Nat := 0
  /-- boundary instant of the latest range step, none if none within its 2 µs (R124) -/
  stepAt : Option Int := none
  /-- code − D of the delivered sample (R124) -/
  x : Rat := 0
  /-- the latest capture fell within 2 µs of a step -/
  capBrk : Bool := false
  /-- the range in force at the latest capture -/
  capRange : Nat := 1
  deriving DecidableEq, Repr

/-- One SAR's check record (R126). -/
structure Sar where
  /-- the codes recorded at power-up for zero, mid-scale and 15/16 of full scale (R126) -/
  refs : List Nat := [0, 2048, 3840]
  /-- differed by more than 8 codes in the latest check of each reference -/
  bad : List Bool := [false, false, false]
  deriving DecidableEq, Repr

/-- Power state of a switchable domain (R15, R17). -/
inductive DPow where
  | off | rising | on
  deriving DecidableEq, Repr

/-- One cluster. -/
structure Cluster where
  /-- power of the cluster domain (R15) -/
  pow : DPow := .off
  /-- it has been powered since the latest device reset, CALIBRATE or SAFE (R384) -/
  everOn : Bool := false
  /-- firmware's copy of the live targets at power-down (R384) -/
  kept : List Target := []
  cells : List Cell := List.replicate 32 {}
  /-- `CLU_ALLOW`, 32 bits (R70) -/
  allow : Nat := 0xFFFFFFFF
  /-- `CLU_DERATE`, 16 bits (R70) -/
  derate : Nat := 0xFFFF
  /-- `CLU_DEMAND`, 32 bits: Σ m_k at the latest boundary (R70) -/
  demand : Rat := 0
  /-- `CLU_BSCALE`, Q1.15, 16 bits (R70) -/
  bscale : Rat := 1
  /-- Σ m_k and s_c of the period just computed -/
  demandOut : Rat := 0
  bscaleOut : Rat := 1
  /-- total p_win in force, reported to the thermal sequencer (R62) -/
  pwinSum : Rat := 0
  /-- sum over the boundaries of the running 16 µs interval of the total p_win in force before each, and their number (R62) -/
  pwinAcc : Rat := 0
  pwinN : Nat := 0
  /-- `CLU_ENG_STATUS.CONSEC_MISS`, 8 bits, saturating (R104) -/
  consecMiss : Nat := 0
  /-- `CLU_ENG_STATUS.SOURCE`, 2 bits (R104) -/
  source : EngSource := .native
  /-- `CLU_ENG_STATUS.ECC_UE` (R104) -/
  eccUe : Bool := false
  /-- `CLU_ENG_STATUS.RESIDUE` (R104) -/
  residue : Bool := false
  /-- `CLU_ENG_STATUS.LIVENESS` (R104) -/
  liveness : Bool := false
  /-- `CLU_ENG_STATUS.FAILED` (R104) -/
  failed : Bool := false
  /-- `CLU_SLACK`: latest slack, 16 bits, 4 ns ticks (R104) -/
  slack : Nat := 0
  /-- slacks of the latest 1,024 computed periods, newest first, for the minimum of `CLU_SLACK` (R90) -/
  slacks : List Nat := []
  /-- `CLU_MISS_CNT`, 32 bits, saturating (R104) -/
  missCnt : Nat := 0
  /-- `CLU_SKIP_CNT`, 32 bits, saturating (R104) -/
  skipCnt : Nat := 0
  /-- `CLU_ECC_CNT`, 16 bits, saturating (R104) -/
  eccCnt : Nat := 0
  /-- the cells are in HOLD (NO_ENGINE), which lasts until a device reset (R98) -/
  noEng : Bool := false
  /-- computed periods since the latest residue mismatch, none before the first (R93) -/
  sinceRes : Option Nat := none
  /-- computed periods (R95) -/
  periods : Nat := 0
  /-- a checkpoint is due (R95) -/
  ckptDue : Bool := false
  /-- the checkpoint memory of the drive island for this cluster (R95) -/
  ckpt : Option (List Checkpoint) := none
  /-- the period since the latest boundary has been computed -/
  done : Bool := false
  /-- the period since the latest boundary was discarded by a self-check (R93) -/
  discarded : Bool := false
  /-- periods missed or skipped since the last computed one (R89) -/
  lost : Nat := 0
  /-- boundaries since power-up -/
  bIx : Nat := 0
  /-- instant of the latest boundary in counter ns; none before the first (R10) -/
  lastB : Option Int := none
  /-- a skip fell due in a commit period and moves to the next other one (R292) -/
  skipOwed : Bool := false
  /-- the period since the latest boundary is skipped (R292) -/
  skipping : Bool := false
  /-- the period since the latest boundary is a commit period (R52) -/
  commitPeriod : Bool := false
  /-- the 68 inputs captured at the latest boundary: code and over-range bit (R11, R121) -/
  cap : List (Nat × Bool) := []
  /-- the latest instant at which the comparator of each input saw its TIA saturated, extended time (R121) -/
  satAt : List (Option Int) := List.replicate 68 none
  /-- heater current of the cluster since the latest island interval, mA summed over modulator edges (R116) -/
  iAcc : Rat := 0
  /-- values latched at the latest boundary (R50): T, VHTR in mV, allowance, derate, and whether the power-down runs -/
  latT : Int := 0
  latV : Nat := 0
  latAllow : Nat := 0xFFFFFFFF
  latDer : Nat := 0xFFFF
  latDown : Bool := false
  /-- the four port-end taps (R131) -/
  ptap : List PTap := List.replicate 4 {}
  /-- `CLU_PTAP_CFG`, 16 bits (R131) -/
  ptapCfg : Word := 0x5555
  /-- firmware's own copy of `CLU_PTAP_CFG`, written back at each power-up (R366) -/
  ptapCopy : Word := 0x5555
  /-- `CLU_SAR_STAT.SAR_OUT`, 12 bits (R131) -/
  sarOut : List Bool := List.replicate 12 false
  /-- `CLU_SAR_STAT.LOST`, 4 bits (R131) -/
  sarLost : Nat := 0
  /-- `CLU_SAR_STAT.SAR_FAULT`, 12 bits, W1C (R131) -/
  sarFault : List Bool := List.replicate 12 false
  /-- check records of the 12 SARs (R126) -/
  sars : List Sar := List.replicate 12 {}
  /-- the reference of the next SAR check (R126) -/
  sarRef : Nat := 0
  /-- a power-down ramp is running (R100) -/
  pdown : Bool := false
  /-- the ramp ended: the domain goes off one period later (R100) -/
  pdownEnd : Bool := false
  /-- the ramp of R298 runs: F pads at zero drive -/
  fast : Bool := false
  /-- the native engine failed during the ramp, so the drive island ramps by R99 -/
  islandRamp : Bool := false
  /-- loop events owed at the next boundary, from which the states just computed are in force (R75, R101, R224): LOOP_DARK,
  LOOP_STUCK, LOOP_LIMIT -/
  owedDark : Bool := false
  owedStuck : Bool := false
  owedLimit : Bool := false
  /-- record latch: the boundary and the cells' entries placed there and not yet drained (R338) -/
  latch : Option (Int × List (List Byte)) := none
  deriving DecidableEq, Repr

/-- `SPR_STATUS.STATE` (R105). -/
inductive SprState where
  | off | powering | loading | selftest | active | failed
  deriving DecidableEq, Repr

/-- STATE codes (R105). -/
def SprState.code : SprState → Nat
  | .off => 0 | .powering => 1 | .loading => 2 | .selftest => 3 | .active => 4 | .failed => 5

/-- The spare engine of a tile row (R96, R105). -/
structure Spare where
  /-- `SPR_STATUS.STATE`, 3 bits (R105) -/
  st : SprState := .off
  /-- power of the domain as firmware's own request left it, where no substitution has it (R15-R17) -/
  pow : DPow := .off
  /-- `SPR_STATUS.CLUSTER`, 8 bits (R105) -/
  cluster : Nat := 0
  /-- `SPR_FAILMAP`[15:0] (R105) -/
  failmap : List Bool := List.replicate 16 false
  /-- `SPR_FAILMAP`[16] (R105) -/
  spareFailed : Bool := false
  /-- `SPR_LAST_US`, 32 bits (R105) -/
  lastUs : Nat := 0
  /-- D, the instant of the failure being handled, counter ns (R96) -/
  failAt : Int := 0
  /-- the self-test has passed and the switch to the cluster waits for its first outputs (R96) -/
  switched : Bool := false
  /-- instant S of the boundary at which the first spare period began (R96) -/
  firstAt : Option Int := none
  deriving DecidableEq, Repr

/-- A drive island (R116, R132). -/
structure Island where
  /-- `DRV_STATUS.POWERED`, and the domain's power (R15, R132) -/
  pow : DPow := .off
  /-- `DRV_STATUS.ISENSE_FAULT` (R132) -/
  isenseFault : Bool := false
  /-- `DRV_STATUS.VHTR_LOW` (R132) -/
  vhtrLow : Bool := false
  /-- `DRV_VHTR`, 16 bits, mV (R132) -/
  vhtr : Nat := 0
  /-- `DRV_ISENSE`: I_meas and I_pred, 16 bits each, mA (R132) -/
  iMeas : Nat := 0
  iPred : Nat := 0
  /-- `DRV_KAPPA`, Q2.14, 16 bits (R132) -/
  kappa : Rat := 1
  /-- `DRV_HOC_CNT`, 32 bits, saturating (R132) -/
  hocCnt : Nat := 0
  /-- consecutive judged intervals with an implausible ratio (R116) -/
  badRun : Nat := 0
  /-- extended time at which the running 16 µs interval began (R116) -/
  predFrom : Int := 0
  deriving DecidableEq, Repr

/-- The device-wide heater budget loop of the thermal sequencer (R62): histories in mA and power units, newest
first, and the 64-interval sums' terms. `none` before the loop starts. -/
structure Budget where
  hist : Option (List (Rat × Rat)) := none
  ratio : List (Rat × Rat) := []
  deriving DecidableEq, Repr

end Sys2Proof.Machine
end

