-- ==== Sys2Proof/Machine/Engine.lean ====
section
/-! DEFINITION. The loop engine's period for one cell: goals, F path, window, heater competition, transitions
(R47-R67, R72-R84). Everything here is a function of the inputs R50 names. -/

namespace Sys2Proof.Machine

/-- What a period of one cell reads besides the cell's own state (R50). -/
structure Ctx where
  cls : ClassRec
  atl : AtlasCell
  tRef : Int
  /-- sample period in µs -/
  p : Rat
  /-- cluster temperature latched at the boundary, Q8.8 -/
  t : Int
  /-- VHTR latched, mV -/
  v : Nat
  /-- derate ceiling latched -/
  der : Nat
  /-- r_H latched, 1/64 Ω -/
  rH : Nat
  /-- index of the boundary that begins the period -/
  bIx : Nat
  /-- periods lost since the last computed one -/
  lost : Nat
  /-- an established circuit passed through the cell at the boundary (R50, R85) -/
  circuit : Bool
  /-- the cluster's power-down ramp ran at the boundary (R50, R100) -/
  pdown : Bool
  /-- the commit period of the target now taken was missed (R52) -/
  late : Bool := false
  /-- p_set at the start of the ramp of R298 -/
  ramp0 : Rat := 0
  /-- the drive island had parked the heater's pad at the boundary (R50, R110) -/
  hParked : Bool := false

/-- The class record with every field limited to its range (R69, R102). -/
def clampClass (c : ClassRec) : ClassRec :=
  { fMode := min 1 c.fMode, fRange := min 2 c.fRange, hMode := min 1 c.hMode, hRange := min 2 c.hRange,
    tiaRange := c.tiaRange % 4, hDiv := max 1 (min 64 c.hDiv), kpF := min 0xFFFF c.kpF, kiF := min 0xFFFF c.kiF,
    kpH := min 0xFFFF c.kpH, kiH := min 0xFFFF c.kiH, rampRate := max 1 (min 65535 c.rampRate),
    downRate := max 1 (min 65535 c.downRate), cellCap := min 65535 c.cellCap, pilotAmp := min 4095 c.pilotAmp,
    pilotWin := max 16 (min 64 c.pilotWin), fAuth := min 65535 c.fAuth,
    darkLevel := max 1 (min 8190 c.darkLevel), stuckK := max 16 (min 65535 c.stuckK),
    retireN := min 65535 c.retireN }

/-- F_REST (R48): 0x8000 in VOLT mode, 0 in CURR mode. -/
def fRest (cls : ClassRec) : Int := if cls.fMode = 1 then 0x8000 else 0

/-- f_lo of R53. -/
def fLo (cls : ClassRec) : Int := -(min (cls.fAuth : Int) (fRest cls))

/-- f_hi of R53. -/
def fHi (cls : ClassRec) : Int := min (cls.fAuth : Int) (0xFFFF - fRest cls)

/-- F is unipolar (R57). -/
def isUnipolar (cls : ClassRec) : Bool := fLo cls = 0 || fHi cls = 0

/-- The points of the F curve: the code k × 4,096, the last one at 0xFFFF, and its phase (R48). -/
def fPoints (curve : List Int) : List (Rat × Rat) :=
  mapIx (fun k y => (((min (k * 4096) 0xFFFF : Nat) : Rat), (y : Rat))) 0 curve

/-- Line through two points. -/
def lineAt (a b : Rat × Rat) (x : Rat) : Rat := a.2 + (b.2 - a.2) / (b.1 - a.1) * (x - a.1)

/-- Linear interpolation over points with rising abscissa (R48); the end pieces are continued beyond the span, where the
clamp of R53 acts (log 9). -/
def interp : List (Rat × Rat) → Rat → Rat
  | [], _ => 0
  | [a], _ => a.2
  | a :: b :: rest, x => if x ≤ b.1 ∨ rest = [] then lineAt a b x else interp (b :: rest) x

/-- Slope of the piece that holds x. -/
def slopeAt : List (Rat × Rat) → Rat → Rat
  | [], _ => 0
  | [_], _ => 0
  | a :: b :: rest, x =>
    if x ≤ b.1 ∨ rest = [] then (b.2 - a.2) / (b.1 - a.1) else slopeAt (b :: rest) x

/-- φ_F at F_REST + v (R47). -/
def phiOf (cls : ClassRec) (curve : List Int) (v : Rat) : Rat := interp (fPoints curve) (fRest cls + v)

/-- c_F: the signed code deviation from F_REST whose phase is φ (R48, R53). -/
def cF (cls : ClassRec) (curve : List Int) (phi : Rat) : Rat :=
  let pts := (fPoints curve).map (fun q => (q.2, q.1))
  let pts := if (curve.getD 0 0) ≤ (curve.getD 16 0) then pts else pts.reverse
  interp pts phi - fRest cls

/-- The F curve is strictly monotonic over 17 points (R48, R330). -/
def curveMonotonic (curve : List Int) : Bool :=
  curve.length = 17 &&
    ((curve.zip (curve.drop 1)).all (fun q => decide (q.1 < q.2)) ||
     (curve.zip (curve.drop 1)).all (fun q => decide (q.2 < q.1)))

/-- T − T_ref in °C. -/
def dT (t tRef : Int) : Rat := ((t - tRef : Int) : Rat) / 256

/-- p_B(T) (R48). -/
def pB (a : AtlasCell) (t tRef : Int) : Rat := a.pB + (a.alphaB : Rat) / 64 * dT t tRef

/-- The PARK goal (R49). -/
def pPark (a : AtlasCell) (t tRef : Int) : Rat := a.pPark + (a.alphaPark : Rat) / 64 * dT t tRef

/-- η_H (R47). -/
def etaH (a : AtlasCell) : Rat := 65536 / a.p2pi

/-- The state a target is served as: SPLIT(0) as BAR, SPLIT(0x8000) as CROSS (R49). -/
def served (t : Target) : TState :=
  if t.state = .split then (if t.ratio = 0 then .bar else if t.ratio = 0x8000 then .cross else .split) else t.state

/-- |θ_S| in phase units (R49). -/
def thetaAbs (t : Target) : Nat :=
  match served t with
  | .bar => 0
  | .cross => 32768
  | .split => thetaOf t.ratio
  | .park => 0
  | .retired => 0

/-- p_pad in 2 µW units: V²/r_H in VOLT mode, I_FS² r_H in CURR mode (R59). -/
def pPad (cls : ClassRec) (v rH : Nat) : Rat :=
  if cls.hMode = 1 then
    let i : Rat := 6 * (2 : Rat) ^ cls.hRange
    i * i * ((rH : Rat) / 64) / 2
  else (v : Rat) * v / (2 * ((rH : Rat) / 64))

/-- d_cap (R59). -/
def dCap (cls : ClassRec) (v rH : Nat) : Rat :=
  min (cls.cellCap : Rat) (min (pPad cls v rH) (288 * ((rH : Rat) / 64)))

/-- A heater power as it is held: 16 bits unsigned of 2 µW, with the fraction the engine carries (R47, log 4). -/
def pHeld (x : Rat) : Rat := clampR 0 65535 x

/-- A phase as it is held: signed 32 bits, with the fraction the engine carries (R47, log 4). -/
def phHeld (x : Rat) : Rat := clampR (-2147483648) 2147483647 x

/-- The candidate goal of a ladder index and a sign of θ, and the goal of PARK (R49). -/
def candFor (c : Ctx) (tg : Target) (hTrim : Rat) (j : Int) (neg : Bool) : Rat :=
  if served tg = .park then pPark c.atl c.t c.tRef
  else
    let th : Rat := if neg then -(thetaAbs tg : Rat) else thetaAbs tg
    pB c.atl c.t c.tRef + th / 65536 * c.atl.p2pi + j * c.atl.p2pi + hTrim

/-- p_goal for a ladder index and a sign of θ (R47, R49). -/
def goalFor (c : Ctx) (tg : Target) (hTrim : Rat) (j : Int) (neg : Bool) : Rat := pHeld (candFor c tg hTrim j neg)

/-- The better of two candidate goals: nearer to `s`, the lower where equally near (R49). -/
def nearer (s : Rat) (a b : Rat × Int × Bool) : Rat × Int × Bool :=
  let da := |a.1 - s|
  let db := |b.1 - s|
  if da < db then a else if db < da then b else if b.1 < a.1 then b else a

/-- Indices of the goals next to p_set on either side among those within [0, cap], for the goal `base` of j = 0 (R49): none where
none lies within. -/
def ladderJs (base p2pi cap pSet : Rat) : List Int :=
  let lo := (-base / p2pi).ceil
  let hi := ((cap - base) / p2pi).floor
  if hi < lo then [] else [clampI lo hi ((pSet - base) / p2pi).floor, clampI lo hi ((pSet - base) / p2pi).ceil]

/-- The choice of j and of the sign of θ, and whether no candidate lay within [0, d_cap] (R49, R57). -/
def ladder (c : Ctx) (tg : Target) (hTrim pSet : Rat) : Int × Bool × Bool :=
  let cap := dCap c.cls c.v c.rH
  let p2 : Rat := c.atl.p2pi
  let signs : List Bool := if served tg = .split then [false, true] else [false]
  let goal (n : Bool) (j : Int) : Rat × Int × Bool := (candFor c tg hTrim j n, j, n)
  let inside := signs.flatMap (fun n => (ladderJs (candFor c tg hTrim 0 n) p2 cap pSet).map (goal n))
  let lowest := signs.map (fun n => goal n (-(candFor c tg hTrim 0 n) / p2).ceil)
  let sgn : Bool := c.atl.sFNeg
  let dirOk := inside.filter (fun q => if sgn then decide (q.1 ≤ pSet) else decide (pSet ≤ q.1))
  let pick (l : List (Rat × Int × Bool)) : Option (Rat × Int × Bool) :=
    match l with
    | [] => none
    | x :: xs => some (xs.foldl (nearer pSet) x)
  let pref := if isUnipolar c.cls then (pick dirOk).orElse (fun _ => pick inside) else pick inside
  if served tg = .park then (0, false, false)
  else match pref with
    | some (_, j, n) => (j, n, false)
    | none => match lowest with
      | [] => (0, false, true)
      | x :: xs => let q := xs.foldl (fun a b => if b.1 < a.1 then b else a) x; (q.2.1, q.2.2, true)

/-- p_meas of a heater code (R115): VHTR in mV, κ, r_H in 1/64 Ω. -/
def pMeas (cls : ClassRec) (v : Nat) (kappa : Rat) (rH uh : Nat) : Nat :=
  let x : Rat :=
    if cls.hMode = 1 then
      let i : Rat := (uh : Rat) / 65536 * (6 * (2 : Rat) ^ cls.hRange)
      i * i * ((rH : Rat) / 64) / 2
    else (uh : Rat) / 65536 * ((v : Rat) * v / (2 * ((rH : Rat) / 64))) * kappa
  (clampI 0 0xFFFF (roundNear x)).toNat

/-- The heater code of a power (R63). -/
def heaterCode (cls : ClassRec) (v rH : Nat) (p : Rat) : Nat :=
  let pad := pPad cls v rH
  let x : Rat := if cls.hMode = 1 then sqrtR (p / pad) * 65536 else p / pad * 65536
  (clampI 0 0xFFFF (roundNear x)).toNat

/-- The pilot value for a table entry (R117). -/
def pilotCode (cls : ClassRec) (e : Int) : Int := roundAway ((cls.pilotAmp : Rat) * e / 2047)

/-- The pilot runs for BAR and CROSS in HITCH, TRACK and LIMIT (R54, R72). -/
def pilotOn (e : Eng) (tg : Target) : Bool :=
  (e.st = .hitch || e.st = .track || e.st = .limit) && !e.honly && (served tg = .bar || served tg = .cross)

/-- States in which the engine computes the cell and its heater is driven (R74). -/
def computed (e : Eng) : Bool :=
  match e.st with
  | .hitch | .track | .limit | .dark | .stuck => true
  | .hold => e.cause = .fault
  | .off | .retired => false

/-- Closed-loop states (R72). -/
def closed (e : Eng) : Bool := e.st = .hitch || e.st = .track || e.st = .limit

/-- Change of loop state with its bookkeeping: PREV, RUN (R103). -/
def goto (st : LState) (e : Eng) : Eng := if e.st = st then e else { e with prev := e.st, st := st, run := 0 }

/-- HITCH or TRACK, whichever p_set says, with the window cleared (R76). -/
def resume (e : Eng) : Eng :=
  goto (if e.pSet = e.pGoal then .track else .hitch) { e with win := [], darkRun := 0, litRun := 0 }

/-- Entry to STUCK, or straight to HOLD after sixteen episodes, with PEND_RETIRE where RETIRE_N allows automatic retirement after
frozen feedback (R73, R81, R102). DESIGN CHOICE (log 132): the counts of identical codes start anew in the retest. -/
def enterStuck (cls : ClassRec) (e : Eng) : Eng :=
  let e' := { e with beforeStuck := e.st, win := [], retest := 0, chgMb := false, chgMx := false, rerun := false,
                     sameMb := 0, sameMx := 0, phiP := 0, resp := none }
  if 16 ≤ e.stuckEpis then
    goto .hold { e' with cause := .fault, pendRetire := e.pendRetire || decide (cls.retireN ≠ 0), recRun := 0 }
  else goto .stuck e'

/-- A new target is taken (R64 steps 1 to 3, R77): ladder, p_set from the measured power, window cleared. -/
def takeTarget (c : Ctx) (tg : Target) (pmeas : Nat) (e : Eng) : Eng :=
  let (j, n, noCand) := ladder c tg e.hTrim e.pSet
  let goal := goalFor c tg e.hTrim j n
  let e := { e with taken := some tg, takeB := c.bIx + 1, j := j, thNeg := n, noCand := noCand, ladderUp := e.pGoal < goal,
                    pGoal := goal, pSet := pmeas, win := [], phiP := 0, limitN := 0, sinceTake := 0,
                    delayed := c.late, hitchAct := true, resp := none }
  if e.st = .track ∨ e.st = .limit then goto .hitch e else e

/-- Are two targets the same to the loop (R64: any change of state or of ratio)? -/
def sameTarget (a : Option Target) (b : Target) : Bool :=
  match a with
  | none => false
  | some a => a.state = b.state && a.ratio = b.ratio

/-- The delivered sample of a cell, in logical tap order (R23, R122). -/
structure LSmp where
  mb : Rat
  mx : Rat
  ovr : Bool
  rawMb : Nat
  rawMx : Nat
  /-- the pilot entry in force over the period before capture (R54) -/
  e : Int

/-- S of R78. -/
def LSmp.sum (s : LSmp) : Rat := s.mb + s.mx

/-- r of R54, where the sample has one. -/
def LSmp.ratio (s : LSmp) : Option Rat := if s.ovr ∨ s.sum ≤ 0 then none else some (s.mx / s.sum)

/-- A sample fit for the error (R55): in range and bright enough. -/
def LSmp.ok (s : LSmp) (cls : ClassRec) : Bool := !s.ovr && decide ((cls.darkLevel : Rat) ≤ s.sum)

/-- The window after the delivered sample (R55). A missed period's sample counts as excluded (R88); samples
captured before the first outputs of the target are not entered (log 10). -/
def pushWindow (c : Ctx) (s : LSmp) (e : Eng) : List (Option (Rat × Rat)) :=
  let w := c.cls.pilotWin
  let lostN := min c.lost (c.bIx - 2 - e.takeB)
  let win := List.replicate lostN none ++ e.win
  let win :=
    if c.bIx ≤ e.takeB + 1 then win
    else if s.ok c.cls then some ((s.mx - s.mb) / s.sum, (s.e : Rat) / 2047) :: win
    else none :: win
  win.take w

/-- Valid samples of a window. -/
def winValid (w : List (Option (Rat × Rat))) : Nat := (w.filter Option.isSome).length

/-- g of R54. With a pilot amplitude of zero the quotient is unstated (log 8). -/
def gradient (c : Ctx) (e : Eng) (win : List (Option (Rat × Rat))) : Rat :=
  let aPhi := (c.cls.pilotAmp : Rat) * slopeAt (fPoints c.atl.fCurve) (fRest c.cls + e.vC) / radUnits
  let tot := sumR (win.map (fun q => match q with | none => 0 | some (y, s) => y * s))
  let d := aPhi * winValid win
  if d = 0 then clampR (-1) 1 (Config.ratioOfNothing e.count) else clampR (-1) 1 (2 / d * tot)

/-- sin θ_S with its sign, its magnitude raised to at least 1/8 (R54). -/
def sigma (tg : Target) (neg : Bool) : Rat :=
  let m := max (1 / 8) (sqrtR ((tg.ratio : Rat) / 32768 * (1 - (tg.ratio : Rat) / 32768)) * 2)
  if neg then -m else m

/-- The F error (R54, R55): none where it is not valid. -/
def fError (c : Ctx) (tg : Target) (s : LSmp) (e : Eng) (win : List (Option (Rat × Rat))) : Option Rat :=
  match served tg with
  | .bar | .cross =>
    if win.length = c.cls.pilotWin ∧ 3 * c.cls.pilotWin ≤ 4 * winValid win then
      let g := gradient c e win
      some ((if served tg = .bar then -g else g) * radUnits)
    else none
  | .split =>
    if s.ok c.cls then
      some (((tg.ratio : Rat) / 32768 - s.mx / s.sum) / (sigma tg e.thNeg / 2) * radUnits)
    else none
  | .park | .retired => none

/-- p_eff advanced over one period, `n` times with the same power held (R50, R89). -/
def heatStep (p tau : Rat) (held : Rat) : Nat → Rat → Rat
  | 0, x => x
  | n + 1, x => heatStep p tau held n (x + (held - x) * p / tau)

/-- Move toward a goal by at most `d` (R65). -/
def stepToward (d goal x : Rat) : Rat := if x ≤ goal then min goal (x + d) else max goal (x - d)

/-- What the first pass leaves for the second (R59-R61). -/
structure Pass1 where
  eng : Eng
  /-- the engine computes the cell's heater -/
  driven : Bool
  /-- the heater's pad is driven, so that m_k enters Σ m_k (R59) -/
  counted : Bool := true
  dPh : Rat := 0
  cap : Rat := 0
  der : Rat := 0
  /-- the dither carried by d_ph (R83) -/
  dith : Rat := 0

/-- m_k of R59. -/
def Pass1.m (q : Pass1) : Rat := min q.dPh (min q.cap q.der)

/-- The F path of a computed period (R53, R73, R83): φ_P, φ_I, v_c, F_SAT and the code. -/
def fPath (c : Ctx) (tg : Target) (s : LSmp) (pilotNext : Int) (e : Eng) : Eng :=
  let rest := fRest c.cls
  let atRest (e : Eng) : Eng :=
    { e with vC := 0, fSat := false, uF := rest.toNat, pilotE := 0 }
  if c.pdown then atRest { e with phiP := 0, phiFf := 0, err := none }
  else if served tg = .park then
    if closed e then atRest { e with phiP := 0, phiI := 0, phiFf := 0, err := none, win := [], wv := 0 }
    else atRest { e with phiP := 0, phiFf := 0, err := none }
  else
    let ff := phHeld (etaH c.atl * (e.pGoal - e.pEff))
    let e := { e with phiFf := ff }
    if closed e then
      let win := pushWindow c s e
      let err := fError c tg s e win
      let e := { e with win := win, wv := winValid win, err := err }
      if e.honly then atRest { e with phiP := 0 }
      else
        let pp : Rat := match err with | none => 0 | some x => phHeld ((c.cls.kpF : Rat) / 4096 * x)
        let pi : Rat := match err with | none => e.phiI | some x => phHeld (e.phiI + (c.cls.kiF : Rat) / 65536 * x)
        let v := cF c.cls c.atl.fCurve (ff + pp + pi)
        let vc := clampR (fLo c.cls) (fHi c.cls) v
        let sat := v ≠ vc
        let pi := if sat then phHeld (phiOf c.cls c.atl.fCurve vc - ff - pp) else pi
        let on := pilotOn e tg
        let pil := if on then pilotCode c.cls pilotNext else 0
        { e with phiP := pp, phiI := pi, vC := vc, fSat := sat, limitN := if sat then e.limitN + 1 else e.limitN,
                 uF := (clampI 0 0xFFFF (rest + roundNear vc + pil)).toNat,
                 pilotE := if on then pilotNext else 0 }
    else if e.honly then atRest { e with phiP := 0, err := none }
    else
      let v := cF c.cls c.atl.fCurve (ff + e.phiI)
      let vc := clampR (fLo c.cls) (fHi c.cls) v
      { e with phiP := 0, err := none, wv := 0, vC := vc, fSat := v ≠ vc,
               uF := (clampI 0 0xFFFF (rest + roundNear vc)).toNat, pilotE := 0 }

/-- The response test starts with a large F jump toward a target served as BAR or CROSS (R49, R80). -/
def startResp (tg : Target) (before : Eng) (e : Eng) : Eng :=
  if closed before ∧ !e.honly ∧ (served tg = .bar ∨ served tg = .cross) ∧ 16384 ≤ |e.phiFf - before.phiFf| then
    { e with resp := some { up := decide (served tg = .cross) } }
  else e

/-- The response test looks at the delivered sample (R80): that of B gives r_B, those of B + P and B + 2P are examined, and from the
second on JUMP_MISS stands unless either showed the jump. A sample without a ratio, or of a lost period, shows none; without r_B
there is no test (log 20). -/
def lookResp (c : Ctx) (s : LSmp) (e : Eng) : Eng :=
  match e.resp with
  | none => e
  | some q =>
    if c.bIx ≤ e.takeB then e
    else match q.rB with
      | none => { e with resp := if c.bIx = e.takeB + 1 then s.ratio.map (fun r => { q with rB := some r, lo := r, hi := r }) else none }
      | some r0 =>
        let exam := decide (c.bIx ≤ e.takeB + 3)
        let moved := match s.ratio with
          | none => false
          | some r => exam && (if q.up then decide (1 / 4 ≤ r - r0) else decide (1 / 4 ≤ r0 - r))
        if moved then { e with resp := none, frespConsec := 0 }
        else
          let miss := q.miss || decide (e.takeB + 3 ≤ c.bIx)
          let q := match s.ratio with
            | none => q
            | some r => { q with lo := min q.lo r, hi := max q.hi r }
          { e with resp := some { q with seen := if exam then q.seen + 1 else q.seen, miss := miss },
                   fault := if miss then e.fault ||| 0x80 else e.fault }

/-- Run counters of the dark, lit, frozen and recovery tests on the delivered sample (R76, R78, R79). DESIGN CHOICE (log 132): runs of
identical codes are counted whatever the target, so that STUCK can follow a PARK target's end at once. -/
def countRuns (c : Ctx) (tg : Target) (s : LSmp) (e : Eng) : Eng :=
  let sameB := e.lastMb = some s.rawMb
  let sameX := e.lastMx = some s.rawMx
  let lit := s.ovr || decide ((2 * c.cls.darkLevel : Nat) ≤ s.sum)
  let darkS := !s.ovr && decide (s.sum < (c.cls.darkLevel : Rat))
  let park := tg.state = .park
  let nb := if sameB then e.sameMb + 1 else 0
  let nx := if sameX then e.sameMx + 1 else 0
  let e := { e with lastMb := some s.rawMb, lastMx := some s.rawMx, sameMb := nb, sameMx := nx,
                    darkRun := if closed e && !park && darkS then e.darkRun + 1 else 0,
                    litRun := if e.st = LState.dark ∧ lit = true then e.litRun + 1 else 0 }
  match e.st with
  | .stuck =>
    { e with retest := e.retest + 1, chgMb := e.chgMb || !sameB, chgMx := e.chgMx || !sameX,
             rerun := e.rerun || decide (c.cls.stuckK ≤ nb) || decide (c.cls.stuckK ≤ nx) }
  | .hold => if e.cause = HoldCause.fault then { e with recRun := if nb < 16 ∧ nx < 16 then e.recRun + 1 else 0 } else e
  | .off | .hitch | .track | .dark | .limit | .retired => e

/-- The first pass over a cell (R50): everything up to the heater demands. -/
def pass1 (c : Ctx) (tg : Target) (s : LSmp) (pmeas : Nat) (pilotNext : Int) (e0 : Eng) : Pass1 :=
  if computed e0 = false then { eng := e0, driven := false }
  else
    let fresh := (!sameTarget e0.taken tg) && !c.pdown && tg.state ≠ .retired
    let e := if fresh then takeTarget c tg pmeas e0 else e0
    let e := if e.count % c.cls.hDiv = 0 then { e with barSum := 0, barN := 0, barInvalid := 0, hDue := false } else e
    let e := { e with pEff := pHeld (heatStep c.p ((c.atl.tauH : Rat) / 10) e.pWin (c.lost + 1) e.pEff) }
    let tg' := e.taken.getD tg
    let e := { e with pGoal := if c.pdown then 0 else goalFor c tg' e.hTrim e.j e.thNeg,
                      unipolar := isUnipolar c.cls }
    let e := fPath c tg' s pilotNext e
    let e := if fresh then startResp tg' e0 e else e
    let e := if c.pdown then e else lookResp c s e
    let e := if c.pdown then e else countRuns c tg' s e
    let rate : Rat := if c.pdown then max (c.cls.downRate : Rat) (c.ramp0 / 1900) else c.cls.rampRate
    let base := if fresh then e.pSet else stepToward (rate * c.p) e.pGoal e.pSet
    let dithOn := e.honly && e.st = .track && !c.pdown && (served tg' = .bar || served tg' = .cross)
    let dith : Rat := if dithOn then (if e.dithNeg then -1 else 1) * (c.atl.p2pi : Rat) / 512 else 0
    { eng := e, driven := true, counted := !c.hParked, dPh := max 0 (base + dith), cap := dCap c.cls c.v c.rH, der := c.der, dith := dith }

/-- Statistics of the H path and of the heater-only loop gathered at the period's end (R58, R83): φ_P + φ_I and the validity of the
F error over every computed period. -/
def gather (c : Ctx) (tg : Target) (s : LSmp) (e : Eng) : Eng :=
  let count := e.count + 1
  let e := { e with count := count, sinceTake := e.sinceTake + 1, run := sat32 e.run, barSum := e.barSum + (e.phiP + e.phiI),
                    barN := e.barN + 1, barInvalid := e.barInvalid + b2n e.err.isNone }
  if c.pdown ∨ !closed e then { e with hDue := false, flipDue := false }
  else if e.honly then
    match served tg with
    | .bar | .cross =>
      if e.st = .track then
        let n := e.dithN + 1
        let e := match s.ratio with
          | none => e
          | some r => if e.dithNeg then { e with rMinus := e.rMinus + r, rMinusN := e.rMinusN + 1 }
                      else { e with rPlus := e.rPlus + r, rPlusN := e.rPlusN + 1 }
        { e with dithN := n, flipDue := decide (c.cls.pilotWin ≤ n), hDue := false }
      else e
    | .split =>
      let e := match e.err with | none => e | some x => { e with ratSum := e.ratSum + x, ratN := e.ratN + 1 }
      { e with hDue := decide (count % c.cls.hDiv = 0) }
    | .park | .retired => { e with hDue := false }
  else
    { e with hDue := decide (count % c.cls.hDiv = 0) && tg.state ≠ .park }

/-- The second pass: s_c, the winner, p_win and the code (R59-R61, R63). -/
def pass2 (c : Ctx) (sc : Rat) (q : Pass1) : Eng :=
  if q.driven = false then q.eng
  else
    let bud := sc * q.m
    let win := min q.m bud
    let w : Winner :=
      if win = q.dPh then .phase else if win = q.cap then .cap else if win = q.der then .derate else .budget
    let e := q.eng
    let pSet := if w = .phase then win - q.dith else win
    { e with pWin := win, pSet := max 0 pSet, winner := w, uH := heaterCode c.cls c.v c.rH win }

/-- Frozen feedback by the code test holds (R79). -/
def frozenCode (c : ClassRec) (e : Eng) : Bool :=
  (closed e || decide (e.st = LState.dark)) && (decide (c.stuckK ≤ e.sameMb) || decide (c.stuckK ≤ e.sameMx)) &&
    (match e.taken with | some t => t.state ≠ .park | none => true)

/-- The dark condition holds (R78). -/
def darkCond (e : Eng) : Bool := closed e && decide (8 ≤ e.darkRun)

/-- What the transitions of a period raise (R101). -/
inductive LoopEv where
  | none | dark | stuck | limit
  deriving DecidableEq, Repr

/-- A cell becomes heater-only in service: F_FAIL, HONLY, and F_REST with the pilot off from the next boundary (R82). -/
def makeHonly (cls : ClassRec) (e : Eng) : Eng :=
  { e with honly := true, fault := e.fault ||| 0x20, dithNeg := false, dithN := 0, rPlus := 0, rPlusN := 0, rMinus := 0,
           rMinusN := 0, resp := none, vC := 0, fSat := false, uF := (fRest cls).toNat, pilotE := 0 }

/-- The F response miss is counted, and after two the cell is heater-only (R80, R82). -/
def fRespMiss (cls : ClassRec) (e : Eng) : Eng :=
  let n := sat8 e.frespConsec
  let e := { e with frespConsec := n, fault := e.fault ||| 0x10, resp := none }
  if 2 ≤ n then makeHonly cls e else e

/-- The first transition that holds at the period's end, in the order of R75. Frozen feedback by the code test and
the dark condition have commands of their own, so where they hold nothing below them is applied. -/
def transition (c : Ctx) (tg : Target) (e : Eng) : Eng × LoopEv :=
  if c.pdown then (e, .none)
  else if e.st = .hold ∧ e.pendRetire ∧ (tg.state = .park ∨ !c.circuit) then
    ({ (goto .retired e) with pendRetire := false }, .none)
  else
    let hitchOver := e.pSet = e.pGoal
    let watched := match e.resp with | none => false | some q => q.miss && closed e && hitchOver
    let varied := match e.resp with | none => false | some q => decide (1 / 4 ≤ q.hi - q.lo)
    if watched && !varied then
      (enterStuck c.cls { e with fault := e.fault ||| 0x08 }, .stuck)
    else
      let e := if watched then fRespMiss c.cls e else e
      if frozenCode c.cls e || darkCond e then (e, .none)
      else if (e.st = .hitch ∨ e.st = .track) ∧ e.fSat then
        ({ (goto .limit e) with limitEntries := sat8 e.limitEntries, fault := e.fault ||| 0x01 }, .limit)
      else if e.st = .limit ∧ e.fSat = false then
        (goto (if hitchOver then .track else .hitch) e, .none)
      else if e.st = .hitch ∧ hitchOver then (goto .track e, .none)
      else (e, .none)

/-- The end of a computed period for one cell: statistics, then transitions (R75). HITCH_ACT lasts from the taking of a new target
until p_set first meets p_goal (R71, log 129). -/
def finish (c : Ctx) (s : LSmp) (e : Eng) : Eng × LoopEv :=
  if computed e = false then (e, .none)
  else
    let tg := e.taken.getD {}
    let (e', ev) := transition c tg (gather c tg s e)
    ({ e' with hitchAct := e'.hitchAct && decide (e'.pSet ≠ e'.pGoal) }, ev)

/-- h_trim limited so that p_goal stays within [0, d_cap] (R58). -/
def trimLimit (c : Ctx) (e : Eng) (h : Rat) : Rat :=
  let base := candFor c (e.taken.getD {}) 0 e.j e.thNeg
  clampR (-base) (dCap c.cls c.v c.rH - base) h

/-- h_trim takes a new value, and p_goal moves with it at once (R49, R58). -/
def moveTrim (h : Rat) (e : Eng) : Eng := { e with hTrim := h, pGoal := pHeld (e.pGoal + (h - e.hTrim)) }

/-- The H-path update (R58), and the SPLIT update of a heater-only cell (R83.4). It is held where no candidate goal lay within
[0, d_cap] (R49). DESIGN CHOICE (log 132): M periods without a valid ratio of a heater-only cell count as a mean of 0. -/
def hUpdate (c : Ctx) (e : Eng) : Eng :=
  let tg := e.taken.getD {}
  let eta := etaH c.atl
  let limit (h : Rat) : Rat := trimLimit c e h
  if e.hDue = false then e
  else if e.noCand then { e with hDue := false, ratSum := 0, ratN := 0 }
  else if e.honly then
    let mean : Rat := if e.ratN = 0 then 0 else e.ratSum / e.ratN
    { (moveTrim (limit (e.hTrim - (c.cls.kiH : Rat) / 65536 * mean / eta)) e) with hDue := false, ratSum := 0, ratN := 0 }
  else if e.winner ≠ .phase ∨ e.barN < 2 * e.barInvalid ∨ tg.state = .park ∨ e.barN = 0 then { e with hDue := false }
  else
    let bar := e.barSum / e.barN
    let d := ((c.cls.kpH : Rat) / 4096 * (bar - e.barPrev) + (c.cls.kiH : Rat) / 65536 * bar) / eta
    let h := limit (e.hTrim + d)
    { (moveTrim h e) with hDue := false, phiI := e.phiI - eta * (h - e.hTrim), barPrev := bar }

/-- The dither of a heater-only cell reverses, and after a pair of halves h_trim moves (R83.3). DESIGN CHOICE (log 132): a half without
a valid ratio gives no update, and the sums of a half under way are kept when a new target is taken. -/
def ditherFlip (c : Ctx) (e : Eng) : Eng :=
  let tg := e.taken.getD {}
  if e.flipDue = false then e
  else
    let e := { e with flipDue := false, dithN := 0, dithNeg := !e.dithNeg }
    if e.dithNeg then e
    else if e.noCand ∨ e.rPlusN = 0 ∨ e.rMinusN = 0 then { e with rPlus := 0, rPlusN := 0, rMinus := 0, rMinusN := 0 }
    else
      let sg : Rat := if served tg = .bar then 1 else -1
      let err := sg * (e.rPlus / e.rPlusN - e.rMinus / e.rMinusN) * radUnits / (12272 / 1000000)
      { (moveTrim (trimLimit c e (e.hTrim - (c.cls.kiH : Rat) / 65536 * err / etaH c.atl)) e) with
        rPlus := 0, rPlusN := 0, rMinus := 0, rMinusN := 0 }

end Sys2Proof.Machine
end

