-- ==== Sys2Proof/Machine/StFabric.lean ====
section
/-! DEFINITION. State of rearrangement: circuits, plans, epochs, the solver's queue and the FAB slots (R133-R160). -/

namespace Sys2Proof.Machine

/-- One cell of a circuit's path: the physical cell, its state and the arm by which light enters (R29). -/
structure PStep where
  cell : Nat
  st : TState
  arm : Nat := 0
  deriving DecidableEq, Repr

/-- An established or projected circuit: its port ends and its path through SWITCH cells (R32). -/
structure Circuit where
  inst : Nat
  inp : Nat
  out : Nat
  path : List PStep
  deriving DecidableEq, Repr

/-- A cell's target in a solution. -/
structure CellTgt where
  cell : Nat
  st : TState
  ratio : Nat := 0
  deriving DecidableEq, Repr

/-- `FAB_EP_CTRL.STATE` (R160). -/
inductive EpState where
  | free | pending | armed | sealedE | openE | closed
  deriving DecidableEq, Repr

/-- STATE codes (R160). -/
def EpState.code : EpState → Nat
  | .free => 0 | .pending => 1 | .armed => 2 | .sealedE => 3 | .openE => 4 | .closed => 5

/-- How far a pending epoch's plan has come (R133-R147). -/
inductive PlanStage where
  /-- opened, or blocked and left open: takes further changes -/
  | open_
  /-- committed: queued or being solved -/
  | queued
  /-- solved: waits for its boundary or its event -/
  | solved
  deriving DecidableEq, Repr

/-- An exception entry of an epoch report (R158). -/
structure Exc where
  cell : Nat
  kind : Nat
  dur : Nat := 0
  deriving DecidableEq, Repr

/-- STATUS of an epoch report (R158). -/
inductive EpStatus where
  | none | done | spliced | expired | aborted | cancelled
  deriving DecidableEq, Repr

/-- STATUS codes (R158). -/
def EpStatus.code : EpStatus → Nat
  | .none => 0 | .done => 1 | .spliced => 2 | .expired => 3 | .aborted => 4 | .cancelled => 5

/-- An epoch: its FAB slot's fields, its plan, its solution and its report (R143-R160). -/
structure Epoch where
  /-- EPOCH, 16 bits (R143) -/
  num : Nat := 0
  /-- EPOCH_EXT, 48 bits (R143) -/
  ext : Nat := 0
  /-- INST, 2 bits (R160) -/
  inst : Nat := 0
  /-- owner host that asked -/
  host : Nat := 0
  /-- STATE, 3 bits (R160) -/
  st : EpState := .pending
  stage : PlanStage := .open_
  changes : List PlanChange := []
  /-- the plan is one CONNECT or DISCONNECT (R133) -/
  single : Bool := false
  /-- command code, TAG and ACCEPT_MOVES of the commit command whose completion is still due -/
  code : Nat := 0
  tag : Word := 0
  acceptMoves : Bool := false
  /-- the number of that command on its port (R210) -/
  seq : Nat := 0
  /-- a completion is due for this epoch's commit command -/
  owed : Bool := false
  /-- requested instant (R158 REQ_S, REQ_NS) -/
  reqS : Nat := 0
  reqNs : Nat := 0
  /-- EVENT and CHANNEL (R147) -/
  event : Bool := false
  channel : Nat := 0
  /-- B in TAI ns, once placed (R144) -/
  b : Option Int := none
  /-- `FAB_COMMIT_AT` has been loaded (R146) -/
  loaded : Bool := false
  /-- P_E in ns (R144) -/
  pE : Nat := 1000
  /-- the final solution (R137) -/
  targets : List CellTgt := []
  /-- targets latched at the seal (R150) -/
  staged : List CellTgt := []
  /-- circuits the solution removes (by IN port end) and sets -/
  removed : List Nat := []
  put : List Circuit := []
  made : Nat := 0
  broken : Nat := 0
  moved : Nat := 0
  /-- late writes: cell and µs after S; all of them, the first 64 listed (R150) -/
  late : List (Nat × Nat) := []
  /-- FOLLOW (R151) -/
  follow : Nat := 0
  /-- cells changed at B (R152) -/
  cells : Nat := 0
  excs : List Exc := []
  undone : Nat := 0
  superseded : Nat := 0
  /-- flags DELAYED, TIME_STEP, ERA_STALE (R158) -/
  timeStep : Bool := false
  eraStale : Bool := false
  /-- ERA and WNS captured at B (R158); `FAB_EP_ERA` -/
  atEra : Nat := 0
  atWns : Nat := 0
  /-- B has occurred -/
  atB : Bool := false
  /-- the arrival that placed an event commit, where one came (R147) -/
  goAt : Option Int := none
  /-- S and B as hardware counts them: the instants moved along with every step of the counters, TAI ns (R148, R150, R155) -/
  sealAt : Option Int := none
  openAt : Option Int := none
  /-- B passed before the final solution was known: its circuits are not established yet (R151) -/
  carry : Bool := false
  /-- targets of the final solution that did not become live at B (R151) -/
  missed : List CellTgt := []
  closeUs : Nat := 0
  status : EpStatus := .none
  deriving DecidableEq, Repr

/-- One FAB slot (R160): its registers, and firmware's record of the epoch in it. -/
structure FabSlot where
  ep : Option Epoch := none
  /-- `FAB_COMMIT_AT`, 32 bits (R160) -/
  commitAt : Word := 0
  /-- the CTRL fields left in a FREE slot, 32 bits (R160) -/
  ctrl : Word := 0
  /-- `FAB_EP_ERA`, 32 bits (R160) -/
  era : Nat := 0
  /-- `FAB_EP_CELLS`[15:0], cells changed (R160) -/
  changed : Nat := 0
  /-- `FAB_EP_LATE`, 16 bits (R160) -/
  lateN : Nat := 0
  deriving DecidableEq, Repr

/-- An item of the solver's queue (R136): the epoch by EPOCH_EXT. -/
structure SolveItem where
  host : Nat
  ext : Nat
  deriving DecidableEq, Repr

/-- Rearrangement state. -/
structure Fab where
  slots : List FabSlot := List.replicate 8 {}
  /-- epochs that wait for a FREE slot, oldest first: of a PLAN_OPEN, a CONNECT or DISCONNECT, or a follow-on (R160) -/
  slotWait : List Epoch := []
  /-- established circuits (R134) -/
  circuits : List Circuit := []
  /-- last epoch number allocated, 16 bits (R143) -/
  lastNum : Nat := 0
  /-- EPOCH_EXT, 48 bits (R143) -/
  ext : Nat := 0
  /-- items queued, in arrival order (R136); `FAB_QUEUE` counts them -/
  queue : List SolveItem := []
  /-- re-solves ahead of the queue, by EPOCH_EXT (R153) -/
  resolves : List Nat := []
  /-- the item the solver holds, and whether it is a re-solve; SOLVER_BUSY (R136, R160) -/
  busy : Option (Nat × Bool) := none
  /-- host last served (R136); H0 is served first after reset -/
  lastHost : Nat := 3
  /-- `FAB_LAST`: latest sealed and committed epoch, 16 bits each (R160) -/
  lastSealed : Nat := 0
  lastCommitted : Nat := 0
  /-- `FAB_LATE_TOTAL`, 32 bits, saturating (R160) -/
  lateTotal : Nat := 0
  /-- `FAB_SPLICE_CNT`, 32 bits, saturating (R160) -/
  spliceCnt : Nat := 0
  /-- B and period of committed boundaries still relevant to R145, TAI ns -/
  lastBoundary : Option (Int × Nat) := none
  /-- boundary of the latest EPOCH_DONE and the instances it was raised for (R155) -/
  doneAt : Option (Int × List Nat) := none
  /-- number of the latest closed epoch of each instance, 16 bits (R208) -/
  lastClosed : List Nat := [0, 0, 0, 0]
  /-- circuits, by instance and IN port end, whose latest try to move off a PEND_RETIRE cell found no path (R139) -/
  retireRetry : List (Nat × Nat) := []
  /-- instances whose circuits are moved one by one, since a joint plan found no path (R139) -/
  retireSingly : List Nat := []
  deriving DecidableEq, Repr

end Sys2Proof.Machine
end

