-- ==== Sys2Proof/Machine/StTime.lean ====
section
/-! DEFINITION. State of the time base (R161-R191) and of the network paths (R192-R203). -/

namespace Sys2Proof.Machine

/-- Servo states (R180). -/
inductive SrvState where
  | freerun | acquire | locked | holdover
  deriving DecidableEq, Repr

/-- STATE codes (R180, R191). -/
def SrvState.code : SrvState → Nat
  | .freerun => 0 | .acquire => 1 | .locked => 2 | .holdover => 3

/-- A stamp of the time base (R171): ERA, WNS, SPH and the ERA_STALE bit. -/
structure Stamp where
  era : Nat := 0
  wns : Nat := 0
  sph : Nat := 0
  stale : Bool := false
  deriving DecidableEq, Repr

/-- A compare unit (R174, R191). -/
structure Cmp where
  /-- `TIME_CMP_CTRL` fields -/
  armed : Bool := false
  stepDisarm : Bool := false
  late : Bool := false
  armErr : Bool := false
  periodic : Bool := false
  /-- `TIME_CMP_TGT`, 32 bits -/
  tgt : Nat := 0
  /-- `TIME_CMP_PER`, 32 bits -/
  per : Nat := 1000
  deriving DecidableEq, Repr

/-- A capture unit (R176, R191). -/
structure Cap where
  /-- OVR_CNT, 8 bits, saturating -/
  ovrCnt : Nat := 0
  ovr : Bool := false
  full : Bool := false
  /-- CHANNEL, 7 bits -/
  channel : Nat := 0
  /-- EDGE, 2 bits -/
  edge : Nat := 0
  /-- SRC, 5 bits -/
  src : Nat := 0
  /-- `TIME_CAP_WNS`, `TIME_CAP_ERA`, `TIME_CAP_SPH` -/
  stamp : Stamp := {}
  deriving DecidableEq, Repr

/-- A bin of the frequency table (R182): the committed y_b and n_b, and the Y value written but not yet committed. -/
structure FtBin where
  /-- committed y_b, 32 bits, signed ppt -/
  y : Rat := 0
  /-- `TIME_FT_Y` as last written, signed ppt -/
  yReg : Int := 0
  /-- n_b, 0–64 -/
  n : Nat := 0
  valid : Bool := false
  deriving DecidableEq, Repr

/-- The time base (R161-R191). -/
structure Time where
  /-- `TIME_STATUS.RUN` (R191) -/
  run : Bool := false
  /-- `TIME_STATUS.PLL_LOCK` (R191) -/
  pllLock : Bool := false
  /-- `TIME_STATUS.REF_LOST` (R191) -/
  refLost : Bool := false
  /-- `TIME_STATUS.REF_LOST_SEEN`, W1C (R191) -/
  refLostSeen : Bool := false
  /-- `TIME_STATUS.ERA_STALE` (R191) -/
  eraStale : Bool := false
  /-- `TIME_STATUS.ERA_AUTO`, W1C (R191) -/
  eraAuto : Bool := false
  /-- `TIME_STATUS.ERA_WR_ERR`, W1C (R191) -/
  eraWrErr : Bool := false
  /-- `TIME_STATUS.STEP_PEND`: the pending D in ns (R167) -/
  stepPend : Option Int := none
  /-- `TIME_STATUS.LOAD_PEND` (R191) -/
  loadPend : Bool := false
  /-- `TIME_STATUS.STEP_ERR`, W1C (R191) -/
  stepErr : Bool := false
  /-- `TIME_STATUS.STEP_CNT`, 16 bits, saturating (R191) -/
  stepCnt : Nat := 0
  /-- `TIME_CTRL.STEP_EN`, `EFC_MODE` (R191) -/
  stepEn : Bool := false
  efcMode : Bool := false
  /-- `TIME_WNS`, 32 bits (R164) -/
  wns : Nat := 0
  /-- `TIME_ERA`, 32 bits (R170) -/
  era : Nat := 0
  /-- `TIME_SPH`, 30 bits (R165) -/
  sph : Nat := 0
  /-- the shared fraction accumulator, 32 bits (R163) -/
  frac : Nat := 0
  /-- `TIME_INC_NS` and `TIME_INC_FRAC` as the 40-bit INC (R163) -/
  inc : Nat := 4 * 2 ^ 32
  /-- rounding residue carried to the next load of INC (R163) -/
  residue : Rat := 0
  /-- `TIME_STEP`, 32 bits (R191) -/
  stepReg : Word := 0
  /-- `TIME_LOAD_ERA`, `TIME_LOAD_WNS`, `TIME_LOAD_SPH` (R191) -/
  loadEra : Word := 0
  loadWns : Word := 0
  loadSph : Word := 0
  /-- `TIME_TOS_ERA`, `TIME_TOS_WNS`, 32 bits each (R165) -/
  tosEra : Nat := 0
  tosWns : Nat := 0
  /-- ERA_STALE at the latest top of the second (R171) -/
  tosStale : Bool := false
  /-- extended time of the latest step or load (R169) -/
  stepZ : Option Int := none
  /-- `TIME_REF_STAT`: DET_VALID and FREQ (R191) -/
  refValid : Bool := false
  refFreq : Nat := 0
  /-- `TIME_SRV_STATE.STATE`, 2 bits (R180) -/
  srv : SrvState := .freerun
  /-- `TIME_SRV_STATE.OFS_IGN`, 8 bits, saturating (R191) -/
  ofsIgn : Nat := 0
  /-- `TIME_SRV_STATE.HO_SPEC` (R191) -/
  hoSpec : Bool := false
  /-- `TIME_SRV_STATE.LOCK_RUN`, 8 bits, saturating (R191) -/
  lockRun : Nat := 0
  /-- over_run of R179 -/
  overRun : Nat := 0
  /-- `TIME_SRV_KP`, `TIME_SRV_KI`, Q16.16 (R191) -/
  kp : Word := 0x00640000
  ki : Word := 0x00002800
  /-- `TIME_SRV_I`, signed ppt (R191) -/
  i : Rat := 0
  /-- y_srv in ppt (R179) -/
  ySrv : Rat := 0
  /-- `TIME_Y_TOTAL`, signed ppt (R191) -/
  y : Rat := 0
  /-- `TIME_SRV_STEP_THR`, 32 bits (R191) -/
  stepThr : Word := 100000
  /-- `TIME_SRV_LOCK_THR`, 16 bits (R191) -/
  lockThr : Word := 100
  /-- `TIME_SRV_FIN`, 32 bits, signed ppt (R191) -/
  fin : Word := 0
  /-- `TIME_DRIFT`, signed Q24.8 ppt per hour (R191) -/
  drift : Word := 0
  /-- extended time of the entry to HOLDOVER, from which `TIME_HO_SEC` counts (R184) -/
  hoAt : Option Int := none
  /-- `TIME_OSC_T`, °C (R182) -/
  oscT : Rat := 0
  /-- `TIME_Y_TEMP`, signed ppt (R182) -/
  yT : Rat := 0
  /-- y_D in ppt (R184) -/
  yD : Rat := 0
  /-- `TIME_SYNT_CNT`, 32 bits (R186) -/
  syntCnt : Word := 0
  /-- `TIME_PPS_CTRL`: WIDTH (24 bits), FREE_OUT, GATED, EN (R191) -/
  ppsWidth : Nat := 100000
  ppsFree : Bool := false
  ppsGated : Bool := false
  ppsEn : Bool := false
  /-- `TIME_PPS_OFS`, signed ns (R191) -/
  ppsOfs : Word := 0
  /-- a PPS_OUT_GATE event arrived since the previous rising instant (R178) -/
  ppsGate : Bool := false
  /-- level of the PPS_OUT pin (R178) -/
  ppsOut : Bool := false
  /-- extended time of the latest rising instant of PPS_OUT (R178) -/
  ppsRiseAt : Option Int := none
  /-- TIME_CMP0–7 (R174) -/
  cmps : List Cmp := List.replicate 8 {}
  /-- TIME_CAP0–7 (R176) -/
  caps : List Cap := List.replicate 8 {}
  /-- the frequency table, 128 bins (R182) -/
  ft : List FtBin := List.replicate 128 {}
  /-- PPS_IN: the stamp of a rising edge being qualified (R177) -/
  ppsRise : Option Stamp := none
  /-- extended time of that edge (R177) -/
  ppsInAt : Option Int := none
  /-- consecutive valid PPS_IN edges since HOLDOVER (R181) -/
  ppsGood : Nat := 0
  /-- firmware's origin pair (S_O, O) (R166) -/
  originS : Nat := 0
  originX : Int := 0
  /-- an origin has been set from PTP (R177) -/
  originPtp : Bool := false
  /-- extended time at entry to LOCKED (R183) -/
  lockedAt : Int := 0
  /-- sums over the running 16 s: y_T + y_srv, oscillator temperature, updates, and an update above LOCK_THR (R183) -/
  learnY : Rat := 0
  learnT : Rat := 0
  learnN : Nat := 0
  learnBad : Bool := false
  /-- sums of I over the running hour, and the hourly means, newest first (R184) -/
  hourI : Rat := 0
  hourN : Nat := 0
  hours : List Rat := []
  /-- the 16-gate filter of FIN, newest first, ppt (R186) -/
  gates : List Rat := []
  deriving DecidableEq, Repr

/-- One network port (R203). -/
structure NetPort where
  /-- power of the path's domain; `NETx_PORT_STAT.POWERED` (R203) -/
  pow : DPow := .off
  /-- `HI_BER` (R203) -/
  hiBer : Bool := false
  /-- `RX_LOCK` (R203) -/
  rxLock : Bool := false
  /-- `LINK` (R203) -/
  link : Bool := false
  /-- `RATE` (R203) -/
  rate : Bool := false
  /-- SerDes `PLL_LOCK` (R203) -/
  pll : Bool := false
  /-- `NETx_LINKDN_CNT`, 32 bits, saturating (R203) -/
  linkDn : Nat := 0
  /-- `NETx_TXABORT_CNT`, 32 bits, saturating (R203) -/
  txAbort : Nat := 0
  /-- `NETx_RXDROP_CNT`, 32 bits, saturating (R203) -/
  rxDrop : Nat := 0
  /-- extended time at which the frame sent last has left the port (R201, log 73) -/
  sendEnd : Int := 0
  deriving DecidableEq, Repr

/-- A Sync waiting for its Follow_Up or its delay measurement (R189, R201): path, master, sequence, the corrected
receive time and, once known, the origin time. Times in TAI ns. -/
structure SyncEx where
  path : Bool
  master : Nat
  seq : Nat
  rx : Rat
  tx : Option Rat := none
  deriving DecidableEq, Repr

/-- A Delay_Req sent, and the corrected receipt time of its Delay_Resp once that is known (R188, R201). -/
structure DelayEx where
  path : Bool
  master : Nat
  seq : Nat
  tx : Rat
  rx : Option Rat := none
  deriving DecidableEq, Repr

/-- PORT_DS of the retention snapshot (R200). -/
structure PortDs where
  domain : Nat := 0
  /-- PROFILE of the TIME section: 2 is G.8275.2, over UDP (R188) -/
  profile : Nat := 0
  pcp : Nat := 0
  vid : Nat := 0
  /-- transport: UDP, else Ethernet (R188) -/
  udp : Bool := false
  /-- message intervals, as rates per second: Announce, Sync, Delay_Req (R188) -/
  annRate : Nat := 8
  syncRate : Nat := 16
  delayRate : Nat := 16
  /-- port identity: clock identity and portNumber (R192) -/
  clockId : Nat := 0
  portNumber : Nat := 1
  deriving DecidableEq, Repr

/-- A unicast grant of a master (R188, R200): its address and the rates negotiated, per second. -/
structure Grant where
  addr : Nat := 0
  ann : Nat := 8
  sync : Nat := 16
  delay : Nat := 16
  deriving DecidableEq, Repr

/-- One copy of the retention snapshot: the fields of R200's layout, which `Snap.bytes` lays out in 4 KiB. -/
structure Snap where
  format : Nat := 1
  seq : Nat := 0
  /-- path active when written -/
  port : Bool := false
  rate : Bool := false
  taiS : Nat := 0
  portDs : PortDs := {}
  /-- PARENT_DS: the selected master's dataset -/
  parent : Option Announce := none
  foreign : List Announce := []
  /-- GRANT: the unicast grants -/
  grants : List Grant := []
  /-- SERVO: the state before the failover, the latest θ, the offset filter's bytes, and the lock history, LOCK_RUN and over_run -/
  srvBefore : SrvState := .freerun
  lastTheta : Int := 0
  ofsFilter : List Byte := []
  lockRun : Nat := 0
  overRun : Nat := 0
  mpdA : Option Rat := none
  mpdB : Option Rat := none
  /-- FILTER: the path-delay filter's configuration -/
  filter : List Byte := []
  /-- NEIGH: addresses of the masters that firmware has heard -/
  neigh : List Nat := []
  /-- CRC, the last four bytes -/
  crc : Nat := 0
  deriving DecidableEq, Repr

/-- The network paths and firmware's PTP state (R188-R203). -/
structure Net where
  /-- `NETA_CLEAT.REFUSED`, W1C (R203) -/
  refused : Bool := false
  /-- `NETA_CLEAT.BBM_WAIT` (R203) -/
  bbmWait : Bool := false
  /-- levels of NETA_TXDIS and NETB_TXDIS (R194) -/
  aTxdis : Bool := true
  bTxdis : Bool := true
  /-- `A_TXEN`, `B_TXEN` (R203) -/
  aTxen : Bool := false
  bTxen : Bool := false
  /-- each pin has been high for 50 µs (R195) -/
  aHigh50 : Bool := true
  bHigh50 : Bool := true
  /-- `NETA_PATH.AT_STALE` (R203) -/
  atStale : Bool := false
  /-- `NETA_PATH.STORM`, W1C (R203) -/
  storm : Bool := false
  /-- `NETA_PATH.CAUSE`, 2 bits (R203) -/
  cause : Nat := 0
  /-- `NETA_PATH.FAILING`, W1C (R203) -/
  failing : Bool := false
  /-- firmware's own steps of a failover wait for its return (R199) -/
  fwDue : Bool := false
  /-- `NETA_PATH.STANDBY_FITTED` (R203) -/
  standbyFitted : Bool := false
  /-- `NETA_PATH.ACTIVE`: true for NET-B (R203) -/
  active : Bool := false
  /-- `NETA_FO_CFG`, 32 bits (R203) -/
  foCfg : Word := 0x001E0A00
  /-- `NETA_FO_AT`, `NETA_FO_ERA` (R203) -/
  foAt : Nat := 0
  foEra : Nat := 0
  /-- extended time of the latest accepted trigger, moved along with the counters (R169, R199) -/
  trigX : Int := 0
  /-- `NETA_FO_CNT`: IGNORED and failovers, 16 bits each, saturating (R203) -/
  ignored : Nat := 0
  failovers : Nat := 0
  /-- HOLDDOWN runs since the latest completion (R197) -/
  holddown : Bool := false
  /-- extended time at the latest completion, none before the first (R198) -/
  doneAt : Option Int := none
  /-- the running failover is automatic and began less than 60 s after the previous completion (R198) -/
  isRepeat : Bool := false
  /-- consecutive repeats completed (R198) -/
  repeats : Nat := 0
  /-- a standing link-loss trigger (R196) -/
  standing : Bool := false
  a : NetPort := {}
  b : NetPort := {}
  /-- the two retention snapshot copies, none after the wipe (R200) -/
  snaps : List (Option Snap) := [none, none]
  /-- firmware's PTP state: foreign masters, selected master, exchanges (R188) -/
  foreign : List Announce := []
  sel : Option Nat := none
  syncs : List SyncEx := []
  delays : List DelayEx := []
  /-- next Delay_Req sequence number, 16 bits -/
  delaySeq : Nat := 0
  /-- mean path delay of each path, ns (R200) -/
  mpdA : Option Rat := none
  mpdB : Option Rat := none
  /-- servo state before the failover (R200) -/
  srvBefore : SrvState := .freerun
  /-- the latest θ, Q24.8 ns -/
  lastTheta : Int := 0
  /-- announce intervals in a row with a qualified selected master, for the return to ACQUIRE (R181) -/
  qualified : Nat := 0
  /-- MAC address and PTP port identity of both ports, from NETC; portNumber is 1 (R192) -/
  mac : Nat := 0
  clockId : Nat := 0
  /-- unicast masters whose messages come by a grant (R188, R199, log 57), and those heard, for NEIGH (R200) -/
  grants : List Grant := []
  neigh : List Nat := []
  /-- firmware's port dataset (R188, R200) -/
  portDs : PortDs := {}
  /-- the path-delay filter's value since its latest restart, ns, and its configuration; the offset filter (R200, log 57) -/
  pathDelay : Option Rat := none
  filter : List Byte := []
  ofsFilter : List Byte := []
  /-- the update rate for which firmware has scaled KI (R181) -/
  kiRate : Nat := 16
  /-- requests for unicast grants sent (R199) -/
  grantReqs : Nat := 0
  /-- the active path has not yet announced its address since it became active (R193) -/
  helloDue : Bool := false
  /-- the selected master, the grants or the port dataset changed since the latest snapshot (R200) -/
  snapDue : Bool := false
  /-- frames sent by firmware: ARP or NA answers and gratuitous ones (R193) -/
  arpSent : Nat := 0
  /-- gates counted on the active path since a link loss or failover (R186, R199) -/
  gatesOk : Nat := 16
  deriving DecidableEq, Repr

end Sys2Proof.Machine
end

