-- ==== Sys2Proof/Machine/StHost.lean ====
section
/-! DEFINITION. State of the host ports (R204-R221), the event fabric (R222-R242), the braid and the DMA engine
(R243-R264). -/

namespace Sys2Proof.Machine

/-- A notice of firmware to a host (R211). -/
structure Notice where
  /-- KIND -/
  kind : Nat
  /-- AT: TAI seconds and nanoseconds -/
  atS : Nat := 0
  atNs : Nat := 0
  /-- SHORT -/
  short : List Byte := []
  body : List Byte := []
  deriving DecidableEq, Repr

/-- A backlog place: a notice, or the LOST notice with its count (R211). -/
inductive Back where
  | note (n : Notice)
  | lost (count : Nat)
  deriving DecidableEq, Repr

/-- The MIR_INST words of one instance (R208). -/
structure MirInst where
  w0 : Nat := 0
  w4 : Nat := 0
  w8 : Nat := 0
  deriving DecidableEq, Repr

/-- One MSI-X table entry (R206, R219): address, data and the mask bit. The mask is set at reset (log 12). -/
structure Msix where
  addr : Nat := 0
  data : Nat := 0
  masked : Bool := true
  deriving DecidableEq, Repr

/-- A HEALTH entry (R217): KIND, REASON, UNIT, INST, DETAIL. -/
structure HEntry where
  kind : Nat
  reason : Nat := 0
  unit : Nat
  inst : Nat := 0xFF
  detail : Nat := 0
  deriving DecidableEq, Repr

/-- A command that firmware has taken from a ring (R210): whether its execution has begun, and its completion where that waits
for earlier ones. -/
structure Taken where
  cmd : RawCmd
  begun : Bool := false
  answer : Option (List Byte) := none
  /-- its number among the commands taken from the port's ring: the model's own -/
  seq : Nat := 0
  deriving DecidableEq, Repr

/-- One host port (R204-R221). -/
structure HostPort where
  /-- the data link is up and the port enumerated (R221) -/
  linkUp : Bool := false
  /-- the rate of the trained link (R204) -/
  rate : LinkRate := .gt16
  /-- subsystem vendor and subsystem ID of configuration space, from the HOST section (R204) -/
  subVid : Nat := 0
  subId : Nat := 0
  /-- `MBX_CTRL.ENABLE` (R207) -/
  enable : Bool := false
  /-- `MBX_ERR`, 7 bits, W1C (R207) -/
  err : Word := 0
  /-- `MBX_CMD_TAIL`, `MBX_CMD_HEAD`, 16 bits each (R207) -/
  cmdTail : Nat := 0
  cmdHead : Nat := 0
  /-- `MBX_CPL_TAIL`, `MBX_CPL_HEAD`, 16 bits each (R207) -/
  cplTail : Nat := 0
  cplHead : Nat := 0
  /-- `MBX_NTC_TAIL`, `MBX_NTC_HEAD`, 16 bits each (R207) -/
  ntcTail : Nat := 0
  ntcHead : Nat := 0
  /-- `MBX_IRQ_CFG.HOLDOFF`, 16 bits (R207) -/
  holdoff : Nat := 0
  /-- `MBX_NTC_LOST`, 32 bits, saturating (R207) -/
  ntcLost : Nat := 0
  /-- `MBX_B2_BASE.WINDOW`, 7 bits (R207) -/
  b2 : Nat := 0
  /-- `MBX_B4_BASE.WINDOW`, 10 bits (R207) -/
  b4 : Nat := 0
  /-- `MBX_B4_DENY`, 32 bits, saturating (R207) -/
  b4Deny : Nat := 0
  /-- the command ring: 64 entries (R206) -/
  cmdRing : List (Option RawCmd) := List.replicate 64 none
  /-- the completion ring: 64 entries of 128 B (R206); empty where never written since reset -/
  cplRing : List (List Byte) := List.replicate 64 []
  /-- notice descriptors: 32 entries of 32 B (R206) -/
  ntcDesc : List (List Byte) := List.replicate 32 []
  /-- notice bodies: 32 entries of up to 1,024 B (R206) -/
  ntcBody : List (List Byte) := List.replicate 32 []
  /-- commands taken and not yet completed; INFLIGHT counts them (R207, R210) -/
  taken : List Taken := []
  /-- commands taken from this port: the model's own numbering of them -/
  takes : Nat := 0
  /-- SEQ of the next notice since the port last became enabled (R211) -/
  ntcSeq : Nat := 0
  /-- the backlog of at most 64 notices and a LOST notice (R211) -/
  backlog : List Back := []
  /-- the MSI-X table, 32 vectors (R206) -/
  msix : List Msix := List.replicate 32 {}
  /-- the MSI-X pending bits (R219) -/
  pba : List Bool := List.replicate 32 false
  /-- messages sent per vector, the model's own record of the port's output (R219) -/
  sent : List Nat := List.replicate 32 0
  /-- HOLDOFF runs on vectors 0 and 1, and a posting was made meanwhile (R219) -/
  hold0 : Bool := false
  hold1 : Bool := false
  held0 : Bool := false
  held1 : Bool := false
  /-- the status mirrors as last refreshed (R208) -/
  mirSeq : Nat := 0
  mirState : Nat := 0
  mirTaiNs : Nat := 0
  mirTaiS : Nat := 0
  mirTaiSh : Nat := 0
  mirHealth : Nat := 0
  mirInst : List MirInst := List.replicate 4 {}
  /-- health changes for this host since device reset (R208) -/
  health : Nat := 0
  /-- the HEALTH entries due to this host as firmware last saw them (R208, R217) -/
  seen : List HEntry := []
  /-- host memory as far as the device has written it as a bus master (R216) -/
  outMem : List Host.Cell := []
  deriving DecidableEq, Repr

/-- An event channel (R228-R239, R242). -/
structure Chan where
  /-- `EVT_CH_CFG`: EN, SEC, OWNER, VECTOR, SRC, HOLDOFF -/
  en : Bool := false
  sec : Bool := false
  owner : Nat := 0
  vector : Nat := 0
  src : Nat := 0
  holdoff : Nat := 16
  /-- `EVT_CH_GUARD`: RE_MAX, RE_WIN -/
  reMax : Nat := 8
  reWin : Nat := 1000
  /-- `EVT_CH_STAT`: TRIPPED, RE_CNT, HOLD_CNT -/
  tripped : Bool := false
  reCnt : Nat := 0
  holdCnt : Nat := 0
  /-- `EVT_CH_FIRE.FIRED`, 16 bits, saturating -/
  fired : Nat := 0
  /-- ends of the hold-off and of the re-entry window, extended time (R228) -/
  holdEnd : Int := 0
  winEnd : Int := 0
  deriving DecidableEq, Repr

/-- An event consumer (R231, R232, R242). -/
structure Con where
  /-- `EVT_CON_SEL`: SEL0–SEL3, 8 bits each -/
  sel : List Nat := [0, 0, 0, 0]
  /-- `EVT_CON_CTRL` fields -/
  f2 : Bool := false
  busy : Bool := false
  pend : Bool := false
  ovr : Bool := false
  pmask : List Bool := [false, false, false, false]
  action : Nat := 0
  width : Nat := 0
  drop : Nat := 0
  merge : Nat := 0
  /-- origin of the pending occurrence (R232) -/
  porigin : Nat := 0
  /-- origin of the arrival acted on (R236) -/
  origin : Option Nat := none
  /-- the event that ends a HKC_START consumer's busy time, HKC_DONE, has come (R231) -/
  rel : Bool := false
  /-- extended time of the first occurrence of the latest arrival (R232) -/
  arrAt : Option Int := none
  deriving DecidableEq, Repr

/-- A GPIO pin (R226, R227). -/
structure Gpio where
  /-- event output (`EVT_GPIO_DIR`) -/
  out : Bool := false
  /-- owner (`EVT_GPIO_OWN`), 0–3 hosts, 4 firmware -/
  owner : Nat := 0
  /-- edge kind (`EVT_GPIO_CFG`), 2 bits -/
  edge : Nat := 0
  /-- level driven by an output (`EVT_GPIO_LVL`), or of an input the level held for 20 ns (R226) -/
  lvl : Bool := false
  /-- level at the pad of an input, as the last edge left it (R226, R227) -/
  pad : Bool := false
  /-- resting level of an output (R227) -/
  rest : Bool := false
  /-- extended time at which the running pulse ends (R227) -/
  pulseEnd : Option Int := none
  deriving DecidableEq, Repr

/-- An occurrence on its way to a channel: the channel and its origin (R222). -/
structure ChanOcc where
  ch : Nat
  origin : Option Nat
  deriving DecidableEq, Repr

/-- An occurrence on its way to a consumer: consumer, select and origin (R232). -/
structure ConOcc where
  x : Nat
  sel : Nat
  origin : Nat
  deriving DecidableEq, Repr

/-- The event fabric (R222-R242). -/
structure Evt where
  chans : List Chan := List.replicate 128 {}
  cons : List Con := List.replicate 96 {}
  /-- `EVT_GROUP`, 16 bits (R242) -/
  group : List Bool := List.replicate 16 false
  gpio : List Gpio := List.replicate 16 {}
  /-- EVTR has been applied (R240) -/
  applied : Bool := false
  /-- `EVT_CLU_MAP[k]`, 256 bits each, W1C (R224) -/
  cluMap : List Nat := [0, 0, 0, 0, 0]
  /-- occurrences raised and not yet handled by their channel -/
  chanIn : List ChanOcc := []
  /-- occurrences forwarded and not yet arrived at their consumer -/
  conIn : List ConOcc := []
  /-- occurrences forwarded to a capture unit and not yet stamped: unit and origin (R228) -/
  capIn : List (Nat × Nat) := []
  /-- edges of pins not yet stamped by their capture unit: unit and stamp (R176) -/
  pinIn : List (Nat × Stamp) := []
  /-- extended time of each group's latest GROUP_DISABLE (R234) -/
  groupOff : List (Option Int) := List.replicate 16 none
  /-- extended time of the raising that made the latest occurrence of each of the sources 0x40-0x44 (R224) -/
  cluAt : List (Option Int) := List.replicate 5 none
  deriving DecidableEq, Repr

/-- A request that waits at a target port (R245). -/
structure Waiting where
  req : BraidReq
  /-- extended time at which it reached the port -/
  since : Int
  deriving DecidableEq, Repr

/-- A write piece granted last to a master, with the bytes it replaced: what a master reset may cut short (R253). -/
structure Granted where
  addr : Nat
  old : List Byte
  deriving DecidableEq, Repr

/-- The logged piece of `MTX_ERR_INFO` (R263). -/
structure ErrInfo where
  write : Bool := false
  resp : Nat := 0
  target : Nat := 0
  master : Nat := 0
  sec : Bool := false
  owner : Nat := 0
  deriving DecidableEq, Repr

/-- What a braid answer carried back (R248): master, response code and data; the model's own record. -/
structure Answer where
  master : Nat
  addr : Nat
  resp : Nat
  data : List Byte
  deriving DecidableEq, Repr

/-- The braid (R243-R253, R263). -/
structure Braid where
  /-- `MTX_STATUS`: port of master m closed, 14 bits (R263) -/
  closed : List Bool := List.replicate 14 false
  /-- `MTX_CFG`: STEW_VALID and STEWARD (R263) -/
  stewValid : Bool := false
  steward : Nat := 0
  /-- `MTX_MQOS`, 4 bits each (R243, R263) -/
  mqos : List Nat := [8, 8, 8, 8, 14, 0, 3, 10, 10, 6, 6, 6, 6, 15]
  /-- `MTX_HWIN[h][i]`: VALID, first and last page, 28 bits each (R263) -/
  hwin : List (List (Bool × Nat × Nat)) := List.replicate 4 (List.replicate 4 (false, 0, 0))
  /-- `MTX_ERR_ADDR` and `MTX_ERR_ADDRH`, 40 bits (R263) -/
  errAddr : Nat := 0
  /-- `MTX_ERR_INFO.VALID` and its RO fields (R263) -/
  errValid : Bool := false
  errInfo : ErrInfo := {}
  /-- `MTX_ERR_CNT`, 32 bits, saturating (R263) -/
  errCnt : Nat := 0
  /-- requests waiting at each of the eleven target ports (R245) -/
  waiting : List (List Waiting) := List.replicate 11 []
  /-- per master, the write piece granted and not yet known complete (R253) -/
  granted : List (Option Granted) := List.replicate 14 none
  /-- the latest answer (R248), the model's own record -/
  answer : Option Answer := none
  deriving DecidableEq, Repr

/-- A FIFO of the UART or of I²C: what it holds, oldest first, and its count of over-reads or over-writes (R259). -/
structure PeriFifo where
  held : List Byte := []
  missed : Nat := 0
  deriving DecidableEq, Repr

/-- DMA channel states (R254). -/
inductive DmaState where
  | idle | running | waiting | done | aborted | error | illegal | mismatch | timeout
  deriving DecidableEq, Repr

/-- STATE codes (R254). -/
def DmaState.code : DmaState → Nat
  | .idle => 0 | .running => 1 | .waiting => 2 | .done => 3 | .aborted => 4
  | .error => 5 | .illegal => 6 | .mismatch => 7 | .timeout => 8

/-- An open loop level (R256): offset of the LOOP, iterations left (none without end), STRIDE, iteration number. -/
structure LoopLvl where
  at_ : Nat
  left : Option Nat
  stride : Int
  iter : Nat := 0
  deriving DecidableEq, Repr

/-- A DMA channel (R254-R264). -/
structure DmaCh where
  /-- `DMA_CH_CTRL`: EN, SIMPLE, FQOS, SEC (R264) -/
  en : Bool := false
  simple : Bool := false
  fqos : Nat := 8
  sec : Bool := false
  /-- `DMA_CH_STAT`: STATE, START_IGN, SUSPECT (R264) -/
  st : DmaState := .idle
  startIgn : Nat := 0
  suspect : Bool := false
  /-- `DMA_CH_PC_BASE` and its high half, 40 bits (R264) -/
  pcBase : Nat := 0
  /-- the program address taken from `DMA_CH_PC_BASE` at the start (R254) -/
  base : Nat := 0
  /-- `DMA_CH_PC`, 32 bits (R264) -/
  pc : Nat := 0
  /-- `DMA_CH_REMAIN`, 32 bits (R261) -/
  remain : Nat := 0
  /-- `DMA_CH_GIDX`, 32 bits (R264) -/
  gidx : Nat := 0
  /-- `DMA_CH_MISM_ADDR` and its high half, 40 bits (R264) -/
  mismAddr : Nat := 0
  /-- `DMA_CH_MISM_CNT`, 32 bits, saturating (R264) -/
  mismCnt : Nat := 0
  /-- `DMA_CH_SRC`, `DMA_CH_DST` with their high halves, `DMA_CH_COUNT`, `DMA_CH_CFG` (R264) -/
  src : Nat := 0
  dst : Nat := 0
  count : Nat := 0
  cfg : Word := 0
  /-- open loop levels, innermost first; DEPTH counts them (R256) -/
  loops : List LoopLvl := []
  /-- the holding register (R257) -/
  hold : List Byte := []
  /-- the simple pair held in the internal buffer (R260) -/
  buf : Option (List Nat) := none
  /-- origin of the arrival that started the program (R236) -/
  origin : Option Nat := none
  /-- the paced instruction or the WAIT under way, its eight words (R258, R259) -/
  ins : Option (List Nat) := none
  /-- bytes of it already written at the destination, or compared, over all its entries (R259) -/
  moved : Nat := 0
  /-- GATHER: the current entry's address and LEN, the stream bytes of the entries before it, and how many are done (R255) -/
  ent : Option (Nat × Nat) := none
  entBase : Nat := 0
  ents : Nat := 0
  /-- beats after which firmware clears EN in flight, while the row at work says so (R261, log 148) -/
  cut : Option Nat := none
  deriving DecidableEq, Repr

/-- A channel is RUNNING or WAITING (R254). -/
def DmaCh.active (c : DmaCh) : Bool := decide (c.st = .running) || decide (c.st = .waiting)

/-- The DMA engine (R254-R264). -/
structure Dma where
  chs : List DmaCh := List.replicate 32 {}
  /-- `DMA_STATUS.STOPPED`, W1C (R264) -/
  stopped : Bool := false
  /-- `DMA_STATUS.ERR_CNT`, 16 bits, saturating (R264) -/
  errCnt : Nat := 0
  /-- `DMA_ERR_ADDR` and its high half, 40 bits (R264) -/
  errAddr : Nat := 0
  /-- `DMA_ERR_MASK`, 32 bits (R264) -/
  errMask : List Bool := List.replicate 32 false
  /-- `DMA_ERR_INFO`: WRITE, RESP, WCH (R264) -/
  errWrite : Bool := false
  errResp : Nat := 0
  errWch : Nat := 0
  deriving DecidableEq, Repr

end Sys2Proof.Machine
end

