-- ==== Sys2Proof/Machine/StHkc.lean ====
section
/-! DEFINITION. State of the housekeeping converters (R265-R282) and of the thermal sequencer (R283-R302). -/

namespace Sys2Proof.Machine

/-- Converter core states (`HKC_CORE_STAT.STATE`, R282). -/
inductive HkcSt where
  | idle | running | discharge | syscal
  deriving DecidableEq, Repr

/-- STATE codes (R282). -/
def HkcSt.code : HkcSt → Nat
  | .idle => 0 | .running => 1 | .discharge => 2 | .syscal => 3

/-- One converter core (R265, R273-R277, R282). -/
structure HkcCore where
  /-- `HKC_CORE_CTRL`: EN, TRIG, DIAG, THRESH, LEN -/
  en : Bool := false
  trig : Nat := 0
  diag : Bool := false
  thresh : Nat := 16
  len : Nat := 0
  /-- `HKC_CORE_STAT`: STATE, PROBE_FAIL, CFG_ERR, START_IGN, LOST_CNT, OVERREAD_CNT -/
  st : HkcSt := .idle
  probeFail : Bool := false
  cfgErr : Bool := false
  startIgn : Nat := 0
  lost : Nat := 0
  overread : Nat := 0
  /-- the FIFO, head first: words of R275 without VALID, at most 64 (R275) -/
  fifo : List Nat := []
  /-- `HKC_CORE_CFG`: MODE (1 ΣΔ), MAINS, RATE (R282) -/
  sigma : Bool := false
  mains60 : Bool := false
  rate : Nat := 0
  /-- `HKC_CORE_PASS`, 32 bits -/
  pass : Nat := 0
  /-- `HKC_SEQ[n]`, sixteen entries (R273) -/
  seq : List SeqEntry := List.replicate 16 {}
  /-- the sequence, LEN and DIAG latched at the start of the pass (R273) -/
  lSeq : List SeqEntry := []
  lDiag : Bool := false
  /-- c0 and g of each entry, latched with it: coefficients apply from the next pass (R278) -/
  lCoef : List (Rat × Rat) := []
  lTrig : Nat := 0
  /-- entry and result within it that the next conversion delivers (R273) -/
  pos : Nat := 0
  smp : Nat := 0
  /-- words written in the pass (R275) -/
  words : Nat := 0
  /-- HKC_OVR has been raised in the pass (R276) -/
  raised : Bool := false
  /-- origin of the arrival that started the pass (R236) -/
  origin : Option Nat := none
  /-- rotation of automatic probes: 0–5 (R277) -/
  probeIx : Nat := 0
  /-- consecutive probe failures and passes (R277) -/
  fails : Nat := 0
  passes : Nat := 0
  /-- the conversion in progress started with REF_RDY clear (R268) -/
  nrdy : Bool := false
  /-- an EN write waits for the discharge (R280) -/
  enWait : Bool := false
  deriving DecidableEq, Repr

/-- A measured value with its OR and DIAG flags, as `HKC_RTD_R` holds it (R282). -/
structure HkcVal where
  ovr : Bool := false
  diag : Bool := false
  v : Int := 0
  deriving DecidableEq, Repr

/-- A census place of a round (R271): the cell and whether it is a retry. -/
structure Place where
  cell : Nat
  retry : Bool := false
  deriving DecidableEq, Repr

/-- A capture held by system calibration (R278): the mean, its time and whether OR was set. -/
structure Capture where
  v : Rat
  atX : Int
  ovr : Bool := false
  deriving DecidableEq, Repr

/-- A system calibration under way or held (R278). -/
structure Syscal where
  core : Nat
  input : Nat
  cz : Option Capture := none
  cf : Option Capture := none
  /-- E1 of STEP 1 -/
  e1 : Int := 0
  deriving DecidableEq, Repr

/-- A HKC_SYSCAL capture in progress and the command that waits for it (R278). -/
structure SyscalRun where
  port : Nat
  tag : Word
  seq : Nat := 0
  core : Nat
  input : Nat
  step : Nat
  /-- the capture suspended a pass, and a new pass follows it -/
  resume : Bool := false
  /-- the conversion in progress finishes first -/
  waits : Bool := false
  deriving DecidableEq, Repr

/-- The housekeeping converters (R265-R282). -/
structure Hkc where
  /-- `HKC_CTRL`: VREF_OUT_EN, REF_EN -/
  vrefOut : Bool := false
  refEn : Bool := false
  /-- `HKC_STATUS`: PRIO_FULL, REF_SUSPECT, OVR_SRC, ROUND_RUN, REF_RDY -/
  prioFull : Bool := false
  refSuspect : Bool := false
  ovrSrc : List Bool := [false, false, false]
  roundRun : Bool := false
  refRdy : Bool := false
  /-- `HKC_ROUND_CNT`, 32 bits -/
  rounds : Nat := 0
  /-- `HKC_CENSUS_PTR`, 13 bits -/
  ptr : Nat := 0
  /-- the priority queue of at most 4 cells (R271) -/
  prio : List Nat := []
  /-- cells owed a retry, at most 8 (R271) -/
  retries : List Nat := []
  /-- `HKC_CENSUS_LAST`: r_H, DEFER, cell -/
  lastR : Nat := 0
  lastDefer : Bool := false
  lastCell : Nat := 0
  /-- `HKC_CENSUS_DEFER`, 32 bits, saturating -/
  deferCnt : Nat := 0
  /-- `HKC_RTD_R[0–15]`, mΩ -/
  rtd : List HkcVal := List.replicate 16 {}
  /-- `HKC_OSC_R`, Ω -/
  osc : HkcVal := {}
  /-- `HKC_REFS_T`, Q8.8 °C -/
  refs : HkcVal := {}
  /-- `HKC_RAIL[0–6]`, mV -/
  rail : List HkcVal := List.replicate 7 {}
  /-- `HKC_SYSCOEF[0–255]`: c0 and g in Q2.30; none where no coefficient exists (R266, R279) -/
  coef : List (Option (Int × Nat)) := List.replicate 256 none
  /-- cores 0–2 -/
  cores : List HkcCore := [{ sigma := true }, {}, {}]
  /-- slot of core 0 that ends next, 0–49 (R269) -/
  slot : Nat := 0
  /-- the eight census places of the round (R271) -/
  places : List Place := []
  /-- time at which the current slot of core 0 began (R269) -/
  slotAt : Int := 0
  /-- the census window: the heater code has been zero throughout it, so that the pad is released to the census source; one of
  the two held integrals overloaded (R267, R272) -/
  cenZero : Bool := false
  cenOvr : Bool := false
  /-- c0 of core 0, from the auto-zero slots of the previous round, and the running sum (R266, R269) -/
  c0 : Rat := 0
  zsum : Int := 0
  /-- T_R of R266, Q8.8 °C; 25 °C before the first round -/
  tR : Int := 6400
  /-- the probe of this round failed (R288) -/
  probeBad : Bool := false
  /-- converted codes of the anchors and of the thermistor in this round -/
  rtdCode : List Int := List.replicate 16 0
  oscCode : Int := 0
  /-- OSC_PAIR, β, R25, RFIX and the RTD constants (R0, GAIN) applied from HKCV; none before (R281, R284) -/
  conv : Option Hkcv := none
  /-- captures held by system calibration (R278) -/
  sys : Option Syscal := none
  /-- a capture in progress (R278) -/
  sysRun : Option SyscalRun := none
  deriving DecidableEq, Repr

/-- Persistence of one threshold condition (R284): the condition, and consecutive rounds at or above its set level and
below its clear level. -/
structure Cond where
  on : Bool := false
  above : Nat := 0
  below : Nat := 0
  deriving DecidableEq, Repr

/-- A die sensor (R283-R286, `THM_DIE_T`). -/
structure DieS where
  /-- T, Q8.8 °C -/
  t : Int := 0
  /-- BROKEN, latched until the next device reset -/
  broken : Bool := false
  warn : Cond := {}
  thr : Cond := {}
  shut : Cond := {}
  /-- rounds in a row more than 20 °C off the neighbours' median (R285) -/
  dev : Nat := 0
  deriving DecidableEq, Repr

/-- A privileged sensor (R287, `THM_PRIV_T`, `THM_PRIV_RAW`, `THM_PRIV_DELTA`). -/
structure PrivS where
  /-- value in use, °C -/
  t : Rat := 0
  /-- converted reading, °C -/
  raw : Rat := 0
  /-- Δ_j, °C -/
  delta : Rat := 0
  /-- SUBST: the estimate is in use -/
  subst : Bool := false
  /-- implausible, until 100 rounds in a row pass every test (R287) -/
  implausible : Bool := false
  warn : Cond := {}
  thr : Cond := {}
  shut : Cond := {}
  /-- rounds in a row more than 10 °C off the estimate; rounds in a row with every test passed (R287) -/
  dev : Nat := 0
  okRun : Nat := 0
  /-- the converted value of the previous round, none before the first (R287) -/
  prev : Option Rat := none
  deriving DecidableEq, Repr

/-- The shutdown under way (R297-R299): what round X leaves for the record, and how far the sequence has come. -/
structure Shutdown where
  cause : Nat
  /-- MODE before SAFE, coded as `MBX_STATUS.MODE` -/
  mode : Nat
  sensor : Nat
  t : Int
  /-- AT, ERA, WNS and ERA_STALE at X -/
  atS : Nat := 0
  atNs : Nat := 0
  era : Nat := 0
  wns : Nat := 0
  stale : Bool := false
  /-- sensor values of round X -/
  anchors : List Int := []
  rowMax : List Int := []
  islands : List Int := []
  other : List Int := []
  osc : Int := 0
  ref : Int := 0
  rails : List Int := []
  vhtrMa : Nat := 0
  broken : List Bool := []
  subst : List Bool := []
  hist : List (Int × Int) := []
  /-- the heater ramp has ended (R298) -/
  rampDone : Bool := false
  /-- the shutdown began with the pads parked, in CHURN or LOAD (R297) -/
  early : Bool := false
  /-- the record has been written or queued (R299) -/
  written : Bool := false
  /-- the tail capsule has been written (R298) -/
  capsuleWritten : Bool := false
  deriving DecidableEq, Repr

/-- The thermal sequencer (R283-R302). -/
structure Thm where
  /-- `THM_STATUS.SAFE_LATCH` (R297) -/
  safeLatch : Bool := false
  /-- `THM_CAUSE`: CAUSE and SENSOR (R302) -/
  cause : Nat := 0
  causeSensor : Nat := 0
  /-- `THM_CFG`: SKIP_N, PERSIST, ROUND_MS (R302) -/
  skipN : Nat := 4
  persist : Nat := 2
  roundMs : Nat := 10
  /-- `THM_LIM_DIE_*` and `THM_LIM_ANC_*` (R302) -/
  die : Limits := ⟨0x6400, 0x5F00, 0x6C00, 0x6700, 0x7600, 0x6C00⟩
  anc : Limits := ⟨0x5000, 0x4D00, 0x5A00, 0x5600, 0x6900, 0x5F00⟩
  /-- REC_HZ, DER_START and DER_FLOOR in force (R284, R301) -/
  recHz : Nat := 4
  derStart : Nat := 32000
  derFloor : Nat := 4000
  /-- I_LIM and P_LIM in force (R62, R301) -/
  iLim : Nat := 36000
  pLim : Nat := 110000
  /-- `THM_DIE_T[0–287]` -/
  dies : List DieS := List.replicate 288 {}
  /-- `THM_PRIV_T[0–17]` -/
  privs : List PrivS := List.replicate 18 {}
  /-- `THM_CLU_T[0–255]`: T delivered and EST (R296) -/
  cluT : List (Int × Bool) := List.replicate 256 (0, false)
  /-- d_der of the clusters (R293) -/
  dDer : List Nat := List.replicate 256 0xFFFF
  /-- rounds since HKCV was applied, for the learning gain of R287 -/
  learn : Nat := 0
  /-- the last 32 rounds, newest first: hottest anchor, hottest die sensor (R299) -/
  hist : List (Int × Int) := []
  /-- the heater budget loop (R62) -/
  budget : Budget := {}
  /-- island current sums of the last 625 intervals, newest first, mA (R299) -/
  vhtrMa : List Nat := []
  /-- the shutdown under way -/
  shut : Option Shutdown := none
  /-- the tail capsule in SRAM: two snapshots, older first, each with its mailbox time (R298, R299) -/
  capsule : Option (List (Nat × Nat × List Byte)) := none
  /-- tail capsules of earlier shutdowns that still wait in SRAM for a flash (R299) -/
  waitCaps : List (List (Nat × Nat × List Byte)) := []
  /-- cores, braid and the rest run at the throttled bus clocks (R294) -/
  slowBuses : Bool := false
  /-- a rail reading outside the operating conditions (R372), and VCORE low enough to forbid P = 0.5 µs (R92) -/
  railBad : List Bool := List.replicate 7 false
  deriving DecidableEq, Repr

end Sys2Proof.Machine
end

