-- ==== Sys2Proof/Machine/StSys.lean ====
section
/-! DEFINITION. State of start-up, modes, life cycle, NVM, power domains and the recorder (R303-R352), and what
firmware holds of the image in force. -/

namespace Sys2Proof.Machine

/-- The modes, coded as `MBX_STATUS.MODE` (R21, R207). -/
inductive Mode where
  | churn | load | calibrate | service | dark | derated | safe | restart
  deriving DecidableEq, Repr

/-- MODE codes (R207). -/
def Mode.code : Mode → Nat
  | .churn => 0 | .load => 1 | .calibrate => 2 | .service => 3
  | .dark => 4 | .derated => 5 | .safe => 6 | .restart => 7

/-- Life-cycle states (R322). -/
inductive LcState where
  | maker | open_ | sealed_ | returned | ended
  deriving DecidableEq, Repr

/-- `LCS_STATE`[2:0] (R336). -/
def LcState.code : LcState → Nat
  | .maker => 0 | .open_ => 1 | .sealed_ => 2 | .returned => 3 | .ended => 4

/-- The device resets, coded as `LCS_RESET_CAUSE` (R303, R336). -/
inductive ResetKind where
  | powerOn | resetN | watchdog | steward | lifeCycle
  deriving DecidableEq, Repr

/-- `LCS_RESET_CAUSE` codes (R336). -/
def ResetKind.code : ResetKind → Nat
  | .powerOn => 0 | .resetN => 1 | .watchdog => 2 | .steward => 3 | .lifeCycle => 4

/-- Why clusters are being powered row by row (R306, R314). -/
inductive RowWhy where
  | start | darkExit | resume
  deriving DecidableEq, Repr

/-- A MODE_SET or other mode command whose completion is still due (R312). -/
structure ModeCmd where
  port : Nat
  tag : Word
  code : Nat
  seq : Nat := 0
  deriving DecidableEq, Repr

/-- An activation in its grace period (R220). -/
structure Release where
  port : Nat
  tag : Word
  deriving DecidableEq, Repr

/-- An IMAGE_STAGE in progress (R327). -/
structure StageRun where
  port : Nat
  tag : Word
  seq : Nat := 0
  bytes : List Byte
  deriving DecidableEq, Repr

/-- A REC_EXPORT in progress (R349). -/
structure ExportRun where
  port : Nat
  tag : Word
  seq : Nat := 0
  inst : Nat
  ring : Nat
  src : Nat
  len : Nat
  outAddr : Nat
  /-- the ring's bytes from FROM on, valid when the export starts; a byte of a ring changes only by being overtaken -/
  bytes : List Byte := []
  deriving DecidableEq, Repr

/-- A calibration sweep under way (R315, R331): generation and slot being written, whether it resumes, whether the
throttle pauses it. -/
structure Sweep where
  gen : Word
  slot : Nat
  resumed : Bool := false
  paused : Bool := false
  /-- the records measured so far, in DRAM -/
  made : AtlasSlot := { headed := false }
  /-- how far it has come: clusters below are measured; 257 with the port-end taps -/
  done : Nat := 0
  /-- clusters, and the port-end taps, whose records and journal entry the flash holds -/
  filed : List Nat := []
  portsFiled : Bool := false
  deriving DecidableEq, Repr

/-- The running image (R321): its bytes, and the fields of its sections as firmware reads them (`imageOf`). -/
structure RunImage where
  bytes : List Byte
  image : Image
  deriving DecidableEq, Repr

/-- The switchable domains that no other structure holds (R15). -/
structure Power where
  cores : List DPow := List.replicate 4 .off
  sram : List DPow := List.replicate 8 .off
  pcie : List DPow := List.replicate 4 .off
  ddr : List DPow := [.off, .off]
  hkc : DPow := .off
  recorder : DPow := .off
  dma : DPow := .off
  solver : DPow := .off
  periph : DPow := .off
  braid : DPow := .off
  deriving DecidableEq, Repr

/-- Start-up, modes, life cycle and NVM (R303-R337). -/
structure Sys where
  /-- `LCS_MODE` and `MBX_STATUS.MODE` (R207, R336) -/
  mode : Mode := .churn
  /-- the mode held before RESTART (R311) -/
  before : Mode := .service
  /-- `MBX_STATUS`: RELEASE, PAUSED, READY (R207) -/
  release : Bool := false
  paused : Bool := false
  ready : Bool := false
  /-- the port whose command firmware took last, for its round robin (R210) -/
  servedPort : Nat := 3
  /-- the FIFOs of the UART (receive, transmit) and of I²C (receive, transmit) (R259) -/
  peri : List PeriFifo := List.replicate 4 {}
  /-- `LCS_STATE`: KEY_FUSED, STRAP, state (R322, R336) -/
  keyFused : Bool := false
  strap : Bool := false
  lc : LcState := .open_
  /-- the fused owner-key hash (R320, R323) -/
  keyHash : Nat := 0
  /-- `LCS_RESET_CAUSE` (R336) -/
  cause : ResetKind := .powerOn
  /-- `LCS_BOOT_STAT`: STAGE, HALT, IMG_SLOT, ATL_SLOT, ATL_NONE, CAL_RESUMED, DDR_FAIL, REF_ABSENT, IMG_x_FAIL -/
  stage : Nat := 0
  halt : Nat := 0
  imgSlot : Nat := 0
  atlSlot : Nat := 0
  atlNone : Bool := false
  calResumed : Bool := false
  ddrFail : List Bool := [false, false]
  refAbsent : Bool := false
  imgFail : List Bool := [false, false]
  /-- `LCS_BOOT_TAG`, `LCS_BOOT_OFS`, `LCS_BOOT_RULE` (R336) -/
  bootTag : Nat := 0
  bootOfs : Nat := 0
  bootRule : Nat := 0
  /-- `LCS_SRESET`: REFUSED, FORCE (R337) -/
  srRefused : Bool := false
  srForce : Bool := false
  /-- `LCS_RESTART`: GIVEN_UP, consecutive failures, RESTARTs (R317, R336) -/
  givenUp : Bool := false
  restartFails : Nat := 0
  restarts : Nat := 0
  /-- `LCS_NVM_STAT`: DROPPED, FOREIGN, REPLACED, ABSENT, PRESENT (R336) -/
  dropped : Nat := 0
  foreign : Bool := false
  replaced : Bool := false
  absent : Bool := false
  present : Bool := false
  /-- the SRAM record queue, oldest first, at most 64 (R334) -/
  queue : List NvmRecord := []
  /-- `LCS_GEN_IMG`, `LCS_GEN_ATL` (R336) -/
  genImg : Word := 0
  genAtl : Word := 0
  /-- a device reset's heater ramp is running: its kind (R304) -/
  resetting : Option ResetKind := none
  /-- the device is powered but has not left reset: RESET_N low or a supply out of range (R306) -/
  held : Bool := true
  /-- a supply other than VCORE and VIO was lost and its pads parked; the next device reset ends it (R371) -/
  supplyOut : Bool := false
  /-- SRAM verified (R305) -/
  sramOk : Bool := false
  /-- a DDR channel is verified; trained; its wipe has ended (R305, R307) -/
  ddrOk : List Bool := [false, false]
  ddrTrained : List Bool := [false, false]
  ddrDone : List Bool := [false, false]
  /-- a steward sweep or start-up sweep under way (R315) -/
  sweep : Option Sweep := none
  /-- the flash as fitted; none where no flash answers (R325, R333) -/
  flash : Option Flash := none
  /-- JEDEC identification and JESD216 table as taken in LOAD (R333) -/
  idJedec : Nat := 0
  idSfdp : List Byte := []
  /-- the flash answers at present: what a test made before a write finds (R333) -/
  answers : Bool := true
  /-- the running image (R321) and the atlas in use (R330) -/
  img : Option RunImage := none
  atlas : Option AtlasSlot := none
  /-- channel assignment of R119 per cell: tone k − 1, QUAD, CLASH (R366) -/
  pilots : List (Nat × Bool × Bool) := []
  /-- tile rows still to power, and why (R306, R314) -/
  rowsLeft : List Nat := []
  rowWhy : RowWhy := .start
  /-- clusters powered together with the rows, and clusters whose first outputs DARK exit waits for (R312) -/
  waitOut : List Nat := []
  /-- clusters that DARK entry will power down when their open epochs close (R314); entry under way -/
  darkWait : List Nat := []
  darkEntering : Bool := false
  darkExiting : Bool := false
  /-- THERMAL_RESUME, CAL_REQUEST and MODE_SET commands whose completion is due (R312) -/
  modeCmd : Option ModeCmd := none
  /-- MODE_SET SERVICE commands taken while a transition into or out of DARK is under way, oldest first (R312, log 81) -/
  darkNext : List ModeCmd := []
  /-- MODE_SET RESTART, whose completion is due when firmware returns (R312) -/
  restartCmd : Option ModeCmd := none
  /-- the mode before DARK, which the MODE_CHANGE notice names (R211, R312) -/
  darkFrom : Mode := .service
  /-- extended time from which the watchdog counts: the latest write, RESTART or start of firmware (R317) -/
  wdtAt : Int := 0
  /-- CAL_REQUEST by the steward awaits CAL_DONE (R220) -/
  calAsked : Bool := false
  /-- RELEASE and its activation (R220) -/
  grace : Option Release := none
  /-- the staged slot that passed IMAGE_STAGE (R220, R327) -/
  staged : Option Nat := none
  stageRun : Option StageRun := none
  exportRun : Option ExportRun := none
  /-- warnings that firmware keeps for HEALTH (R217): REF_FREQ, RETIRE_LIST_FULL, SEAL_IGNORED -/
  refFreqBad : Bool := false
  retireFull : Bool := false
  sealIgnored : Bool := false
  /-- coefficient entries, retirement entries with a failing CRC (R279, R86) -/
  coefBad : List Nat := []
  retireBad : List Nat := []
  /-- clusters reported SLACK_0P5 in the latest round (R92) -/
  slack05 : List Nat := []
  /-- the retirement list in force, with events that the list no longer holds (R86) -/
  retire : List RetireEntry := []
  /-- the REASON of each cell's PEND_RETIRE, RETIRED or heater-only report (R217) -/
  reasons : List (Nat × Nat) := []
  /-- the learned frequency table's latest copy, while the flash is absent (R334) -/
  ftCopy : Option (List (Nat × Int × Nat)) := none
  /-- boot reports written to the UART in a halt: STAGE, HALT, TAG, OFS, RULE; the model's own record (R309) -/
  uart : List (Nat × Nat × Nat × Nat × Nat) := []
  /-- EFC_OUT: DRV_EFC_CTRL.EN and DRV_EFC_CODE, 24 bits (R129, R132) -/
  efcEn : Bool := false
  efcCode : Nat := 0x800000
  /-- the code in force at the latest write, and the extended time of the modulator's edge at which the latest takes its place (R129) -/
  efcPrev : Nat := 0x800000
  efcEdge : Int := 0
  deriving DecidableEq, Repr

/-- One ring of a recorder region (R345). -/
structure Ring where
  /-- SIZE, W and BASE in bytes (R345) -/
  size : Nat := 0
  w : Nat := 0
  base : Nat := 0
  /-- SEQ and SHED of the next header, and the GAP flag due (R342) -/
  seq : Nat := 0
  shed : Nat := 0
  gap : Bool := false
  /-- a mark was logged since the previous block of this ring (R342) -/
  marked : Bool := false
  deriving DecidableEq, Repr

/-- A block in the staging buffer (R343): its ring and bytes, and what its header carries that a block dropped gives back: SHED and
MARKED (R342, R348). -/
structure Block where
  inst : Nat
  ring : Nat
  bytes : List Byte
  shed : Nat := 0
  marked : Bool := false
  deriving DecidableEq, Repr

/-- A log record that firmware has yet to write (R347): its kind, the instances it goes to, the stamp of its occurrence, its body. -/
structure LogDue where
  kind : Nat
  insts : List Nat
  at_ : Stamp
  body : List Byte
  deriving DecidableEq, Repr

/-- The recorder (R338-R352). -/
structure Rec where
  /-- it runs: from the end of LOAD to the next device reset (R338) -/
  on : Bool := false
  /-- `REC_STATUS`: FROZEN, THROTTLED, CH_LOST, QOS_HIGH, SHED (R352) -/
  frozen : Bool := false
  throttled : Bool := false
  chLost : List Bool := [false, false]
  qosHigh : Bool := false
  shedW1c : Bool := false
  /-- `REC_CTRL.CAP_EN` (R352) -/
  capEn : Bool := false
  /-- `REC_SKIM_HZ`: requested rate and f in force (R340, R352) -/
  hz : Nat := 16
  f : Nat := 0
  /-- `REC_SHED_CNT`, `REC_CAPDROP_CNT`, `REC_LATCH_OVR`, 32 bits, saturating (R352) -/
  shedCnt : Nat := 0
  capDrop : Nat := 0
  latchOvr : Nat := 0
  /-- `REC_CAP_SEL[0–255]`: VALID in bit 31, cell in bits 12–0 (R352) -/
  capSel : List Word := List.replicate 256 0
  /-- the capture list in force, and a change of it that waits for the next 4 µs grid instant (R341) -/
  capNow : List Nat := []
  capDirty : Bool := false
  /-- the three rings of the four regions (R345) -/
  rings : List (List Ring) := List.replicate 4 (List.replicate 3 {})
  /-- instances that have a region (R344) -/
  present : List Bool := [false, false, false, false]
  /-- byte offset of each region from its channel's base (R344) -/
  place : List Nat := [0, 0, 0, 0]
  /-- region sizes at LOAD, bytes: LOG, SKIM, CAP (R344) -/
  sizes : List (Nat × Nat × Nat) := List.replicate 4 (0, 0, 0)
  /-- SEQ of each region header (R346) -/
  hdrSeq : List Nat := [0, 0, 0, 0]
  /-- the staging buffer, oldest first (R343); FILL counts it -/
  stage : List Block := []
  /-- index of the next Skim snapshot within the running second (R340) -/
  k : Nat := 0
  /-- instant of the latest capture grid visit, counter ns (R341) -/
  lastCap : Option Int := none
  /-- the latest two Skim snapshots of all cells: TAI seconds, ns, bytes; older first (R298) -/
  snaps : List (Nat × Nat × List Byte) := []
  /-- log records that firmware has yet to write, and the instant of each ring's latest GAP entry (R343, R347) -/
  logDue : List LogDue := []
  gapAt : List (Nat × Nat × Int) := []
  /-- instants of the recorder's failed pieces of the last second, per channel (R350) -/
  pieceFails : List (List Int) := [[], []]
  deriving DecidableEq, Repr

/-- A valid shadow of a master (R362): the high word, and what the home chapter latches with it (R363). -/
structure Shadow where
  master : Nat
  pair : Pair
  hi : Word
  deriving DecidableEq, Repr

end Sys2Proof.Machine
end

