-- ==== Sys2Proof/Machine/State.lean ====
section
/-! DEFINITION. The state of the block, its faults and refusals, and the state after reset. -/

namespace Sys2Proof.Machine

/-- Faults of the model. No command of this block ends in one: the spec gives every command its effect. -/
inductive Fault where
  /-- Raised by nothing in the model (safe): the type has a member so that a claim can name it. -/
  | none_
  deriving DecidableEq, Repr

/-- Refusals of the model. -/
inductive Refusal where
  /-- Raised by `exec` for a command whose meaning is not written yet (safe). -/
  | notModelled (mnemonic : String)
  deriving DecidableEq, Repr

/-- The machine: every piece of state the spec gives the G8, and the queue of commands that wait. -/
structure State where
  /-- commands waiting, first in, first out: the model's own field -/
  pending : List Instr := []
  /-- number of the next free value (log 2): the model's own field -/
  freeIx : Nat := 0
  /-- start-up, modes, life cycle, NVM (R303-R337) -/
  sys : Sys := {}
  /-- switchable power domains (R15) -/
  power : Power := {}
  /-- the 256 clusters (R9) -/
  clusters : List Cluster := List.replicate 256 {}
  /-- the spare engines (R96, R105) -/
  spares : List Spare := List.replicate 16 {}
  /-- the drive islands (R116, R132) -/
  islands : List Island := List.replicate 16 {}
  /-- rearrangement (R133-R160) -/
  fab : Fab := {}
  /-- the time base (R161-R191) -/
  time : Time := {}
  /-- network paths (R192-R203) -/
  net : Net := {}
  /-- host ports (R204-R221) -/
  hosts : List HostPort := List.replicate 4 {}
  /-- event fabric (R222-R242) -/
  evt : Evt := {}
  /-- braid (R243-R253, R263) -/
  braid : Braid := {}
  /-- DMA engine (R254-R264) -/
  dma : Dma := {}
  /-- housekeeping converters (R265-R282) -/
  hkc : Hkc := {}
  /-- thermal sequencer (R283-R302) -/
  thm : Thm := {}
  /-- the recorder (R338-R352) -/
  rcd : Rec := {}
  /-- two-half-read shadows of every master (R362) -/
  shadows : List Shadow := []
  /-- `TIME_LATCH` of every master: SPH and ERA_STALE latched with TIME_WNS (R173, R363) -/
  latches : List Word := List.replicate 14 0
  /-- SRAM and DRAM by internal address, in canonical form (R353) -/
  mem : List Host.Cell := []
  deriving DecidableEq, Repr

/-- The machine right after power-on reset, with RESET_N still held low: CHURN has not begun (R303, R306). -/
def State.reset : State := {}

end Sys2Proof.Machine
end

