-- ==== Sys2Proof/Machine/Mem.lean ====
section
/-! DEFINITION. Memory as a canonical list of bytes (R353): strictly rising addresses, no listed zero. A byte that
nothing has written reads 0, as the fill of R307 leaves it (log 13). -/

namespace Sys2Proof.Machine

/-- What an unlisted address reads as (R307, log 13). -/
def Mem.blank : Byte := 0

/-- One byte of memory. -/
def Mem.read : List Host.Cell → Nat → Byte
  | [], _ => Mem.blank
  | c :: cs, a => if c.1 = a then c.2 else Mem.read cs a

/-- Write one byte, keeping the canonical form. -/
def Mem.write : List Host.Cell → Nat → Byte → List Host.Cell
  | [], a, b => if b = Mem.blank then [] else [(a, b)]
  | c :: cs, a, b =>
    if a < c.1 then (if b = Mem.blank then c :: cs else (a, b) :: c :: cs)
    else if a = c.1 then (if b = Mem.blank then cs else (a, b) :: cs)
    else c :: Mem.write cs a b

/-- The canonical form, above a lower bound on the addresses. -/
def Mem.wfFrom : Nat → List Host.Cell → Bool
  | _, [] => true
  | lo, c :: cs => decide (lo ≤ c.1) && decide (c.2 ≠ Mem.blank) && Mem.wfFrom (c.1 + 1) cs

/-- The canonical form: strictly rising addresses, no entry equal to what an unlisted address reads as. -/
def Mem.wf (m : List Host.Cell) : Bool := Mem.wfFrom 0 m

/-- `n` bytes from an address. -/
def Mem.readN (m : List Host.Cell) : Nat → Nat → List Byte
  | 0, _ => []
  | n + 1, a => Mem.read m a :: Mem.readN m n (a + 1)

/-- Bytes written from an address upward. -/
def Mem.writeN : List Host.Cell → Nat → List Byte → List Host.Cell
  | m, _, [] => m
  | m, a, b :: bs => Mem.writeN (Mem.write m a b) (a + 1) bs

/-- A little-endian number of `n` bytes (R5). -/
def Mem.readLe (m : List Host.Cell) (n a : Nat) : Nat := leNat (Mem.readN m n a)

/-- Forget every byte whose address satisfies `p` (a fill of zero, R307). -/
def Mem.clear (p : Nat → Bool) (m : List Host.Cell) : List Host.Cell := m.filter (fun c => !p c.1)

end Sys2Proof.Machine
end

