-- ==== Sys2Proof/Machine/NvmMap.lean ====
section
/-! DEFINITION. The bytes of the flash (R325): its areas and their offsets, and the records of R86, R329 and R331 with their CRCs. -/

namespace Sys2Proof

open Sys2Proof.Machine

/-- Erased bytes. -/
def erased (n : Nat) : List Byte := List.replicate n 0xFF

/-! ### Retirement entries and the journal (R86, R331) -/

/-- Bytes 0 to 11 of a retirement entry (R86). -/
def RetireEntry.body (e : RetireEntry) : List Byte :=
  leBytes 2 e.unit ++ leBytes 1 e.kind ++ leBytes 1 e.reason ++ leBytes 6 e.taiS ++ leBytes 2 0

/-- What the CRC of an entry should be (R86). -/
def RetireEntry.sum (e : RetireEntry) : Word := BitVec.ofNat 32 (crc32c e.body)

/-- The entry with its CRC (R86). -/
def RetireEntry.sealCrc (e : RetireEntry) : RetireEntry := { e with crc := e.sum }

/-- The CRC of an entry holds (R86). -/
def RetireEntry.crcOk (e : RetireEntry) : Bool := decide (e.crc = e.sum)

/-- The 16 bytes of an entry (R86). -/
def RetireEntry.bytes (e : RetireEntry) : List Byte := e.body ++ leBytes 4 e.crc.toNat

/-- Bytes 0 to 27 of a journal entry (R331). -/
def JournalEntry.body (e : JournalEntry) : List Byte :=
  leBytes 4 e.gen.toNat ++ leBytes 1 e.kind ++ leBytes 1 e.slot ++ leBytes 2 e.unit ++ leBytes 4 e.blockCrc.toNat ++ leBytes 6 e.taiS ++ leBytes 10 0

/-- What the CRC of a journal entry should be (R331). -/
def JournalEntry.sum (e : JournalEntry) : Word := BitVec.ofNat 32 (crc32c e.body)

/-- The entry with its CRC (R331). -/
def JournalEntry.sealCrc (e : JournalEntry) : JournalEntry := { e with crc := e.sum }

/-- The CRC of a journal entry holds (R331). -/
def JournalEntry.crcOk (e : JournalEntry) : Bool := decide (e.crc = e.sum)

/-- The 32 bytes of a journal entry (R331). -/
def JournalEntry.bytes (e : JournalEntry) : List Byte := e.body ++ leBytes 4 e.crc.toNat

/-! ### Atlases (R329) -/

/-- A tap's six bytes: D_ref, β, G. -/
def TapCal.bytes (t : TapCal) : List Byte := leBytes 2 t.dRef ++ leBytes 2 (twos 16 t.beta) ++ leBytes 2 t.gain

/-- The 128 bytes of a cell record (R329). -/
def AtlasCell.bytes (a : AtlasCell) : List Byte :=
  leBytes 2 a.pB ++ leBytes 2 (twos 16 a.alphaB) ++ leBytes 2 a.p2pi ++ leBytes 2 a.pPark ++ leBytes 2 (twos 16 a.alphaPark) ++ leBytes 2 a.tauH ++
    leBytes 2 a.rH ++ leBytes 1 (b2n a.sFNeg + 2 * b2n a.accepted) ++ leBytes 1 0 ++ leBytes 2 (twos 16 a.tLo) ++ leBytes 2 (twos 16 a.tHi) ++
    (List.range 17).flatMap (fun k => leBytes 2 (twos 16 (a.fCurve.getD k 0))) ++ a.tapB.bytes ++ a.tapX.bytes ++ List.replicate 62 0

/-- The 16 bytes of a port-tap record: D_ref and β of each of the four ranges (R329). -/
def ptapBytes (l : List (Nat × Int)) : List Byte :=
  (List.range 4).flatMap (fun k => leBytes 2 (l.getD k (0, 0)).1 ++ leBytes 2 (twos 16 (l.getD k (0, 0)).2))

/-- The bytes of a cell's record; a record not written is erased. -/
def AtlasSlot.cellBytes (a : AtlasSlot) (n : Nat) : List Byte :=
  match a.cells.find? (fun q => q.1 = n) with | none => erased 128 | some q => q.2.bytes

/-- The bytes of a port tap's record. -/
def AtlasSlot.ptapBytes (a : AtlasSlot) (t : Nat) : List Byte :=
  match a.ptaps.find? (fun q => q.1 = t) with | none => erased 16 | some q => Sys2Proof.ptapBytes q.2

/-- Bytes 0x00 to 0x3F of the header (R329). -/
def AtlasSlot.hdrBody (a : AtlasSlot) : List Byte :=
  leBytes 4 a.magic.toNat ++ leBytes 2 a.format ++ leBytes 2 0 ++ leBytes 4 a.generation.toNat ++ leBytes 4 a.picId ++ leBytes 2 a.picRev ++
    leBytes 2 (twos 16 a.tRef) ++ leBytes 4 a.cellsCrc.toNat ++ leBytes 4 a.bodyCrc.toNat ++ leBytes 6 a.taiS ++ leBytes 30 0

/-- What BODY_CRC should be: over the 8,192 cell records and the 1,024 port-tap records (R329). -/
def AtlasSlot.bodySum (a : AtlasSlot) : Word :=
  BitVec.ofNat 32 (crc32c ((List.range 8192).flatMap a.cellBytes ++ (List.range 1024).flatMap a.ptapBytes))

/-- What HDR_CRC should be (R329). -/
def AtlasSlot.hdrSum (a : AtlasSlot) : Word := BitVec.ofNat 32 (crc32c a.hdrBody)

/-- A header with its BODY_CRC (R329). -/
def AtlasSlot.withBody (a : AtlasSlot) : AtlasSlot := { a with bodyCrc := a.bodySum }

/-- A header with both CRCs (R329, R331). -/
def AtlasSlot.sealCrc (a : AtlasSlot) : AtlasSlot := { a.withBody with headed := true, hdrCrc := a.withBody.hdrSum }

/-- What BLOCK_CRC of a CLUSTER entry should be: over the records of the given cells, in ascending order (R331). -/
def AtlasSlot.cellsSum (a : AtlasSlot) (ns : List Nat) : Word := BitVec.ofNat 32 (crc32c (ns.flatMap a.cellBytes))

/-- What BLOCK_CRC of a PORTS entry should be: over the records of the given port taps (R331). -/
def AtlasSlot.portsSum (a : AtlasSlot) (ts : List Nat) : Word := BitVec.ofNat 32 (crc32c (ts.flatMap a.ptapBytes))

/-- The generation of a slot whose header is programmed (R326, R329). -/
def AtlasSlot.gen? (a : AtlasSlot) : Option Word := if a.headed then some a.generation else none

/-- A byte of an atlas slot (R329). -/
def AtlasSlot.byteAt (a : AtlasSlot) (o : Nat) : Byte :=
  if o < 0x1000 then (if a.headed then (a.hdrBody ++ leBytes 4 a.hdrCrc.toNat).getD o 0xFF else 0xFF)
  else if o < 0x101000 then (a.cellBytes ((o - 0x1000) / 128)).getD ((o - 0x1000) % 128) 0xFF
  else if o < 0x105000 then (a.ptapBytes ((o - 0x101000) / 16)).getD ((o - 0x101000) % 16) 0xFF
  else if 0x3F0000 ≤ o ∧ o < 0x3F4000 then
    match a.retire[(o - 0x3F0000) / 16]? with
    | none => 0xFF
    | some e => e.bytes.getD ((o - 0x3F0000) % 16) 0xFF
  else 0xFF

/-! ### The record area (R183, R279, R325) -/

/-- The bytes that the CRC of a frequency table's copy covers: SEQ, then Y and N of every bin as `TIME_FT_Y` and `TIME_FT_N` hold them
(log 174). -/
def FreqCopy.body (q : FreqCopy) : List Byte :=
  leBytes 4 q.seq ++ (List.range 128).flatMap (fun b =>
    match q.bins.find? (fun e => e.1 = b) with
    | none => leBytes 8 0
    | some e => leBytes 4 (twos 32 e.2.1) ++ leBytes 4 (2 ^ 31 + e.2.2))

/-- What the CRC of a copy should be. -/
def FreqCopy.sum (q : FreqCopy) : Word := BitVec.ofNat 32 (crc32c q.body)

/-- The copy with its CRC. -/
def FreqCopy.sealCrc (q : FreqCopy) : FreqCopy := { q with crc := q.sum }

/-- The CRC of a copy holds (R183). -/
def FreqCopy.crcOk (q : FreqCopy) : Bool := decide (q.crc = q.sum)

/-- The bytes that the CRC of a coefficient's entry covers: its number, c0, g (log 174). -/
def CoefEntry.body (e : CoefEntry) : List Byte := leBytes 4 e.x ++ leBytes 4 (twos 32 e.c0) ++ leBytes 4 e.g

/-- What the CRC of an entry should be. -/
def CoefEntry.sum (e : CoefEntry) : Word := BitVec.ofNat 32 (crc32c e.body)

/-- The entry with its CRC. -/
def CoefEntry.sealCrc (e : CoefEntry) : CoefEntry := { e with crc := e.sum }

/-- The CRC of an entry holds (R279). -/
def CoefEntry.crcOk (e : CoefEntry) : Bool := decide (e.crc = e.sum)

/-- The bytes of a copy of the coefficients: SEQ, then the 256 entries; an entry not there is erased (log 174). -/
def CoefCopy.bytes (q : CoefCopy) : List Byte :=
  leBytes 4 q.seq ++ (List.range 256).flatMap (fun x =>
    match q.entries.find? (fun e => e.x = x) with
    | none => erased 16
    | some e => e.body ++ leBytes 4 e.crc.toNat)

/-- The place of the later of two copies; 0 where neither is there. -/
def laterCopy (a b : Option Nat) : Nat :=
  match a, b with
  | some x, some y => if x < y then 1 else 0
  | none, some _ => 1
  | _, none => 0

/-- The later copy's sequence number plus one. -/
def nextSeq (a b : Option Nat) : Nat := max (a.getD 0) (b.getD 0) + 1

/-- Sequence numbers of the frequency table's copies that pass their CRC. -/
def Flash.freqSeq (f : Flash) (i : Nat) : Option Nat :=
  match f.freqs.getD i none with | none => none | some q => if q.crcOk then some q.seq else none

/-- The frequency table that the record area gives: the later copy that passes its CRC (R183). -/
def Flash.freq (f : Flash) : Option (List (Nat × Int × Nat)) :=
  let i := laterCopy (f.freqSeq 0) (f.freqSeq 1)
  if (f.freqSeq i).isSome then (f.freqs.getD i none).map FreqCopy.bins else none

/-- The place that the next copy takes: the other than the later one's (R325). -/
def otherPlace (a b : Option Nat) : Nat := if a.isNone && b.isNone then 0 else 1 - laterCopy a b

/-- The frequency table is written to the copy whose turn it is (R183, R325). -/
def Flash.putFreq (l : List (Nat × Int × Nat)) (f : Flash) : Flash :=
  let a := f.freqSeq 0
  let b := f.freqSeq 1
  { f with freqs := setAt (some ({ seq := nextSeq a b, bins := l } : FreqCopy).sealCrc) (otherPlace a b) f.freqs }

/-- Sequence number of a copy of the coefficients. -/
def Flash.coefSeq (f : Flash) (i : Nat) : Option Nat := (f.coefs.getD i none).map CoefCopy.seq

/-- The later copy of the coefficients, and the other one. -/
def Flash.coefNew (f : Flash) : List CoefEntry :=
  match f.coefs.getD (laterCopy (f.coefSeq 0) (f.coefSeq 1)) none with | none => [] | some q => q.entries

def Flash.coefOld (f : Flash) : List CoefEntry :=
  match f.coefs.getD (1 - laterCopy (f.coefSeq 0) (f.coefSeq 1)) none with | none => [] | some q => q.entries

/-- The entry of a coefficient: the later copy's where its CRC holds, else the other copy's, whether or not it does; none where neither
copy has one (R279, log 174). -/
def Flash.coef? (f : Flash) (x : Nat) : Option CoefEntry :=
  match f.coefNew.find? (fun e => e.x = x && e.crcOk) with
  | some e => some e
  | none =>
    match f.coefOld.find? (fun e => e.x = x && e.crcOk) with
    | some e => some e
    | none => (f.coefNew ++ f.coefOld).find? (fun e => e.x = x)

/-- A coefficient is written: the copy whose turn it is takes the later one's entries with this one (R279, R325). -/
def Flash.putCoef (e : CoefEntry) (f : Flash) : Flash :=
  let a := f.coefSeq 0
  let b := f.coefSeq 1
  let l := f.coefNew.filter (fun q => q.x ≠ e.x) ++ [e.sealCrc]
  { f with coefs := setAt (some { seq := nextSeq a b, entries := l }) (otherPlace a b) f.coefs }

/-! ### Areas in rotation (R325) -/

/-- Something is written at the next place of an area used in rotation. -/
def rotate {α : Type} (a : α) (i : Nat) (l : List α) : List α := if i < l.length then setAt a i l else l ++ [a]

/-- A shutdown record takes the next of 4,096 places. -/
def Flash.putShutdown (b : List Byte) (f : Flash) : Flash :=
  { f with shutdowns := rotate b f.shutNext f.shutdowns, shutNext := (f.shutNext + 1) % 4096 }

/-- A tail capsule takes the next of 8 places. -/
def Flash.putCapsule (b : List Byte) (f : Flash) : Flash :=
  { f with capsules := rotate b f.capNext f.capsules, capNext := (f.capNext + 1) % 8 }

/-- A journal entry is written: START erases the older sector and is written there (R331). -/
def Flash.putJournal (e : JournalEntry) (f : Flash) : Flash :=
  if e.kind = 1 then { f with journal := [e], journalOld := f.journal, jSector := 1 - f.jSector } else { f with journal := f.journal ++ [e] }

/-! ### Slots and the whole map (R318, R325, R328) -/

/-- A byte of an image slot: the image from offset 0, the ACT word at 0x7F_0000 (R325, R328). -/
def ImageSlot.byteAt (q : ImageSlot) (o : Nat) : Byte :=
  if o < 0x7F0000 then q.bytes.getD o 0xFF else if o < 0x7F0004 then (leBytes 4 q.act.toNat).getD (o - 0x7F0000) 0xFF else 0xFF

/-- The image in a slot. -/
def Flash.image (f : Flash) (slot : Nat) : Option ImageSlot := if slot = 0 then f.slotA else f.slotB

/-- The atlas in a slot. -/
def Flash.atlas (f : Flash) (slot : Nat) : Option AtlasSlot := if slot = 0 then f.atlasA else f.atlasB

/-- A byte at an offset of an area whose places have `n` bytes each. -/
def placeByte (n o : Nat) (l : List (List Byte)) : Byte := (l.getD (o / n) []).getD (o % n) 0xFF

/-- A byte of the first 32 MiB (R325). Where in its area a copy of the record area stands is the model's choice (log 174). -/
def Flash.byteAt (f : Flash) (a : Nat) : Byte :=
  let img (q : Option ImageSlot) (o : Nat) : Byte := match q with | none => 0xFF | some q => q.byteAt o
  let atl (q : Option AtlasSlot) (o : Nat) : Byte := match q with | none => 0xFF | some q => q.byteAt o
  let jnl (k o : Nat) : Byte := placeByte 32 o ((if k = f.jSector then f.journal else f.journalOld).map JournalEntry.bytes)
  let frq (q : Option FreqCopy) (o : Nat) : Byte := match q with | none => 0xFF | some q => (q.body ++ leBytes 4 q.crc.toNat).getD o 0xFF
  let cof (q : Option CoefCopy) (o : Nat) : Byte := match q with | none => 0xFF | some q => q.bytes.getD o 0xFF
  if a < 0x800000 then img f.slotA a
  else if a < 0x1000000 then img f.slotB (a - 0x800000)
  else if a < 0x1400000 then atl f.atlasA (a - 0x1000000)
  else if a < 0x1800000 then atl f.atlasB (a - 0x1400000)
  else if a < 0x1820000 then jnl ((a - 0x1800000) / 0x10000) ((a - 0x1800000) % 0x10000)
  else if a < 0x1A00000 then 0xFF
  else if a < 0x1A10000 then frq (f.freqs.getD 0 none) (a - 0x1A00000)
  else if a < 0x1A20000 then frq (f.freqs.getD 1 none) (a - 0x1A10000)
  else if a < 0x1A30000 then cof (f.coefs.getD 0 none) (a - 0x1A20000)
  else if a < 0x1A40000 then cof (f.coefs.getD 1 none) (a - 0x1A30000)
  else if a < 0x1C00000 then 0xFF
  else if a < 0x1E00000 then placeByte 512 (a - 0x1C00000) f.shutdowns
  else if a < 0x2000000 then placeByte 0x40000 (a - 0x1E00000) f.capsules
  else 0xFF

/-- The running slot's header as the flash holds it (R318, R333). -/
def Flash.header (f : Flash) (slot : Nat) : List Byte := (List.range 64).map (fun o => f.byteAt (0x800000 * slot + o))

/-- An image slot is erased (R335). -/
def slotErased (q : Option ImageSlot) : Bool :=
  match q with | none => true | some q => q.bytes.all (fun b => decide (b = 0xFF)) && decide (q.act = 0xFFFFFFFF)

/-- The JESD216 parameter table begins with its signature (R333, log 175). -/
def Flash.signed (f : Flash) : Bool := decide (f.sfdp.take 4 = [0x53, 0x46, 0x44, 0x50])

end Sys2Proof
end

