-- ==== Sys2Proof/Machine/Ops.lean ====
section
/-! DEFINITION. Operations that every family shares: the image in force, clusters and cells, the clock, events,
notices, completions, messages, NVM writes. -/

namespace Sys2Proof.Machine

/-! ### The image and what it says of the device -/

/-- The sections of the running image; the empty image before one runs (R321). -/
def State.image (s : State) : Image := match s.sys.img with | none => {} | some i => i.image

/-- INST_COUNT of the running image (R38). -/
def State.instCount (s : State) : Nat := if s.sys.img.isSome then s.image.fabm.instCount else 0

/-- The cell entry of FABM (R40); a cell without an entry is UNUSED. -/
def State.entry (s : State) (n : Nat) : CellEntry :=
  (s.image.fabm.cells.find? (fun e => e.n = n)).getD { n := n, role := 0 }

/-- The port-end entry of FABM (R41). -/
def State.port (s : State) (id : Nat) : PortEntry := (s.image.fabm.ports.find? (fun e => e.id = id)).getD { id := id }

/-- The instance descriptor (R39). -/
def State.desc (s : State) (i : Nat) : Option InstDesc := s.image.fabm.insts[i]?

/-- The PART record of an instance (R43). -/
def State.partOf (s : State) (i : Nat) : Option PartRec := s.image.part.recs[i]?

/-- The owner host of an instance (R30); none for an instance the map does not describe. -/
def State.owner (s : State) (i : Nat) : Option Nat :=
  if i < s.instCount then (s.partOf i).map PartRec.owner else none

/-- The steward (R3). -/
def State.steward (s : State) : Nat := s.image.host.steward

/-- IDLE_GATE_BLOCK of an instance (R43). -/
def State.idleBlock (s : State) (i : Nat) : Bool := match s.partOf i with | none => false | some r => bit r.flags 0

/-- The loop class of a cell, every field within its range (R45, R69). -/
def State.cls (s : State) (n : Nat) : ClassRec :=
  clampClass (s.image.loop.classes.getD (s.entry n).cls {})

/-- The atlas record of a cell (R329). -/
def State.atlasOf (s : State) (n : Nat) : Option AtlasCell :=
  match s.sys.atlas with
  | none => none
  | some a => (a.cells.find? (fun q => q.1 = n)).map (·.2)

/-- The sample period of a cluster in ns (R44). -/
def State.pNs (s : State) (c : Nat) : Nat :=
  match s.image.loop.periods.getD c 1 % 4 with
  | 0 => 500
  | 1 => 1000
  | 2 => 2000
  | _ => 4000

/-- The cell is retired by the map, the retirement list or the atlas (R35, R330). -/
def State.retiredCell (s : State) (n : Nat) : Bool :=
  let e := s.entry n
  bit e.flags 1 || s.sys.retire.any (fun r => r.crcOk && r.kind = 1 && r.unit = n) ||
    (match s.atlasOf n with
     | none => true
     | some a => !a.accepted || !curveMonotonic a.fCurve || a.role ≠ e.role)

/-- The cell is heater-only by the map or the retirement list (R37, R86). -/
def State.honlyCell (s : State) (n : Nat) : Bool :=
  bit (s.entry n).flags 2 || s.sys.retire.any (fun r => r.crcOk && r.kind = 2 && r.unit = n)

/-- The instances' cells in ascending cell number (R339). -/
def State.cellsOf (s : State) (i : Nat) : List Nat :=
  sortNat ((s.image.fabm.cells.filter (fun e => e.role ≠ 0 && e.inst = i)).map CellEntry.n)

/-- Instances that have a cell in a cluster (R24). -/
def State.cellInsts (s : State) (c : Nat) : List Nat :=
  (s.image.fabm.cells.filter (fun e => e.role ≠ 0 && e.n / 32 = c)).map CellEntry.inst

/-- Instances that have a port-end tap bound in a cluster (R24, R33). -/
def State.tapInsts (s : State) (c : Nat) : List Nat :=
  (s.image.fabm.ports.filter (fun p => p.dir ≠ 0 && p.tap ≠ 0xFFFF && p.tap / 4 = c)).map PortEntry.inst

/-- The cluster holds a cell of an instance or a tap bound to one of its port ends (R24). -/
def State.usedCluster (s : State) (c : Nat) : Bool := !(s.cellInsts c).isEmpty || !(s.tapInsts c).isEmpty

/-! ### Clusters and cells -/

/-- A cluster. -/
def State.clu (s : State) (c : Nat) : Cluster := s.clusters.getD c {}

/-- Change one cluster. -/
def State.modClu (c : Nat) (f : Cluster → Cluster) (s : State) : State := { s with clusters := modAt f c s.clusters }

/-- Change every cluster, with its number. -/
def State.mapClu (f : Nat → Cluster → Cluster) (s : State) : State := { s with clusters := mapIx f 0 s.clusters }

/-- Cell `k` of a cluster. -/
def Cluster.cell (q : Cluster) (k : Nat) : Cell := q.cells.getD k {}

/-- Change one cell of a cluster. -/
def Cluster.modCell (k : Nat) (f : Cell → Cell) (q : Cluster) : Cluster := { q with cells := modAt f k q.cells }

/-- Cell `n` (R9). -/
def State.cell (s : State) (n : Nat) : Cell := (s.clu (n / 32)).cell (n % 32)

/-- Change cell `n` (R9). -/
def State.modCell (n : Nat) (f : Cell → Cell) (s : State) : State :=
  s.modClu (n / 32) (Cluster.modCell (n % 32) f)

/-- A cluster's domain is on (R17). -/
def State.cluOn (s : State) (c : Nat) : Bool := decide ((s.clu c).pow = .on)

/-- The modes in which a cluster that holds bound taps alone is powered with the clusters of its instances (R24). -/
def State.tapMode (s : State) : Bool :=
  match s.sys.mode with
  | .service | .derated | .calibrate => true
  | .churn | .load | .dark | .safe | .restart => false

/-- The cluster holds bound taps alone, and a cluster with cells of one of their instances is powered (R24). -/
def State.tapsNeeded (s : State) (c : Nat) : Bool :=
  s.tapMode && (s.cellInsts c).isEmpty &&
    (List.range 256).any (fun o => decide ((s.clu o).pow ≠ .off) && (s.cellInsts o).any (fun i => (s.tapInsts c).contains i))

/-- Clusters that hold only taps of the instances of a cluster (R24). -/
def State.tapsOf (s : State) (c : Nat) : List Nat :=
  (List.range 256).filter (fun q => decide (q ≠ c) && (s.cellInsts q).isEmpty && (s.tapInsts q).any (fun i => (s.cellInsts c).contains i))

/-- The clusters of its instances' taps can be powered with a cluster: each is powered and in no power-down, or off with its drive
island on (R16, R24). -/
def State.tapsReady (s : State) (c : Nat) : Bool :=
  !s.tapMode || (s.tapsOf c).all (fun q => if (s.clu q).pow = .off then decide ((s.islands.getD (q / 16) {}).pow = .on) else !(s.clu q).pdown)

/-- Unpowered clusters that hold only taps of the instances of a cluster: they power with it (R24). -/
def State.tapsWith (s : State) (c : Nat) : List Nat :=
  if s.tapMode = false then [] else (s.tapsOf c).filter (fun q => decide ((s.clu q).pow = .off))

/-- Change the engine's state of a cell, both what the last completed period left and the results of the period just
computed, where there are any. -/
def Cell.modEng (f : Eng → Eng) (c : Cell) : Cell := { c with eng := f c.eng, out := c.out.map f }

/-- The newest engine state of a cell. -/
def Cell.engNow (c : Cell) : Eng := c.out.getD c.eng

/-- Change the newest engine state of a cell. -/
def Cell.modNow (f : Eng → Eng) (c : Cell) : Cell :=
  match c.out with
  | none => { c with eng := f c.eng }
  | some e => { c with out := some (f e) }

/-- An established circuit passes through the cell; a circuit on a port end passes through its GATE and TRIM (R85). -/
def State.circuitThrough (s : State) (n : Nat) : Bool :=
  let e := s.entry n
  s.fab.circuits.any (fun c => c.path.any (fun p => p.cell = n) ||
    ((e.role = 2 || e.role = 3) && (c.inp = e.logical || c.out = e.logical)))

/-- The spare engine, the drive island of a row. -/
def State.spare (s : State) (r : Nat) : Spare := s.spares.getD r {}
/-- Change a spare engine. -/
def State.modSpare (r : Nat) (f : Spare → Spare) (s : State) : State := { s with spares := modAt f r s.spares }
/-- A drive island. -/
def State.island (s : State) (r : Nat) : Island := s.islands.getD r {}
/-- Change a drive island. -/
def State.modIsland (r : Nat) (f : Island → Island) (s : State) : State := { s with islands := modAt f r s.islands }

/-- A host port. -/
def State.hport (s : State) (p : Nat) : HostPort := s.hosts.getD p {}
/-- Change a host port. -/
def State.modHost (p : Nat) (f : HostPort → HostPort) (s : State) : State := { s with hosts := modAt f p s.hosts }

/-! ### Free values -/

/-- The next either-or choice (log 2, log 6). -/
def State.either (s : State) : Bool × State := (Config.either s.freeIx, { s with freeIx := s.freeIx + 1 })

/-! ### Reading the clock -/

/-- Extended hardware time X, its era read by R171. -/
def Time.x (t : Time) : Int := (((t.era + b2n t.eraStale) % 2 ^ 32 : Nat) : Int) * 2 ^ 32 + t.wns

/-- Extended hardware time X (R163, R171). -/
def State.now (s : State) : Int := s.time.x

/-! ### EFC_OUT (R129) -/

/-- The code in force at the modulator now (R129). -/
def State.efcNow (s : State) : Nat := if s.now < s.sys.efcEdge then s.sys.efcPrev else s.sys.efcCode

/-- A code for the EFC modulator: it takes the place of the one in force at the next edge of the 31.25 MHz clock (R129, log 137). -/
def State.efcWrite (code : Nat) (s : State) : State :=
  { s with sys := { s.sys with efcPrev := s.efcNow, efcCode := code % 2 ^ 24, efcEdge := (s.now / 32 + 1) * 32 } }

/-- EFC_OUT now: high impedance with EN clear, else the modulator's bit, of which the spec gives only the mean, the code in force over
2²⁴ (R129, log 139). -/
def State.efcOut (s : State) : Option Bool := if s.sys.efcEn then some (Config.efcBit (s.now / 32).toNat s.efcNow) else none

/-- Firmware's origin pair for a top of second `top` of TAI second `sec`: rebased by whole seconds to lie at least 2 s behind,
as far as the counters reach back (R166). -/
def originPair (sec : Nat) (top : Int) : Nat × Int :=
  let k := min (min 2 sec) (top / 1000000000).toNat
  (sec - k, top - (k : Int) * 1000000000)

/-- The TAI instant of an extended time, in ns since TAI 0 (R166). -/
def Time.taiOf (t : Time) (x : Int) : Int := (t.originS : Int) * 1000000000 + (x - t.originX)

/-- The extended time of a TAI instant (R166). -/
def Time.xOf (t : Time) (tai : Int) : Int := t.originX + (tai - (t.originS : Int) * 1000000000)

/-- The TAI instant now (R166). -/
def State.tai (s : State) : Int := s.time.taiOf s.now

/-- Seconds and nanoseconds of a TAI instant (R6). -/
def mailOf (tai : Int) : Nat × Nat := ((tai / 1000000000).toNat % 2 ^ 48, (tai % 1000000000).toNat)

/-- A mailbox time as its 12 bytes (R210). -/
def mailBytes (tai : Int) : List Byte :=
  let q := mailOf tai
  leBytes 4 q.2 ++ leBytes 6 q.1 ++ leBytes 2 0

/-- A mailbox time as TAI ns. -/
def mailTai (m : MailTime) : Int := (m.s : Int) * 1000000000 + m.ns

/-- The stamp of the present tick (R171). -/
def State.stamp (s : State) : Stamp :=
  { era := s.time.era, wns := s.time.wns, sph := s.time.sph, stale := s.time.eraStale }

/-! ### Events -/

/-- Channels that select a source. -/
def Evt.takers (e : Evt) (src : Nat) : List Nat :=
  (List.range 128).filter (fun ch => match e.chans[ch]? with | none => false | some c => c.src = src && src ≠ 0)

/-- A source raises an occurrence: it is on its way to every channel that selects the source (R222, R223). -/
def State.raise (src : Nat) (origin : Option Nat) (s : State) : State :=
  { s with evt := { s.evt with chanIn := s.evt.chanIn ++ (s.evt.takers src).map (fun ch => ⟨ch, origin⟩) } }

/-- EPOCH_COMMITTED and EPOCH_DONE pass to a host channel only for an epoch of the channel owner's instances (R225). -/
def State.raiseEpoch (src : Nat) (insts : List Nat) (s : State) : State :=
  let pass (ch : Nat) : Bool :=
    match s.evt.chans[ch]? with
    | none => false
    | some c => 4 ≤ c.owner || insts.any (fun i => s.owner i = some c.owner)
  { s with evt := { s.evt with chanIn := s.evt.chanIn ++ ((s.evt.takers src).filter pass).map (fun ch => ⟨ch, none⟩) } }

/-- A cluster raises source 0x40 + k and sets its bit in `EVT_CLU_MAP`; raisings within the coincidence window of the first
form one occurrence (R224, R232). -/
def State.raiseClu (k c : Nat) (s : State) : State :=
  let s : State := { s with evt := { s.evt with cluMap := modAt (fun m => if bit m c then m else m + 2 ^ c) k s.evt.cluMap } }
  let new (s : State) : State :=
    ({ s with evt := { s.evt with cluAt := setAt (some s.now) k s.evt.cluAt } } : State).raise (0x40 + k) none
  match s.evt.cluAt.getD k none with
  | none => new s
  | some x =>
    if 0 ≤ s.now - x ∧ s.now - x ≤ 5 then s
    else if 0 ≤ s.now - x ∧ s.now - x ≤ 8 then
      let q := s.either
      if q.1 then q.2 else new q.2
    else new s

/-! ### Messages, notices and completions -/

/-- A vector is not masked: its message is sent (R219). -/
def HostPort.sends (v : Nat) (h : HostPort) : Bool := !(h.msix.getD v {}).masked

/-- A message of the port's output, or its pending bit where the vector is masked (R219). -/
def HostPort.fire (v : Nat) (h : HostPort) : HostPort :=
  if (h.msix.getD v {}).masked then { h with pba := setAt true v h.pba }
  else { h with sent := modAt (· + 1) v h.sent }

/-- A cause of an MSI-X message, with the HOLDOFF of vectors 0 and 1 (R219). -/
def HostPort.msg (v : Nat) (h : HostPort) : HostPort :=
  if h.linkUp = false then h
  else if v = 0 then
    if h.hold0 then { h with held0 := true } else { (h.fire 0) with hold0 := h.sends 0 && decide (h.holdoff ≠ 0) }
  else if v = 1 then
    if h.hold1 then { h with held1 := true } else { (h.fire 1) with hold1 := h.sends 1 && decide (h.holdoff ≠ 0) }
  else h.fire v

/-- READY, PAUSED, RELEASE or MODE has changed: vector 2 of every port (R219). -/
def State.statusChanged (s : State) : State := { s with hosts := s.hosts.map (HostPort.msg 2) }

/-- The notice ring has room (R209). -/
def HostPort.ntcRoom (h : HostPort) : Bool := decide ((h.ntcTail + 65536 - h.ntcHead) % 65536 < 32)

/-- Write a notice to its descriptor and body, and send vector 1 (R211). -/
def HostPort.putNotice (n : Notice) (h : HostPort) : HostPort :=
  let d := leBytes 2 n.kind ++ leBytes 2 0 ++ leBytes 4 h.ntcSeq ++ leBytes 4 n.atNs ++ leBytes 6 n.atS ++ leBytes 2 0
    ++ leBytes 2 n.body.length ++ (n.short ++ List.replicate 10 0).take 10
  let i := h.ntcTail % 32
  HostPort.msg 1 { h with ntcDesc := setAt d i h.ntcDesc, ntcBody := setAt n.body i h.ntcBody,
                          ntcTail := (h.ntcTail + 1) % 65536, ntcSeq := (h.ntcSeq + 1) % 2 ^ 32 }

/-- Places of the backlog in use (R211). -/
def HostPort.places (h : HostPort) : Nat :=
  (h.backlog.filter (fun b => match b with | .note _ => true | .lost _ => false)).length

/-- A notice enters the backlog, or is dropped with the LOST notice in its place (R211). -/
def HostPort.enqueue (n : Notice) (h : HostPort) : HostPort :=
  if h.places < 64 then { h with backlog := h.backlog ++ [.note n] }
  else
    let hasLost := h.backlog.any (fun b => match b with | .note _ => false | .lost _ => true)
    let bl := if hasLost then h.backlog.map (fun b => match b with | .note m => .note m | .lost k => .lost (k + 1))
      else h.backlog ++ [.lost 1]
    { h with backlog := bl, ntcLost := sat32 h.ntcLost, err := h.err ||| 4 }

/-- Firmware raises a notice to a host (R211, R221). -/
def HostPort.notify (firmware : Bool) (n : Notice) (h : HostPort) : HostPort :=
  if h.linkUp = false ∧ n.kind ≠ 1 then h
  else if firmware ∧ h.enable ∧ h.backlog = [] ∧ h.ntcRoom then h.putNotice n
  else h.enqueue n

/-- Firmware runs: LOAD has begun, no halt, no RESTART, not given up, no device reset under way (R309, R316, R317). -/
def State.firmware (s : State) : Bool :=
  decide (s.sys.mode ≠ .churn) && decide (s.sys.mode ≠ .restart) && !s.sys.paused && decide (s.sys.halt = 0)
    && s.sys.resetting.isNone && !s.sys.held

/-- A notice raised now, to one host. -/
def State.notify (p kind : Nat) (short body : List Byte) (s : State) : State :=
  let q := mailOf s.tai
  s.modHost p (HostPort.notify s.firmware { kind := kind, atS := q.1, atNs := q.2, short := short, body := body })

/-- The running recorder's log is owed a record of what has just occurred; firmware writes it (R347). -/
def State.owesLog (kind : Nat) (insts : List Nat) (body : List Byte) (s : State) : State :=
  if s.rcd.on then
    { s with rcd := { s.rcd with logDue := s.rcd.logDue ++ [{ kind := kind, insts := insts, at_ := s.stamp, body := body }] } }
  else s

/-- A MODE_CHANGE or TIME_CHANGE notice raised now, to every host; every region's log is owed a record of the same contents, kinds 6
and 7 (R211, R347). -/
def State.notifyAll (kind : Nat) (short : List Byte) (s : State) : State :=
  ((List.range 4).foldl (fun s p => s.notify p kind short []) s).owesLog (kind + 3) [0, 1, 2, 3] short

/-- The mode changes: `MBX_STATUS.MODE`, vector 2 and the MODE_CHANGE notice (R211, R219, R312). -/
def State.setMode (m : Mode) (s : State) : State :=
  if s.sys.mode = m then s
  else
    let old := s.sys.mode
    let s := ({ s with sys := { s.sys with mode := m } } : State).statusChanged
    s.notifyAll 3 (leBytes 1 old.code ++ leBytes 1 m.code)

/-- The mode shown changes without a notice, which follows when the transition completes (R312). -/
def State.showMode (m : Mode) (s : State) : State :=
  if s.sys.mode = m then s else ({ s with sys := { s.sys with mode := m } } : State).statusChanged

/-- A completion entry of 128 bytes (R210). -/
def cplBytes (code status : Nat) (tag : Word) (detail : Nat) (result : List Byte) : List Byte :=
  leBytes 2 code ++ leBytes 2 status ++ leBytes 4 tag.toNat ++ leBytes 4 detail ++ leBytes 4 0
    ++ (result ++ List.replicate 112 0).take 112

/-- Post a completion: entry, tail, vector 0 (R210). -/
def HostPort.post (bs : List Byte) (h : HostPort) : HostPort :=
  HostPort.msg 0 { h with cplRing := setAt bs (h.cplTail % 64) h.cplRing, cplTail := (h.cplTail + 1) % 65536 }

/-- The commands that do not hold back later ones while they wait: PLAN_COMMIT with EVENT, HKC_SYSCAL, REC_EXPORT,
IMAGE_STAGE, MODE_SET (R210); nor does IMAGE_ACTIVATE with FORCE in its grace period, which gets no completion (R220). -/
def waitsAlone (c : RawCmd) : Bool :=
  (decide (c.code = 0x0005) && bit c.flags 1) || decide (c.code = 0x0043) || decide (c.code = 0x0032) || decide (c.code = 0x0048)
    || decide (c.code = 0x0040) || (decide (c.code = 0x0049) && bit c.flags 2)

/-- The first completion that ring order lets firmware post: every earlier command waits alone (R210). -/
def readyCpl : List Taken → Option (List Byte × List Taken)
  | [] => none
  | t :: ts =>
    match t.answer with
    | some bs => some (bs, ts)
    | none => if t.begun && waitsAlone t.cmd then (readyCpl ts).map (fun q => (q.1, t :: q.2)) else none

/-- Every completion that ring order lets firmware post is posted; its command is no longer in flight (R210). -/
def HostPort.flush : Nat → HostPort → HostPort
  | 0, h => h
  | k + 1, h =>
    match readyCpl h.taken with
    | none => h
    | some q => HostPort.flush k (HostPort.post q.1 { h with taken := q.2 })

/-- The number of the command whose execution has begun last and not ended (R210). -/
def HostPort.turn (h : HostPort) : Nat :=
  match (h.taken.filter (fun t => t.begun && t.answer.isNone)).getLast? with | none => 0 | some t => t.seq

/-- A command whose execution has begun completes, the one of a number; of one that a port reset has dropped nothing is posted
(R210, R221). -/
def HostPort.completeSeq (seq code status : Nat) (tag : Word) (detail : Nat) (result : List Byte) (h : HostPort) : HostPort :=
  match h.taken.findIdx? (fun t => t.begun && t.answer.isNone && decide (t.seq = seq ∧ t.cmd.code = code ∧ t.cmd.tag = tag)) with
  | none => h
  | some i =>
    HostPort.flush h.taken.length
      { h with taken := modAt (fun t => { t with answer := some (cplBytes code status tag detail result) }) i h.taken }

/-- The command whose execution has begun last completes (R210). -/
def HostPort.complete (code status : Nat) (tag : Word) (detail : Nat) (result : List Byte) (h : HostPort) : HostPort :=
  h.completeSeq h.turn code status tag detail result

/-- The next command of a port's ring order begins, where it has this code, these FLAGS and this TAG (R210). -/
def HostPort.startCmd (code flags : Nat) (tag : Word) (h : HostPort) : Option HostPort :=
  match h.taken.findIdx? (fun t => !t.begun) with
  | none => none
  | some i =>
    match h.taken[i]? with
    | none => none
    | some t =>
      if t.cmd.code = code ∧ t.cmd.flags = flags ∧ t.cmd.tag = tag then
        some { h with taken := modAt (fun t => { t with begun := true }) i h.taken }
      else none

/-- Complete the command of a port that has begun last. -/
def State.complete (p code status : Nat) (tag : Word) (detail : Nat) (result : List Byte) (s : State) : State :=
  s.modHost p (HostPort.complete code status tag detail result)

/-- Complete the command of a port with a number: one that has waited. -/
def State.completeSeq (p seq code status : Nat) (tag : Word) (detail : Nat) (result : List Byte) (s : State) : State :=
  s.modHost p (HostPort.completeSeq seq code status tag detail result)

/-- The number of the command of a port that has begun last. -/
def State.turn (s : State) (p : Nat) : Nat := (s.hport p).turn

/-! ### Masters (R253, R362) -/

/-- Undelivered beats of 32 B of the granted write piece are dropped (R253). -/
def State.cutPiece (m beats : Nat) (s : State) : State :=
  match s.braid.granted.getD m none with
  | none => s
  | some g => { s with mem := Mem.writeN s.mem (g.addr + 32 * beats) (g.old.drop (32 * beats)),
                       braid := { s.braid with granted := setAt none m s.braid.granted } }

/-- A write piece of a master under way when the master is reset: how many of its beats were delivered is not stated, a free value
(R253, log 84). -/
def State.cutFree (m : Nat) (s : State) : State :=
  match s.braid.granted.getD m none with
  | none => s
  | some _ => ({ s with freeIx := s.freeIx + 1 } : State).cutPiece m (Config.freeNat s.freeIx)

/-- A master is reset: its port closes, its waiting requests go, its shadows are invalid (R253, R362). -/
def State.dropMaster (m : Nat) (s : State) : State :=
  let s := s.cutFree m
  { s with braid := { s.braid with closed := setAt true m s.braid.closed,
                                   waiting := s.braid.waiting.map (fun l => l.filter (fun w => decide (w.req.master.val ≠ m))) },
           shadows := s.shadows.filter (fun h => decide (h.master ≠ m)) }

/-! ### NVM -/

/-- Replace an atlas of the flash. -/
def flashSetAtlas (slot : Nat) (a : Option AtlasSlot) (f : Flash) : Flash :=
  if slot = 0 then { f with atlasA := a } else { f with atlasB := a }

/-- Replace an image of the flash. -/
def flashSetImage (slot : Nat) (i : Option ImageSlot) (f : Flash) : Flash :=
  if slot = 0 then { f with slotA := i } else { f with slotB := i }

/-- The atlas in a slot, one without a header where the slot is erased (R331). -/
def flashDraft (slot : Nat) (f : Flash) : AtlasSlot := (f.atlas slot).getD { headed := false }

/-- The records of `new` stand in place of those with the same numbers. -/
def putRecs {α : Type} (new old : List (Nat × α)) : List (Nat × α) := old.filter (fun q => !new.any (fun r => r.1 = q.1)) ++ new

/-- A record written to the flash (R86, R279, R299, R325, R331, R333). -/
def flashPut (atlSlot : Nat) (r : NvmRecord) (f : Flash) : Flash :=
  match r with
  | .retire e => flashSetAtlas atlSlot ((f.atlas atlSlot).map (fun a => { a with retire := (a.retire ++ [e]).take 1024 })) f
  | .coef x c0 g => f.putCoef { x := x, c0 := c0, g := g }
  | .shutdown b => f.putShutdown b
  | .eraseAtlas slot => flashSetAtlas slot none f
  | .cells slot recs => flashSetAtlas slot (some { (flashDraft slot f) with cells := putRecs recs (flashDraft slot f).cells }) f
  | .ports slot recs => flashSetAtlas slot (some { (flashDraft slot f) with ptaps := putRecs recs (flashDraft slot f).ptaps }) f
  | .list slot l => flashSetAtlas slot (some { (flashDraft slot f) with retire := l }) f
  | .header slot a =>
    flashSetAtlas slot (some { a with cells := (flashDraft slot f).cells, ptaps := (flashDraft slot f).ptaps, retire := (flashDraft slot f).retire }) f
  | .atlas slot a => flashSetAtlas slot (some a) f
  | .journal e => f.putJournal e

/-- Is a record a shutdown record? -/
def isShutdown : NvmRecord → Bool
  | .shutdown _ => true
  | .retire _ | .coef _ _ _ | .eraseAtlas _ | .cells _ _ | .ports _ _ | .list _ _ | .header _ _ | .atlas _ _ | .journal _ => false

/-- A record joins the SRAM queue of 64; a shutdown record displaces the oldest entry that is none (R334). -/
def Sys.enqueue (r : NvmRecord) (y : Sys) : Sys :=
  if y.queue.length < 64 then { y with queue := y.queue ++ [r] }
  else if isShutdown r && y.queue.any (fun q => !isShutdown q) then
    { y with queue := removeFirst (fun q => !isShutdown q) y.queue ++ [r], dropped := sat8 y.dropped }
  else { y with dropped := sat8 y.dropped }

/-- The test made just before a write: a flash that does not answer is absent from now on (R333). -/
def Sys.tested (y : Sys) : Sys := if y.flash.isNone || !y.answers then { y with absent := true, present := false } else y

/-- A write would be queued (R333, R334, R335). -/
def Sys.wouldQueue (y : Sys) : Bool := y.flash.isNone || y.absent || y.foreign || !y.answers

/-- A record to the NVM, tested just before the write: written, or queued where the flash is absent or foreign
(R333, R334, R335). -/
def Sys.nvmWrite (r : NvmRecord) (y : Sys) : Sys :=
  let y := y.tested
  match y.flash with
  | none => y.enqueue r
  | some f => if y.wouldQueue then y.enqueue r else { y with flash := some (flashPut y.atlSlot r f) }

/-- A record to the NVM. -/
def State.nvmWrite (r : NvmRecord) (s : State) : State := { s with sys := s.sys.nvmWrite r }

end Sys2Proof.Machine
end

