-- ==== Sys2Proof/Machine/Clock.lean ====
section
/-! DEFINITION. The counters: ticks, wraps, the top of the second, and the advance to an instant that a rule fixes in
counted time (R163-R165, R170, log 14). -/

namespace Sys2Proof.Machine

/-- `k` ticks of the counters as plain sums: the nanoseconds gained and the fraction left (R163). -/
def Time.gain (t : Time) (k : Nat) : Nat × Nat :=
  let tot := t.frac + k * t.inc
  (tot / 2 ^ 32, tot % 2 ^ 32)

/-- The least number of ticks, at least one, that gains `d` ns (R163). -/
def Time.ticksFor (t : Time) (d : Nat) : Nat := max 1 ((d * 2 ^ 32 - t.frac + t.inc - 1) / t.inc)

/-- Nanoseconds by which the latest tick can have passed an instant, 1 for one reached exactly: the tick's own gain, but on the tick of
a step or load, which jumps over instants (R163, R169). -/
def Time.passed (t : Time) : Nat :=
  if t.stepZ = some t.x then 1 else ((t.frac + 2 ^ 40 - t.inc) % 2 ^ 32 + t.inc) / 2 ^ 32

/-- ERA_STALE still set at WNS 2³¹: the time base increments ERA itself (R170). -/
def eraAuto (s : State) : State :=
  if s.time.eraStale = true ∧ 2 ^ 31 ≤ s.time.wns then
    { s with time := { s.time with era := (s.time.era + 1) % 2 ^ 32, eraStale := false, eraAuto := true } }
  else s

/-- The tick that wraps WNS (R164). -/
def wrapWns (s : State) : State :=
  if 2 ^ 32 ≤ s.time.wns then
    ({ s with time := { s.time with wns := s.time.wns % 2 ^ 32, eraStale := true } } : State).raise 0x01 none
  else s

/-- The tick that wraps SPH: the top of the second. ERA and WNS are latched, the rate of the Skim stream takes effect
and its snapshots count anew (R165, R340). -/
def wrapSph (s : State) : State :=
  if 1000000000 ≤ s.time.sph then
    let f := if s.rcd.throttled then min s.rcd.hz s.thm.recHz else s.rcd.hz
    { s with time := { s.time with sph := s.time.sph % 1000000000, tosEra := s.time.era, tosWns := s.time.wns,
                                    tosStale := s.time.eraStale },
             rcd := { s.rcd with k := 0, f := if s.rcd.on then f else s.rcd.f } }
  else s

/-- The cells that `REC_CAP_SEL` lists and a capture ring can take, in list order (R341, R352). -/
def State.capList (s : State) : List Nat :=
  ((s.rcd.capSel.filter (fun w => w.getLsbD 31)).map (fun w => w.toNat % 8192)).filter (fun n =>
    (s.entry n).role ≠ 0 && s.rcd.present.getD (s.entry n).inst false &&
      decide (0 < ((s.rcd.rings.getD (s.entry n).inst []).getD 2 {}).size))

/-- A change of the capture list takes effect at a tick that reaches or passes a 4 µs grid instant, from SPH `a` to `b` (R341). -/
def capRenew (a b : Nat) (s : State) : State :=
  if s.rcd.capDirty = true ∧ a / 4000 < b / 4000 then { s with rcd := { s.rcd with capNow := s.capList, capDirty := false } } else s

/-- `k` ticks within which each counter crosses a bound at most at the last one. -/
def ticks (k : Nat) (s : State) : State :=
  let g := s.time.gain k
  let sph := s.time.sph
  let s : State := { s with time := { s.time with wns := s.time.wns + g.1, sph := sph + g.1, frac := g.2 } }
  capRenew sph (sph + g.1) (wrapSph (eraAuto (wrapWns s)))

/-- The nanoseconds to the next bound of a counter (R164, R165, R170). -/
def Time.nextBound (t : Time) : Nat :=
  let b := min (2 ^ 32 - t.wns) (1000000000 - t.sph)
  if t.eraStale ∧ t.wns < 2 ^ 31 then min b (2 ^ 31 - t.wns) else b

/-- Advance the counters until they have gained at least `d` ns, bound by bound. -/
def advanceFor : Nat → Nat → State → State
  | 0, _, s => s
  | fuel + 1, d, s =>
    if d = 0 ∨ s.time.run = false ∨ s.time.inc = 0 then s
    else
      let step := min d s.time.nextBound
      let k := s.time.ticksFor step
      advanceFor fuel (d - (s.time.gain k).1) (ticks k s)

/-- The advance to the first tick at or after an extended time; nothing where it is not ahead (log 14). -/
def advanceTo (x : Int) (s : State) : State := advanceFor 256 (x - s.now).toNat s

/-- The time base reaches an instant that lies at most `within` ns ahead; none where the counters are not running or the
instant lies further off. -/
def reach (within : Nat) (x : Int) (s : State) : Option State :=
  if s.time.run = false ∨ (within : Int) < x - s.now then none else some (advanceTo x s)

/-- What an empty queue leaves to do: one tick of the counters (log 14). -/
def idle (s : State) : State := if s.time.run then ticks 1 s else s

/-- The stamp's extended time. -/
def Stamp.x (p : Stamp) : Int := (((p.era + b2n p.stale) % 2 ^ 32 : Nat) : Int) * 2 ^ 32 + p.wns

end Sys2Proof.Machine
end

