-- ==== Sys2Proof/Machine/Front.lean ====
section
/-! DEFINITION. The tile's front end at a boundary: capture, delivery, dark subtraction, SAR slots and checks,
port-end taps, pilot accumulators, range changes (R107-R126). -/

namespace Sys2Proof.Machine

/-- What the map, the class and the atlas say of one cell of a cluster. -/
structure CellEnv where
  role : Nat := 0
  swap : Bool := false
  cls : ClassRec := {}
  atl : AtlasCell := {}
  circuit : Bool := false
  retired : Bool := true

/-- What a boundary of a cluster reads from the rest of the device. -/
structure ClEnv where
  /-- boundary instant, counter ns -/
  d : Int
  /-- sample period, ns -/
  pNs : Nat
  tRef : Int
  /-- delivered cluster temperature, Q8.8 -/
  t : Int
  v : Nat
  kappa : Rat
  calibrate : Bool
  cells : List CellEnv
  /-- D_ref and β per range of the four port-end taps -/
  ptapCal : List (List (Nat × Int))

/-- P in µs. -/
def ClEnv.p (e : ClEnv) : Rat := (e.pNs : Rat) / 1000

/-- Last conversion round that completes by the delivering boundary (R126 step 3). -/
def lastRound (pNs : Nat) : Nat :=
  if pNs ≤ 500 then 5 else if pNs ≤ 1000 then 11 else if pNs ≤ 2000 then 23 else 47

/-- Inputs of SARs out of service, ascending (R125, R126). -/
def failedInputs (out : List Bool) : List Nat := (List.range 68).filter (fun i => out.getD (i % 12) false)

/-- Free slots of round 5 and of one later round (R126 step 2). -/
def freeRound5 (out : List Bool) : Nat := ([8, 9, 10, 11].filter (fun s => !(out.getD s false))).length

/-- Working SARs. -/
def workingSars (out : List Bool) : Nat := ((List.range 12).filter (fun s => !(out.getD s false))).length

/-- Inputs for which no slot remains (R126 step 5). -/
def lostInputs (pNs : Nat) (out : List Bool) : List Nat :=
  (failedInputs out).drop (freeRound5 out + (lastRound pNs - 5) * workingSars out)

/-- The SARs checked in a period (R125, R126 step 4). -/
def checkedSars (pNs : Nat) (out : List Bool) : List Nat :=
  let working := (List.range 12).filter (fun s => !(out.getD s false))
  let n := (failedInputs out).length
  if pNs ≤ 500 then (if n = 0 then [8, 9, 10, 11] else [])
  else
    let last := if n ≤ freeRound5 out then 5
      else if workingSars out = 0 then lastRound pNs else 6 + (n - freeRound5 out - 1) / workingSars out
    if last + 1 ≤ lastRound pNs then working else []

/-- One SAR check against the recorded code of a reference (R126): out of service on the second failure. -/
def checkSar (ref code : Nat) (s : Sar) : Sar × Bool :=
  let bad := decide (8 < ((code : Int) - (s.refs.getD ref 0 : Int)).natAbs)
  ({ s with bad := setAt bad ref s.bad }, bad && s.bad.getD ref false)

/-- Recovery time of a TIA range, ns (R120). -/
def recoveryNs (range : Nat) : Nat := match range with | 0 => 1000 | 1 => 500 | _ => 300

/-- The latest instant at which a comparator saw its TIA saturated, at a capture at `d` (R121). -/
def satInstant (d : Int) (old : Option Int) (r : RawInput) : Option Int :=
  if 4095 < r.code then some d else match r.sat with | none => old | some ns => some (d - ns)

/-- The over-range rule of R121 at capture: in a break, beyond full scale, or saturated within the range's recovery time. -/
def rawCode (d : Int) (range : Nat) (brk : Bool) (at_ : Option Int) (r : RawInput) : Nat × Bool :=
  if brk = true ∨ 4095 < r.code ∨ (match at_ with | none => false | some t => decide (d ≤ t + recoveryNs range)) = true then (4095, true)
  else (r.code, false)

/-- D of a tap in codes, with δ (R122). -/
def darkD (cal : TapCal) (t tRef : Int) (trim : Int) : Rat :=
  (cal.dRef : Rat) / 16 + (cal.beta : Rat) / 4096 * dT t tRef + trim

/-- The front end keeps x to 1/16 code (R122). -/
def sixteenth (x : Rat) : Rat := (roundNear (x * 16) : Rat) / 16

/-- x of a tap (R122). -/
def xOf (cal : TapCal) (t tRef trim : Int) (code : Nat) : Rat :=
  sixteenth (((code : Rat) - darkD cal t tRef trim) * (cal.gain : Rat) / 16384)

/-- Delivery of the held codes of one cell (R11, R121, R122), with the DARK block sums of R123. -/
def deliverCell (e : ClEnv) (ce : CellEnv) (b x : Nat × Bool) (c : Cell) : Cell :=
  let db := darkD ce.atl.tapB e.t e.tRef c.trimMb
  let dx := darkD ce.atl.tapX e.t e.tRef c.trimMx
  let pb := xOf ce.atl.tapB e.t e.tRef c.trimMb b.1
  let px := xOf ce.atl.tapX e.t e.tRef c.trimMx x.1
  let c := { c with smp := { mb := b.1, mbOr := b.2, mx := x.1, mxOr := x.2 }, smpE := c.capE,
                    dMb := (clampI 0 0xFFFF (roundNear (db * 16))).toNat,
                    dMx := (clampI 0 0xFFFF (roundNear (dx * 16))).toNat,
                    xb := if ce.swap then px else pb, xx := if ce.swap then pb else px,
                    orMb := if b.2 then sat16 c.orMb else c.orMb,
                    orMx := if x.2 then sat16 c.orMx else c.orMx }
  if c.eng.st = .dark then
    { c with dkN := c.dkN + 1,
             dkSumMb := if b.2 then c.dkSumMb else c.dkSumMb + ((b.1 : Rat) - db),
             dkCntMb := if b.2 then c.dkCntMb else c.dkCntMb + 1,
             dkSumMx := if x.2 then c.dkSumMx else c.dkSumMx + ((x.1 : Rat) - dx),
             dkCntMx := if x.2 then c.dkCntMx else c.dkCntMx + 1 }
  else { c with dkN := 0, dkSumMb := 0, dkCntMb := 0, dkSumMx := 0, dkCntMx := 0 }

/-- δ moves by one code toward a mean of at least one code (R123). -/
def trimStep (sum : Rat) (n : Nat) (trim : Int) : Int :=
  if n = 0 then trim
  else
    let m := sum / n
    if 1 ≤ m then clampI (-8) 8 (trim + 1) else if m ≤ -1 then clampI (-8) 8 (trim - 1) else trim

/-- The dark trim of a DARK cell after 1,024 samples (R123). -/
def darkTrim (c : Cell) : Cell :=
  if c.eng.st = .dark ∧ 1024 ≤ c.dkN then
    { c with trimMb := trimStep c.dkSumMb c.dkCntMb c.trimMb, trimMx := trimStep c.dkSumMx c.dkCntMx c.trimMx,
             dkN := 0, dkSumMb := 0, dkCntMb := 0, dkSumMx := 0, dkCntMx := 0 }
  else c

/-- The logical sample of a cell (R23, R47). -/
def logicalSmp (swap : Bool) (c : Cell) : LSmp :=
  let mb := c.smp.mb + 4096 * b2n c.smp.mbOr
  let mx := c.smp.mx + 4096 * b2n c.smp.mxOr
  { mb := c.xb, mx := c.xx, ovr := c.smp.mbOr || c.smp.mxOr, rawMb := if swap then mx else mb,
    rawMx := if swap then mb else mx, e := c.smpE }

/-- Delivery of a port-end tap's held code, and its range counters (R124). -/
def deliverTap (e : ClEnv) (cal : List (Nat × Int)) (auto : Bool) (r : Nat × Bool) (t : PTap) : PTap :=
  let (d, b) := cal.getD t.capRange (1024, 0)
  let x : Rat := sixteenth ((r.1 : Rat) - ((d : Rat) / 16 + (b : Rat) / 4096 * dT e.t e.tRef))
  let t := { t with valid := !t.capBrk, range := t.capRange, ovr := r.2, code := r.1, x := x }
  if !auto then { t with orRun := 0, lowRun := 0 }
  else if t.capBrk then t
  else { t with orRun := if r.2 then t.orRun + 1 else 0,
                lowRun := if !r.2 && decide (x < 300) then t.lowRun + 1 else 0 }

/-- AUTO of a port-end tap (R131). -/
def tapAuto (cfg : Word) (t : Nat) : Bool := bit cfg.toNat (4 * t + 2)

/-- A range step of an auto-ranging tap (R124) at the latest boundary. -/
def tapStep (cfg : Word) (ix : Nat) (at_ : Int) (t : PTap) : PTap :=
  if tapAuto cfg ix then
    if 2 ≤ t.orRun ∧ t.now < 3 then { t with now := t.now + 1, orRun := 0, lowRun := 0, stepAt := some at_ }
    else if 1024 ≤ t.lowRun ∧ 0 < t.now then
      { t with now := t.now - 1, orRun := 0, lowRun := 0, stepAt := some at_ }
    else t
  else t

/-- A write of a tap's field of `CLU_PTAP_CFG` (R131): with AUTO clear the fixed range is taken, with AUTO set, where the field
changes, the starting range. DESIGN CHOICE (log 138): the tap takes it at once, as a step with its break. -/
def tapConfig (old new : Word) (now : Int) (t : Nat) (p : PTap) : PTap :=
  let f (w : Word) : Nat := bits w.toNat (4 * t + 3) (4 * t) % 8
  let r := f new % 4
  if p.now = r ∨ (tapAuto new t = true ∧ f old = f new) then p
  else { p with now := r, orRun := 0, lowRun := 0, stepAt := some now }

/-- Capture of a tap: its range and whether a break covers the instant (R124). -/
def captureTap (d : Int) (t : PTap) : PTap :=
  { t with capRange := t.now, capBrk := match t.stepAt with | none => false | some s => decide (d < s + 2000) }

/-- Advance of a pilot accumulator over one period (R117). -/
def pilotNextAcc (pNs : Nat) (c : Cell) : Nat := (c.acc + (c.tone + 1) * 1024 * pNs / 1000) % 65536

/-- The accumulator's load value at WNS time t within its second (R117). -/
def pilotLoad (t : Nat) (c : Cell) : Nat :=
  ((c.tone + 1) * 1024 * (t % 64000) / 1000 + b2n c.quad * 16384) % 65536

/-- The pad fields that a parked pad leaves (R106, R107): disconnected, quantiser cleared. -/
def parkPads (c : Cell) : Cell :=
  { c with parked := true, fParked := true, qErr1 := 0, qErr2 := 0, pilotE := 0 }

/-! ### The heater modulator (R12, R107, R116) -/

/-- The level k whose (k/7)² lies nearest a value in units of 1 / (49 × 65,536) (R107); the lower where equally near (log 137). -/
def nearestLevel (x : Int) : Nat := (argMin (fun k : Nat => (x - 65536 * k * k).natAbs) (List.range 8)).getD 0

/-- One edge of the modulator (R107): the level, and the two errors after it. Second-order error feedback adds twice the latest
error less the one before to the code (log 137); a code of 0 selects k = 0 and leaves the errors. -/
def quantEdge (u : Nat) (q : Int × Int) : Nat × Int × Int :=
  if u = 0 then (0, q)
  else
    let v := 49 * (u : Int) + 2 * q.1 - q.2
    let k := nearestLevel v
    (k, v - 65536 * k * k, q.1)

/-- `n` edges of the modulator: the sum of their levels, and the errors after them. -/
def quantRun (u : Nat) : Nat → Nat × Int × Int → Nat × Int × Int
  | 0, a => a
  | n + 1, a => let r := quantEdge u a.2; quantRun u n (a.1 + r.1, r.2)

/-- Edges of the 31.25 MHz modulator clock in [a, b): multiples of 32 ns of extended time (R12, log 137). -/
def edgesIn (a b : Int) : Nat := (ceilDiv b 32 - ceilDiv a 32).toNat

/-- A cell's heater drive up to an instant: the modulator in VOLT mode, and the current it predicts, mA summed over the edges
(R107, R108, R110, R116). A parked pad draws none. -/
def Cell.modTo (v : Nat) (x : Int) (c : Cell) : Cell × Rat :=
  let n := edgesIn c.modAt x
  let u := if c.hOff then 0 else c.uh
  if c.parked = true ∨ c.hParked = true ∨ c.rH = 0 then ({ c with modAt := x }, 0)
  else if c.cfgNow.hCurr then ({ c with modAt := x }, n * ((u : Rat) / 65536 * (6 * (2 : Rat) ^ c.cfgNow.hRange)))
  else
    let r := quantRun u n (0, c.qErr1, c.qErr2)
    ({ c with modAt := x, qErr1 := r.2.1, qErr2 := r.2.2 }, (r.1 : Rat) / 7 * v / ((c.rH : Rat) / 64))

/-- Every heater of a cluster up to an instant (R116). -/
def Cluster.modTo (x : Int) (k : Cluster) : Cluster :=
  let r := k.cells.map (Cell.modTo k.latV x)
  { k with cells := r.map (·.1), iAcc := k.iAcc + sumR (r.map (·.2)) }

/-- The pads park at OFF and RETIRED, in a break and after four over-current trips (R106, R110, R114). -/
def mustPark (c : Cell) : Bool :=
  c.brk || (match c.eng.st with | .off | .retired => true | .hitch | .track | .hold | .dark | .stuck | .limit => false)

/-- The outputs of a completed period take effect (R11, R50, R106). -/
def applyOut (c : Cell) : Cell :=
  match c.out with
  | none => { c with hOff := false }
  | some e =>
    let c := { c with eng := e, out := none, hOff := false }
    if mustPark c then { (parkPads c) with uf := 0, uh := 0 }
    else { c with uf := e.uF, uh := if c.hParked then 0 else e.uH, pilotE := e.pilotE, parked := false, fParked := false,
                  everOut := true }

/-- The end of a range change at a boundary, whose outputs are the first in the new configuration (R114). DESIGN CHOICE (log 138): a
write with APPLY set while a change is in progress starts no second one: APPLY clears with the end of the first. -/
def rangeEnd (d : Int) (c : Cell) : Cell :=
  if c.rangeBusy ∧ c.brkAt + 2000 ≤ d then
    let c := if c.brk then { c with brk := false, cfgNow := c.cfg, uf := 0, uh := 0 } else c
    { c with rangeBusy := false, apply := false }
  else c

/-- The beginning of a range change at a boundary (R114). -/
def rangeBegin (e : ClEnv) (c : Cell) : Cell :=
  if c.rangeBusy = false ∧ c.apply = true ∧ (c.eng.st = .off ∨ e.calibrate) then
    { (parkPads c) with rangeBusy := true, brk := true, brkAt := e.d, uf := 0, uh := 0 }
  else c

/-- The codes of a period that ends at boundary `next` may be applied there: no range change is due then (R114). -/
def mayStart (next : Int) (c : Cell) : Bool :=
  if c.rangeBusy then decide (c.brkAt + 2000 ≤ next) else !c.apply

/-- Values latched for the coming period (R50, R115): the target presented or live, r_H and p_meas of the code in force, the island's
park, the circuit, and whether a cell that is OFF starts in it: not in a power-down, nor in CALIBRATE, whose loops are in
characterisation (R21, log 131), nor before a range change is past. -/
def latchCell (e : ClEnv) (ce : CellEnv) (down : Bool) (c : Cell) : Cell :=
  { c with seen := c.staged.getD c.live, latRH := c.rH, latPark := c.hParked, latCircuit := ce.circuit, latRamp0 := c.ramp0,
           latStart := !down && !e.calibrate && mayStart (e.d + e.pNs) c,
           pmeas := if c.parked || c.hOff then 0 else pMeas ce.cls e.v e.kappa c.rH c.uh }

/-- All captures, deliveries and pilots of a boundary, whether or not a period was computed (R11, R117, R125). -/
def frontBoundary (e : ClEnv) (inputs : List RawInput) (sarCodes : List Nat) (k : Cluster) : Cluster :=
  let lost := lostInputs e.pNs k.sarOut
  let held (i : Nat) : Nat × Bool :=
    if lost.contains i then (4095, true)
    else (k.cap[i]?).getD (4095, true)
  let haveCap := !k.cap.isEmpty
  let cells := mapIx (fun i c =>
      let ce := e.cells.getD i {}
      let c := if haveCap then deliverCell e ce (held (2 * i)) (held (2 * i + 1)) c else c
      { c with capE := c.pilotE, acc := pilotNextAcc e.pNs c }) 0 k.cells
  let ptap := mapIx (fun t p =>
      let p := if haveCap then deliverTap e (e.ptapCal.getD t []) (tapAuto k.ptapCfg t) (held (64 + t)) p else p
      captureTap e.d p) 0 k.ptap
  let inBrk (i : Nat) : Bool :=
    if i < 64 then (match k.cells[i / 2]? with | some c => c.brk && decide (e.d < c.brkAt + 2000) | none => false)
    else (match ptap[i - 64]? with | some p => p.capBrk | none => false)
  let range (i : Nat) : Nat :=
    if i < 64 then (match k.cells[i / 2]? with | some c => c.cfgNow.tia | none => 0)
    else (match ptap[i - 64]? with | some p => p.capRange | none => 0)
  let satAt := mapIx (fun i r => satInstant e.d (k.satAt.getD i none) r) 0 inputs
  let cap := mapIx (fun i r => rawCode e.d (range i) (inBrk i) (satAt.getD i none) r) 0 inputs
  let chk := checkedSars e.pNs k.sarOut
  let res := mapIx (fun i s => if chk.contains i then checkSar k.sarRef (sarCodes.getD i (s.refs.getD k.sarRef 0)) s else (s, false)) 0 k.sars
  let newOut := res.map (·.2)
  { k with cells := cells, ptap := ptap, cap := cap, satAt := satAt, sars := res.map (·.1), sarLost := min 15 lost.length,
           sarOut := (k.sarOut.zip newOut).map (fun q => q.1 || q.2),
           sarFault := (k.sarFault.zip newOut).map (fun q => q.1 || q.2),
           sarRef := if chk.isEmpty then k.sarRef else (k.sarRef + 1) % 3 }

end Sys2Proof.Machine
end

