-- ==== Sys2Proof/Machine/RcdOps.lean ====
section
/-! DEFINITION. The recorder's operations: entries, blocks, staging, rings, region headers and log records
(R338-R350). -/

namespace Sys2Proof.Machine

/-- One MiB. -/
def mib : Nat := 2 ^ 20

/-- Internal base address of a DDR channel (R243). -/
def chBase (c : Nat) : Nat := c * 2 ^ 36

/-- A DDR channel serves the recorder: verified, powered and not lost (R244, R345, R350). -/
def State.chOk (s : State) (c : Nat) : Bool :=
  s.sys.ddrOk.getD c false && !(s.rcd.chLost.getD c false) && decide (s.power.ddr.getD c .off = .on)

/-- A ring of a region. -/
def State.ring (s : State) (i k : Nat) : Ring := (s.rcd.rings.getD i []).getD k {}

/-- Change a ring of a region. -/
def State.modRing (i k : Nat) (f : Ring → Ring) (s : State) : State :=
  { s with rcd := { s.rcd with rings := modAt (modAt f k) i s.rcd.rings } }

/-- OLDEST of a ring (R345). -/
def Ring.oldest (r : Ring) : Nat := max r.base (r.w - r.size)

/-- Recorder pointer of a byte count (R345). -/
def ringPtr (k w : Nat) : Nat := k * 2 ^ 62 + w % 2 ^ 62

/-- Offset of a ring from its region's start on a channel: header area, log, half of Skim, half of capture (R344). -/
def ringStart (sz : Nat × Nat × Nat) (k : Nat) : Nat :=
  if k = 0 then mib else if k = 1 then mib + sz.1 else mib + sz.1 + sz.2.1 / 2

/-- Size of a ring at LOAD. -/
def ringSize (sz : Nat × Nat × Nat) (k : Nat) : Nat := if k = 0 then sz.1 else if k = 1 then sz.2.1 else sz.2.2

/-- The channel that holds a byte of a halved ring: the one not lost (R350). -/
def State.survivor (s : State) : Nat := if s.chOk 0 then 0 else 1

/-- Internal addresses that hold a ring offset: both channels for the log, one for Skim and capture (R344, R345). -/
def State.ringAddrs (s : State) (i k off : Nat) : List Nat :=
  let sz := s.rcd.sizes.getD i (0, 0, 0)
  let start := s.rcd.place.getD i 0 + ringStart sz k
  if k = 0 then (([0, 1] : List Nat).filter s.chOk).map (fun c => chBase c + start + off)
  else
    let half := ringSize sz k / 2
    if (s.ring i k).size < ringSize sz k then [chBase s.survivor + start + off]
    else if off < half then [chBase 0 + start + off] else [chBase 1 + start + (off - half)]

/-- Bytes written to a ring from its pointer on, wrapping at its end (R345). -/
def ringWrite (s : State) (i k : Nat) : Nat → List Byte → List Host.Cell → List Host.Cell
  | _, [], m => m
  | p, b :: bs, m =>
    let r := s.ring i k
    ringWrite s i k (p + 1) bs
      ((s.ringAddrs i k ((p - r.base) % r.size)).foldl (fun m a => Mem.write m a b) m)

/-- Append bytes to a ring and advance W (R345). -/
def State.ringPut (i k : Nat) (bs : List Byte) (s : State) : State :=
  if (s.ring i k).size = 0 then s
  else ({ s with mem := ringWrite s i k (s.ring i k).w bs s.mem } : State).modRing i k
    (fun r => { r with w := r.w + bs.length })

/-- The region header (R346). -/
def State.headerBytes (s : State) (i : Nat) : List Byte :=
  let fl := b2n s.rcd.frozen + 2 * b2n (s.rcd.chLost.getD 0 false) + 4 * b2n (s.rcd.chLost.getD 1 false)
    + 8 * b2n s.rcd.throttled
  let rg (k : Nat) : List Byte :=
    let r := s.ring i k
    leBytes 8 r.size ++ leBytes 8 (ringPtr k r.w) ++ leBytes 8 (ringPtr k r.oldest) ++ leBytes 8 (ringPtr k r.base)
  leBytes 4 0x4D494B53 ++ leBytes 2 1 ++ leBytes 1 i ++ leBytes 1 fl ++ leBytes 4 (s.rcd.hdrSeq.getD i 0)
    ++ leBytes 2 s.rcd.f ++ leBytes 2 (s.cellsOf i).length ++ leBytes 6 s.time.originS ++ leBytes 2 0
    ++ leBytes 8 (s.time.originX % 2 ^ 64).toNat ++ rg 0 ++ rg 1 ++ rg 2
    ++ ((s.rcd.capNow ++ List.replicate 256 0xFFFF).take 256).flatMap (leBytes 2)

/-- Refresh a region header: SEQ is odd while it is written and even afterwards; both channels (R344, R346). -/
def State.refreshHeader (i : Nat) (s : State) : State :=
  if s.rcd.present.getD i false then
    let s := { s with rcd := { s.rcd with hdrSeq := modAt (fun n => (n + 2) % 2 ^ 32) i s.rcd.hdrSeq } }
    let bs := s.headerBytes i
    let at_ := s.rcd.place.getD i 0
    { s with mem := (([0, 1] : List Nat).filter s.chOk).foldl (fun m c => Mem.writeN m (chBase c + at_) bs) s.mem }
  else s

/-- The origin changed: firmware refreshes every region header (R346). -/
def State.refreshAll (s : State) : State := ([0, 1, 2, 3] : List Nat).foldl (fun s i => s.refreshHeader i) s

/-- A log record: 32 bytes of header and a body of LEN bytes (R347). -/
def logBytes (kind : Nat) (p : Stamp) (tai : Int) (body : List Byte) : List Byte :=
  let len := if kind = 1 then 1024 else 32
  leBytes 2 kind ++ leBytes 2 len ++ leBytes 1 (b2n p.stale) ++ leBytes 3 0 ++ leBytes 4 p.era ++ leBytes 4 p.wns
    ++ mailBytes tai ++ leBytes 4 0 ++ (body ++ List.replicate len 0).take len

/-- Write a log record to the logs of some instances, and refresh their headers (R346, R347). -/
def State.logTo (kind : Nat) (insts : List Nat) (p : Stamp) (body : List Byte) (s : State) : State :=
  let bs := logBytes kind p (s.time.taiOf p.x) body
  insts.foldl (fun s i => if s.rcd.on && s.rcd.present.getD i false then (s.ringPut i 0 bs).refreshHeader i else s) s

/-- All four instances: a device-wide record goes to every region (R347). -/
def allInsts : List Nat := [0, 1, 2, 3]

/-- A mark was logged: the next block of each ring of the instances carries MARKED (R342). -/
def State.markRings (insts : List Nat) (s : State) : State :=
  insts.foldl (fun s i => (s.modRing i 1 (fun r => { r with marked := true })).modRing i 2 (fun r => { r with marked := true })) s

/-- A MARK record: VALUE and the issuer (R347, R348). -/
def State.logMark (insts : List Nat) (value : Word) (issuer : Nat) (s : State) : State :=
  (s.logTo 2 insts s.stamp (leBytes 4 value.toNat ++ leBytes 1 issuer)).markRings insts

/-- Bytes staged (R343). -/
def Rec.fill (r : Rec) : Nat := (r.stage.map (fun b => b.bytes.length)).sum

/-- Size of the staging buffer (R343). -/
def stageSize : Nat := 4 * mib

/-- The QoS of M6 follows the fill: up past three-quarters, down below half (R246). -/
def State.recQos (s : State) : State :=
  let f := s.rcd.fill
  if stageSize * 3 / 4 < f then { s with rcd := { s.rcd with qosHigh := true } }
  else if f < stageSize / 2 then { s with rcd := { s.rcd with qosHigh := false } }
  else s

/-- A staged block is frozen out: it counts as lost, and the losses and the mark that its header would have told pass on to the next
block of its ring (R342, R348). -/
def Block.giveBack (b : Block) (r : Ring) : Ring :=
  { r with shed := satAdd 0xFFFFFFFF r.shed (b.shed + 1), gap := true, marked := r.marked || b.marked }

/-- Freeze: the block in progress is finished and every other staged block is frozen out; a log record (R348). A freeze that meets a
freeze changes nothing. FREEZE written before the recorder runs holds from its start on (R352, DEDUCED, log 171). -/
def State.freeze (s : State) : State :=
  if s.rcd.frozen then s
  else if s.rcd.on = false then { s with rcd := { s.rcd with frozen := true } }
  else
    let out := s.rcd.stage.drop 1
    let s := out.foldl (fun s b => s.modRing b.inst b.ring b.giveBack) s
    (({ s with rcd := { s.rcd with frozen := true, stage := s.rcd.stage.take 1 } } : State).recQos).logTo 3 allInsts s.stamp []

/-- Release of a freeze: the next block of each ring carries GAP; a log record (R348). -/
def State.release (s : State) : State :=
  if s.rcd.frozen = false then s
  else if s.rcd.on = false then { s with rcd := { s.rcd with frozen := false } }
  else
    let s : State := { s with rcd := { s.rcd with frozen := false,
                                                  rings := s.rcd.rings.map (fun l => mapIx (fun k r => if k = 0 then r else { r with gap := true }) 0 l) } }
    s.logTo 4 allInsts s.stamp []

/-- What a tap's hold capacitor holds of the latest capture: code and over-range (R121, R339). -/
def heldRaw (s : State) (c i : Nat) : Nat × Bool :=
  let q := s.clu c
  if (lostInputs (s.pNs c) q.sarOut).contains i then (4095, true)
  else (q.cap[i]?).getD (4095, true)

/-- A raw sample as the recorder stores it (R339). -/
def recSmp (q : Nat × Bool) : Nat := q.1 % 4096 + 32768 * b2n q.2

/-- The 16-byte entry of a cell (R339); a cell whose cluster is unpowered has STATE OFF, which is 0, and every other field zero, CELL
too (R338). A cluster without an engine computes no period that it could miss. -/
def recEntry (s : State) (n : Nat) : List Byte :=
  let q := s.clu (n / 32)
  if q.pow ≠ .on then List.replicate 16 0
  else
    let c := s.cell n
    let e := c.eng
    let err : Rat := e.err.getD 0
    let st := e.st.code + 8 * e.cause.code + 64 * b2n e.pendRetire + 128 * b2n e.honly
    let fl := 4 * b2n (decide (0 < q.lost) && decide (q.source ≠ .none)) + 8 * b2n e.delayed + 16 * b2n e.hitchAct + 32 * b2n e.fSat + 64 * e.winner.code
    leBytes 2 c.uh ++ leBytes 2 c.uf ++ leBytes 2 (recSmp (heldRaw s (n / 32) (2 * (n % 32))))
      ++ leBytes 2 (recSmp (heldRaw s (n / 32) (2 * (n % 32) + 1))) ++ leBytes 2 (viewS 16 err)
      ++ leBytes 1 st ++ leBytes 1 fl ++ leBytes 2 n ++ leBytes 1 c.live.state.code ++ leBytes 1 e.wv

/-- A cell's entry of instant `b` as the recorder takes it: out of its cluster's latch where that holds the records of `b`, else the
cell as it stands (R338, R339, log 119). -/
def State.recTake (s : State) (b : Int) (n : Nat) : List Byte :=
  match (s.clu (n / 32)).latch with
  | some (d, es) => if d = b then es.getD (n % 32) [] else recEntry s n
  | none => recEntry s n

/-- A ring loses its half on the failed channel: half the size, with BASE at W; nothing is left of it where the other
channel is lost too (R350). -/
def Ring.halve (both : Bool) (r : Ring) : Ring := { r with size := if both then 0 else r.size / 2, base := r.w }

/-- The body of a CHANNEL_LOSS record for a region: the channel, and the BASE of its three rings (R347, log 117). -/
def State.lossBody (s : State) (i ch : Nat) : List Byte :=
  leBytes 1 ch ++ ([0, 1, 2] : List Nat).flatMap (fun k => leBytes 8 (ringPtr k (s.ring i k).base))

/-- A DDR channel fails in service: rings halved, region headers, a CHANNEL_LOSS record owed to every region's log (R347, R350). -/
def ddrChannelFail (ch : Nat) (s : State) : State :=
  if s.chOk ch = false then s
  else
    let both := !s.chOk (1 - ch)
    let s : State := { s with rcd := { s.rcd with chLost := setAt true ch s.rcd.chLost,
                                                  rings := s.rcd.rings.map (fun l => mapIx (fun k r => if k = 0 then r else r.halve both) 0 l) } }
    allInsts.foldl (fun s i => s.owesLog 9 [i] (s.lossBody i ch)) s.refreshAll

/-- A recorder piece to a channel fails; the sixteenth within 1 s fails the channel (R350). -/
def State.recPieceFail (ch : Nat) (s : State) : State :=
  let l := ((s.rcd.pieceFails.getD ch []) ++ [s.now]).filter (fun t => decide (s.now < t + 1000000000))
  let s : State := { s with rcd := { s.rcd with pieceFails := setAt l ch s.rcd.pieceFails } }
  if 16 ≤ l.length then ddrChannelFail ch s else s

/-- A GAP entry falls due in the log, at most once per second per ring (R343). -/
def State.gapDue (i k shed : Nat) (s : State) : State :=
  let last := s.rcd.gapAt.find? (fun g => g.1 = i && g.2.1 = k)
  let ok := match last with | none => true | some g => decide (g.2.2 + 1000000000 ≤ s.now)
  if ok then
    ({ s with rcd := { s.rcd with gapAt := s.rcd.gapAt.filter (fun g => !(g.1 = i && g.2.1 = k)) ++ [(i, k, s.now)] } } : State).owesLog 5 [i]
      (leBytes 1 k ++ leBytes 4 shed)
  else s

/-- A block of a ring is lost: shed, dropped or frozen out (R343, R348). -/
def State.loseBlock (i k : Nat) (s : State) : State :=
  let s := s.modRing i k (fun r => { r with seq := (r.seq + 1) % 2 ^ 32, shed := sat32 r.shed, gap := true })
  s.gapDue i k (s.ring i k).shed

/-- The block of some entries: its 64-byte header and the entries (R342). -/
def blockBytes (s : State) (p : Stamp) (i k : Nat) (entries : List (List Byte)) : List Byte :=
  let r := s.ring i k
  let ahead := ((s.rcd.stage.filter (fun b => b.inst = i && b.ring = k)).map (fun b => b.bytes.length)).sum
  let fl := b2n p.stale + 4 * b2n r.gap + 8 * b2n s.rcd.throttled + 16 * b2n r.marked
  leBytes 1 k ++ leBytes 1 i ++ leBytes 1 fl ++ leBytes 1 s.sys.mode.code ++ leBytes 2 entries.length ++ leBytes 2 0
    ++ leBytes 4 p.era ++ leBytes 4 p.wns ++ leBytes 4 p.sph ++ leBytes 4 r.seq ++ leBytes 4 r.shed ++ leBytes 4 0
    ++ leBytes 8 (ringPtr k (r.w + ahead)) ++ List.replicate 24 0 ++ entries.flatten

/-- Stage a block (R342, R343). -/
def State.stageBlock (p : Stamp) (i k : Nat) (entries : List (List Byte)) (s : State) : State :=
  let r := s.ring i k
  let b : Block := { inst := i, ring := k, bytes := blockBytes s p i k entries, shed := r.shed, marked := r.marked }
  let s := s.modRing i k (fun r => { r with seq := (r.seq + 1) % 2 ^ 32, shed := 0, gap := false, marked := false })
  { s with rcd := { s.rcd with stage := s.rcd.stage ++ [b] } }

/-- The stamp of an instant that has been reached (R171): the present counters less the time passed since. -/
def State.stampAt (s : State) (x : Int) : Stamp :=
  let back := (s.now - x).toNat
  if back = 0 then s.stamp
  else
    let w := (s.time.wns : Int) - back
    { era := if w < 0 then (if s.time.eraStale then s.time.era else (s.time.era + 2 ^ 32 - 1) % 2 ^ 32) else s.time.era,
      wns := (w % 2 ^ 32).toNat,
      sph := (((s.time.sph : Int) - back) % 1000000000).toNat,
      stale := s.time.eraStale && decide (0 ≤ w) }

end Sys2Proof.Machine
end

