-- ==== Sys2Proof/Machine/Solver.lean ====
section
/-! DEFINITION. The route solver: topologies' wiring (R26-R29), candidate paths, least-disturbing solutions, the
looping algorithm and the targets of a solution (R34, R137-R140). -/

namespace Sys2Proof.Machine

/-- What the solver knows of one cell of the instance. -/
structure VCell where
  cell : Nat
  role : Nat
  /-- logical index of a SWITCH cell, port end of a GATE or TRIM cell (R40) -/
  logical : Nat
  /-- retired, PEND_RETIRE or unpowered (R137) -/
  bad : Bool := false
  honly : Bool := false
  /-- projected target (R134) -/
  st : TState := .park
  ratio : Nat := 0
  deriving DecidableEq, Repr

/-- What the solver knows of the instance: descriptor, cells and projected circuits (R31). -/
structure View where
  inst : Nat
  desc : InstDesc
  cells : List VCell
  circuits : List Circuit
  idleBlock : Bool := false
  maxCircuits : Nat := 0
  deriving DecidableEq, Repr

/-- The SWITCH cell at a logical index. -/
def View.sw (v : View) (logical : Nat) : Option VCell :=
  v.cells.find? (fun c => c.role = 1 && c.logical = logical)

/-- The gate or trim of a port end (role 2 or 3). -/
def View.served (v : View) (role port : Nat) : Option VCell :=
  v.cells.find? (fun c => c.role = role && c.logical = port)

/-- The cell with a physical number. -/
def View.cell (v : View) (n : Nat) : Option VCell := v.cells.find? (fun c => c.cell = n)

/-- The line at stage s + 1 fed by output line L of stage s (R26). -/
def nextLine (line s m : Nat) : Nat :=
  if s + 2 ≤ m then
    let w := m - s
    let low := line % 2 ^ w
    line - low + (low / 2 + low % 2 * 2 ^ (w - 1))
  else
    let w := s + 3 - m
    let low := line % 2 ^ w
    line - low + (low * 2 % 2 ^ w + low / 2 ^ (w - 1))

/-- The SWITCH cells of an element (R26, R27). -/
def elemCells (v : View) (x : Nat) : List Nat :=
  if v.desc.topo = 2 then [4 * x, 4 * x + 1, 4 * x + 2, 4 * x + 3] else [x]

/-- The logical cells a signal passes in an element, entering at `j` and leaving at `k` (R26, R27). -/
def elemPass (v : View) (x j k : Nat) : List (Nat × Nat) :=
  if v.desc.topo = 2 then [(4 * x + j, 0), (4 * x + 2 + k, if j = k then 0 else 1)] else [(x, j)]

/-- An element may be given a state: each unusable cell of it must already stand in that state (R137). -/
def elemMay (v : View) (x : Nat) (st : TState) : Bool :=
  (elemCells v x).all (fun l => match v.sw l with
    | none => false
    | some c => !c.bad || c.st = st)

/-- One step of a path: none where a cell of it is missing or unusable (R137). -/
def stepCells (v : View) (x j k : Nat) : Option (List PStep) :=
  let st : TState := if j = k then .bar else .cross
  if elemMay v x st then
    (elemPass v x j k).mapM (fun q => match v.sw q.1 with
      | none => none
      | some c => if c.bad then none else some { cell := c.cell, st := st, arm := q.2 })
  else none

/-- A Beneš path from a line at stage s to output line `o`: the choice bits fix the first half, the output line the
second (R26). -/
def benesFrom (v : View) (m n o : Nat) : Nat → Nat → Nat → List Bool → Option (List PStep)
  | 0, _, _, _ => some []
  | fuel + 1, s, line, ch =>
    let k := if s + 1 < m then b2n (ch.headD false) else o / 2 ^ (2 * m - 2 - s) % 2
    let x := s * (n / 2) + line / 2
    match stepCells v x (line % 2) k, benesFrom v m n o fuel (s + 1) (nextLine (line / 2 * 2 + k) s m) (ch.drop 1) with
    | some a, some b => some (a ++ b)
    | _, _ => none

/-- The `k` bits of a number, most significant first. -/
def msbBits (k n : Nat) : List Bool := (unmask k n).reverse

/-- All paths of a Beneš instance between two ports, in ascending order of the choice bits. -/
def benesPaths (v : View) (i o : Nat) : List (List PStep) :=
  let m := v.desc.log2n
  (List.range (2 ^ (m - 1))).filterMap (fun ch => benesFrom v m v.desc.n o (2 * m - 1) 0 i (msbBits (m - 1) ch))

/-- The path of an XBAR circuit (R28). -/
def xbarPath (v : View) (i o : Nat) : Option (List PStep) :=
  let n := v.desc.n
  let row := (List.range o).map (fun c => (i * n + c, TState.bar, 0))
  let col := ((List.range n).filter (fun r => decide (i < r))).map (fun r => (r * n + o, TState.bar, 1))
  (row ++ [(i * n + o, TState.cross, 0)] ++ col).mapM (fun (q : Nat × TState × Nat) => match v.sw q.1 with
    | none => none
    | some c => if c.bad then none else some { cell := c.cell, st := q.2.1, arm := q.2.2 })

/-- Routes of a TABLE instance in PREF order, table order among equals (R29, R42). -/
def routesFor (v : View) (i o : Nat) : List Route :=
  let rs := v.desc.routes.filter (fun r => r.inp = i && r.out = o)
  rs.foldl (fun acc r => insertBy Route.pref r acc) []

/-- The path of a route. -/
def routePath (v : View) (r : Route) : Option (List PStep) :=
  r.steps.mapM (fun q => match v.sw q.cell with
    | none => none
    | some c => if c.bad then none
                else some { cell := c.cell, st := if q.state = 1 then .cross else .bar, arm := q.arm })

/-- Candidate paths between two port ends of the instance, in the solver's order. -/
def paths (v : View) (inp out : Nat) : List (List PStep) :=
  let i := inp - v.desc.inBase
  let o := out - v.desc.outBase
  if v.desc.topo = 1 ∨ v.desc.topo = 2 then benesPaths v i o
  else if v.desc.topo = 3 then (xbarPath v i o).toList
  else (routesFor v i o).filterMap (routePath v)

/-- The element a step belongs to, for conflicts: a DBENES element is one unit (R27). -/
def unitOf (v : View) (p : PStep) : Nat :=
  match v.cell p.cell with
  | none => p.cell
  | some c => if v.desc.topo = 2 then c.logical / 4 else c.logical

/-- Two paths conflict: one unit in two states, or, by table, one cell with the same entry arm (R29). -/
def pathsConflict (v : View) (a b : List PStep) : Bool :=
  a.any (fun p => b.any (fun q => unitOf v p = unitOf v q &&
    (p.st ≠ q.st || (v.desc.topo = 4 && p.arm = q.arm))))

/-- Fewest-moves search (R138): the circuits decided so far stand; one that conflicts with them must move. With
`k` moves left it gives every completion. -/
def searchMoves (v : View) : Nat → List Circuit → List Circuit → List (List Circuit)
  | k, decided, rest =>
    match rest.find? (fun c => decided.any (fun d => pathsConflict v c.path d.path)) with
    | none => [decided ++ rest]
    | some c =>
      match k with
      | 0 => []
      | k + 1 =>
        ((paths v c.inp c.out).filter (fun p => !(decided.any (fun d => pathsConflict v p d.path)))).flatMap
          (fun p => searchMoves v k ({ c with path := p } :: decided) (rest.filter (fun r => r ≠ c)))

/-- Cells a set of circuits asks to stand in a state: logical index and state (R26-R29). -/
def wanted (v : View) (cs : List Circuit) : List (Nat × TState) :=
  cs.flatMap (fun c => c.path.flatMap (fun p =>
    match v.cell p.cell with
    | none => []
    | some q => if v.desc.topo = 2 then (elemCells v (q.logical / 4)).map (fun l => (l, p.st)) else [(q.logical, p.st)]))

/-- Targets of SWITCH cells for a set of circuits: only usable cells whose target differs (R137). XBAR cells that are
no crossing return to BAR (R28). -/
def switchTargets (v : View) (cs : List Circuit) : List CellTgt :=
  let w := wanted v cs
  v.cells.filterMap (fun c =>
    if c.role ≠ 1 ∨ c.bad then none
    else
      let want := match w.find? (fun q => q.1 = c.logical) with
        | some q => some q.2
        | none => if v.desc.topo = 3 then some .bar else none
      match want with
      | none => none
      | some st => if st = c.st then none else some { cell := c.cell, st := st })

/-- The state a gate takes (R34). -/
def gateState (v : View) (cs : List Circuit) (port : Nat) : TState :=
  if cs.any (fun c => c.inp = port || c.out = port) then .bar else if v.idleBlock then .cross else .bar

/-- Targets of GATE cells (R34). -/
def gateTargets (v : View) (cs : List Circuit) : List CellTgt :=
  v.cells.filterMap (fun c =>
    if c.role ≠ 2 ∨ c.bad then none
    else if gateState v cs c.logical = c.st then none else some { cell := c.cell, st := gateState v cs c.logical })

/-- Targets of TRIM cells that a plan names (R134); a later change of the list wins. -/
def trimTargets (v : View) (chs : List PlanChange) : List CellTgt :=
  v.cells.filterMap (fun c =>
    if c.role ≠ 3 ∨ c.bad then none
    else match (chs.filter (fun h => h.kind = 3 && h.port = c.logical)).getLast? with
      | none => none
      | some h => if c.st = .split ∧ c.ratio = h.ratio then none
                  else some { cell := c.cell, st := .split, ratio := h.ratio })

/-- The three passes of R142: gates to CROSS, switches and trims, gates to BAR. -/
def solutionTargets (v : View) (cs : List Circuit) (chs : List PlanChange) : List CellTgt :=
  let g := gateTargets v cs
  g.filter (fun t => t.st = .cross) ++ switchTargets v cs ++ trimTargets v chs ++ g.filter (fun t => t.st ≠ .cross)

/-- Circuits of `new` that were in `old` with another path (R138). -/
def movedOf (old new : List Circuit) : List Circuit :=
  new.filter (fun c => old.any (fun d => d.inp = c.inp && d.out = c.out && d.path ≠ c.path))

/-- The cost of R138 after the number of moves: heater-only cells changed, cells changed, highest changed cell. -/
def costOf (v : View) (cs : List Circuit) : Nat :=
  let ts := switchTargets v cs ++ gateTargets v cs
  let hon := (ts.filter (fun t => match v.cell t.cell with | some c => c.honly | none => false)).length
  (hon * 10000 + ts.length) * 10000 + (ts.map CellTgt.cell).foldl max 0

/-- The fewest-moves, least-cost completion with at most `fuel` moves, starting from `k` (R138). -/
def bestMoves (v : View) (new : Circuit) : Nat → Nat → Option (List Circuit)
  | 0, _ => none
  | fuel + 1, k =>
    let sols := (paths v new.inp new.out).flatMap (fun p => searchMoves v k [{ new with path := p }] v.circuits)
    match argMin (costOf v) sols with
    | some s => some s
    | none => bestMoves v new fuel (k + 1)

/-- One CONNECT by the single-change rule; with `mayMove` clear only without moves (R138, R139). A TABLE instance
takes its first route that fits and moves nothing (R29, R138). -/
def connectOne (v : View) (mayMove : Bool) (inp out : Nat) : Option (List Circuit) :=
  let new : Circuit := { inst := v.inst, inp := inp, out := out, path := [] }
  if v.desc.topo = 4 then
    match (paths v inp out).find? (fun p => !(v.circuits.any (fun d => pathsConflict v p d.path))) with
    | none => none
    | some p => some ({ new with path := p } :: v.circuits)
  else bestMoves v new (if mayMove then v.circuits.length + 1 else 1) 0

/-- The view once a solution stands: circuits and projected targets. -/
def View.after (v : View) (cs : List Circuit) : View :=
  let ts := switchTargets v cs ++ gateTargets v cs
  { v with circuits := cs,
           cells := v.cells.map (fun c => match ts.find? (fun t => t.cell = c.cell) with
             | some t => { c with st := t.st }
             | none => c) }

/-- The changes of a plan in order, each by the single-change rule (R138). -/
def inOrder (mayMove : Bool) : List PlanChange → View → Option (List Circuit)
  | [], v => some v.circuits
  | h :: hs, v =>
    if h.kind = 1 then
      match connectOne v mayMove h.port h.port2 with
      | none => none
      | some cs => inOrder mayMove hs (v.after cs)
    else if h.kind = 2 then
      inOrder mayMove hs (v.after (v.circuits.filter (fun c => c.inp ≠ h.port && c.out ≠ h.port)))
    else inOrder mayMove hs v

/-- The pairs a plan leaves: unmoved circuits keep their path, fresh ones have none (R134). -/
def planResult : List PlanChange → List Circuit → Nat → List Circuit
  | [], cs, _ => cs
  | h :: hs, cs, inst =>
    if h.kind = 1 then planResult hs (cs ++ [{ inst := inst, inp := h.port, out := h.port2, path := [] }]) inst
    else if h.kind = 2 then planResult hs (cs.filter (fun c => c.inp ≠ h.port && c.out ≠ h.port)) inst
    else planResult hs cs inst

/-- A demand of a sub-network in the looping algorithm: its number, local input and output line, and the choice bits
gathered so far. -/
structure Demand where
  id : Nat
  i : Nat
  o : Nat
  bits : List Bool := []
  deriving DecidableEq, Repr

/-- Grow a loop: demands that share an outer element with a coloured one take the other colour. -/
def growLoop (ds : List Demand) : Nat → List (Demand × Bool) → List (Demand × Bool)
  | 0, col => col
  | fuel + 1, col =>
    let add := ds.filterMap (fun d =>
      if col.any (fun q => q.1 = d) then none
      else match col.find? (fun q => q.1.i / 2 = d.i / 2 || q.1.o / 2 = d.o / 2) with
        | none => none
        | some q => some (d, !q.2))
    match add with
    | [] => col
    | q :: _ => growLoop ds fuel (col ++ [q])

/-- The existing state of an element (R138). -/
def elemState (v : View) (x : Nat) : TState :=
  match v.sw (if v.desc.topo = 2 then 4 * x else x) with
  | some c => c.st
  | none => .park

/-- States a coloured loop gives its elements in the first and last stages of the sub-network. -/
def loopElems (m n s base : Nat) (col : List (Demand × Bool)) : List (Nat × TState) :=
  (col.flatMap (fun (q : Demand × Bool) =>
    let b := b2n q.2
    [(s * (n / 2) + (base + q.1.i) / 2, if q.1.i % 2 = b then TState.bar else TState.cross),
     ((2 * m - 2 - s) * (n / 2) + (base + q.1.o) / 2,
      if q.1.o % 2 = b then TState.bar else TState.cross)])).eraseDups

/-- The orientation of a loop (R138): more outer elements kept, then the lowest first-stage element kept; where
neither decides, the lowest line goes to the upper sub-network (log 11). -/
def orient (v : View) (m n s base : Nat) (col : List (Demand × Bool)) : List (Demand × Bool) :=
  let flip := col.map (fun q => (q.1, !q.2))
  let kept (c : List (Demand × Bool)) : Nat :=
    ((loopElems m n s base c).filter (fun q => elemState v q.1 = q.2)).length
  let low := ((col.map (fun q => q.1.i / 2)).foldl min (2 ^ 20)) + base / 2 + s * (n / 2)
  let lowKept (c : List (Demand × Bool)) : Bool :=
    (loopElems m n s base c).any (fun q => q.1 = low && elemState v low = q.2)
  if kept flip < kept col then col
  else if kept col < kept flip then flip
  else if lowKept flip && !lowKept col then flip else col

/-- All loops of a sub-network, in ascending order of their lowest input line (R138). -/
def colourAll (v : View) (m n s base : Nat) : Nat → List Demand → List (Demand × Bool)
  | 0, _ => []
  | fuel + 1, ds =>
    match argMin Demand.i ds with
    | none => []
    | some d =>
      let col := orient v m n s base (growLoop ds ds.length [(d, false)])
      col ++ colourAll v m n s base fuel (ds.filter (fun x => !(col.any (fun q => q.1 = x))))

/-- The looping algorithm: choice bits for every demand (R138). -/
def looping (v : View) (m n : Nat) : Nat → Nat → Nat → List Demand → List Demand
  | 0, _, _, ds => ds
  | fuel + 1, s, base, ds =>
    let w := m - s
    if w ≤ 1 then ds
    else
      let col := colourAll v m n s base ds.length ds
      let sub (b : Bool) : List Demand :=
        (col.filter (fun q => q.2 = b)).map (fun q =>
          { q.1 with i := q.1.i / 2, o := q.1.o / 2, bits := q.1.bits ++ [b] })
      looping v m n fuel (s + 1) base (sub false) ++
        looping v m n fuel (s + 1) (base + 2 ^ (w - 1)) (sub true)

/-- The whole result routed by the looping algorithm (R138). -/
def routeLooping (v : View) (res : List Circuit) : Option (List Circuit) :=
  let m := v.desc.log2n
  let n := v.desc.n
  let ds := mapIx (fun k (c : Circuit) => { id := k, i := c.inp - v.desc.inBase, o := c.out - v.desc.outBase : Demand }) 0 res
  let out := looping v m n m 0 0 ds
  (mapIx (fun k (c : Circuit) =>
    match out.find? (fun d => d.id = k) with
    | none => none
    | some d => (benesFrom v m n (c.out - v.desc.outBase) (2 * m - 1) 0 (c.inp - v.desc.inBase) d.bits).map
        (fun p => { c with path := p })) 0 res).mapM id

/-- The exhaustive search of R140: existing circuits try their own path first, then every other. -/
def exhaust (v : View) (mayMove : Bool) : List Circuit → List Circuit → Option (List Circuit)
  | [], decided => some decided
  | c :: cs, decided =>
    let cands := if c.path = [] then paths v c.inp c.out
      else if mayMove then c.path :: (paths v c.inp c.out).filter (fun p => p ≠ c.path) else [c.path]
    cands.findSome? (fun p =>
      if decided.any (fun d => pathsConflict v p d.path) then none
      else exhaust v mayMove cs (decided ++ [{ c with path := p }]))

/-- The pairs a plan leaves, where no circuit may move: one that the plan releases and connects again keeps the path it
has, if its cells can be routed afresh (R137, R139). -/
def stillPairs (v : View) (chs : List PlanChange) : Option (List Circuit) :=
  (planResult chs v.circuits v.inst).mapM (fun c =>
    if c.path ≠ [] then some c
    else match v.circuits.find? (fun d => d.inp = c.inp && d.out = c.out) with
      | none => some c
      | some d => if (paths v c.inp c.out).contains d.path then some d else none)

/-- A solution of a plan: the circuits of the instance afterwards. -/
def solvePlan (v : View) (mayMove : Bool) (chs : List PlanChange) : Option (List Circuit) :=
  match inOrder mayMove chs v with
  | some cs => some cs
  | none =>
    let hard := decide (v.desc.topo = 1 ∨ v.desc.topo = 2)
    if !hard then none
    else
      let res := planResult chs v.circuits v.inst
      let multi := decide (1 < chs.length) && mayMove
      match if multi then routeLooping v res else none with
      | some cs => some cs
      | none => exhaust v mayMove res []

end Sys2Proof.Machine
end

