-- ==== Sys2Proof/Machine/FabOps.lean ====
section
/-! DEFINITION. Operations of rearrangement: epochs and their slots, projected state, checks of a plan, placement of
boundaries, NEXT shadows, hand-over, closure and reports (R133-R160). -/

namespace Sys2Proof.Machine

/-! ### Epochs and slots -/

/-- Epochs that hold a slot. -/
def Fab.held (f : Fab) : List Epoch := f.slots.filterMap FabSlot.ep

/-- Every epoch: in a slot, or waiting for one. -/
def Fab.epochs (f : Fab) : List Epoch := f.held ++ f.slotWait

/-- Pending, armed or sealed: the epoch holds a pending place (R135). -/
def Epoch.placed (e : Epoch) : Bool :=
  match e.st with
  | .pending | .armed | .sealedE => true
  | .free | .openE | .closed => false

/-- Pending or armed (R153, R157). -/
def Epoch.waits (e : Epoch) : Bool :=
  match e.st with
  | .pending | .armed => true
  | .free | .sealedE | .openE | .closed => false

/-- The epoch with an EPOCH_EXT (R143). -/
def Fab.byExt (f : Fab) (x : Nat) : Option Epoch := f.epochs.find? (fun e => e.ext = x)

/-- The epoch in use under a number (R143). -/
def Fab.byNum (f : Fab) (n : Nat) : Option Epoch := f.epochs.find? (fun e => e.num = n && e.st ≠ .closed)

/-- Change the epoch with an EPOCH_EXT. -/
def State.modEp (x : Nat) (g : Epoch → Epoch) (s : State) : State :=
  let h (e : Epoch) : Epoch := if e.ext = x then g e else e
  { s with fab := { s.fab with slots := s.fab.slots.map (fun q => { q with ep := q.ep.map h }),
                               slotWait := s.fab.slotWait.map h } }

/-- Change the slot that holds an epoch. -/
def State.modSlotOf (x : Nat) (g : FabSlot → FabSlot) (s : State) : State :=
  { s with fab := { s.fab with slots := s.fab.slots.map (fun q =>
      match q.ep with | some e => if e.ext = x then g q else q | none => q) } }

/-- The number after the last allocated; 0 is skipped (R143). -/
def nextEpochNum (n : Nat) : Nat := n % 65535 + 1

/-- a is newer than b (R143). -/
def newer (a b : Nat) : Bool := decide (1 ≤ (a + 65536 - b) % 65536) && decide ((a + 65536 - b) % 65536 < 32768)

/-- The solver works, or has to work, on the epoch with an EPOCH_EXT. -/
def Fab.working (f : Fab) (x : Nat) : Bool :=
  (match f.busy with | none => false | some q => decide (q.1 = x)) || f.queue.any (fun q => q.ext = x) || f.resolves.contains x

/-- Past its B, an epoch whose solve has not ended, or whose follow-on firmware still owes: the follow-on comes in its pending place,
which stays taken (R151). -/
def Fab.followDue (f : Fab) (e : Epoch) : Bool :=
  e.atB && decide (e.follow = 0) && (f.working e.ext || (!e.late.isEmpty && !e.missed.isEmpty))

/-- An epoch holds a pending place (R135, R151). -/
def Fab.holdsPlace (f : Fab) (e : Epoch) : Bool := e.placed || f.followDue e

/-- Pending places an instance holds (R135). -/
def Fab.places (f : Fab) (inst : Nat) : Nat := (f.epochs.filter (fun e => f.holdsPlace e && e.inst = inst)).length

/-- Places in use, of four (R135). -/
def Fab.placesUsed (f : Fab) : Nat := (f.epochs.filter f.holdsPlace).length

/-- A place is available to an instance (R135). -/
def State.placeFree (s : State) (inst : Nat) : Bool :=
  let free := 4 - s.fab.placesUsed
  let none_ := ((List.range s.instCount).filter (fun i => i ≠ inst && s.fab.places i = 0)).length
  if s.fab.places inst = 0 then decide (0 < free) else decide (none_ < free)

/-- The instance has an armed epoch (R135). -/
def Fab.armedInst (f : Fab) (inst : Nat) : Bool := f.epochs.any (fun e => e.st = .armed && e.inst = inst)

/-! ### Periods -/

/-- P_A of an instance in ns (R144). -/
def State.pA (s : State) (inst : Nat) : Nat := (((s.cellsOf inst).map (fun n => s.pNs (n / 32))).foldl max 0).max 500

/-- P_E of changed cells; P_A where nothing changes (R144). -/
def State.pEOf (s : State) (inst : Nat) (ts : List CellTgt) : Nat :=
  if ts.isEmpty then s.pA inst else (ts.map (fun t => s.pNs (t.cell / 32))).foldl max 500

/-- PERIOD code (R158). -/
def periodCode (p : Nat) : Nat := if p ≤ 500 then 0 else if p ≤ 1000 then 1 else if p ≤ 2000 then 2 else 3

/-! ### The projected state (R134) -/

/-- Order of commit boundaries; epochs without one follow, in order of allocation. -/
def Epoch.key (e : Epoch) : Nat := match e.b with | some b => b.toNat | none => 2 ^ 90 + e.ext

/-- Pending and sealed epochs of an instance in order of boundary, one left out. -/
def State.ordered (s : State) (inst skip : Nat) : List Epoch :=
  (s.fab.epochs.filter (fun e => e.placed && e.inst = inst && e.ext ≠ skip && e.stage ≠ .open_)).foldl
    (fun acc e => insertBy Epoch.key e acc) []

/-- Circuits after an epoch: its solution, or where it is still unsolved and `all` holds, its changes. -/
def applyEpoch (all : Bool) (cs : List Circuit) (e : Epoch) : List Circuit :=
  match e.stage with
  | .solved => cs.filter (fun c => !(e.removed.contains c.inp)) ++ e.put
  | .queued => if all then planResult e.changes cs e.inst else cs
  | .open_ => cs

/-- Established circuits of an instance. -/
def State.circuitsOf (s : State) (inst : Nat) : List Circuit := s.fab.circuits.filter (fun c => c.inst = inst)

/-- The projected circuits of an instance (R134). -/
def State.projected (s : State) (all : Bool) (inst skip : Nat) : List Circuit :=
  (s.ordered inst skip).foldl (applyEpoch all) (s.circuitsOf inst)

/-- The projected target of a cell: the last pending solution that names it, else the live target. -/
def State.projTarget (s : State) (es : List Epoch) (n : Nat) : TState × Nat :=
  match (es.filterMap (fun e => e.targets.find? (fun t => t.cell = n))).getLast? with
  | some t => (t.st, t.ratio)
  | none => ((s.cell n).live.state, (s.cell n).live.ratio)

/-- Retired, by any source (R35). -/
def State.isRetired (s : State) (n : Nat) : Bool :=
  s.retiredCell n || decide ((s.cell n).engNow.st = .retired)

/-- What the solver may not use: retired, PEND_RETIRE, unpowered or on the way there (R85, R100, R137). -/
def State.unusable (s : State) (n : Nat) : Bool :=
  s.isRetired n || (s.cell n).engNow.pendRetire || !s.cluOn (n / 32) || (s.clu (n / 32)).pdown

/-- The solver's view of an instance with the epochs `es` applied to the established circuits (R31, R134, R137). -/
def State.viewWith (s : State) (inst : Nat) (es : List Epoch) : View :=
  { inst := inst, desc := (s.desc inst).getD { topo := 0, n := 0, inBase := 0, outBase := 0, logicalCount := 0 },
    cells := (s.cellsOf inst).map (fun n =>
      let e := s.entry n
      let t := s.projTarget es n
      { cell := n, role := e.role, logical := e.logical, bad := s.unusable n,
        honly := (s.cell n).engNow.honly || s.honlyCell n, st := t.1, ratio := t.2 }),
    circuits := es.foldl (applyEpoch false) (s.circuitsOf inst), idleBlock := s.idleBlock inst,
    maxCircuits := match s.partOf inst with | none => 0 | some r => r.maxCircuits }

/-- The solver's view of an instance, with one epoch left out of the projected state (R31, R134, R137). -/
def State.view (s : State) (inst skip : Nat) : View := s.viewWith inst (s.ordered inst skip)

/-- Pending and sealed epochs of the instance with an earlier boundary (R153). -/
def State.earlier (s : State) (e : Epoch) : List Epoch :=
  (s.ordered e.inst e.ext).filter (fun q => decide (q.key < e.key))

/-! ### Available port ends (R36) -/

/-- A cell of the outer element of a port end is unusable. -/
def outerBad (v : View) (port : Nat) (isIn : Bool) : Bool :=
  if v.desc.topo = 1 ∨ v.desc.topo = 2 then
    let x := if isIn then (port - v.desc.inBase) / 2
      else (2 * v.desc.log2n - 2) * (v.desc.n / 2) + (port - v.desc.outBase) / 2
    (elemCells v x).any (fun l => match v.sw l with | none => true | some c => c.bad)
  else false

/-- A port end is available (R36): its gate and its outer element are usable, and a path remains. -/
def portAvailable (v : View) (port : Nat) (isIn : Bool) : Bool :=
  let gateBad := match v.served 2 port with | none => false | some c => c.bad
  let peers := if isIn then (List.range v.desc.n).map (· + v.desc.outBase) else (List.range v.desc.n).map (· + v.desc.inBase)
  !gateBad && !outerBad v port isIn &&
    peers.any (fun q => !(if isIn then paths v port q else paths v q port).isEmpty)

/-! ### Checks of a plan (R134) -/

/-- The result of a plan: circuits with the index of the change that made each. -/
def planTrace : Nat → List PlanChange → List (Circuit × Option Nat) → Nat → List (Circuit × Option Nat)
  | _, [], cs, _ => cs
  | k, h :: hs, cs, inst =>
    if h.kind = 1 then planTrace (k + 1) hs (cs ++ [({ inst := inst, inp := h.port, out := h.port2, path := [] }, some k)]) inst
    else if h.kind = 2 then
      planTrace (k + 1) hs (cs.filter (fun q => q.1.inp ≠ h.port && q.1.out ≠ h.port)) inst
    else planTrace (k + 1) hs cs inst

/-- The first DISCONNECT that meets no circuit (R134). -/
def noCircuitAt : Nat → List PlanChange → List Circuit → Nat → Option Nat
  | _, [], _, _ => none
  | k, h :: hs, cs, inst =>
    if h.kind = 2 && !(cs.any (fun c => c.inp = h.port || c.out = h.port)) then some k
    else noCircuitAt (k + 1) hs (planResult [h] cs inst) inst

/-- First change of a result that satisfies a test of the circuits before it and itself. -/
def firstBad (bad : List Circuit → Circuit → Bool) : List Circuit → List (Circuit × Option Nat) → Option Nat
  | _, [] => none
  | before, (c, some k) :: rest => if bad before c then some k else firstBad bad (before ++ [c]) rest
  | before, (c, none) :: rest => firstBad bad (before ++ [c]) rest

/-- First TRIM of a port end whose TRIM cell is unusable (R134). -/
def badTrim (v : View) : Nat → List PlanChange → Option Nat
  | _, [] => none
  | k, h :: hs =>
    if h.kind = 3 && (match v.served 3 h.port with | none => false | some c => c.bad) then some k
    else badTrim v (k + 1) hs

/-- The first failing change of each kind, with its status, in the order of R134's list: NO_CIRCUIT, UNAVAILABLE,
CONFLICT, CIRCUIT_LIMIT. -/
def planFails (v : View) (pairs : List Circuit) (chs : List PlanChange) : List (Nat × Nat) :=
  let res := planTrace 0 chs (pairs.map (fun c => (c, none))) v.inst
  let limit := if v.maxCircuits = 0 then v.desc.n else v.maxCircuits
  ([(0x0019, noCircuitAt 0 chs pairs v.inst),
    (0x0007, firstBad (fun _ c => !portAvailable v c.inp true || !portAvailable v c.out false) [] res),
    (0x0007, badTrim v 0 chs),
    (0x0008, firstBad (fun bs c => bs.any (fun d => d.inp = c.inp || d.out = c.out)) [] res),
    (0x0009, firstBad (fun bs _ => decide (limit ≤ bs.length)) [] res)] : List (Nat × Option Nat)).filterMap
      (fun q => q.2.map (fun k => (q.1, k)))

/-- The checks of the whole plan (R134): status and index of the first failing change; where one change fails twice, the
status that R134 lists first (log 38). -/
def planCheck (v : View) (pairs : List Circuit) (chs : List PlanChange) : Option (Nat × Nat) :=
  argMin (fun q => q.2) (planFails v pairs chs)

/-! ### Solve bounds (R136, R141) -/

/-- CONNECT changes of a plan, at least 1 (R141). -/
def connects (chs : List PlanChange) : Nat := max 1 (chs.filter (fun h => h.kind = 1)).length

/-- Routes examined for the CONNECTs of a TABLE plan (R141). -/
def examined : List PlanChange → View → Nat
  | [], _ => 0
  | h :: hs, v =>
    if h.kind = 1 then
      let rs := routesFor v (h.port - v.desc.inBase) (h.port2 - v.desc.outBase)
      let fits (r : Route) : Bool := match routePath v r with
        | none => false
        | some p => !(v.circuits.any (fun d => pathsConflict v p d.path))
      let k := (rs.takeWhile (fun r => !fits r)).length
      let n := min rs.length (k + 1)
      n + examined hs (match connectOne v false h.port h.port2 with | none => v | some cs => v.after cs)
    else if h.kind = 2 then examined hs (v.after (v.circuits.filter (fun c => c.inp ≠ h.port && c.out ≠ h.port)))
    else examined hs v

/-- A middle-stage cell is retired, PEND_RETIRE or heater-only (R140). -/
def middleExcluded (v : View) : Bool :=
  let last := 2 * v.desc.log2n - 2
  v.cells.any (fun c => c.role = 1 && (c.bad || c.honly) &&
    (let x := if v.desc.topo = 2 then c.logical / 4 else c.logical
     let st := x / (v.desc.n / 2)
     decide (0 < st) && decide (st < last)))

/-- The bound of a solve in ns (R141). -/
def solveBound (v : View) (chs : List PlanChange) : Nat :=
  let n := connects chs
  if v.desc.topo = 1 ∨ v.desc.topo = 2 then
    if middleExcluded v then 5000000 * n else 12000 + 270 * (n - 1)
  else if v.desc.topo = 3 then 20000 + 2000 * (n - 1)
  else min 10000000 (50000 + 500 * examined chs v)

/-- The bound of a queued item. -/
def State.itemBound (s : State) (x : Nat) : Nat :=
  match s.fab.byExt x with
  | none => 0
  | some e => solveBound (s.view e.inst e.ext) e.changes

/-- The bound of the queue's item that the solver holds, where it is a host's; a re-solve is no item of the queue
(R136, R153). -/
def State.heldBound (s : State) (h : Nat) : Option Nat :=
  match s.fab.busy with
  | none => none
  | some q => if q.2 = false ∧ s.fab.lastHost = h then some (s.itemBound q.1) else none

/-- w: the wait bound of R136 for a new item of a host: its own host's earlier items and one item of each other host,
the one in the solver where that host has one there (log 42). -/
def State.queueWait (s : State) (h : Nat) : Nat :=
  let queued (g : Nat) : List Nat := (s.fab.queue.filter (fun q => q.host = g)).map (fun q => s.itemBound q.ext)
  let others := (([0, 1, 2, 3] : List Nat).filter (fun g => g ≠ h)).map (fun g =>
    (s.heldBound g).getD ((queued g).foldl max 0))
  (s.heldBound h).getD 0 + (queued h).sum + others.sum

/-! ### Placement (R144-R148) -/

/-- The period with which an epoch counts in R145: P_A for a scheduled instant, else P_E. -/
def State.countPeriod (s : State) (e : Epoch) : Nat :=
  if e.reqS = 0 ∧ e.reqNs = 0 ∨ e.event = true then e.pE else s.pA e.inst

/-- Boundaries of pending and sealed epochs: instant, period, instance, whether sealed. -/
def State.boundaries (s : State) (skip : Nat) : List (Int × Nat × Nat × Bool) :=
  s.fab.epochs.filterMap (fun e =>
    if e.placed && e.ext ≠ skip then e.b.map (fun b => (b, s.countPeriod e, e.inst, decide (e.st = .sealedE))) else none)

/-- R145 for an epoch of an instance at an instant: no second epoch of the instance on the boundary, and the spacing of
distinct boundaries with the boundary's new period. -/
def State.spacingOk (s : State) (inst per : Nat) (b : Int) (skip : Nat) : Bool :=
  let bs := s.boundaries skip
  let same := bs.filter (fun q => q.1 = b)
  let p := (same.map (fun q => q.2.1)).foldl max per
  let bs' := bs.map (fun q => (q.1, q.2.1)) ++ s.fab.lastBoundary.toList
  let perAt (x : Int) : Nat := ((bs'.filter (fun q => q.1 = x)).map (·.2)).foldl max 0
  !(same.any (fun q => q.2.2.1 = inst)) &&
    bs'.all (fun q => q.1 = b || decide (8 * ((max p (perAt q.1) : Nat) : Int) ≤ |q.1 - b|))

/-- The extra conditions of an event commit (R147): at least 8 P_E after every boundary of the instance, and no boundary
whose seal has begun. -/
def State.eventOk (s : State) (inst per : Nat) (b : Int) (skip : Nat) : Bool :=
  (s.boundaries skip).all (fun q =>
    (q.2.2.1 ≠ inst || decide (q.1 + 8 * (per : Int) ≤ b)) && (q.1 ≠ b || !q.2.2.2))

/-- The first instant of the grid of `per` from `b` on that satisfies a test. -/
def firstFrom (ok : Int → Bool) (per : Nat) : Nat → Int → Int
  | 0, b => b
  | fuel + 1, b => if ok b then b else firstFrom ok per fuel (b + per)

/-- Round a TAI instant up to the grid of a period (R144). -/
def gridUp (per : Nat) (t : Int) : Int := ceilDiv t per * per

/-- The first grid instant at or after `t` that satisfies R145 (R146, R148). -/
def State.earliest (s : State) (inst per : Nat) (t : Int) (skip : Nat) : Int :=
  firstFrom (fun b => s.spacingOk inst per b skip) per 4000 (gridUp per t)

/-- The event placement of R147. The search begins where the boundaries of the instance's own epochs allow it. -/
def State.eventInstant (s : State) (inst per : Nat) (t : Int) (skip : Nat) : Int :=
  let own := (((s.boundaries skip).filter (fun q => q.2.2.1 = inst)).map (fun q => q.1 + 8 * (per : Int))).foldl max t
  firstFrom (fun b => s.spacingOk inst per b skip && s.eventOk inst per b skip) per 4000 (gridUp per own)

/-- Placement of a scheduled commit at acceptance: the boundary, or a status with the instant that would do
(R145, R146). -/
def State.schedule (s : State) (v : View) (h : Nat) (chs : List PlanChange) (t : MailTime) (skip : Nat) : Int ⊕ (Nat × Int) :=
  let per := s.pA v.inst
  let now := s.tai
  let b := gridUp per (mailTai t)
  let lo := now + s.queueWait h + solveBound v chs + 2 * per + 500
  if 86400000000000 < mailTai t - now then .inr (0x000E, b)
  else if b < lo then .inr (0x000D, s.earliest v.inst per lo skip)
  else if s.spacingOk v.inst per b skip then .inl b
  else .inr (0x000C, s.earliest v.inst per (mailTai t) skip)

/-! ### Results, reports and completions -/

/-- The commit result of R216. -/
def commitResult (num per : Nat) (at_ : Int) (cells moved mcount : Nat) (ins : List Nat) : List Byte :=
  leBytes 2 num ++ leBytes 1 (periodCode per) ++ leBytes 1 0 ++ mailBytes at_ ++ leBytes 2 cells ++ leBytes 2 moved
    ++ leBytes 2 mcount ++ leBytes 2 0 ++ ((ins ++ List.replicate 16 0xFFFF).take 16).flatMap (leBytes 2)

/-- Post the completion that an epoch's commit command still owes (R210). -/
def State.settle (x status detail : Nat) (result : List Byte) (s : State) : State :=
  match s.fab.byExt x with
  | none => s
  | some e => if e.owed then (s.completeSeq e.host e.seq e.code status e.tag detail result).modEp x (fun e => { e with owed := false })
              else s

/-- Flags of a report (R158). -/
def Epoch.flags (e : Epoch) : Nat :=
  let k (n : Nat) : Bool := e.excs.any (fun q => q.kind = n)
  b2n (!e.late.isEmpty) + 2 * b2n (decide (64 < e.late.length)) + 4 * b2n (decide (80 < e.excs.length)) + 8 * b2n (k 1)
    + 16 * b2n (k 2) + 32 * b2n (k 3) + 64 * b2n (k 4) + 128 * b2n e.timeStep + 256 * b2n e.eraStale + 512 * b2n e.event
    + 1024 * b2n (e.atB && decide (0 < e.moved))

/-- The longest duration among exceptions of a kind. -/
def Epoch.longest (e : Epoch) (kind : Nat) : Nat := ((e.excs.filter (fun q => q.kind = kind)).map Exc.dur).foldl max 0

/-- A count of circuits as the report gives it: none where B did not occur (R158, log 142). -/
def Epoch.counted (e : Epoch) (n : Nat) : Nat := if e.atB then n else 0

/-- The epoch report (R158). An epoch armed for an event carries the EVENT flag and its channel also where it ends before an event
commits it (DESIGN CHOICE, log 166). -/
def Epoch.report (e : Epoch) : List Byte :=
  let at_ := mailOf (if e.atB then e.b.getD 0 else 0)
  let r := leBytes 2 e.num ++ leBytes 1 e.inst ++ leBytes 1 e.status.code ++ leBytes 2 e.flags ++ leBytes 2 e.follow
    ++ leBytes 8 e.ext ++ leBytes 4 e.reqNs ++ leBytes 6 e.reqS ++ leBytes 2 0 ++ leBytes 4 at_.2 ++ leBytes 6 at_.1
    ++ leBytes 1 (periodCode e.pE) ++ leBytes 1 (if e.event then e.channel else 0xFF) ++ leBytes 4 e.atEra ++ leBytes 4 e.atWns
    ++ leBytes 4 e.closeUs ++ leBytes 2 e.cells ++ leBytes 2 (e.counted e.made) ++ leBytes 2 (e.counted e.broken)
    ++ leBytes 2 (e.counted e.moved)
    ++ leBytes 2 (min 0xFFFF e.late.length) ++ leBytes 2 e.undone ++ leBytes 2 e.superseded
    ++ leBytes 2 (min 0xFFFF e.excs.length) ++ leBytes 4 (e.longest 1) ++ leBytes 4 (e.longest 4) ++ List.replicate 52 0
  let late := (e.late.take 64).flatMap (fun q => leBytes 4 (q.1 + 65536 * min 0xFFFF q.2))
  let exc := (e.excs.take 80).flatMap (fun q => leBytes 2 q.cell ++ leBytes 1 q.kind ++ leBytes 1 0 ++ leBytes 4 q.dur)
  r ++ (late ++ List.replicate 256 0).take 256 ++ (exc ++ List.replicate 640 0).take 640

/-- Firmware writes a report to the epoch log and posts it to the owner (R155). -/
def State.postReport (e : Epoch) (s : State) : State :=
  let s := s.logTo 1 [e.inst] s.stamp e.report
  match s.owner e.inst with
  | none => s
  | some h => s.notify h 1 [] e.report

/-! ### NEXT shadows (R149, R150) -/

/-- Numbers of epochs whose NEXT slots are in use (R149). -/
def Fab.liveNums (f : Fab) : List Nat := (f.epochs.filter Epoch.placed).map Epoch.num

/-- Write a tagged target into a cell's NEXT block: into the slot already tagged so, else into the first free slot
(R149). -/
def writeNext (live : List Nat) (num : Nat) (t : CellTgt) (c : Cell) : Cell :=
  let new : NextSlot := { valid := true, epoch := num, state := t.st, ratio := t.ratio }
  match c.next.findIdx? (fun q => q.valid && q.epoch = num) with
  | some i => { c with next := setAt new i c.next }
  | none =>
    match c.next.findIdx? (fun q => !q.valid || !(live.contains q.epoch)) with
    | some i => { c with next := setAt new i c.next }
    | none => c

/-- A shadow write of the solver: into the NEXT slot before the seal; discarded and listed as late from the seal on
(R149, R150). -/
def State.shadowWrite (x : Nat) (t : CellTgt) (s : State) : State :=
  match s.fab.byExt x with
  | none => s
  | some e =>
    if e.waits then s.modCell t.cell (writeNext s.fab.liveNums e.num t)
    else
      let after : Nat := match e.sealAt with | none => 0 | some t => ((s.tai - t) / 1000).toNat
      let s := (s.modEp x (fun e => { e with late := e.late ++ [(t.cell, after)] })).modSlotOf x
        (fun q => { q with lateN := satAdd 0xFFFF q.lateN 1 })
      { s with fab := { s.fab with lateTotal := sat32 s.fab.lateTotal } }

/-- The tagged targets of the instance's cells for an epoch number (R150). -/
def State.tagged (s : State) (inst num : Nat) : List CellTgt :=
  (s.cellsOf inst).filterMap (fun n =>
    ((s.cell n).next.find? (fun q => q.valid && q.epoch = num)).map (fun q => { cell := n, st := q.state, ratio := q.ratio }))

/-! ### Slots: giving, freeing and waiting (R160) -/

/-- A slot's registers for the epoch it takes. -/
def takeSlot (e : Epoch) (q : FabSlot) : FabSlot := { q with ep := some e, era := 0, changed := 0, lateN := 0 }

/-- Put an epoch into the first FREE slot, or let it wait for one (R160). -/
def State.giveSlot (e : Epoch) (s : State) : State :=
  match s.fab.slots.findIdx? (fun q => q.ep.isNone) with
  | some i => { s with fab := { s.fab with slots := modAt (takeSlot e) i s.fab.slots } }
  | none => { s with fab := { s.fab with slotWait := s.fab.slotWait ++ [e] } }

/-- Does an epoch stand in a slot? -/
def Fab.inSlot (f : Fab) (x : Nat) : Bool := f.held.any (fun e => e.ext = x)

/-- What an epoch does once it holds its slot (R133, R136, R151, R160): a PLAN_OPEN completes, a committed plan joins
the solver's queue, a follow-on is placed at the earliest instant and written to its NEXT slots. -/
def State.startEp (x : Nat) (s : State) : State :=
  match s.fab.byExt x with
  | none => s
  | some e =>
    match e.stage with
    | .open_ => s.settle x 0 0 (leBytes 2 e.num)
    | .queued => { s with fab := { s.fab with queue := s.fab.queue ++ [{ host := e.host, ext := x }] } }
    | .solved =>
      let b := s.earliest e.inst e.pE (s.tai + 2 * e.pE + 500) x
      e.targets.foldl (fun s t => s.shadowWrite x t) (s.modEp x (fun e => { e with b := some b }))

/-- Give an epoch a slot and start it, or let it wait. -/
def State.letEpochIn (e : Epoch) (s : State) : State :=
  let s := s.giveSlot e
  if s.fab.inSlot e.ext then s.startEp e.ext else s

/-- A freed slot goes to the epoch that has waited longest (R160). -/
def State.wake (s : State) : State :=
  match s.fab.slotWait with
  | [] => s
  | e :: rest =>
    if s.fab.slots.any (fun q => q.ep.isNone) then
      ({ s with fab := { s.fab with slotWait := rest } } : State).letEpochIn e
    else s

/-- The CTRL word of a slot (R160). -/
def FabSlot.ctrlWord (q : FabSlot) : Nat :=
  match q.ep with
  | none => q.ctrl.toNat % 2 ^ 29
  | some e => e.num % 65536 + 2 ^ 16 * (e.channel % 128) + 2 ^ 24 * periodCode e.pE + 2 ^ 26 * (e.inst % 4)
      + 2 ^ 28 * b2n e.event + 2 ^ 29 * e.st.code

/-- Free the slot of an epoch, or drop it from those that wait, and let the next waiting epoch have the slot (R160). -/
def State.freeEp (x : Nat) (s : State) : State :=
  let s : State := { s with fab := { s.fab with
    slots := s.fab.slots.map (fun q => match q.ep with
      | some e => if e.ext = x then { q with ep := none, ctrl := BitVec.ofNat 32 (q.ctrlWord % 2 ^ 29) } else q
      | none => q),
    slotWait := s.fab.slotWait.filter (fun e => e.ext ≠ x),
    queue := s.fab.queue.filter (fun q => q.ext ≠ x), resolves := s.fab.resolves.filter (· ≠ x) } }
  s.wake

/-- A new epoch: number and EPOCH_EXT (R143). -/
def State.allocate (inst host : Nat) (s : State) : Epoch × State :=
  let n := nextEpochNum s.fab.lastNum
  let x := (s.fab.ext + 1) % 2 ^ 48
  ({ num := n, ext := x, inst := inst, host := host, pE := s.pA inst },
   { s with fab := { s.fab with lastNum := n, ext := x } })

/-! ### Ending an epoch before its boundary (R153, R157) -/

/-- Later pending epochs of the instance, solved against a projected state that no longer holds (R153). A follow-on was not solved: its
targets are those of the final solution that it completes (R151). -/
def State.laterThan (s : State) (e : Epoch) : List Nat :=
  ((s.ordered e.inst e.ext).filter (fun q => q.waits && q.stage = .solved && !q.changes.isEmpty && decide (e.key < q.key))).map Epoch.ext

/-- Epochs to solve again, in order of boundary (R153). -/
def Fab.inOrder (f : Fab) (xs : List Nat) : List Nat :=
  xs.eraseDups.foldl (fun acc x => insertBy (fun y => match f.byExt y with | none => 0 | some e => e.key) x acc) []

/-- Firmware ends its work on a closed epoch: the completion still owed, the report, the slot (R153, R155, R157). -/
def State.finishEp (x : Nat) (s : State) : State :=
  match s.fab.byExt x with
  | none => s
  | some e => ((s.settle x (if e.status = .aborted then 0x0012 else 0x0013) 0 []).postReport e).freeEp x

/-- An epoch ends before its seal (or, on entry to SAFE, before its boundary): its commit command ends with the status,
its report is written while firmware runs, and later epochs are re-solved (R153, R157, R158). -/
def State.endEp (x : Nat) (how : EpStatus) (s : State) : State :=
  match s.fab.byExt x with
  | none => s
  | some e =>
    if e.placed = false then s
    else
      let again := if e.stage = .solved then s.laterThan e else []
      let s := s.modEp x (fun e => { e with st := .closed, status := how })
      let s : State := { s with fab := { s.fab with queue := s.fab.queue.filter (fun q => q.ext ≠ x),
                                                    resolves := s.fab.inOrder (s.fab.resolves.filter (· ≠ x) ++ again) } }
      if s.firmware then s.finishEp x else s

/-- End every epoch that satisfies a test. -/
def State.endAll (p : Epoch → Bool) (how : EpStatus) (s : State) : State :=
  ((s.fab.epochs.filter p).map Epoch.ext).foldl (fun s x => s.endEp x how) s

/-- Pending and armed epochs are cancelled (R157). -/
def State.cancelPending (s : State) : State := s.endAll Epoch.waits .cancelled

/-! ### Hand-over and closure (R154-R156) -/

/-- Cells whose hand-over of an epoch has not ended. -/
def State.unfinished (s : State) (e : Epoch) : List Nat :=
  (s.cellsOf e.inst).filter (fun n => (s.cell n).handover = some e.ext)

/-- Enter an exception in an epoch's report (R154). -/
def State.except (x : Nat) (q : Exc) (s : State) : State := s.modEp x (fun e => { e with excs := e.excs ++ [q] })

/-- A cell's hand-over ends. -/
def State.endHand (n : Nat) (s : State) : State :=
  s.modCell n (fun c => { c with handover := none, hoDelayed := false, hoTrackAt := none })

/-- EPOCH_DONE, at most once per boundary for a channel (R155, R225): channels of firmware take the first closure of the
boundary, a host's channel the first one of an instance of its own. -/
def State.raiseDone (at_ : Int) (inst : Nat) (s : State) : State :=
  let before : Option (List Nat) := match s.fab.doneAt with
    | some q => if q.1 = at_ then some q.2 else none
    | none => none
  let old := before.getD []
  let pass (ch : Nat) : Bool :=
    match s.evt.chans[ch]? with
    | none => false
    | some c => if 4 ≤ c.owner then before.isNone
                else decide (s.owner inst = some c.owner) && !(old.any (fun i => s.owner i = some c.owner))
  { s with evt := { s.evt with chanIn := s.evt.chanIn ++ ((s.evt.takers 0x31).filter pass).map (fun ch => ⟨ch, none⟩) },
           fab := { s.fab with doneAt := some (at_, inst :: old) } }

/-- Close an open epoch at an instant in TAI ns (R155, R156): cells still unfinished are listed as UNDONE. -/
def State.closeEp (x : Nat) (how : EpStatus) (at_ : Int) (s : State) : State :=
  match s.fab.byExt x with
  | none => s
  | some e =>
    let left := s.unfinished e
    let s := left.foldl (fun s n => (s.except x { cell := n, kind := 7 }).endHand n) s
    let us := match e.openAt with | none => 0 | some b => ((at_ - b) / 1000).toNat
    let s := s.modEp x (fun e => { e with st := .closed, status := how, closeUs := us, undone := left.length })
    let s : State := { s with fab := { s.fab with lastClosed := setAt e.num e.inst s.fab.lastClosed } }
    let s : State := if how = .spliced then { s with fab := { s.fab with spliceCnt := sat32 s.fab.spliceCnt } } else s
    s.raiseDone at_ e.inst

/-- Close with DONE every open epoch of the instances that has no unfinished cell (R155, R156). -/
def State.closeDone (at_ : Int) (s : State) : State :=
  (s.fab.held.filter (fun e => e.st = .openE && (s.unfinished e).isEmpty)).foldl (fun s e => s.closeEp e.ext .done at_) s

/-! ### The solver's work (R136-R142, R151, R153) -/

/-- Disturbance policy of an instance (R139): 0 ALLOW, 1 ASK, 2 NEVER. -/
def State.policy (s : State) (inst : Nat) : Nat := match s.partOf inst with | none => 1 | some r => r.policy

/-- A solution that moves no circuit at all, in the policy NEVER (R139): the first that the solver's order gives, else the
one that an exhaustive search finds. -/
def solveStill (v : View) (chs : List PlanChange) : Option (List Circuit) :=
  match (solvePlan v false chs).filter (fun cs => (movedOf v.circuits cs).isEmpty) with
  | some cs => some cs
  | none => (stillPairs v chs).bind (fun res => exhaust v false res [])

/-- What a solve gives: a failure status with its detail and result, or the epoch's fields of the solution. A re-solve
(`again`) sees the instance with the earlier epochs applied, a first solve with every pending one (R134, R153). -/
def State.solve (s : State) (again : Bool) (e : Epoch) : (Nat × Nat × List Byte) ⊕ Epoch :=
  let v := s.viewWith e.inst (if again then s.earlier e else s.ordered e.inst e.ext)
  let fail (st detail : Nat) (mc : Nat) (ins : List Nat) : (Nat × Nat × List Byte) ⊕ Epoch :=
    .inl (st, detail, commitResult e.num e.pE 0 0 0 mc ins)
  match planCheck v v.circuits e.changes with
  | some q => fail q.1 q.2 0 []
  | none =>
    match if s.policy e.inst = 2 then solveStill v e.changes else solvePlan v true e.changes with
    | none => fail 0x000A 0 0 []
    | some cs =>
      let mv := movedOf v.circuits cs
      if decide (s.policy e.inst = 1) && !e.acceptMoves && !mv.isEmpty then
        fail 0x000B 0 mv.length (mv.map Circuit.inp)
      else
        let ts := solutionTargets v cs e.changes
        let gone := v.circuits.filter (fun d => !(cs.any (fun c => c.inp = d.inp && c.out = d.out && c.path = d.path)))
        let new := cs.filter (fun c => !(v.circuits.any (fun d => c.inp = d.inp && c.out = d.out && c.path = d.path)))
        .inr { e with stage := .solved, targets := ts, removed := gone.map Circuit.inp, put := new,
                      made := (cs.filter (fun c => !(v.circuits.any (fun d => c.inp = d.inp && c.out = d.out)))).length,
                      broken := (v.circuits.filter (fun d => !(cs.any (fun c => c.inp = d.inp && c.out = d.out)))).length,
                      moved := mv.length, pE := s.pEOf e.inst ts }

/-- The solver works, or has to work, on an epoch. -/
def State.atWork (s : State) (e : Epoch) : Bool := s.fab.working e.ext

/-- The solver still works, or has to work, on a committed epoch: its final solution is not known yet (R151). -/
def State.solving (s : State) (e : Epoch) : Bool := e.atB && s.atWork e

/-- Moves of the instance's circuits that found no path are tried again (R139). -/
def State.retryMoves (inst : Nat) (s : State) : State :=
  { s with fab := { s.fab with retireRetry := s.fab.retireRetry.filter (fun q => q.1 ≠ inst),
                               retireSingly := s.fab.retireSingly.filter (· ≠ inst) } }

/-- A cell of an instance lies in a cluster. -/
def State.inCluster (s : State) (c inst : Nat) : Bool := (s.cellsOf inst).any (fun n => decide (n / 32 = c))

/-- A cluster comes up or goes down, and with it the available cells of the instances that have cells there (R137, R139). -/
def State.cluChanged (c : Nat) (s : State) : State :=
  { s with fab := { s.fab with retireRetry := s.fab.retireRetry.filter (fun q => !s.inCluster c q.1),
                               retireSingly := s.fab.retireSingly.filter (fun i => !s.inCluster c i) } }

/-- The completion of a solved commit (R216). -/
def State.settleOk (x : Nat) (s : State) : State :=
  match s.fab.byExt x with
  | none => s
  | some e => s.settle x 0 0 (commitResult e.num e.pE (e.b.getD 0) e.targets.length e.moved 0 [])

/-- The circuits of an epoch's solution are established (R134, R152). -/
def State.establish (e : Epoch) (s : State) : State :=
  let others := s.fab.circuits.filter (fun c => c.inst ≠ e.inst)
  { s with fab := { s.fab with circuits := others ++ applyEpoch false (s.circuitsOf e.inst) e } }

/-- Targets that are not live in their cells. -/
def State.notLive (s : State) (ts : List CellTgt) : List CellTgt :=
  ts.filter (fun t => !((s.cell t.cell).live.state = t.st && (s.cell t.cell).live.ratio = t.ratio))

/-- What firmware makes of an epoch past its B whose final solution is known: where E had late writes, a follow-on for the
targets that did not become live at B; it also establishes the circuits of a solution that came after B (R151, log 41). -/
def State.followOn (x : Nat) (s : State) : State :=
  match s.fab.byExt x with
  | none => s
  | some e =>
    if e.late.isEmpty ∨ e.missed.isEmpty then
      if e.carry then (s.establish e).modEp x (fun e => { e with carry := false }) else s
    else
      let (n, s) := s.allocate e.inst e.host
      let s := s.modEp x (fun e => { e with follow := n.num, carry := false, missed := [] })
      s.letEpochIn { n with stage := .solved, targets := e.missed, pE := s.pEOf e.inst e.missed,
                            removed := if e.carry then e.removed else [], put := if e.carry then e.put else [] }

/-- A solve of an epoch ends after B: what of the final solution is not live is known, and firmware, where it runs, makes
the follow-on (R151). -/
def State.solvedLate (x : Nat) (s : State) : State :=
  match s.fab.byExt x with
  | none => s
  | some e =>
    if e.atB = false then s
    else
      let s := s.modEp x (fun e => { e with missed := s.notLive e.targets })
      if s.firmware then s.followOn x else s

/-- Firmware is back: the follow-ons of epochs that met B while it was absent (R151, R157). -/
def State.followAll (s : State) : State :=
  ((s.fab.held.filter (fun e => e.atB && !s.solving e)).map Epoch.ext).foldl (fun s x => s.followOn x) s

/-- Place a solved event epoch after its arrival (R147). -/
def State.placeEvent (x : Nat) (s : State) : State :=
  match s.fab.byExt x with
  | none => s
  | some e =>
    match e.goAt with
    | none => s
    | some t =>
      let b := s.eventInstant e.inst e.pE (max t s.tai + 2 * e.pE + 500) x
      (s.modEp x (fun e => { e with b := some b, loaded := true })).modSlotOf x
        (fun q => { q with commitAt := BitVec.ofInt 32 (s.time.xOf b) })

/-- A solved epoch's targets are written, it is placed, and its command completes (R142, R146, R147, R149). -/
def State.takeSolution (e : Epoch) (s : State) : State :=
  let x := e.ext
  let s := s.modEp x (fun _ => e)
  let s := if e.event = false ∧ e.b.isNone = true then
      s.modEp x (fun q => { q with b := some (s.earliest e.inst e.pE (s.tai + 2 * e.pE + 500) x) })
    else s
  let s := e.targets.foldl (fun s t => s.shadowWrite x t) s
  (if e.event then s.placeEvent x else s.settleOk x).solvedLate x

/-- A re-solve: cells of the earlier solution that the new one leaves alone are rewritten with their projected target
(R153). These belong to the final solution that a follow-on carries (R151). An epoch whose boundary is placed already keeps it, also
where P_E changes with the solution (DESIGN CHOICE, log 165). -/
def State.rewrite (old : List CellTgt) (e : Epoch) (s : State) : State :=
  let back := (old.filter (fun t => !(e.targets.any (fun q => q.cell = t.cell)))).map (fun t =>
    let q := s.projTarget (s.earlier e) t.cell
    { cell := t.cell, st := q.1, ratio := q.2 : CellTgt })
  let s := s.modEp e.ext (fun _ => { e with targets := e.targets ++ back })
  ((e.targets ++ back).foldl (fun s t => s.shadowWrite e.ext t) s).solvedLate e.ext

/-- Round robin over hosts from the one after the host last served (R136). -/
def nextHost (queue : List SolveItem) (last : Nat) : Option Nat :=
  (([1, 2, 3, 4] : List Nat).map (fun k => (last + k) % 4)).find? (fun h => queue.any (fun q => q.host = h))

/-! ### Steps (R148) -/

/-- A forward step by `d` ns from TAI instant `old` passes seal instants of pending epochs: their boundary is replaced, with the period
by which R145 counts them (R148). Of several the one in the lower slot is placed first (DESIGN CHOICE, log 43). -/
def State.stepPassed (old new : Int) (s : State) : State :=
  ((s.fab.epochs.filter (fun e => e.waits && (match e.b with
      | none => false
      | some b => decide (old < b - 2 * e.pE) && decide (b - 2 * e.pE ≤ new)))).map Epoch.ext).foldl
    (fun s x => match s.fab.byExt x with
      | none => s
      | some e =>
        let b := s.earliest e.inst (s.countPeriod e) (new + 2 * e.pE + 500) x
        (s.modEp x (fun e => { e with b := some b, timeStep := true, loaded := true })).modSlotOf x
          (fun q => { q with commitAt := BitVec.ofInt 32 (s.time.xOf b) })) s

end Sys2Proof.Machine
end

