-- ==== Sys2Proof/Machine/HostOps.lean ====
section
/-! DEFINITION. The common head of every mailbox command: when firmware serves it, the checks of R212 in their order,
the status codes of R218, ownership. -/

namespace Sys2Proof.Machine

/-! ### Status codes (R218) -/

/-- OK -/
def stOk : Nat := 0x0000
/-- MALFORMED -/
def stMalformed : Nat := 0x0001
/-- NOT_OWNER -/
def stNotOwner : Nat := 0x0002
/-- NOT_STEWARD -/
def stNotSteward : Nat := 0x0003
/-- BAD_MODE -/
def stBadMode : Nat := 0x0004
/-- BUSY -/
def stBusy : Nat := 0x0005
/-- NO_SLOT -/
def stNoSlot : Nat := 0x0006
/-- UNAVAILABLE -/
def stUnavailable : Nat := 0x0007
/-- TOO_LATE -/
def stTooLate : Nat := 0x000F
/-- NO_PLAN -/
def stNoPlan : Nat := 0x0010
/-- PLAN_FULL -/
def stPlanFull : Nat := 0x0011
/-- BAD_ADDR -/
def stBadAddr : Nat := 0x0014
/-- LIVE_CIRCUITS -/
def stLiveCircuits : Nat := 0x0015
/-- IMAGE_INVALID -/
def stImageInvalid : Nat := 0x0016
/-- NOT_READY -/
def stNotReady : Nat := 0x0017
/-- DENIED -/
def stDenied : Nat := 0x0018

/-- FLAGS.ACCEPT_MOVES, EVENT and FORCE (R210). -/
def accMoves (h : Hdr) : Bool := bit h.flags 0
/-- FLAGS.EVENT (R210). -/
def onEvent (h : Hdr) : Bool := bit h.flags 1
/-- FLAGS.FORCE (R210). -/
def forced (h : Hdr) : Bool := bit h.flags 2

/-! ### Modes in which commands are accepted (R215) -/

/-- SERVICE and DERATED. -/
def inService (m : Mode) : Bool := m = .service || m = .derated
/-- All but CHURN and LOAD. -/
def inAny (m : Mode) : Bool := m ≠ .churn && m ≠ .load
/-- SERVICE, DERATED and DARK. -/
def inAwake (m : Mode) : Bool := m = .service || m = .derated || m = .dark

/-! ### Owners (R212) -/

/-- Owner of an instance named by a command; none where the number names no instance. -/
def State.ownerInst (s : State) (i : Nat) : Option Nat := s.owner i

/-- Owner of a port end; none where it is a port end of no instance. -/
def State.ownerPort (s : State) (p : Nat) : Option Nat :=
  let e := s.port p
  if e.dir = 0 then none else s.owner e.inst

/-- Owner of a cell; an UNUSED cell belongs to no host (R212), which 9 stands for. -/
def State.ownerCell (s : State) (n : Nat) : Option Nat :=
  if 8192 ≤ n then none
  else if (s.entry n).role = 0 then some 9 else s.owner (s.entry n).inst

/-- Owner of an epoch in use (R212). -/
def State.ownerEpoch (s : State) (num : Nat) : Option Nat :=
  match s.fab.byNum num with
  | none => none
  | some e => s.owner e.inst

/-- Owner of an event channel; 4 is firmware (R229). -/
def State.ownerChan (s : State) (ch : Nat) : Option Nat :=
  match s.evt.chans[ch]? with
  | none => none
  | some c => some c.owner

/-! ### The frame of a command -/

/-- What a command declares of itself for the checks of R212. -/
structure CmdSpec where
  /-- command code (R215) -/
  code : Nat
  /-- a command of the steward-only set -/
  steward : Bool := false
  /-- owners of the existing objects it names -/
  owners : List (Option Nat) := []
  /-- modes in which it is accepted -/
  modes : Mode → Bool := inAny
  /-- refused during an announced release (R220) -/
  noRelease : Bool := false
  /-- offset of the first field out of range -/
  range : Option Nat := none

/-- Firmware serves commands: READY set, PAUSED clear, firmware running (R210, R215). -/
def State.serves (s : State) : Bool := s.sys.ready && s.firmware

/-- The checks of R212, steps 1 to 5: status and detail of the first failure. -/
def CmdSpec.check (c : CmdSpec) (h : Hdr) (s : State) : Option (Nat × Nat) :=
  if h.flags / 8 ≠ 0 then some (stMalformed, 2)
  else match h.badByte with
    | some b => some (stMalformed, b)
    | none =>
      if c.steward = true ∧ h.port.val ≠ s.steward then some (stNotSteward, 0)
      else if c.owners.any (fun o => match o with | none => false | some q => q ≠ h.port.val) then some (stNotOwner, 0)
      else if c.modes s.sys.mode = false then some (stBadMode, 0)
      else if c.noRelease = true ∧ s.sys.release = true then some (stBadMode, 0)
      else match c.range with
        | some o => some (stMalformed, o)
        | none => none

/-- Complete a command on its port. -/
def State.reply (h : Hdr) (code status detail : Nat) (result : List Byte) (s : State) : State :=
  s.complete h.port.val code status h.tag detail result

/-- The command's turn: it is the next one of its port that firmware has taken and not begun, and begins now (R210). -/
def State.startCmd (h : Hdr) (code : Nat) (s : State) : Option State :=
  ((s.hport h.port.val).startCmd code h.flags h.tag).map (fun q => s.modHost h.port.val (fun _ => q))

/-- A mailbox command: nothing while firmware does not serve it or it is not its turn, the first failing check's status, or
its own act (R210, R212, R215). -/
def CmdSpec.run (c : CmdSpec) (h : Hdr) (act : State → State) (s : State) : State :=
  if s.serves = false then s
  else match s.startCmd h c.code with
    | none => s
    | some s =>
      match c.check h s with
      | some q => s.reply h c.code q.1 q.2 []
      | none => act s

/-- What a port's configuration space carries: vendor, device, class code, subsystem vendor and subsystem (R204). -/
def HostPort.configIds (h : HostPort) : Nat × Nat × Nat × Nat × Nat := (0x5A57, 0x0008, 0x088000, h.subVid, h.subId)

/-- Offset of a nanosecond field above 999,999,999 (R7). -/
def badNs (t : MailTime) (offset : Nat) : Option Nat := if 999999999 < t.ns then some offset else none

/-- Offset of an instance number that names none (R212). -/
def State.badInst (s : State) (i : Nat) : Option Nat := if i < s.instCount then none else some 8

end Sys2Proof.Machine
end

