-- ==== Sys2Proof/Machine/Rearrange.lean ====
section
/-! DEFINITION. The commands of rearrangement: plans, the solver, seals, commits, closures (R133-R160). -/

namespace Sys2Proof.Machine

/-! ### Plans -/

/-- Offset of the first field of a change that the map rules out (R134). `p` and `p2` are the offsets of PORT and
PORT2. -/
def State.changeBad (s : State) (inst p p2 : Nat) (c : PlanChange) : Option Nat :=
  let e := s.port c.port
  let here (q : PortEntry) : Bool := q.dir ≠ 0 && q.inst = inst
  if c.kind = 1 then
    if !here e || e.dir ≠ 1 then some p
    else if !here (s.port c.port2) || (s.port c.port2).dir ≠ 2 then some p2
    else none
  else if c.kind = 3 then (if !here e || e.trim = 0xFFFF then some p else none)
  else if !here e then some p else none

/-- Queue room of a host (R136). -/
def Fab.queueRoom (f : Fab) (h : Nat) : Bool :=
  decide ((f.queue.filter (fun q => q.host = h)).length < 16) && decide (f.queue.length < 64)

/-- The checks that follow the opening of a committed plan: the plan as a whole, then its instant (R134, R145, R146).
Left: status, detail, result. Right: the boundary of a scheduled commit. -/
def State.commitCheck (s : State) (e : Epoch) (h : Nat) (t : Option MailTime) : (Nat × Nat × List Byte) ⊕ Option Int :=
  let v := s.view e.inst e.ext
  match planCheck v (s.projected true e.inst e.ext) e.changes with
  | some q => .inl (q.1, q.2, commitResult e.num e.pE 0 0 0 0 [])
  | none =>
    match t with
    | none => .inr none
    | some t =>
      if t.s = 0 ∧ t.ns = 0 then .inr none
      else match s.schedule v h e.changes t e.ext with
        | .inl b => .inr (some b)
        | .inr q => .inl (q.1, 0, commitResult e.num (s.pA e.inst) q.2 0 0 0 [])

/-- A CONNECT or DISCONNECT: a plan of one change, opened, filled and committed by the one command (R133-R136,
R140). -/
def singleChange (h : Hdr) (code inst : Nat) (c : PlanChange) (t : MailTime) (p p2 : Nat) (s : State) : State :=
  match s.changeBad inst p p2 c with
  | some o => s.reply h code stMalformed o []
  | none =>
    if s.placeFree inst = false then s.reply h code stNoSlot 0 []
    else if s.fab.armedInst inst = true ∨ s.fab.queueRoom h.port.val = false then s.reply h code stBusy 0 []
    else
      let (n, s) := s.allocate inst h.port.val
      let e : Epoch := { n with stage := .queued, changes := [c], single := true, code := code, tag := h.tag,
                                seq := s.turn h.port.val, acceptMoves := accMoves h, owed := true, reqS := t.s, reqNs := t.ns }
      match s.commitCheck e h.port.val (some t) with
      | .inl q =>
        (s.reply h code q.1 q.2.1 q.2.2).postReport { e with st := .closed, status := .aborted, owed := false }
      | .inr b => s.letEpochIn { e with b := b }

/-- CONNECT (R134). -/
def execConnect (h : Hdr) (inst inp out : Nat) (time : MailTime) (s : State) : Host.Outcome State Fault Refusal :=
  .next (CmdSpec.run { code := 0x0001, owners := [s.ownerInst inst, s.ownerPort inp, s.ownerPort out],
                       modes := inService, noRelease := true,
                       range := (s.badInst inst).orElse (fun _ => badNs time 0x10) } h
    (singleChange h 0x0001 inst { kind := 1, port := inp, port2 := out } time 0x0A 0x0C) s)

/-- DISCONNECT (R134). -/
def execDisconnect (h : Hdr) (inst port : Nat) (time : MailTime) (s : State) : Host.Outcome State Fault Refusal :=
  .next (CmdSpec.run { code := 0x0002, owners := [s.ownerInst inst, s.ownerPort port], modes := inService,
                       range := (s.badInst inst).orElse (fun _ => badNs time 0x10) } h
    (singleChange h 0x0002 inst { kind := 2, port := port } time 0x0A 0x0A) s)

/-- Opening a plan: a pending place, a number and a slot (R135, R143, R160). -/
def openPlan (h : Hdr) (inst : Nat) (s : State) : State :=
  if s.placeFree inst = false then s.reply h 0x0003 stNoSlot 0 []
  else
    let (n, s) := s.allocate inst h.port.val
    s.letEpochIn { n with code := 0x0003, tag := h.tag, seq := s.turn h.port.val, owed := true }

/-- PLAN_OPEN (R135). -/
def execPlanOpen (h : Hdr) (inst : Nat) (s : State) : Host.Outcome State Fault Refusal :=
  .next (CmdSpec.run { code := 0x0003, owners := [s.ownerInst inst], modes := inService, noRelease := true,
                       range := s.badInst inst } h (openPlan h inst) s)

/-- An epoch that takes changes: pending, opened and not committed (R218). -/
def Epoch.isOpenPlan (e : Epoch) : Bool := decide (e.st = .pending) && decide (e.stage = .open_)

/-- Offset of the first field of a change entry out of its range (R8, R216). -/
def entryRange : Nat → List PlanChange → Option Nat
  | _, [] => none
  | o, c :: cs =>
    if c.kind = 0 ∨ 3 < c.kind then some o
    else if c.kind ≠ 1 ∧ c.port2 ≠ 0 then some (o + 4)
    else if 0x8000 < c.ratio ∨ (c.kind ≠ 3 ∧ c.ratio ≠ 0) then some (o + 6)
    else entryRange (o + 8) cs

/-- Offset of the first reserved byte of the change entries that is not zero (R212). -/
def entryReserved : Nat → List PlanChange → Option Nat
  | _, [] => none
  | o, c :: cs => if c.reserved ≠ 0 then some (o + 1) else entryReserved (o + 8) cs

/-- Offset of the first field that the map rules out in a list of changes (R134). -/
def State.entriesBad (s : State) (inst : Nat) : Nat → List PlanChange → Option Nat
  | _, [] => none
  | o, c :: cs => (s.changeBad inst (o + 2) (o + 4) c).orElse (fun _ => s.entriesBad inst (o + 8) cs)

/-- Adding changes to an open plan (R134, R218). -/
def addChanges (h : Hdr) (epoch : Nat) (changes : List PlanChange) (s : State) : State :=
  match s.fab.byNum epoch with
  | none => s.reply h 0x0004 stNoPlan 0 []
  | some e =>
    if e.isOpenPlan = false then s.reply h 0x0004 stNoPlan 0 []
    else match s.entriesBad e.inst 0x10 changes with
      | some o => s.reply h 0x0004 stMalformed o []
      | none =>
        if 1024 < e.changes.length + changes.length then s.reply h 0x0004 stPlanFull 0 []
        else (s.modEp e.ext (fun e => { e with changes := e.changes ++ changes })).reply h 0x0004 stOk 0
          (leBytes 2 (e.changes.length + changes.length))

/-- PLAN_ADD (R134). -/
def execPlanAdd (h : Hdr) (epoch : Nat) (changes : List PlanChange) (s : State) : Host.Outcome State Fault Refusal :=
  .next (CmdSpec.run { code := 0x0004, modes := inService,
                       owners := s.ownerEpoch epoch ::
                         changes.flatMap (fun c => s.ownerPort c.port :: (if c.kind = 1 then [s.ownerPort c.port2] else [])),
                       range := if changes.length = 0 ∨ 14 < changes.length then some 0x0A else entryRange 0x10 changes }
    { h with badByte := h.badByte.orElse (fun _ => entryReserved 0x10 changes) } (addChanges h epoch changes) s)

/-- Committing an open plan (R134-R136, R145-R147). -/
def commitPlan (h : Hdr) (epoch channel : Nat) (t : MailTime) (s : State) : State :=
  match s.fab.byNum epoch with
  | none => s.reply h 0x0005 stNoPlan 0 []
  | some e =>
    if e.isOpenPlan = false then s.reply h 0x0005 stNoPlan 0 []
    else if s.fab.armedInst e.inst = true ∨ s.fab.queueRoom h.port.val = false then s.reply h 0x0005 stBusy 0 []
    else match s.commitCheck e h.port.val (if onEvent h then none else some t) with
      | .inl q => s.reply h 0x0005 q.1 q.2.1 q.2.2
      | .inr b =>
        let k := s.turn h.port.val
        let s := s.modEp e.ext (fun e =>
          { e with stage := .queued, code := 0x0005, tag := h.tag, seq := k, acceptMoves := accMoves h, owed := true,
                   event := onEvent h, st := if onEvent h then .armed else .pending,
                   channel := if onEvent h then channel else 0, b := b, loaded := false, goAt := none,
                   reqS := if onEvent h then 0 else t.s, reqNs := if onEvent h then 0 else t.ns, pE := s.pA e.inst })
        s.startEp e.ext

/-- PLAN_COMMIT (R134). -/
def execPlanCommit (h : Hdr) (epoch channel : Nat) (time : MailTime) (s : State) : Host.Outcome State Fault Refusal :=
  .next (CmdSpec.run { code := 0x0005, modes := inService, noRelease := true,
                       owners := s.ownerEpoch epoch :: (if onEvent h then [s.ownerChan channel] else []),
                       range := if onEvent h then (if 127 < channel then some 0x0A else none) else badNs time 0x10 } h
    (commitPlan h epoch channel time) s)

/-- Ending a plan before its seal (R153, R218). -/
def abortPlan (h : Hdr) (epoch : Nat) (s : State) : State :=
  match s.fab.byNum epoch with
  | none => s.reply h 0x0006 stNoPlan 0 []
  | some e =>
    if e.waits then (s.endEp e.ext .aborted).reply h 0x0006 stOk 0 []
    else s.reply h 0x0006 stTooLate 0 []

/-- PLAN_ABORT (R153). -/
def execPlanAbort (h : Hdr) (epoch : Nat) (s : State) : Host.Outcome State Fault Refusal :=
  .next (CmdSpec.run { code := 0x0006, modes := inService, owners := [s.ownerEpoch epoch] } h (abortPlan h epoch) s)

/-! ### The solver -/

/-- The solver takes the next re-solve, else the next item round robin over hosts (R136, R153). -/
def takeItem (s : State) : State :=
  match s.fab.busy with
  | some _ => s
  | none =>
    match s.fab.resolves with
    | x :: rest => { s with fab := { s.fab with busy := some (x, true), resolves := rest } }
    | [] =>
      match nextHost s.fab.queue s.fab.lastHost with
      | none => s
      | some h =>
        match s.fab.queue.find? (fun q => q.host = h) with
        | none => s
        | some q => { s with fab := { s.fab with busy := some (q.ext, false), lastHost := h,
                                                 queue := removeFirst (fun r => decide (r = q)) s.fab.queue } }

/-- SOLVER_TAKE_ITEM (R136). -/
def execSolverTakeItem (s : State) : Host.Outcome State Fault Refusal := .next (takeItem s)

/-- Firmware's plan of R139 finds no path: a plan of several circuits is broken up, a circuit that cannot move alone stays and
waits (log 143). -/
def State.moveFailed (e : Epoch) (s : State) : State :=
  match e.changes with
  | [c, _] => { s with fab := { s.fab with retireRetry := ((e.inst, c.port) :: s.fab.retireRetry).eraseDups } }
  | _ => { s with fab := { s.fab with retireSingly := (e.inst :: s.fab.retireSingly).eraseDups } }

/-- A solve of an epoch past its B finds nothing: what was staged stands, with its circuits (R150, R153). -/
def State.keepStaged (e : Epoch) (s : State) : State :=
  if e.carry then (s.establish e).modEp e.ext (fun e => { e with carry := false }) else s

/-- A solve that fails: a committed plan stays open, a single change is discarded with an ABORTED report, firmware's own
plan is tried again later (R139, R140). An epoch sealed by then commits all the same (R150, R153). -/
def solveFailed (e : Epoch) (q : Nat × Nat × List Byte) (s : State) : State :=
  let s := s.settle e.ext q.1 q.2.1 q.2.2
  if e.waits = false then s.keepStaged e
  else if e.single ∨ e.code = 0 then
    (if e.code = 0 then s.moveFailed e else s).endEp e.ext .aborted
  else s.modEp e.ext (fun e => { e with stage := .open_, st := .pending, b := none, event := false, goAt := none })

/-- The end of a solve (R137-R142, R149-R151, R153). -/
def solveDone (s : State) : State :=
  match s.fab.busy with
  | none => s
  | some (x, again) =>
    let s : State := { s with fab := { s.fab with busy := none } }
    match s.fab.byExt x with
    | none => s
    | some e =>
      if e.status ≠ .none ∧ e.atB = false then s
      else match s.solve again e with
        | .inl q => if again then (if e.waits then s.endEp x .cancelled else s.keepStaged e) else solveFailed e q s
        | .inr e' => if again then s.rewrite e.targets e' else s.takeSolution e'

/-- SOLVE_DONE (R137). -/
def execSolveDone (s : State) : Host.Outcome State Fault Refusal := .next (solveDone s)

/-! ### Seal and commit -/

/-- The epoch in a FAB slot. -/
def State.slotEp (s : State) (i : Nat) : Option Epoch :=
  match s.fab.slots[i]? with
  | none => none
  | some q => q.ep

/-- Firmware loads `FAB_COMMIT_AT` once B lies within 2 s ahead and inside the compare window (R146, R172). -/
def loadCommitAt (i : Nat) (s : State) : State :=
  match s.slotEp i with
  | none => s
  | some e =>
    match e.b with
    | none => s
    | some b =>
      let d := s.time.xOf b - s.now
      if e.waits ∧ e.loaded = false ∧ s.firmware = true ∧ 16 ≤ d ∧ d ≤ 2000000000 then
        (s.modEp e.ext (fun e => { e with loaded := true })).modSlotOf e.ext
          (fun q => { q with commitAt := BitVec.ofInt 32 (s.time.xOf b) })
      else s

/-- COMMIT_AT_LOAD (R146). -/
def execCommitAtLoad (slot : Fin 8) (s : State) : Host.Outcome State Fault Refusal := .next (loadCommitAt slot.val s)

/-- The seal of the epoch in a slot, at S = B − 2 P_E (R150); an event commit completes (R147). -/
def sealEpoch (i : Nat) (s : State) : State :=
  match s.slotEp i with
  | none => s
  | some e =>
    match e.b with
    | none => s
    | some b =>
      if e.waits = false ∨ e.loaded = false then s
      else match reach 4000000000 (s.time.xOf (b - 2 * e.pE)) s with
        | none => s
        | some s =>
          let s := s.modEp e.ext (fun q => { q with st := .sealedE, staged := s.tagged e.inst e.num, sealAt := some (b - 2 * e.pE) })
          let s : State := { s with fab := { s.fab with lastSealed := e.num } }
          if e.event then s.settleOk e.ext else s

/-- EPOCH_SEAL (R150). -/
def execEpochSeal (slot : Fin 8) (s : State) : Host.Outcome State Fault Refusal := .next (sealEpoch slot.val s)

/-- The staged targets that change their cell's live target (R152). -/
def State.realChanges (s : State) (e : Epoch) : List CellTgt :=
  s.notLive e.staged

/-- Supersession of one cell: the hand-over of an older open epoch ends (R154, R156). -/
def State.supersede (n : Nat) (s : State) : State :=
  match (s.cell n).handover with
  | none => s
  | some x => ((s.except x { cell := n, kind := 6 }).modEp x (fun e => { e with superseded := e.superseded + 1 })).endHand n

/-- One staged target becomes live at B (R77, R152, R154). -/
def State.goLive (e : Epoch) (t : CellTgt) (s : State) : State :=
  let c := s.cell t.cell
  match c.engNow.st with
  | .off | .retired => s.except e.ext { cell := t.cell, kind := 3 }
  | .hold =>
    let s := s.modCell t.cell (fun c => { c with live := { state := t.st, ratio := t.ratio, epoch := e.num } })
    let s := s.modEp e.ext (fun e => { e with cells := e.cells + 1 })
    if c.engNow.cause = .noEngine then s.except e.ext { cell := t.cell, kind := 3 }
    else s.modCell t.cell (fun c => { c with handover := some e.ext })
  | .hitch | .track | .dark | .stuck | .limit =>
    (s.modCell t.cell (fun c => { c with live := { state := t.st, ratio := t.ratio, epoch := e.num },
                                         handover := some e.ext })).modEp e.ext (fun e => { e with cells := e.cells + 1 })

/-- One epoch commits at B (R152, R158): live targets, circuits, the capture of ERA and WNS. The circuits of a solve that has
not ended by B wait for it (R151). -/
def State.commitOne (p : Stamp) (e : Epoch) (s : State) : State :=
  let s := (s.realChanges e).foldl (fun s t => s.goLive e t) s
  let late := decide (e.stage = .queued) || s.atWork e
  let s := s.modEp e.ext (fun e => { e with st := .openE, atB := true, atEra := p.era, atWns := p.wns, eraStale := p.stale,
                                            openAt := e.b, carry := late, missed := s.notLive e.targets })
  let n := match s.fab.byExt e.ext with | none => 0 | some e => e.cells
  let s := s.modSlotOf e.ext (fun q => { q with era := p.era, changed := n })
  let s := if late then s else s.establish e
  ({ s with fab := { s.fab with lastCommitted := e.num } } : State).retryMoves e.inst

/-- The oldest of two open epochs: the earlier boundary, then the older number (R156). -/
def older (a b : Epoch) : Epoch :=
  match a.b, b.b with
  | some x, some y => if x < y then a else if y < x then b else if newer a.num b.num then b else a
  | _, _ => a

/-- Splice the oldest open epochs until no more than four will be open (R156). -/
def splice (at_ : Int) : Nat → State → State
  | 0, s => s
  | k + 1, s =>
    match s.fab.held.filter (fun e => e.st = .openE) with
    | [] => s
    | e :: es => splice at_ k (s.closeEp (es.foldl older e).ext .spliced at_)

/-- The commit of every sealed epoch of a boundary (R152, R155, R156, R151). -/
def commitAt (b : Int) (es : List Epoch) (s : State) : State :=
  let p := s.stamp
  let s := (es.flatMap s.realChanges).foldl (fun s t => s.supersede t.cell) s
  let s := s.closeDone b
  let o := (s.fab.held.filter (fun e => e.st = .openE)).length
  let s := splice b (o + es.length - 4) s
  let per := (es.map s.countPeriod).foldl max 0
  let s := es.foldl (fun s e => s.commitOne p e) s
  let s : State := { s with fab := { s.fab with lastBoundary := some (b, per) } }
  let s := s.raiseEpoch 0x30 (es.map Epoch.inst)
  let s := s.closeDone b
  if s.firmware then s.followAll else s

/-- The earliest boundary among sealed epochs. -/
def Fab.nextCommit (f : Fab) : Option Int :=
  (f.held.filterMap (fun e => if e.st = .sealedE then e.b else none)).foldl
    (fun m b => match m with | none => some b | some a => some (min a b)) none

/-- The next commit boundary of sealed epochs is reached and its epochs commit (R152). -/
def epochCommit (s : State) : State :=
  match s.fab.nextCommit with
  | none => s
  | some b =>
    match reach 4000000000 (s.time.xOf b) s with
    | none => s
    | some s => commitAt b (s.fab.held.filter (fun e => e.st = .sealedE && e.b = some b)) s

/-- EPOCH_COMMIT (R152). -/
def execEpochCommit (s : State) : Host.Outcome State Fault Refusal := .next (epochCommit s)

/-- An epoch with cells unfinished 1 s after B closes EXPIRED (R155). -/
def expireEpoch (i : Nat) (s : State) : State :=
  match s.slotEp i with
  | none => s
  | some e =>
    match e.openAt with
    | none => s
    | some b =>
      if e.st ≠ .openE ∨ (s.unfinished e).isEmpty then s
      else match reach 4000000000 (s.time.xOf (b + 1000000000)) s with
        | none => s
        | some s => s.closeEp e.ext .expired (max s.tai (b + 1000000000))

/-- EPOCH_EXPIRE (R155). -/
def execEpochExpire (slot : Fin 8) (s : State) : Host.Outcome State Fault Refusal := .next (expireEpoch slot.val s)

/-- Firmware writes and posts the report of a CLOSED slot and frees the slot (R155, R160), once the epoch's
final solution is known (R151). -/
def writeReport (i : Nat) (s : State) : State :=
  match s.slotEp i with
  | none => s
  | some e => if e.st = .closed ∧ s.firmware = true ∧ s.solving e = false then s.finishEp e.ext else s

/-- EPOCH_REPORT_WRITE (R160). -/
def execEpochReportWrite (slot : Fin 8) (s : State) : Host.Outcome State Fault Refusal := .next (writeReport slot.val s)

/-- The period of a PERIOD code (R158). -/
def periodOf (c : Nat) : Nat := if c % 4 = 0 then 500 else if c % 4 = 1 then 1000 else if c % 4 = 2 then 2000 else 4000

/-- PLAN_GO may select a channel: one of the owner of the slot's instance (R231). -/
def State.goOk (s : State) (inst ch : Nat) : Bool := decide (s.owner inst = some (s.evt.chans.getD ch {}).owner)

/-- A write of `FAB_EP_CTRL`: the three changes of STATE that firmware may make; its other fields are stored, but EVENT with a
channel that PLAN_GO may not select is not taken (R160, R231). Nothing while the solver's domain, in which FAB lies, is off (R365, log
123). -/
def writeEpCtrl (i : Nat) (v : Word) (s : State) : State :=
  let n := v.toNat
  let st := bits n 31 29
  let ev := bit n 28 && s.goOk (bits n 27 26) (bits n 22 16)
  let fields (e : Epoch) : Epoch :=
    { e with event := ev, inst := bits n 27 26, pE := periodOf (bits n 25 24), channel := bits n 22 16, num := bits n 15 0 }
  if s.power.solver ≠ .on then s
  else match s.slotEp i with
  | none =>
    let s : State := { s with fab := { s.fab with slots := modAt (fun q => { q with ctrl := v &&& 0x1F7FFFFF }) i s.fab.slots } }
    if st = 1 ∨ st = 2 then
      let x := (s.fab.ext + 1) % 2 ^ 48
      let e : Epoch := fields { ext := x, host := (s.owner (bits n 27 26)).getD 0, stage := .solved,
                                st := if st = 1 then .pending else .armed }
      { s with fab := { s.fab with ext := x, slots := modAt (takeSlot e) i s.fab.slots } }
    else s
  | some e =>
    if st = 0 ∧ e.waits = true then s.endEp e.ext .aborted
    else if st = 0 ∧ e.st = .closed then s.freeEp e.ext
    else s.modEp e.ext fields

/-- FAB_EP_CTRL_WRITE (R160). -/
def execFabEpCtrlWrite (slot : Fin 8) (v : Word) (s : State) : Host.Outcome State Fault Refusal :=
  .next (writeEpCtrl slot.val v s)

/-! ### Moves off PEND_RETIRE cells (R85, R139) -/

/-- Established circuits of an instance that pass a SWITCH cell in PEND_RETIRE. -/
def State.toMove (s : State) (inst : Nat) : List Circuit :=
  (s.circuitsOf inst).filter (fun c => c.path.any (fun p => (s.cell p.cell).engNow.pendRetire))

/-- The instance's available cells have changed: a move that found no path is tried again (R139). -/
def State.cellsChanged (n : Nat) (s : State) : State :=
  s.retryMoves (s.entry n).inst

/-- The circuits of firmware's next plan of R139: all that must move and do not wait for another try, or the first of them
where a joint plan has found no path (log 143). -/
def State.moveNext (s : State) (inst : Nat) : List Circuit :=
  let cs := (s.toMove inst).filter (fun c => !(s.fab.retireRetry.contains (inst, c.inp)))
  if s.fab.retireSingly.contains inst then cs.take 1 else cs

/-- Under ALLOW, firmware plans DISCONNECT and CONNECT pairs for the circuits that must move, in the instance's pending
place, and commits the plan at the earliest instant (R139). -/
def allowMove (inst : Nat) (s : State) : State :=
  let cs := s.moveNext inst
  if s.serves = false ∨ inService s.sys.mode = false ∨ s.policy inst ≠ 0 ∨ cs.isEmpty = true ∨ s.placeFree inst = false
      ∨ s.fab.armedInst inst = true then s
  else match s.owner inst with
    | none => s
    | some h =>
      let (n, s) := s.allocate inst h
      let chs := cs.flatMap (fun c => [{ kind := 2, port := c.inp : PlanChange }, { kind := 1, port := c.inp, port2 := c.out }])
      s.letEpochIn { n with stage := .queued, changes := chs, acceptMoves := true }

/-- ALLOW_RETIRE_MOVE (R139). -/
def execAllowRetireMove (inst : Fin 4) (s : State) : Host.Outcome State Fault Refusal := .next (allowMove inst.val s)

end Sys2Proof.Machine
end

