-- ==== Sys2Proof/Machine/PowerOps.lean ====
section
/-! DEFINITION. Power domains (R15-R17): their states, and what a cluster takes at power-up and leaves at power-off
(R22, R76, R86, R126, R364-R366, R384). -/

namespace Sys2Proof.Machine

/-- A drive island's domain goes off: of its registers DRV_HOC_CNT keeps its count, which only a device reset clears (R132,
R364). -/
def Island.off (i : Island) : Island := { hocCnt := i.hocCnt }

/-! ### Clusters -/

/-- What an unpowered cell keeps: its retirement, heater-only operation and STUCK_EPIS, which outlast a power cycle
(R76, R81, R82), the count of computed periods since its first enable (R58), and a heater's pad that its island has parked until firmware enables it (R110); its registers are lost (R365). -/
def offCell (c : Cell) : Cell :=
  { hParked := c.hParked,
    eng := { st := if c.eng.st = .retired then .retired else .off, honly := c.eng.honly, stuckEpis := c.eng.stuckEpis, count := c.eng.count } }

/-- A cluster's domain goes off: firmware's copies of the live targets and of `CLU_PTAP_CFG`, the SARs out of service and HOLD (NO_ENGINE), which only a
device reset ends, remain (R98, R126, R365, R384). -/
def offCluster (k : Cluster) : Cluster :=
  if k.pow = .off then k
  else { everOn := k.everOn, noEng := k.noEng, kept := k.cells.map Cell.live, sarOut := k.sarOut, iAcc := k.iAcc, ptapCopy := k.ptapCopy,
         cells := k.cells.map offCell }

/-- The target state of a role at the first enable (R22). -/
def State.roleTarget (s : State) (n : Nat) : Target :=
  let e := s.entry n
  if e.role = 2 then { state := if s.idleBlock e.inst then .cross else .bar }
  else if e.role = 3 then { state := .split, ratio := 0x8000 }
  else {}

/-- The pad modes and ranges of a class (R45, R366). -/
def classPads (c : ClassRec) : PadCfg :=
  { fVolt := c.fMode = 1, fRange := c.fRange, hCurr := c.hMode = 1, hRange := c.hRange, tia := c.tiaRange }

/-- A cell at power-up (R35, R37, R86, R114, R366, R384). -/
def State.upCell (s : State) (n : Nat) (first : Bool) (kept : Target) (old : Cell) : Cell :=
  let e := s.entry n
  let used := decide (e.role ≠ 0)
  let ret := used && (s.retiredCell n || decide (old.eng.st = .retired))
  let p := s.sys.pilots.getD n (0, false, false)
  { live := if used then (if first then s.roleTarget n else kept) else {},
    eng := { st := if ret then .retired else .off, honly := used && (s.honlyCell n || old.eng.honly),
             stuckEpis := old.eng.stuckEpis, count := if first then 0 else old.eng.count },
    hParked := old.hParked, tone := p.1, quad := p.2.1, clash := p.2.2, cfg := if used then classPads (s.cls n) else {}, apply := used && !ret,
    rH := match s.atlasOf n with | none => 0 | some a => a.rH }

/-- No engine can serve the cluster: its cells hold (R98). -/
def noEngine (c : Cell) : Cell :=
  if c.eng.st = .retired ∨ c.eng.st = .off ∧ c.apply = false then c
  else { c with eng := { c.eng with st := .hold, prev := c.eng.st, cause := .noEngine } }

/-- A SAR after its calibration at power-up: the codes it recorded for the three references (R126). One that the command leaves out
records the nominal codes. -/
def Sar.calibrate (codes : List Nat) : Sar := { refs := [codes.getD 0 0, codes.getD 1 2048, codes.getD 2 3840] }

/-- A cluster's domain is up: the SARs calibrated, registers at their reset values, live targets, retirement list, pilots and pad settings; a
failed engine's place is taken by its spare where the row's spare works and is free, and a cluster without an engine stays so
(R86, R98, R126, R364, R366, R384). At a later power-up too, after a ramp or a shutdown that stopped the substitution, the spare is taken
by the failmap (DESIGN CHOICE, log 156). `CLU_PTAP_CFG` takes what firmware last wrote there (DEDUCED, log 169). -/
def State.cluUp (c : Nat) (sarCal : List (List Nat)) (s : State) : State :=
  let k := s.clu c
  let first := !k.everOn
  let r := c / 16
  let sp := s.spare r
  let listed := first && s.sys.retire.any (fun q => q.crcOk && q.kind = 3 && q.unit = c)
  let bad := listed || sp.failmap.getD (c % 16) false
  let serves := decide (sp.st = .active) && decide (sp.cluster = c)
  let take := bad && !k.noEng && decide (sp.st = .off) && !sp.spareFailed
  let cells := mapIx (fun i q => s.upCell (32 * c + i) first (k.kept.getD i {}) q) 0 k.cells
  let src : EngSource := if k.noEng then .none else if bad then (if serves || take then .spare else .none) else .native
  let cells := if src = .none then cells.map noEngine else cells
  let s := s.modClu c (fun k => { pow := .on, everOn := true, sarOut := k.sarOut, cells := cells, source := src, failed := bad,
                                     noEng := decide (src = .none), iAcc := k.iAcc, ptapCfg := k.ptapCopy, ptapCopy := k.ptapCopy,
                                     sars := (List.range 12).map (fun i => Sar.calibrate (sarCal.getD i [])) })
  let s := if bad then
      s.modSpare r (fun sp => if take then { sp with st := .active, cluster := c, failmap := setAt true (c % 16) sp.failmap }
                              else { sp with failmap := setAt true (c % 16) sp.failmap })
    else s
  s.cluChanged c

/-- A cluster may be powered: it holds a cell of an instance or a bound tap (R24). -/
def State.mayPower (s : State) (c : Nat) : Bool := s.usedCluster c

/-- The next enable of every cluster is a first one (R384). -/
def State.forgetEnables (s : State) : State := { s with clusters := s.clusters.map (fun k => { k with everOn := false, kept := [] }) }

/-! ### Domains -/

/-- Power of a spare engine's domain, which the substitution sequence switches, and outside it firmware's request (R16, R96,
R105). -/
def sprPow (p : Spare) : DPow :=
  match p.st with
  | .off => p.pow
  | .powering => if p.pow = .on then .on else .rising
  | .loading | .selftest | .active | .failed => .on

/-- Power of a switchable domain (R15). -/
def State.domPow (s : State) : Domain → DPow
  | .cluster c => (s.clu c.val).pow
  | .spare r => sprPow (s.spare r.val)
  | .island r => (s.island r.val).pow
  | .core i => s.power.cores.getD i.val .off
  | .sram b => s.power.sram.getD b.val .off
  | .net p => if p.val = 0 then s.net.a.pow else s.net.b.pow
  | .pcie h => s.power.pcie.getD h.val .off
  | .ddr c => s.power.ddr.getD c.val .off
  | .hkc => s.power.hkc
  | .recorder => s.power.recorder
  | .dma => s.power.dma
  | .solver => s.power.solver
  | .periph => s.power.periph
  | .braid => s.power.braid

/-- Any cluster of a row is powered, or rising (R16). -/
def State.rowBusy (s : State) (r : Nat) : Bool :=
  (List.range 16).any (fun i => decide ((s.clu (16 * r + i)).pow ≠ .off))

/-- Domains that a domain requires powered are on (R16), and the clusters of its instances' taps can be powered with a cluster (R24).
DESIGN CHOICE (log 135): the table's 'Peripheral bus (NVM), braid' is required of the network and PCIe domains both, the braid of the
peripheral bus, in whose domain the NVM is; the standby network domain is off in normal service, so only the active path's may be
requested. -/
def State.domNeeds (s : State) : Domain → Bool
  | .cluster c => decide ((s.island (c.val / 16)).pow = .on) && decide (s.power.braid = .on) && s.mayPower c.val && s.tapsReady c.val
  | .spare r => decide ((s.island r.val).pow = .on)
  | .island _ | .recorder | .dma | .solver | .ddr _ | .periph => decide (s.power.braid = .on)
  | .net p => decide (s.power.braid = .on) && decide (s.power.periph = .on) && decide (s.net.active = decide (p.val = 1))
  | .pcie _ => decide (s.power.braid = .on) && decide (s.power.periph = .on)
  | .core _ | .sram _ | .hkc | .braid => true

end Sys2Proof.Machine
end

