-- ==== Sys2Proof/Machine/ThmOps.lean ====
section
/-! DEFINITION. What the thermal sequencer's conditions act on: quadrants and the scopes of the throttle (R283, R291). -/

namespace Sys2Proof.Machine

/-- Quadrant of a die sensor (R283). -/
def quadrant (i : Nat) : Nat :=
  if i < 256 then 2 * (if 128 ≤ i then 1 else 0) + (if 8 ≤ i % 16 then 1 else 0)
  else if i < 272 then 2 * (if 264 ≤ i then 1 else 0) + (i - 256) % 2
  else (i - 272) / 4

/-- A die sensor's throttle condition; a broken sensor counts as above its level (R286). -/
def Thm.dieThr (m : Thm) (i : Nat) : Bool := match m.dies[i]? with | none => false | some d => d.thr.on || d.broken

/-- A die sensor's warning condition (R286). -/
def Thm.dieWarn (m : Thm) (i : Nat) : Bool := match m.dies[i]? with | none => false | some d => d.warn.on || d.broken

/-- An anchor's throttle condition. -/
def Thm.ancThr (m : Thm) (j : Nat) : Bool := match m.privs[j]? with | none => false | some p => p.thr.on

/-- A cluster skips periods (R291). -/
def Thm.skips (m : Thm) (c : Nat) : Bool :=
  m.dieThr c || m.dieThr (256 + c / 16) || (List.range 4).any (fun k => m.dieThr (272 + 4 * quadrant c + k))

/-- A cluster is in derate scope (R291). -/
def Thm.derates (m : Thm) (c : Nat) : Bool := m.dieThr c || m.ancThr (c / 16)

/-- Any throttle condition holds (R291, R294, R295). -/
def Thm.anyThr (m : Thm) : Bool := (List.range 288).any m.dieThr || (List.range 16).any m.ancThr

end Sys2Proof.Machine
end

