-- ==== Sys2Proof/Machine/LoopOps.lean ====
section
/-! DEFINITION. Operations of a cluster's boundaries and periods: what a boundary reads, staging, the outcome of the
period that ended, hand-overs, failing engines and substitution (R11, R50-R52, R85-R105, R154, R292). -/

namespace Sys2Proof.Machine

/-! ### What a boundary and a period read -/

/-- What the map, the class and the atlas say of a cell. -/
def State.cellEnv (s : State) (n : Nat) : CellEnv :=
  let e := s.entry n
  { role := e.role, swap := bit e.flags 0, cls := s.cls n, atl := (s.atlasOf n).getD {}, circuit := s.circuitThrough n,
    retired := s.retiredCell n }

/-- T_ref of the atlas in use (R48, R329). -/
def State.tRef (s : State) : Int := match s.sys.atlas with | none => 0 | some a => a.tRef

/-- D_ref and β per range of a port-end tap; 64 codes of pedestal where the atlas gives none. -/
def State.ptapCal (s : State) (tap : Nat) : List (Nat × Int) :=
  match s.sys.atlas with
  | none => []
  | some a => match a.ptaps.find? (fun q => q.1 = tap) with | none => [] | some q => q.2

/-- What a boundary of a cluster reads from the rest of the device. -/
def State.clEnv (s : State) (c : Nat) (d : Int) : ClEnv :=
  { d := d, pNs := s.pNs c, tRef := s.tRef, t := (s.thm.cluT.getD c (0, false)).1, v := (s.island (c / 16)).vhtr,
    kappa := (s.island (c / 16)).kappa, calibrate := decide (s.sys.mode = .calibrate),
    cells := (List.range 32).map (fun k => s.cellEnv (32 * c + k)),
    ptapCal := (List.range 4).map (fun t => s.ptapCal (4 * c + t)) }

/-- What the period of a cell reads (R50): what the boundary latched, and the class and atlas values, which change only while no
engine computes. -/
def State.ctx (s : State) (n : Nat) : Ctx :=
  let k := s.clu (n / 32)
  let c := s.cell n
  { cls := s.cls n, atl := (s.atlasOf n).getD {}, tRef := s.tRef, p := (s.pNs (n / 32) : Rat) / 1000, t := k.latT, v := k.latV,
    der := k.latDer, rH := c.latRH, bIx := k.bIx, lost := k.lost, circuit := c.latCircuit, pdown := k.latDown,
    late := c.lateTake, ramp0 := c.latRamp0, hParked := c.latPark }

/-- The cluster's engine has cells to compute (R24). -/
def State.hasCells (s : State) (c : Nat) : Bool := (List.range 32).any (fun k => decide ((s.entry (32 * c + k)).role ≠ 0))

/-- The next boundary of a cluster (R10): the latest grid instant reached, if a period has passed, else the next one. -/
def State.nextBoundary (s : State) (c : Nat) : Int :=
  let p : Int := s.pNs c
  let cur := s.now - (s.time.sph : Int) % p
  match (s.clu c).lastB with
  | none => if cur = s.now then cur else cur + p
  | some b => if b + p ≤ cur then cur else cur + ceilDiv (b + p - cur) p * p

/-! ### Reports of health that firmware keeps -/

/-- Reasons that make a cell heater-only: F response and F pad fault (R86). The others retire it. -/
def honlyReason (r : Nat) : Bool := decide (r = 3) || decide (r = 4)

/-- The REASON that HEALTH and the retirement list give for a cell (R86, R217): the first of its heater-only reasons, and the first
of its retirement reasons, stands. -/
def State.setReason (n r : Nat) (s : State) : State :=
  if s.sys.reasons.any (fun q => decide (q.1 = n) && decide (honlyReason q.2 = honlyReason r)) then s
  else { s with sys := { s.sys with reasons := s.sys.reasons ++ [(n, r)] } }

/-- The reason recorded for a cell's heater-only operation, or for its retirement; 0 where the map or the atlas gives it (R217). -/
def State.reasonFor (s : State) (honly : Bool) (n : Nat) : Nat :=
  match s.sys.reasons.find? (fun q => decide (q.1 = n) && decide (honlyReason q.2 = honly)) with
  | some q => q.2
  | none => 0

/-- Cells of a cluster that became PEND_RETIRE are unavailable from now on (R85, R139). -/
def State.noteRetiring (c : Nat) (old : Cluster) (s : State) : State :=
  (List.range 32).foldl (fun s k =>
    if (s.cell (32 * c + k)).engNow.pendRetire && !(old.cell k).engNow.pendRetire then
      (s.setReason (32 * c + k) 8).cellsChanged (32 * c + k)
    else if (s.cell (32 * c + k)).engNow.honly && !(old.cell k).engNow.honly then
      (s.setReason (32 * c + k) 3).cellsChanged (32 * c + k)
    else s) s

/-! ### Events of loops (R101) -/

/-- A cell's entry to DARK, STUCK or LIMIT: the cluster raises its event at the boundary from which the new state is in force
(R75, R101, R224). -/
def State.raiseLoop (ev : LoopEv) (c : Nat) (s : State) : State :=
  match ev with
  | .none => s
  | .dark => s.modClu c (fun k => { k with owedDark := true })
  | .stuck => s.modClu c (fun k => { k with owedStuck := true })
  | .limit => s.modClu c (fun k => { k with owedLimit := true })

/-- LOOP_DARK, LOOP_STUCK and LOOP_LIMIT at a boundary of cluster `c`, each at most once; `old` is the cluster before it
(R101, R224). -/
def State.loopEvents (c : Nat) (old : Cluster) (s : State) : State :=
  let s := if old.owedDark then s.raiseClu 0 c else s
  let s := if old.owedStuck then s.raiseClu 1 c else s
  if old.owedLimit then s.raiseClu 2 c else s

/-! ### Boundaries -/

/-- How the period that ends at a boundary came out. -/
inductive Finish where
  /-- nothing was due: no period, no engine, no cells -/
  | idle
  /-- completed: its outputs take effect (R11) -/
  | done
  /-- skipped by the throttle (R89) -/
  | skip
  /-- missed or discarded (R88, R93) -/
  | miss
  deriving DecidableEq, Repr

/-- The outcome of the period that ends now (R88, R89, R93). -/
def Cluster.finish (k : Cluster) (cells : Bool) : Finish :=
  if k.lastB = none ∨ cells = false then .idle
  else if k.skipping then .skip
  else if k.discarded then .miss
  else if k.source = .none then .idle
  else if k.done then .done
  else .miss

/-- One step of the drive island's ramp of a held code (R99, log 70): full scale in 1.9 ms. -/
def islandStep (pNs : Nat) (c : Cell) : Cell :=
  { c with uh := c.uh - (65536 * pNs / 1900000 + 1), uf := 0, pilotE := 0, fParked := true }

/-- The codes in force from the boundary on, and the total p_win in force until it (R11, R50, R62, R88, R89, R99). -/
def Cluster.outputs (k : Cluster) (f : Finish) (pNs : Nat) : Cluster :=
  let k := { k with pwinAcc := k.pwinAcc + k.pwinSum, pwinN := k.pwinN + 1 }
  let hold (c : Cell) : Cell := { c with out := none, hOff := false, lateTake := c.lateTake || (f = .miss && k.commitPeriod && c.staged.isSome) }
  let cells := match f with
    | .done => k.cells.map (fun c => { (applyOut c) with lateTake := false })
    | .idle | .skip | .miss => k.cells.map hold
  let cells := if k.islandRamp then cells.map (islandStep pNs) else cells
  let cells := if k.fast then cells.map (fun c => { c with uf := 0, pilotE := 0 }) else cells
  match f with
  | .done => { k with cells := cells, lost := 0, consecMiss := 0, demand := k.demandOut, bscale := k.bscaleOut,
                      pwinSum := sumR (cells.map (fun c => if computed c.eng && !c.hParked then c.eng.pWin else 0)) }
  | .skip => { k with cells := cells, lost := k.lost + 1, skipCnt := sat32 k.skipCnt, consecMiss := sat8 k.consecMiss, slack := 0,
                      slacks := (0 :: k.slacks).take 1024 }
  | .miss => { k with cells := cells, lost := k.lost + 1, missCnt := sat32 k.missCnt, consecMiss := sat8 k.consecMiss, slack := 0,
                      slacks := (0 :: k.slacks).take 1024 }
  | .idle => { k with cells := cells }

/-- Targets of sealed epochs that a boundary of a cluster presents: those that commit by its next boundary (R51). -/
def State.presented (s : State) (d : Int) (pNs : Nat) : List (CellTgt × Nat) :=
  (s.fab.held.filter (fun e => e.st = .sealedE && (match e.b with | none => false | some b => decide (s.time.xOf b ≤ d + pNs)))).flatMap
    (fun e => e.staged.map (fun t => (t, e.num)))

/-- Present staged targets to the cells of a cluster; OFF and RETIRED cells are presented none (R51, R77). -/
def Cluster.stage (c : Nat) (ts : List (CellTgt × Nat)) (k : Cluster) : Cluster :=
  let ts := if k.pdown then [] else ts
  { k with commitPeriod := ts.any (fun t => t.1.cell / 32 = c),
           cells := mapIx (fun i q =>
             { q with staged := if q.eng.st = .off ∨ q.eng.st = .retired then none
                                else (ts.find? (fun t => t.1.cell = 32 * c + i)).map
                                  (fun t => { state := t.1.st, ratio := t.1.ratio, epoch := t.2 }) }) 0 k.cells }

/-- The throttle's choice for the coming period (R52, R292). -/
def Cluster.throttle (scope : Bool) (n : Nat) (k : Cluster) : Cluster :=
  let due := scope && (decide (k.bIx % n = n - 1) || k.skipOwed)
  { k with skipping := due && !k.commitPeriod, skipOwed := due && k.commitPeriod }

/-- Everything a cluster latches at a boundary for the period that begins (R50, R70, R116). -/
def Cluster.latchAll (env : ClEnv) (k : Cluster) : Cluster :=
  { k with cells := mapIx (fun i q => latchCell env (env.cells.getD i {}) k.pdown q) 0 k.cells,
           latT := env.t, latV := env.v, latAllow := k.allow, latDer := k.derate, latDown := k.pdown }

/-- F pads of a cluster that powers down park with their heater at zero (R100). -/
def Cluster.parkCold (k : Cluster) : Cluster :=
  if k.pdown then { k with cells := k.cells.map (fun c => if c.pmeas = 0 then { c with fParked := true, uf := 0, pilotE := 0 } else c) } else k

/-- A cell goes OFF (R76, R100). -/
def Cell.goOff (c : Cell) : Cell :=
  if c.eng.st = .retired then c else { (parkPads c) with eng := goto .off c.eng, out := none, uf := 0, uh := 0 }

/-- The power-down at a boundary: with every heater at zero all cells are OFF, and one period later the domain is off
(R100). -/
def Cluster.downStep (k : Cluster) : Cluster :=
  if k.pdown = false then k
  else if k.pdownEnd then offCluster k
  else if k.cells.all (fun c => decide (c.pmeas = 0)) then { k with pdownEnd := true, cells := k.cells.map Cell.goOff }
  else k

/-! ### Hand-overs (R154) -/

/-- How a cell's hand-over stands at a boundary. -/
inductive HandEnd where
  | open_
  /-- ended, with its exception kinds and durations -/
  | ends (excs : List (Nat × Nat))
  /-- HITCH of a heater-only cell has ended -/
  | cooling
  deriving DecidableEq, Repr

/-- The end of a cell's hand-over (R154), listed as LIMIT beside its ending where the clamp was ever active on the way to the target
(R67). `us` is the time since B in µs, `now` the boundary in TAI ns. -/
def handEnd (pNs tauH : Nat) (us : Nat) (now : Int) (c : Cell) : HandEnd :=
  let e := c.eng
  let same := sameTarget e.taken c.live
  let late : List (Nat × Nat) := if c.hoDelayed || e.delayed then [(2, 0)] else []
  let lim : List (Nat × Nat) := if same && decide (0 < e.limitN) then [(1, e.limitN * pNs / 1000)] else []
  match e.st with
  | .off | .retired => .ends [(3, 0)]
  | .hold =>
    match e.cause with
    | .noEngine => .ends (lim ++ [(3, 0)])
    | .sparing => .open_
    | .fault => if same && decide (e.pSet = e.pGoal) then .ends (lim ++ (5, 0) :: late) else .open_
  | .dark | .stuck => if same && decide (e.pSet = e.pGoal) then .ends (lim ++ (5, 0) :: late) else .open_
  | .hitch | .limit => .open_
  | .track =>
    if same = false ∨ e.fSat = true then .open_
    else if e.honly then
      match c.hoTrackAt with
      | none => .cooling
      | some t => if t + 500 * (tauH : Int) ≤ now then .ends (lim ++ (4, us) :: late) else .open_
    else .ends (lim ++ late)

/-- One cell's hand-over at a boundary. -/
def State.handStep (d : Int) (n : Nat) (s : State) : State :=
  let c := s.cell n
  match c.handover with
  | none => s
  | some x =>
    let now := s.time.taiOf d
    let us := match s.fab.byExt x with
      | none => 0
      | some e => ((now - e.openAt.getD now) / 1000).toNat
    match handEnd (s.pNs (n / 32)) ((s.atlasOf n).getD {}).tauH us now c with
    | .open_ => if c.eng.st = .hold ∧ c.eng.cause = .sparing then s.modCell n (fun c => { c with hoDelayed := true }) else s
    | .cooling => s.modCell n (fun c => { c with hoTrackAt := some now })
    | .ends ks => (ks.foldl (fun s q => s.except x { cell := n, kind := q.1, dur := q.2 }) s).endHand n

/-- The hand-overs of a cluster's cells at a boundary, and the closures they bring (R154, R155). -/
def State.handAll (d : Int) (c : Nat) (s : State) : State :=
  ((List.range 32).foldl (fun s k => s.handStep d (32 * c + k)) s).closeDone (s.time.taiOf d)

/-! ### Failing engines and substitution (R93-R98) -/

/-- A driven cell holds its last code (R74, R76). -/
def holdCell (cause : HoldCause) (c : Cell) : Cell :=
  if c.eng.st = .off ∨ c.eng.st = .retired then { c with out := none }
  else { c with out := none, eng := { (goto .hold c.eng) with cause := cause, resp := none, err := none } }

/-- The cells of a cluster hold with a cause; without an engine they do so until a device reset (R98). -/
def Cluster.holdAll (cause : HoldCause) (k : Cluster) : Cluster :=
  { k with cells := k.cells.map (holdCell cause), source := .none, noEng := k.noEng || decide (cause = .noEngine),
           owedDark := false, owedStuck := false, owedLimit := false }

/-- The engine that serves a cluster is failed at boundary D (R76, R93, R94, R96, R98, R100): the row's spare is called
where it is free; a failed spare, or none free, leaves the cells with no engine; in a power-down ramp the drive island
goes on alone. -/
def State.failEngine (c : Nat) (s : State) : State :=
  let k := s.clu c
  let r := c / 16
  let d : Int := match k.lastB with | none => s.now | some b => b + s.pNs c
  let sp := s.spare r
  if k.source = .spare then
    (s.modClu c (fun k => { (k.holdAll .noEngine) with islandRamp := k.pdown })).modSpare r
      (fun q => { q with st := .failed, spareFailed := true, switched := false })
  else
    let s := s.modSpare r (fun q => { q with failmap := setAt true (c % 16) q.failmap })
    let s := s.modClu c (fun k => { k with failed := true })
    if k.pdown then s.modClu c (fun k => { (k.holdAll .sparing) with islandRamp := true })
    else if sp.st = .off ∧ sp.spareFailed = false then
      (s.modClu c (Cluster.holdAll .sparing)).modSpare r
        (fun q => { q with st := .powering, cluster := c, failAt := d, switched := false, firstAt := none })
    else s.modClu c (Cluster.holdAll .noEngine)

/-- What the spare starts a cell from (R95, R96): the checkpoint's bias, ladder and target, the measured power, an empty
window. A cell with PEND_RETIRE stays in HOLD (log 71). With no checkpoint the cell starts as at its first enable
(log 71). DESIGN CHOICE (log 133): state of the engine that the checkpoint does not hold (the H path's sums and φ̄, its period
count, the dither's halves) goes on from where the failed engine left it. -/
def spareStart (bIx : Nat) (ck : Option Checkpoint) (pmeas : Nat) (e : Eng) : Eng :=
  let q := ck.getD {}
  let e := { e with phiI := q.phiI, hTrim := q.hTrim, j := q.j, thNeg := q.thNeg, taken := q.taken, takeB := bIx + 1,
                    pSet := pmeas, pEff := pmeas, pWin := pmeas, win := [], phiP := 0, resp := none, darkRun := 0, litRun := 0,
                    lastMb := none, lastMx := none, sameMb := 0, sameMx := 0 }
  if e.pendRetire then { e with cause := .fault } else goto .hitch e

/-- The engine state from which a period starts: OFF cells of a powered cluster start toward their target in the period whose
codes are the first in the new configuration (R76, R114), cells in HOLD (SPARING) from the checkpoint (R96). -/
def startEng (role bIx : Nat) (spare : Bool) (ck : Option Checkpoint) (c : Cell) : Eng :=
  let e := c.eng
  if e.st = .off ∧ role ≠ 0 ∧ c.latStart = true then goto .hitch e
  else if e.st = .hold ∧ e.cause = .sparing ∧ spare = true then spareStart bIx ck c.pmeas e
  else e

/-- A substitution is in progress: the spare's first outputs are not yet in force (R96). -/
def Spare.busy (p : Spare) : Bool := decide (p.st = .powering) || decide (p.st = .loading) || decide (p.st = .selftest) || p.switched

/-- A substitution in progress is abandoned: its cluster has no engine, and the spare is off (R100, R298). -/
def State.stopSpare (r : Nat) (s : State) : State :=
  let p := s.spare r
  if p.busy then
    (s.modClu p.cluster (fun k => { k with source := .none, done := false, cells := k.cells.map (fun c => { c with out := none }) })).modSpare r
      (fun p => { p with st := .off, switched := false, firstAt := none })
  else s

/-- Every substitution in progress is abandoned (R298). -/
def State.stopSpares (s : State) : State := (List.range 16).foldl (fun s r => s.stopSpare r) s

/-- A power-down ramp begins (R99, R100). -/
def Cluster.beginDown (k : Cluster) : Cluster :=
  if k.pow ≠ .on ∨ k.pdown = true then k
  else if k.source = .none then
    { k with pdown := true, islandRamp := true, cells := k.cells.map (fun c => { c with uf := 0, pilotE := 0 }) }
  else { k with pdown := true }

/-- A cluster begins to power down; a substitution in progress for it goes no further (R100). -/
def State.beginDown (c : Nat) (s : State) : State :=
  let p := s.spare (c / 16)
  ((if p.busy && decide (p.cluster = c) then s.stopSpare (c / 16) else s).modClu c Cluster.beginDown).cluChanged c

/-- The spare's progress at a boundary: S begins its first period; with its first outputs in force the substitution ends
and ENGINE_SPARED is raised (R96). -/
def State.spareStep (c : Nat) (d : Int) (f : Finish) (s : State) : State :=
  let r := c / 16
  let sp := s.spare r
  if sp.switched = false ∨ sp.cluster ≠ c then s
  else match sp.firstAt with
    | none => (s.modSpare r (fun q => { q with firstAt := some d })).modClu c
        (fun k => { k with source := .spare, sinceRes := none, consecMiss := 0 })
    | some _ =>
      if f = .done then
        (s.modSpare r (fun q => { q with switched := false, lastUs := min 0xFFFFFFFF ((d - q.failAt) / 1000).toNat })).raiseClu 4 c
      else s

/-! ### The recorder's latches (R338) -/

/-- A boundary instant is one of the second's Skim instants (R340). -/
def skimInstant (f sph : Nat) : Bool :=
  if f = 0 then false
  else
    let k := sph * f / 1000000000
    decide (ceilDiv ((k : Int) * 1000000000) ((f : Int) * 4000) * 4000 = sph)

/-- The recorder asks for the records of a boundary (R338, R340, R341). -/
def State.recAsks (s : State) (c : Nat) (d : Int) : Bool :=
  s.rcd.on && (skimInstant s.rcd.f (s.stampAt d).sph || (s.rcd.capEn && s.rcd.capNow.any (fun n => n / 32 = c)))

/-- The record latch at a boundary (R338). -/
def State.recLatch (c : Nat) (d : Int) (s : State) : State :=
  if s.recAsks c d then
    let lost := (s.clu c).latch.isSome
    let es := (List.range 32).map (fun i => recEntry s (32 * c + i))
    let s := s.modClu c (fun k => { k with latch := some (d, es) })
    if lost then { s with rcd := { s.rcd with latchOvr := sat32 s.rcd.latchOvr } } else s
  else s

end Sys2Proof.Machine
end

