-- ==== Sys2Proof/Machine/LoopFam.lean ====
section
/-! DEFINITION. The commands of the loops: boundaries, periods, loop-state transitions, pads, spare engines, power-down,
retirement, drive islands and the heater budget (R10-R12, R50-R67, R72-R105, R110-R116, R123-R126). -/

namespace Sys2Proof.Machine

/-! ### Boundaries and periods -/

/-- A CURR-mode heater held at its compliance limit, VHTR − 0.4 V, sets H_COMPL (R108). -/
def heaterLimit (v : Nat) (c : Cell) : Cell :=
  if c.cfgNow.hCurr = true ∧ c.parked = false ∧ 0 < c.uh ∧
      ((v : Rat) - 400) ≤ (c.uh : Rat) / 65536 * (6 * (2 : Rat) ^ c.cfgNow.hRange) * ((c.rH : Rat) / 64) then
    { c with hCompl := true }
  else c

/-- The cluster at a boundary instant: capture and delivery, outputs, range changes, staging, throttle, latches, the
power-down (R10, R11, R50-R52, R88, R89, R100, R107, R114, R117, R292). DESIGN CHOICE (log 138): the sample captured at the boundary
d at which a break begins does not carry the break's over-range bit. -/
def Cluster.atBoundary (env : ClEnv) (c sph : Nat) (inputs : List RawInput) (sarCodes : List Nat) (used skips : Bool)
    (skipN : Nat) (ts : List (CellTgt × Nat)) (k0 : Cluster) : Cluster × Finish :=
  let k := frontBoundary env inputs sarCodes (k0.modTo env.d)
  let k := if k0.lastB = none then { k with cells := k.cells.map (fun q => { q with acc := pilotLoad sph q }) } else k
  let f := k.finish used
  let k := ({ k with cells := k.cells.map (rangeEnd env.d) } : Cluster).outputs f env.pNs
  let k := { k with cells := k.cells.map (fun q => heaterLimit env.v (rangeBegin env q)) }
  let k := (((k.stage c ts).throttle skips skipN).latchAll env).parkCold
  let k := { k with bIx := k.bIx + 1, lastB := some env.d, done := false, discarded := false, owedDark := false,
                    owedStuck := false, owedLimit := false }
  (k.downStep, f)

/-- Every pad of a cluster parks passively, its drive at zero (R106, R371). -/
def Cluster.parkAll (k : Cluster) : Cluster :=
  { k with cells := k.cells.map (fun c => { (parkPads c) with uf := 0, uh := 0, pmeas := 0 }) }

/-- The cell's heater code is zero, a parked pad included (R272). -/
def State.heaterZero (s : State) (n : Nat) : Bool :=
  let c := s.cell n
  c.parked || c.hParked || decide (c.uh = 0) || !s.cluOn (n / 32)

/-- The census watches the heater code of the place it measures: in the first quarter of slot 26 + 2h it settles, over the last
three quarters a code other than zero counts (R269, R272). -/
def State.cenWatch (c : Nat) (d : Int) (s : State) : State :=
  let h := s.hkc
  if h.roundRun = false ∨ h.slot < 26 ∨ 42 ≤ h.slot ∨ h.slot % 2 = 1 then s
  else match h.places[(h.slot - 26) / 2]? with
    | none => s
    | some p =>
      if p.cell / 32 ≠ c then s
      else
        let z := s.heaterZero p.cell && (h.cenZero || decide (d < h.slotAt + s.thm.roundMs * 5000))
        { s with hkc := { h with cenZero := z } }

/-- A sample boundary of a cluster (R11). -/
def boundary (c : Nat) (inputs : List RawInput) (sarCodes : List Nat) (s0 : State) : State :=
  if (s0.clu c).pow ≠ .on then s0
  else
    let d := s0.nextBoundary c
    match reach 4000000000 d s0 with
    | none => s0
    | some s =>
      let env := s.clEnv c d
      let r := (s.clu c).atBoundary env c (s.stampAt d).sph inputs sarCodes (s.hasCells c) (s.thm.skips c) s.thm.skipN
        (s.presented d env.pNs)
      let s := s.modClu c (fun _ => if s.sys.supplyOut then r.1.parkAll else r.1)
      let s := if r.2 = .miss then s.raiseClu 3 c else s
      let s := s.loopEvents c (s0.clu c)
      (((s.handAll d c).spareStep c d r.2).recLatch c d).cenWatch c d

/-- CLUSTER_BOUNDARY (R11). -/
def execClusterBoundary (c : Fin 256) (inputs : List RawInput) (sarCodes : List Nat) (s : State) :
    Host.Outcome State Fault Refusal := .next (boundary c.val inputs sarCodes s)

/-- The F pad check of a computed period (R113). -/
def padCheck (p : Option PadSense) (c : Cell) : Cell :=
  match p with
  | none => { c with padRun := 0 }
  | some p =>
    let on := !c.parked && !c.fParked
    let leak := on && c.cfgNow.fVolt && p.overCurrent && decide (65536 ≤ c.uf * 2 ^ c.cfgNow.fRange * 4)
    let opn := on && !c.cfgNow.fVolt && p.compliance && decide (0x0CCD ≤ c.uf)
    let bad := leak || opn
    { c with fLeak := c.fLeak || leak, fOpen := c.fOpen || opn, padRun := if bad then c.padRun + 1 else 0 }

/-- First pass of a period over a cluster's cells (R50). -/
def State.firstPass (s : State) (c : Nat) : List Pass1 :=
  let k := s.clu c
  mapIx (fun i q =>
    let n := 32 * c + i
    let e0 := startEng (s.entry n).role k.bIx (decide (k.source = .spare)) ((k.ckpt.getD [])[i]?) q
    pass1 (s.ctx n) q.seen (logicalSmp (bit (s.entry n).flags 0) q) q.pmeas (sineTable (pilotNextAcc (s.pNs c) q / 256)) e0) 0 k.cells

/-- The second pass and the transitions of a period (R59-R61, R75). -/
def State.secondPass (s : State) (c : Nat) (sc : Rat) (ps : List Pass1) : List (Eng × LoopEv) :=
  mapIx (fun i p =>
    let n := 32 * c + i
    finish (s.ctx n) (logicalSmp (bit (s.entry n).flags 0) (s.cell n)) (pass2 (s.ctx n) sc p)) 0 ps

/-- Σ m_k over the cells whose heaters are driven (R59, R70). -/
def demandOf (ps : List Pass1) : Rat := sumR ((ps.filter (fun p => p.driven && p.counted)).map Pass1.m)

/-- s_c (R59). -/
def scaleOf (allow : Nat) (total : Rat) : Rat := if total ≤ 0 then 1 else min 1 ((allow : Rat) / total)

/-- A completed period: results wait for the boundary at which they take effect (R50, R75, R90, R93, R95, R113). -/
def completePeriod (c corrected slack : Nat) (pads : List PadSense) (s : State) : State :=
  let old := s.clu c
  let ps := s.firstPass c
  let total := demandOf ps
  let sc := scaleOf old.latAllow total
  let outs := s.secondPass c sc ps
  let cells := mapIx (fun i q => padCheck (pads.find? (fun p => p.cell.val = i)) { q with out := (outs[i]?).map (·.1) }) 0 old.cells
  let s := s.modClu c (fun k =>
    { k with cells := cells, demandOut := total, bscaleOut := sc, done := true, slack := min 0xFFFF slack,
             slacks := (min 0xFFFF slack :: k.slacks).take 1024, periods := k.periods + 1,
             ckptDue := decide ((k.periods + 1) % 64 = 0), eccCnt := satAdd 0xFFFF k.eccCnt corrected,
             sinceRes := k.sinceRes.map (· + 1) })
  (outs.foldl (fun s q => s.raiseLoop q.2 c) s).noteRetiring c old

/-- A residue or parity mismatch: the period is discarded as a miss; a second one within 1,024 computed periods fails the
engine (R93). -/
def residueFault (c : Nat) (s : State) : State :=
  let again := match (s.clu c).sinceRes with | none => false | some n => decide (n < 1024)
  let s := s.modClu c (fun k => { k with residue := true, discarded := true, sinceRes := some 0 })
  if again then s.failEngine c else s

/-- The engine ends its work of a period (R50, R93). -/
def loopPeriod (c : Nat) (chk : EngineCheck) (slack : Nat) (pads : List PadSense) (s : State) : State :=
  let k := s.clu c
  if k.pow ≠ .on ∨ k.lastB = none ∨ k.done = true ∨ k.discarded = true ∨ k.skipping = true ∨ k.source = .none
      ∨ s.hasCells c = false then s
  else match chk with
    | .clean => completePeriod c 0 slack pads s
    | .corrected n => completePeriod c n slack pads s
    | .residue => residueFault c s
    | .eccUe => (s.modClu c (fun k => { k with eccUe := true })).failEngine c

/-- LOOP_PERIOD_DONE (R50). -/
def execLoopPeriodDone (c : Fin 256) (chk : EngineCheck) (slack : Nat) (pads : List PadSense) (s : State) :
    Host.Outcome State Fault Refusal := .next (loopPeriod c.val chk slack pads s)

/-! ### The H path and the heater-only loop -/

/-- The cell is under a running engine (R74). -/
def State.engineRuns (s : State) (n : Nat) : Bool :=
  decide ((s.clu (n / 32)).pow = .on) && decide ((s.clu (n / 32)).source ≠ .none) && computed (s.cell n).engNow

/-- H_PATH_UPDATE (R58). -/
def execHPathUpdate (n : Fin 8192) (s : State) : Host.Outcome State Fault Refusal :=
  .next (if s.engineRuns n.val then s.modCell n.val (Cell.modNow (hUpdate (s.ctx n.val))) else s)

/-- HONLY_DITHER_FLIP (R83). -/
def execHonlyDitherFlip (n : Fin 8192) (s : State) : Host.Outcome State Fault Refusal :=
  .next (if s.engineRuns n.val then s.modCell n.val (Cell.modNow (ditherFlip (s.ctx n.val))) else s)

/-! ### Loop states -/

/-- Tests run on the cell: an engine computes it, in a period that no power-down ramp covers (R50, R76, R100). -/
def State.tests (s : State) (n : Nat) : Bool := s.engineRuns n && !(s.clu (n / 32)).latDown

/-- The cell's target is PARK: the dark and frozen tests do not apply (R76). -/
def parked (e : Eng) : Bool := match e.taken with | some t => decide (t.state = .park) | none => false

/-- Entry to DARK (R73, R78). -/
def enterDark (e : Eng) : Eng :=
  { (goto .dark e) with win := [], phiP := 0, darkRun := 0, litRun := 0, darkEntries := sat8 e.darkEntries, fault := e.fault ||| 0x02 }

/-- The dark condition holds for eight samples; frozen feedback comes first (R75, R78). -/
def darkDetect (n : Nat) (s : State) : State :=
  let e := (s.cell n).engNow
  if s.tests n && darkCond e && !parked e && !frozenCode (s.cls n) e then
    (s.modCell n (Cell.modNow enterDark)).raiseLoop .dark (n / 32)
  else s

/-- DARK_DETECT (R78). -/
def execDarkDetect (n : Fin 8192) (s : State) : Host.Outcome State Fault Refusal := .next (darkDetect n.val s)

/-- The lit condition holds for four samples (R76, R78). -/
def litDetect (n : Nat) (s : State) : State :=
  let e := (s.cell n).engNow
  if s.tests n && decide (e.st = .dark) && decide (4 ≤ e.litRun) && !frozenCode (s.cls n) e then s.modCell n (Cell.modNow resume)
  else s

/-- LIT_DETECT (R78). -/
def execLitDetect (n : Fin 8192) (s : State) : Host.Outcome State Fault Refusal := .next (litDetect n.val s)

/-- A tap repeats its raw value for STUCK_K samples (R79, R81). -/
def frozenRun (n : Nat) (s : State) : State :=
  let e := (s.cell n).engNow
  if s.tests n && frozenCode (s.cls n) e then
    let old := s.clu (n / 32)
    ((s.modCell n (Cell.modNow (fun e => enterStuck (s.cls n) { e with fault := e.fault ||| 0x04 }))).raiseLoop .stuck (n / 32)).noteRetiring
      (n / 32) old
  else s

/-- FROZEN_CODE_RUN (R79). -/
def execFrozenCodeRun (n : Fin 8192) (s : State) : Host.Outcome State Fault Refusal := .next (frozenRun n.val s)

/-- The retest found both taps alive (R76). -/
def retestOk (e : Eng) : Bool := !e.rerun && e.chgMb && e.chgMx

/-- The end of the retest (R76, R81): the state before STUCK, whose entry counts like any other, or HOLD. -/
def stuckEnd (e : Eng) : Eng :=
  if retestOk e then
    match e.beforeStuck with
    | .dark => enterDark e
    | .limit => { (goto .limit e) with win := [], limitEntries := sat8 e.limitEntries, fault := e.fault ||| 0x01 }
    | .off | .hitch | .track | .hold | .stuck | .retired => { (goto e.beforeStuck e) with win := [] }
  else { (goto .hold e) with cause := .fault, win := [], recRun := 0 }

/-- What the end of the retest raises (R101). -/
def stuckEvent (e : Eng) : LoopEv :=
  if retestOk e then
    match e.beforeStuck with
    | .dark => .dark
    | .limit => .limit
    | .off | .hitch | .track | .hold | .stuck | .retired => .none
  else .none

/-- The retest of STUCK_K samples is complete (R76). -/
def retestEnds (n : Nat) (s : State) : State :=
  let e := (s.cell n).engNow
  if s.tests n && decide (e.st = .stuck) && decide ((s.cls n).stuckK ≤ e.retest) then
    (s.modCell n (Cell.modNow stuckEnd)).raiseLoop (stuckEvent e) (n / 32)
  else s

/-- STUCK_RETEST_END (R76). -/
def execStuckRetestEnd (n : Fin 8192) (s : State) : Host.Outcome State Fault Refusal := .next (retestEnds n.val s)

/-- The cell stands in HOLD with cause FAULT and no retirement pending. -/
def heldFault (e : Eng) : Bool := decide (e.st = .hold) && decide (e.cause = .fault) && !e.pendRetire

/-- HOLD_RECOVERY (R76, R81). -/
def execHoldRecovery (n : Fin 8192) (s : State) : Host.Outcome State Fault Refusal :=
  .next (if s.tests n.val && heldFault (s.cell n.val).engNow && decide (1024 ≤ (s.cell n.val).engNow.recRun)
         then s.modCell n.val (Cell.modNow (fun e => { (resume e) with stuckEpis := sat8 e.stuckEpis, recRun := 0 })) else s)

/-- The time a cell has been in its loop state, ns: its computed periods there, RUN, by P (R103, log 130). -/
def State.runNs (s : State) (n : Nat) : Nat := (s.cell n).engNow.run * s.pNs (n / 32)

/-- The fault has persisted for RETIRE_N ms: PEND_RETIRE (R76, R85, R102). -/
def pendTimeout (n : Nat) (s : State) : State :=
  if s.tests n && heldFault (s.cell n).engNow && decide ((s.cls n).retireN ≠ 0) && decide ((s.cls n).retireN * 1000000 ≤ s.runNs n) then
    ((s.modCell n (Cell.modEng (fun e => { e with pendRetire := true }))).setReason n 1).cellsChanged n
  else s

/-- PEND_RETIRE_TIMEOUT (R76). -/
def execPendRetireTimeout (n : Fin 8192) (s : State) : Host.Outcome State Fault Refusal := .next (pendTimeout n.val s)

/-! ### Engines -/

/-- Median of a list of numbers; none of an empty one. -/
def median (l : List Nat) : Option Rat :=
  let q := sortNat l
  let n := q.length
  if n = 0 then none
  else if n % 2 = 1 then some (q.getD (n / 2) 0 : Rat)
  else some (((q.getD (n / 2 - 1) 0 + q.getD (n / 2) 0 : Nat) : Rat) / 2)

/-- The minimum of `CLU_SLACK` (R90). -/
def Cluster.minSlack (k : Cluster) : Nat := match k.slacks with | [] => 0 | x :: xs => xs.foldl min x

/-- The median slack minimum of the other powered engines of the row is at least 10 % of P (R94). -/
def State.rowHasSlack (s : State) (c : Nat) : Bool :=
  let others := ((List.range 16).map (fun i => 16 * (c / 16) + i)).filter
    (fun o => decide (o ≠ c) && s.cluOn o && decide ((s.clu o).source ≠ .none))
  match median (others.map (fun o => (s.clu o).minSlack)) with
  | none => false
  | some m => decide ((s.pNs c : Rat) / 10 ≤ m * 4)

/-- Eight consecutive misses while the row has slack (R94). -/
def livenessFail (c : Nat) (s : State) : State :=
  let k := s.clu c
  if k.pow = .on ∧ k.source ≠ .none ∧ 8 ≤ k.consecMiss ∧ s.rowHasSlack c = true then
    (s.modClu c (fun k => { k with liveness := true })).failEngine c
  else s

/-- ENGINE_LIVENESS_FAIL (R94). -/
def execEngineLivenessFail (c : Fin 256) (s : State) : Host.Outcome State Fault Refusal := .next (livenessFail c.val s)

/-- What a checkpoint keeps of a cell (R95). -/
def checkpointOf (c : Cell) : Checkpoint :=
  let e := c.engNow
  { phiI := e.phiI, hTrim := e.hTrim, j := e.j, thNeg := e.thNeg, taken := e.taken, st := e.st }

/-- ENGINE_CHECKPOINT (R95). -/
def execEngineCheckpoint (c : Fin 256) (s : State) : Host.Outcome State Fault Refusal :=
  .next (if (s.clu c.val).ckptDue then
           s.modClu c.val (fun k => { k with ckpt := some (k.cells.map checkpointOf), ckptDue := false }) else s)

/-! ### Pads and taps -/

/-- A pad condition has lasted 16 computed periods: F_PAD_FAULT, heater-only (R82, R113). -/
def padFault (n : Nat) (s : State) : State :=
  let c := s.cell n
  if s.engineRuns n && decide (16 ≤ c.padRun) && !c.fPadFault then
    ((s.modCell n (fun c => Cell.modEng (makeHonly (s.cls n)) { c with fPadFault := true })).setReason n 4).cellsChanged n
  else s

/-- F_PAD_FAULT (R113). -/
def execFPadFault (n : Fin 8192) (s : State) : Host.Outcome State Fault Refusal := .next (padFault n.val s)

/-- DARK_TRIM_UPDATE (R123). -/
def execDarkTrimUpdate (n : Fin 8192) (s : State) : Host.Outcome State Fault Refusal := .next (s.modCell n.val darkTrim)

/-- PTAP_RANGE_STEP (R124). -/
def execPtapRangeStep (c : Fin 256) (t : Fin 4) (s : State) : Host.Outcome State Fault Refusal :=
  .next (match (s.clu c.val).lastB with
    | none => s
    | some b => s.modClu c.val (fun k => { k with ptap := modAt (tapStep k.ptapCfg t.val b) t.val k.ptap }))

/-- A cell joins the census's priority queue of four (R271). -/
def State.queuePrio (n : Nat) (s : State) : State :=
  if s.hkc.prio.length < 4 then { s with hkc := { s.hkc with prio := s.hkc.prio ++ [n] } }
  else { s with hkc := { s.hkc with prioFull := true } }

/-- A heater's current exceeds 45 mA: k = 0 for the rest of the period; the fourth trip within 1,024 periods parks the pad;
firmware has the heater measured next (R110, R132). -/
def ocTrip (n : Nat) (s : State) : State :=
  let c := s.cell n
  let k := s.clu (n / 32)
  if k.pow ≠ .on ∨ c.parked = true ∨ c.hParked = true ∨ c.hOff = true then s
  else
    let trips := (k.bIx :: c.trips).filter (fun b => decide (k.bIx < b + 1024))
    let park := decide (4 ≤ trips.length)
    let s := s.modClu (n / 32) (Cluster.modTo s.now)
    let s := s.modCell n (fun c => { c with hOff := true, hOc := true, trips := if park then [] else trips, hParked := park,
                                            uh := if park then 0 else c.uh, qErr1 := if park then 0 else c.qErr1,
                                            qErr2 := if park then 0 else c.qErr2 })
    let s := s.modIsland (n / 512) (fun i => { i with hocCnt := sat32 i.hocCnt })
    if s.firmware then s.queuePrio n else s

/-- HEATER_OC_TRIP (R110). -/
def execHeaterOcTrip (n : Fin 8192) (s : State) : Host.Outcome State Fault Refusal := .next (ocTrip n.val s)

/-- Modes and ranges of a `CLU_CELL_PADCFG` word (R130). -/
def padCfgOf (w : Nat) : PadCfg :=
  { fVolt := bit w 11, fRange := bits w 10 9, hCurr := bit w 8, hRange := bits w 7 6, tia := bits w 1 0 }

/-- A write of `CLU_CELL_PADCFG` (R114, R130): not while the cluster is off (R365). APPLY is set by writing 1; it begins at a
boundary. -/
def padCfgWrite (n : Nat) (v : Word) (s : State) : State :=
  let w := v.toNat
  if s.cluOn (n / 32) then
    s.modCell n (fun c => { c with apply := (c.apply || bit w 12), cfg := padCfgOf w })
  else s

/-- PADCFG_APPLY (R114). -/
def execPadcfgApply (n : Fin 8192) (v : Word) (s : State) : Host.Outcome State Fault Refusal := .next (padCfgWrite n.val v s)

/-- The break of a range change ends 2 µs after its boundary; the pads stay parked in OFF and RETIRED, before the cell's first computed
outputs and while a supply is absent (R106, R114). -/
def breakEnd (n : Nat) (s0 : State) : State :=
  if (s0.cell n).brk = false then s0
  else match reach 4000000000 ((s0.cell n).brkAt + 2000) s0 with
    | none => s0
    | some s => s.modCell n (fun c =>
        let c := { c with brk := false, cfgNow := c.cfg, uf := 0, uh := 0 }
        let park := mustPark c || !c.everOut || s.sys.supplyOut
        { c with parked := park, fParked := park })

/-- RANGE_BREAK_END (R114). -/
def execRangeBreakEnd (n : Fin 8192) (s : State) : Host.Outcome State Fault Refusal := .next (breakEnd n.val s)

/-! ### Substitution (R96) -/

/-- SPARE_POWERED (R96). -/
def execSparePowered (r : Fin 16) (s : State) : Host.Outcome State Fault Refusal :=
  .next (if (s.spare r.val).st = .powering then s.modSpare r.val (fun q => { q with st := .loading }) else s)

/-- SPARE_LOADED (R96). -/
def execSpareLoaded (r : Fin 16) (s : State) : Host.Outcome State Fault Refusal :=
  .next (if (s.spare r.val).st = .loading then s.modSpare r.val (fun q => { q with st := .selftest }) else s)

/-- The spare's self-test ends: it takes over at the cluster's next boundary, or the cells have no engine (R96, R98). -/
def spareTested (r : Nat) (ok : Bool) (s : State) : State :=
  let sp := s.spare r
  if sp.st ≠ .selftest then s
  else if ok then s.modSpare r (fun q => { q with st := .active, switched := true, firstAt := none })
  else (s.modSpare r (fun q => { q with st := .failed, spareFailed := true })).modClu sp.cluster (Cluster.holdAll .noEngine)

/-- SPARE_SELFTEST_DONE (R96). -/
def execSpareSelftestDone (r : Fin 16) (ok : Bool) (s : State) : Host.Outcome State Fault Refusal := .next (spareTested r.val ok s)

/-! ### Power-down and retirement -/

/-- An epoch pending or sealed holds a slot in the cluster (R100, R152, R314). -/
def State.pendingIn (s : State) (c : Nat) : Bool :=
  s.fab.epochs.any (fun e => e.placed && (e.staged ++ e.targets).any (fun t => decide (t.cell / 32 = c))) ||
    (s.clu c).cells.any (fun k => k.next.any (fun q => q.valid && s.fab.liveNums.contains q.epoch))

/-- An open epoch names a cell of the cluster (R100). -/
def State.openNames (s : State) (c : Nat) : Bool :=
  s.fab.held.any (fun e => e.st = .openE && (e.staged ++ e.targets).any (fun t => t.cell / 32 = c))

/-- Firmware requests the power-down of a cluster (R24, R100, R152, R313): not while an open epoch names one of its cells or it
holds a slot of a pending or sealed epoch, nor while it holds a cell of an established circuit or a bound tap of an instance whose
clusters are powered. -/
def clusterDown (c : Nat) (s : State) : State :=
  if s.firmware = false ∨ s.openNames c = true ∨ s.pendingIn c = true ∨ s.tapsNeeded c = true ∨
      (List.range 32).any (fun i => s.circuitThrough (32 * c + i)) = true then s
  else s.beginDown c

/-- CLUSTER_POWER_DOWN (R100). -/
def execClusterPowerDown (c : Fin 256) (s : State) : Host.Outcome State Fault Refusal := .next (clusterDown c.val s)

/-- The REASON of an entry of the retirement list (R86, R93, R94); 0 where nothing in service befell the unit. -/
def State.retireReason (s : State) (kind unit : Nat) : Nat :=
  let k := s.clu unit
  if kind = 1 then s.reasonFor false unit
  else if kind = 2 then s.reasonFor true unit
  else if kind = 3 then (if k.liveness then 7 else if k.eccUe then 6 else if k.residue then 5 else 0)
  else 0

/-- An event of the retirement list has happened to a unit (R86). -/
def State.retireDue (s : State) (kind unit : Nat) : Bool :=
  !(s.sys.retire.any (fun e => e.crcOk && e.kind = kind && e.unit = unit)) && decide (s.retireReason kind unit ≠ 0) &&
    (if kind = 1 then decide (unit < 8192) && decide ((s.cell unit).engNow.st = .retired)
     else if kind = 2 then decide (unit < 8192) && (s.cell unit).engNow.honly && !bit (s.entry unit).flags 2
     else if kind = 3 then decide (unit < 256) && (s.clu unit).failed
     else false)

/-- Firmware appends an entry to the retirement list; a full list persists no more (R86, R334). -/
def retireAppend (kind unit : Nat) (s : State) : State :=
  if s.firmware = false ∨ s.retireDue kind unit = false then s
  else
    let e := ({ unit := unit, kind := kind, reason := s.retireReason kind unit, taiS := (mailOf s.tai).1 } : RetireEntry).sealCrc
    let full := decide (1024 ≤ s.sys.retire.length)
    let s : State := { s with sys := { s.sys with retire := s.sys.retire ++ [e], retireFull := s.sys.retireFull || full } }
    if full then s else s.nvmWrite (.retire e)

/-- RETIRE_LIST_APPEND (R86). -/
def execRetireListAppend (kind unit : Nat) (s : State) : Host.Outcome State Fault Refusal :=
  .next (retireAppend kind unit s)

/-! ### Drive islands and the heater budget -/

/-- I_pred of the interval that ends at an instant, mA: the mean over its modulator edges of what the row's heaters draw (R116); 0
where it holds no edge. -/
def predOf (x : Int) (i : Island) (row : List Cluster) : Rat :=
  let n := edgesIn i.predFrom x
  if n = 0 then 0 else sumR (row.map Cluster.iAcc) / n

/-- The measurement of one 16 µs interval (R116, R132). -/
def islandMeasure (vhtrMv measMa : Nat) (pred : Rat) (x : Int) (i : Island) : Island :=
  let judged := decide (200 ≤ pred)
  let q : Rat := (measMa : Rat) / pred
  let bad := decide (q < 4 / 5) || decide (5 / 4 < q)
  { i with vhtr := min 0xFFFF vhtrMv, iMeas := min 0xFFFF measMa, iPred := viewU 16 pred, predFrom := x, vhtrLow := decide (vhtrMv < 3135),
           kappa := if judged && !i.isenseFault then clampR (9 / 10) (11 / 10) (i.kappa + (q - i.kappa) / 16) else i.kappa,
           badRun := if judged then (if bad then i.badRun + 1 else 0) else i.badRun }

/-- A row's interval ends: the modulators of its heaters are run to now, I_pred is formed and the sums start anew (R116). -/
def islandInterval (r vhtrMv measMa : Nat) (s : State) : State :=
  if (s.island r).pow ≠ .on then s
  else
    let row := ((s.clusters.drop (16 * r)).take 16).map (Cluster.modTo s.now)
    let fresh (c : Nat) (k : Cluster) : Cluster := if c / 16 = r then { (k.modTo s.now) with iAcc := 0 } else k
    (s.mapClu fresh).modIsland r (islandMeasure vhtrMv measMa (predOf s.now (s.island r) row) s.now)

/-- ISLAND_INTERVAL (R116). -/
def execIslandInterval (r : Fin 16) (vhtrMv measMa : Nat) (s : State) : Host.Outcome State Fault Refusal :=
  .next (islandInterval r.val vhtrMv measMa s)

/-- ISENSE_FAULT (R116). -/
def execIsenseFault (r : Fin 16) (s : State) : Host.Outcome State Fault Refusal :=
  .next (if (s.island r.val).pow = .on ∧ 64 ≤ (s.island r.val).badRun then s.modIsland r.val (fun i => { i with isenseFault := true })
         else s)

/-- The grants of R62 from the histories: the current in mA, the power in 2 µW units. -/
def grants (iLim pLim : Nat) (h : List (Rat × Rat)) : Rat × Rat :=
  let si := sumR (h.map (·.1))
  let sp := sumR (h.map (·.2))
  (max 0 (min 44000 (625 * (iLim : Rat) - si)), max 0 (625 * ((pLim : Rat) * 500) - sp))

/-- ε̂ (R62): sums over the last 64 intervals of p_win (2 µW) and of V × I (µW). -/
def epsHat (q : List (Rat × Rat)) : Rat :=
  let d := sumR (q.map (·.2))
  if d ≤ 0 then 1 else clampR (9 / 10) 1 (2 * sumR (q.map (·.1)) / d)

/-- V̄ in mV (R62). -/
def meanV (is : List Island) : Rat :=
  let on := is.filter (fun i => decide (i.pow = .on))
  let d : Rat := ((on.map Island.iMeas).sum : Rat)
  if d = 0 then (if on.isEmpty then 0 else (((on.map Island.vhtr).sum : Rat)) / on.length)
  else sumR (on.map (fun i => (i.vhtr : Rat) * i.iMeas)) / d

/-- I_i of the interval that ends, mA: the sum of the powered islands' measured currents (R62). -/
def State.heaterMa (s : State) : Nat := ((s.islands.filter (fun i => decide (i.pow = .on))).map Island.iMeas).sum

/-- P_i of the interval that ends, 2 µW: the sum over clusters of the mean, over the interval, of the total p_win that each reports
(R62). -/
def State.heaterPow (s : State) : Rat :=
  let mean (k : Cluster) : Rat := if k.pwinN = 0 then k.pwinSum else k.pwinAcc / k.pwinN
  sumR (s.clusters.map (fun k => if k.pow = .on then mean k else 0))

/-- The budget's histories with the interval that ends (R62): 624 intervals of I_i and P_i, before which the limits stand, and 64 of
P_i and V × I. -/
def State.budgetNext (s : State) : Budget :=
  let vi := sumR ((s.islands.filter (fun i => decide (i.pow = .on))).map (fun i => (i.vhtr : Rat) * i.iMeas))
  let past : List (Rat × Rat) := s.thm.budget.hist.getD (List.replicate 624 ((s.thm.iLim : Rat), (s.thm.pLim : Rat) * 500))
  { hist := some (((s.heaterMa : Rat), s.heaterPow) :: past |>.take 624),
    ratio := ((if s.heaterMa = 0 then ((0 : Rat), (0 : Rat)) else (s.heaterPow, vi)) :: s.thm.budget.ratio).take 64 }

/-- The power granted for the coming interval, 2 µW (R62 steps 2 and 3): the less of what the granted current gives and the granted
power. -/
def State.grantedPower (s : State) : Rat :=
  let b := s.budgetNext
  let g := grants s.thm.iLim s.thm.pLim (b.hist.getD [])
  min (g.1 * meanV s.islands / 2 * epsHat b.ratio * (98 / 100)) g.2

/-- The end of a budget interval (R62, R299): the granted power is shared over the powered clusters. -/
def budgetStep (s : State) : State :=
  let w := sumR (s.clusters.map (fun k => if k.pow = .on then k.demand + 500 else 0))
  { s with thm := { s.thm with budget := s.budgetNext, vhtrMa := (s.heaterMa :: s.thm.vhtrMa).take 625 },
           clusters := s.clusters.map (fun k =>
             if k.pow = .on then { k with allow := viewU 32 (s.grantedPower * (k.demand + 500) / w), pwinAcc := 0, pwinN := 0 } else k) }

/-- BUDGET_INTERVAL (R62). -/
def execBudgetInterval (s : State) : Host.Outcome State Fault Refusal := .next (if s.time.run then budgetStep s else s)

end Sys2Proof.Machine
end

