-- ==== Sys2Proof/Machine/Crypto.lean ====
section
/-! DEFINITION. The hash and the signature of an image (R320): SHA-384 and ECDSA on P-384. The spec names both and does not give
their arithmetic; it is that of FIPS 180-4 and FIPS 186-4 (PRESUMED, log 172). The functions call the operations of Nat by name, and
fix every intermediate value, so that Lean's kernel can run them. -/

namespace Sys2Proof.Machine

/-- The number whose big-endian bytes are given. -/
def beNat (bs : List Byte) : Nat := bs.foldl (fun n b => Nat.add (Nat.mul n 256) b.toNat) 0

/-! ### SHA-384 -/

/-- The eight working words. -/
structure Sha where
  a : Nat
  b : Nat
  c : Nat
  d : Nat
  e : Nat
  f : Nat
  g : Nat
  h : Nat
  deriving DecidableEq, Repr

/-- The low 64 bits. -/
def shaMod (x : Nat) : Nat := Nat.mod x 0x10000000000000000

/-- A word written twice over: the low 64 bits of its shifts are the word's rotations. -/
def shaTwice (x : Nat) : Nat := Nat.mul x 0x10000000000000001

/-- The exclusive or of two rotations. -/
def shaRot2 (i j x : Nat) : Nat := shaMod (Nat.xor (Nat.shiftRight (shaTwice x) i) (Nat.shiftRight (shaTwice x) j))

/-- The exclusive or of three rotations. -/
def shaRot3 (i j k x : Nat) : Nat := Nat.xor (shaRot2 i j x) (shaMod (Nat.shiftRight (shaTwice x) k))

/-- The schedule's two functions: two rotations and a shift. -/
def shaSmall0 (x : Nat) : Nat := Nat.xor (shaRot2 1 8 x) (Nat.shiftRight x 7)
def shaSmall1 (x : Nat) : Nat := Nat.xor (shaRot2 19 61 x) (Nat.shiftRight x 6)

/-- The choice and the majority of three words, bit by bit. -/
def shaCh (e f g : Nat) : Nat := Nat.xor (Nat.land e f) (Nat.land (Nat.xor e 0xFFFFFFFFFFFFFFFF) g)
def shaMaj (a b c : Nat) : Nat := Nat.xor (Nat.xor (Nat.land a b) (Nat.land a c)) (Nat.land b c)

/-- A word of the last sixteen of the message schedule, which stand in one number, the newest lowest; `k` is 64 times its place. -/
def shaWord (win k : Nat) : Nat := shaMod (Nat.shiftRight win k)

/-- The window moved on by the schedule's next word. -/
def shaNext (win : Nat) : Nat :=
  Nat.add (Nat.shiftLeft (Nat.mod win (2 ^ 960)) 64)
    (shaMod (Nat.add (Nat.add (shaSmall1 (shaWord win 64)) (shaWord win 384)) (Nat.add (shaSmall0 (shaWord win 896)) (shaWord win 960))))

/-- The rounds over the constants; a round takes the oldest word of the window. -/
def shaRounds : List Nat → Nat → Sha → Sha
  | k :: ks, win, ⟨a, b, c, d, e, f, g, h⟩ =>
    force (fun t => force (fun a' => force (fun e' => force (fun win' => shaRounds ks win' ⟨a', a, b, c, e', e, f, g⟩) (shaNext win)) (shaMod (Nat.add d t)))
        (shaMod (Nat.add t (Nat.add (shaRot3 28 34 39 a) (shaMaj a b c)))))
      (Nat.add (Nat.add h (shaRot3 14 18 41 e)) (Nat.add (Nat.add (shaCh e f g) k) (shaWord win 960)))
  | [], _, s => s

/-- The eighty round constants. -/
def shaK : List Nat :=
    [0x428a2f98d728ae22, 0x7137449123ef65cd, 0xb5c0fbcfec4d3b2f, 0xe9b5dba58189dbbc, 0x3956c25bf348b538]
    ++ [0x59f111f1b605d019, 0x923f82a4af194f9b, 0xab1c5ed5da6d8118, 0xd807aa98a3030242, 0x12835b0145706fbe]
    ++ [0x243185be4ee4b28c, 0x550c7dc3d5ffb4e2, 0x72be5d74f27b896f, 0x80deb1fe3b1696b1, 0x9bdc06a725c71235]
    ++ [0xc19bf174cf692694, 0xe49b69c19ef14ad2, 0xefbe4786384f25e3, 0xfc19dc68b8cd5b5, 0x240ca1cc77ac9c65]
    ++ [0x2de92c6f592b0275, 0x4a7484aa6ea6e483, 0x5cb0a9dcbd41fbd4, 0x76f988da831153b5, 0x983e5152ee66dfab]
    ++ [0xa831c66d2db43210, 0xb00327c898fb213f, 0xbf597fc7beef0ee4, 0xc6e00bf33da88fc2, 0xd5a79147930aa725]
    ++ [0x6ca6351e003826f, 0x142929670a0e6e70, 0x27b70a8546d22ffc, 0x2e1b21385c26c926, 0x4d2c6dfc5ac42aed]
    ++ [0x53380d139d95b3df, 0x650a73548baf63de, 0x766a0abb3c77b2a8, 0x81c2c92e47edaee6, 0x92722c851482353b]
    ++ [0xa2bfe8a14cf10364, 0xa81a664bbc423001, 0xc24b8b70d0f89791, 0xc76c51a30654be30, 0xd192e819d6ef5218]
    ++ [0xd69906245565a910, 0xf40e35855771202a, 0x106aa07032bbd1b8, 0x19a4c116b8d2d0c8, 0x1e376c085141ab53]
    ++ [0x2748774cdf8eeb99, 0x34b0bcb5e19b48a8, 0x391c0cb3c5c95a63, 0x4ed8aa4ae3418acb, 0x5b9cca4f7763e373]
    ++ [0x682e6ff3d6b2b8a3, 0x748f82ee5defb2fc, 0x78a5636f43172f60, 0x84c87814a1f0ab72, 0x8cc702081a6439ec]
    ++ [0x90befffa23631e28, 0xa4506cebde82bde9, 0xbef9a3f7b2c67915, 0xc67178f2e372532b, 0xca273eceea26619c]
    ++ [0xd186b8c721c0c207, 0xeada7dd6cde0eb1e, 0xf57d4f7fee6ed178, 0x6f067aa72176fba, 0xa637dc5a2c898a6]
    ++ [0x113f9804bef90dae, 0x1b710b35131c471b, 0x28db77f523047d84, 0x32caab7b40c72493, 0x3c9ebe0a15c9bebc]
    ++ [0x431d67c49c100d4c, 0x4cc5d4becb3e42b6, 0x597f299cfc657e2a, 0x5fcb6fab3ad6faec, 0x6c44198c4a475817]

/-- The initial hash value of SHA-384. -/
def shaIv : Sha :=
  ⟨0xcbbb9d5dc1059ed8, 0x629a292a367cd507, 0x9159015a3070dd17, 0x152fecd8f70e5939, 0x67332667ffc00b31, 0x8eb44a8768581511, 0xdb0c2e0d64f98fa7, 0x47b5481dbefa4fa4⟩

/-- One block of sixteen words, as a big-endian number. -/
def shaBlock (s : Sha) (w : Nat) : Sha :=
  match s, shaRounds shaK w s with
  | ⟨a, b, c, d, e, f, g, h⟩, ⟨a', b', c', d', e', f', g', h'⟩ =>
    force (fun a => force (fun b => force (fun c => force (fun d => force (fun e => force (fun f => force (fun g => force (fun h =>
      ⟨a, b, c, d, e, f, g, h⟩) (shaMod (Nat.add h h'))) (shaMod (Nat.add g g'))) (shaMod (Nat.add f f'))) (shaMod (Nat.add e e')))
      (shaMod (Nat.add d d'))) (shaMod (Nat.add c c'))) (shaMod (Nat.add b b'))) (shaMod (Nat.add a a'))

/-- A function of the state and a block, over `n` blocks of 128 bytes. -/
def overBlocks (f : Sha → List Byte → Sha) : Nat → List Byte → Sha → Sha
  | 0, _, s => s
  | n + 1, bs, s => overBlocks f n (bs.drop 128) (f s (bs.take 128))

/-- `n` blocks of 128 bytes. -/
def shaRun (n : Nat) (bs : List Byte) (s : Sha) : Sha := overBlocks (fun s b => force (shaBlock s) (beNat b)) n bs s

/-- The padding of a message of `n` bytes: a one, zeros, and the length in bits as a 128-bit big-endian number. -/
def shaPad (n : Nat) : List Byte := 0x80 :: (List.replicate ((239 - n % 128) % 128) 0 ++ (leBytes 16 (8 * n)).reverse)

/-- SHA-384 of some bytes as a big-endian number of 48 bytes. -/
def sha384 (bs : List Byte) : Nat :=
  let s := shaRun ((bs.length + 17 + 127) / 128) (bs ++ shaPad bs.length) shaIv
  [s.b, s.c, s.d, s.e, s.f].foldl (fun n x => n * 2 ^ 64 + x) s.a

/-! ### ECDSA on P-384 -/

/-- The field's prime, the group's order, and the coefficient b of the curve y² = x³ − 3x + b. -/
def p384 : Nat := 0xfffffffffffffffffffffffffffffffffffffffffffffffffffffffffffffffeffffffff0000000000000000ffffffff
def n384 : Nat := 0xffffffffffffffffffffffffffffffffffffffffffffffffc7634d81f4372ddf581a0db248b0a77aecec196accc52973
def b384 : Nat := 0xb3312fa7e23ee7e4988e056be3f82d19181d9c6efe8141120314088f5013875ac656398d8a2ed19d2a85c8edd3ec2aef

/-- A point in Jacobian coordinates: x/z², y/z³; z is 0 at infinity. -/
structure Jac where
  x : Nat
  y : Nat
  z : Nat
  deriving DecidableEq, Repr

/-- The base point. -/
def g384 : Jac :=
  ⟨0xaa87ca22be8b05378eb1c71ef320ad746e1d3b628ba79b9859f741e082542a385502f25dbf55296c3a545e3872760ab7,
   0x3617de4a96262c6f5d9e98bf9292dc29f8f41dbd289a147ce9da3113b5f0b8c00a60b1ce1d7e819d7a431d7c90ea0e5f, 1⟩

/-- A product, a sum and a difference modulo p. -/
def fMul (a b : Nat) : Nat := Nat.mod (Nat.mul a b) p384
def fAdd (a b : Nat) : Nat := Nat.mod (Nat.add a b) p384
def fSub (a b : Nat) : Nat := Nat.mod (Nat.sub (Nat.add a p384) (Nat.mod b p384)) p384

/-- A point with its coordinates worked out. -/
def jac (x y z : Nat) : Jac := force (fun x => force (fun y => force (fun z => ⟨x, y, z⟩) z) y) x

/-- Twice a point. -/
def Jac.dbl (q : Jac) : Jac :=
  match q with
  | ⟨x, y, z⟩ =>
    force (fun dd => force (fun gg => force (fun bb => force (fun aa => force (fun x' =>
      jac x' (fSub (fMul aa (fSub (fMul 4 bb) x')) (fMul 8 (fMul gg gg))) (fMul 2 (fMul y z)))
      (fSub (fMul aa aa) (fMul 8 bb))) (fMul 3 (fMul (fSub x dd) (fAdd x dd)))) (fMul x gg)) (fMul y y)) (fMul z z)

/-- The sum of two points. -/
def Jac.plus (q r : Jac) : Jac :=
  match q, r with
  | ⟨x1, y1, z1⟩, ⟨x2, y2, z2⟩ =>
    if z1 = 0 then r
    else if z2 = 0 then q
    else
      force (fun u1 => force (fun s1 => force (fun h => force (fun t =>
        if h = 0 then (if t = 0 then q.dbl else ⟨1, 1, 0⟩)
        else
          force (fun h2 => force (fun h3 => force (fun v => force (fun x' => jac x' (fSub (fMul t (fSub v x')) (fMul s1 h3)) (fMul h (fMul z1 z2)))
            (fSub (fSub (fMul t t) h3) (fMul 2 v))) (fMul u1 h2)) (fMul h h2)) (fMul h h))
        (fSub (fMul y2 (fMul z1 (fMul z1 z1))) s1)) (fSub (fMul x2 (fMul z1 z1)) u1)) (fMul y1 (fMul z2 (fMul z2 z2)))) (fMul x1 (fMul z2 z2))

/-- u·G + v·Q over the low `n` bits of u and v, with G + Q given, by doubling and adding from the highest bit down. -/
def jacMul (u v : Nat) (g q gq : Jac) : Nat → Jac → Jac
  | 0, acc => acc
  | n + 1, acc =>
    let d := acc.dbl
    let r := if u.testBit n then (if v.testBit n then d.plus gq else d.plus g) else if v.testBit n then d.plus q else d
    match r with
    | ⟨x, y, z⟩ => jacMul u v g q gq n (jac x y z)

/-- b^e modulo m over the low `n` bits of e. -/
def powMod (m : Nat) : Nat → Nat → Nat → Nat → Nat
  | 0, _, _, acc => acc
  | n + 1, b, e, acc =>
    force (fun acc => force (fun b => force (fun e => powMod m n b e acc) (Nat.div e 2)) (Nat.mod (Nat.mul b b) m))
      (if Nat.mod e 2 = 1 then Nat.mod (Nat.mul acc b) m else acc)

/-- The inverse modulo a prime. -/
def invMod (m a : Nat) : Nat := powMod m 384 (a % m) (m - 2) 1

/-- An affine point of the curve. -/
def onCurve (x y : Nat) : Bool :=
  decide (x < p384) && decide (y < p384) && decide (fMul y y = fAdd (fSub (fMul x (fMul x x)) (fMul 3 x)) b384)

/-- An ECDSA signature r, s of a hash verifies against the public key (x, y). -/
def ecdsaOk (x y r s hash : Nat) : Bool :=
  onCurve x y && decide (1 ≤ r ∧ r < n384 ∧ 1 ≤ s ∧ s < n384) &&
    force (fun w =>
      let q := jacMul (hash * w % n384) (r * w % n384) g384 ⟨x, y, 1⟩ (g384.plus ⟨x, y, 1⟩) 384 ⟨1, 1, 0⟩
      decide (q.z ≠ 0) && decide (fMul q.x (invMod p384 (fMul q.z q.z)) % n384 = r)) (invMod n384 s)

/-- KEY is an uncompressed point: 0x04, then x and y of 48 bytes, big-endian; SIG is r then s (R319). -/
def signatureOk (key sig : List Byte) (hash : Nat) : Bool :=
  decide (key.length = 97 ∧ sig.length = 96 ∧ (key.getD 0 0).toNat = 4) &&
    ecdsaOk (beNat ((key.drop 1).take 48)) (beNat (key.drop 49)) (beNat (sig.take 48)) (beNat (sig.drop 48)) hash

end Sys2Proof.Machine
end

