-- ==== Sys2Proof/Machine/ImageRead.lean ====
section
/-! DEFINITION. How firmware reads the bytes of an image: its header, HEAD's directory, the section headers and the fifteen bodies, each
field at its offset, little-endian (R38-R45, R241, R281, R301, R318, R319, R344). A byte past the end of a body reads 0 (log 173). -/

namespace Sys2Proof.Machine

/-! ### Fields -/

/-- The byte at an offset. -/
def u8 (o : Nat) (b : List Byte) : Nat := (b.getD o 0).toNat

/-- The little-endian number of `k` bytes at an offset (R318). -/
def le (k o : Nat) (b : List Byte) : Nat := leNat ((b.drop o).take k)

/-- The signed number of `k` bytes at an offset. -/
def sle (k o : Nat) (b : List Byte) : Int := untwos (8 * k) (le k o b)

/-- The numbers of `k` bytes in `n` consecutive places from an offset. -/
def les (k n o : Nat) (b : List Byte) : List Nat := (List.range n).map (fun i => le k (o + k * i) b)

/-- `n` consecutive records of `size` bytes. -/
def recs (size : Nat) : Nat → List Byte → List (List Byte)
  | 0, _ => []
  | n + 1, b => b.take size :: recs size n (b.drop size)

/-- The first element of a list that fails a test. -/
def firstIx {α : Type} (ok : Nat → α → Bool) : Nat → List α → Option Nat
  | _, [] => none
  | i, x :: xs => if ok i x then firstIx ok (i + 1) xs else some i

/-- The first byte of a list with a bit of the mask set, numbered from `o`. -/
def marked (m o : Nat) (b : List Byte) : Option Nat := firstIx (fun _ (x : Byte) => decide (x.toNat &&& m = 0)) o b

/-- The first of some reserved bytes, or bytes with reserved bits, that is not zero: each place gives an offset, a count of bytes and the
mask of the reserved bits (R318). -/
def unclean (places : List (Nat × Nat × Nat)) (b : List Byte) : Option Nat :=
  places.findSome? (fun q => marked q.2.2 q.1 ((b.drop q.1).take q.2.1))

/-- The first of several results. -/
def firstOf : List (Option Nat) → Option Nat
  | [] => none
  | some o :: _ => some o
  | none :: l => firstOf l

/-! ### Header, directory, section headers (R318, R319) -/

/-- The image header (R318). -/
structure SlotHdr where
  magic : Nat
  format : Nat
  sections : Nat
  generation : Word
  length : Nat
  target : Nat
  build : Nat
  /-- the first 60 bytes, and the reserved ones among them -/
  body : List Byte
  reserved : List Byte
  hdrCrc : Nat
  deriving DecidableEq, Repr

/-- The header of an image (R318). -/
def readHdr (b : List Byte) : SlotHdr :=
  let h := b.take 64
  { magic := le 4 0 h, format := le 2 4 h, sections := le 2 6 h, generation := BitVec.ofNat 32 (le 4 8 h), length := le 4 0x0C h,
    target := le 4 0x10 h, build := le 8 0x14 h, body := h.take 60, reserved := (h.drop 0x1C).take 32, hdrCrc := le 4 0x3C h }

/-- GENERATION of a slot's image (R318, R326). -/
def genOf (q : ImageSlot) : Word := (readHdr q.bytes).generation

/-- One section as HEAD's directory lists it and as its section header stands there (R318, R319). -/
structure SecHdr where
  /-- TAG, OFFSET and LENGTH of the entry in HEAD, and its reserved word -/
  dirTag : Nat
  offset : Nat
  length : Nat
  dirReserved : Nat
  /-- TAG, BODY_LEN, BODY_CRC and the reserved word of the section header -/
  tag : Nat
  bodyLen : Nat
  bodyCrc : Nat
  reserved : Nat
  /-- the body -/
  body : List Byte
  deriving DecidableEq, Repr

/-- The directory's entries, each with its section; `o` is the offset of the byte at which the remaining bytes begin. -/
def readSecs : Nat → List Byte → List (List Byte) → List SecHdr
  | _, _, [] => []
  | o, b, e :: es =>
    let at_ := le 4 4 e
    let s := b.drop (at_ - o)
    let n := le 4 4 s
    { dirTag := le 4 0 e, offset := at_, length := le 4 8 e, dirReserved := le 4 12 e, tag := le 4 0 s, bodyLen := n, bodyCrc := le 4 8 s,
      reserved := le 4 12 s, body := (s.drop 16).take n } :: readSecs (max o at_) s es

/-- The fifteen sections that HEAD lists; HEAD is the first of an image, right behind its header (R318, R319). -/
def readDir (b : List Byte) : List SecHdr := readSecs 0 b (recs 16 15 (b.drop 0x60))

/-! ### FABM, PART, LOOP (R38-R45) -/

/-- The steps of a route (R42). -/
def readSteps : Nat → List Byte → List RouteStep
  | 0, _ => []
  | n + 1, b => { cell := le 2 0 b, state := u8 2 b, arm := u8 3 b } :: readSteps n (b.drop 4)

/-- At most `n` route records; none where fewer than a record's bytes remain (R42). -/
def readRoutes : Nat → List Byte → List Route
  | 0, _ => []
  | n + 1, b =>
    let k := u8 4 b
    if b.length < 8 + 4 * k then []
    else { inp := le 2 0 b, out := le 2 2 b, pref := u8 5 b, steps := readSteps k (b.drop 8) } :: readRoutes n (b.drop (8 + 4 * k))

/-- Reserved bytes of the route records, numbered from `o` (R42). -/
def routesUnclean : Nat → Nat → List Byte → Option Nat
  | 0, _, _ => none
  | n + 1, o, b =>
    let k := u8 4 b
    if b.length < 8 + 4 * k then none
    else match marked 0xFF (o + 6) ((b.drop 6).take 2) with
      | some q => some q
      | none => routesUnclean n (o + 8 + 4 * k) (b.drop (8 + 4 * k))

/-- The route table of a descriptor's bytes in a body (R39). -/
def routeTable (d body : List Byte) : List Byte := if u8 0 d = 4 then (body.drop (le 4 0x10 d)).take (le 4 0x14 d) else []

/-- An instance descriptor (R39). -/
def readInst (body d : List Byte) : InstDesc :=
  { topo := u8 0 d, log2n := u8 1 d, n := le 2 2 d, inBase := le 2 4 d, outBase := le 2 6 d, logicalCount := le 2 8 d, gateCount := le 2 10 d,
    trimCount := le 2 12 d, routeCount := le 2 14 d, tableOffset := le 4 0x10 d, tableLength := le 4 0x14 d,
    routes := readRoutes (le 2 14 d) (routeTable d body) }

/-- The last `k` of the 8,192 cell entries (R40); an UNUSED entry with INST 0xFF, CLASS 0 and no flags is not listed. -/
def readCells : Nat → List Byte → List CellEntry
  | k + 1, b0 :: b1 :: b2 :: b3 :: b4 :: b5 :: _ :: _ :: bs =>
    if b0 = 0 ∧ b1 = 0xFF ∧ b4 = 0 ∧ b5 = 0 then readCells k bs
    else { n := 8191 - k, role := b0.toNat, inst := b1.toNat, logical := leNat [b2, b3], cls := b4.toNat, flags := b5.toNat } :: readCells k bs
  | _, _ => []

/-- Reserved bits and bytes of the last `k` cell entries (R40). -/
def cellsUnclean : Nat → List Byte → Option Nat
  | k + 1, _ :: _ :: _ :: _ :: _ :: b5 :: b6 :: b7 :: bs =>
    if b5.toNat < 8 ∧ b6 = 0 ∧ b7 = 0 then cellsUnclean k bs
    else some (0x100 + 8 * (8191 - k) + (if 8 ≤ b5.toNat then 5 else if b6 = 0 then 7 else 6))
  | _, _ => none

/-- The last `k` of the 1,024 port-end entries (R41); one that is not used and names neither instance, tap nor cell is not listed. -/
def readPorts : Nat → List Byte → List PortEntry
  | k + 1, b0 :: b1 :: b2 :: b3 :: b4 :: b5 :: b6 :: b7 :: bs =>
    let e : PortEntry := { id := 1023 - k, tap := leNat [b0, b1], dir := b2.toNat, inst := b3.toNat, gate := leNat [b4, b5], trim := leNat [b6, b7] }
    if e = { id := e.id } then readPorts k bs else e :: readPorts k bs
  | _, _ => []

/-- FABM (R38-R42). -/
def readFabm (b : List Byte) : Fabm :=
  let ds := recs 32 4 (b.drop 0x20)
  let n := u8 2 b
  let cells := b.drop 0x100
  { format := le 2 0 b, instCount := n, bodyLength := le 4 4 b, picId := le 4 8 b, picRev := le 2 12 b, insts := (ds.take n).map (readInst b),
    cells := readCells 8192 cells, ports := readPorts 1024 (cells.drop 0x10000), tableCrc := BitVec.ofNat 32 (crc32c (cells.take 0x10000)),
    badReserved := firstOf ([unclean [(3, 1, 0xFF), (0x0E, 18, 0xFF), (0x38, 8, 0xFF), (0x58, 8, 0xFF), (0x78, 8, 0xFF), (0x98, 104, 0xFF)] b,
      cellsUnclean 8192 cells] ++ (ds.take n).map (fun d => routesUnclean (le 2 14 d) (le 4 0x10 d) (routeTable d b))) }

/-- PART (R43). -/
def readPart (b : List Byte) : Part :=
  let n := u8 2 b
  { format := le 2 0 b, instCount := n,
    recs := (recs 16 (min n ((b.length - 0x10) / 16)) (b.drop 0x10)).map (fun r =>
      { inst := u8 0 r, owner := u8 1 r, policy := u8 2 r, flags := u8 3 r, tag := BitVec.ofNat 32 (le 4 4 r), maxCircuits := le 2 8 r }),
    badReserved := unclean ((3, 13, 0xFF) :: (List.range n).flatMap (fun i => [(0x13 + 16 * i, 1, 0xFE), (0x1A + 16 * i, 6, 0xFF)])) b }

/-- A class record (R45). -/
def readClass (r : List Byte) : ClassRec :=
  { fMode := u8 0 r / 16, fRange := u8 0 r % 16, hMode := u8 1 r / 16, hRange := u8 1 r % 16, tiaRange := u8 2 r % 4, hDiv := u8 3 r,
    kpF := le 2 4 r, kiF := le 2 6 r, kpH := le 2 8 r, kiH := le 2 10 r, rampRate := le 2 12 r, downRate := le 2 14 r, cellCap := le 2 16 r,
    pilotAmp := le 2 18 r, pilotWin := u8 20 r, fAuth := le 2 22 r, darkLevel := le 2 24 r, stuckK := le 2 26 r, retireN := le 2 28 r }

/-- LOOP (R44); a class record from CLASS_COUNT on counts as reserved. -/
def readLoop (b : List Byte) : LoopSec :=
  let n := u8 2 b
  { format := le 2 0 b, classCount := n, periods := les 1 256 0x10 b, classes := (recs 64 (min n 16) (b.drop 0x110)).map readClass,
    badReserved := unclean ([(3, 13, 0xFF), (0x10, 256, 0xFC)] ++ (List.range 16).flatMap (fun i =>
      if i < n then [(0x112 + 64 * i, 1, 0xFC), (0x125 + 64 * i, 1, 0xFF), (0x12E + 64 * i, 34, 0xFF)] else [(0x110 + 64 * i, 64, 0xFF)])) b }

/-! ### The bodies of R241, R281, R301, R344 -/

/-- EVTR (R241). -/
def readEvtr (b : List Byte) : Evtr :=
  let ch (r : List Byte) : EvtrCh :=
    { owner := u8 0 r, en := bit (u8 1 r) 1, sec := bit (u8 1 r) 0, src := u8 2 r, reMax := u8 3 r, reWin := le 2 4 r, holdoff := le 2 6 r }
  let con (r : List Byte) : EvtrCon :=
    { sel := les 1 4 0 r, f2 := bit (u8 7 r) 7, action := u8 6 r / 64, width := u8 6 r % 64 }
  { format := le 2 0 b, groupEn := le 2 2 b, gpioDir := le 2 4 b, gpioInit := le 2 6 b, gpioEdge := le 4 8 b, gpioOwner := les 1 16 12 b,
    chans := (recs 8 128 (b.drop 0x20)).map ch, cons := (recs 8 96 (b.drop 0x420)).map con,
    badReserved := unclean ([(0x1C, 4, 0xFF)] ++ (List.range 128).map (fun k => (0x21 + 8 * k, 1, 0xFC)) ++
      (List.range 96).flatMap (fun x => [(0x424 + 8 * x, 2, 0xFF), (0x427 + 8 * x, 1, 0x7F)])) b }

/-- An entry of `HKC_SEQ` (R281, R282). -/
def readSeq (w : Nat) : SeqEntry := { probeD := bits w 27 16, samples := bits w 15 8, gain := bits w 7 5, input := bits w 4 0 }

/-- HKCV (R281). -/
def readHkcv (b : List Byte) : Hkcv :=
  let core (o : Nat) : CoreCfg :=
    let c := u8 (2 + o) b
    let q := u8 (4 + o) b
    { sigmaDelta := bit c 7, mains60 := bit c 6, trig := bits c 5 4, rate := bits c 3 0, diag := bit q 4, len := bits q 3 0 + 1, thresh := u8 (6 + o) b,
      seq := (les 4 16 (0xA0 + 64 * o) b).map readSeq }
  { format := le 2 0 b, core1 := core 0, core2 := core 1, oscPair := u8 8 b, vrefOutEn := bit (u8 9 b) 0, oscBeta := le 2 10 b, oscR25 := le 4 12 b,
    oscRfix := le 4 16 b, rtd := (recs 8 16 (b.drop 0x20)).map (fun r => (le 4 0 r, u8 4 r)),
    badReserved := unclean ([(4, 2, 0xE0), (9, 1, 0xFE), (0x14, 12, 0xFF)] ++ (List.range 16).map (fun i => (0x25 + 8 * i, 3, 0xFF)) ++
      (List.range 32).map (fun e => (0xA3 + 4 * e, 1, 0xF0))) b }

/-- Six thresholds (R301). -/
def readLimits (o : Nat) (b : List Byte) : Limits :=
  ⟨sle 2 o b, sle 2 (o + 2) b, sle 2 (o + 4) b, sle 2 (o + 6) b, sle 2 (o + 8) b, sle 2 (o + 10) b⟩

/-- THRM (R301). -/
def readThrm (b : List Byte) : Thrm :=
  { format := le 2 0 b, roundMs := u8 2 b, persist := u8 3 b, die := readLimits 4 b, anc := readLimits 0x10 b, skipN := u8 0x1C b, recHz := le 2 0x1E b,
    derStart := le 2 0x20 b, derFloor := le 2 0x22 b, iLim := le 4 0x24 b, delta := (List.range 18).map (fun j => sle 2 (0x28 + 2 * j) b),
    pLim := le 4 0x4C b, badReserved := unclean [(0x1D, 1, 0xFF), (0x50, 48, 0xFF)] b }

/-- DMAP (R344). -/
def readDmap (b : List Byte) : Dmap :=
  let n := le 2 6 b
  { format := le 2 0 b, capEn := bit (u8 2 b) 0, skimHz := le 2 4 b, capCount := n,
    regions := (recs 16 4 (b.drop 0x10)).map (fun r => (le 4 0 r, le 4 4 r, le 4 8 r)), capCells := les 2 (min n 256) 0x50 b,
    badReserved := unclean ([(2, 1, 0xFE), (3, 1, 0xFF), (8, 8, 0xFF)] ++ (List.range 4).map (fun i => (0x1C + 16 * i, 4, 0xFF))) b }

/-! ### The bodies of R319 -/

/-- IDNT (R319). -/
def readIdnt (b : List Byte) : Idnt :=
  { format := le 2 0 b, sealReq := bit (u8 2 b) 0, wdtReset := bit (u8 2 b) 1, integrator := le 4 4 b, product := (b.drop 8).take 24,
    ownerKeyHash := beNat ((b.drop 0x20).take 48), badReserved := unclean [(2, 1, 0xFC), (3, 1, 0xFF)] b }

/-- The two channels of DRAM (R319). -/
def readDram (b : List Byte) : List DramCh :=
  (recs 32 2 (b.drop 0x10)).map (fun r =>
    { fitted := decide (u8 0 r ≠ 0), sizeGib := u8 1 r, ranks := u8 2 r, width := u8 3 r, rate := le 2 4 r, timing := (r.drop 8).take 24 })

/-- ATLS (R319). -/
def readAtls (b : List Byte) : Atls :=
  { format := le 2 0 b, calResume := bit (u8 2 b) 0, steps := le 2 4 b, settleUs := le 2 6 b, accept := le 2 8 b, maxRetire := le 2 10 b,
    badReserved := unclean [(2, 1, 0xFE), (3, 1, 0xFF)] b }

/-- TIME (R319). -/
def readTime (b : List Byte) : TimeSec :=
  let f := u8 6 b
  { format := le 2 0 b, ref := u8 2 b, source := u8 3 b, profile := u8 4 b, domain := u8 5 b, learn := bit f 0, synt := bit f 1, efc := bit f 2,
    stepEn := bit f 3, freeOut := bit f 4, dPps := sle 4 8 b, ppsOfs := sle 4 12 b, classLimit := u8 0x10 b, hoSec := le 4 0x14 b,
    efcCentre := le 4 0x18 b, efcGain := le 4 0x1C b, kp := BitVec.ofNat 32 (le 4 0x20 b), ki := BitVec.ofNat 32 (le 4 0x24 b),
    lockThr := le 4 0x28 b, stepThr := le 4 0x2C b,
    seed := (les 4 128 0x30 b).map (fun w => if w = 2 ^ 31 then none else some (untwos 32 w)),
    badReserved := unclean [(6, 1, 0xE0), (7, 1, 0xFF), (0x11, 3, 0xFF)] b }

/-- NETC (R319); a MASTERS entry of zeros names no master. -/
def readNetc (b : List Byte) : Netc :=
  let f := u8 2 b
  let v := le 2 14 b
  { format := le 2 0 b, aFitted := bit f 0, bFitted := bit f 1, primaryB := bit f 2, aSlow := bit f 4, bSlow := bit f 5,
    foCfg := BitVec.ofNat 32 (le 4 4 b), mac := le 6 8 b, pcp := bits v 15 13, vid := bits v 11 0, clockId := le 8 0x10 b, ipv4 := le 4 0x18 b,
    prefixLen := u8 0x1C b, ipv6 := le 16 0x20 b, masters := (les 16 3 0x30 b).filter (fun a => decide (a ≠ 0)),
    latIn := (List.range 4).map (fun k => sle 4 (0x60 + 8 * k) b), latOut := (List.range 4).map (fun k => sle 4 (0x64 + 8 * k) b),
    badReserved := unclean [(2, 1, 0xC8), (3, 1, 0xFF), (15, 1, 0x10), (0x1D, 3, 0xFF)] b }

/-- HOST (R319). -/
def readHost (b : List Byte) : HostSec :=
  { format := le 2 0 b, steward := u8 2 b, qos := les 1 4 4 b, subsysVid := le 2 8 b, subsysId := les 2 4 10 b, badReserved := unclean [(3, 1, 0xFF)] b }

/-- SIGN (R319). -/
def readSign (b : List Byte) : Sign := { key := b.take 97, sig := (b.drop 0x70).take 96, badReserved := unclean [(0x61, 15, 0xFF)] b }

/-- The sections' fields, from the bodies in HEAD's order (R318, R319). -/
def readImage (l : List SecHdr) : Image :=
  let body (k : Nat) : List Byte := match l[k]? with | none => [] | some q => q.body
  { headFormat := le 2 0 (body 0), headReserved := unclean [(2, 14, 0xFF)] (body 0), idnt := readIdnt (body 1),
    dramFormat := le 2 0 (body 2), dram := readDram (body 2),
    dramReserved := unclean [(2, 14, 0xFF), (0x16, 2, 0xFF), (0x36, 2, 0xFF)] (body 2), fabm := readFabm (body 3), part := readPart (body 4),
    loop := readLoop (body 5), atls := readAtls (body 6), time := readTime (body 7), netc := readNetc (body 8), evtr := readEvtr (body 9),
    dmap := readDmap (body 10), thrm := readThrm (body 11), hkcv := readHkcv (body 12), host := readHost (body 13), sign := readSign (body 14) }

/-- The least length of each section's body, in HEAD's order: what its table lays out (R38, R43, R44, R241, R281, R301, R319, R344). PART
has a record for each instance. -/
def leastLen (insts : Nat) : List Nat :=
  [0x100, 0x50, 0x50, 0x12100, 0x10 + 16 * insts, 0x510, 0x0C, 0x230, 0x80, 0x720, 0x250, 0x80, 0x120, 0x12, 0xD0]

end Sys2Proof.Machine
end

