-- ==== Sys2Proof/Machine/ImageCheck.lean ====
section
/-! DEFINITION. The checks of an image slot and of an atlas slot (R25, R46, R109, R161, R223, R229, R231, R241, R273,
R281, R289, R301, R318-R321, R326, R328, R330, R344). Offsets within a body follow the body's table; where a check covers more
than one field the offset is that of the first field or entry concerned (log 72). -/

namespace Sys2Proof.Machine

/-- A failed check: section tag, byte offset within the slot, item and statement numbers (R321, R336). -/
structure BootFail where
  tag : Nat
  ofs : Nat
  rule : Nat
  deriving DecidableEq, Repr

/-- The tags of the fifteen sections in order, as little-endian words (R318). -/
def sectionTags : List Nat :=
  [0x44414548, 0x544E4449, 0x4D415244, 0x4D424146, 0x54524150, 0x504F4F4C, 0x534C5441, 0x454D4954, 0x4354454E,
   0x52545645, 0x50414D44, 0x4D524854, 0x56434B48, 0x54534F48, 0x4E474953]

/-- A failed content rule: section index and body offset; the section header is 16 bytes long (R318). -/
abbrev BodyFail := Option (Nat × Nat × Nat)

/-- The first failure of a list of checks. -/
def firstFail : List BodyFail → BodyFail
  | [] => none
  | some f :: _ => some f
  | none :: rest => firstFail rest

/-- A check of section `sec` at body offset `o` under a rule. -/
def need (ok : Bool) (sec o rule : Nat) : BodyFail := if ok then none else some (sec, o, rule)

/-- Item `k` of R46 as `LCS_BOOT_RULE` records it. -/
def r46 (k : Nat) : Nat := k * 65536 + 46

/-- A check of every element of a table: the failing entry's offset is `base + size × index + field`. -/
def needAll {α : Type} (ok : Nat → α → Bool) (l : List α) (sec base size field rule : Nat) : BodyFail :=
  (firstIx ok 0 l).map (fun i => (sec, base + size * i + field, rule))

/-! ### R46 -/

/-- The Topologies table (R25): the shape of one descriptor. -/
def topoOk (d : InstDesc) : Bool :=
  let bits : Bool :=
    if d.topo = 1 then decide (2 ≤ d.log2n ∧ d.log2n ≤ 9 ∧ d.n = 2 ^ d.log2n ∧ d.logicalCount = (2 * d.log2n - 1) * (d.n / 2))
    else if d.topo = 2 then
      decide (2 ≤ d.log2n ∧ d.log2n ≤ 8 ∧ d.n = 2 ^ d.log2n ∧ d.logicalCount = 4 * ((2 * d.log2n - 1) * (d.n / 2)))
    else if d.topo = 3 then decide (d.log2n = 0 ∧ 2 ≤ d.n ∧ d.n ≤ 64 ∧ d.logicalCount = d.n * d.n)
    else if d.topo = 4 then decide (d.log2n = 0 ∧ 1 ≤ d.n ∧ d.n ≤ 256 ∧ 1 ≤ d.logicalCount ∧ d.logicalCount ≤ 2048)
    else false
  let table := if d.topo = 4 then decide (1 ≤ d.routeCount ∧ d.routeCount ≤ 16384 ∧ d.tableLength ≤ 2 ^ 20)
    else decide (d.routeCount = 0 ∧ d.tableOffset = 0)
  bits && table && decide (d.inBase + d.n ≤ 1024) && decide (d.outBase + d.n ≤ 1024) &&
    (decide (d.inBase + d.n ≤ d.outBase) || decide (d.outBase + d.n ≤ d.inBase))

/-- Item 3 of R46 for one instance. -/
def coverOk (f : Fabm) (i : Nat) (d : InstDesc) : Bool :=
  let mine := f.cells.filter (fun e => e.inst = i)
  let sw := sortNat ((mine.filter (fun e => e.role = 1)).map CellEntry.logical)
  decide (sw = List.range d.logicalCount) && decide ((mine.filter (fun e => e.role = 2)).length = d.gateCount) &&
    decide ((mine.filter (fun e => e.role = 3)).length = d.trimCount)

/-- The port-end entry of an id in a map. -/
def mapPort (f : Fabm) (p : Nat) : PortEntry := (f.ports.find? (fun e => e.id = p)).getD { id := p }

/-- Directions and instances that the descriptors give a port end (R32): one for each range that holds it. -/
def portClaims (ds : List InstDesc) (p : Nat) : List (Nat × Nat) :=
  let within (b n : Nat) : Bool := decide (b ≤ p) && decide (p < b + n)
  ((List.range ds.length).zip ds).flatMap (fun (q : Nat × InstDesc) =>
    (if within q.2.inBase q.2.n then [(1, q.1)] else []) ++ (if within q.2.outBase q.2.n then [(2, q.1)] else []))

/-- Item 4 of R46 for one port end: what every range that holds it gives it, and no use where none does. -/
def portOk (f : Fabm) (ds : List InstDesc) (p : Nat) : Bool :=
  let e := mapPort f p
  let cs := portClaims ds p
  cs.all (fun q => decide (q = (e.dir, e.inst))) && (!cs.isEmpty || decide (e.dir = 0))

/-- The cell entry of a number in a map. -/
def mapCell (f : Fabm) (n : Nat) : CellEntry := (f.cells.find? (fun e => e.n = n)).getD { n := n, role := 0 }

/-- Item 5 of R46 from the port end's side (R34). The INST of a GATE or TRIM cell is not held against that of the port end it serves
(DESIGN CHOICE, log 163). -/
def servedOk (f : Fabm) (e : PortEntry) : Bool :=
  (decide (e.gate = 0xFFFF) || (decide ((mapCell f e.gate).role = 2) && decide ((mapCell f e.gate).logical = e.id))) &&
    (decide (e.trim = 0xFFFF) || (decide ((mapCell f e.trim).role = 3) && decide ((mapCell f e.trim).logical = e.id)))

/-- Item 5 of R46 from the cell's side (R34). -/
def namedBack (f : Fabm) (e : CellEntry) : Bool :=
  if e.role = 2 then decide ((mapPort f e.logical).gate = e.n)
  else if e.role = 3 then decide ((mapPort f e.logical).trim = e.n) else true

/-- No tap number appears twice (item 6 of R46): the first port end whose tap an earlier one has. -/
def tapClash : List Nat → List PortEntry → Option Nat
  | _, [] => none
  | seen, e :: es =>
    if e.tap = 0xFFFF then tapClash seen es else if seen.contains e.tap then some e.id else tapClash (e.tap :: seen) es

/-- Bytes of a route record (R42). -/
def routeSize (r : Route) : Nat := 8 + 4 * r.steps.length

/-- Item 8 of R46 for one instance. -/
def routesOk (d : InstDesc) : Bool :=
  if d.topo ≠ 4 then true
  else
    decide (d.routes.length = d.routeCount) && decide ((d.routes.map routeSize).sum ≤ d.tableLength) &&
    d.routes.all (fun r => decide (r.inp < d.n) && decide (r.out < d.n) && decide (1 ≤ r.steps.length) && decide (r.steps.length ≤ 32) &&
      r.steps.all (fun t => decide (t.cell < d.logicalCount) && decide (t.state < 2) && decide (t.arm < 2)))

/-- Offset of the first non-zero reserved byte of a section's body. -/
def needReserved (o : Option Nat) (sec rule : Nat) : BodyFail := o.map (fun b => (sec, b, rule))

/-- The nine items of R46, each over all its entries, in order. DESIGN CHOICE (log 136) where R46 names no check of what another rule
says: port ranges that overlap or pass 1,023, and ROUTE_COUNT or TABLE_OFFSET of an instance other than TABLE, fail item 2; a
STEP_COUNT outside 1–32, a step's state or arm above 1, fail item 8; class records from CLASS_COUNT on and BODY_LENGTH are not
checked; a TAP of 1,024 to 0xFFFE passes (log 162). -/
def checkMap (i : Image) : BodyFail :=
  let f := i.fabm
  let ds := f.insts.take f.instCount
  firstFail
    [need (decide (f.format = 1)) 3 0 (r46 1), need (decide (i.part.format = 1)) 4 0 (r46 1), need (decide (i.loop.format = 1)) 5 0 (r46 1),
     need (decide (1 ≤ f.instCount ∧ f.instCount ≤ 4 ∧ f.insts.length = f.instCount)) 3 2 (r46 1),
     need (decide (i.part.instCount = f.instCount ∧ i.part.recs.length = f.instCount)) 4 2 (r46 1),
     need (decide (1 ≤ i.loop.classCount ∧ i.loop.classCount ≤ 16)) 5 2 (r46 1),
     needAll (fun _ d => topoOk d) ds 3 0x20 32 0 (r46 2),
     need (decide ((ds.map (fun d => d.logicalCount + d.gateCount + d.trimCount)).sum ≤ 8192)) 3 0x20 (r46 2),
     need (decide ((ds.map (fun d => 2 * d.n)).sum ≤ 1024)) 3 0x20 (r46 2),
     needAll (fun k d => coverOk f k d) ds 3 0x20 32 8 (r46 3),
     needAll (fun p _ => portOk f ds p) (List.range 1024) 3 0x10100 8 2 (r46 4),
     needAll (fun p _ => servedOk f (mapPort f p)) (List.range 1024) 3 0x10100 8 4 (r46 5),
     (f.cells.find? (fun e => !namedBack f e)).map (fun e => (3, 0x100 + 8 * e.n + 2, r46 5)),
     (tapClash [] f.ports).map (fun p => (3, 0x10100 + 8 * p, r46 6)),
     (f.cells.find? (fun e => decide (i.loop.classCount ≤ e.cls))).map (fun e => (3, 0x100 + 8 * e.n + 4, r46 7)),
     needReserved f.badReserved 3 (r46 7), needReserved i.part.badReserved 4 (r46 7), needReserved i.loop.badReserved 5 (r46 7),
     needAll (fun _ d => routesOk d) ds 3 0x20 32 0x10 (r46 8),
     needAll (fun k (r : PartRec) => decide (r.inst = k)) i.part.recs 4 0x10 16 0 (r46 9),
     needAll (fun _ (r : PartRec) => decide (r.owner < 4)) i.part.recs 4 0x10 16 1 (r46 9),
     needAll (fun _ (r : PartRec) => decide (r.policy < 3)) i.part.recs 4 0x10 16 2 (r46 9),
     (f.cells.find? (fun e => decide (3 < e.role))).map (fun e => (3, 0x100 + 8 * e.n, r46 9)),
     (f.cells.find? (fun e => if e.role = 0 then decide (e.inst ≠ 0xFF) else decide (4 ≤ e.inst))).map
       (fun e => (3, 0x100 + 8 * e.n + 1, r46 9)),
     (f.ports.find? (fun e => decide (2 < e.dir) || (if e.dir = 0 then decide (e.inst ≠ 0xFF) else decide (4 ≤ e.inst)))).map
       (fun e => (3, 0x10100 + 8 * e.id + 2, r46 9))]

/-! ### The other content rules -/

/-- At most 32 cells belong to classes whose heater is in CURR mode (R109); an UNUSED cell belongs to no class, whatever its CLASS
byte (DEDUCED, log 164). -/
def checkCurr (i : Image) : BodyFail :=
  let curr (e : CellEntry) : Bool := e.role ≠ 0 && decide ((i.loop.classes.getD e.cls {}).hMode = 1)
  match (i.fabm.cells.filter curr)[32]? with
  | none => none
  | some e => some (5, 0x110 + 64 * e.cls + 1, 109)

/-- A host may take a source on its channels (R223). -/
def hostSource (steward : Nat) (pinOwner : Nat → Nat) (h src : Nat) : Bool :=
  src = 0 || src = 0x01 || src = 0x20 || src = 0x30 || src = 0x31 || (decide (0x50 ≤ src) && decide (src ≤ 0x52))
    || (decide (0xB0 ≤ src) && decide (src ≤ 0xB2) && decide (h = steward)) || src = 0xC0 + h
    || (decide (0xD0 ≤ src) && decide (src ≤ 0xDF) && decide (pinOwner (src - 0xD0) = h))

/-- A defined source code (R223). -/
def anySource (src : Nat) : Bool :=
  let within (a b : Nat) : Bool := decide (a ≤ src) && decide (src ≤ b)
  src = 0 || src = 0x01 || within 0x10 0x17 || within 0x18 0x1F || src = 0x20 || src = 0x30 || src = 0x31 || within 0x40 0x44
    || within 0x50 0x52 || within 0x60 0x63 || within 0x80 0xA0 || within 0xB0 0xB2 || within 0xC0 0xC3 || within 0xD0 0xDF || src = 0xF0

/-- A channel may take a source (R223, R229): owner 4 is firmware. -/
def sourceOk (steward : Nat) (pinOwner : Nat → Nat) (owner : Nat) (sec : Bool) (src : Nat) : Bool :=
  if owner < 4 then hostSource steward pinOwner owner src
  else if sec then anySource src
  else ([0, 1, 2, 3] : List Nat).any (fun h => hostSource steward pinOwner h src)

/-- A host's channel may be selected by a consumer (R231). -/
def hostConsumer (steward : Nat) (pinOwner : Nat → Nat) (groupOwned : Nat → Nat → Bool) (h x : Nat) : Bool :=
  if x = 44 then true
  else if x = 43 ∨ x = 45 ∨ x = 46 then decide (h = steward)
  else if 48 ≤ x ∧ x < 64 then decide (pinOwner (x - 48) = h)
  else if 64 ≤ x ∧ x < 96 then groupOwned h ((x - 64) % 16)
  else false

/-- A channel may be selected by a consumer (R229, R231). Of the consumers that a host may select, a non-secure channel of firmware
selects those that some host is permitted, GPIO_OUT of firmware's own pins among them: a pin is only its owner's (DEDUCED, log
157). -/
def consumerOk (steward : Nat) (pinOwner : Nat → Nat) (groupOwned : Nat → Nat → Bool) (x owner : Nat) (sec : Bool) : Bool :=
  if x < 8 ∨ x = 47 then false
  else if owner < 4 then hostConsumer steward pinOwner groupOwned owner x
  else if 48 ≤ x ∧ x < 64 then decide (pinOwner (x - 48) = 4)
  else if sec then true
  else ([0, 1, 2, 3] : List Nat).any (fun h => hostConsumer steward pinOwner groupOwned h x)

/-- The checks of EVTR (R241). -/
def checkEvtr (i : Image) : BodyFail :=
  let e := i.evtr
  let pin (n : Nat) : Nat := e.gpioOwner.getD n 4
  let own (ch : Nat) : EvtrCh := e.chans.getD ch {}
  let grp (h g : Nat) : Bool := (List.range 8).all (fun k => decide ((own (8 * g + k)).owner = h))
  let conOk (x : Nat) (c : EvtrCon) : Bool := c.sel.all (fun q => !bit q 7 || consumerOk i.host.steward pin grp x (own (q % 128)).owner (own (q % 128)).sec)
  firstFail
    [need (decide (e.format = 1)) 9 0 241, needReserved e.badReserved 9 318,
     need (decide (e.gpioInit &&& (0xFFFF - e.gpioDir % 65536) = 0)) 9 6 241,
     needAll (fun _ (o : Nat) => decide (o ≤ 4)) e.gpioOwner 9 0x00C 1 0 241,
     needAll (fun _ (c : EvtrCh) => decide (c.owner ≤ 4)) e.chans 9 0x20 8 0 241,
     needAll (fun _ (c : EvtrCh) => decide (4 ≤ c.owner) || (!c.sec && !c.en)) e.chans 9 0x20 8 1 241,
     needAll (fun _ (c : EvtrCh) => sourceOk i.host.steward pin c.owner c.sec c.src) e.chans 9 0x20 8 2 241,
     needAll conOk e.cons 9 0x420 8 0 241,
     needAll (fun x (c : EvtrCon) => decide (8 ≤ x) || (c.sel.all (fun q => decide (q = 0)) && !c.f2 && decide (c.action = 0) && decide (c.width = 0))) e.cons
       9 0x420 8 0 241,
     needAll (fun x (c : EvtrCon) => !(decide (48 ≤ x) && decide (x < 64) && !bit e.gpioDir (x - 48)) || c.sel.all (fun q => !bit q 7)) e.cons 9 0x420 8 0 241]

/-- Inputs of a core's sequence, entries in use (R273, R282): AIN pairs 0–15. -/
def seqPairs (l : List SeqEntry) : List Nat := (l.map SeqEntry.input).filter (fun n => decide (n < 16))

/-- Two cores' sequences obey R273: no pair in both, OSC_PAIR in none. -/
def seqsOk (osc : Nat) (a b : List SeqEntry) : Bool :=
  !((seqPairs a).any (fun n => (seqPairs b).contains n)) && !((seqPairs a ++ seqPairs b).contains osc)

/-- The checks of HKCV (R281). -/
def checkHkcv (i : Image) : BodyFail :=
  let h := i.hkcv
  let core (c : CoreCfg) : Bool := decide (1 ≤ c.len ∧ c.len ≤ 16 ∧ c.rate ≤ 8 ∧ 1 ≤ c.thresh ∧ c.thresh ≤ 64)
  firstFail
    [need (decide (h.format = 1)) 12 0 281, needReserved h.badReserved 12 318,
     need (core h.core1) 12 2 281, need (core h.core2) 12 3 281,
     need (decide (h.oscPair < 16) || decide (h.oscPair = 0xFF)) 12 8 281,
     need (decide (h.oscPair = 0xFF) || h.vrefOutEn) 12 9 281,
     needAll (fun _ (q : Nat × Nat) => decide (100000 ≤ q.1 ∧ q.1 ≤ 1000000)) ((h.rtd ++ List.replicate 16 (0, 0)).take 16) 12 0x20 8 0 281,
     need (seqsOk h.oscPair (h.core1.seq.take h.core1.len) (h.core2.seq.take h.core2.len)) 12 0xA0 281]

/-- One triple of thresholds against its defaults (R289). -/
def limitsOk (l d : Limits) (top : Int) : Bool :=
  decide (l.warnSet ≤ d.warnSet ∧ l.warnClr ≤ d.warnClr ∧ l.thrSet ≤ d.thrSet ∧ l.thrClr ≤ d.thrClr ∧ l.shutSet ≤ top ∧
    l.shutClr ≤ d.shutClr ∧ l.warnClr + 512 ≤ l.warnSet ∧ l.thrClr + 512 ≤ l.thrSet ∧ l.shutClr + 512 ≤ l.shutSet ∧
    l.warnSet ≤ l.thrSet ∧ l.thrSet ≤ l.shutSet)

/-- The checks of THRM (R289, R301). -/
def checkThrm (i : Image) : BodyFail :=
  let t := i.thrm
  let d : Thrm := {}
  firstFail
    [need (decide (t.format = 1)) 11 0 301, needReserved t.badReserved 11 318,
     need (decide (5 ≤ t.roundMs ∧ t.roundMs ≤ 50)) 11 2 301, need (decide (1 ≤ t.persist ∧ t.persist ≤ 4)) 11 3 301,
     need (limitsOk t.die d.die 0x7D00) 11 4 289, need (limitsOk t.anc d.anc d.anc.shutSet) 11 0x10 289,
     need (decide (2 ≤ t.skipN ∧ t.skipN ≤ 16)) 11 0x1C 301, need (decide (1 ≤ t.recHz ∧ t.recHz ≤ 1024)) 11 0x1E 301,
     need (decide (1000 ≤ t.derStart ∧ t.derStart ≤ 65534)) 11 0x20 301, need (decide (t.derFloor ≤ t.derStart)) 11 0x22 301,
     need (decide (1000 ≤ t.iLim ∧ t.iLim ≤ 36000)) 11 0x24 301,
     needAll (fun _ (x : Int) => decide (-10240 ≤ x ∧ x ≤ 10240)) t.delta 11 0x28 2 0 301,
     need (decide (10000 ≤ t.pLim ∧ t.pLim ≤ 110000)) 11 0x4C 301]

/-- The checks of DMAP (R344). -/
def checkDmap (i : Image) : BodyFail :=
  let d := i.dmap
  let reg (k : Nat) : Nat × Nat × Nat := d.regions.getD k (0, 0, 0)
  let here (k : Nat) : Bool := decide (k < i.fabm.instCount)
  let rs := (List.range 4).map reg
  let fits (c : DramCh) : Bool :=
    !c.fitted || decide ((((List.range 4).filter here).map (fun k => 1 + (reg k).1 + (reg k).2.1 / 2 + (reg k).2.2 / 2)).sum + 2048
      ≤ c.sizeGib * 1024)
  let cellOk (n : Nat) : Bool :=
    let e := mapCell i.fabm n
    decide (e.role ≠ 0) && decide ((reg e.inst).2.2 ≠ 0)
  firstFail
    [need (decide (d.format = 1)) 10 0 344, needReserved d.badReserved 10 318,
     need (decide (1 ≤ d.skimHz ∧ d.skimHz ≤ 1024)) 10 4 344, need (decide (d.capCount ≤ 256 ∧ d.capCells.length = d.capCount)) 10 6 344,
     needAll (fun k (q : Nat × Nat × Nat) => if here k then decide (1 ≤ q.1 ∧ q.1 ≤ 1024 ∧ 2 ≤ q.2.1) else decide (q = (0, 0, 0))) rs
       10 0x10 16 0 344,
     needAll (fun _ (q : Nat × Nat × Nat) => decide (q.2.1 % 2 = 0 ∧ q.2.2 % 2 = 0)) rs 10 0x10 16 4 344,
     need (decide ((rs.map (fun q => q.2.1 + q.2.2)).sum ≤ 122880)) 10 0x10 344,
     need (decide ((rs.map (fun q => q.2.2)).sum ≤ 16384)) 10 0x10 344,
     needAll (fun k (n : Nat) => cellOk n && !((d.capCells.take k).contains n)) d.capCells 10 0x50 2 0 344,
     need ((i.dram.take 2).all fits) 10 0x10 344]

/-- The field ranges of R319. -/
def checkRanges (i : Image) : BodyFail :=
  firstFail
    [need (decide (i.idnt.format = 1)) 1 0 319, needReserved i.idnt.badReserved 1 318,
     need (decide (i.dramFormat = 1)) 2 0 319, needReserved i.dramReserved 2 318,
     needAll (fun _ (c : DramCh) => !c.fitted || decide (1 ≤ c.sizeGib ∧ c.sizeGib ≤ 64 ∧ 1 ≤ c.ranks ∧ c.ranks ≤ 2 ∧
       (c.width = 4 ∨ c.width = 8 ∨ c.width = 16) ∧ 3200 ≤ c.rate ∧ c.rate ≤ 6400)) i.dram 2 0x10 32 1 319,
     need (decide (i.atls.format = 1)) 6 0 319, needReserved i.atls.badReserved 6 318,
     need (decide (64 ≤ i.atls.steps ∧ i.atls.steps ≤ 1024)) 6 4 319, need (decide (50 ≤ i.atls.settleUs ∧ i.atls.settleUs ≤ 2000)) 6 6 319,
     need (decide (i.atls.accept ≤ 1174)) 6 8 319,
     need (decide (i.time.format = 1)) 7 0 319, needReserved i.time.badReserved 7 318,
     need (decide (i.time.ref < 4)) 7 2 319, need (decide (i.time.source ≤ 2)) 7 3 319,
     need (decide (1 ≤ i.time.profile ∧ i.time.profile ≤ 2)) 7 4 319,
     need (decide (i.netc.format = 1)) 8 0 319, needReserved i.netc.badReserved 8 318,
     need (decide (i.host.format = 1)) 13 0 319, needReserved i.host.badReserved 13 318,
     need (decide (i.host.steward < 4)) 13 2 319,
     needAll (fun _ (q : Nat) => decide (q < 16)) i.host.qos 13 4 1 0 319,
     need (decide (i.host.qos.getD i.host.steward 0 < 15)) 13 (4 + i.host.steward) 321]

/-- The content rules in the order of R321, step 6. `ref` is the reference frequency detected, none without one (R161). -/
def checkContent (ref : Option Nat) (i : Image) : BodyFail :=
  firstFail
    [checkMap i, checkCurr i, need (match ref with | none => true | some f => decide (i.time.ref = f)) 7 2 161,
     checkEvtr i, checkHkcv i, checkThrm i, checkDmap i, checkRanges i]

/-! ### Slots -/

/-- The field of a directory entry that is at fault: its tag is not the one due there, or differs from the section header's; its
offset is not on a 16 B boundary or runs into what stands before it, HEAD's is not 64; its length is not that of header and
body, or passes the end of the image, where SIGN ends (R318, R319, R321). -/
def secFault (k limit floor : Nat) (q : SecHdr) : Option Nat :=
  if q.dirTag ≠ sectionTags.getD k 0 ∨ q.tag ≠ q.dirTag then some 0
  else if q.offset % 16 ≠ 0 ∨ q.offset < floor ∨ (k = 0 ∧ q.offset ≠ 64) then some 4
  else if q.length ≠ 16 + q.bodyLen ∨ limit < q.offset + q.length ∨ (k = 14 ∧ q.offset + q.length ≠ limit) then some 8
  else none

/-- The first fault of the directory: its offset from HEAD's section header (R319, R321). -/
def dirFault (limit : Nat) : Nat → Nat → List SecHdr → Option Nat
  | _, _, [] => none
  | k, floor, q :: qs =>
    match secFault k limit floor q with
    | some o => some (32 + 16 * k + o)
    | none => dirFault limit (k + 1) (q.offset + q.length) qs

/-- Reserved bytes of HEAD, of its entries and of SIGN, and HEAD's FORMAT (R318, log 72). -/
def frameFault (l : List SecHdr) (i : Image) : BodyFail :=
  firstFail
    [need (decide (i.headFormat = 1)) 0 0 319, needReserved i.headReserved 0 318,
     (firstIx (fun _ (h : SecHdr) => decide (h.dirReserved = 0)) 0 l).map (fun k => (0, 28 + 16 * k, 318)),
     needReserved i.sign.badReserved 14 318]

/-- The first failure of the checks of a slot. -/
def firstBoot : List (Option BootFail) → Option BootFail
  | [] => none
  | some f :: _ => some f
  | none :: rest => firstBoot rest

/-- Step 1: the header (R318, R321). -/
def hdrFault (h : SlotHdr) : Option BootFail :=
  let hdr (ok : Bool) (o rule : Nat) : Option BootFail := if ok then none else some ⟨0, o, rule⟩
  firstBoot
    [hdr (decide (h.magic = 0x4B524F4B)) 0 321, hdr (decide (h.format = 1)) 4 321, hdr (decide (h.target = 0x5A470008)) 0x10 321,
     hdr (decide (h.hdrCrc = crc32c h.body)) 0x3C 321, hdr (decide (h.length ≤ 0x7F0000)) 0x0C 321]

/-- Step 2: the ACT word (R321, R328). -/
def actFault (act : Word) : Option BootFail := if act = 0 then none else some ⟨0, 0x7F0000, 328⟩

/-- Where a section begins. -/
def secAt (l : List SecHdr) (k : Nat) : Nat := (l.map SecHdr.offset).getD k 64

/-- A failure at an offset from a section's header. -/
def inSec (l : List SecHdr) (k o rule : Nat) : BootFail := ⟨sectionTags.getD k 0, secAt l k + o, rule⟩

/-- Step 3: SECTIONS and HEAD's directory (R319, R321). -/
def dirCheck (h : SlotHdr) (l : List SecHdr) : Option BootFail :=
  firstBoot [if h.sections = 15 then none else some ⟨0, 6, 321⟩, (dirFault h.length 0 64 l).map (fun o => inSec l 0 o 321)]

/-- Step 4: each BODY_CRC (R318, R321). -/
def crcCheck (l : List SecHdr) : Option BootFail :=
  (firstIx (fun _ (h : SecHdr) => decide (crc32c h.body = h.bodyCrc)) 0 l).map (fun k => inSec l k 8 321)

/-- Step 5: the signature over every byte before SIGN's section header, and in SEALED the hash of KEY; `key` gives the fused hash
(R320). -/
def signCheck (key : Option Nat) (bytes : List Byte) (l : List SecHdr) (q : Sign) : Option BootFail :=
  firstBoot
    [if signatureOk q.key q.sig (sha384 (bytes.take (secAt l 14))) then none else some (inSec l 14 0x80 320),
     match key with | none => none | some h => if sha384 q.key = h then none else some (inSec l 14 0x10 320)]

/-- Step 6: the bodies hold what their tables lay out (DESIGN CHOICE, log 173), then the content rules, then the reserved bytes that no
content rule names. -/
def bodyCheck (ref : Option Nat) (h : SlotHdr) (l : List SecHdr) (i : Image) : Option BootFail :=
  let body (f : Nat × Nat × Nat) : BootFail := inSec l f.1 (16 + f.2.1) f.2.2
  firstBoot
    [(firstIx (fun _ (q : SecHdr × Nat) => decide (q.2 ≤ q.1.bodyLen)) 0 (l.zip (leastLen i.part.instCount))).map (fun k => inSec l k 4 318),
     (checkContent ref i).map body,
     (firstIx (fun _ (b : Byte) => decide (b = 0)) 0 h.reserved).map (fun o => (⟨0, 0x1C + o, 318⟩ : BootFail)),
     (firstIx (fun _ (h : SecHdr) => decide (h.reserved = 0)) 0 l).map (fun k => inSec l k 12 318),
     (frameFault l i).map body]

/-- Steps 3 to 6 over the bytes of a slot (R321). -/
def restFault (key ref : Option Nat) (bytes : List Byte) : Option BootFail :=
  let h := readHdr bytes
  let l := readDir bytes
  let i := readImage l
  firstBoot [dirCheck h l, crcCheck l, signCheck key bytes l i.sign, bodyCheck ref h l i]

/-- The checks of an image slot in the order of R321. `act` says that step 2 counts (R327); `key` gives the fused key hash
in SEALED (R320). -/
def checkSlot (act : Bool) (key : Option Nat) (ref : Option Nat) (q : ImageSlot) : Option BootFail :=
  firstBoot [hdrFault (readHdr q.bytes), if act then actFault q.act else none, restFault key ref q.bytes]

/-- The fields of an image's sections (R318, R319). -/
def imageOf (bytes : List Byte) : Image := readImage (readDir bytes)

/-- g_a is newer than g_b (R326). -/
def newerGen (a b : Word) : Bool := decide (1 ≤ (a - b).toNat) && decide ((a - b).toNat < 2 ^ 31)

/-- The order in which firmware tries two slots: the newer first, A where equal (R326). An erased slot has no generation and is
tried last. -/
def slotOrder (a b : Option Word) : List Nat :=
  match a, b with
  | some x, some y => if newerGen y x then [1, 0] else [0, 1]
  | none, some _ => [1, 0]
  | _, _ => [0, 1]

/-- An atlas slot is usable: its header is programmed, both CRCs match, PIC and CELL table are those of the running image (R330). -/
def atlasUsable (f : Fabm) (a : AtlasSlot) : Bool :=
  a.headed && decide (a.hdrCrc = a.hdrSum) && decide (a.bodyCrc = a.bodySum) && decide (a.picId = f.picId) && decide (a.picRev = f.picRev) &&
    decide (a.cellsCrc = f.tableCrc)

end Sys2Proof.Machine
end

