-- ==== Sys2Proof/Machine/TimeFam.lean ====
section
/-! DEFINITION. The time base's commands: counters, ERA, steps and loads, compare and capture units, PPS, the servo,
temperature learning, holdover (R161-R187). -/

namespace Sys2Proof.Machine

/-! ### The servo's state -/

/-- TRACEABLE: time is untraceable where PPS_IN is the phase source and no origin was ever set from PTP (R177). -/
def State.traceable (s : State) : Bool := !(s.image.time.source = 2 && !s.time.originPtp)

/-- The servo state changes, with what its entry starts and its leaving clears, and the TIME_STATE notice
(R180, R183, R184, R211). -/
def State.setSrv (n : SrvState) (s : State) : State :=
  if s.time.srv = n then s
  else
    let t := s.time
    let t := { t with srv := n, hoAt := if n = .holdover then some s.now else none, hoSpec := false, yD := 0, ppsGood := 0 }
    let t := if n = .locked then { t with lockedAt := s.now, learnY := 0, learnT := 0, learnN := 0, learnBad := false,
                                          hours := [], hourI := 0, hourN := 0 } else t
    ({ s with time := t } : State).notifyAll 4 (leBytes 1 n.code ++ leBytes 1 (b2n s.traceable))

/-- The section's KI, which suits 16 updates per second, scaled to another rate of updates so that the time constant stays
(R181; DEDUCED, log 153). -/
def State.scaledKi (s : State) (rate : Nat) : Word :=
  let k := s.image.time.ki.toNat * 16
  BitVec.ofNat 32 (min 0xFFFFFFFF (if rate = 0 then k else (k + rate / 2) / rate))

/-- Firmware enters HOLDOVER, from ACQUIRE or LOCKED (R180, R181). -/
def State.enterHoldover (s : State) : State :=
  if s.firmware = true ∧ (s.time.srv = .acquire ∨ s.time.srv = .locked) then s.setSrv .holdover else s

/-! ### Counters -/

/-- The total correction, limited to 200 ppm (R163). -/
def Time.yTotal (t : Time) : Rat := clampR (-200000000) 200000000 (t.yT + t.yD + t.ySrv)

/-- Codes per ppt of the oscillator trim (R187). -/
def State.efcG (s : State) : Rat := (s.image.time.efcGain : Rat) / 65536

/-- The correction that INC carries: all of it, or with EFC_MODE the part the oscillator trim does not carry
(R163, R187). -/
def State.yInc (s : State) : Rat :=
  let y := s.time.yTotal
  if s.time.efcMode = true ∧ s.efcG ≠ 0 then
    y - (((s.sys.efcCode : Int) - (s.image.time.efcCentre : Int) : Int) : Rat) / s.efcG
  else y

/-- INC is reloaded from y; the rounding residue is carried to the next load (R163). -/
def incReload (s : State) : State :=
  let raw : Rat := 4 * 2 ^ 32 + s.yInc * 4 * 2 ^ 32 / 1000000000000 + s.time.residue
  let inc := (clampI 1 (2 ^ 40 - 1) (roundNear raw)).toNat
  { s with time := { s.time with inc := inc, residue := raw - inc, y := s.time.yTotal } }

/-- INC_RELOAD (R163). -/
def execIncReload (s : State) : Host.Outcome State Fault Refusal := .next (if s.time.run then incReload s else s)

/-- WNS reaches its wrap (R164). -/
def nsWrap (s : State) : State :=
  match reach 5000000000 (s.now + (2 ^ 32 - s.time.wns : Nat)) s with | none => s | some s => s

/-- NS_WRAP (R164). -/
def execNsWrap (s : State) : Host.Outcome State Fault Refusal := .next (nsWrap s)

/-- Firmware's write of ERA: only ERA + 1 while ERA_STALE is set (R170). -/
def eraWrite (v : Word) (s : State) : State :=
  if s.time.eraStale = true ∧ v.toNat = (s.time.era + 1) % 2 ^ 32 then
    { s with time := { s.time with era := v.toNat, eraStale := false } }
  else { s with time := { s.time with eraWrErr := true } }

/-- ERA_WRITE (R170). -/
def execEraWrite (v : Word) (s : State) : Host.Outcome State Fault Refusal := .next (eraWrite v s)

/-- WNS reaches 2³¹ with ERA_STALE still set (R170). -/
def reachEraAuto (s : State) : State :=
  if s.time.eraStale = true ∧ s.time.wns < 2 ^ 31 then
    match reach 2200000000 (s.now + (2 ^ 31 - s.time.wns : Nat)) s with | none => s | some s => s
  else s

/-- ERA_AUTO_INCREMENT (R170). -/
def execEraAutoIncrement (s : State) : Host.Outcome State Fault Refusal := .next (reachEraAuto s)

/-- SPH reaches its wrap (R165). -/
def topOfSecond (s : State) : State :=
  match reach 1100000000 (s.now + (1000000000 - s.time.sph : Nat)) s with | none => s | some s => s

/-- TOP_OF_SECOND (R165). -/
def execTopOfSecond (s : State) : Host.Outcome State Fault Refusal := .next (topOfSecond s)

/-! ### Steps and loads -/

/-- A step request; one beyond 1 s is ignored and sets STEP_ERR (R167). -/
def stepWrite (v : Word) (s : State) : State :=
  if 1000000000 < v.toInt ∨ v.toInt < -1000000000 then { s with time := { s.time with stepErr := true } }
  else { s with time := { s.time with stepReg := v, stepPend := some v.toInt } }

/-- TIME_STEP_WRITE (R167). -/
def execTimeStepWrite (v : Word) (s : State) : Host.Outcome State Fault Refusal := .next (stepWrite v s)

/-- Shift an optional instant. -/
def shiftOpt (d : Int) : Option Int → Option Int := Option.map (· + d)

/-- Instants of a cluster that count elapsed time (R96, R107, R114, R121, R124, R169). -/
def Cluster.shift (d : Int) (k : Cluster) : Cluster :=
  { k with lastB := shiftOpt d k.lastB, latch := k.latch.map (fun q => (q.1 + d, q.2)), satAt := k.satAt.map (shiftOpt d),
           cells := k.cells.map (fun c => { c with brkAt := c.brkAt + d, hoTrackAt := shiftOpt d c.hoTrackAt, modAt := c.modAt + d }),
           ptap := k.ptap.map (fun p => { p with stepAt := shiftOpt d p.stepAt }) }

/-- S and B of an epoch that has met them, as hardware counts: steps do not affect open epochs (R148). -/
def Epoch.shift (d : Int) (e : Epoch) : Epoch := { e with sealAt := shiftOpt d e.sealAt, openAt := shiftOpt d e.openAt }

/-- A capture held by system calibration, whose age is counted (R278). -/
def Capture.shift (d : Int) (c : Capture) : Capture := { c with atX := c.atX + d }

/-- Instants of the converters that count elapsed time (R269, R272, R278). -/
def Hkc.shift (d : Int) (h : Hkc) : Hkc :=
  { h with slotAt := h.slotAt + d, sys := h.sys.map (fun q => { q with cz := q.cz.map (Capture.shift d), cf := q.cf.map (Capture.shift d) }) }

/-- After a step or load by `d` the instants that mark elapsed time move with the counters, so every interval keeps its
counted length (R169); the Skim snapshots of the second entered count from its first one ahead (R340). -/
def State.shiftX (d : Int) (s : State) : State :=
  { s with
    clusters := s.clusters.map (Cluster.shift d)
    islands := s.islands.map (fun i => { i with predFrom := i.predFrom + d })
    hkc := s.hkc.shift d
    sys := { s.sys with efcEdge := s.sys.efcEdge + d, wdtAt := s.sys.wdtAt + d }
    fab := { s.fab with slots := s.fab.slots.map (fun q => { q with ep := q.ep.map (Epoch.shift d) }) }
    spares := s.spares.map (fun p => { p with failAt := p.failAt + d, firstAt := shiftOpt d p.firstAt })
    evt := { s.evt with chans := s.evt.chans.map (fun c => { c with holdEnd := c.holdEnd + d, winEnd := c.winEnd + d }),
                        gpio := s.evt.gpio.map (fun g => { g with pulseEnd := shiftOpt d g.pulseEnd }),
                        cons := s.evt.cons.map (fun x => { x with arrAt := shiftOpt d x.arrAt }),
                        groupOff := s.evt.groupOff.map (shiftOpt d),
                        cluAt := s.evt.cluAt.map (shiftOpt d) }
    time := { s.time with hoAt := shiftOpt d s.time.hoAt, lockedAt := s.time.lockedAt + d,
                          ppsRiseAt := shiftOpt d s.time.ppsRiseAt, ppsInAt := shiftOpt d s.time.ppsInAt }
    net := { s.net with doneAt := shiftOpt d s.net.doneAt, trigX := s.net.trigX + d,
                        a := { s.net.a with sendEnd := s.net.a.sendEnd + d },
                        b := { s.net.b with sendEnd := s.net.b.sendEnd + d } }
    braid := { s.braid with waiting := s.braid.waiting.map (fun l => l.map (fun w => { w with since := w.since + d })) }
    rcd := { s.rcd with k := 0, lastCap := shiftOpt d s.rcd.lastCap, gapAt := s.rcd.gapAt.map (fun g => (g.1, g.2.1, g.2.2 + d)),
                         pieceFails := s.rcd.pieceFails.map (fun l => l.map (· + d)) } }

/-- WNS lies in the middle half of its range (R167). -/
def stepWindow (wns : Int) : Bool := decide (2 ^ 30 ≤ wns % 2 ^ 32) && decide (wns % 2 ^ 32 < 3 * 2 ^ 30)

/-- The first 0.5 µs strobe at or after an instant, by SPH, at least 500 ns after the latest step or load (R165, R169). -/
def State.strobe (s : State) (x0 : Int) : Int :=
  let x := match s.time.stepZ with | none => x0 | some z => max x0 (z + 500)
  let sph := ((s.time.sph : Int) + (x - s.now)) % 1000000000
  x + (-sph) % 500

/-- Z: the first strobe at which WNS lies in the window (R167). -/
def State.stepAt (s : State) : Int :=
  let z := s.strobe s.now
  if stepWindow z then z else s.strobe (s.now + (2 ^ 30 - (s.time.wns : Int)) % 2 ^ 32)

/-- One compare unit at a step by `d` (R175). `old` and `new` are WNS before and after it. The second part says whether it
fires. -/
def stepCmp (d : Int) (old new : Nat) (c : Cmp) : Cmp × Bool :=
  if c.armed = false then (c, false)
  else
    let ahead : Nat := (c.tgt + 2 ^ 32 - old) % 2 ^ 32
    if 0 < ahead ∧ (ahead : Int) ≤ d then
      if c.periodic then
        let per := max 1000 c.per
        let gap := (new + 2 ^ 32 - c.tgt) % 2 ^ 32
        ({ c with late := true, tgt := (c.tgt + (gap + 16 + per - 1) / per * per) % 2 ^ 32 }, true)
      else ({ c with late := true, armed := false }, true)
    else
      let dist := (c.tgt + 2 ^ 32 - new) % 2 ^ 32
      if 16 ≤ dist ∧ dist < 2 ^ 31 then (c, false) else ({ c with armed := false, stepDisarm := true }, false)

/-- The compare units at a step, with the occurrences they raise (R174, R175). -/
def State.stepCmps (d : Int) (old new : Nat) (s : State) : State :=
  let r := s.time.cmps.map (stepCmp d old new)
  let s : State := { s with time := { s.time with cmps := r.map (·.1) } }
  (List.range 8).foldl (fun s i => if (r.map (·.2)).getD i false then s.raise (0x10 + i) none else s) s

/-- Firmware rebases its origin pair by whole seconds where a step has left it less than 2 s behind the counters, as far as the
counters and TAI reach back (R166). -/
def Time.rebase (t : Time) : Time :=
  let k := min (min (ceilDiv (2000000000 - (t.x - t.originX)) 1000000000).toNat t.originS) (t.originX / 1000000000).toNat
  { t with originS := t.originS - k, originX := t.originX - (k : Int) * 1000000000 }

/-- The origin pair rebased, and the region headers refreshed where that changed it (R166, R346). -/
def State.rebaseOrigin (s : State) : State :=
  let t := s.time.rebase
  if t.originS = s.time.originS then s else ({ s with time := t } : State).refreshAll

/-- A pending step is applied (R148, R166, R167, R169, R170, R175, R180, R340). -/
def stepApply (s : State) : State :=
  match s.time.stepPend with
  | none => s
  | some d =>
    if s.fab.epochs.any (fun e => e.st = .sealedE) then s
    else match reach 3000000000 s.stepAt s with
      | none => s
      | some s =>
        let oldTai := s.tai
        let old := s.time.wns
        let s : State := { s with time := { s.time with wns := (((old : Int) + d) % 2 ^ 32).toNat,
                                                        sph := (((s.time.sph : Int) + d) % 1000000000).toNat,
                                                        stepPend := none, stepCnt := sat16 s.time.stepCnt } }
        let s : State := eraAuto { s with time := { s.time with stepZ := some s.now } }
        let s := (s.shiftX d).stepCmps d old s.time.wns
        let s := if s.firmware then s.rebaseOrigin else s
        let s := if s.time.srv = .locked then s.setSrv .acquire else s
        s.stepPassed oldTai s.tai

/-- STEP_APPLY (R169). -/
def execStepApply (s : State) : Host.Outcome State Fault Refusal := .next (stepApply s)

/-- A load of the counters, accepted only while every FAB slot is FREE; a new origin pair comes with it (R166, R168). -/
def timeLoad (taiS : Nat) (s : State) : State :=
  if s.fab.epochs ≠ [] ∨ s.time.run = false then s
  else
    let t := s.time
    let sph : Nat := t.loadSph.toNat % 2 ^ 30 % 1000000000
    let x : Int := (t.loadEra.toNat : Int) * 2 ^ 32 + t.loadWns.toNat
    let d := x - s.now
    let o := originPair taiS (x - sph)
    let s : State := { s with time := { t with
      era := t.loadEra.toNat, wns := t.loadWns.toNat, sph := sph, eraStale := false,
      cmps := t.cmps.map (fun c => { c with armed := false }),
      stepZ := some x, originS := o.1, originX := o.2, originPtp := t.originPtp || decide (s.image.time.source = 1) } }
    (s.shiftX d).refreshAll

/-- TIME_LOAD (R168). -/
def execTimeLoad (taiS : Nat) (s : State) : Host.Outcome State Fault Refusal := .next (timeLoad taiS s)

/-! ### Compare and capture units -/

/-- Change a compare unit. -/
def State.modCmp (i : Nat) (f : Cmp → Cmp) (s : State) : State := { s with time := { s.time with cmps := modAt f i s.time.cmps } }

/-- A target is ahead of the present (R172). -/
def targetAhead (tgt wns : Nat) : Bool :=
  let d := (tgt + 2 ^ 32 - wns) % 2 ^ 32
  decide (16 ≤ d) && decide (d < 2 ^ 31)

/-- Arming: only a target that is ahead (R172, R174). -/
def compareArm (i : Nat) (s : State) : State :=
  s.modCmp i (fun c => if targetAhead c.tgt s.time.wns then { c with armed := true }
                       else { c with armed := false, armErr := true })

/-- COMPARE_ARM (R174). -/
def execCompareArm (i : Fin 8) (s : State) : Host.Outcome State Fault Refusal := .next (compareArm i.val s)

/-- COMPARE_DISARM (R174). -/
def execCompareDisarm (i : Fin 8) (s : State) : Host.Outcome State Fault Refusal :=
  .next (s.modCmp i.val (fun c => { c with armed := false }))

/-- A fired unit re-arms one period on, or disarms (R174). -/
def fireCmp (c : Cmp) : Cmp :=
  if c.periodic then { c with tgt := (c.tgt + max 1000 c.per) % 2 ^ 32 } else { c with armed := false }

/-- An armed unit reaches its target and fires (R174). -/
def compareFire (i : Nat) (s : State) : State :=
  match s.time.cmps[i]? with
  | none => s
  | some c =>
    if c.armed = false then s
    else
      let d : Nat := (c.tgt + 2 ^ 32 - s.time.wns) % 2 ^ 32
      match reach 2200000000 (if d ≤ 2 ^ 31 then s.now + (d : Int) else s.now) s with
      | none => s
      | some s => (s.modCmp i fireCmp).raise (0x10 + i) none

/-- COMPARE_FIRE (R174). -/
def execCompareFire (i : Fin 8) (s : State) : Host.Outcome State Fault Refusal := .next (compareFire i.val s)

/-- A capture unit takes a stamp, or counts an occurrence it cannot take (R176). -/
def takeStamp (p : Stamp) (c : Cap) : Cap :=
  if c.full then { c with ovr := true, ovrCnt := sat8 c.ovrCnt } else { c with full := true, stamp := p }

/-- A capture of unit `i`: the stamp, and TIME_CAPi where it was taken (R176, R236). -/
def State.capture (i : Nat) (p : Stamp) (origin : Option Nat) (s : State) : State :=
  match s.time.caps[i]? with
  | none => s
  | some c =>
    let s : State := { s with time := { s.time with caps := modAt (takeStamp p) i s.time.caps } }
    if c.full then s else s.raise (0x18 + i) origin

/-- The source that a capture unit selects (R191). -/
def State.capSrc (s : State) (i : Nat) : Nat := (s.time.caps.getD i {}).src

/-- A stamp of an edge that the unit's pin has made, at the tick of the edge, or of an occurrence that its channel has
forwarded to it (R176, R228, R236). -/
def captureStamp (i : Nat) (origin : Option Nat) (s : State) : State :=
  let q := s.capSrc i
  if 2 ≤ q ∧ q ≤ 17 then
    match s.evt.pinIn.find? (fun c => c.1 = i) with
    | none => s
    | some c => ({ s with evt := { s.evt with pinIn := removeFirst (fun c => c.1 = i) s.evt.pinIn } } : State).capture i c.2 none
  else if q = 18 ∧ s.evt.capIn.any (fun c => c.1 = i && some c.2 = origin) = true then
    ({ s with evt := { s.evt with capIn := removeFirst (fun c => c.1 = i && some c.2 = origin) s.evt.capIn } } : State).capture
      i s.stamp origin
  else s

/-- CAPTURE_STAMP (R176). -/
def execCaptureStamp (i : Fin 8) (origin : Option (Fin 128)) (s : State) : Host.Outcome State Fault Refusal :=
  .next (captureStamp i.val (origin.map Fin.val) s)

/-- CAPTURE_SW_TRIGGER (R176): only where SRC selects the software trigger. -/
def execCaptureSwTrigger (i : Fin 8) (s : State) : Host.Outcome State Fault Refusal :=
  .next (if s.capSrc i.val = 19 then s.capture i.val s.stamp none else s)

/-- A valid shadow of a master takes the place of an older one (R362). -/
def State.setShadow (m : Nat) (pair : Pair) (hi : Word) (s : State) : State :=
  { s with shadows := s.shadows.filter (fun q => !(q.master = m && q.pair = pair)) ++ [{ master := m, pair := pair, hi := hi }] }

/-- A master of firmware, whose register reads act (R213, R361): every one but the host ports. -/
def isFirmware (m : Nat) : Bool := decide (m < 9) || decide (m = 13)

/-- A read of `TIME_CAP_WNS`: the shadow of ERA, and by firmware FULL clears (R173, R176, R361). -/
def captureRead (i : Fin 8) (m : Nat) (s : State) : State :=
  let c := s.time.caps.getD i.val {}
  let s := s.setShadow m (.timeCap i) (BitVec.ofNat 32 c.stamp.era)
  if isFirmware m then { s with time := { s.time with caps := modAt (fun c => { c with full := false }) i.val s.time.caps } }
  else s

/-- CAPTURE_READ (R176). -/
def execCaptureRead (i : Fin 8) (m : Master) (s : State) : Host.Outcome State Fault Refusal := .next (captureRead i m.val s)

/-! ### The servo's update -/

/-- θ in ns (R179). -/
def thetaNs (v : Word) : Rat := (v.toInt : Rat) / 256

/-- The PI part of one update: I, y_srv, y, with back-calculation at the limit (R179). -/
def servoPi (th : Rat) (t : Time) : Time :=
  let kp : Rat := (t.kp.toNat : Rat) / 65536
  let ki : Rat := (t.ki.toNat : Rat) / 65536
  let fin : Rat := t.fin.toInt
  let i := t.i + ki * th
  let ys := fin - (kp * th + i)
  let y := t.yT + t.yD + ys
  if 200000000 < |y| then
    let y' : Rat := if y < 0 then -200000000 else 200000000
    { t with ySrv := ys, y := y', i := fin - kp * th - (y' - t.yT - t.yD) }
  else { t with ySrv := ys, y := y, i := i }

/-- LOCK_RUN and over_run after an update (R179). -/
def servoRuns (th : Rat) (t : Time) : Time :=
  { t with lockRun := if |th| ≤ ((t.lockThr.toNat % 65536 : Nat) : Rat) then sat8 t.lockRun else 0,
           overRun := if 4 * ((t.lockThr.toNat % 65536 : Nat) : Rat) < |th| then t.overRun + 1 else 0 }

/-- The sums of firmware's learning over the updates made while LOCKED (R183, R184). -/
def learnSums (th : Rat) (t : Time) : Time :=
  if t.srv = .locked then
    { t with learnY := t.learnY + t.yT + t.ySrv, learnT := t.learnT + t.oscT, learnN := t.learnN + 1,
             learnBad := t.learnBad || decide (((t.lockThr.toNat % 65536 : Nat) : Rat) < |th|),
             hourI := t.hourI + t.i, hourN := t.hourN + 1 }
  else t

/-- One servo update (R179). -/
def servoUpdate (v : Word) (s : State) : State :=
  let th := thetaNs v
  let s : State := { s with net := { s.net with lastTheta := v.toInt } }
  match s.time.srv with
  | .freerun | .holdover => { s with time := { s.time with ofsIgn := sat8 s.time.ofsIgn } }
  | .acquire | .locked =>
    if s.time.stepEn = true ∧ (s.time.stepThr.toNat : Rat) < |th| then
      let s : State := { s with time := { s.time with stepPend := some (-(roundAway th)) } }
      if s.time.srv = .locked then s.setSrv .acquire else s
    else
      let s : State := { s with time := learnSums th (servoRuns th (servoPi th s.time)) }
      let s := if s.time.srv = .acquire ∧ 64 ≤ s.time.lockRun then s.setSrv .locked else s
      if s.time.srv = .locked ∧ 8 ≤ s.time.overRun then s.setSrv .acquire else s

/-! ### PPS -/

/-- PPS_IN_RISE (R177): the tick of the edge is noted. -/
def execPpsInRise (s : State) : Host.Outcome State Fault Refusal :=
  .next { s with time := { s.time with ppsRise := some s.stamp, ppsInAt := some s.now } }

/-- Values of 5 x 10^8 and above are negative (R177). -/
def signedNs (n : Int) : Int := if 500000000 ≤ n then n - 1000000000 else n

/-- θ of a PPS_IN edge, in the units of `TIME_SRV_OFFSET` (R177, R179). -/
def State.ppsTheta (s : State) (p : Stamp) : Int :=
  signedNs (((p.sph : Int) - s.image.time.dPps) % 1000000000) * 256

/-- With PPS_IN as the phase source an edge feeds the servo, and in HOLDOVER or FREERUN with the reference present four in a
row lead to ACQUIRE (R177, R180, R181, log 53). -/
def State.ppsFeed (p : Stamp) (s : State) : State :=
  if s.image.time.source ≠ 2 ∨ s.firmware = false then s
  else
    let th := s.ppsTheta p
    let s := if -(2 ^ 31) ≤ th ∧ th < 2 ^ 31 then servoUpdate (BitVec.ofInt 32 th) s else s
    if s.time.srv = .holdover ∨ (s.time.srv = .freerun ∧ s.time.refLost = false) then
      if 3 ≤ s.time.ppsGood then s.setSrv .acquire
      else { s with time := { s.time with ppsGood := s.time.ppsGood + 1 } }
    else s

/-- An edge that qualifies: PPS_IN_EDGE, the capture units that select PPS_IN, and the servo where PPS_IN is its source
(R176, R177, R181). -/
def ppsQualify (p : Stamp) (s : State) : State :=
  let s := s.raise 0x20 none
  ((List.range 8).foldl (fun s i => if s.capSrc i = 1 then s.capture i p none else s) s).ppsFeed p

/-- 100 ns after the edge that is being qualified (R177). -/
def State.ppsWait (s : State) : State :=
  match s.time.ppsInAt with
  | none => s
  | some x => (reach 1000 (x + 100) s).getD s

/-- The pulse ends or has lasted: 104 ns qualify, less than 96 ns do not, between them either may come; what qualifies does
so 100 ns after the edge (R177). -/
def ppsQualified (highNs : Nat) (s : State) : State :=
  match s.time.ppsRise with
  | none => s
  | some p =>
    let s : State := { s.ppsWait with time := { s.ppsWait.time with ppsRise := none, ppsInAt := none } }
    if 104 ≤ highNs then ppsQualify p s
    else if highNs < 96 then s
    else
      let (q, s) := s.either
      if q then ppsQualify p s else s

/-- PPS_IN_QUALIFIED (R177). -/
def execPpsInQualified (highNs : Nat) (s : State) : Host.Outcome State Fault Refusal := .next (ppsQualified highNs s)

/-- The next rising instant of PPS_OUT (R178): this tick, where SPH has reached or passed the offset on it and PPS_OUT has not risen on
it yet, else the next. -/
def State.ppsNext (s : State) : Int :=
  let past := ((s.time.sph : Int) - s.time.ppsOfs.toInt) % 1000000000
  if past < s.time.passed ∧ s.time.ppsRiseAt ≠ some s.now then s.now else s.now + 1000000000 - past

/-- A pulse is emitted at this rising instant (R178). -/
def State.ppsMay (s : State) : Bool :=
  s.time.ppsEn && (!s.time.ppsGated || s.time.ppsGate) && (decide (s.time.srv ≠ .freerun) || s.time.ppsFree)

/-- The rising instant of PPS_OUT (R178). -/
def ppsOutRise (s : State) : State :=
  match reach 1100000000 s.ppsNext s with
  | none => s
  | some s => { s with time := { s.time with ppsRiseAt := some s.now, ppsGate := false, ppsOut := s.ppsMay } }

/-- PPS_OUT_RISE (R178). -/
def execPpsOutRise (s : State) : Host.Outcome State Fault Refusal := .next (ppsOutRise s)

/-- PPS_OUT falls WIDTH µs after it rose (R178). -/
def ppsOutFall (s : State) : State :=
  match s.time.ppsRiseAt with
  | none => s
  | some r =>
    if s.time.ppsOut = false then s
    else match reach 1100000000 (r + (max 1 (min 500000 s.time.ppsWidth)) * 1000) s with
      | none => s
      | some s => { s with time := { s.time with ppsOut := false } }

/-- PPS_OUT_FALL (R178). -/
def execPpsOutFall (s : State) : Host.Outcome State Fault Refusal := .next (ppsOutFall s)

/-- PPS_IN_TIMEOUT (R181). -/
def execPpsInTimeout (s : State) : Host.Outcome State Fault Refusal :=
  .next (if s.image.time.source = 2 then
    ({ s with time := { s.time with ppsGood := 0 } } : State).enterHoldover else s)

/-! ### The servo -/

/-- SERVO_UPDATE (R179). -/
def execServoUpdate (theta : Word) (s : State) : Host.Outcome State Fault Refusal := .next (servoUpdate theta s)

/-- A write of STATE: FREERUN, ACQUIRE or HOLDOVER; a write of LOCKED is ignored (R180). -/
def servoStateWrite (v : Word) (s : State) : State :=
  match v.toNat % 4 with
  | 0 => s.setSrv .freerun
  | 1 => s.setSrv .acquire
  | 2 => s
  | _ => s.setSrv .holdover

/-- SERVO_STATE_WRITE (R180). -/
def execServoStateWrite (v : Word) (s : State) : Host.Outcome State Fault Refusal := .next (servoStateWrite v s)

/-- REFERENCE_LOSS (R162). -/
def execReferenceLoss (s : State) : Host.Outcome State Fault Refusal :=
  .next (if s.time.run = true ∧ s.time.refLost = false then
    ({ s with time := { s.time with refLost := true, refLostSeen := true, pllLock := false } } : State).setSrv .freerun else s)

/-- The reference returns (R162); where it first appears only now, its frequency is checked and a mismatch with the running image
reported (R308). -/
def referenceReturn (freq : Nat) (s : State) : State :=
  if s.time.refLost = false then s
  else
    let first := !s.time.refValid
    let s : State := { s with time := { s.time with refLost := false, pllLock := true, refValid := true, refFreq := freq } }
    if first = true ∧ s.sys.img.isSome = true ∧ freq ≠ s.image.time.ref then
      { s with sys := { s.sys with refFreqBad := true } }
    else s

/-- REFERENCE_RETURN (R162). -/
def execReferenceReturn (freq : Fin 4) (s : State) : Host.Outcome State Fault Refusal := .next (referenceReturn freq.val s)

/-! ### Temperature learning and holdover -/

/-- y_T at a temperature (R182): between the nearest valid bins, or the outermost bin's value. -/
def yTemp (ft : List FtBin) (t : Rat) : Rat :=
  let pts := (mapIx (fun b (f : FtBin) => (((b : Int) - 40 : Int), f)) 0 ft).filter (fun q => q.2.valid)
  let below := pts.filter (fun q => decide ((q.1 : Rat) ≤ t))
  let above := pts.filter (fun q => decide (t < (q.1 : Rat)))
  match below.getLast?, above.head? with
  | none, none => 0
  | some a, none => a.2.y
  | none, some b => b.2.y
  | some a, some b => a.2.y + (b.2.y - a.2.y) * (t - a.1) / (b.1 - a.1)

/-- A bin is committed; with IADJ the change in y_T is taken out of I and of y_srv, so y does not move (R183). -/
def ftCommit (b : Nat) (y : Int) (n : Nat) (valid iadj : Bool) (t : Time) : Time :=
  let t' := { t with ft := modAt (fun f => { f with y := y, yReg := y, n := min 64 n, valid := valid }) b t.ft }
  let d := yTemp t'.ft t.oscT - t.yT
  if iadj then { t' with yT := t.yT + d, i := t.i - d, ySrv := t.ySrv - d } else { t' with yT := t.yT + d }

/-- FT_BIN_COMMIT (R183). -/
def execFtBinCommit (b : Fin 128) (v : Word) (s : State) : Host.Outcome State Fault Refusal :=
  .next { s with time := ftCommit b.val ((s.time.ft.getD b.val {}).yReg) (v.toNat % 256) (bit v.toNat 31) (bit v.toNat 30) s.time }

/-- One bin's new value and count (R183): none where it stays. -/
def learnBin (f : FtBin) (w yObs yNow : Rat) : Option (Int × Nat) :=
  if f.valid then
    some (viewInt (f.y + w * (yObs - yNow) / (min (f.n + 1) 64 : Nat)), if 1 / 2 ≤ w then min 64 (f.n + 1) else f.n)
  else if 1 / 2 ≤ w then some (viewInt yObs, 1) else none

/-- Learning over the past 16 s (R183). -/
def ftLearn (s : State) : State :=
  let t := s.time
  let reset (t : Time) : Time := { t with learnY := 0, learnT := 0, learnN := 0, learnBad := false }
  if s.image.time.learn = false ∨ t.srv ≠ .locked ∨ s.now - t.lockedAt < 300000000000 ∨ t.learnBad = true ∨ t.learnN = 0
      ∨ s.firmware = false then
    { s with time := reset t }
  else
    let yObs := t.learnY / t.learnN
    let tm := t.learnT / t.learnN
    let b0 := (tm + 40).floor
    let w1 := tm + 40 - b0
    let yNow := yTemp t.ft tm
    let put (b : Int) (w : Rat) (t : Time) : Time :=
      if b < 0 ∨ 127 < b then t
      else match learnBin (t.ft.getD b.toNat {}) w yObs yNow with
        | none => t
        | some q => ftCommit b.toNat q.1 q.2 true true t
    { s with time := reset (put (b0 + 1) w1 (put b0 (1 - w1) t)) }

/-- FT_LEARN (R183). -/
def execFtLearn (s : State) : Host.Outcome State Fault Refusal := .next (ftLearn s)

/-- The valid bins as the record area keeps them (R183). -/
def Time.ftTable (t : Time) : List (Nat × Int × Nat) :=
  (mapIx (fun b (f : FtBin) => (b, f)) 0 t.ft).filterMap (fun q => if q.2.valid then some (q.1, viewInt q.2.y, q.2.n) else none)

/-- The table is saved to the NVM, or kept while the flash is absent (R183, R334). -/
def ftSave (s : State) : State :=
  if s.firmware = false then s
  else if s.sys.wouldQueue then { s with sys := { s.sys.tested with ftCopy := some s.time.ftTable } }
  else { s with sys := { s.sys with flash := s.sys.flash.map (Flash.putFreq s.time.ftTable), ftCopy := none } }

/-- FT_TABLE_SAVE (R183). -/
def execFtTableSave (s : State) : Host.Outcome State Fault Refusal := .next (ftSave s)

/-- Slope per hour of a least-squares line through hourly means, newest first (R184). -/
def slopeOf (hs : List Rat) : Rat :=
  let n : Rat := hs.length
  let xs := mapIx (fun k y => ((n - 1 - k : Rat), y)) 0 hs
  let mx := sumR (xs.map (·.1)) / n
  let my := sumR (xs.map (·.2)) / n
  sumR (xs.map (fun q => (q.1 - mx) * (q.2 - my))) / sumR (xs.map (fun q => (q.1 - mx) * (q.1 - mx)))

/-- The hourly update of the aging rate (R184). -/
def driftUpdate (s : State) : State :=
  let t := s.time
  if t.srv ≠ .locked ∨ t.hourN = 0 ∨ s.firmware = false then s
  else
    let hs := ((t.hourI / t.hourN) :: t.hours).take 24
    let a := slopeOf hs
    let t := { t with hours := hs, hourI := 0, hourN := 0 }
    if hs.length = 24 ∧ 86400000000000 ≤ s.now - t.lockedAt then
      { s with time := { t with drift := BitVec.ofInt 32 (viewInt (a * 256)) } }
    else { s with time := t }

/-- DRIFT_UPDATE (R184). -/
def execDriftUpdate (s : State) : Host.Outcome State Fault Refusal := .next (driftUpdate s)

/-- `TIME_HO_SEC`: whole seconds in HOLDOVER (R184, R191). -/
def State.hoSec (s : State) : Nat :=
  match s.time.hoAt with
  | none => 0
  | some x => min 0xFFFFFFFF ((s.now - x) / 1000000000).toNat

/-- HOLDOVER_SPEC_EXCEEDED (R184). -/
def execHoldoverSpecExceeded (s : State) : Host.Outcome State Fault Refusal :=
  .next (if s.time.srv = .holdover ∧ s.image.time.hoSec < s.hoSec then
    { s with time := { s.time with hoSpec := true } } else s)

/-! ### Syntonisation and the oscillator trim -/

/-- The port of the active path. -/
def State.activePort (s : State) : NetPort := if s.net.active then s.net.b else s.net.a

/-- Cycles of the recovered clock in a gate at nominal rates: 156.25 MHz or 125 MHz over 2²⁴ × 4 ns (R186). -/
def gateNominal (slow : Bool) : Nat := if slow then 8388608 else 10485760

/-- A gate ends: its count is reported; where the active path's link is up, and so has a recovered clock, firmware writes FIN from the mean of the latest 16 gates,
after a link loss or a failover once 16 have been counted on the path (R186, R199). -/
def syntGate (count : Word) (s : State) : State :=
  if s.image.time.synt = false then s
  else
    let slow := s.activePort.rate
    let y : Rat := ((count.toNat : Rat) / gateNominal slow - 1) * 1000000000000
    let gs := (y :: s.time.gates).take 16
    let s : State := { s with time := { s.time with syntCnt := count } }
    if s.activePort.pow ≠ .on ∨ s.activePort.link = false then s
    else
    let s : State := { s with net := { s.net with gatesOk := min 16 (s.net.gatesOk + 1) } }
    if s.firmware = true ∧ s.net.gatesOk < 16 then { s with time := { s.time with gates := gs } }
    else if s.firmware then
      { s with time := { s.time with gates := gs, fin := BitVec.ofInt 32 (viewInt (sumR gs / gs.length)) } }
    else s

/-- SYNT_GATE_END (R186). -/
def execSyntGateEnd (count : Word) (s : State) : Host.Outcome State Fault Refusal := .next (syntGate count s)

/-- The EFC code and the reload of INC for the residual (R187). -/
def efcUpdate (s : State) : State :=
  if s.time.efcMode = false ∨ s.firmware = false then s
  else
    let y := if s.time.srv = .holdover then s.time.yT + s.time.yD + s.time.i else s.time.yTotal
    let code := clampI 0 0xFFFFFF (viewInt ((s.image.time.efcCentre : Rat) + s.efcG * y))
    incReload (s.efcWrite code.toNat)

/-- EFC_UPDATE (R187). -/
def execEfcUpdate (s : State) : Host.Outcome State Fault Refusal := .next (efcUpdate s)

end Sys2Proof.Machine
end

