-- ==== Sys2Proof/Machine/NetOps.lean ====
section
/-! DEFINITION. Operations of the network paths: the cleat, triggers, the failover and its completion, the retention
snapshot (R192-R202). -/

namespace Sys2Proof.Machine

/-- The port of a path: false NET-A, true NET-B. -/
def Net.port (n : Net) (p : Bool) : NetPort := if p then n.b else n.a

/-- Change a port. -/
def Net.modPort (p : Bool) (f : NetPort → NetPort) (n : Net) : Net := if p then { n with b := f n.b } else { n with a := f n.a }

/-- Change the network part of the state. -/
def State.modNet (f : Net → Net) (s : State) : State := { s with net := f s.net }

/-- A TXEN bit. -/
def Net.txen (n : Net) (p : Bool) : Bool := if p then n.bTxen else n.aTxen

/-- A TXDIS pin is high. -/
def Net.txdis (n : Net) (p : Bool) : Bool := if p then n.bTxdis else n.aTxdis

/-- Set a TXEN bit. -/
def Net.setTxen (p v : Bool) (n : Net) : Net := if p then { n with bTxen := v } else { n with aTxen := v }

/-- Fields of `NETA_FO_CFG` (R203). -/
def Net.autoLink (n : Net) : Bool := bit n.foCfg.toNat 0
def Net.autoAnn (n : Net) : Bool := bit n.foCfg.toNat 1
/-- HOLDDOWN in seconds; 0 is taken as 1 (R203). -/
def Net.holddownS (n : Net) : Nat := max 1 (bits n.foCfg.toNat 23 16)

/-! ### The cleat -/

/-- The cleat's rules on both pins (R195): low only with TXEN, a powered domain and the other pin high for 50 µs. A pin
that rises starts its 50 µs anew. -/
def Net.cleat (n : Net) : Net :=
  let aLow := n.aTxen && decide (n.a.pow = .on) && n.bTxdis && n.bHigh50
  let bLow := n.bTxen && decide (n.b.pow = .on) && n.aTxdis && n.aHigh50 && !aLow
  { n with aTxdis := !aLow, bTxdis := !bLow,
           aHigh50 := n.aHigh50 && n.aTxdis && !aLow, bHigh50 := n.bHigh50 && n.bTxdis && !bLow,
           bbmWait := (n.aTxen && !(n.bTxdis && n.bHigh50)) || (n.bTxen && !(n.aTxdis && n.aHigh50)) }

/-- A write of `NETA_CLEAT` (R195, R203). -/
def Net.cleatWrite (v : Word) (n : Net) : Net :=
  let n := if bit v.toNat 7 then { n with refused := false } else n
  if bit v.toNat 0 = true ∧ bit v.toNat 1 = true then { n with refused := true }
  else Net.cleat { n with aTxen := bit v.toNat 0, bTxen := bit v.toNat 1 }

/-- Firmware releases one path's transmitter: its TXEN bit alone set. -/
def Net.release (p : Bool) (n : Net) : Net := Net.cleatWrite (if p then 2 else 1) n

/-- Pins that are high have been so for 50 µs; a release that waited follows (R195). -/
def Net.bbm (n : Net) : Net := Net.cleat { n with aHigh50 := n.aTxdis, bHigh50 := n.bTxdis }

/-- A path's domain goes off: first its TXEN bit clear and its pin high; its registers read 0 from then on, what was
received and not read is lost (R195, R201, R203). -/
def Net.down (p : Bool) (n : Net) : Net := Net.cleat ((n.setTxen p false).modPort p (fun _ => {}))

/-- Under SYNT firmware writes FIN = 0 and starts its gates anew on loss of link and at a failover (R186, R199). -/
def State.finZero (s : State) : State :=
  let s := s.modNet (fun n => { n with gatesOk := 0 })
  if s.image.time.synt = true ∧ s.firmware = true then { s with time := { s.time with gates := [], fin := 0 } } else s

/-- A path's link is lost: NET_LINK, and on the active path FIN at 0 and HOLDOVER (R181, R186, R223). -/
def State.linkDown (p : Bool) (s : State) : State :=
  let s := s.raise (if p then 0xB1 else 0xB0) none
  if p = s.net.active then (s.modNet (fun n => { n with qualified := 0 })).finZero.enterHoldover else s

/-- A path's domain goes off: its braid master is reset, and a link that was up is lost (R181, R223, R253). -/
def State.netDown (p : Bool) (s : State) : State :=
  let s' := s.modNet (Net.down p)
  let s' := if (s.net.port p).pow = .off then s' else s'.dropMaster (if p then 8 else 7)
  if (s.net.port p).link then s'.linkDown p else s'

/-- The line rate of a path in the image: true for 1000BASE-X (R192). -/
def State.netSlow (s : State) (p : Bool) : Bool := if p then s.image.netc.bSlow else s.image.netc.aSlow

/-- A module is fitted on a path (R192). -/
def State.netFitted (s : State) (p : Bool) : Bool := if p then s.image.netc.bFitted else s.image.netc.aFitted

/-- A path's domain is on: its counters clear, the SerDes locks, the line rate comes from NETC, and
a TXEN bit already set may release its pin (R195, R199, R203). -/
def State.netUp (p : Bool) (s : State) : State :=
  s.modNet (fun n => Net.cleat (n.modPort p (fun _ => { pow := .on, pll := true, rate := s.netSlow p })))

/-- Both pins high, both domains off (R202). -/
def Net.allOff (n : Net) : Net := (n.down false).down true

/-- The port dataset that the image gives: domain, transport and VLAN tag, the rates of G.8275.1, which firmware asks of its unicast
masters too, and the port identity (R188, R192, R319). -/
def State.imagePortDs (s : State) : PortDs :=
  { domain := s.image.time.domain, profile := s.image.time.profile, udp := decide (s.image.time.profile = 2), pcp := s.image.netc.pcp,
    vid := s.image.netc.vid, clockId := s.image.netc.clockId }

/-- What LOAD sets up from NETC: the active path is PRIMARY, its domain powered and its transmitter released; both ports
have one MAC address and one port identity (R192, R203). -/
def State.netStart (s : State) : State :=
  let p := s.image.netc.primaryB
  let s := s.modNet (fun n => { n.allOff with active := p, standbyFitted := s.netFitted (!p),
                                              foCfg := s.image.netc.foCfg &&& 0x00FFFF03, mac := s.image.netc.mac,
                                              clockId := s.image.netc.clockId, portDs := s.imagePortDs, kiRate := 16, helloDue := true,
                                              snapDue := true })
  if s.netFitted p then (s.netUp p).modNet (Net.release p) else s

/-! ### Frames -/

/-- Firmware receives frames on the active path: its domain is on and its link up (R193). -/
def State.hears (s : State) : Bool := decide (s.activePort.pow = .on) && s.activePort.link

/-- Firmware sends frames on the active path. -/
def State.speaks (s : State) : Bool := s.hears && !s.net.txdis s.net.active

/-- A frame leaves on the active path; how long it takes is not stated (log 73). -/
def State.sendFrame (s : State) : State :=
  let d := Config.freeNat s.freeIx
  ({ s with freeIx := s.freeIx + 1 } : State).modNet (fun n => n.modPort n.active (fun q => { q with sendEnd := s.now + d }))

/-- The path has become active, has link and may send: under G.8275.2 firmware sends a gratuitous ARP or an unsolicited
neighbour advertisement and requests its unicast grants again (R193, R199). -/
def State.hello (s : State) : State :=
  if s.net.helloDue = false ∨ s.firmware = false ∨ s.speaks = false then s
  else
    let s := s.modNet (fun n => { n with helloDue := false })
    if s.net.portDs.profile = 2 then
      (s.modNet (fun n => { n with arpSent := n.arpSent + 1,
                                   grantReqs := n.grantReqs + s.image.netc.masters.length })).sendFrame
    else s

/-! ### Triggers and the failover -/

/-- A trigger starts a failover (R197). -/
def Net.accepts (auto : Bool) (n : Net) : Bool :=
  n.standbyFitted && !n.failing && (!auto || (!n.holddown && !n.storm))

/-- Some bytes in a field of a given size, the rest zero. -/
def fieldBytes (size : Nat) (l : List Byte) : List Byte := (l ++ List.replicate size 0).take size

/-- PORT_DS's 64 B (R200); the order within a block is the model's (DESIGN CHOICE, log 57). -/
def PortDs.bytes (d : PortDs) : List Byte :=
  fieldBytes 64 (leBytes 1 d.domain ++ leBytes 1 d.profile ++ leBytes 2 (b2n d.udp) ++ leBytes 2 (8192 * d.pcp + d.vid) ++
    leBytes 1 d.annRate ++ leBytes 1 d.syncRate ++ leBytes 1 d.delayRate ++ leBytes 8 d.clockId ++ leBytes 2 d.portNumber)

/-- A master's dataset in 64 B (R200, log 57). -/
def announceBytes (a : Announce) : List Byte :=
  fieldBytes 64 (leBytes 8 a.identity ++ leBytes 1 a.clockClass ++ leBytes 1 a.accuracy ++ leBytes 2 a.variance ++ leBytes 1 a.priority2 ++
    leBytes 1 a.localPriority ++ leBytes 2 a.steps ++ leBytes 10 a.master ++ leBytes 16 a.addr)

/-- A grant's 48 B (R200, log 57). -/
def Grant.bytes (g : Grant) : List Byte := fieldBytes 48 (leBytes 16 g.addr ++ leBytes 1 g.ann ++ leBytes 1 g.sync ++ leBytes 1 g.delay)

/-- A mean path delay in Q48.16 ns; 0 for none (R200). -/
def mpdBytes (d : Option Rat) : List Byte := leBytes 8 (match d with | none => 0 | some x => twos 64 (viewInt (x * 65536)))

/-- Bytes 0x000 to 0xFFB of a copy (R200). -/
def Snap.bytes (q : Snap) : List Byte :=
  leBytes 2 q.format ++ leBytes 1 (b2n q.port) ++ leBytes 1 (b2n q.rate) ++ leBytes 4 q.seq ++ leBytes 6 q.taiS ++ leBytes 2 0 ++
    q.portDs.bytes ++ fieldBytes 64 (match q.parent with | none => [] | some a => announceBytes a) ++
    fieldBytes 320 (q.foreign.flatMap announceBytes) ++ fieldBytes 144 (q.grants.flatMap Grant.bytes) ++
    fieldBytes 128 (leBytes 4 q.srvBefore.code ++ leBytes 4 (twos 32 q.lastTheta) ++ leBytes 2 q.lockRun ++ leBytes 4 q.overRun ++ q.ofsFilter) ++
    mpdBytes q.mpdA ++ mpdBytes q.mpdB ++ fieldBytes 240 q.filter ++ fieldBytes 64 (q.neigh.flatMap (leBytes 16)) ++ List.replicate 3036 0

/-- A copy with the CRC-32C of its bytes (R200). -/
def Snap.sealCrc (q : Snap) : Snap := { q with crc := crc32c q.bytes }

/-- A snapshot copy, where it is valid: its FORMAT is known and its CRC-32C matches (R200). -/
def Net.copy (n : Net) (i : Nat) : Option Snap := (n.snaps.getD i none).filter (fun q => decide (q.format = 1) && decide (q.crc = crc32c q.bytes))

/-- The newer valid copy of the snapshot (R200). -/
def Net.newest (n : Net) : Option (Nat × Snap) :=
  match n.copy 0, n.copy 1 with
  | none, none => none
  | some a, none => some (0, a)
  | none, some b => some (1, b)
  | some a, some b =>
    let d := (b.seq + 2 ^ 32 - a.seq) % 2 ^ 32
    if 1 ≤ d ∧ d < 2 ^ 31 then some (1, b) else some (0, a)

/-- Firmware restores the newer valid copy; the path-delay filter restarts, from the new path's own last value where the copy holds one
(R200). -/
def Net.restore (n : Net) : Net :=
  match n.newest with
  | none => { n with pathDelay := none }
  | some q =>
    { n with foreign := q.2.foreign, sel := q.2.parent.map Announce.master, grants := q.2.grants, neigh := q.2.neigh,
             portDs := q.2.portDs, srvBefore := q.2.srvBefore, lastTheta := q.2.lastTheta, ofsFilter := q.2.ofsFilter,
             mpdA := q.2.mpdA, mpdB := q.2.mpdB, filter := q.2.filter, pathDelay := if n.active then q.2.mpdB else q.2.mpdA }

/-- Power-up of a path's domain is requested; one that is on stays on (R199, log 57). -/
def Net.powerUp (p : Bool) (n : Net) : Net :=
  n.modPort p (fun q => { q with pow := if q.pow = .on then .on else .rising })

/-- Firmware's steps at a failover: HOLDOVER, exchanges of the old path discarded, power-up of the new path requested,
the snapshot restored (R181, R199, R200, R201). In RESTART they wait for firmware's return. A power-up that R16 does not allow, with
the braid or the peripheral bus off, is not requested. -/
def State.failoverFirmware (s : State) : State :=
  if s.firmware = false then s.modNet (fun n => { n with fwDue := true })
  else
    let before := s.time.srv
    let s := s.finZero.enterHoldover
    let up := decide (s.power.braid = .on) && decide (s.power.periph = .on)
    s.modNet (fun n =>
      let n := Net.restore { n with syncs := [], delays := [], qualified := 0, srvBefore := before, fwDue := false }
      Net.cleat (if up then Net.powerUp n.active n else n))

/-- An accepted trigger (R195, R199, R201): ACTIVE switches, FAILING is set, the trigger instant is stamped, the old
TXDIS goes high, a frame being sent is cut short, NET_FAILOVER is raised. -/
def State.startFailover (cause : Nat) (auto : Bool) (origin : Option Nat) (s : State) : State :=
  let n := s.net
  let old := n.active
  let recent := match n.doneAt with | none => false | some x => decide (s.now - x < 60000000000)
  let cut := decide (s.now < (n.port old).sendEnd)
  let n := { n with active := !old, failing := true, cause := cause, foAt := s.time.wns, foEra := s.time.era, trigX := s.now,
                    atStale := s.time.eraStale, isRepeat := auto && recent, failovers := sat16 n.failovers,
                    standing := false, helloDue := true }
  let n := (n.setTxen old false).modPort old (fun q => { q with txAbort := if cut then sat32 q.txAbort else q.txAbort, sendEnd := 0 })
  (({ s with net := n.cleat } : State).raise 0xB2 origin).failoverFirmware

/-- A trigger: a failover, or a count of a refused trigger (R197). -/
def State.failTrigger (cause : Nat) (auto : Bool) (origin : Option Nat) (s : State) : State :=
  if s.net.accepts auto then s.startFailover cause auto origin
  else s.modNet (fun n => { n with ignored := sat16 n.ignored })

/-- The active path has lost its link, or has never gained it since its release (R196). -/
def State.linkLost (s : State) : Bool :=
  decide (s.activePort.pow = .on) && !s.activePort.link && (!s.net.txdis s.net.active)

/-- A standing link-loss trigger is evaluated again when the conditions of R197 allow a failover (R196). -/
def State.standingCheck (s : State) : State :=
  if s.net.standing = true ∧ s.linkLost = true ∧ s.net.autoLink = true ∧ s.net.accepts true = true then
    s.startFailover 1 true none
  else s

/-- The failover completes: HOLDDOWN runs, repeats are counted, the fourth in a row sets STORM; the steward is told
(R198, R199, R211). -/
def State.completeFailover (s : State) : State :=
  if s.net.failing = false then s
  else
    let n := s.net
    let reps := if n.isRepeat then n.repeats + 1 else 0
    let storm := decide (4 ≤ reps)
    let p := b2n n.active
    let s := s.modNet (fun n => { n with failing := false, doneAt := some s.now, holddown := true, repeats := reps,
                                         isRepeat := false, storm := n.storm || storm })
    let s := s.notify s.steward 7 (leBytes 1 1 ++ leBytes 1 p) []
    if storm then s.notify s.steward 7 (leBytes 1 2 ++ leBytes 1 p) [] else s

/-- A write of `NETA_PATH` (R193, R203): W1C bits, STANDBY_FITTED, ACTIVE with both TXEN bits clear, where the path made active
announces its address, then FAILOVER. -/
def State.pathWrite (v : Word) (s : State) : State :=
  let w := v.toNat
  let s := if bit w 3 then s.completeFailover else s
  let put (n : Net) : Net :=
    let p := if n.aTxen || n.bTxen then n.active else bit w 0
    { n with storm := n.storm && !bit w 7, standbyFitted := bit w 1, active := p, helloDue := n.helloDue || decide (p ≠ n.active) }
  let s := (s.modNet put).hello
  let s := if bit w 2 then s.failTrigger 2 false none else s
  s.standingCheck

end Sys2Proof.Machine
end

