-- ==== Sys2Proof/Machine/EvtOps.lean ====
section
/-! DEFINITION. Operations of the event fabric: channels, groups, purging, the application of EVTR, GPIO outputs
(R227-R242). -/

namespace Sys2Proof.Machine

/-- A channel. -/
def State.chan (s : State) (ch : Nat) : Chan := s.evt.chans.getD ch {}

/-- Change a channel. -/
def State.modChan (ch : Nat) (f : Chan → Chan) (s : State) : State :=
  { s with evt := { s.evt with chans := modAt f ch s.evt.chans } }

/-- A consumer. -/
def State.con (s : State) (x : Nat) : Con := s.evt.cons.getD x {}

/-- Change a consumer. -/
def State.modCon (x : Nat) (f : Con → Con) (s : State) : State := { s with evt := { s.evt with cons := modAt f x s.evt.cons } }

/-- A select byte names a channel: valid bit and number (R242). -/
def selIs (sel ch : Nat) : Bool := bit sel 7 && decide (sel % 128 = ch)

/-- Selects of a consumer that name a channel. -/
def Con.selects (c : Con) (ch : Nat) : List Nat := (List.range 4).filter (fun j => selIs (c.sel.getD j 0) ch)

/-- A channel's select bits leave the pending mask; a pending entry that loses its last bit is not delivered (R233). -/
def Con.purge (ch : Nat) (c : Con) : Con :=
  if c.pend = false ∨ c.selects ch = [] then c
  else
    let m := mapIx (fun j b => b && !selIs (c.sel.getD j 0) ch) 0 c.pmask
    { c with pmask := m, pend := m.any id }

/-- A channel's EN clears (R233). -/
def State.chanOff (ch : Nat) (s : State) : State :=
  let s := s.modChan ch (fun c => { c with en := false })
  { s with evt := { s.evt with cons := s.evt.cons.map (Con.purge ch) } }

/-- The conditions under which a channel passes an occurrence (R228). -/
def State.chanOpen (s : State) (ch : Nat) : Bool :=
  let c := s.chan ch
  c.en && !c.tripped && s.evt.group.getD (ch / 8) false

/-- Slots whose PLAN_GO select names a channel (R231). -/
def State.goSlots (s : State) (ch : Nat) : List Nat :=
  (List.range 8).filter (fun i => match (s.fab.slots.getD i {}).ep with
    | none => false
    | some e => e.event && decide (e.channel = ch))

/-- An accepted occurrence goes to every consumer input that selects the channel, to its vector and to its capture units
(R228). -/
def State.forward (ch origin : Nat) (s : State) : State :=
  let go := (s.goSlots ch).map (fun i => (⟨i, 0, origin⟩ : ConOcc))
  let con := (List.range 88).flatMap (fun k => ((s.con (8 + k)).selects ch).map (fun j => (⟨8 + k, j, origin⟩ : ConOcc)))
  let caps := (List.range 8).filter (fun i => s.capSrc i = 18 && decide ((s.time.caps.getD i {}).channel = ch))
  let s : State := { s with evt := { s.evt with conIn := s.evt.conIn ++ go ++ con, capIn := s.evt.capIn ++ caps.map (fun i => (i, origin)) } }
  let c := s.chan ch
  if c.owner < 4 ∧ 8 ≤ c.vector then s.modHost c.owner (HostPort.msg c.vector) else s

/-- A channel trips (R238). -/
def State.trip (ch : Nat) (s : State) : State := ((s.chanOff ch).modChan ch (fun c => { c with tripped := true })).raise 0xF0 none

/-- The re-entry count and window after an occurrence with the channel's own origin (R237). -/
def Chan.reenter (now : Int) (c : Chan) : Chan :=
  let c := if c.winEnd ≤ now then { c with reCnt := 0, winEnd := now + (max 1 c.reWin) * 1000 } else c
  { c with reCnt := c.reCnt + 1 }

/-- One occurrence reaches one channel (R228, R236-R239). -/
def State.accept (ch : Nat) (origin : Option Nat) (s : State) : State :=
  if s.chanOpen ch = false then s
  else if s.now < (s.chan ch).holdEnd then s.modChan ch (fun c => { c with holdCnt := sat16 c.holdCnt })
  else
    let s := if origin = some ch then s.modChan ch (Chan.reenter s.now) else s
    if origin = some ch ∧ max 1 (s.chan ch).reMax < (s.chan ch).reCnt then s.trip ch
    else
      let s := s.modChan ch (fun c => { c with fired := sat16 c.fired, holdEnd := s.now + (max 1 c.holdoff) * 64 })
      s.forward ch (origin.getD ch)

/-- A writer may act on a channel: secure channels take secure writes only, hosts write their own (R229, R230). -/
def State.mayWriteChan (s : State) (w : Writer) (ch : Nat) : Bool :=
  match w with
  | .firmware secure => !(s.chan ch).sec || secure
  | .host h => decide ((s.chan ch).owner = h.val)

/-- The owner of a pin, 4 for firmware (R226). -/
def State.pinOwner (s : State) (n : Nat) : Nat := (s.evt.gpio.getD n {}).owner

/-- Every channel of a group belongs to a host (R231). -/
def State.groupOwned (s : State) (h g : Nat) : Bool := (List.range 8).all (fun k => decide ((s.chan (8 * g + k)).owner = h))

/-- A write of a channel's configuration: firmware writes every RW field, a host EN and HOLDOFF of its own channel. EN
cannot be set while TRIPPED is set; a source that the channel is not permitted is not taken; VECTOR is for host channels
(R223, R229, R230, R242). -/
def State.chanCfgWrite (w : Writer) (ch : Nat) (v : Word) (s : State) : State :=
  if s.mayWriteChan w ch = false then s
  else
    let n := v.toNat
    let fw := match w with | .firmware _ => true | .host _ => false
    let c := s.chan ch
    let src := bits n 19 12
    let vec := bits n 24 20
    let srcOk := sourceOk s.steward s.pinOwner c.owner c.sec src
    let s := s.modChan ch (fun c => { c with holdoff := bits n 11 0, src := if fw && srcOk then src else c.src,
                                             vector := if fw && decide (c.owner < 4) && (decide (vec = 0) || decide (8 ≤ vec)) then vec else c.vector })
    if bit n 31 then (if c.tripped then s else s.modChan ch (fun c => { c with en := true })) else s.chanOff ch

/-- TRIPPED cleared by the owner or firmware (R230). -/
def State.trippedClear (w : Writer) (ch : Nat) (s : State) : State :=
  if s.mayWriteChan w ch then s.modChan ch (fun c => { c with tripped := false }) else s

/-- A reset of host port h on the fabric (R221, R240). -/
def State.evtPortReset (h : Nat) (s : State) : State :=
  (List.range 128).foldl (fun s ch =>
    if (s.chan ch).owner = h then (s.chanOff ch).modChan ch (fun c => { c with src := 0, vector := 0 }) else s) s

/-! ### GPIO (R226, R227) -/

/-- Change a pin. -/
def State.modPin (n : Nat) (f : Gpio → Gpio) (s : State) : State := { s with evt := { s.evt with gpio := modAt f n s.evt.gpio } }

/-- The ACTION of a GPIO_OUT consumer on its pin (R227). -/
def Gpio.act (action width : Nat) (now : Int) (g : Gpio) : Gpio :=
  match action with
  | 0 => { g with lvl := !g.rest, pulseEnd := some (now + (max 1 width) * 64) }
  | 1 => { g with lvl := !g.lvl, rest := !g.lvl }
  | 2 => { g with lvl := true, rest := true }
  | _ => { g with lvl := false, rest := false }

/-- EVTR applied at the end of LOAD (R227, R240, R241). The 16 bits of HOLDOFF meet a field of 12: the upper four are dropped (DESIGN
CHOICE, log 158: R241 lets a value above 0xFFF neither fail nor says what it means). -/
def State.evtApply (s : State) : State :=
  let e := s.image.evtr
  let chanOf (ch : Nat) : Chan :=
    let q : EvtrCh := e.chans.getD ch {}
    { en := q.en, sec := q.sec && decide (4 ≤ q.owner), owner := q.owner, src := q.src, holdoff := q.holdoff % 4096,
      reMax := q.reMax % 256, reWin := q.reWin % 65536 }
  let conOf (x : Nat) : Con :=
    let q : EvtrCon := e.cons.getD x {}
    { sel := (List.range 4).map (fun j => q.sel.getD j 0 % 256), f2 := q.f2, action := q.action % 4, width := q.width % 64 }
  let pin (n : Nat) (g : Gpio) : Gpio :=
    let out := bit e.gpioDir n
    { g with out := out, owner := e.gpioOwner.getD n 4, edge := bits e.gpioEdge (2 * n + 1) (2 * n),
             lvl := if out then bit e.gpioInit n else g.pad, rest := out && bit e.gpioInit n }
  { s with evt := { s.evt with chans := (List.range 128).map chanOf, cons := (List.range 96).map conOf,
                               group := unmask 16 e.groupEn, gpio := mapIx pin 0 s.evt.gpio, applied := true } }

end Sys2Proof.Machine
end

