-- ==== Sys2Proof/Machine/RecFam.lean ====
section
/-! DEFINITION. The recorder's commands: Skim snapshots, capture blocks, block writes, the loss of a channel, log records,
the control bits (R338-R352). -/

namespace Sys2Proof.Machine

/-! ### The Skim stream (R340, R343) -/

/-- SPH of snapshot k of a second: the first 4 µs grid instant at or after k × 10⁹ / f (R340). -/
def skimSph (f k : Nat) : Nat := (k * 1000000000 + f * 4000 - 1) / (f * 4000) * 4000

/-- The next snapshot of the running second, from `k` on, whose instant is not before an SPH: none where every one has passed. -/
def nextSkim (f k sph : Nat) : Option Nat := (List.range f).find? (fun j => decide (k ≤ j) && decide (sph ≤ skimSph f j))

/-- The counters reach the next Skim instant: this second's, one that the latest tick has reached or passed among them, or the first of
the next second. The instant comes with the state (R163, R340). -/
def State.toSkim (s : State) : Option (Int × State) :=
  match nextSkim s.rcd.f s.rcd.k (s.time.sph + 1 - s.time.passed) with
  | some j =>
    let b := s.now + ((skimSph s.rcd.f j : Int) - s.time.sph)
    (reach 1100000000 b s).map (fun s => (b, { s with rcd := { s.rcd with k := j + 1 } }))
  | none =>
    let b := s.now + (1000000000 - s.time.sph : Nat)
    (reach 1100000000 b s).map (fun s => (b, { s with rcd := { s.rcd with k := 1 } }))

/-- A block that a freeze keeps out: counted, and the next block of its ring carries GAP (R342, R348). -/
def State.frozenOut (i k : Nat) (s : State) : State :=
  s.modRing i k (fun r => { r with seq := (r.seq + 1) % 2 ^ 32, shed := sat32 r.shed, gap := true })

/-- The record latches of some clusters are drained (R338). -/
def State.drainLatches (p : Nat → Bool) (s : State) : State :=
  { s with clusters := mapIx (fun c k => if p c then { k with latch := none } else k) 0 s.clusters }

/-- Instances that have a region. -/
def State.regions (s : State) : List Nat := allInsts.filter (fun i => s.rcd.present.getD i false)

/-- All cells of all instances at an instant, as the latest snapshots hold them (R298). -/
def State.snapBytes (b : Int) (s : State) : List Byte := s.regions.flatMap (fun i => ((s.cellsOf i).map (s.recTake b)).flatten)

/-- The blocks of a Skim snapshot at an instant, one per instance; the whole snapshot is shed when the buffer is more than seven-eighths
full (R339, R342, R343). -/
def State.skimBlocks (b : Int) (s : State) : State :=
  if s.rcd.frozen then s.regions.foldl (fun s i => s.frozenOut i 1) s
  else if stageSize * 7 / 8 < s.rcd.fill then
    let s := s.regions.foldl (fun s i => s.loseBlock i 1) s
    { s with rcd := { s.rcd with shedCnt := sat32 s.rcd.shedCnt, shedW1c := true } }
  else
    let at_ := mailOf (s.time.taiOf b)
    let snap := (at_.1, at_.2, s.snapBytes b)
    let s := s.regions.foldl (fun s i => s.stageBlock (s.stampAt b) i 1 ((s.cellsOf i).map (s.recTake b))) s
    ({ s with rcd := { s.rcd with snaps := (s.rcd.snaps ++ [snap]).drop ((s.rcd.snaps.length + 1) - 2) } } : State).recQos

/-- A Skim snapshot: its blocks, and every record latch drained (R338, R340). -/
def skimSnapshot (s : State) : State :=
  if s.rcd.on = false ∨ s.rcd.f = 0 then s
  else match s.toSkim with
    | none => s
    | some q => (q.2.skimBlocks q.1).drainLatches (fun _ => true)

/-- SKIM_SNAPSHOT (R340). -/
def execSkimSnapshot (s : State) : Host.Outcome State Fault Refusal := .next (skimSnapshot s)

/-! ### Full-rate capture (R341) -/

/-- A cell's cluster has a boundary at a grid instant (R10, R165). -/
def State.boundaryAt (s : State) (sph n : Nat) : Bool := decide (sph % s.pNs (n / 32) = 0)

/-- The next grid instant of a capture block, at most 4 µs ahead, one that the latest tick has reached or passed among them: its
extended time, its SPH and the list in force there (R163, R341). -/
def State.nextCapture (s : State) : Option (Int × Nat × List Nat) :=
  let lo := s.now + 1 - s.time.passed
  let x0 := s.strobe (match s.rcd.lastCap with | none => lo | some t => max lo (t + 1))
  let sphOf (x : Int) : Nat := (((s.time.sph : Int) + (x - s.now)) % 1000000000).toNat
  let visit (j : Nat) : Int × Nat × List Nat :=
    let x := x0 + 500 * j
    let renewed := s.rcd.capDirty && (List.range (j + 1)).any (fun q =>
      decide (s.now < x0 + 500 * (q : Int)) && decide (sphOf (x0 + 500 * (q : Int)) % 4000 = 0))
    (x, sphOf x, if renewed then s.capList else s.rcd.capNow)
  ((List.range 16).map visit).find? (fun v => v.2.2.any (s.boundaryAt v.2.1))

/-- One instance's capture block of an instant; dropped whole where it does not fit the buffer (R341, R343). -/
def State.capBlock (b : Int) (i : Nat) (cells : List Nat) (s : State) : State :=
  if cells = [] then s
  else if s.rcd.frozen then s.frozenOut i 2
  else if stageSize < s.rcd.fill + 64 + 16 * cells.length then
    let s := s.loseBlock i 2
    { s with rcd := { s.rcd with capDrop := sat32 s.rcd.capDrop, shedW1c := true } }
  else s.stageBlock (s.stampAt b) i 2 (cells.map (s.recTake b))

/-- The capture blocks of the next grid instant at which a listed cell has a boundary, and those cells' latches drained (R338,
R341). -/
def captureBlock (s : State) : State :=
  if s.rcd.on = false ∨ s.rcd.capEn = false then s
  else match s.nextCapture with
    | none => s
    | some v =>
      match reach 10000 v.1 s with
      | none => s
      | some s =>
        let s : State := { s with rcd := { s.rcd with lastCap := some v.1 } }
        let due := v.2.2.filter (s.boundaryAt v.2.1)
        ((s.regions.foldl (fun s i => s.capBlock v.1 i (due.filter (fun n => (s.entry n).inst = i))) s).recQos).drainLatches
          (fun c => due.any (fun n => decide (n / 32 = c)))

/-- CAPTURE_BLOCK (R341). -/
def execCaptureBlock (s : State) : Host.Outcome State Fault Refusal := .next (captureBlock s)

/-- The oldest staged block is written to its ring, W advances, the region header is refreshed (R343, R345, R346). -/
def blockWriteDone (s : State) : State :=
  match s.rcd.stage with
  | [] => s
  | b :: bs =>
    ((({ s with rcd := { s.rcd with stage := bs } } : State).ringPut b.inst b.ring b.bytes).refreshHeader b.inst).recQos

/-- BLOCK_WRITE_DONE (R345). -/
def execBlockWriteDone (s : State) : Host.Outcome State Fault Refusal := .next (blockWriteDone s)

/-! ### Loss of a channel (R350) -/

/-- DDR_CHANNEL_FAIL (R350). -/
def execDdrChannelFail (ch : Fin 2) (s : State) : Host.Outcome State Fault Refusal := .next (ddrChannelFail ch.val s)

/-! ### Log records (R347) -/

/-- Firmware writes a record: a MARK of its own, issuer 4, to the instances named; of the kinds that an occurrence owes (GAP, MODE,
TIME_STATE, HEALTH, CHANNEL_LOSS) the oldest one due, with that occurrence's stamp, contents and instances; EPOCH_REPORT, FREEZE and
RELEASE come with their occurrence (R343, R347, log 117). -/
def logRecordWrite (kind : Nat) (insts : List Nat) (value : Word) (s : State) : State :=
  if s.firmware = false then s
  else if kind = 2 then s.logMark insts value 4
  else match s.rcd.logDue.find? (fun q => decide (q.kind = kind)) with
    | none => s
    | some q =>
      ({ s with rcd := { s.rcd with logDue := removeFirst (fun r => decide (r.kind = kind)) s.rcd.logDue } } : State).logTo kind q.insts q.at_ q.body

/-- LOG_RECORD_WRITE (R347). -/
def execLogRecordWrite (kind : Nat) (insts : List (Fin 4)) (value : Word) (s : State) : Host.Outcome State Fault Refusal :=
  .next (logRecordWrite kind (insts.map Fin.val) value s)

/-! ### Control bits (R348, R352) -/

/-- REC_CTRL_FREEZE (R348): firmware's write of FREEZE, which carries out REC_FREEZE; nothing while the recorder's domain is off
(R365). -/
def execRecCtrlFreeze (v : Bool) (s : State) : Host.Outcome State Fault Refusal :=
  .next (if s.power.recorder ≠ .on then s else if v then s.freeze else s.release)

/-- REC_CTRL_CAP_EN (R341). -/
def execRecCtrlCapEn (v : Bool) (s : State) : Host.Outcome State Fault Refusal :=
  .next (if s.power.recorder = .on then { s with rcd := { s.rcd with capEn := v } } else s)

end Sys2Proof.Machine
end

