-- ==== Sys2Proof/Machine/HkcOps.lean ====
section
/-! DEFINITION. Operations of the converter cores: codes, result words, passes, probes, the census, system calibration
(R265-R280). -/

namespace Sys2Proof.Machine

/-- A converter core. -/
def State.core (s : State) (n : Nat) : HkcCore := s.hkc.cores.getD n {}

/-- Change a converter core. -/
def State.modCore (n : Nat) (f : HkcCore → HkcCore) (s : State) : State :=
  { s with hkc := { s.hkc with cores := modAt f n s.hkc.cores } }

/-- Change the converters' global part. -/
def State.modHkc (f : Hkc → Hkc) (s : State) : State := { s with hkc := f s.hkc }

/-- k_T of R266. -/
def State.kT (s : State) : Rat := 1 + Config.hkcGamma * ((s.hkc.tR : Rat) / 256 - 25)

/-- Limit of a code: 24 bits, signed (R266, R275). -/
def satCode (x : Int) : Int := clampI (-8388608) 8388607 x

/-- The reported code: g × (k_T × raw − c0); with OR set the saturated value of the input's sign (R266, R267). -/
def State.codeOf (s : State) (c0 g : Rat) (raw : Int) (ovr : Bool) : Int :=
  if ovr then (if raw < 0 then -8388608 else 8388607) else satCode (viewInt (g * (s.kT * satCode raw - c0)))

/-- A FIFO word without VALID: OR, NRDY, DIAG, MARK, ABT and CODE (R275). -/
def fifoWord (ovr nrdy diag mark abt : Bool) (code : Int) : Nat :=
  2 ^ 30 * b2n ovr + 2 ^ 29 * b2n nrdy + 2 ^ 28 * b2n diag + 2 ^ 27 * b2n mark + 2 ^ 26 * b2n abt + twos 24 code

/-- Increment a 6-bit saturating counter. -/
def sat6 (a : Nat) : Nat := satAdd 63 a 1

/-- HKC_OVR at most once per pass or round (R276, R236). -/
def State.hkcOvr (n : Nat) (s : State) : State :=
  if (s.core n).raised then s
  else (((s.modCore n (fun c => { c with raised := true })).modHkc (fun h => { h with ovrSrc := setAt true n h.ovrSrc }))).raise 0x63
    (s.core n).origin

/-- A word meets the FIFO: written, or lost where it is full (R275, R276). -/
def State.hkcWord (n : Nat) (ovr mark abt : Bool) (code : Int) (s : State) : State :=
  let c := s.core n
  let w := fifoWord ovr (!mark && c.nrdy) c.probeFail mark abt code
  let s := if 64 ≤ c.fifo.length then (s.modCore n (fun c => { c with lost := sat6 c.lost })).hkcOvr n
    else s.modCore n (fun c => { c with fifo := c.fifo ++ [w], words := c.words + 1 })
  if ovr then s.hkcOvr n else s

/-! ### Diagnosis (R277) -/

/-- The codes of the automatic probes, in rotation (R277). -/
def probeCodes : List Int := [0x200, 0x800, 0xE00, -0x200, -0x800, -0xE00]

/-- A probe result is judged: two failures in a row set PROBE_FAIL, six passes clear it; two failing cores are a suspect
reference (R277). -/
def State.judgeProbe (n : Nat) (d : Int) (code : Int) (ovr : Bool) (s : State) : State :=
  let ok := !ovr && decide (2048 * d - 8192 ≤ code) && decide (code ≤ 2048 * d + 8192)
  let judge (c : HkcCore) : HkcCore :=
    let f := if ok then 0 else c.fails + 1
    let p := if ok then c.passes + 1 else 0
    { c with fails := f, passes := p, probeFail := if 2 ≤ f then true else if 6 ≤ p then false else c.probeFail }
  let s := s.modCore n judge
  s.modHkc (fun h => { h with refSuspect := decide (2 ≤ (h.cores.filter HkcCore.probeFail).length) })

/-! ### Passes (R273, R274) -/

/-- Entries of the sequence in use. -/
def HkcCore.entries (c : HkcCore) : List SeqEntry := c.seq.take (c.len + 1)

/-- Results that an entry gives: SAMPLES in ΣΔ mode, one when integrating (R273). -/
def HkcCore.results (c : HkcCore) (e : SeqEntry) : Nat := if c.sigma then max 1 (e.samples % 256) else 1

/-- c0 and g of an entry's input and gain; 0 and 1 where no coefficient exists (R266, R279). -/
def State.coefOf (s : State) (n : Nat) (e : SeqEntry) : Rat × Rat :=
  if 16 ≤ e.input ∨ n = 0 then (0, 1)
  else match s.hkc.coef.getD ((n - 1) * 128 + e.input * 8 + e.gain % 8) none with
    | none => (0, 1)
    | some q => ((q.1 : Rat), (q.2 : Rat) / 1073741824)

/-- A pass begins: the sequence is latched, a marker carries the pass count (R273, R275). -/
def State.startPass (n : Nat) (origin : Option Nat) (s : State) : State :=
  let latch (c : HkcCore) : HkcCore :=
    { c with st := .running, lSeq := c.entries, lCoef := c.entries.map (s.coefOf n), lDiag := c.diag, lTrig := c.trig, pos := 0, smp := 0, words := 0, raised := false,
             origin := origin, nrdy := !s.hkc.refRdy }
  let s := s.modCore n latch
  s.hkcWord n false true false ((s.core n).pass % 2 ^ 24 : Nat)

/-- HKC_DONEn, which releases the consumer HKC_STARTn (R231, R274). -/
def State.hkcDone (n : Nat) (s : State) : State :=
  let s := s.raise (0x60 + n) (s.core n).origin
  { s with evt := { s.evt with cons := modAt (fun c => { c with rel := true }) (40 + n) s.evt.cons } }

/-- A core starts passes by itself when enabled in CONT (R274). -/
def State.contStart (n : Nat) (s : State) : State :=
  if (s.core n).en = true ∧ (s.core n).st = .idle ∧ (s.core n).trig = 0 then s.startPass n none else s

/-- A capture of HKC_SYSCAL waits for the conversion in progress on a core (R278). -/
def State.syscalWaits (s : State) (n : Nat) : Bool :=
  match s.hkc.sysRun with | none => false | some r => decide (r.core = n) && r.waits

/-- The conversion in progress has finished: the sequence is suspended for the capture that waits, `resume` where a new pass follows
it (R278). -/
def State.syscalBegin (n : Nat) (resume : Bool) (s : State) : State :=
  if s.syscalWaits n then
    (s.modHkc (fun h => { h with sysRun := h.sysRun.map (fun r => { r with waits := false, resume := resume }) })).modCore n (fun c => { c with st := .syscal })
  else s

/-- A pass of core 1 or 2 ends; a capture that waits for its last conversion begins (R274, R278). -/
def State.endPass (n : Nat) (s : State) : State :=
  let s := s.hkcDone n
  let s := s.modCore n (fun c => { c with st := .idle, pass := (c.pass + 1) % 2 ^ 32, origin := none })
  if s.syscalWaits n then s.syscalBegin n (decide ((s.core n).trig = 0)) else s.contStart n

/-- EN of core 1 or 2 set; during the discharge it waits (R280). -/
def State.hkcEnable (n : Nat) (s : State) : State :=
  if (s.core n).st = .discharge then s.modCore n (fun c => { c with enWait := true })
  else (s.modCore n (fun c => { c with en := true })).contStart n

/-- An ignored start (R274, R282). -/
def State.startIgn (n : Nat) (s : State) : State := s.modCore n (fun c => { c with startIgn := sat6 c.startIgn })

/-- The trigger in force: the one latched by a running pass (R273). -/
def HkcCore.trigNow (c : HkcCore) : Nat := if c.st = .running then c.lTrig else c.trig

/-- A start during a capture of HKC_SYSCAL: the pass follows the capture (R274, R278). -/
def State.startAfter (n : Nat) (origin : Option Nat) (s : State) : State :=
  match s.hkc.sysRun with
  | none => s
  | some r =>
    if r.core = n then (s.modHkc (fun h => { h with sysRun := some { r with resume := true } })).modCore n (fun c => { c with origin := origin })
    else s

/-- START written (R274): a pass in SW mode, ignored and counted while a pass runs. -/
def State.swStart (n : Nat) (s : State) : State :=
  let c := s.core n
  if c.st = .running then s.startIgn n
  else if c.en = false ∨ c.trig ≠ 2 then s
  else match c.st with
    | .idle => s.startPass n none
    | .syscal => s.startAfter n none
    | .running | .discharge => s

/-- An arrival at HKC_STARTn (R270, R274). -/
def State.hkcArrive (n : Nat) (origin : Nat) (s : State) : State :=
  let c := s.core n
  if n = 0 then s.startIgn 0
  else if c.trigNow ≠ 1 then s.startIgn n
  else if c.en = false then s
  else match c.st with
    | .idle => s.startPass n (some origin)
    | .syscal => s.startAfter n (some origin)
    | .running | .discharge => s

/-! ### System calibration (R278) -/

/-- The captures held for a core are discarded, and a capture in progress on it ends without a result: its command fails
(R280). -/
def State.dropSyscal (n : Nat) (s : State) : State :=
  let s := s.modHkc (fun h => { h with sys := match h.sys with | none => none | some q => if q.core = n then none else some q })
  match s.hkc.sysRun with
  | none => s
  | some r =>
    if r.core ≠ n then s
    else (s.modHkc (fun h => { h with sysRun := none })).completeSeq r.port r.seq 0x0043 stNotReady r.tag 0 []

/-- EN of core 1 or 2 cleared; one that waits for the discharge is withdrawn (R280). -/
def State.hkcDisable (n : Nat) (s : State) : State :=
  let c := s.core n
  if n = 0 then s
  else if c.en = false then s.modCore n (fun c => { c with enWait := false })
  else
    let inPass := decide (c.st = .running) || (match s.hkc.sysRun with | none => false | some r => decide (r.core = n) && r.resume)
    let s := s.dropSyscal n
    let s := if inPass then (s.hkcWord n false true true (c.words : Nat)).hkcDone n else s
    s.modCore n (fun c => { c with en := false, enWait := false, st := if c.sigma then .idle else .discharge, origin := none })

/-! ### Census (R271, R272, R84) -/

/-- Places of a round: retries, then queued cells, at most four of them; then cells of instances in powered clusters from the
pointer on (R271). With no such cell left the remaining places stay empty. -/
def State.fillPlaces (s : State) : State :=
  let h := s.hkc
  let r := h.retries.take 4
  let q := h.prio.take (4 - r.length)
  let cand := ((s.image.fabm.cells.filter (fun e => decide (e.role ≠ 0) && s.cluOn (e.n / 32))).map CellEntry.n)
  let cand := (sortNat (cand.map (fun n => ((n + 8192 - h.ptr) % 8192)))).take (8 - r.length - q.length)
  let cells := cand.map (fun d => (h.ptr + d) % 8192)
  s.modHkc (fun h => { h with retries := h.retries.drop r.length, prio := h.prio.drop q.length,
                              places := r.map (fun n => { cell := n, retry := true }) ++ (q ++ cells).map (fun n => { cell := n }),
                              ptr := match cells.getLast? with | none => h.ptr | some n => (n + 1) % 8192 })

/-- What the census makes of a heater (R272). -/
inductive CensusOut where
  | value (r : Nat)
  | defer
  deriving DecidableEq, Repr

/-- ⟨V⟩ / ⟨I⟩ in 1/64 Ω, of µV and nA. -/
def ohms64 (vUv iNa : Nat) : Nat := if iNa = 0 then 0xFFFF else min 0xFFFF ((vUv * 64000 + iNa / 2) / iNa)

/-- r_H from the held integrals: ⟨V⟩ in µV, ⟨I⟩ in nA, 1/64 Ω. With a zero code the census source drives 200 µA, of which the
100 kΩ parking resistor takes ⟨V⟩ / 100 kΩ (R272). -/
def censusOf (zero : Bool) (vUv iNa : Nat) : CensusOut :=
  if zero then .value (ohms64 vUv (200000 - vUv / 100))
  else if iNa < 50000 then (if 100000 ≤ vUv then .value 0xFFFF else .defer)
  else .value (ohms64 vUv iNa)

/-- A heater fault (R73, R84). -/
def heaterFault (e : Eng) : Eng :=
  let e := { e with fault := e.fault ||| 0x40, win := [], phiP := 0, recRun := 0, resp := none }
  { (goto .hold e) with cause := .fault, pendRetire := true }

/-- HTR_FAULT (R84). -/
def Eng.htrFault (e : Eng) : Eng := { e with fault := e.fault ||| 0x40 }

/-- A census result judged a heater fault (R84): HTR_FAULT; and HOLD (FAULT) with PEND_RETIRE. In a power-down ramp no cell changes
state (R100); a cell whose retirement is pending already holds; one in HOLD with cause SPARING or NO_ENGINE, which no engine computes
(R74), keeps its cause with PEND_RETIRE set (DEDUCED, log 152). -/
def State.heaterJudged (n : Nat) (s : State) : State :=
  let k := s.clu (n / 32)
  let s := s.modCell n (fun c => { c with censusOut := true })
  let e := (s.cell n).engNow
  if k.pdown = true ∨ e.pendRetire = true then s.modCell n (Cell.modEng Eng.htrFault)
  else
    let hit := if k.source = .none then fun e : Eng => { e.htrFault with pendRetire := true } else heaterFault
    ((s.modCell n (Cell.modEng hit)).setReason n 2).cellsChanged n

/-- A census result is delivered to the cell's powered cluster and judged against the atlas (R84); within ±20 % it replaces r_H, and
firmware enables a heater again that the island has parked (R110). -/
def State.censusTo (n r : Nat) (s : State) : State :=
  match s.atlasOf n with
  | none => s
  | some a =>
    if (s.clu (n / 32)).pow ≠ .on then s
    else
      let near := decide (8 * a.rH ≤ 10 * r) && decide (10 * r ≤ 12 * a.rH)
      let far := decide (2 * r < a.rH) || decide (2 * a.rH < r)
      if near then
        s.modCell n (fun c => { c with rH := r, censusOut := false, hParked := c.hParked && !s.firmware })
      else if (s.cell n).eng.st = .off ∨ (s.cell n).eng.st = .retired then s
      else if far || (s.cell n).censusOut then s.heaterJudged n
      else s.modCell n (fun c => { c with censusOut := true })

/-- A deferred cell is owed one retry, unless this was one or eight are owed (R271, R272). -/
def State.censusDefer (p : Place) (s : State) : State :=
  s.modHkc (fun h => { h with deferCnt := sat32 h.deferCnt, lastCell := p.cell, lastDefer := true,
                              retries := if p.retry || decide (8 ≤ h.retries.length) then h.retries else h.retries ++ [p.cell] })

/-- The result of a census place (R272): the cell and r_H words, the result's place and its delivery; a result of a round whose
probe failed is discarded (R288), and so is one with OR set, which carries no measurement (R267, log 92). r_H of a deferred place is
unstated: a free value (log 7). -/
def State.censusSlot (h vUv iNa : Nat) (ovr : Bool) (s : State) : State :=
  match s.hkc.places[h]? with
  | none => s
  | some p =>
    if ovr then (s.hkcWord 0 false false false (p.cell : Nat)).hkcWord 0 true false false 0x7FFFFF
    else match censusOf s.hkc.cenZero vUv iNa with
    | .defer =>
      let r := Config.freeNat s.freeIx % 65536
      (((({ s with freeIx := s.freeIx + 1 } : State).hkcWord 0 false false false ((p.cell + 8192 : Nat))).hkcWord 0 false false false (r : Nat)).modHkc
        (fun h => { h with lastR := r })).censusDefer p
    | .value r =>
      let s := (s.hkcWord 0 false false false (p.cell : Nat)).hkcWord 0 false false false (r : Nat)
      if s.hkc.probeBad then s
      else (s.modHkc (fun h => { h with lastR := r, lastDefer := false, lastCell := p.cell })).censusTo p.cell r

/-! ### Core 0 (R269) -/

/-- A census place's window begins with the heater's code as it stands (R272). -/
def State.cenStart (h : Nat) (s : State) : State :=
  match s.hkc.places[h]? with
  | none => s
  | some p => let z := s.heaterZero p.cell; s.modHkc (fun h => { h with cenZero := z, cenOvr := false })

/-- A new round of core 0: its census places and its marker (R269, R271, R275). -/
def State.startRound (s : State) : State :=
  let s := (s.modHkc (fun h => { h with slot := 0, slotAt := s.now, zsum := 0, probeBad := false })).fillPlaces
  let s := s.modCore 0 (fun c => { c with words := 0, raised := false })
  s.hkcWord 0 false true false ((s.core 0).pass % 2 ^ 24 : Nat)

/-- RTD resistance in mΩ of a code at a gain (R269): 250 µA, full scale 1.25 V / 2^GAIN. Of a GAIN above 7 in HKCV, which R281 does not
check, the low three bits count (DESIGN CHOICE, log 173). -/
def rtdMilli (gain : Nat) (code : Int) : Rat := (code : Rat) * 5000000 / (8388608 * 2 ^ (gain % 8))

/-- The thermistor's voltage as a fraction of VREF_OUT, and its resistance in mΩ; none where the fraction leaves no
resistance (R269, log 77). -/
def oscMilli (rfix : Nat) (code : Int) : Option Rat :=
  let v : Rat := (code : Rat) / 8388608
  if v ≤ 0 ∨ 1 ≤ v then none else some ((rfix : Rat) * v / (1 - v))

/-- A free value as an integer (log 7). -/
def State.freeInt (s : State) : Int × State := ((Config.freeNat s.freeIx : Int), { s with freeIx := s.freeIx + 1 })

/-- A measured register value with its OR and DIAG flags (R282). -/
def State.flagged (s : State) (ovr : Bool) (v : Int) : HkcVal := { ovr := ovr, diag := (s.core 0).probeFail, v := v }

/-- Slot 17 converts zero where HKCV names no pair for the thermistor (R269). -/
def State.slotRaw (s : State) (k : Nat) (raw : Int) : Int :=
  match s.hkc.conv with
  | none => raw
  | some q => if k = 17 ∧ q.oscPair = 0xFF then 0 else raw

/-- The result of slots 0 to 25 of core 0 (R269): its register, and its word. `val` is what the diode or divider of slots 18 to 25
makes of the code, in its register's unit (log 90). -/
def State.slotResult (k : Nat) (raw val : Int) (ovr : Bool) (s : State) : State :=
  let code := s.codeOf s.hkc.c0 1 (s.slotRaw k raw) ovr
  if k = 0 then
    let d := probeCodes.getD (s.core 0).probeIx 0
    let bad := ovr || decide (code < 2048 * d - 8192) || decide (2048 * d + 8192 < code)
    let s := (s.judgeProbe 0 d code ovr).modCore 0 (fun c => { c with probeIx := (c.probeIx + 1) % 6 })
    (s.modHkc (fun h => { h with probeBad := bad })).hkcWord 0 ovr false false code
  else if k ≤ 16 then
    let (v, s) : Int × State := match s.hkc.conv with
      | none => s.freeInt
      | some q => (viewInt (rtdMilli (q.rtd.getD (k - 1) (0, 0)).2 code), s)
    let r := s.flagged ovr v
    (s.modHkc (fun h => { h with rtd := setAt r (k - 1) h.rtd, rtdCode := setAt code (k - 1) h.rtdCode })).hkcWord 0 ovr false false code
  else if k = 17 then
    let (v, s) : Int × State := match s.hkc.conv with
      | none => s.freeInt
      | some q => if q.oscPair = 0xFF then (0, s)
                  else match oscMilli q.oscRfix code with | none => s.freeInt | some r => (viewInt (r / 1000), s)
    let r := s.flagged ovr v
    (s.modHkc (fun h => { h with osc := r, oscCode := code })).hkcWord 0 ovr false false code
  else if k = 18 then
    let r := s.flagged ovr val
    (s.modHkc (fun h => { h with refs := r })).hkcWord 0 ovr false false code
  else
    let r := s.flagged ovr val
    (s.modHkc (fun h => { h with rail := setAt r (k - 19) h.rail })).hkcWord 0 ovr false false code

end Sys2Proof.Machine
end

