-- ==== Sys2Proof/Machine/NetFam.lean ====
section
/-! DEFINITION. The network paths' commands: PTP messages, other frames, the cleat, link changes, failovers, the
retention snapshot (R188-R203), and the announce timeout (R181). -/

namespace Sys2Proof.Machine

/-! ### PTP (R188, R189) -/

/-- A domain of the profile (R188). -/
def PortDs.domainOk (d : PortDs) : Bool :=
  if d.profile = 2 then decide (44 ≤ d.domain ∧ d.domain ≤ 63) else decide (24 ≤ d.domain ∧ d.domain ≤ 43)

/-- A frame is PTP traffic of R188: domain, transport and tag are the device's. With a DOMAIN that its profile does not have, none is
(DEDUCED, log 154). -/
def State.ours (s : State) (f : PtpFrame) : Bool :=
  let d := s.net.portDs
  d.domainOk && decide (f.domain = d.domain) && decide (f.udp = d.udp) && decide (f.vid = d.vid)

/-- A received frame is dropped and counted (R193). -/
def State.dropFrame (s : State) : State :=
  if decide (s.activePort.pow = .on) then s.modNet (fun n => n.modPort n.active (fun q => { q with rxDrop := sat32 q.rxDrop }))
  else s

/-- What becomes of a received frame: handled where it is PTP traffic of R188, else dropped and counted (R193). -/
def State.receive (f : PtpFrame) (handle : State → State) (s : State) : State :=
  if s.hears = false then s else if s.ours f then handle s else s.dropFrame

/-- Place of a path's latency in NETC's list: NET-A 10G, NET-A 1G, NET-B 10G, NET-B 1G (R319). -/
def State.latIx (s : State) : Nat := 2 * b2n s.net.active + b2n s.activePort.rate

/-- Local TAI time of a frame received now, the ingress latency removed, ns (R189). -/
def State.rxTime (s : State) : Rat := (s.tai : Rat) - (s.image.netc.latIn.getD s.latIx 0 : Rat) / 1000

/-- Local TAI time of a frame sent now, the egress latency added, ns (R189). -/
def State.txTime (s : State) : Rat := (s.tai : Rat) + (s.image.netc.latOut.getD s.latIx 0 : Rat) / 1000

/-- A correctionField, in units of 2⁻¹⁶ ns as IEEE 1588 has it (log 74), in ns. -/
def corrNs (c : Int) : Rat := (c : Rat) / 65536

/-- The master's message is one firmware follows: the selected master's. -/
def State.follows (s : State) (m : Nat) : Bool := s.firmware && s.hears && decide (s.net.sel = some m)

/-- The offset of a completed pair: ((t2 − t1) − (t4 − t3)) / 2 (R189, log 74). -/
def pairTheta (t1 t2 t3 t4 : Rat) : Rat := ((t2 - t1) - (t4 - t3)) / 2

/-- The mean path delay of a completed pair (log 74). -/
def pairDelay (t1 t2 t3 t4 : Rat) : Rat := ((t2 - t1) + (t4 - t3)) / 2

/-- A pair of a Sync and a Delay_Req of one path and master is complete: its offset goes to the servo once, where PTP is
the phase source; one beyond the range of `TIME_SRV_OFFSET` is a matter for a step or a load (R168, R189). -/
def State.pairUp (s : State) : State :=
  match s.net.syncs.find? (fun q => q.tx.isSome), s.net.delays.find? (fun d => d.rx.isSome) with
  | some q, some d =>
    if q.path ≠ d.path ∨ q.master ≠ d.master then s
    else
      let t1 := q.tx.getD 0
      let t4 := d.rx.getD 0
      let th := viewInt (pairTheta t1 q.rx d.tx t4 * 256)
      let del := pairDelay t1 q.rx d.tx t4
      let s := s.modNet (fun n => { n with syncs := [], delays := [],
                                           mpdA := if q.path then n.mpdA else some del,
                                           mpdB := if q.path then some del else n.mpdB, pathDelay := some del })
      if s.image.time.source = 1 ∧ -(2 ^ 31) ≤ th ∧ th < 2 ^ 31 then servoUpdate (BitVec.ofInt 32 th) s else s
  | _, _ => s

/-- A Sync of the selected master takes the place of an earlier one (R189). -/
def ptpSync (m seq : Nat) (twoStep : Bool) (origin : MailTime) (corr : Int) (s : State) : State :=
  if s.follows m then
    (s.modNet (fun n => { n with syncs := [{ path := n.active, master := m, seq := seq, rx := s.rxTime - corrNs corr,
                                             tx := if twoStep then none else some (mailTai origin) }] })).pairUp
  else s

/-- PTP_SYNC (R189). -/
def execPtpSync (frame : PtpFrame) (master seq : Nat) (twoStep : Bool) (origin : MailTime) (corr : Int) (s : State) :
    Host.Outcome State Fault Refusal := .next (s.receive frame (ptpSync master seq twoStep origin corr))

/-- A Follow_Up completes its two-step Sync; its correctionField counts too (R189). -/
def ptpFollowUp (m seq : Nat) (origin : MailTime) (corr : Int) (s : State) : State :=
  if s.follows m then
    let put (q : SyncEx) : SyncEx :=
      if q.master = m ∧ q.seq = seq ∧ q.path = s.net.active ∧ q.tx.isNone = true then
        { q with tx := some (mailTai origin), rx := q.rx - corrNs corr } else q
    (s.modNet (fun n => { n with syncs := n.syncs.map put })).pairUp
  else s

/-- PTP_FOLLOW_UP (R189). -/
def execPtpFollowUp (frame : PtpFrame) (master seq : Nat) (origin : MailTime) (corr : Int) (s : State) :
    Host.Outcome State Fault Refusal := .next (s.receive frame (ptpFollowUp master seq origin corr))

/-- A Delay_Req is sent to the selected master; it takes the place of an unanswered one (R188). -/
def ptpDelayReq (s : State) : State :=
  match s.net.sel with
  | none => s
  | some m =>
    if s.firmware = true ∧ s.speaks = true then
      (s.modNet (fun n => { n with delays := [{ path := n.active, master := m, seq := n.delaySeq, tx := s.txTime }],
                                   delaySeq := (n.delaySeq + 1) % 65536 })).sendFrame
    else s

/-- PTP_DELAY_REQ_SEND (R188). -/
def execPtpDelayReqSend (s : State) : Host.Outcome State Fault Refusal := .next (ptpDelayReq s)

/-- A Delay_Resp answers a Delay_Req of the same path; any other is dropped (R189, R201). -/
def ptpDelayResp (m seq : Nat) (receipt : MailTime) (corr : Int) (s : State) : State :=
  if s.follows m then
    let put (d : DelayEx) : DelayEx :=
      if d.master = m ∧ d.seq = seq ∧ d.path = s.net.active ∧ d.rx.isNone = true then
        { d with rx := some (mailTai receipt - corrNs corr) } else d
    (s.modNet (fun n => { n with delays := n.delays.map put })).pairUp
  else s

/-- PTP_DELAY_RESP (R189). -/
def execPtpDelayResp (frame : PtpFrame) (master seq : Nat) (receipt : MailTime) (corr : Int) (s : State) :
    Host.Outcome State Fault Refusal := .next (s.receive frame (ptpDelayResp master seq receipt corr))

/-- The comparison key of the profiles' alternate BMCA, the better master first (R188, log 75). -/
def bmcaKey (a : Announce) : List Nat :=
  [a.clockClass, a.accuracy, a.variance, a.priority2, a.localPriority] ++
    (if a.clockClass ≤ 127 then [a.steps, a.master] else [a.identity, a.steps, a.master])

/-- Lexicographic order of keys. -/
def keyLe : List Nat → List Nat → Bool
  | [], _ => true
  | _ :: _, [] => false
  | x :: xs, y :: ys => decide (x < y) || (decide (x = y) && keyLe xs ys)

/-- The best of a list of masters. -/
def bestMaster : List Announce → Option Announce
  | [] => none
  | a :: as =>
    match bestMaster as with
    | none => some a
    | some b => if keyLe (bmcaKey a) (bmcaKey b) then some a else some b

/-- Foreign masters tracked: 5 under G.8275.1, 3 under G.8275.2 (R188). -/
def State.foreignMax (s : State) : Nat := if s.net.portDs.profile = 2 then 3 else 5

/-- The table after an Announce: an entry already held is renewed, a new one is taken while there is room. -/
def foreignPut (top : Nat) (a : Announce) (l : List Announce) : List Announce :=
  if l.any (fun q => q.master = a.master) then l.map (fun q => if q.master = a.master then a else q)
  else if l.length < top then l ++ [a] else l

/-- A clockClass within the acceptance limit of the TIME section (R181). -/
def State.accepts (s : State) (a : Announce) : Bool := decide (a.clockClass ≤ s.image.time.classLimit)

/-- The best acceptable master is selected; with none acceptable the selection stays. -/
def State.select (s : State) : State :=
  match bestMaster (s.net.foreign.filter s.accepts) with
  | none => s
  | some a => if s.net.sel = some a.master then s
              else s.modNet (fun n => { n with sel := some a.master, qualified := 0, syncs := [], delays := [], snapDue := true })

/-- The grant by which a unicast master's messages come (R188, log 57). -/
def grantOf (a : Announce) : Grant := { addr := a.addr, ann := a.annRate, sync := a.syncRate, delay := a.delayRate }

/-- The grants with one of them new or changed. -/
def grantPut (g : Grant) (l : List Grant) : List Grant :=
  if l.any (fun q => q.addr = g.addr) then l.map (fun q => if q.addr = g.addr then g else q) else l ++ [g]

/-- An Announce of a unicast master: its messages come by a grant, and its address is known (R188, R200, log 57). -/
def Net.heard (a : Announce) (n : Net) : Net :=
  { n with grants := grantPut (grantOf a) n.grants, neigh := if n.neigh.contains a.addr then n.neigh else n.neigh ++ [a.addr],
           snapDue := n.snapDue || !n.grants.contains (grantOf a) }

/-- The update rate in use, per second: the selected master's Sync rate under G.8275.2, 16 under G.8275.1 (R181, R188). -/
def State.syncRate (s : State) : Nat :=
  if s.net.portDs.profile ≠ 2 then 16
  else
    let addr := (s.net.foreign.find? (fun a => s.net.sel = some a.master)).map Announce.addr
    match s.net.grants.find? (fun g => some g.addr = addr) with | none => 16 | some g => g.sync

/-- Firmware scales KI where a master is selected and the update rate in use has changed (R181). -/
def State.rateCheck (s : State) : State :=
  if s.net.sel = none ∨ s.syncRate = s.net.kiRate ∨ s.image.time.source ≠ 1 then s
  else ({ s with time := { s.time with ki := s.scaledKi s.syncRate } } : State).modNet (fun n => { n with kiRate := s.syncRate })

/-- The state that firmware gives the servo back once a master is qualified, by the state it kept from before: of the states
that firmware may write, R180 and R181 name ACQUIRE from each (R200). -/
def SrvState.resume : SrvState → SrvState
  | .freerun => .acquire
  | .acquire => .acquire
  | .locked => .acquire
  | .holdover => .acquire

/-- The selected master's clockClass has risen above the limit: HOLDOVER (R181). -/
def State.judge (a : Announce) (s : State) : State :=
  if s.net.sel = some a.master ∧ s.accepts a = false then (s.modNet (fun n => { n with qualified := 0 })).enterHoldover else s

/-- An Announce: the table is updated, the selected master is judged, the selection follows; four announce intervals in a
row with a qualified selected master return the servo to ACQUIRE (R180, R181, R188). -/
def ptpAnnounce (a : Announce) (s : State) : State :=
  if s.firmware = false then s
  else
    let s := s.modNet (fun n => { n with foreign := foreignPut s.foreignMax a n.foreign })
    let s := if s.net.portDs.profile = 2 then s.modNet (Net.heard a) else s
    let s := ((s.judge a).select).rateCheck
    if s.net.sel ≠ some a.master ∨ s.accepts a = false then s
    else
      let s := s.modNet (fun n => { n with qualified := n.qualified + 1 })
      if 4 ≤ s.net.qualified ∧ s.image.time.source = 1 ∧ (s.time.srv = .holdover ∨ (s.time.srv = .freerun ∧ s.time.refLost = false))
      then s.setSrv s.net.srvBefore.resume else s

/-- An Announce under G.8275.2 comes from a negotiated master, one of NETC's, at rates that may be negotiated (R188, R319). -/
def State.negotiated (s : State) (a : Announce) : Bool :=
  decide (s.net.portDs.profile ≠ 2) ||
    (s.image.netc.masters.contains a.addr &&
      decide (1 ≤ a.annRate ∧ a.annRate ≤ 8 ∧ 1 ≤ a.syncRate ∧ a.syncRate ≤ 128 ∧ 1 ≤ a.delayRate ∧ a.delayRate ≤ 128))

/-- PTP_ANNOUNCE (R188). -/
def execPtpAnnounce (msg : Announce) (s : State) : Host.Outcome State Fault Refusal :=
  .next (s.receive ⟨msg.domain, msg.udp, msg.vid⟩ (fun s => if s.negotiated msg then ptpAnnounce msg s else s.dropFrame))

/-- Three announce intervals without an announce from the selected master: HOLDOVER, and with AUTO_ANN and the link up a
trigger; the master leaves the table (R181, R196). -/
def announceTimeout (s : State) : State :=
  match s.net.sel with
  | none => s
  | some m =>
    if s.firmware = false then s
    else
      let s := s.enterHoldover
      let s := (s.modNet (fun n => { n with qualified := 0, sel := none, syncs := [], delays := [], snapDue := true,
                                            foreign := n.foreign.filter (fun a => a.master ≠ m) })).select.rateCheck
      if s.net.autoAnn = true ∧ s.hears = true then s.failTrigger 2 true none else s

/-- ANNOUNCE_TIMEOUT (R181). -/
def execAnnounceTimeout (s : State) : Host.Outcome State Fault Refusal := .next (announceTimeout s)

/-! ### Other frames (R193) -/

/-- Firmware answers for its own address under G.8275.2; any other request is dropped and counted (R193). -/
def arpRequest (addr : Nat) (s : State) : State :=
  let own := addr ≠ 0 ∧ (addr = s.image.netc.ipv4 ∨ addr = s.image.netc.ipv6) ∧ s.net.portDs.profile = 2
  if s.hears = false then s
  else if own then
    if s.firmware = true ∧ s.speaks = true then (s.modNet (fun n => { n with arpSent := n.arpSent + 1 })).sendFrame else s
  else s.dropFrame

/-- ARP_ND_REQUEST (R193). -/
def execArpNdRequest (addr : Nat) (s : State) : Host.Outcome State Fault Refusal := .next (arpRequest addr s)

/-- OTHER_FRAME_RX (R193). -/
def execOtherFrameRx (s : State) : Host.Outcome State Fault Refusal := .next (if s.hears then s.dropFrame else s)

/-! ### Cleat and links (R195, R196, R223) -/

/-- CLEAT_WRITE (R195). -/
def execCleatWrite (v : Word) (s : State) : Host.Outcome State Fault Refusal := .next (s.modNet (Net.cleatWrite v)).hello

/-- CLEAT_BBM_RELEASE (R195). -/
def execCleatBbmRelease (s : State) : Host.Outcome State Fault Refusal := .next (s.modNet Net.bbm).hello

/-- A powered port's link state: NET_LINK at each change of LINK; on the active path a loss puts the servo in HOLDOVER
and FIN at 0 (R181, R186, R203, R223). -/
def linkChange (p up hiBer : Bool) (s : State) : State :=
  let q := s.net.port p
  if q.pow ≠ .on then s
  else
    let ber := hiBer && !q.rate
    let link := up && !ber
    let s := s.modNet (Net.modPort p (fun q => { q with rxLock := up, hiBer := ber, link := link,
                                                        linkDn := if q.link && !link then sat32 q.linkDn else q.linkDn }))
    if q.link = link then s
    else if link = false then s.linkDown p
    else
      let s := s.raise (if p then 0xB1 else 0xB0) none
      if p ≠ s.net.active then s else (s.modNet (fun n => { n with standing := false })).hello

/-- LINK_CHANGE (R223). -/
def execLinkChange (port : Fin 2) (up hiBer : Bool) (s : State) : Host.Outcome State Fault Refusal :=
  .next (linkChange (decide (port.val = 1)) up hiBer s)

/-- A loss has lasted LINK_HOLD ms with AUTO_LINK set: a trigger, which stands where it is refused (R196, R197). -/
def linkLossTrigger (s : State) : State :=
  if s.net.autoLink = false ∨ s.linkLost = false then s
  else if s.net.accepts true then s.startFailover 1 true none
  else (s.failTrigger 1 true none).modNet (fun n => { n with standing := true })

/-- LINK_LOSS_TRIGGER (R196). -/
def execLinkLossTrigger (s : State) : Host.Outcome State Fault Refusal := .next (linkLossTrigger s)

/-! ### Failover (R196-R199) -/

/-- FAILOVER_WRITE (R196): firmware's write of `NETA_PATH`. -/
def execFailoverWrite (v : Word) (s : State) : Host.Outcome State Fault Refusal := .next (s.pathWrite v)

/-- FAILOVER_TRIGGER (R199). -/
def execFailoverTrigger (cause : FailCause) (s : State) : Host.Outcome State Fault Refusal :=
  .next (match cause with
    | .link => s.failTrigger 1 true none
    | .firmware => s.failTrigger 2 false none
    | .event => s.failTrigger 3 false none)

/-- The new path's domain comes up: the old domain goes off, and firmware sets the new TXEN (R199). -/
def netPathPowered (s : State) : State :=
  let p := s.net.active
  let q := s.activePort.pow
  if s.firmware = false ∨ (q ≠ .rising ∧ (q ≠ .on ∨ s.net.failing = false)) then s
  else (((if q = .rising then s.netUp p else s).netDown (!p)).modNet (Net.release p)).hello

/-- NET_PATH_POWERED (R199). -/
def execNetPathPowered (s : State) : Host.Outcome State Fault Refusal := .next (netPathPowered s)

/-- Link-up on the new path: firmware announces its address under G.8275.2 and clears FAILING (R193, R199). -/
def failingClear (s : State) : State :=
  if s.net.failing = false ∨ s.firmware = false ∨ s.hears = false then s
  else
    s.hello.completeFailover

/-- FAILING_CLEAR (R199). -/
def execFailingClear (s : State) : Host.Outcome State Fault Refusal := .next (failingClear s)

/-- F + 1 s of counted time passes without a link (R169, R199). -/
def failoverTimeout (s : State) : State :=
  if s.net.failing = false ∨ s.firmware = false ∨ s.activePort.link = true then s
  else match reach 1100000000 (s.net.trigX + 1000000000) s with | none => s | some s => s.completeFailover

/-- FAILOVER_TIMEOUT (R199). -/
def execFailoverTimeout (s : State) : Host.Outcome State Fault Refusal := .next (failoverTimeout s)

/-- HOLDDOWN s have passed since completion; the counters get there where they had not, and a standing trigger is
evaluated (R196, R197). -/
def holddownExpire (s : State) : State :=
  match s.net.doneAt with
  | none => s
  | some x =>
    if s.net.holddown = false then s
    else
      let s := advanceFor 1024 (x + (s.net.holddownS : Int) * 1000000000 - s.now).toNat s
      (s.modNet (fun n => { n with holddown := false })).standingCheck

/-- HOLDDOWN_EXPIRE (R197). -/
def execHolddownExpire (s : State) : Host.Outcome State Fault Refusal := .next (holddownExpire s)

/-- STORM_CLEAR (R198). -/
def execStormClear (s : State) : Host.Outcome State Fault Refusal :=
  .next (s.modNet (fun n => { n with storm := false })).standingCheck

/-- A link that stayed up for 60 s on the active path clears STORM (R198). -/
def execLinkStable (s : State) : Host.Outcome State Fault Refusal :=
  .next (if s.hears then s.modNet (fun n => { n with storm := false }) else s)

/-! ### Snapshot (R200) -/

/-- Firmware writes the older copy: while the active path has link, or after a change (R200). -/
def snapshotWrite (s : State) : State :=
  if s.firmware = false ∨ (s.hears = false ∧ s.net.snapDue = false) then s
  else
    let n := s.net
    let last := n.newest
    let i := match last with | none => 0 | some q => 1 - q.1
    let seq := match last with | none => 0 | some q => (q.2.seq + 1) % 2 ^ 32
    let snap : Snap := { seq := seq, port := n.active, rate := s.activePort.rate, taiS := (mailOf s.tai).1, portDs := n.portDs,
                         parent := n.foreign.find? (fun a => n.sel = some a.master), foreign := n.foreign,
                         grants := n.grants, srvBefore := s.time.srv, lastTheta := n.lastTheta, ofsFilter := n.ofsFilter,
                         lockRun := s.time.lockRun, overRun := s.time.overRun, mpdA := n.mpdA, mpdB := n.mpdB, filter := n.filter,
                         neigh := n.neigh }
    s.modNet (fun n => { n with snaps := setAt (some snap.sealCrc) i n.snaps, snapDue := false })

/-- SNAPSHOT_WRITE (R200). -/
def execSnapshotWrite (s : State) : Host.Outcome State Fault Refusal := .next (snapshotWrite s)

end Sys2Proof.Machine
end

