-- ==== Sys2Proof/Machine/SafeOps.lean ====
section
/-! DEFINITION. Entry to SAFE: the shutdown sequence, what it leaves, and the end of RESUME's condition (R297-R300). -/

namespace Sys2Proof.Machine

/-- A cluster's heaters ramp to zero at the shutdown rate, its F pads at zero drive; without a working engine the drive
island ramps the held codes (R99, R298). -/
def Cluster.fastDown (k : Cluster) : Cluster :=
  if k.pow ≠ .on then { k with pow := .off }
  else
    let zero (c : Cell) : Cell := { c with uf := 0, pilotE := 0, fParked := true, ramp0 := c.eng.pSet }
    { k with pdown := true, pdownEnd := false, fast := decide (k.source ≠ .none), islandRamp := k.islandRamp || decide (k.source = .none),
             cells := k.cells.map zero }

/-- Every circuit and every epoch ends on entry to SAFE: pending, armed and sealed ones CANCELLED, open ones closed
CANCELLED with their cells UNDONE (R157, R298). -/
def State.safeEpochs (s : State) : State :=
  let s := s.endAll Epoch.placed .cancelled
  let s := (s.fab.held.filter (fun e => decide (e.st = .openE))).foldl (fun s e => s.closeEp e.ext .cancelled s.tai) s
  { s with fab := { s.fab with circuits := [], busy := none, queue := [], resolves := [], retireRetry := [], retireSingly := [] } }

/-- Mode commands still owed a completion end with BAD_MODE, unless they wait for firmware's return (R312). -/
def State.dropModeCmd (s : State) : State :=
  if s.sys.paused then s
  else
    (s.sys.modeCmd.toList ++ s.sys.darkNext).foldl (fun (s : State) (m : ModeCmd) => s.completeSeq m.port m.seq m.code stBadMode m.tag 0 [])
      { s with sys := { s.sys with modeCmd := none, darkNext := [] } }

/-- What round X leaves for the shutdown record (R299). -/
def State.shutdownOf (cause sensor : Nat) (t : Int) (s : State) : Shutdown :=
  let at_ := mailOf s.tai
  let m := s.thm
  let d (i : Nat) : DieS := m.dies.getD i {}
  let p (j : Nat) : Int := viewInt ((m.privs.getD j {}).t * 256)
  let rowMax (r : Nat) : Int :=
    maxOf (-32768) (((List.range 16).filter (fun i => !(d (16 * r + i)).broken)).map (fun i => (d (16 * r + i)).t))
  { cause := cause, mode := s.sys.mode.code, sensor := sensor, t := t, atS := at_.1, atNs := at_.2, era := s.time.era, wns := s.time.wns,
    stale := s.time.eraStale, anchors := (List.range 16).map p, rowMax := (List.range 16).map rowMax,
    islands := (List.range 16).map (fun i => (d (256 + i)).t), other := (List.range 16).map (fun i => (d (272 + i)).t),
    osc := p 16, ref := p 17, rails := s.hkc.rail.map HkcVal.v, vhtrMa := viewU 32 ((m.vhtrMa.sum : Rat) / 625),
    broken := m.dies.map DieS.broken, subst := m.privs.map PrivS.subst, hist := m.hist,
    early := s.sys.mode = .churn || s.sys.mode = .load }

/-- The shutdown sequence at X: the SAFE latch, its cause, THERM_SHUTDOWN; outside CHURN and LOAD mode SAFE, epochs and
circuits ended, both TXDIS high, every heater on its way to zero (R157, R202, R297, R298). Nothing while a shutdown is
under way. -/
def State.enterSafe (cause sensor : Nat) (t : Int) (s : State) : State :=
  if s.thm.safeLatch then s
  else
    let q := s.shutdownOf cause sensor t
    let m : Thm := { s.thm with safeLatch := true, cause := cause, causeSensor := sensor, shut := some q,
                                capsule := none, waitCaps := s.thm.waitCaps ++ s.thm.capsule.toList }
    let s : State := { s with thm := m }
    let s := s.raise 0x52 none
    if q.early then s
    else
      let s := ((s.dropModeCmd).setMode .safe).safeEpochs
      let s := (s.netDown false).netDown true
      let s := s.stopSpares
      { s with clusters := s.clusters.map Cluster.fastDown,
               sys := { s.sys with sweep := none, darkEntering := false, darkExiting := false, darkWait := [], waitOut := [], rowsLeft := [] } }

/-- Firmware copies the latest two Skim snapshots to SRAM; none exist before the end of LOAD (R297, R298). -/
def State.copyCapsule (s : State) : State :=
  match s.thm.shut with
  | none => s
  | some q =>
    if s.firmware = false ∨ q.early = true ∨ q.written = true ∨ s.thm.capsule.isSome = true ∨ s.rcd.snaps = [] then s
    else { s with thm := { s.thm with capsule := some s.rcd.snaps } }

/-- Every domain of the drive goes off with its heaters at zero: clusters, spares and islands; the next enable of every
cluster is a first one (R298, R384). -/
def State.driveOff (s : State) : State :=
  ({ s with clusters := s.clusters.map offCluster, islands := s.islands.map Island.off,
            spares := s.spares.map (fun p => { failmap := p.failmap, spareFailed := p.spareFailed, lastUs := p.lastUs }) } : State).forgetEnables

/-- Sixteen-bit words of a list. -/
def words16 (l : List Int) (n : Nat) : List Byte := (List.range n).flatMap (fun i => leBytes 2 (twos 16 (l.getD i 0)))

/-- The shutdown record's 512 bytes (R299). -/
def shutdownBytes (q : Shutdown) (queued : Bool) (capsule : Option (List (Nat × Nat × List Byte))) : List Byte :=
  let cap (i : Nat) : List Byte :=
    let l := capsule.getD []
    match l[(i + l.length) - 2]? with
    | none => List.replicate 12 0
    | some c => if i + l.length < 2 then List.replicate 12 0 else leBytes 4 c.2.1 ++ leBytes 6 c.1 ++ leBytes 2 0
  let fl := b2n q.stale + 2 * b2n capsule.isSome + 4 * b2n queued
  let body := leBytes 2 1 ++ leBytes 1 q.cause ++ leBytes 1 q.mode ++ leBytes 2 q.sensor ++ leBytes 2 (twos 16 q.t)
    ++ leBytes 4 q.atNs ++ leBytes 6 q.atS ++ leBytes 2 0 ++ leBytes 4 q.era ++ leBytes 4 q.wns ++ leBytes 1 fl ++ leBytes 3 0
    ++ words16 q.anchors 16 ++ words16 q.rowMax 16 ++ words16 q.islands 16 ++ words16 q.other 16
    ++ leBytes 2 (twos 16 q.osc) ++ leBytes 2 (twos 16 q.ref) ++ words16 q.rails 7 ++ leBytes 2 0 ++ leBytes 4 q.vhtrMa
    ++ leBytes 36 (mask q.broken) ++ leBytes 4 (mask q.subst)
    ++ (List.range 32).flatMap (fun i => match q.hist[i]? with
        | none => leBytes 4 0
        | some h => leBytes 2 (twos 16 h.2) ++ leBytes 2 (twos 16 h.1))
    ++ cap 0 ++ cap 1 ++ leBytes 132 0
  body ++ leBytes 4 (crc32c body)

/-- Firmware writes the shutdown record, or queues it, once (R298, R299). -/
def shutdownRecord (s0 : State) : State :=
  let s := s0.copyCapsule
  match s.thm.shut with
  | none => s0
  | some q =>
    if s.firmware = false ∨ q.written = true then s0
    else
      let bytes := shutdownBytes q s.sys.wouldQueue s.thm.capsule
      ({ s with thm := { s.thm with shut := some { q with written := true } } } : State).nvmWrite (.shutdown bytes)

/-- A capsule's bytes go to the next of eight places (R298, R325). -/
def putCapsule (c : List (Nat × Nat × List Byte)) (f : Flash) : Flash := f.putCapsule (c.flatMap (fun q => q.2.2))

/-- Firmware writes a tail capsule while a flash answers: one that still waits from an earlier shutdown, else that of this one, once
its record is written (R298, R299). -/
def tailCapsule (s : State) : State :=
  let s : State := if s.firmware then { s with sys := s.sys.tested } else s
  match s.sys.flash with
  | none => s
  | some f =>
    if s.firmware = false ∨ s.sys.wouldQueue = true then s
    else match s.thm.waitCaps, s.thm.capsule with
      | c :: cs, _ => { s with sys := { s.sys with flash := some (putCapsule c f) }, thm := { s.thm with waitCaps := cs } }
      | [], none => s
      | [], some c =>
        if (match s.thm.shut with | none => false | some q => !q.written) = true then s
        else { s with sys := { s.sys with flash := some (putCapsule c f) },
                      thm := { s.thm with capsule := none, shut := s.thm.shut.map (fun q => { q with capsuleWritten := true }) } }

/-- The ramp has ended: pads parked, the drive's domains off (R298). -/
def rampDone (s : State) : State :=
  match s.thm.shut with
  | none => s
  | some q =>
    if q.rampDone = true ∨ q.early = true ∨ s.sys.mode ≠ .safe then s
    else
      (({ s with thm := { s.thm with shut := some { q with rampDone := true } } } : State).driveOff).copyCapsule

/-- The exit rule of SAFE: no die sensor broken, every die sensor and anchor below its throttle clear level in the latest
PERSIST rounds (R300). -/
def State.mayResume (s : State) : Bool :=
  s.thm.dies.all (fun d => !d.broken && decide (s.thm.persist ≤ d.thr.below)) &&
    (s.thm.privs.take 16).all (fun p => decide (s.thm.persist ≤ p.thr.below))

/-- SHUTDOWN_RAMP_DONE (R298). -/
def execShutdownRampDone (s : State) : Host.Outcome State Fault Refusal := .next (rampDone s)

/-- SHUTDOWN_RECORD_WRITE (R299). -/
def execShutdownRecordWrite (s : State) : Host.Outcome State Fault Refusal := .next (shutdownRecord s)

/-- TAIL_CAPSULE_WRITE (R298). -/
def execTailCapsuleWrite (s : State) : Host.Outcome State Fault Refusal := .next (tailCapsule s)

end Sys2Proof.Machine
end

