-- ==== Sys2Proof/Machine/ThmRound.lean ====
section
/-! DEFINITION. The end of a slow round in the thermal sequencer: validation, values in use, thresholds, actions, the
temperatures delivered (R283-R297, R92, R372). -/

namespace Sys2Proof.Machine

/-! ### Die sensors (R285, R286) -/

/-- The neighbours of a die sensor (R285). -/
def dieNeighbours (i : Nat) : List Nat :=
  if i < 256 then
    (if 16 ≤ i then [i - 16] else []) ++ (if i % 16 ≠ 0 then [i - 1] else []) ++ (if i % 16 ≠ 15 then [i + 1] else [])
      ++ (if i < 240 then [i + 16] else [])
  else if i < 272 then
    let r := i - 256
    (if r % 2 = 0 then [16 * r, 16 * r + 1] else [16 * r + 15, 16 * r + 14]) ++ (if 2 ≤ r then [i - 2] else [])
      ++ (if r + 2 ≤ 15 then [i + 2] else [])
  else ((List.range 4).map (fun k => 272 + 4 * ((i - 272) / 4) + k)).filter (fun k => k ≠ i)

/-- A reading present, without a fault, within −55 °C to +150 °C (R285). -/
def readingGood (r : DieReading) : Bool := r.present && !r.fault && decide (-14080 ≤ r.t) && decide (r.t ≤ 38400)

/-- A sensor whose reading of this round is good and that is not broken. -/
def dieValid (ds : List DieS) (rs : List DieReading) (i : Nat) : Bool :=
  match ds[i]?, rs[i]? with
  | some d, some r => !d.broken && readingGood r
  | _, _ => false

/-- The readings of the valid neighbours of a sensor. -/
def neighbourTs (ds : List DieS) (rs : List DieReading) (i : Nat) : List Rat :=
  ((dieNeighbours i).filter (dieValid ds rs)).map (fun k => ((rs.getD k {}).t : Rat))

/-- One die sensor validated (R285): the run of deviating rounds, BROKEN latched, and its value in use; a broken sensor
has none, so its T is a free value (log 79). -/
def dieStep (ds : List DieS) (rs : List DieReading) (free i : Nat) (d : DieS) : DieS :=
  let r := rs.getD i { present := false }
  let dev := match medianR (neighbourTs ds rs i) with
    | none => d.dev
    | some m => if 5120 < |(r.t : Rat) - m| then d.dev + 1 else 0
  let dev := if readingGood r then dev else d.dev
  let broken := d.broken || !readingGood r || decide (3 ≤ dev)
  { d with dev := dev, broken := broken, t := if broken then untwos 16 (Config.freeWord (free + i)).toNat else r.t }

/-- A threshold condition with PERSIST (R284). `t` is the value in use in Q8.8. -/
def condStep (persist : Nat) (set clr : Int) (t : Rat) (c : Cond) : Cond :=
  let a := if (set : Rat) ≤ t then c.above + 1 else 0
  let b := if t < (clr : Rat) then c.below + 1 else 0
  { on := if persist ≤ a then true else if persist ≤ b then false else c.on, above := min a 4, below := min b 4 }

/-- The three conditions of a die sensor; those of a broken one are not evaluated (R284, R286). -/
def dieConds (p : Nat) (l : Limits) (d : DieS) : DieS :=
  if d.broken then { d with shut := {} }
  else { d with warn := condStep p l.warnSet l.warnClr d.t d.warn, thr := condStep p l.thrSet l.thrClr d.t d.thr,
                shut := condStep p l.shutSet l.shutClr d.t d.shut }

/-! ### Privileged sensors (R287, R288) -/

/-- Temperature of an anchor RTD by the two-term form of IEC 60751; none where the resistance has no temperature (R269). -/
def rtdTemp (r0 : Nat) (milli : Rat) : Option Rat :=
  let a : Rat := 39083 / 10000000
  let b : Rat := -5775 / 10000000000
  let q := a * a - 4 * b * (1 - milli / r0)
  if r0 = 0 ∨ q < 0 then none else some ((sqrtR q - a) / (2 * b))

/-- Temperature of the thermistor; none where the measured fraction leaves no resistance (R269). -/
def oscTemp (q : Hkcv) (code : Int) : Option Rat :=
  match oscMilli q.oscRfix code with
  | none => none
  | some r =>
    if r ≤ 0 ∨ q.oscR25 = 0 ∨ q.oscBeta = 0 then none
    else
      let inv : Rat := 20 / 5963 + lnR (r / q.oscR25) / q.oscBeta
      if inv ≤ 0 then none else some (1 / inv - 5463 / 20)

/-- The converted reading of privileged sensor j of this round, and whether its result carries OR or DIAG (R269, R287). -/
def State.privReading (s : State) (j : Nat) : Option Rat × Bool :=
  let h := s.hkc
  if j = 17 then (some ((h.refs.v : Rat) / 256), h.refs.ovr || h.refs.diag)
  else match h.conv with
    | none => (none, true)
    | some q =>
      if j = 16 then (oscTemp q h.oscCode, h.osc.ovr || h.osc.diag)
      else
        let v := h.rtd.getD j {}
        let g := q.rtd.getD j (0, 0)
        (rtdTemp g.1 (rtdMilli g.2 (h.rtdCode.getD j 0)), v.ovr || v.diag)

/-- The sensor is evaluated: the reference sensor always, the others once HKCV is applied, the thermistor where OSC_PAIR
names a pair (R284, R287). -/
def State.privEvaluated (s : State) (j : Nat) : Bool :=
  j = 17 || (match s.hkc.conv with | none => false | some q => decide (j ≠ 16) || decide (q.oscPair ≠ 0xFF))

/-- One privileged sensor in a round (R287). `base` is base_j, `fresh` the first 256 rounds after LOAD, in which the deviation test is
not applied and the gain is 1/16, `raw` what `THM_PRIV_RAW` shows of a reading without a temperature. A sensor that is not evaluated shows its
estimate and is not implausible by it (R284). -/
def privStep (applied evaluated fresh : Bool) (base : Rat) (reading : Option Rat × Bool) (raw : Rat) (p : PrivS) : PrivS :=
  let est := base + p.delta
  if evaluated = false then { p with t := est, subst := true, raw := raw, prev := none, okRun := 0, dev := 0 }
  else match reading.1 with
    | none => { p with t := est, subst := true, implausible := true, raw := raw, prev := none, okRun := 0, dev := 0 }
    | some x =>
      let dev := if fresh = false ∧ 10 < |x - est| then p.dev + 1 else 0
      let jump := match p.prev with | none => false | some y => decide (5 < |x - y|)
      let bad := reading.2 || decide (x < -60) || decide (150 < x) || decide (3 ≤ dev) || jump
      let ok := if bad then 0 else p.okRun + 1
      let subst := bad || (p.implausible && decide (ok < 100))
      let d := if subst || !applied then p.delta
        else clampR (-40) 40 (p.delta + (x - base - p.delta) / (if fresh then 16 else 256))
      { p with t := if subst then est else x, raw := x, delta := d, subst := subst, implausible := subst, dev := dev, okRun := min 100 ok,
               prev := some x }

/-- An anchor's conditions, once it is evaluated (R284, R289). -/
def ancConds (on : Bool) (p : Nat) (l : Limits) (a : PrivS) : PrivS :=
  if on = false then a
  else
    let t := a.t * 256
    { a with warn := condStep p l.warnSet l.warnClr t a.warn, thr := condStep p l.thrSet l.thrClr t a.thr,
             shut := condStep p l.shutSet l.shutClr t a.shut }

/-- The mean of the good sensors in a list; a free value where none is good (R287, log 8). -/
def State.baseOf (s : State) (rs : List DieReading) (is : List Nat) : Rat :=
  (meanR ((is.filter (dieValid s.thm.dies rs)).map (fun k => ((rs.getD k {}).t : Rat) / 256))).getD (Config.ratioOfNothing s.freeIx)

/-- The privileged sensors in a round: the reference sensor, the oscillator, then the anchors (R284, R287). -/
def State.privRound (rs : List DieReading) (s : State) : State :=
  let m := s.thm
  let applied := s.hkc.conv.isSome
  let after := decide (s.sys.mode ≠ .churn) && decide (s.sys.mode ≠ .load)
  let fresh := after && decide (m.learn < 256)
  let raw (j : Nat) : Rat := ((Config.freeNat (s.freeIx + j) % 65536 : Nat) : Rat) / 256
  let run (j : Nat) (base : Rat) : PrivS :=
    privStep applied (s.privEvaluated j) fresh base (s.privReading j) (raw j) (m.privs.getD j {})
  let ref := run 17 (s.baseOf rs [272, 273, 274, 275])
  let osc := run 16 ref.t
  let anc (j : Nat) : PrivS := ancConds applied m.persist m.anc (run j (s.baseOf rs ((List.range 16).map (fun k => 16 * j + k))))
  { s with thm := { m with privs := (List.range 16).map anc ++ [osc, ref], learn := if after then min 65535 (m.learn + 1) else m.learn },
           freeIx := s.freeIx + 18 }

/-! ### Conditions and actions (R289-R295, R297) -/

/-- The lowest broken die sensor of a quadrant with two or more (R286). -/
def Thm.brokenQuad (m : Thm) : Option Nat :=
  let bs := (List.range 288).filter (fun i => (m.dies.getD i {}).broken)
  bs.find? (fun i => decide (2 ≤ (bs.filter (fun k => quadrant k = quadrant i)).length))

/-- The shutdown condition of the round: cause, sensor and its value in use (R297). -/
def Thm.shutCond (m : Thm) : Option (Nat × Nat × Int) :=
  match (List.range 288).find? (fun i => (m.dies.getD i {}).shut.on) with
  | some i => some (1, i, (m.dies.getD i {}).t)
  | none => match (List.range 16).find? (fun j => (m.privs.getD j {}).shut.on) with
    | some j => some (2, 0x100 + j, viewInt ((m.privs.getD j {}).t * 256))
    | none => match m.brokenQuad with
      | some i => some (3, i, (m.dies.getD i {}).t)
      | none => none

/-- A condition is set now that was not before, for any sensor. -/
def newlySet (p : Thm → Nat → Bool) (n : Nat) (old new : Thm) : Bool := (List.range n).any (fun i => p new i && !p old i)

/-- An anchor's warning condition. -/
def Thm.ancWarn (m : Thm) (j : Nat) : Bool := match m.privs[j]? with | none => false | some p => p.warn.on

/-- The derate ceiling of a cluster after a round (R293). -/
def derateStep (start floor : Nat) (scope : Bool) (d : Nat) : Nat :=
  if scope then (if d = 0xFFFF then start else max floor (d - d / 8))
  else if d = 0xFFFF then d
  else
    let e := d + d / 16 + 16
    if start ≤ e then 0xFFFF else e

/-- `CLU_DERATE` of every cluster (R293). -/
def State.derateAll (s : State) : State :=
  let ds := mapIx (fun c d => derateStep s.thm.derStart s.thm.derFloor (s.thm.derates c) d) 0 s.thm.dDer
  ({ s with thm := { s.thm with dDer := ds } } : State).mapClu (fun c k => if k.pow = .on then { k with derate := ds.getD c 0xFFFF } else k)

/-- The device-wide actions of the throttle, the pause of a sweep, and DERATED (R294, R295). -/
def State.throttleAll (s : State) : State :=
  let any := s.thm.anyThr
  let s : State := { s with thm := { s.thm with slowBuses := any }, rcd := { s.rcd with throttled := any },
                            sys := { s.sys with sweep := s.sys.sweep.map (fun w => { w with paused := any }) } }
  if s.sys.mode = .service ∧ any = true then s.setMode .derated
  else if s.sys.mode = .derated ∧ any = false ∧ s.thm.dDer.all (fun d => decide (d = 0xFFFF)) = true then s.setMode .service
  else s

/-! ### Temperatures delivered (R182, R184, R296) -/

/-- T delivered to a cluster, and EST (R296). -/
def State.clusterT (s : State) (rs : List DieReading) (c : Nat) : Int × Bool :=
  let d := s.thm.dies.getD c {}
  if d.broken = false then (d.t, false)
  else match medianR (neighbourTs s.thm.dies rs c) with
    | some m => (viewInt m, true)
    | none => (viewInt (s.baseOf rs ((List.range 16).map (fun k => 16 * (c / 16) + k)) * 256), true)

/-- 1 − e^(−t) for a small t, by its series (R182, log 4). -/
def oneMinusExp (t : Rat) : Rat := t - t * t / 2 + t * t * t / 6 - t * t * t * t / 24

/-- The time base takes the oscillator temperature: the filter of 1 s, y_T and y_D (R182, R184). -/
def Time.oscRound (roundMs : Nat) (x : Rat) (now : Int) (t : Time) : Time :=
  let f := t.oscT + (x - t.oscT) * oneMinusExp ((roundMs : Rat) / 1000)
  let yd : Rat := match t.hoAt with
    | none => 0
    | some h => if t.srv = .holdover then (t.drift.toInt : Rat) / 256 * ((now - h : Int) : Rat) / 3600000000000 else 0
  { t with oscT := f, yT := yTemp t.ft f, yD := yd }

/-- Rail readings outside the operating conditions of R369, in mV, in the order of `HKC_RAIL` (R372). -/
def railLimits : List (Int × Int) :=
  [(720, 800), (1710, 1890), (1710, 1890), (3135, 3465), (-9450, -8550), (1067, 1166), (870, 930)]

/-- A rail reading that firmware reports: outside its range, without OR; a reading with DIAG is reported (R288, R372). -/
def railOut (v : HkcVal) (l : Int × Int) : Bool := v.ovr || v.diag || decide (v.v < l.1) || decide (l.2 < v.v)

/-- The checks that firmware makes each round: rails, and the clusters at P = 0.5 µs (R92, R372). -/
def State.railChecks (s : State) : State :=
  let rails := (List.range 7).map (fun i => railOut (s.hkc.rail.getD i {}) (railLimits.getD i (0, 0)))
  let v := s.hkc.rail.getD 0 {}
  let low := !v.diag && !v.ovr && decide (v.v < 800)
  let hot (c : Nat) : Bool := decide (95 * 256 < (s.thm.cluT.getD c (0, false)).1)
  let bad := (List.range 256).filter (fun c => s.cluOn c && decide (s.pNs c = 500) && low && hot c)
  if s.firmware then
    { s with thm := { s.thm with railBad := rails },
             sys := { s.sys with slack05 := if inService s.sys.mode then bad else [] } }
  else s

/-! ### The round (R284) -/

/-- The end of a round: validate, values in use, thresholds, actions, delivery (R284, R296). -/
def thermalRound (rs : List DieReading) (s : State) : State :=
  let old := s.thm
  let dies := mapIx (fun i d => dieStep old.dies rs s.freeIx i d) 0 old.dies
  let dies := dies.map (dieConds old.persist old.die)
  let s : State := { s with thm := { s.thm with dies := dies }, freeIx := s.freeIx + 288 }
  let s := s.privRound rs
  let m := s.thm
  let hot := (maxOf (-32768) ((m.privs.take 16).map (fun p => viewInt (p.t * 256))),
              maxOf (-32768) ((m.dies.filter (fun d => !d.broken)).map DieS.t))
  let s : State := { s with thm := { m with hist := (hot :: m.hist).take 32 } }
  let s := match m.shutCond with
    | none => s
    | some q => s.enterSafe q.1 q.2.1 q.2.2
  let s := if newlySet Thm.dieWarn 288 old m || newlySet Thm.ancWarn 16 old m then s.raise 0x50 none else s
  let s := if newlySet Thm.dieThr 288 old m || newlySet Thm.ancThr 16 old m then s.raise 0x51 none else s
  let s := (s.derateAll).throttleAll
  let s : State := { s with thm := { s.thm with cluT := (List.range 256).map (s.clusterT rs) },
                            hkc := { s.hkc with tR := viewInt ((m.privs.getD 17 {}).t * 256) },
                            time := s.time.oscRound m.roundMs (m.privs.getD 16 {}).t s.now }
  s.railChecks

end Sys2Proof.Machine
end

