-- ==== Sys2Proof/Machine/HkcFam.lean ====
section
/-! DEFINITION. The commands of the housekeeping converters (R265-R280). -/

namespace Sys2Proof.Machine

/-! ### The reference and core 0 (R268-R270) -/

/-- A write of `HKC_CTRL.REF_EN` (R268). -/
def refEnableWrite (s : State) : State :=
  if s.power.hkc = .on then s.modHkc (fun h => { h with refEn := true }) else s

/-- REF_ENABLE (R268). -/
def execRefEnable (s : State) : Host.Outcome State Fault Refusal := .next (refEnableWrite s)

/-- REF_RDY: core 0 is enabled and begins its rounds (R268, R280). -/
def refReadySet (s : State) : State :=
  if s.hkc.refEn = false ∨ s.hkc.refRdy = true ∨ s.power.hkc ≠ .on then s
  else ((s.modHkc (fun h => { h with refRdy := true, roundRun := true })).modCore 0 (fun c => { c with en := true, st := .running })).startRound

/-- REF_READY (R268). -/
def execRefReady (s : State) : Host.Outcome State Fault Refusal := .next (refReadySet s)

/-- The end of slot 49: HKC_DONE0, c0 of the next round, the thermal round, the next round's start (R266, R269, R270,
R284). -/
def roundEnd (die : List DieReading) (s : State) : State :=
  let c0 := s.kT * ((s.hkc.zsum : Rat) / 8)
  let s := s.hkcDone 0
  let s := (s.modCore 0 (fun c => { c with pass := (c.pass + 1) % 2 ^ 32 })).modHkc
    (fun h => { h with c0 := c0, rounds := (h.rounds + 1) % 2 ^ 32 })
  (thermalRound die s).startRound

/-- The end of a slot of core 0 (R269). A reading of slots 42 to 49 with OR set counts in the mean like any other, at its saturated
value (DESIGN CHOICE, log 159: R269 takes the mean of the eight and names no exception). -/
def slotEnd (r : SlotReading) (s : State) : State :=
  if s.hkc.roundRun = false then s
  else
    let k := s.hkc.slot
    let s := s.modHkc (fun h => { h with slot := k + 1, slotAt := s.now })
    if k < 25 then s.slotResult k r.raw r.val r.ovr
    else if k = 25 then (s.slotResult k r.raw r.val r.ovr).cenStart 0
    else if k < 42 then
      if k % 2 = 0 then s.modHkc (fun h => { h with cenOvr := r.ovr })
      else (s.censusSlot ((k - 26) / 2) r.vUv r.iNa (r.ovr || s.hkc.cenOvr)).cenStart ((k - 26) / 2 + 1)
    else
      let s := s.modHkc (fun h => { h with zsum := h.zsum + satCode r.raw })
      if k = 49 then roundEnd r.die s else s

/-- HKC_SLOT_END (R269). -/
def execHkcSlotEnd (r : SlotReading) (s : State) : Host.Outcome State Fault Refusal := .next (slotEnd r s)

/-! ### Passes of cores 1 and 2 (R273-R277) -/

/-- CODE of a conversion: in integrating mode bits 1 and 0 are 0 (R265). -/
def HkcCore.trunc (c : HkcCore) (code : Int) : Int := if c.sigma then code else code / 4 * 4

/-- A conversion of a pass completes (R266, R273, R275, R277); a capture that waits for it begins (R278), or where it was the
sequence's last, at the end of the pass (R274). -/
def conversionDone (n : Nat) (raw : Int) (ovr : Bool) (s : State) : State :=
  let c := s.core n
  match c.lSeq[c.pos]? with
  | none => s
  | some e =>
    if n = 0 ∨ c.st ≠ .running then s
    else
      let q := c.lCoef.getD c.pos (0, 1)
      let code := c.trunc (s.codeOf q.1 q.2 raw ovr)
      let s := if e.input = 17 then s.judgeProbe n (e.probeD : Int) code ovr else s
      let s := s.hkcWord n ovr false false code
      let last := decide (c.results e ≤ c.smp + 1)
      let s := s.modCore n (fun c => { c with pos := if last then c.pos + 1 else c.pos, smp := if last then 0 else c.smp + 1,
                                              nrdy := !s.hkc.refRdy })
      if last = true ∧ c.lSeq.length ≤ c.pos + 1 then s else s.syscalBegin n true

/-- HKC_CONVERSION_DONE (R273). -/
def execHkcConversionDone (core : Fin 3) (raw : Int) (ovr : Bool) (s : State) : Host.Outcome State Fault Refusal :=
  .next (conversionDone core.val raw ovr s)

/-- A pass ends, after its automatic probe where DIAG was set at its start (R273, R274, R277). -/
def passEnd (n : Nat) (probe : Int) (ovr : Bool) (s : State) : State :=
  let c := s.core n
  if n = 0 ∨ c.st ≠ .running ∨ c.pos < c.lSeq.length then s
  else
    let s := if c.lDiag then
        let code := c.trunc (s.codeOf 0 1 probe ovr)
        let s := (s.judgeProbe n (probeCodes.getD c.probeIx 0) code ovr).modCore n (fun c => { c with probeIx := (c.probeIx + 1) % 6 })
        s.hkcWord n ovr false false code
      else s
    s.endPass n

/-- HKC_PASS_END (R274). -/
def execHkcPassEnd (core : Fin 3) (probe : Int) (ovr : Bool) (s : State) : Host.Outcome State Fault Refusal :=
  .next (passEnd core.val probe ovr s)

/-- HKC_SW_START (R274). -/
def execHkcSwStart (core : Fin 3) (s : State) : Host.Outcome State Fault Refusal :=
  .next (if s.power.hkc = .on then s.swStart core.val else s)

/-- HKC_CORE_DISABLE (R280). -/
def execHkcCoreDisable (core : Fin 3) (s : State) : Host.Outcome State Fault Refusal := .next (s.hkcDisable core.val)

/-- The discharge ends; an EN set meanwhile takes effect (R280). -/
def dischargeEnd (n : Nat) (s : State) : State :=
  if (s.core n).st ≠ .discharge then s
  else
    let w := (s.core n).enWait
    let s := s.modCore n (fun c => { c with st := .idle, enWait := false, en := c.en || w })
    if w then s.contStart n else s

/-- HKC_DISCHARGE_END (R280). -/
def execHkcDischargeEnd (core : Fin 3) (s : State) : Host.Outcome State Fault Refusal := .next (dischargeEnd core.val s)

/-! ### FIFOs, queue, sequence (R271, R273, R276) -/

/-- A write of FLUSH (R276). -/
def State.hkcFlush (n : Nat) (s : State) : State := s.modCore n (fun c => { c with fifo := [] })

/-- HKC_FLUSH (R276). -/
def execHkcFlush (core : Fin 3) (s : State) : Host.Outcome State Fault Refusal :=
  .next (if s.power.hkc = .on then s.hkcFlush core.val else s)

/-- A read of `HKC_CORE_FIFO`: the head word is removed, or an over-read is counted (R275,
R276, R361, log 80). -/
def State.fifoRead (n m : Nat) (s : State) : State :=
  if isFirmware m = false ∨ s.power.hkc ≠ .on then s
  else s.modCore n (fun c => match c.fifo with | [] => { c with overread := sat6 c.overread } | _ :: ws => { c with fifo := ws })

/-- HKC_FIFO_READ (R276). -/
def execHkcFifoRead (core : Fin 3) (m : Master) (s : State) : Host.Outcome State Fault Refusal := .next (s.fifoRead core.val m.val)

/-- A write of `HKC_CENSUS_PRIO`: queued, or PRIO_FULL (R271, R282). -/
def State.prioWrite (v : Word) (s : State) : State :=
  if s.power.hkc ≠ .on then s
  else if 4 ≤ s.hkc.prio.length then s.modHkc (fun h => { h with prioFull := true })
  else s.modHkc (fun h => { h with prio := h.prio ++ [v.toNat % 8192] })

/-- CENSUS_PRIO_WRITE (R271). -/
def execCensusPrioWrite (v : Word) (s : State) : Host.Outcome State Fault Refusal := .next (s.prioWrite v)

/-- A sequence entry from its register word (R282). -/
def seqEntryOf (v : Word) : SeqEntry :=
  let w := v.toNat
  { probeD := bits w 27 16, samples := bits w 15 8, gain := bits w 7 5, input := bits w 4 0 }

/-- AIN pairs that the sequence of a core uses. -/
def HkcCore.pairs (c : HkcCore) : List Nat := (c.entries.map SeqEntry.input).filter (fun i => i < 16)

/-- The sequences obey R273: no pair in both cores' sequences, OSC_PAIR in none. -/
def State.seqLegal (s : State) (n : Nat) (c : HkcCore) : Bool :=
  let other := (s.core (3 - n)).pairs
  let osc := match s.hkc.conv with | none => 0xFF | some q => q.oscPair
  c.pairs.all (fun i => !other.contains i && decide (i ≠ osc))

/-- A change of a core's sequence or LEN is taken, or ignored with CFG_ERR (R273). -/
def State.seqChange (n : Nat) (f : HkcCore → HkcCore) (s : State) : State :=
  if s.seqLegal n (f (s.core n)) then s.modCore n f else s.modCore n (fun c => { c with cfgErr := true })

/-- A write of a sequence entry of core 1 or 2 (R273). -/
def State.seqWrite (n e : Nat) (v : Word) (s : State) : State :=
  if n = 0 ∨ s.power.hkc ≠ .on then s else s.seqChange n (fun c => { c with seq := setAt (seqEntryOf v) e c.seq })

/-- HKC_SEQ_WRITE (R273). -/
def execHkcSeqWrite (core : Fin 3) (e : Fin 16) (v : Word) (s : State) : Host.Outcome State Fault Refusal :=
  .next (s.seqWrite core.val e.val v)

/-! ### System calibration (R278) -/

/-- Conversions that a capture takes: two when integrating, twenty averaged in ΣΔ mode (R278). -/
def HkcCore.captureLen (c : HkcCore) : Nat := if c.sigma then 20 else 2

/-- A capture completes: its mean is held, the command completes with it, the core resumes with a new pass; an idle one that has
come to CONT meanwhile starts one (R274, R278). -/
def captureDone (n : Nat) (raws : List Int) (ovr : Bool) (s : State) : State :=
  match s.hkc.sysRun with
  | none => s
  | some r =>
    if r.core ≠ n ∨ r.waits = true ∨ raws.length ≠ (s.core n).captureLen then s
    else
      let mean := s.kT * (((raws.map satCode).sum : Rat) / raws.length)
      let v := viewInt mean
      let cap : Capture := { v := (v : Rat), atX := s.now, ovr := ovr }
      let hold (q : Syscal) : Syscal := if r.step = 0 then { q with cz := some cap } else { q with cf := some cap }
      let s := s.modHkc (fun h => { h with sysRun := none, sys := h.sys.map hold })
      let s := s.modCore n (fun c => { c with st := .idle })
      let s := if r.resume then s.startPass n (s.core n).origin else s.contStart n
      s.completeSeq r.port r.seq 0x0043 stOk r.tag 0 (leBytes 4 (twos 32 v) ++ leBytes 1 (b2n ovr))

/-- SYSCAL_CAPTURE_DONE (R278). -/
def execSyscalCaptureDone (core : Fin 3) (raws : List Int) (ovr : Bool) (s : State) : Host.Outcome State Fault Refusal :=
  .next (captureDone core.val raws ovr s)

end Sys2Proof.Machine
end

