-- ==== Sys2Proof/Machine/PilotMap.lean ====
section
/-! DEFINITION. The assignment of pilot channels to cells that firmware makes in LOAD (R118, R119). -/

namespace Sys2Proof.Machine

/-! ### Waveguide neighbours (R26-R29, R119) -/

/-- The physical cell at a logical index of an instance. -/
def swAt (f : Fabm) (i logical : Nat) : Option Nat :=
  (f.cells.find? (fun e => e.role = 1 && e.inst = i && e.logical = logical)).map CellEntry.n

/-- Logical joints between consecutive stages, and within the elements of a DBENES (R26, R27). -/
def benesJoints (dilated : Bool) (m n : Nat) : List (Nat × Nat) :=
  let half := n / 2
  let outCell (x j : Nat) : Nat := if dilated then 4 * x + 2 + j else x
  let inCell (x j : Nat) : Nat := if dilated then 4 * x + j else x
  let between := (List.range (2 * m - 2)).flatMap (fun s => (List.range n).map (fun l =>
    let l' := nextLine l s m
    (outCell (s * half + l / 2) (l % 2), inCell ((s + 1) * half + l' / 2) (l' % 2))))
  let within := if dilated then ((List.range ((2 * m - 1) * half)).flatMap (fun x =>
      [(4 * x, 4 * x + 2), (4 * x, 4 * x + 3), (4 * x + 1, 4 * x + 3), (4 * x + 1, 4 * x + 2)])) else []
  between ++ within

/-- Joints along the rows and columns of an XBAR (R28). -/
def xbarJoints (n : Nat) : List (Nat × Nat) :=
  (List.range n).flatMap (fun i => (List.range (n - 1)).flatMap (fun o =>
    [(i * n + o, i * n + o + 1), (o * n + i, (o + 1) * n + i)]))

/-- Joints between the cells of consecutive steps of any route (R29, R119). -/
def routeJoints (r : Route) : List (Nat × Nat) := (r.steps.map RouteStep.cell).zip ((r.steps.map RouteStep.cell).drop 1)

/-- Logical joints of an instance. -/
def instJoints (d : InstDesc) : List (Nat × Nat) :=
  if d.topo = 1 then benesJoints false d.log2n d.n
  else if d.topo = 2 then benesJoints true d.log2n d.n
  else if d.topo = 3 then xbarJoints d.n
  else d.routes.flatMap routeJoints

/-- Logical cells that a port end meets first: `k` is its place among the instance's inputs or outputs (R26-R29). -/
def firstMet (d : InstDesc) (isOut : Bool) (k : Nat) : List Nat :=
  let last := (2 * d.log2n - 2) * (d.n / 2)
  if d.topo = 1 then [if isOut then last + k / 2 else k / 2]
  else if d.topo = 2 then [if isOut then 4 * (last + k / 2) + 2 + k % 2 else 4 * (k / 2) + k % 2]
  else if d.topo = 3 then [if isOut then (d.n - 1) * d.n + k else k * d.n]
  else
    let rs := d.routes.filter (fun r => if isOut then r.out = k else r.inp = k)
    rs.filterMap (fun r => if isOut then (r.steps.getLast?).map RouteStep.cell else (r.steps.head?).map RouteStep.cell)

/-- Joints of a port end's GATE and TRIM cells (R119). -/
def portJoints (f : Fabm) (e : PortEntry) : List (Nat × Nat) :=
  match f.insts[e.inst]? with
  | none => []
  | some d =>
    if e.dir = 0 then []
    else
      let met := (firstMet d (e.dir = 2) (if e.dir = 2 then e.id - d.outBase else e.id - d.inBase)).filterMap (swAt f e.inst)
      let own := ([e.gate, e.trim] : List Nat).filter (fun n => n < 8192)
      own.flatMap (fun g => met.map (fun c => (g, c))) ++ (match own with | [g, t] => [(g, t)] | _ => [])

/-- All waveguide joints between physical cells. -/
def waveJoints (f : Fabm) : List (Nat × Nat) :=
  let inst (i : Nat) (d : InstDesc) : List (Nat × Nat) :=
    (instJoints d).filterMap (fun q => match swAt f i q.1, swAt f i q.2 with | some a, some b => some (a, b) | _, _ => none)
  (mapIx inst 0 f.insts).flatten ++ f.ports.flatMap (portJoints f)

/-! ### Site neighbours (R119, R127) -/

/-- The cell at a place of the 128 × 64 site grid. -/
def cellAtSite (x y : Nat) : Nat := 32 * (16 * (y / 4) + x / 8) + 8 * (y % 4) + x % 8

/-- Cells whose sites share an edge with a cell's site. -/
def siteNeighbours (n : Nat) : List Nat :=
  let x := 8 * (n / 32 % 16) + n % 8
  let y := 4 * (n / 512) + n % 32 / 8
  (if 0 < x then [cellAtSite (x - 1) y] else []) ++ (if x < 127 then [cellAtSite (x + 1) y] else [])
    ++ (if 0 < y then [cellAtSite x (y - 1)] else []) ++ (if y < 63 then [cellAtSite x (y + 1)] else [])

/-- A cell's neighbours (R119). -/
def pilotNeighbours (js : List (Nat × Nat)) (n : Nat) : List Nat :=
  (siteNeighbours n ++ js.filterMap (fun q => if q.1 = n then some q.2 else if q.2 = n then some q.1 else none)).eraseDups

/-! ### The assignment (R118, R119) -/

/-- Channels that meet the four-samples rule, in ascending order (R118). -/
def fourSamples (pNs : Nat) : List Nat := (List.range 32).filter (fun c => decide ((c / 2 + 1) * pNs ≤ 16000))

/-- Eligible channels (R118). -/
def eligible (w pNs : Nat) : List Nat := (fourSamples pNs).filter (fun c => decide ((c / 2 + 1) * w * pNs % 64000 = 0))

/-- The channel of a cell and its CLASH bit, given the channels of its neighbours (R119). -/
def pickChannel (w pNs : Nat) (used : List Nat) : Nat × Bool :=
  let al := eligible w pNs
  let fewest (l : List Nat) : Nat := (argMin (fun c => used.count c) l).getD 0
  if al = [] then (fewest (fourSamples pNs), true)
  else match al.find? (fun c => !used.contains c) with
    | some c => (c, false)
    | none => (fewest al, true)

/-- The assignment: place n is none for an UNUSED cell, else the channel and CLASH of cell n; cells in ascending order
(R119). `js` are the waveguide joints; `w` and `p` give PILOT_WIN and P in ns of a cell. -/
def assignPilots (f : Fabm) (js : List (Nat × Nat)) (w p : Nat → Nat) : Nat → Nat → List (Option (Nat × Bool)) → List (Option (Nat × Bool))
  | 0, _, acc => acc
  | fuel + 1, n, acc =>
    let used := (f.cells.any (fun e => e.n = n && e.role ≠ 0))
    let q : Option (Nat × Bool) :=
      if used then
        some (pickChannel (w n) (p n) ((pilotNeighbours js n).filterMap (fun k => ((acc[k]?).getD none).map (·.1))))
      else none
    assignPilots f js w p fuel (n + 1) (acc ++ [q])

end Sys2Proof.Machine
end

