-- ==== Sys2Proof/Machine/StartOps.lean ====
section
/-! DEFINITION. Device resets, what LOAD applies, and the entry to the modes (R303-R332). -/

namespace Sys2Proof.Machine

/-! ### Device resets (R190, R303, R304) -/

/-- A kind of reset that restarts the time base (R190, R303). -/
def ResetKind.restarts : ResetKind → Bool
  | .powerOn | .resetN | .lifeCycle => true
  | .watchdog | .steward => false

/-- The time base across a device reset: restarted, or running with its compare units disarmed and its capture units
cleared (R190). -/
def Time.afterReset (k : ResetKind) (t : Time) : Time :=
  if k.restarts then {} else { t with cmps := t.cmps.map (fun c => { c with armed := false }), caps := List.replicate 8 {} }

/-- The machine after a device reset: every register at its reset value but for the fuses, the time base where it runs
on with every master's TIME_LATCH (R190), the SAFE latch with its cause and the flash; CHURN begins, or waits for the release of RESET_N (R303, R304, R306, R364). The queue
of commands, the count of free values, the UART's record and host memory are the model's own and stay. -/
def State.finishReset (k : ResetKind) (s : State) : State :=
  let keep := decide (k ≠ .powerOn)
  let held := decide (k = .powerOn) || decide (k = .resetN)
  let up : DPow := if held then .off else .on
  let thm : Thm := if keep && s.thm.safeLatch then { safeLatch := true, cause := s.thm.cause, causeSensor := s.thm.causeSensor } else {}
  { pending := s.pending, freeIx := s.freeIx, mem := s.mem, thm := thm, time := s.time.afterReset k,
    latches := if k.restarts then List.replicate 14 0 else s.latches,
    power := { sram := List.replicate 8 up, braid := up },
    hosts := s.hosts.map (fun h => { outMem := h.outMem, sent := h.sent }),
    evt := { gpio := s.evt.gpio.map (fun g => { pad := g.pad }) },
    sys := { keyFused := s.sys.keyFused, keyHash := s.sys.keyHash, lc := s.sys.lc, strap := s.sys.strap, flash := s.sys.flash,
             uart := s.sys.uart, cause := k, held := held } }

/-- A device reset other than power-on: every heater ramps to zero with its F pad at zero drive (R304). RESET_N during the
ramp of another makes it a RESET_N reset (R303). A halt ends at a power-on reset or at RESET_N only (R309). -/
def State.beginReset (k : ResetKind) (s : State) : State :=
  if s.sys.held = true ∨ (s.sys.halt ≠ 0 ∧ k ≠ .resetN) then s
  else if s.sys.resetting.isSome = true then
    (if k = .resetN then { s with sys := { s.sys with resetting := some k } } else s)
  else
    let s := s.stopSpares
    { s with clusters := s.clusters.map Cluster.fastDown, sys := { s.sys with resetting := some k } }

/-- The whole NVM is erased (R324). -/
def eraseFlash (f : Flash) : Flash := { jedec := f.jedec, sfdp := f.sfdp }

/-- The transitions of the life cycle that are asked for from outside (R322); SEAL is firmware's own. -/
def LcState.leaves : LcState → LcState → Bool
  | .maker, .open_ => true
  | .open_, .returned | .open_, .ended => true
  | .sealed_, .returned | .sealed_, .ended => true
  | .returned, .ended => true
  | .maker, _ | .open_, _ | .sealed_, _ | .returned, _ | .ended, _ => false

/-- A transition of the life cycle, the NVM erased on entry to RETURNED and END, followed by a life-cycle reset (R322, R324). -/
def State.lifeCycle (dest : LcState) (s : State) : State :=
  if s.sys.strap = true ∧ s.sys.lc.leaves dest = true ∧ s.sys.resetting = none ∧ s.sys.held = false ∧ s.sys.halt = 0 then
    let fl := if dest = .open_ then s.sys.flash else s.sys.flash.map eraseFlash
    ({ s with sys := { s.sys with lc := dest, flash := fl } } : State).beginReset .lifeCycle
  else s

/-- A braid master may write a RWS register: firmware, or the steward's port (R213, R357). -/
def State.rwsWriter (s : State) (m : Nat) : Bool := isFirmware m || (s.braid.stewValid && decide (m = 9 + s.braid.steward))

/-- A write of `LCS_SRESET` (R337). -/
def State.sresetWrite (m : Nat) (v : Word) (s : State) : State :=
  if s.rwsWriter m = false ∨ s.power.periph ≠ .on then s
  else
    let force := bit v.toNat 16
    let ok := decide (v.toNat % 65536 = 0xA5C3) && (force || s.fab.circuits.isEmpty) && decide (s.sys.halt = 0)
    let s : State := { s with sys := { s.sys with srForce := if ok then force else s.sys.srForce, srRefused := !ok } }
    if ok then s.beginReset .steward else s

/-- A write of `LCS_LC_REQ` (R324). -/
def State.lcReqWrite (m : Nat) (v : Word) (s : State) : State :=
  if s.rwsWriter m = false ∨ s.power.periph ≠ .on ∨ v.toNat % 65536 ≠ 0x3E0D then s else s.lifeCycle .ended

/-! ### What LOAD applies (R306, R310) -/

/-- The atlas slot in use: the newest usable one, or the other (R326, R330). -/
def chooseAtlas (f : Fabm) (fl : Flash) : Option (Nat × AtlasSlot) :=
  let usable (k : Nat) : Option (Nat × AtlasSlot) :=
    match fl.atlas k with
    | none => none
    | some a => if atlasUsable f a then some (k, a) else none
  (slotOrder (fl.atlasA.bind AtlasSlot.gen?) (fl.atlasB.bind AtlasSlot.gen?)).findSome? usable

/-- An atlas comes into use: its slot, generation and retirement list (R35, R86, R330). -/
def Sys.useAtlas (q : Option (Nat × AtlasSlot)) (y : Sys) : Sys :=
  match q with
  | none => { y with atlas := none, atlNone := true, atlSlot := 0, genAtl := 0, retire := [], retireBad := [], retireFull := false }
  | some (k, a) =>
    { y with atlas := some a, atlNone := false, atlSlot := k, genAtl := a.generation, retire := a.retire, retireFull := false,
             retireBad := (List.range a.retire.length).filter (fun i => match a.retire[i]? with | none => false | some e => !e.crcOk) }

/-- The frequency table from a saved copy, or from the seeds of TIME (R183, R319). -/
def restoreFt (saved : Option (List (Nat × Int × Nat))) (seed : List (Option Int)) : List FtBin :=
  match saved with
  | some l => (List.range 128).map (fun b => match l.find? (fun q => q.1 = b) with
      | none => {}
      | some q => { y := q.2.1, yReg := q.2.1, n := min 64 q.2.2, valid := true })
  | none => (List.range 128).map (fun b => match seed.getD b none with
      | none => {}
      | some y => { y := y, yReg := y, valid := true })

/-- TIME applied: the servo's constants, PPS, step and EFC settings; after a restart of the time base the frequency table
(R187, R191, R310, R319). -/
def State.applyTime (s : State) : State :=
  let q := s.image.time
  let t := { s.time with kp := q.kp, ki := s.scaledKi (if q.source = 2 then 1 else 16), lockThr := BitVec.ofNat 32 q.lockThr, stepThr := BitVec.ofNat 32 q.stepThr,
                         ppsOfs := BitVec.ofInt 32 q.ppsOfs, ppsFree := q.freeOut, stepEn := q.stepEn, efcMode := q.efc }
  let t := if s.sys.cause.restarts then { t with ft := restoreFt (match s.sys.flash with | none => none | some f => f.freq) q.seed } else t
  { s with time := t }

/-- THRM applied: limits, actions, budget limits and seeds of Δ (R284, R287, R301). -/
def State.applyThrm (s : State) : State :=
  let q := s.image.thrm
  let seed (j : Nat) (p : PrivS) : PrivS := { p with delta := (q.delta.getD j 0 : Rat) / 256 }
  { s with thm := { s.thm with roundMs := q.roundMs, persist := q.persist, die := q.die, anc := q.anc, skipN := q.skipN, recHz := q.recHz,
                               derStart := q.derStart, derFloor := q.derFloor, iLim := q.iLim, pLim := q.pLim,
                               privs := mapIx seed 0 s.thm.privs, learn := 0 } }

/-- Settings of a user core from HKCV (R281). -/
def coreOf (q : CoreCfg) (c : HkcCore) : HkcCore :=
  { c with sigma := q.sigmaDelta, mains60 := q.mains60, trig := q.trig, rate := q.rate, diag := q.diag, len := q.len - 1,
           thresh := q.thresh, seq := (List.range 16).map (fun e => q.seq.getD e {}) }

/-- HKCV applied, and the coefficients of the record area: one whose CRC fails takes c0 = 0, g = 1 and is reported (R279,
R281, R310). -/
def State.applyHkcv (s : State) : State :=
  let q := s.image.hkcv
  let saved (x : Nat) : Option CoefEntry := match s.sys.flash with | none => none | some f => f.coef? x
  let coef (x : Nat) : Option (Int × Nat) := (saved x).map (fun e => if e.crcOk then (e.c0, e.g) else (0, 1073741824))
  let bad := (List.range 256).filter (fun x => (saved x).any (fun e => !e.crcOk))
  let cores := mapIx (fun n c => if n = 1 then coreOf q.core1 c else if n = 2 then coreOf q.core2 c else c) 0 s.hkc.cores
  { s with hkc := { s.hkc with conv := some q, vrefOut := q.vrefOutEn, cores := cores, coef := (List.range 256).map coef },
           sys := { s.sys with coefBad := bad } }

/-- Bytes of a region on one channel (R344). -/
def regionSpan (q : Nat × Nat × Nat) : Nat := mib * (1 + q.1 + q.2.1 / 2 + q.2.2 / 2)

/-- Byte offsets of the regions of the instances present, in ascending order (R344). -/
def placeRegions : Nat → List (Nat × Nat × Nat) → List Nat
  | _, [] => []
  | at_, q :: qs => at_ :: placeRegions (at_ + regionSpan q) qs

/-- Runs of consecutive regions with one owner: owner, first byte, bytes (R344). -/
def ownerRuns : List (Nat × Nat × Nat) → List (Nat × Nat × Nat)
  | [] => []
  | q :: qs =>
    match ownerRuns qs with
    | [] => [q]
    | r :: rs => if r.1 = q.1 then (q.1, q.2.1, q.2.2 + r.2.2) :: rs else q :: r :: rs

/-- `MTX_HWIN` of a host: at most two runs on each channel (R344). -/
def hostWindows (runs : List (Nat × Nat × Nat)) (h : Nat) : List (Bool × Nat × Nat) :=
  let mine := runs.filter (fun r => r.1 = h)
  let win (c : Nat) (r : Nat × Nat × Nat) : Bool × Nat × Nat := (true, (chBase c + r.2.1) / 4096, (chBase c + r.2.1 + r.2.2 - 1) / 4096)
  (mine.map (win 0) ++ mine.map (win 1) ++ List.replicate 4 (false, 0, 0)).take 4

/-- DMAP, PART and HOST applied to the recorder and to the braid (R243, R251, R263, R344). -/
def State.applyMaps (s : State) : State :=
  let n := s.instCount
  let regs := (s.image.dmap.regions.take n)
  let place := placeRegions 0 regs
  let runs := ownerRuns ((List.range n).map (fun i =>
    ((s.owner i).getD 9, place.getD i 0, regionSpan (regs.getD i (0, 0, 0)))))
  let bytes (q : Nat × Nat × Nat) : Nat × Nat × Nat := (mib * q.1, mib * q.2.1, mib * q.2.2)
  let host := s.image.host
  { s with rcd := { s.rcd with present := (List.range 4).map (fun i => decide (i < n)), place := (place ++ [0, 0, 0, 0]).take 4,
                               sizes := (regs.map bytes ++ List.replicate 4 (0, 0, 0)).take 4 },
           hosts := mapIx (fun p h => { h with subVid := host.subsysVid, subId := host.subsysId.getD p 0 }) 0 s.hosts,
           braid := { s.braid with stewValid := true, steward := host.steward, hwin := (List.range 4).map (hostWindows runs),
                                   mqos := mapIx (fun m q => if 9 ≤ m ∧ m ≤ 12 then host.qos.getD (m - 9) 6 else q) 0 s.braid.mqos } }

/-- The pilot channel and CLASH of every cell (R118, R119, R366). -/
def State.applyPilots (s : State) : State :=
  let a := assignPilots s.image.fabm (waveJoints s.image.fabm) (fun n => (s.cls n).pilotWin) (fun n => s.pNs (n / 32)) 8192 0 []
  { s with sys := { s.sys with pilots := a.map (fun q => match q with
      | none => (0, false, false)
      | some c => (c.1 / 2, decide (c.1 % 2 = 1), c.2)) } }

/-- Firmware is back with a time base that ran on: the ERA write owed, its origin from `TIME_TOS` and the region headers refreshed with
it, ACQUIRE (R170, R190, R346).
The TAI second of the origin follows from the pair it kept running. With REF_LOST set the servo keeps its state: no reference
qualifies for ACQUIRE (R180; DESIGN CHOICE, log 167). -/
def State.rebuildOrigin (s : State) : State :=
  let t := s.time
  let t := if t.eraStale then { t with era := (t.era + 1) % 2 ^ 32, eraStale := false } else t
  let top : Int := ((t.tosEra + b2n t.tosStale) % 2 ^ 32 : Nat) * 2 ^ 32 + t.tosWns
  let o := originPair ((t.originS : Int) + (top - t.originX) / 1000000000).toNat top
  let s := ({ s with time := { t with originS := o.1, originX := o.2 } } : State).refreshAll
  if t.run = true ∧ t.refLost = false then s.setSrv .acquire else s

/-- Sections applied in LOAD (R306). -/
def State.applySections (s : State) : State :=
  let s := ((((s.applyTime).applyThrm).applyHkcv).applyMaps).applyPilots
  if s.sys.cause.restarts then s else s.rebuildOrigin

end Sys2Proof.Machine
end

