-- ==== Sys2Proof/Machine/SweepOps.lean ====
section
/-! DEFINITION. The entry to SERVICE and CALIBRATE, the calibration sweep with its journal and its commit, and what follows LOAD and
SAFE (R87, R300, R306, R311, R315, R329-R334). -/

namespace Sys2Proof.Machine

/-! ### Modes -/

/-- Rows that hold a cluster to be powered (R24, R306). -/
def rowsOf (p : Nat → Bool) : List Nat :=
  (List.range 16).filter (fun r => (List.range 16).any (fun i => p (16 * r + i)))

/-- Clusters are powered one tile row at a time from now on (R306, R314). -/
def State.startRows (why : RowWhy) (p : Nat → Bool) (s : State) : State :=
  { s with sys := { s.sys with rowsLeft := rowsOf p, rowWhy := why } }

/-- SERVICE is entered with every cluster to power (R306, R311). -/
def State.enterService (why : RowWhy) (s : State) : State :=
  (s.setMode .service).startRows why (fun c => s.usedCluster c && (!s.cluOn c || (s.clu c).pdown))

/-- Every cluster is to power up anew, the next enable a first one: those that run ramp their heaters to zero first (R16, R100, R315,
R384). -/
def State.sweepDown (s : State) : State :=
  let s := s.stopSpares
  ({ s with clusters := s.clusters.map (fun k => if k.pow = .on then k.beginDown else offCluster k) } : State).forgetEnables

/-- CALIBRATE is left for SERVICE: the clusters power up anew, with the atlas in use (R315, R384). -/
def State.leaveCalibrate (s : State) : State :=
  let s : State := { s with sys := { s.sys with sweep := none } }
  (s.sweepDown).enterService .start

/-! ### The sweep (R315, R331) -/

/-- A journal entry of a sweep, with its CRC (R331). -/
def State.note (s : State) (w : Sweep) (kind unit : Nat) (blockCrc : Word) : JournalEntry :=
  ({ gen := w.gen, kind := kind, slot := w.slot, unit := unit, blockCrc := blockCrc, taiS := (mailOf s.tai).1 } : JournalEntry).sealCrc

/-- CALIBRATE is entered: clusters that run power down by their ramp, and the clusters with cells of instances or bound taps are
powered anew, row by row (R16, R24, R315, log 131). -/
def State.enterCalibrate (w : Sweep) (s : State) : State :=
  let s := (s.setMode .calibrate).sweepDown
  let s : State := { s with sys := { s.sys with sweep := some { w with paused := s.thm.anyThr }, calResumed := w.resumed, darkWait := [],
                                                waitOut := [] } }
  s.startRows .start s.usedCluster

/-- A sweep's generation: the next after the atlas in use (R329, R332). -/
def State.nextGen (s : State) : Word := if s.sys.atlas.isSome then s.sys.genAtl + 1 else 1

/-- A new sweep, into the slot not in use: the START entry, then the target slot erased (R329, R331). -/
def State.newSweep (s : State) : State :=
  let w : Sweep := { gen := s.nextGen, slot := if s.sys.atlas.isSome then 1 - s.sys.atlSlot else 0 }
  let s := s.enterCalibrate w
  (s.nvmWrite (.journal (s.note w 1 0 0))).nvmWrite (.eraseAtlas w.slot)

/-- The clusters with cells of instances, ascending: those that a sweep measures (R315). -/
def State.calClusters (s : State) : List Nat := (List.range 256).filter (fun c => !(s.cellInsts c).isEmpty)

/-- The cells of instances of a cluster, ascending (R315). -/
def State.calCells (s : State) (c : Nat) : List Nat :=
  ((List.range 32).map (fun k => 32 * c + k)).filter (fun n => decide ((s.entry n).role ≠ 0))

/-- A port-end tap that the sweep uses: bound to a port end of an instance (R315). -/
def State.tapBound (s : State) (t : Nat) : Bool := s.image.fabm.ports.any (fun p => decide (p.dir ≠ 0) && decide (p.tap = t) && decide (t ≠ 0xFFFF))

/-- The port-end taps that a sweep measures, ascending (R315). -/
def State.calTaps (s : State) : List Nat := (List.range 1024).filter s.tapBound

/-- The cell's record as the sweep takes it: accepted where the measurement accepts it, its F curve is strictly monotonic and the
predicted phase lies within the ACCEPT of ATLS of the measured one (R68, R330). -/
def State.sweptCell (s : State) (n : Nat) (a : AtlasCell) : AtlasCell :=
  { a with accepted := a.accepted && curveMonotonic a.fCurve && decide (a.ffErr ≤ s.image.atls.accept), role := (s.entry n).role }

/-- The sweep has come as far as `upTo`: clusters in ascending order, then the port-end taps (R315, log 176). -/
def State.sweepTake (s : State) (m : AtlasSlot) (upTo : Nat) (w : Sweep) : Sweep :=
  let due (q : Nat × AtlasCell) : Bool := decide (w.done ≤ q.1 / 32) && decide (q.1 / 32 < upTo) && decide ((s.entry q.1).role ≠ 0)
  let taps := if w.done ≤ 256 ∧ 257 ≤ upTo then m.ptaps.filter (fun q => s.tapBound q.1) else w.made.ptaps
  { w with made := { w.made with tRef := m.tRef, cells := w.made.cells ++ (m.cells.filter due).map (fun q => (q.1, s.sweptCell q.1 q.2)), ptaps := taps },
           done := max w.done (min upTo 257) }

/-- A cluster's records are written and then its CLUSTER entry, while the flash answers (R331, R334, log 176). -/
def State.fileCluster (c : Nat) (s : State) : State :=
  let s : State := { s with sys := s.sys.tested }
  match s.sys.sweep with
  | none => s
  | some w =>
    if s.sys.wouldQueue || w.filed.contains c || decide (w.done ≤ c) then s
    else
      let s := s.nvmWrite (.cells w.slot (w.made.cells.filter (fun q => q.1 / 32 = c)))
      let s := s.nvmWrite (.journal (s.note w 2 c (w.made.cellsSum (s.calCells c))))
      { s with sys := { s.sys with sweep := some { w with filed := w.filed ++ [c] } } }

/-- The port-tap records are written and then the PORTS entry (R331). -/
def State.filePorts (s : State) : State :=
  let s : State := { s with sys := s.sys.tested }
  match s.sys.sweep with
  | none => s
  | some w =>
    if s.sys.wouldQueue || w.portsFiled || decide (w.done < 257) then s
    else
      let s := s.nvmWrite (.ports w.slot w.made.ptaps)
      let s := s.nvmWrite (.journal (s.note w 3 0 (w.made.portsSum s.calTaps)))
      { s with sys := { s.sys with sweep := some { w with portsFiled := true } } }

/-- What has been measured is written, clusters in ascending order, then the port-end taps (R315, R331). -/
def State.fileSweep (s : State) : State := (s.calClusters.foldl (fun s c => s.fileCluster c) s).filePorts

/-- Two entries of the retirement list name the same unit: a cell, or a cluster's engine (R86). -/
def sameUnit (a b : RetireEntry) : Bool := decide (a.unit = b.unit) && decide ((a.kind = 3) = (b.kind = 3))

/-- The new retirement list: of the units that the sweep finds bad, those that the list in use names already, which have thus failed
again; every other entry is gone (R87). -/
def sweptList (old found : List RetireEntry) : List RetireEntry :=
  (found.filter (fun e => old.any (fun o => o.crcOk && sameUnit e o))).map RetireEntry.sealCrc

/-- The atlas a sweep commits, with its header (R87, R329, R330). -/
def State.sweptAtlas (s : State) (w : Sweep) (found : List RetireEntry) : AtlasSlot :=
  ({ w.made with generation := w.gen, picId := s.image.fabm.picId, picRev := s.image.fabm.picRev, cellsCrc := s.image.fabm.tableCrc,
                 taiS := (mailOf s.tai).1, retire := sweptList s.sys.retire found } : AtlasSlot).sealCrc

/-- Cells of instances that a sweep leaves retired (R319 MAX_RETIRE, R330). -/
def State.sweptBad (s : State) (a : AtlasSlot) : Nat :=
  (s.image.fabm.cells.filter (fun e => decide (e.role ≠ 0) &&
    !(a.cells.any (fun q => decide (q.1 = e.n) && q.2.accepted)))).length

/-- The CAL_DONE notice to the steward who asked for the sweep (R211). -/
def State.calDone (status : Nat) (s : State) : State :=
  if s.sys.calAsked then
    ({ s with sys := { s.sys with calAsked := false } } : State).notify s.steward 6 (leBytes 2 status) []
  else s

/-- Cells forget what the old list held: the new list alone retires (R87). Reasons of the old list go with it. A failed engine
stays failed until a device reset, after which the list in use is applied anew (R86, R98, R105). -/
def State.forgetRetired (s : State) : State :=
  let cell (c : Cell) : Cell := { c with eng := { c.eng with st := if c.eng.st = .retired then .off else c.eng.st, honly := false } }
  { s with clusters := s.clusters.map (fun k => { k with cells := k.cells.map cell }), sys := { s.sys with reasons := [] } }

/-- A sweep that ends well is committed: the new retirement list, the header last, then the COMMITTED entry; where the flash does not
answer the whole atlas is queued, then COMMITTED. It is put into use and SERVICE follows (R311, R315, R331, R334). -/
def State.commitSweep (w : Sweep) (a : AtlasSlot) (s : State) : State :=
  let s : State := { s with sys := s.sys.tested }
  let s := if s.sys.wouldQueue then s.nvmWrite (.atlas w.slot a) else (s.nvmWrite (.list w.slot a.retire)).nvmWrite (.header w.slot a)
  let s := s.nvmWrite (.journal (s.note w 4 0 0))
  let s : State := { s with sys := s.sys.useAtlas (some (w.slot, a)) }
  ((s.forgetRetired).calDone stOk).leaveCalibrate

/-- A sweep fails: more cells retired than MAX_RETIRE allows. The atlas in use stays; the code of CAL_DONE is unstated
(R319, log 7). -/
def State.failSweep (w : Sweep) (s : State) : State :=
  let s := s.nvmWrite (.journal (s.note w 5 0 0))
  let code := (Config.freeWord s.freeIx).toNat % 65536
  ({ s with freeIx := s.freeIx + 1, sys := { s.sys with sweep := none } } : State).calDone code

/-- The sweep has come to its end, with the cells and engines of the retirement list that it found bad (R87, R315, R331). -/
def State.endSweep (found : List RetireEntry) (s : State) : State :=
  match s.sys.sweep with
  | none => s
  | some w =>
    let a := s.sweptAtlas w found
    if s.image.atls.maxRetire < s.sweptBad a then s.failSweep w else s.commitSweep w a

/-! ### A sweep that was interrupted (R332) -/

/-- The latest START of the journal without a COMMITTED or ABANDONED entry after it, and the entries after it (R332). -/
def openStart : List JournalEntry → Option (JournalEntry × List JournalEntry)
  | [] => none
  | e :: es =>
    match openStart es with
    | some q => some q
    | none => if e.kind = 1 ∧ es.all (fun q => decide (q.kind ≠ 4) && decide (q.kind ≠ 5)) = true then some (e, es) else none

/-- An interrupted sweep found in the newer journal sector; an entry whose CRC fails is none (R331, R332). -/
def State.openSweep (s : State) : Option (JournalEntry × List JournalEntry) :=
  match s.sys.flash with
  | none => none
  | some f => if s.sys.absent || s.sys.foreign then none else openStart (f.journal.filter JournalEntry.crcOk)

/-- What a resumed sweep keeps of the slot that it writes: the clusters before the first whose CLUSTER entry is missing or whose
records fail its BLOCK_CRC, and after all of them the port-end taps where theirs hold (R332). -/
def State.keepBlocks (es : List JournalEntry) (w : Sweep) (s : State) : Sweep :=
  match s.sys.flash with
  | none => w
  | some f =>
    let a := flashDraft w.slot f
    let holds (c : Nat) : Bool := es.any (fun e => decide (e.kind = 2) && decide (e.unit = c) && decide (e.blockCrc = a.cellsSum (s.calCells c)))
    let kept := s.calClusters.takeWhile holds
    let ports := decide (kept = s.calClusters) && es.any (fun e => decide (e.kind = 3) && decide (e.blockCrc = a.portsSum s.calTaps))
    { w with made := { w.made with cells := a.cells.filter (fun q => kept.contains (q.1 / 32)), ptaps := if ports then a.ptaps else [] },
             done := match s.calClusters.drop kept.length with | c :: _ => c | [] => if ports then 257 else 256,
             filed := kept, portsFiled := ports }

/-- What a commit without a further measurement takes from before: T_REF, which no block holds, is a free value; of the retirement list
the cells whose records are not accepted, and the engines, count as failed again (DEDUCED, log 177). -/
def State.keptFound (s : State) (w : Sweep) : List RetireEntry :=
  s.sys.retire.filter (fun e => decide (e.kind = 3) || !w.made.cells.any (fun q => decide (q.1 = e.unit) && q.2.accepted))

/-- An interrupted sweep is resumed where CAL_RESUME, GEN and SLOT allow, or restarted; with every block good it goes straight to the
commit (R332). -/
def State.continueSweep (e : JournalEntry) (es : List JournalEntry) (s : State) : State :=
  let free := s.sys.atlas = none ∨ e.slot ≠ s.sys.atlSlot
  if s.image.atls.calResume = true ∧ e.gen = s.nextGen ∧ free then
    let w := s.keepBlocks es { gen := e.gen, slot := e.slot, resumed := true }
    let s := s.enterCalibrate w
    if w.portsFiled = true ∧ s.thm.anyThr = false then
      let t := untwos 16 (Config.freeWord s.freeIx).toNat
      let w : Sweep := { w with made := { w.made with tRef := t } }
      ({ s with freeIx := s.freeIx + 1, sys := { s.sys with sweep := some w } } : State).endSweep (s.keptFound w)
    else s
  else s.newSweep

/-- The mode that follows LOAD or SAFE: CALIBRATE with a sweep to continue or without a usable atlas, else SERVICE
(R311, R332). -/
def State.enterAfterLoad (why : RowWhy) (s : State) : State :=
  match s.openSweep with
  | some (e, es) => s.continueSweep e es
  | none => if s.sys.atlas.isNone then s.newSweep else s.enterService why

/-! ### SAFE is left (R300) -/

/-- RESUME clears the SAFE latch, and the mode that follows SAFE is entered (R300, R311, R332). -/
def State.resume (s : State) : State :=
  let s : State := { s with thm := { s.thm with safeLatch := false } }
  if s.sys.mode = .safe then (s.driveOff).enterAfterLoad .resume else s

end Sys2Proof.Machine
end

