-- ==== Sys2Proof/Machine/StartFam.lean ====
section
/-! DEFINITION. The commands of device resets, start-up, life cycle and power domains (R15-R17, R303-R325, R370, R371,
R384). -/

namespace Sys2Proof.Machine

/-! ### Resets -/

/-- POWER_ON_RESET (R303): VCORE or VIO below its threshold. -/
def execPowerOnReset (s : State) : Host.Outcome State Fault Refusal := .next (s.finishReset .powerOn)

/-- RESET_N low: shorter than 700 ns is ignored, 1 µs or longer resets, between either (R303, R370). -/
def resetN (lowNs : Nat) (s : State) : State :=
  if lowNs < 700 then s
  else if 1000 ≤ lowNs then s.beginReset .resetN
  else
    let q := s.either
    if q.1 then q.2.beginReset .resetN else q.2

/-- RESET_N_RESET (R370). -/
def execResetNReset (lowNs : Nat) (s : State) : Host.Outcome State Fault Refusal := .next (resetN lowNs s)

/-- A supply is lost abruptly: VCORE and VIO reset the device, any other parks every pad passively and the heaters stop
without a ramp; the mode stays (R303, R371, R372). -/
def supplyLoss (rail : Rail) (s : State) : State :=
  match rail with
  | .vcore | .vio => s.finishReset .powerOn
  | .vana | .vhtr | .vneg | .vddq | .vserdes =>
    { s with clusters := s.clusters.map Cluster.parkAll, sys := { s.sys with supplyOut := true } }

/-- SUPPLY_LOSS (R371). -/
def execSupplyLoss (rail : Rail) (s : State) : Host.Outcome State Fault Refusal := .next (supplyLoss rail s)

/-- The ramp of a device reset has ended (R304). -/
def resetRampDone (s : State) : State := match s.sys.resetting with | none => s | some k => s.finishReset k

/-- DEVICE_RESET_RAMP_DONE (R304). -/
def execDeviceResetRampDone (s : State) : Host.Outcome State Fault Refusal := .next (resetRampDone s)

/-- RESET_N is released with every supply in range: CHURN begins, LCSTRAP is read, braid and SRAM are powered (R306,
R371). -/
def resetRelease (strap : Bool) (s : State) : State :=
  if s.sys.held = false then s
  else { s with sys := { s.sys with held := false, strap := strap, supplyOut := false },
                power := { s.power with braid := .on, sram := List.replicate 8 .on } }

/-- RESET_RELEASE (R306). -/
def execResetRelease (strap : Bool) (s : State) : Host.Outcome State Fault Refusal := .next (resetRelease strap s)

/-- LCS_SRESET_WRITE (R337). -/
def execLcsSresetWrite (m : Master) (v : Word) (s : State) : Host.Outcome State Fault Refusal := .next (s.sresetWrite m.val v)

/-- LCS_LC_REQ_WRITE (R324). -/
def execLcsLcReqWrite (m : Master) (v : Word) (s : State) : Host.Outcome State Fault Refusal := .next (s.lcReqWrite m.val v)

/-- Zwiheral's authorisation over JTAG: in MAKER the final test has passed, to OPEN; else to RETURNED (R322, R324, log 155). -/
def makerAuthorised (s : State) : State := s.lifeCycle (if s.sys.lc = .maker then .open_ else .returned)

/-- MAKER_AUTHORISATION (R324). -/
def execMakerAuthorisation (s : State) : Host.Outcome State Fault Refusal := .next (makerAuthorised s)

/-! ### The clock (R161, R306, R308) -/

/-- The PLL locks: the detected frequency is shown and the counters start; where they already run from the internal
oscillator this is the return of the reference (R161, R162, R308). -/
def pllLocked (freq : Nat) (s : State) : State :=
  if s.sys.held = true ∨ s.time.pllLock = true then s
  else if s.time.run then referenceReturn freq s
  else { s with time := { s.time with run := true, pllLock := true, refValid := true, refFreq := freq } }

/-- PLL_LOCK (R161). -/
def execPllLock (freq : Fin 4) (s : State) : Host.Outcome State Fault Refusal := .next (pllLocked freq.val s)

/-- No reference by L + 20 ms: the counters start from the internal oscillator, the reference counts as lost, FREERUN
(R162, R308). -/
def refAbsent (s : State) : State :=
  if s.time.run = true ∨ s.sys.mode ≠ .load then s
  else { s with time := { s.time with run := true, refLost := true, refLostSeen := true, srv := .freerun }, sys := { s.sys with refAbsent := true } }

/-- REF_ABSENT_START (R308). -/
def execRefAbsentStart (s : State) : Host.Outcome State Fault Refusal := .next (refAbsent s)

/-! ### CHURN and LOAD (R305-R309, R321) -/

/-- An internal address of SRAM (R353). -/
def inSram (a : Nat) : Bool := decide (0x2000000000 ≤ a) && decide (a < 0x2002000000)

/-- An internal address of a DDR channel (R353). -/
def inDdr (c a : Nat) : Bool := decide (chBase c ≤ a) && decide (a < chBase c + 2 ^ 36)

/-- Start-up halts in LOAD (R309). -/
def State.haltAt (cause : Nat) (s : State) : State :=
  let s := s.setMode .load
  { s with sys := { s.sys with halt := cause }, power := { s.power with periph := .on, pcie := List.replicate 4 .on } }

/-- The first failing check is recorded (R309, R321, R336). -/
def State.bootFail (f : BootFail) (s : State) : State :=
  if s.sys.bootRule ≠ 0 then s
  else { s with sys := { s.sys with bootTag := f.tag, bootOfs := f.ofs, bootRule := f.rule } }

/-- The SRAM fill and compare end: firmware starts from the on-die ROM and LOAD begins, or start-up halts; RETURNED and END stop after
CHURN (R306, R307, R324, R336). `rom` is what the ROM's check finds (log 103). -/
def sramWiped (ok rom : Bool) (s : State) : State :=
  if s.sys.mode ≠ .churn ∨ s.sys.held = true ∨ s.sys.resetting.isSome = true ∨ s.sys.sramOk = true then s
  else if ok = false then (s.bootFail ⟨0, 0, 307⟩).haltAt 1
  else
    let s : State := { s with mem := Mem.clear inSram s.mem, sys := { s.sys with sramOk := true, wdtAt := s.now },
                              power := { s.power with periph := .on, pcie := List.replicate 4 .on } }
    if s.sys.lc = .returned ∨ s.sys.lc = .ended then s
    else if rom = false then (s.bootFail ⟨0, 0, 336⟩).haltAt 4
    else
      let s := s.setMode .load
      { s with sys := { s.sys with stage := 1 }, power := { s.power with cores := List.replicate 4 .on, hkc := .on } }

/-- SRAM_WIPE_DONE (R307). -/
def execSramWipeDone (ok : WipeEnd) (s : State) : Host.Outcome State Fault Refusal := .next (sramWiped ok.sram ok.rom s)

/-- Firmware checks one slot: the failure, or the bytes (R320, R321). An erased slot fails its MAGIC. -/
def State.trySlot (s : State) (f : Flash) (k : Nat) : BootFail ⊕ List Byte :=
  match f.image k with
  | none => .inl ⟨0, 0, 321⟩
  | some q =>
    match checkSlot true (if s.sys.lc = .sealed_ then some s.sys.keyHash else none)
        (if s.time.refValid then some s.time.refFreq else none) q with
    | some e => .inl e
    | none => .inr q.bytes

/-- A channel of the image is trained, or has come to an end (R306). -/
def State.ddrPast (s : State) (c : Nat) : Bool := s.sys.ddrDone.getD c true || s.sys.ddrTrained.getD c false

/-- STAGE 3: the atlas is chosen and checked (R306, R330, R336). -/
def State.atlasStage (s : State) : State :=
  let q := match s.sys.flash with | none => none | some f => chooseAtlas s.image.fabm f
  { s with sys := { (s.sys.useAtlas q) with stage := 3 } }

/-- STAGE 4: the sections are applied (R306, R336). -/
def State.applyStage (s : State) : State := ({ s with sys := { s.sys with stage := 4 } } : State).applySections

/-- A step of DRAM start-up ends: with no channel good at the end start-up halts. Once every channel is trained or has ended the atlas
is chosen, and at the next such step, or at once where no channel's wipe still runs, the sections are applied, all in parallel with
the wipe (R306, R307, R330, R336, log 103). After LOAD a channel that is powered again is trained and wiped alone. -/
def State.ddrEnd (s : State) : State :=
  if s.sys.mode ≠ .load ∨ s.sys.stage < 2 then s
  else if s.sys.ddrDone.all id = true ∧ s.sys.ddrOk.any id = false then (s.bootFail ⟨0, 0, 307⟩).haltAt 3
  else if s.sys.stage = 2 ∧ s.ddrPast 0 = true ∧ s.ddrPast 1 = true then
    if s.sys.ddrDone.all id then s.atlasStage.applyStage else s.atlasStage
  else if s.sys.stage = 3 then s.applyStage
  else s

/-- Firmware waits for a step of a channel's start-up: the channel is powered and has not come to an end, and start-up has reached
it and has not halted (R306, R307, R309). -/
def State.ddrWaits (s : State) (c : Nat) : Bool :=
  decide (2 ≤ s.sys.stage) && s.firmware && decide (s.sys.halt = 0) && !(s.sys.ddrDone.getD c true) &&
    decide (s.power.ddr.getD c .off = .on)

/-- The slots are tried in order; the first valid one runs, and start-up halts where its DRAM section fits no channel (R307,
R321, R326). -/
def tryImages (f : Flash) : List Nat → State → State
  | [], s => s.haltAt 2
  | k :: ks, s =>
    match s.trySlot f k with
    | .inl e => tryImages f ks ((({ s with sys := { s.sys with imgFail := setAt true k s.sys.imgFail } } : State)).bootFail e)
    | .inr bytes =>
      let i := imageOf bytes
      let fit (c : Nat) : Bool := (i.dram.getD c {}).fitted
      ({ s with sys := { s.sys with img := some { bytes := bytes, image := i }, imgSlot := k, genImg := (readHdr bytes).generation, stage := 2,
                                    ddrOk := [false, false], ddrTrained := [false, false], ddrDone := [!fit 0, !fit 1] },
                power := { s.power with ddr := [if fit 0 then .on else .off, if fit 1 then .on else .off], recorder := .on, dma := .on,
                                        solver := .on } } : State).ddrEnd

/-- GENERATION of a slot; an erased one has none (R318, R326). -/
def slotGen (q : Option ImageSlot) : Option Word := if slotErased q then none else q.map genOf

/-- The image copy completes and the slots are checked, once the counters run: the reference's frequency is detected, or start-up goes
on without a reference (R161, R306, R308, R309, R321, R322, log 151). The flash's identification is taken for the later tests, of which the
first is whether a flash is there at all (R333). -/
def imageCheck (flash : Option Flash) (s : State) : State :=
  if s.sys.mode ≠ .load ∨ s.sys.stage ≠ 1 ∨ s.firmware = false ∨ s.time.run = false then s
  else
    let fl := (flash.orElse (fun _ => s.sys.flash)).filter Flash.signed
    let s : State := { s with sys := { s.sys with flash := fl, present := fl.isSome, absent := fl.isNone, answers := fl.isSome,
                                                  idJedec := match fl with | none => 0 | some f => f.jedec,
                                                  idSfdp := match fl with | none => [] | some f => f.sfdp } }
    if s.sys.lc = .maker then (s.bootFail ⟨0, 0, 322⟩).haltAt 2
    else match fl with
      | none => (s.bootFail ⟨0, 0, 321⟩).haltAt 2
      | some f => tryImages f (slotOrder (slotGen f.slotA) (slotGen f.slotB)) s

/-- LOAD_IMAGE_CHECK (R321). -/
def execLoadImageCheck (flash : Option Flash) (s : State) : Host.Outcome State Fault Refusal := .next (imageCheck flash s)

/-- The boot status goes to the UART once per second in a halt (R309). -/
def haltReport (s : State) : State :=
  if s.sys.halt = 0 then s
  else { s with sys := { s.sys with uart := s.sys.uart ++ [(s.sys.stage, s.sys.halt, s.sys.bootTag, s.sys.bootOfs, s.sys.bootRule)] } }

/-- HALT_UART_REPORT (R309). -/
def execHaltUartReport (s : State) : Host.Outcome State Fault Refusal := .next (haltReport s)

/-- A channel is marked failed (R307). -/
def State.ddrBad (c : Nat) (s : State) : State :=
  ({ s with sys := { s.sys with ddrFail := setAt true c s.sys.ddrFail, ddrDone := setAt true c s.sys.ddrDone } } : State).ddrEnd

/-- A channel's training ends (R307). -/
def ddrTrained (c : Nat) (ok : Bool) (s : State) : State :=
  if s.ddrWaits c = false ∨ s.sys.ddrTrained.getD c true = true then s
  else if ok then ({ s with sys := { s.sys with ddrTrained := setAt true c s.sys.ddrTrained } } : State).ddrEnd
  else s.ddrBad c

/-- DDR_TRAINING_DONE (R307). -/
def execDdrTrainingDone (ch : Fin 2) (ok : Bool) (s : State) : Host.Outcome State Fault Refusal := .next (ddrTrained ch.val ok s)

/-- A channel's fill and compare end (R307). -/
def dramWiped (c : Nat) (ok : Bool) (s : State) : State :=
  if s.ddrWaits c = false ∨ s.sys.ddrTrained.getD c false = false then s
  else if ok then
    ({ s with mem := Mem.clear (inDdr c) s.mem,
              sys := { s.sys with ddrOk := setAt true c s.sys.ddrOk, ddrDone := setAt true c s.sys.ddrDone } } : State).ddrEnd
  else s.ddrBad c

/-- DRAM_WIPE_DONE (R307). -/
def execDramWipeDone (ch : Fin 2) (ok : Bool) (s : State) : Host.Outcome State Fault Refusal := .next (dramWiped ch.val ok s)

/-! ### The end of LOAD (R240, R306, R311, R323, R338) -/

/-- The recorder starts: rings of the sizes given, halved by a lost channel, the capture list and rate of DMAP, region
headers (R338, R340, R341, R344, R346, R350). -/
def State.startRecorder (s : State) : State :=
  let q := s.image.dmap
  let lost := (List.range 2).map (fun c => !s.chOk c)
  let n := (lost.filter id).length
  let size (i k : Nat) : Nat :=
    let b := ringSize (s.rcd.sizes.getD i (0, 0, 0)) k
    if n = 2 then 0 else if n = 1 ∧ k ≠ 0 then b / 2 else b
  let rings := (List.range 4).map (fun i => (List.range 3).map (fun k => ({ size := size i k } : Ring)))
  let sel := (List.range 256).map (fun i => if i < q.capCount then (match q.capCells[i]? with | some c => BitVec.ofNat 32 (2 ^ 31 + c % 8192) | none => 0) else 0)
  let s : State := { s with rcd := { s.rcd with on := true, rings := rings, chLost := lost, hz := q.skimHz, f := if s.thm.anyThr then min q.skimHz s.thm.recHz else q.skimHz, capEn := q.capEn,
                                                capSel := sel, throttled := s.thm.anyThr } }
  ({ s with rcd := { s.rcd with capNow := s.capList, capDirty := false } } : State).refreshAll

/-- An OPEN device with SEAL set and LCSTRAP high is sealed and resets; with LCSTRAP low SEAL is ignored and reported
(R323). -/
def State.sealDue (s : State) : Bool := decide (s.sys.lc = .open_) && s.image.idnt.sealReq

/-- LOAD has come to its end: the sections are applied, no channel's wipe still runs, one is good, and start-up has not halted
(R306, R307, R309). -/
def State.loadDone (s : State) : Bool :=
  decide (s.sys.mode = .load) && decide (s.sys.stage = 4) && s.firmware && decide (s.sys.halt = 0) &&
    s.sys.ddrDone.all id && s.sys.ddrOk.any id

/-- LOAD ends (R306, R311, R323). -/
def loadEnds (s : State) : State :=
  if s.loadDone = false then s
  else
    let s : State := { s with sys := { s.sys with stage := 5, ready := true, sealIgnored := s.sealDue && !s.sys.strap } }
    let s := (((s.evtApply).startRecorder).netStart).statusChanged
    let s : State := { s with thm := { s.thm with learn := 0 } }
    if s.sealDue && s.sys.strap then
      ({ s with sys := { s.sys with lc := .sealed_, keyFused := true, keyHash := s.image.idnt.ownerKeyHash } } : State).beginReset .lifeCycle
    else if s.thm.safeLatch then ((s.netDown false).netDown true).setMode .safe
    else s.enterAfterLoad .start

/-- LOAD_END (R306). -/
def execLoadEnd (s : State) : Host.Outcome State Fault Refusal := .next (loadEnds s)

/-! ### Power domains (R15-R17, R195, R313, R365) -/

/-- A domain's power in State, for the domains that no other structure holds. -/
def Power.put (d : Domain) (p : DPow) (w : Power) : Power :=
  match d with
  | .core i => { w with cores := setAt p i.val w.cores }
  | .sram b => { w with sram := setAt p b.val w.sram }
  | .pcie h => { w with pcie := setAt p h.val w.pcie }
  | .ddr c => { w with ddr := setAt p c.val w.ddr }
  | .hkc => { w with hkc := p }
  | .recorder => { w with recorder := p }
  | .dma => { w with dma := p }
  | .solver => { w with solver := p }
  | .periph => { w with periph := p }
  | .braid => { w with braid := p }
  | .cluster _ | .spare _ | .island _ | .net _ => w

/-- The recorder or a DMA program holds data in a channel (R16). DESIGN CHOICE (log 135): the recorder does while it runs, powered, on
a channel that is not lost and any of its rings has a byte written or its staging buffer a block; the DMA engine does while any
of its channels runs. Firmware's own data is no state of the model: its request says that it holds none. -/
def State.ddrHolds (s : State) (c : Nat) : Bool :=
  (s.rcd.on && decide (s.power.recorder ≠ .off) && s.chOk c &&
    (!s.rcd.stage.isEmpty || s.rcd.rings.any (fun l => l.any (fun (r : Ring) => decide (0 < r.size) && decide (0 < r.w))))) ||
  (decide (s.power.dma ≠ .off) && s.dma.chs.any DmaCh.active)

/-- A switch-off that R16 refuses: dependants powered, a row's clusters or spare engine powered, an open epoch, data held in a
channel; braid and peripheral bus outside DARK; the recorder while it runs, which firmware keeps powered (R338). A cluster that holds bound taps alone stays on with its instances' clusters
(R24). -/
def State.offBreaks (s : State) (d : Domain) : Bool :=
  let any (l : List Domain) : Bool := l.any (fun x => decide (s.domPow x ≠ .off))
  match d with
  | .island r => s.rowBusy r.val || decide (sprPow (s.spare r.val) ≠ .off)
  | .braid =>
    decide (s.sys.mode ≠ .dark) || (List.range 16).any s.rowBusy || s.islands.any (fun i => decide (i.pow ≠ .off)) ||
      any [.recorder, .dma, .solver, .periph, .net 0, .net 1, .ddr 0, .ddr 1, .pcie 0, .pcie 1, .pcie 2, .pcie 3]
  | .periph => decide (s.sys.mode ≠ .dark) || any [.net 0, .net 1, .pcie 0, .pcie 1, .pcie 2, .pcie 3]
  | .solver => s.fab.held.any (fun e => decide (e.st = .openE))
  | .ddr c => s.ddrHolds c.val
  | .spare r => decide ((s.spare r.val).st = .active) ||
      decide ((s.spare r.val).st = .powering) || decide ((s.spare r.val).st = .loading) || decide ((s.spare r.val).st = .selftest)
  | .hkc => decide (s.sys.mode ≠ .churn)
  | .cluster c => (List.range 32).any (fun k => s.circuitThrough (32 * c.val + k)) || s.openNames c.val || s.pendingIn c.val ||
      s.tapsNeeded c.val
  | .recorder => s.rcd.on
  | .core _ | .sram _ | .net _ | .pcie _ | .dma => false

/-- A domain goes off: a cluster by its ramp, a network path with its transmitter off first, a DDR channel with its contents
unverified from now on, until it is trained and wiped again (R16, R100, R195, R305, R365). -/
def State.domOff (d : Domain) (s : State) : State :=
  match d with
  | .cluster c => clusterDown c.val s
  | .island r => s.modIsland r.val Island.off
  | .net p => s.netDown (decide (p.val = 1))
  | .spare r => s.modSpare r.val (fun p => { p with st := .off, pow := .off })
  | .ddr c => { s with power := s.power.put d .off,
                       sys := { s.sys with ddrOk := setAt false c.val s.sys.ddrOk, ddrTrained := setAt false c.val s.sys.ddrTrained,
                                           ddrDone := setAt false c.val s.sys.ddrDone } }
  | .core _ | .sram _ | .pcie _ | .hkc | .recorder | .dma | .solver | .periph | .braid =>
    { s with power := s.power.put d .off }

/-- A domain begins to power up (R17); with a cluster the clusters that hold only taps of its instances (R24). -/
def State.domRise (d : Domain) (s : State) : State :=
  match d with
  | .cluster c => (c.val :: s.tapsWith c.val).foldl (fun s q => s.modClu q (fun k => { k with pow := .rising })) s
  | .island r => s.modIsland r.val (fun i => { i with pow := .rising })
  | .net p => s.modNet (Net.modPort (decide (p.val = 1)) (fun q => { q with pow := .rising }))
  | .spare r => s.modSpare r.val (fun p => { p with pow := .rising })
  | .core _ | .sram _ | .pcie _ | .ddr _ | .hkc | .recorder | .dma | .solver | .periph | .braid =>
    { s with power := s.power.put d .rising }

/-- Firmware requests a switch; the power controller refuses one that breaks a dependency (R16). -/
def domainRequest (d : Domain) (on : Bool) (s : State) : State :=
  if s.firmware = false then s
  else if on then (if s.domPow d = .off ∧ s.domNeeds d = true then s.domRise d else s)
  else if s.domPow d = .off ∨ s.offBreaks d = true then s
  else s.domOff d

/-- POWER_DOMAIN_REQUEST (R16). -/
def execPowerDomainRequest (d : Domain) (on : Bool) (s : State) : Host.Outcome State Fault Refusal := .next (domainRequest d on s)

/-- A drive island's domain is up: its interval begins, and its row's modulators have drawn nothing in it (R116). -/
def State.islandUp (r : Nat) (s : State) : State :=
  (s.mapClu (fun c k => if c / 16 = r then { k with iAcc := 0 } else k)).modIsland r (fun i => { i with pow := .on, predFrom := s.now })

/-- A domain is up; a cluster's SARs have calibrated themselves and it starts its cells (R17, R126, R384). -/
def domainUp (d : Domain) (sarCal : List (List Nat)) (s : State) : State :=
  if s.domPow d ≠ .rising then s
  else match d with
    | .cluster c => s.cluUp c.val sarCal
    | .island r => s.islandUp r.val
    | .net p => s.netUp (decide (p.val = 1))
    | .spare r => s.modSpare r.val (fun p => { p with pow := .on })
    | .core _ | .sram _ | .pcie _ | .ddr _ | .hkc | .recorder | .dma | .solver | .periph | .braid =>
      { s with power := s.power.put d .on }

/-- POWER_DOMAIN_UP (R17). -/
def execPowerDomainUp (d : Domain) (sarCal : List (List Nat)) (s : State) : Host.Outcome State Fault Refusal :=
  .next (domainUp d sarCal s)

/-- Clusters that a row's power-up powers: all that may be, or on leaving DARK those switched off (R24, R306, R314). -/
def State.rowClusters (s : State) (r : Nat) : List Nat :=
  ((List.range 16).map (fun i => 16 * r + i)).filter (fun c =>
    s.mayPower c && decide ((s.clu c).pow = .off) && (decide (s.sys.rowWhy ≠ .darkExit) || s.sys.waitOut.contains c))

/-- A cluster of the row still ramps its heaters to zero before it powers up anew (R16, R100). -/
def State.rowRamps (s : State) (r : Nat) : Bool :=
  (List.range 16).any (fun i => decide ((s.clu (16 * r + i)).pow = .on) && (s.clu (16 * r + i)).pdown &&
    (decide (s.sys.rowWhy ≠ .darkExit) || s.sys.waitOut.contains (16 * r + i)))

/-- The next tile row is powered, its drive island first, with the braid on and none of its clusters still in a ramp; `sarCal` gives
what the SARs of each of its clusters record (R16, R126, R306, R314). -/
def rowPowerUp (sarCal : List (List (List Nat))) (s : State) : State :=
  match s.sys.rowsLeft with
  | [] => s
  | r :: rs =>
    if s.firmware = false ∨ s.power.braid ≠ .on ∨ s.rowRamps r = true then s
    else
      let cs := s.rowClusters r
      let s := if (s.island r).pow = .on then s else s.islandUp r
      let s := cs.foldl (fun s c => s.cluUp c (sarCal.getD (c % 16) [])) s
      { s with sys := { s.sys with rowsLeft := rs } }

/-- CLUSTER_ROW_POWER_UP (R306). -/
def execClusterRowPowerUp (sarCal : List (List (List Nat))) (s : State) : Host.Outcome State Fault Refusal :=
  .next (rowPowerUp sarCal s)

end Sys2Proof.Machine
end

