-- ==== Sys2Proof/Machine/ModeOps.lean ====
section
/-! DEFINITION. RESTART and firmware's return, entry to and exit from DARK, the NVM's return, image activation: what the mode
commands share (R190, R220, R311-R317, R328-R335). -/

namespace Sys2Proof.Machine

/-! ### RESTART (R316, R317) -/

/-- Firmware is absent: PAUSED, the cores reset, a RESTART counted, the watchdog's allowance begins (R316, R317). -/
def State.firmwareLost (s : State) : State :=
  let s := (([0, 1, 2, 3] : List Nat)).foldl (fun s m => s.dropMaster m) s
  ({ s with sys := { s.sys with paused := true, restarts := sat16 s.sys.restarts, wdtAt := s.now } } : State).statusChanged

/-- RESTART is entered from SERVICE, DERATED or DARK: pending and armed epochs are cancelled, their reports wait (R157, R316). -/
def State.restartEnter (s : State) : State :=
  let old := s.sys.mode
  let s := s.firmwareLost.setMode .restart
  ({ s with sys := { s.sys with before := old } } : State).cancelPending

/-- A firmware fault or a first-stage expiry (R317). -/
def State.firmwareFails (s : State) : State :=
  if s.firmware = false then s
  else match s.sys.mode with
    | .service | .derated | .dark => s.restartEnter
    | .load | .calibrate => s.beginReset .watchdog
    | .safe => s.firmwareLost
    | .churn | .restart => s

/-- A gate of the port end blocks it: its live target is CROSS (R34). -/
def State.gateBlocks (s : State) (port : Nat) : Bool :=
  let g := (s.port port).gate
  decide (g ≠ 0xFFFF) && decide ((s.cell g).live.state = .cross)

/-- Circuits of an instance that the live targets trace through its topology: a path whose every cell stands as the path
needs, between port ends that no gate blocks (R34, R316). -/
def State.traced (s : State) (inst : Nat) : List Circuit :=
  let v := s.view inst 0
  let v : View := { v with circuits := [], cells := v.cells.map (fun c => { c with bad := false, st := (s.cell c.cell).live.state }) }
  let ins := ((List.range v.desc.n).map (· + v.desc.inBase)).filter (fun p => !s.gateBlocks p)
  let outs := ((List.range v.desc.n).map (· + v.desc.outBase)).filter (fun p => !s.gateBlocks p)
  let stands (p : PStep) : Bool := decide ((s.cell p.cell).live.state = p.st)
  ins.flatMap (fun i => outs.filterMap (fun o =>
    ((paths v i o).find? (fun p => p.all stands)).map (fun p => ({ inst := inst, inp := i, out := o, path := p } : Circuit))))

/-- Closed epochs, whose completions and reports wait for firmware alone (R151, R157). -/
def State.closedEps (s : State) : List Nat :=
  (s.fab.epochs.filter (fun e => decide (e.st = .closed) && !s.solving e)).map Epoch.ext

/-- The mode after RESTART (R295, R311). -/
def State.returnMode (s : State) : Mode :=
  match s.sys.before with
  | .dark => .dark
  | .derated => if s.thm.anyThr || s.thm.dDer.any (fun d => decide (d ≠ 0xFFFF)) then .derated else .service
  | .churn | .load | .calibrate | .service | .safe | .restart => if s.thm.anyThr then .derated else .service

/-- MODE_SET RESTART completes with mode 7 (R312). -/
def State.finishRestart (s : State) : State :=
  match s.sys.restartCmd with
  | none => s
  | some m => ({ s with sys := { s.sys with restartCmd := none } } : State).completeSeq m.port m.seq m.code stOk m.tag 0 (leBytes 1 7)

/-- Firmware returns: kept items, origin, mode, the completion owed, follow-ons, the reports of closed epochs, the failover's
own steps (R151, R157, R190, R199, R295, R311, R312, R316). -/
def State.firmwareReturns (circuitTableOk : Bool) (s : State) : State :=
  let s : State := if circuitTableOk then s
    else { s with fab := { s.fab with circuits := (List.range s.instCount).flatMap s.traced } }
  let m := if s.sys.mode = .restart then s.returnMode else s.sys.mode
  let s : State := { s with sys := { s.sys with paused := false, restartFails := 0, wdtAt := s.now } }
  let s := ((s.setMode m).statusChanged).rebuildOrigin
  let s := if m = .safe then s.dropModeCmd else s
  let s := s.finishRestart
  let s := s.followAll
  let s := s.closedEps.foldl (fun s x => s.finishEp x) s
  (if s.net.fwDue then s.failoverFirmware else s).hello

/-! ### DARK (R312-R314) -/

/-- The first three conditions of R314: no cell of a circuit, no slot of a pending or sealed epoch, no GATE whose target is
CROSS. -/
def State.darkMay (s : State) (c : Nat) : Bool :=
  !s.pendingIn c && (List.range 32).all (fun k =>
    let n := 32 * c + k
    !s.circuitThrough n && !(decide ((s.entry n).role = 2) && decide ((s.cell n).live.state = .cross)))

/-- A cluster is switched off for DARK (R100, R314). -/
def State.darkDown (c : Nat) (s : State) : State :=
  let s := s.beginDown c
  { s with sys := { s.sys with waitOut := s.sys.waitOut ++ [c], darkWait := s.sys.darkWait.filter (fun q => decide (q ≠ c)) } }

/-- MODE_SET DARK is taken: epochs by R157, DARK shown, clusters switched off now or once their open epochs close
(R312, R314). -/
def State.darkEnter (m : ModeCmd) (s : State) : State :=
  let old := s.sys.mode
  let s := s.cancelPending.showMode .dark
  let cand := (List.range 256).filter (fun c => s.cluOn c && s.darkMay c)
  let s : State := { s with sys := { s.sys with darkFrom := old, darkEntering := true, modeCmd := some m, waitOut := [],
                                                darkWait := cand.filter s.openNames } }
  (cand.filter (fun c => !s.openNames c)).foldl (fun s c => s.darkDown c) s

/-- Clusters that DARK has switched off are off, and none waits (R312, R314). -/
def State.darkReached (s : State) : Bool :=
  s.sys.darkEntering && s.sys.darkWait.isEmpty && s.sys.waitOut.all (fun c => decide ((s.clu c).pow = .off))

/-- A mode command completes with the mode entered (R216, R312). -/
def State.finishMode (mode : Mode) (s : State) : State :=
  match s.sys.modeCmd with
  | none => s
  | some m => ({ s with sys := { s.sys with modeCmd := none } } : State).completeSeq m.port m.seq m.code stOk m.tag 0 (leBytes 1 mode.code)

/-- A cluster that holds bound taps alone and is off, or on its way there, is due with a cluster of their instances that is powered, or
to be powered in `off` (R24). -/
def State.tapsDue (s : State) (off : List Nat) (q : Nat) : Bool :=
  (decide ((s.clu q).pow = .off) || (s.clu q).pdown) && !(s.tapInsts q).isEmpty && (s.cellInsts q).isEmpty &&
    (List.range 256).any (fun o => (off.contains o || decide ((s.clu o).pow ≠ .off)) && (s.tapInsts q).any (fun i => (s.cellInsts o).contains i))

/-- DARK is being left: the clusters switched off are powered one row at a time, with those of their instances' taps (R24, R314). -/
def State.darkExit (m : ModeCmd) (s : State) : State :=
  let off := s.sys.waitOut
  let off := off ++ (List.range 256).filter (fun q => !off.contains q && s.tapsDue off q)
  ({ s with sys := { s.sys with darkExiting := true, modeCmd := some m, waitOut := off } } : State).startRows .darkExit (fun c => off.contains c)

/-- Entry to DARK completes; a MODE_SET SERVICE taken meanwhile begins the way out (R312). -/
def State.darkDone (s : State) : State :=
  let s : State := { s with sys := { s.sys with darkEntering := false } }
  let s := s.notifyAll 3 (leBytes 1 s.sys.darkFrom.code ++ leBytes 1 Mode.dark.code)
  let s := s.finishMode .dark
  match s.sys.darkNext with
  | [] => s
  | m :: ms => ({ s with sys := { s.sys with darkNext := ms } } : State).darkExit m

/-- The first outputs of a cluster powered again are in force: each of its cells has left OFF (R76, R312). A cluster that has
failed its engine, or drives no cell, has none to wait for. -/
def State.firstOut (s : State) (c : Nat) : Bool :=
  decide ((s.clu c).pow = .on) && (decide ((s.clu c).source = .none) ||
    (List.range 32).all (fun i => decide ((s.entry (32 * c + i)).role = 0) || decide ((s.cell (32 * c + i)).eng.st ≠ .off)))

/-- MODE changes to SERVICE or DERATED on leaving DARK (R311, R312). -/
def State.darkLeft (s : State) : State :=
  let m : Mode := if s.thm.anyThr then .derated else .service
  let owed := s.sys.darkNext
  let s : State := { s with sys := { s.sys with darkExiting := false, waitOut := [], darkNext := [] } }
  owed.foldl (fun (s : State) (q : ModeCmd) => s.completeSeq q.port q.seq q.code stOk q.tag 0 (leBytes 1 m.code)) ((s.setMode m).finishMode m)

/-! ### NVM (R327-R335) -/

/-- Firmware drains the record queue in order, with the latest copy of the frequency table (R334, R335). -/
def State.drain (s : State) : State :=
  match s.sys.flash with
  | none => s
  | some f =>
    let f := s.sys.queue.foldl (fun f r => flashPut s.sys.atlSlot r f) f
    let f : Flash := match s.sys.ftCopy with | none => f | some l => f.putFreq l
    { s with sys := { s.sys with flash := some f, queue := [], ftCopy := none } }

/-- The learned frequency table as a copy holds it (R183). -/
def ftCopyOf (ft : List FtBin) : List (Nat × Int × Nat) :=
  ((List.range 128).zip ft).filterMap (fun q => if q.2.valid then some (q.1, q.2.yReg, q.2.n) else none)

/-- The coefficients in force as the record area holds them (R279). -/
def coefCopyOf (l : List (Option (Int × Nat))) : List CoefEntry :=
  ((List.range 256).zip l).filterMap (fun q => q.2.map (fun c => ({ x := q.1, c0 := c.1, g := c.2 } : CoefEntry).sealCrc))

/-- The atlas in use, with the retirement list in force less what is queued still (R86, R334, R335). -/
def State.atlasNow (s : State) : Option AtlasSlot :=
  s.sys.atlas.map (fun a => { a with retire := (s.sys.retire.filter (fun e => !s.sys.queue.contains (.retire e))).take 1024 })

/-- What a blank replacement takes: the running image with its ACT word programmed, the atlas in use, both copies of the record area's
contents (R335). -/
def State.blankFlash (s : State) (f : Flash) : Flash :=
  let freq (k : Nat) : Option FreqCopy := some ({ seq := k, bins := ftCopyOf s.time.ft } : FreqCopy).sealCrc
  let coef (k : Nat) : Option CoefCopy := some { seq := k, entries := coefCopyOf s.hkc.coef }
  { f with slotA := s.sys.img.map (fun q => ({ bytes := q.bytes, act := 0 } : ImageSlot)), atlasA := s.atlasNow, freqs := [freq 1, freq 2],
           coefs := [coef 1, coef 2] }

/-- The identity of a flash and its running header are those of LOAD and of the running image (R333). -/
def State.sameFlash (s : State) (f : Flash) : Bool :=
  decide (f.jedec = s.sys.idJedec) && decide (f.sfdp = s.sys.idSfdp) &&
    (match s.sys.img with
     | none => false
     | some q => decide (f.header s.sys.imgSlot = (List.range 64).map (fun o => q.bytes.getD o 0xFF)))

/-- Nothing valid answers a test (R333). -/
def State.flashAbsent (s : State) : State := { s with sys := { s.sys with absent := true, present := false, answers := false } }

/-- A flash answers a periodic test: the same one is drained to, a blank replacement is written first, any other is foreign
(R333-R335). `answers` says whether it answers the tests before writes until the next periodic one. -/
def State.flashSeen (f : Flash) (answers : Bool) (s : State) : State :=
  if f.signed = false then s.flashAbsent
  else
    let s : State := { s with sys := { s.sys with absent := false, present := true, answers := true } }
    let s : State :=
      if s.sameFlash f then ({ s with sys := { s.sys with flash := some f, foreign := false } } : State).drain
      else if slotErased f.slotA && slotErased f.slotB then
        ({ s with sys := { s.sys with flash := some (s.blankFlash f), foreign := false, replaced := true, staged := none, imgSlot := 0, atlSlot := 0,
                                      idJedec := f.jedec, idSfdp := f.sfdp } } : State).drain
      else { s with sys := { s.sys with foreign := true } }
    { s with sys := { s.sys with answers := answers } }

/-- What a periodic test finds, and what it makes firmware do (R333-R335). -/
def State.nvmTest (found : FlashFound) (s : State) : State :=
  match found with
  | .absent => s.flashAbsent
  | .held a => (match s.sys.flash with | none => s.flashAbsent | some f => s.flashSeen f a)
  | .other f a => s.flashSeen f a

/-! ### Images (R220, R327, R328) -/

/-- The slot not running is erased, ACT word included (R327). -/
def State.eraseOther (s : State) : State :=
  { s with sys := { s.sys with flash := s.sys.flash.map (flashSetImage (1 - s.sys.imgSlot) none), staged := none } }

/-- A slot's ACT word programmed (R328). -/
def programAct (k : Nat) (f : Flash) : Flash :=
  flashSetImage k ((f.image k).map (fun (q : ImageSlot) => { q with act := 0 })) f

/-- The staged slot's ACT word is programmed and the steward reset performed (R220, R328). -/
def State.activate (s : State) : State :=
  let fl := match s.sys.staged with
    | none => s.sys.flash
    | some k => if s.sys.wouldQueue then s.sys.flash else s.sys.flash.map (programAct k)
  ({ s with sys := { s.sys with flash := fl } } : State).beginReset .steward

/-- Established circuits of a host's instances. -/
def State.circuitsOfHost (s : State) (h : Nat) : Nat := (s.fab.circuits.filter (fun c => decide (s.owner c.inst = some h))).length

/-- A release is announced (R220). -/
def State.announce (h : Hdr) (graceMs : Nat) (s : State) : State :=
  let told := (([0, 1, 2, 3] : List Nat)).filter (fun p => decide (0 < s.circuitsOfHost p))
  let s := told.foldl (fun s p => s.notify p 5 (leBytes 2 graceMs ++ leBytes 1 (min 255 (s.circuitsOfHost p))) []) s
  ({ s with sys := { s.sys with release := true, grace := some { port := h.port.val, tag := h.tag } } } : State).statusChanged

end Sys2Proof.Machine
end

