-- ==== Sys2Proof/Machine/ModeFam.lean ====
section
/-! DEFINITION. The commands of modes, the watchdog, the NVM and the image slots (R220, R300, R311-R317, R327-R335). -/

namespace Sys2Proof.Machine

/-! ### MODE_SET and the other mode commands -/

/-- MODE_SET's own act: the mode named, a transition of R311, or BAD_MODE (R312, R315). -/
def modeSet (h : Hdr) (mode : Nat) (s : State) : State :=
  let cmd : ModeCmd := { port := h.port.val, tag := h.tag, code := 0x0040, seq := s.turn h.port.val }
  let bad := s.reply h 0x0040 stBadMode 0 []
  if mode = s.sys.mode.code then s.reply h 0x0040 stOk 0 (leBytes 1 mode)
  else if mode = 3 then
    match s.sys.mode with
    | .calibrate =>
      if s.sys.atlas.isNone then bad
      else
        let s := match s.sys.sweep with
          | none => s
          | some w => s.nvmWrite (.journal (s.note w 5 0 0))
        (s.leaveCalibrate).reply h 0x0040 stOk 0 (leBytes 1 3)
    | .dark =>
      if s.sys.darkEntering || s.sys.darkExiting then { s with sys := { s.sys with darkNext := s.sys.darkNext ++ [cmd] } }
      else s.darkExit cmd
    | .churn | .load | .service | .derated | .safe | .restart => bad
  else if mode = 4 then
    match s.sys.mode with
    | .service | .derated => s.darkEnter cmd
    | .churn | .load | .calibrate | .dark | .safe | .restart => bad
  else
    match s.sys.mode with
    | .service | .derated | .dark => ({ s with sys := { s.sys with restartCmd := some cmd } } : State).restartEnter
    | .churn | .load | .calibrate | .safe | .restart => bad

/-- MODE_SET (R312). -/
def execModeSet (h : Hdr) (mode : Nat) (s : State) : Host.Outcome State Fault Refusal :=
  .next (CmdSpec.run { code := 0x0040, steward := true, range := if mode = 3 ∨ mode = 4 ∨ mode = 7 then none else some 8 } h (modeSet h mode) s)

/-- THERMAL_RESUME's own act (R300). -/
def thermalResume (h : Hdr) (s : State) : State :=
  if s.mayResume then (s.resume).reply h 0x0041 stOk 0 [] else s.reply h 0x0041 stNotReady 0 []

/-- THERMAL_RESUME (R300). -/
def execThermalResume (h : Hdr) (s : State) : Host.Outcome State Fault Refusal :=
  .next (CmdSpec.run { code := 0x0041, steward := true, modes := fun m => decide (m = .safe) } h (thermalResume h) s)

/-- Firmware writes `THM_CTRL.RESUME` (R300, R302). -/
def thmResume (v : Word) (s : State) : State :=
  if bit v.toNat 0 = true ∧ s.thm.safeLatch = true ∧ s.mayResume = true ∧ s.firmware = true then s.resume else s

/-- THM_RESUME_WRITE (R300). -/
def execThmResumeWrite (v : Word) (s : State) : Host.Outcome State Fault Refusal := .next (thmResume v s)

/-- CAL_REQUEST's own act (R220, R311, R315, R331). -/
def calRequest (h : Hdr) (s : State) : State :=
  if !s.fab.circuits.isEmpty then s.reply h 0x0042 stLiveCircuits 0 []
  else
    let s : State := { (s.dropModeCmd) with sys := { (s.dropModeCmd).sys with darkEntering := false, darkExiting := false } }
    let s := (s.safeEpochs).newSweep
    ({ s with sys := { s.sys with calAsked := true } } : State).reply h 0x0042 stOk 0 []

/-- CAL_REQUEST (R220). -/
def execCalRequest (h : Hdr) (s : State) : Host.Outcome State Fault Refusal :=
  .next (CmdSpec.run { code := 0x0042, steward := true, modes := fun m => decide (m = .service) || decide (m = .dark) } h (calRequest h) s)

/-! ### RESTART and the watchdog (R316, R317) -/

/-- FIRMWARE_RETURN (R316): nothing while firmware is present, after GIVEN_UP, or in a device reset. -/
def execFirmwareReturn (circuitTableOk : Bool) (s : State) : Host.Outcome State Fault Refusal :=
  .next (if s.sys.paused && !s.sys.givenUp && s.sys.resetting.isNone && !s.sys.held then s.firmwareReturns circuitTableOk else s)

/-- FIRMWARE_FAULT (R317). -/
def execFirmwareFault (s : State) : Host.Outcome State Fault Refusal := .next s.firmwareFails

/-- WATCHDOG_KICK (R317). -/
def execWatchdogKick (s : State) : Host.Outcome State Fault Refusal :=
  .next (if s.firmware then { s with sys := { s.sys with wdtAt := s.now } } else s)

/-- The watchdog's instant: reached by the counters where they run; where they do not, the command itself says that the time
has passed. -/
def State.watchdogAt (ns : Nat) (s : State) : Option State :=
  if s.time.run then reach ns (s.sys.wdtAt + ns) s else some s

/-- 500 ms without a write (R317). -/
def watchdogFirst (s : State) : State :=
  if s.firmware = false then s
  else match s.watchdogAt 500000000 with | none => s | some s => s.firmwareFails

/-- WATCHDOG_FIRST_EXPIRE (R317). -/
def execWatchdogFirstExpire (s : State) : Host.Outcome State Fault Refusal := .next (watchdogFirst s)

/-- The 2 s allowance expires: a watchdog reset, another RESTART, or firmware stays absent (R317). -/
def State.restartFails (s : State) : State :=
  let n := min 3 (s.sys.restartFails + 1)
  let s : State := { s with sys := { s.sys with restartFails := n } }
  if s.image.idnt.wdtReset then s.beginReset .watchdog
  else if 3 ≤ n then { s with sys := { s.sys with givenUp := true } }
  else { s with sys := { s.sys with restarts := sat16 s.sys.restarts, wdtAt := s.now } }

/-- The second stage of the watchdog (R317). -/
def watchdogSecond (s : State) : State :=
  if s.sys.paused = false ∨ s.sys.givenUp = true ∨ s.sys.resetting.isSome = true ∨ s.sys.held = true then s
  else match s.watchdogAt 2000000000 with | none => s | some s => s.restartFails

/-- WATCHDOG_RESTART_EXPIRE (R317). -/
def execWatchdogRestartExpire (s : State) : Host.Outcome State Fault Refusal := .next (watchdogSecond s)

/-! ### DARK (R312, R314) -/

/-- A cluster that waited for its open epochs is switched off if it still meets every condition (R314). -/
def darkDeferred (c : Nat) (s : State) : State :=
  if s.firmware = false ∨ s.sys.darkWait.contains c = false ∨ s.openNames c = true then s
  else if s.darkMay c then s.darkDown c
  else { s with sys := { s.sys with darkWait := s.sys.darkWait.filter (fun q => decide (q ≠ c)) } }

/-- DARK_DEFERRED_POWER_DOWN (R314). -/
def execDarkDeferredPowerDown (c : Fin 256) (s : State) : Host.Outcome State Fault Refusal := .next (darkDeferred c.val s)

/-- DARK_ENTRY_DONE (R312). -/
def execDarkEntryDone (s : State) : Host.Outcome State Fault Refusal :=
  .next (if s.firmware && s.darkReached then s.darkDone else s)

/-- DARK_EXIT_DONE (R312). -/
def execDarkExitDone (s : State) : Host.Outcome State Fault Refusal :=
  .next (if s.firmware && s.sys.darkExiting && s.sys.rowsLeft.isEmpty && s.sys.waitOut.all s.firstOut then s.darkLeft else s)

/-! ### Calibration (R315, R331) -/

/-- The sweep has come as far as `upTo`, and at 258 to its end (R315, R331). A throttle pauses it (R295). -/
def calSweepDone (m : AtlasSlot) (upTo : Nat) (s : State) : State :=
  match s.sys.sweep with
  | none => s
  | some w =>
    if s.sys.mode ≠ .calibrate ∨ s.firmware = false ∨ s.thm.anyThr = true then s
    else
      let s := ({ s with sys := { s.sys with sweep := some (s.sweepTake m upTo w) } } : State).fileSweep
      if 258 ≤ upTo then s.endSweep m.retire else s

/-- CAL_SWEEP_DONE (R315). -/
def execCalSweepDone (measured : SweepReport) (s : State) : Host.Outcome State Fault Refusal :=
  .next (calSweepDone measured.measured measured.upTo s)

/-! ### NVM and images (R220, R327, R328, R333-R335) -/

/-- NVM_TEST (R333): firmware tests after LOAD. -/
def execNvmTest (found : FlashFound) (s : State) : Host.Outcome State Fault Refusal :=
  .next (if s.firmware && s.sys.ready then s.nvmTest found else s)

/-- IMAGE_STAGE's own act: the image is taken, no more of it than a slot holds before its ACT word, and the slot not running erased
(R325, R327). -/
def imageStage (h : Hdr) (bytes : List Byte) (len : Nat) (s : State) : State :=
  if s.sys.stageRun.isSome then s.reply h 0x0048 stBusy 0 []
  else
    let s := if s.sys.wouldQueue then { s with sys := { s.sys.tested with staged := none } } else s.eraseOther
    { s with sys := { s.sys with stageRun := some { port := h.port.val, tag := h.tag, seq := s.turn h.port.val,
                                                    bytes := bytes.take (min len 0x7F0000) } } }

/-- IMAGE_STAGE (R327). -/
def execImageStage (h : Hdr) (bytes : List Byte) (srcAddr len : Nat) (s : State) : Host.Outcome State Fault Refusal :=
  .next (CmdSpec.run { code := 0x0048, steward := true, range := if 2 ^ 64 ≤ srcAddr then some 0x10 else none } h (imageStage h bytes len) s)

/-- The checks of a staged image: what was read back is what was written, R321 without its step 2, and a GENERATION newer than the
running image's (R327). -/
def State.stagedOk (s : State) (readBackOk : Bool) (bytes : List Byte) : Bool :=
  let key := if s.sys.lc = .sealed_ then some s.sys.keyHash else none
  let ref := if s.time.refValid then some s.time.refFreq else none
  readBackOk && newerGen (readHdr bytes).generation s.sys.genImg && (checkSlot false key ref { bytes := bytes }).isNone

/-- Writing, reading back and checking end; while the flash does not answer the command waits (R327). -/
def imageStageDone (readBackOk : Bool) (s : State) : State :=
  match s.sys.stageRun with
  | none => s
  | some q =>
    if s.firmware = false then s
    else if s.sys.wouldQueue = true then { s with sys := s.sys.tested }
    else
      let ok := s.stagedOk readBackOk q.bytes
      let slot := 1 - s.sys.imgSlot
      let s : State := { s with sys := { s.sys with stageRun := none, flash := s.sys.flash.map (flashSetImage slot (some { bytes := q.bytes })),
                                                    staged := if ok then some slot else none } }
      if ok then s.completeSeq q.port q.seq 0x0048 stOk q.tag 0 (leBytes 1 slot) else s.completeSeq q.port q.seq 0x0048 stImageInvalid q.tag 0 []

/-- IMAGE_STAGE_DONE (R327). -/
def execImageStageDone (readBackOk : Bool) (s : State) : Host.Outcome State Fault Refusal := .next (imageStageDone readBackOk s)

/-- IMAGE_ACTIVATE's own act (R220). -/
def imageActivate (h : Hdr) (graceMs : Nat) (s : State) : State :=
  if s.sys.grace.isSome then s.reply h 0x0049 stBusy 0 []
  else if s.sys.staged.isNone then s.reply h 0x0049 stNotReady 0 []
  else if s.fab.circuits.isEmpty then s.activate
  else if forced h then s.announce h graceMs
  else s.reply h 0x0049 stLiveCircuits 0 (leBytes 4 s.fab.circuits.length)

/-- IMAGE_ACTIVATE (R220). -/
def execImageActivate (h : Hdr) (graceMs : Nat) (s : State) : Host.Outcome State Fault Refusal :=
  .next (CmdSpec.run { code := 0x0049, steward := true, range := if 10000 < graceMs then some 8 else none } h (imageActivate h graceMs) s)

/-- The grace period ends (R220, R328). -/
def releaseGraceEnd (s : State) : State := if s.sys.grace.isSome && s.firmware then s.activate else s

/-- RELEASE_GRACE_END (R220). -/
def execReleaseGraceEnd (s : State) : Host.Outcome State Fault Refusal := .next (releaseGraceEnd s)

end Sys2Proof.Machine
end

