-- ==== Sys2Proof/Machine/Regs.lean ====
section
/-! DEFINITION. The address map and what every register reads as (R353-R367, and the register tables of the home
chapters). -/

namespace Sys2Proof.Machine

/-! ### The map (R243, R353) -/

/-- Base of the cluster window (R354). -/
def cluWindow : Nat := 0x2100000000
/-- Base of the control blocks. -/
def blockBase : Nat := 0x2200000000

/-- A braid target: T0-T9, 10 the register port, 15 none (R243, R263). -/
def targetOf (a : Nat) : Nat :=
  if a < 0x1000000000 then 0
  else if a < 0x2000000000 then 1
  else if a < 0x2002000000 then 2 + (a - 0x2000000000) / 0x800000
  else if cluWindow ≤ a ∧ a < cluWindow + 0x1000000 then 6
  else if blockBase ≤ a ∧ a < blockBase + 0x1000000 then
    match (a - blockBase) / 0x100000 with
    | 9 => 7
    | 0 | 14 | 15 => 9
    | 1 | 2 | 10 => 10
    | _ => 8
  else 15

/-- An address in DRAM or SRAM. -/
def isMemory (a : Nat) : Bool := decide (targetOf a < 6)

/-- The entry of a table of `n` entries of `step` bytes at `base` that holds an offset, with the offset within it. -/
def slotAt (base step n o : Nat) : Option (Nat × Nat) :=
  if base ≤ o ∧ o < base + step * n then some ((o - base) / step, (o - base) % step) else none

/-! ### The cluster window (R70, R71, R103, R104, R130, R131, R149, R160, R355) -/

/-- `CLU_CELL_TARGET` (R71). -/
def targetWord (t : Target) : Nat := 2 ^ 16 * (t.epoch % 65536) + t.state.code

/-- `CLU_CELL_HSEL` (R71). -/
def hselWord (e : Eng) : Nat :=
  e.winner.code + 8 * b2n e.fSat + 16 * b2n e.hitchAct + 32 * b2n e.ladderUp + 64 * b2n e.delayed + 128 * b2n e.unipolar

/-- `CLU_CELL_STATE` (R103). -/
def stateWord (e : Eng) : Nat :=
  e.st.code + 2 ^ 8 * e.prev.code + 2 ^ 16 * b2n e.honly + 2 ^ 17 * b2n e.pendRetire + 2 ^ 18 * e.cause.code

/-- `CLU_CELL_FCNT` (R103). -/
def fcntWord (e : Eng) : Nat :=
  e.limitEntries % 256 + 2 ^ 8 * (e.darkEntries % 256) + 2 ^ 16 * (e.frespConsec % 256) + 2 ^ 24 * (e.stuckEpis % 256)

/-- `CLU_CELL_SMP` (R130). -/
def smpWord (q : Smp) : Nat := q.mb % 4096 + 2 ^ 15 * b2n q.mbOr + 2 ^ 16 * (q.mx % 4096) + 2 ^ 31 * b2n q.mxOr

/-- x of a tap in quarter codes, Q13.2 (R130). -/
def quarter (x : Rat) : Nat := twos 16 (clampI (-32768) 32767 (roundNear (x * 4)))

/-- `CLU_CELL_PILOT` (R130). -/
def pilotWord (c : Cell) : Nat := c.acc % 65536 + 2 ^ 16 * b2n c.clash + 2 ^ 23 * b2n c.quad + 2 ^ 24 * (c.tone % 16)

/-- `CLU_CELL_PADCFG` (R130). -/
def padCfgWord (c : Cell) : Nat :=
  c.cfg.tia % 4 + 2 ^ 6 * (c.cfg.hRange % 4) + 2 ^ 8 * b2n c.cfg.hCurr + 2 ^ 9 * (c.cfg.fRange % 4) + 2 ^ 11 * b2n c.cfg.fVolt
    + 2 ^ 12 * b2n c.apply

/-- `CLU_CELL_PADSTAT` (R130). -/
def padStatWord (c : Cell) : Nat :=
  b2n c.fLeak + 2 * b2n c.fOpen + 4 * b2n c.fPadFault + 8 * b2n c.hOc + 16 * b2n c.hCompl + 2 ^ 7 * b2n (c.parked || (c.hParked && c.fParked))
    + 2 ^ 8 * b2n c.rangeBusy

/-- A cell's live block by offset (R71, R103, R130). DESIGN CHOICE (log 138): e reads 0 while the F error is not valid, and an e of
SPLIT or a p_goal beyond its 16 bits is shown at the end of its range. -/
def cellWord (c : Cell) (o : Nat) : Nat :=
  let e := c.eng
  match o with
  | 0x00 => targetWord c.live
  | 0x04 => c.live.ratio % 65536
  | 0x08 => c.uf % 65536
  | 0x0C => c.uh % 65536
  | 0x10 => 2 ^ 16 * viewU 16 e.pGoal + viewU 16 e.pWin
  | 0x14 => hselWord e
  | 0x18 => 2 ^ 16 * viewS 16 e.phiFf + viewS 16 (e.phiP + e.phiI)
  | 0x1C => 2 ^ 24 * (e.wv % 256) + viewS 16 (e.err.getD 0)
  | 0x20 => viewS 32 e.hTrim
  | 0x30 => stateWord e
  | 0x34 => e.fault.toNat % 256
  | 0x38 => e.run
  | 0x3C => fcntWord e
  | 0x50 => smpWord c.smp
  | 0x54 => 2 ^ 16 * quarter c.xx + quarter c.xb
  | 0x58 => 2 ^ 16 * (c.dMx % 65536) + c.dMb % 65536
  | 0x5C => c.pmeas % 65536
  | 0x60 => pilotWord c
  | 0x64 => padCfgWord c
  | 0x68 => padStatWord c
  | 0x6C => 2 ^ 16 * (c.orMx % 65536) + c.orMb % 65536
  | _ => 0

/-- A NEXT slot by offset (R149). -/
def nextWord (q : NextSlot) (o : Nat) : Nat :=
  match o with
  | 0 => q.epoch % 65536 + 2 ^ 31 * b2n q.valid
  | 4 => q.state.code + 2 ^ 16 * (q.ratio % 65536)
  | _ => 0

/-- SOURCE codes (R104). -/
def EngSource.code : EngSource → Nat
  | .native => 0 | .spare => 1 | .none => 2

/-- `CLU_ENG_STATUS` (R104). -/
def engStatusWord (k : Cluster) : Nat :=
  b2n k.failed + 2 * b2n k.liveness + 4 * b2n k.residue + 8 * b2n k.eccUe + 2 ^ 8 * k.source.code + 2 ^ 16 * (k.consecMiss % 256)

/-- Cells of a cluster in some loop states. -/
def Cluster.countIn (k : Cluster) (l : List LState) : Nat := (k.cells.filter (fun c => l.contains c.eng.st)).length

/-- `CLU_PTAP_SMP` (R131). -/
def ptapWord (p : PTap) : Nat := p.code % 4096 + 2 ^ 15 * b2n p.ovr + 2 ^ 16 * (p.range % 4) + 2 ^ 31 * b2n p.valid

/-- `CLU_DTRIM[i]`: input 2k is MB of cell k, 2k + 1 its MX (R125, R355). -/
def dtrimWord (k : Cluster) (i : Nat) : Nat :=
  let c := k.cell (i / 2)
  twos 5 (if i % 2 = 0 then c.trimMb else c.trimMx)

/-- The window of a powered cluster (R354). -/
def cluWord (c : Nat) (k : Cluster) (o : Nat) : Nat :=
  match slotAt 0x1000 0x80 32 o with
  | some q => cellWord (k.cell q.1) q.2
  | none =>
    match slotAt 0x2000 0x10 128 o with
    | some q => nextWord ((k.cell (q.1 / 4)).next.getD (q.1 % 4) {}) q.2
    | none =>
      match slotAt 0x3000 4 256 o with
      | some q => twos 12 (sineTable q.1)
      | none =>
        match slotAt 0x3400 4 64 o with
        | some q => dtrimWord k q.1
        | none =>
          match slotAt 0x300 4 4 o with
          | some q => ptapWord (k.ptap.getD q.1 {})
          | none =>
            match o with
            | 0x0000 => c % 16 * 0x100 + c / 16 * 0x1000 + c
            | 0x0100 => k.allow
            | 0x0104 => k.derate % 65536
            | 0x0108 => viewU 32 k.demand
            | 0x010C => viewU 16 (k.bscale * 32768)
            | 0x0200 => engStatusWord k
            | 0x0204 => 2 ^ 16 * (k.slack % 65536) + k.minSlack % 65536
            | 0x0208 => k.missCnt
            | 0x020C => k.skipCnt
            | 0x0210 => 2 ^ 16 * (k.eccCnt % 65536)
            | 0x0214 => k.countIn [.retired] + 2 ^ 8 * k.countIn [.stuck, .hold] + 2 ^ 16 * k.countIn [.limit] + 2 ^ 24 * k.countIn [.dark]
            | 0x0310 => k.ptapCfg.toNat % 65536
            | 0x0314 => mask k.sarFault + 2 ^ 12 * (k.sarLost % 16) + 2 ^ 16 * mask k.sarOut
            | 0x0400 => mask (k.cells.map (fun q => q.handover.isSome))
            | _ => 0

/-- The window of a cluster whose domain is off: `CLU_CELL_PADSTAT` alone is not zero (R365). -/
def cluOffWord (o : Nat) : Nat :=
  match slotAt 0x1000 0x80 32 o with
  | some q => if q.2 = 0x68 then 0x80 else 0
  | none => 0

/-- The cluster window. -/
def State.cluRead (s : State) (o : Nat) : Nat :=
  let c := o / 65536
  if s.cluOn c then cluWord c (s.clu c) (o % 65536) else cluOffWord (o % 65536)

/-! ### MTX and DMA (R263, R264) -/

/-- `MTX_ERR_INFO` (R263). -/
def errInfoWord (b : Braid) : Nat :=
  let i := b.errInfo
  2 ^ 31 * b2n b.errValid + 2 ^ 30 * b2n i.write + 2 ^ 28 * (i.resp % 4) + 2 ^ 24 * (i.target % 16) + 2 ^ 20 * (i.master % 16)
    + 2 ^ 19 * b2n i.sec + 2 ^ 16 * (i.owner % 8)

/-- QoS of M6: 12 while raised (R246, R263). -/
def State.mqosOf (s : State) (m : Nat) : Nat := if m = 6 then (if s.rcd.qosHigh then 12 else 3) else s.braid.mqos.getD m 0

/-- The MTX block (R263). -/
def State.mtxRead (s : State) (o : Nat) : Nat :=
  let b := s.braid
  match slotAt 0x40 4 14 o with
  | some q => s.mqosOf q.1 % 16
  | none =>
    match slotAt 0x80 8 16 o with
    | some q =>
      let w := (b.hwin.getD (q.1 / 4) []).getD (q.1 % 4) (false, 0, 0)
      if q.2 = 0 then 2 ^ 31 * b2n w.1 + w.2.1 % 2 ^ 28 else w.2.2 % 2 ^ 28
    | none =>
      match o with
      | 0x000 => mask b.closed
      | 0x004 => b.steward % 4 + 4 * b2n b.stewValid
      | 0x180 => b.errAddr % 2 ^ 32
      | 0x184 => b.errAddr / 2 ^ 32 % 256
      | 0x188 => errInfoWord b
      | 0x18C => b.errCnt
      | _ => 0

/-- A DMA channel's registers (R264). -/
def dmaChWord (n : Nat) (c : DmaCh) (o : Nat) : Nat :=
  let simple := decide (n < 16)
  match o with
  | 0x00 => 2 ^ 31 * b2n c.en + 2 ^ 30 * b2n (c.simple && simple) + 2 ^ 26 * (c.fqos % 16) + 2 ^ 25 * b2n c.sec
  | 0x04 => b2n c.suspect + 2 ^ 16 * (c.startIgn % 256) + 2 ^ 24 * (c.loops.length % 8) + 2 ^ 28 * c.st.code
  | 0x08 => c.pcBase % 2 ^ 32
  | 0x0C => c.pcBase / 2 ^ 32 % 256
  | 0x10 => c.pc
  | 0x14 => c.remain
  | 0x18 => c.gidx
  | 0x1C => c.mismAddr % 2 ^ 32
  | 0x20 => c.mismAddr / 2 ^ 32 % 256
  | 0x24 => c.mismCnt
  | 0x28 => if simple then c.src % 2 ^ 32 else 0
  | 0x2C => if simple then c.src / 2 ^ 32 % 256 else 0
  | 0x30 => if simple then c.dst % 2 ^ 32 else 0
  | 0x34 => if simple then c.dst / 2 ^ 32 % 256 else 0
  | 0x38 => if simple then c.count else 0
  | 0x3C => if simple then c.cfg.toNat else 0
  | _ => 0

/-- The DMA block (R264). -/
def State.dmaRead (s : State) (o : Nat) : Nat :=
  let d := s.dma
  match slotAt 0x100 0x40 32 o with
  | some q => dmaChWord q.1 (d.chs.getD q.1 {}) q.2
  | none =>
    match o with
    | 0x000 => 2 ^ 31 * b2n d.stopped + d.errCnt % 65536
    | 0x004 => d.errAddr % 2 ^ 32
    | 0x008 => d.errAddr / 2 ^ 32 % 256
    | 0x00C => mask d.errMask
    | 0x010 => 2 ^ 31 * b2n d.errWrite + 2 ^ 28 * (d.errResp % 4) + 2 ^ 16 * (d.errWch % 32)
    | 0x014 => mask (d.chs.map DmaCh.active)
    | _ => 0

/-! ### EVT (R242) -/

/-- A channel's registers (R242). With RE_MAX 255 the re-entry that trips makes the count 256, of which RE_CNT shows the low 8 bits
(DESIGN CHOICE, log 168). -/
def State.chanWord (s : State) (ch o : Nat) : Nat :=
  let c := s.chan ch
  match o with
  | 0x0 => c.holdoff % 4096 + 2 ^ 12 * (c.src % 256) + 2 ^ 20 * (c.vector % 32) + 2 ^ 27 * (c.owner % 8) + 2 ^ 30 * b2n c.sec + 2 ^ 31 * b2n c.en
  | 0x4 => c.reWin % 65536 + 2 ^ 16 * (c.reMax % 256)
  | 0x8 => c.holdCnt % 65536 + 2 ^ 16 * (c.reCnt % 256) + 2 ^ 30 * b2n (s.chanOpen ch) + 2 ^ 31 * b2n c.tripped
  | 0xC => 2 ^ 16 * (c.fired % 65536)
  | _ => 0

/-- `EVT_CON_SEL` (R242). -/
def selWord (c : Con) : Nat := leNat ((List.range 4).map (fun j => BitVec.ofNat 8 (c.sel.getD j 0)))

/-- `EVT_CON_CTRL` (R242). -/
def conCtrlWord (c : Con) : Nat :=
  c.merge % 256 + 2 ^ 8 * (c.drop % 256) + 2 ^ 16 * (c.width % 64) + 2 ^ 22 * (c.action % 4) + 2 ^ 24 * (mask c.pmask % 16)
    + 2 ^ 28 * b2n c.ovr + 2 ^ 29 * b2n c.pend + 2 ^ 30 * b2n c.busy + 2 ^ 31 * b2n c.f2

/-- Fields of `w` bits, one of each pin, from the pin of the lowest number up. -/
def packPins (w : Nat) (f : Gpio → Nat) : List Gpio → Nat
  | [] => 0
  | g :: gs => f g % 2 ^ w + 2 ^ w * packPins w f gs

/-- The EVT block (R242). -/
def State.evtRead (s : State) (o : Nat) : Nat :=
  let e := s.evt
  match slotAt 0 0x10 128 o with
  | some q => s.chanWord q.1 q.2
  | none =>
    match slotAt 0x1000 8 96 o with
    | some q =>
      if q.2 = 4 then conCtrlWord (s.con q.1)
      else if q.1 < 8 then
        (match (s.fab.slots.getD q.1 {}).ep with
         | none => 0
         | some ep => if ep.event then 128 + ep.channel % 128 else 0)
      else selWord (s.con q.1)
    | none =>
      match slotAt 0x2010 4 4 o with
      | some q => mask (((e.chans.drop (32 * q.1)).take 32).map Chan.tripped)
      | none =>
        match slotAt 0x2028 4 2 o with
        | some q => packPins 4 Gpio.owner ((e.gpio.drop (8 * q.1)).take 8)
        | none =>
          match slotAt 0x2100 0x20 5 o with
          | some q => e.cluMap.getD q.1 0 / 2 ^ (8 * q.2) % 2 ^ 32
          | none =>
            match o with
            | 0x2000 => mask e.group
            | 0x2020 => packPins 2 Gpio.edge e.gpio
            | 0x2024 => packPins 1 (fun g => b2n g.out) e.gpio
            | 0x2030 => if e.applied then packPins 1 (fun g => b2n (if g.out then g.lvl else g.pad)) e.gpio else 0
            | _ => 0

/-! ### TIME (R191) -/

/-- `TIME_STATUS` (R191). -/
def timeStatus (t : Time) : Nat :=
  b2n t.run + 4 * b2n t.pllLock + 8 * b2n t.eraStale + 16 * b2n t.refLost + 32 * b2n t.refLostSeen + 2 ^ 8 * b2n t.eraAuto
    + 2 ^ 9 * b2n t.eraWrErr + 2 ^ 10 * b2n t.stepPend.isSome + 2 ^ 11 * b2n t.loadPend + 2 ^ 12 * b2n t.stepErr + 2 ^ 16 * (t.stepCnt % 65536)

/-- A compare unit's registers (R191). -/
def cmpWord (c : Cmp) (o : Nat) : Nat :=
  match o with
  | 0x0 => 4 * b2n c.periodic + 8 * b2n c.armErr + 16 * b2n c.late + 32 * b2n c.stepDisarm + 2 ^ 8 * b2n c.armed
  | 0x4 => c.tgt
  | 0x8 => c.per
  | _ => 0

/-- A capture unit's registers (R191). -/
def capWord (c : Cap) (o : Nat) : Nat :=
  match o with
  | 0x0 => c.src % 32 + 2 ^ 5 * (c.edge % 4) + 2 ^ 8 * (c.channel % 128) + 2 ^ 17 * b2n c.full + 2 ^ 18 * b2n c.ovr + 2 ^ 24 * (c.ovrCnt % 256)
  | 0x4 => c.stamp.wns
  | 0x8 => c.stamp.era
  | 0xC => c.stamp.sph % 2 ^ 30 + 2 ^ 31 * b2n c.stamp.stale
  | _ => 0

/-- The TIME block as a master reads it; `TIME_LATCH` is the master's own (R173, R191). -/
def State.timeRead (s : State) (m o : Nat) : Nat :=
  let t := s.time
  match slotAt 0x100 0x10 8 o with
  | some q => cmpWord (t.cmps.getD q.1 {}) q.2
  | none =>
    match slotAt 0x200 0x10 8 o with
    | some q => capWord (t.caps.getD q.1 {}) q.2
    | none =>
      match slotAt 0x400 8 128 o with
      | some q =>
        let b := t.ft.getD q.1 {}
        if q.2 = 0 then twos 32 b.yReg else b.n % 256 + 2 ^ 31 * b2n b.valid
      | none =>
        match o with
        | 0x000 => timeStatus t
        | 0x004 => b2n t.loadPend + 2 * b2n t.stepEn + 4 * b2n t.efcMode
        | 0x008 => t.wns
        | 0x00C => t.era
        | 0x010 => t.sph % 2 ^ 30
        | 0x014 => (s.latches.getD m 0).toNat
        | 0x018 => t.inc / 2 ^ 32 % 256
        | 0x01C => t.inc % 2 ^ 32
        | 0x020 => viewS 32 t.y
        | 0x024 => t.stepReg.toNat
        | 0x028 => t.loadEra.toNat
        | 0x02C => t.loadWns.toNat
        | 0x030 => t.loadSph.toNat % 2 ^ 30
        | 0x034 => t.tosWns
        | 0x038 => t.tosEra
        | 0x03C => t.refFreq % 4 + 4 * b2n t.refValid
        | 0x040 => t.srv.code + 2 ^ 8 * (t.lockRun % 256) + 2 ^ 16 * b2n t.hoSpec + 2 ^ 24 * (t.ofsIgn % 256)
        | 0x048 => t.kp.toNat
        | 0x04C => t.ki.toNat
        | 0x050 => viewS 32 t.i
        | 0x054 => t.stepThr.toNat
        | 0x058 => t.lockThr.toNat % 65536
        | 0x05C => t.fin.toNat
        | 0x060 => t.drift.toNat
        | 0x064 => s.hoSec
        | 0x068 => viewS 16 (t.oscT * 256)
        | 0x06C => viewS 32 t.yT
        | 0x070 => t.syntCnt.toNat
        | 0x080 => b2n t.ppsEn + 2 * b2n t.ppsGated + 4 * b2n t.ppsFree + 2 ^ 8 * (t.ppsWidth % 2 ^ 24)
        | 0x084 => t.ppsOfs.toNat
        | _ => 0

/-! ### NET (R203) -/

/-- A port's registers: zero while the path is unpowered (R203). -/
def netPortWord (p : NetPort) (o : Nat) : Nat :=
  if p.pow ≠ .on then 0
  else match o with
    | 0x100 => 1 + 2 * b2n p.pll + 4 * b2n p.rate + 8 * b2n p.link + 16 * b2n p.rxLock + 32 * b2n p.hiBer
    | 0x104 => p.linkDn
    | 0x108 => p.txAbort
    | 0x10C => p.rxDrop
    | _ => 0

/-- The NETA block (R203). -/
def netARead (n : Net) (o : Nat) : Nat :=
  match o with
  | 0x000 => b2n n.aTxen + 2 * b2n n.bTxen + 16 * b2n n.aTxdis + 32 * b2n n.bTxdis + 64 * b2n n.bbmWait + 128 * b2n n.refused
  | 0x004 => b2n n.active + 2 * b2n n.standbyFitted + 8 * b2n n.failing + 16 * (n.cause % 4) + 128 * b2n n.storm + 256 * b2n n.atStale
  | 0x008 => n.foCfg.toNat
  | 0x00C => n.foAt
  | 0x010 => n.foEra
  | 0x014 => n.failovers % 65536 + 65536 * (n.ignored % 65536)
  | _ => netPortWord n.a o

/-! ### HKC (R275, R282) -/

/-- A register of a measured value: OR, DIAG and the value in `w` bits (R282). -/
def hkcValWord (w : Nat) (v : HkcVal) : Nat := twos w v.v + 2 ^ 30 * b2n v.diag + 2 ^ 31 * b2n v.ovr

/-- A core's registers; the FIFO shows its head word with VALID, or zero where it is empty (R275, R276, R282). -/
def coreWord (c : HkcCore) (o : Nat) : Nat :=
  match slotAt 0x40 4 16 o with
  | some q =>
    let e := c.seq.getD q.1 {}
    e.input % 32 + 2 ^ 5 * (e.gain % 8) + 2 ^ 8 * (e.samples % 256) + 2 ^ 16 * (e.probeD % 4096)
  | none =>
    match o with
    | 0x00 => 2 ^ 4 * (c.len % 16) + 2 ^ 8 * (c.thresh % 256) + 2 ^ 28 * b2n c.diag + 2 ^ 29 * (c.trig % 4) + 2 ^ 31 * b2n c.en
    | 0x04 => c.overread % 64 + 2 ^ 6 * (c.lost % 64) + 2 ^ 12 * (c.startIgn % 64) + 2 ^ 18 * (c.fifo.length % 128) + 2 ^ 26 * b2n c.cfgErr
        + 2 ^ 27 * b2n c.probeFail + 2 ^ 28 * c.st.code
    | 0x08 => match c.fifo with | [] => 0 | w :: _ => 2 ^ 31 + w % 2 ^ 31
    | 0x0C => c.rate % 16 + 2 ^ 4 * b2n c.mains60 + 2 ^ 5 * b2n c.sigma
    | 0x10 => c.pass
    | _ => 0

/-- The HKC block (R282). -/
def hkcRead (h : Hkc) (o : Nat) : Nat :=
  match slotAt 0x100 0x100 3 o with
  | some q => coreWord (h.cores.getD q.1 {}) q.2
  | none =>
    match slotAt 0x800 8 256 o with
    | some q =>
      (match h.coef.getD q.1 none with
       | none => 0
       | some c => if q.2 = 0 then twos 32 c.1 else c.2)
    | none =>
      match slotAt 0x20 4 16 o with
      | some q => hkcValWord 24 (h.rtd.getD q.1 {})
      | none =>
        match slotAt 0x68 4 7 o with
        | some q => hkcValWord 16 (h.rail.getD q.1 {})
        | none =>
          match o with
          | 0x000 => 4 * b2n h.refRdy + 8 * b2n h.roundRun + 16 * mask h.ovrSrc + 128 * b2n h.refSuspect + 256 * b2n h.prioFull
          | 0x004 => b2n h.refEn + 2 * b2n h.vrefOut
          | 0x008 => h.rounds
          | 0x00C => h.ptr % 8192
          | 0x014 => h.lastCell % 8192 + 2 ^ 15 * b2n h.lastDefer + 2 ^ 16 * (h.lastR % 65536)
          | 0x018 => h.deferCnt
          | 0x060 => hkcValWord 24 h.osc
          | 0x064 => hkcValWord 16 h.refs
          | _ => 0

/-! ### THM (R302) -/

/-- Set and clear levels in one word (R302). -/
def limWord (set clr : Int) : Nat := 2 ^ 16 * twos 16 set + twos 16 clr

/-- The three condition bits of a sensor (R302). -/
def condBits (shut thr warn : Bool) : Nat := 2 ^ 28 * b2n warn + 2 ^ 29 * b2n thr + 2 ^ 30 * b2n shut

/-- Sensors in throttle, and in warning (R302). -/
def Thm.count (m : Thm) (die : DieS → Bool) (priv : PrivS → Bool) : Nat :=
  min 255 ((m.dies.filter die).length + ((m.privs.take 16).filter priv).length)

/-- `THM_STATUS`; a broken die sensor counts as in warning and throttle, and two in a quadrant as a shutdown condition (R286,
R302). -/
def thmStatus (m : Thm) : Nat :=
  let thr := m.count (fun d => d.thr.on || d.broken) (fun p => p.thr.on)
  let warn := m.count (fun d => d.warn.on || d.broken) (fun p => p.warn.on)
  let shut := m.count (fun d => d.shut.on) (fun p => p.shut.on)
  let brk (q : Nat) : Bool := (List.range 288).any (fun i => decide (quadrant i = q) && (match m.dies[i]? with | none => false | some d => d.broken))
  b2n (decide (0 < warn)) + 2 * b2n (decide (0 < thr)) + 4 * b2n (decide (0 < shut) || m.brokenQuad.isSome) + 8 * b2n (m.dies.any DieS.broken)
    + 16 * b2n (m.privs.any PrivS.subst) + 2 ^ 8 * warn + 2 ^ 16 * thr + 2 ^ 24 * mask [brk 0, brk 1, brk 2, brk 3] + 2 ^ 31 * b2n m.safeLatch

/-- The THM block (R302). -/
def thmRead (m : Thm) (o : Nat) : Nat :=
  match slotAt 0x400 4 288 o with
  | some q =>
    let d := m.dies.getD q.1 {}
    twos 16 d.t + condBits d.shut.on (d.thr.on || d.broken) (d.warn.on || d.broken) + 2 ^ 31 * b2n d.broken
  | none =>
    match slotAt 0x900 4 18 o with
    | some q =>
      let p := m.privs.getD q.1 {}
      viewS 16 (p.t * 256) + condBits p.shut.on p.thr.on p.warn.on + 2 ^ 31 * b2n p.subst
    | none =>
      match slotAt 0x980 4 18 o with
      | some q => viewS 16 ((m.privs.getD q.1 {}).raw * 256)
      | none =>
        match slotAt 0xA00 4 18 o with
        | some q => viewS 16 ((m.privs.getD q.1 {}).delta * 256)
        | none =>
          match slotAt 0xC00 4 256 o with
          | some q =>
            let t := m.cluT.getD q.1 (0, false)
            twos 16 t.1 + 2 ^ 16 * b2n t.2
          | none =>
            match o with
            | 0x000 => thmStatus m
            | 0x008 => m.causeSensor % 65536 + 2 ^ 24 * (m.cause % 256)
            | 0x00C => m.roundMs % 256 + 2 ^ 8 * (m.persist % 8) + 2 ^ 16 * (m.skipN % 32)
            | 0x010 => limWord m.die.warnSet m.die.warnClr
            | 0x014 => limWord m.die.thrSet m.die.thrClr
            | 0x018 => limWord m.die.shutSet m.die.shutClr
            | 0x01C => limWord m.anc.warnSet m.anc.warnClr
            | 0x020 => limWord m.anc.thrSet m.anc.thrClr
            | 0x024 => limWord m.anc.shutSet m.anc.shutClr
            | _ => 0

/-! ### FAB and REC (R160, R352) -/

/-- `FAB_STATUS` (R160). -/
def State.fabStatus (s : State) : Nat :=
  let n (p : Epoch → Bool) : Nat := (s.fab.held.filter p).length % 16
  b2n (inService s.sys.mode && !s.sys.paused) + 8 * b2n s.fab.busy.isSome + 2 ^ 4 * n (fun e => decide (e.st = .sealedE))
    + 2 ^ 8 * n Epoch.waits + 2 ^ 12 * n (fun e => decide (e.st = .openE))

/-- The FAB block (R160). -/
def State.fabRead (s : State) (o : Nat) : Nat :=
  match slotAt 0x100 0x20 8 o with
  | some q =>
    let f := s.fab.slots.getD q.1 {}
    (match q.2 with
     | 0x0 => f.ctrlWord
     | 0x4 => f.commitAt.toNat
     | 0x8 => f.era
     | 0xC => f.changed % 65536 + 2 ^ 16 * ((match f.ep with | none => 0 | some e => (s.unfinished e).length) % 65536)
     | 0x10 => f.lateN % 65536
     | _ => 0)
  | none =>
    let queued (h : Nat) : Nat := min 255 (s.fab.queue.filter (fun q => decide (q.host = h))).length
    match o with
    | 0x000 => s.fabStatus
    | 0x004 => queued 0 + 2 ^ 8 * queued 1 + 2 ^ 16 * queued 2 + 2 ^ 24 * queued 3
    | 0x008 => s.fab.lastCommitted % 65536 + 2 ^ 16 * (s.fab.lastSealed % 65536)
    | 0x00C => s.fab.lateTotal
    | 0x010 => s.fab.spliceCnt
    | _ => 0

/-- The REC block (R352). -/
def State.recRead (s : State) (o : Nat) : Nat :=
  let r := s.rcd
  match slotAt 0x400 4 256 o with
  | some q => (r.capSel.getD q.1 0 &&& 0x80001FFF).toNat
  | none =>
    match slotAt 0x100 0x20 4 o with
    | some q =>
      let k := q.2 / 8
      if 3 ≤ k then 0
      else
        let w := ringPtr k (s.ring q.1 k).w
        if q.2 % 8 = 0 then w % 2 ^ 32 else w / 2 ^ 32
    | none =>
      match o with
      | 0x000 => (r.fill / 64) % 65536 + 2 ^ 26 * b2n r.shedW1c + 2 ^ 27 * b2n r.qosHigh + 2 ^ 28 * mask (r.chLost.take 2) + 2 ^ 30 * b2n r.throttled
          + 2 ^ 31 * b2n r.frozen
      | 0x004 => b2n r.frozen + 2 * b2n r.capEn
      | 0x008 => r.hz % 2048 + 2 ^ 16 * (r.f % 2048)
      | 0x00C => r.shedCnt
      | 0x010 => r.capDrop
      | 0x014 => r.latchOvr
      | _ => 0

/-! ### DRV, SPR and LCS (R105, R132, R336, R337) -/

/-- A heater of the row is in CURR mode (R132). -/
def State.currActive (s : State) (r : Nat) : Bool :=
  (List.range 16).any (fun i => s.cluOn (16 * r + i) && (s.clu (16 * r + i)).cells.any (fun c => c.cfgNow.hCurr && !c.parked))

/-- The DRV block (R132). -/
def State.drvRead (s : State) (o : Nat) : Nat :=
  match slotAt 0 0x100 16 o with
  | some q =>
    let i := s.island q.1
    if i.pow ≠ .on then 0
    else match q.2 with
      | 0x00 => 1 + 2 * b2n (s.currActive q.1) + 4 * b2n i.vhtrLow + 8 * b2n i.isenseFault
      | 0x04 => i.vhtr % 65536
      | 0x08 => i.iMeas % 65536 + 65536 * (i.iPred % 65536)
      | 0x0C => viewU 16 (i.kappa * 16384)
      | 0x10 => i.hocCnt
      | _ => 0
  | none =>
    match o with
    | 0x2000 => b2n s.sys.efcEn
    | 0x2004 => s.sys.efcCode % 2 ^ 24
    | _ => 0

/-- The SPR block (R105). -/
def State.sprRead (s : State) (o : Nat) : Nat :=
  match slotAt 0 0x100 16 o with
  | some q =>
    let p := s.spare q.1
    (match q.2 with
     | 0x00 => p.st.code + 2 ^ 8 * (p.cluster % 256)
     | 0x04 => mask p.failmap + 2 ^ 16 * b2n p.spareFailed
     | 0x08 => p.lastUs
     | _ => 0)
  | none => 0

/-- `LCS_BOOT_STAT` (R336). -/
def bootStat (y : Sys) : Nat :=
  2 ^ 15 * b2n (y.imgFail.getD 1 false) + 2 ^ 16 * b2n (y.imgFail.getD 0 false) + 2 ^ 17 * b2n y.refAbsent
    + 2 ^ 18 * mask (y.ddrFail.take 2) + 2 ^ 20 * b2n y.calResumed + 2 ^ 21 * b2n y.atlNone + 2 ^ 22 * (y.atlSlot % 2)
    + 2 ^ 23 * (y.imgSlot % 2) + 2 ^ 24 * (y.halt % 16) + 2 ^ 28 * (y.stage % 16)

/-- The LCS block (R336, R337). -/
def lcsRead (y : Sys) (o : Nat) : Nat :=
  match o with
  | 0x000 => Config.deviceId
  | 0x004 => y.lc.code + 16 * b2n y.strap + 32 * b2n y.keyFused
  | 0x008 => y.mode.code
  | 0x00C => y.cause.code
  | 0x010 => bootStat y
  | 0x014 => y.bootTag
  | 0x018 => y.bootOfs
  | 0x01C => y.bootRule
  | 0x020 => 2 ^ 16 * b2n y.srForce + 2 ^ 17 * b2n y.srRefused
  | 0x02C => y.restarts % 65536 + 2 ^ 16 * (y.restartFails % 4) + 2 ^ 31 * b2n y.givenUp
  | 0x030 => b2n y.present + 2 * b2n y.absent + 4 * b2n y.replaced + 8 * b2n y.foreign + 2 ^ 16 * (y.queue.length % 256) + 2 ^ 24 * (y.dropped % 256)
  | 0x034 => y.genImg.toNat
  | 0x038 => y.genAtl.toNat
  | _ => 0

/-! ### MBX (R206-R211) -/

/-- The word at an offset of some bytes; bytes beyond the end read 0. -/
def wordOf (l : List Byte) (o : Nat) : Nat := leNat ((l.drop o).take 4)

/-- A command entry as its 128 bytes (R210). -/
def cmdBytes (c : RawCmd) : List Byte :=
  leBytes 2 c.code ++ leBytes 2 c.flags ++ leBytes 4 c.tag.toNat ++ (c.params ++ List.replicate 120 0).take 120

/-- `MBX_STATUS` of a port (R207). -/
def State.mbxStatus (s : State) (h : HostPort) : Nat :=
  b2n s.sys.ready + 2 * b2n s.sys.paused + 4 * b2n s.sys.release + 2 ^ 8 * s.sys.mode.code + 2 ^ 16 * (h.taken.length % 256)

/-- The port registers (R207). -/
def State.mbxPortWord (s : State) (p o : Nat) : Nat :=
  let h := s.hport p
  match o with
  | 0x000 => 0x10000 + p + 2 ^ 8 * b2n (s.sys.ready && decide (p = s.steward))
  | 0x004 => b2n h.enable
  | 0x008 => s.mbxStatus h
  | 0x00C => h.err.toNat % 128
  | 0x010 => h.cmdTail
  | 0x014 => h.cmdHead
  | 0x018 => h.cplTail
  | 0x01C => h.cplHead
  | 0x020 => h.ntcTail
  | 0x024 => h.ntcHead
  | 0x02C => h.holdoff
  | 0x030 => h.ntcLost
  | 0x034 => h.b2 % 128
  | 0x038 => if p = s.steward then h.b4 % 1024 else 0
  | 0x03C => h.b4Deny
  | _ => 0

/-- The status mirrors (R208). -/
def mirrorWord (h : HostPort) (o : Nat) : Nat :=
  match slotAt 0x420 0x10 4 o with
  | some q =>
    let i := h.mirInst.getD q.1 {}
    (match q.2 with | 0 => i.w0 | 4 => i.w4 | 8 => i.w8 | _ => 0)
  | none =>
    match o with
    | 0x400 => h.mirSeq
    | 0x404 => h.mirState
    | 0x408 => h.mirTaiNs
    | 0x40C => h.mirTaiS
    | 0x410 => h.mirTaiSh
    | 0x414 => h.mirHealth
    | _ => 0

/-- An MSI-X table entry (R206, log 12). -/
def msixWord (m : Msix) (o : Nat) : Nat :=
  match o with
  | 0 => m.addr % 2 ^ 32
  | 4 => m.addr / 2 ^ 32 % 2 ^ 32
  | 8 => m.data
  | _ => b2n m.masked

/-- A port's 64 KiB window (R206). -/
def State.mbxWord (s : State) (p o : Nat) : Nat :=
  let h := s.hport p
  if s.sys.ready = false ∧ o ≠ 0 ∧ o ≠ 8 then 0
  else if o < 0x400 then s.mbxPortWord p o
  else if o < 0x800 then mirrorWord h o
  else match slotAt 0x800 0x20 32 o with
    | some q => wordOf (h.ntcDesc.getD q.1 []) q.2
    | none =>
      match slotAt 0xC00 0x10 32 o with
      | some q => msixWord (h.msix.getD q.1 {}) q.2
      | none =>
        match slotAt 0x1000 0x10 128 o with
        | some q => if (s.chan q.1).owner = p then s.chanWord q.1 q.2 else 0
        | none =>
          match slotAt 0x2000 0x80 64 o with
          | some q => (match h.cmdRing.getD q.1 none with | none => 0 | some c => wordOf (cmdBytes c) q.2)
          | none =>
            match slotAt 0x4000 0x80 64 o with
            | some q => wordOf (h.cplRing.getD q.1 []) q.2
            | none =>
              match slotAt 0x8000 0x400 32 o with
              | some q => wordOf (h.ntcBody.getD q.1 []) q.2
              | none => if o = 0xE00 then mask h.pba else 0

/-- The MBX block: a port's registers lie in its PCIe domain (R365). -/
def State.mbxRead (s : State) (o : Nat) : Nat :=
  let p := o / 65536
  if p < 4 ∧ s.power.pcie.getD p .off = .on then s.mbxWord p (o % 65536) else 0

/-! ### A read (R361-R365) -/

/-- The power of the domain that holds a control block (R15, R365). -/
def State.blockOn (s : State) (b : Nat) : Bool :=
  match b with
  | 0 | 14 | 15 => decide (s.power.periph = .on)
  | 1 => decide (s.power.braid = .on)
  | 2 => decide (s.power.dma = .on)
  | 7 => decide (s.power.hkc = .on)
  | 9 => decide (s.power.solver = .on)
  | 10 => decide (s.power.recorder = .on)
  | _ => true

/-- The UART or I²C FIFO whose register stands at an offset of PERI (R259, log 147). -/
def periAt (o : Nat) : Option Nat := (List.range 4).find? (fun k => decide (Config.periFifo k = o))

/-- What a read of PERI returns: the head of a receive FIFO, VALID clear where it is drained; else a free value (R259, log 7). -/
def State.periRead (s : State) (o : Nat) : Nat :=
  match periAt o with
  | none => (Config.freeWord s.freeIx).toNat
  | some k =>
    if k % 2 = 1 then (Config.freeWord s.freeIx).toNat
    else match (s.sys.peri.getD k {}).held with
      | [] => (Config.periEmpty k).toNat
      | b :: _ => (Config.periWord k b).toNat

/-- What a read of a receive FIFO takes: its head, or one over-read is counted (R259). -/
def State.periTake (o : Nat) (s : State) : State :=
  match periAt o with
  | none => s
  | some k =>
    if k % 2 = 1 then s
    else { s with sys := { s.sys with peri := modAt (fun f => if f.held = [] then { f with missed := f.missed + 1 } else { f with held := f.held.drop 1 }) k s.sys.peri } }

/-- A write of PERI: a byte for a transmit FIFO, discarded and counted where it is full (R259). -/
def State.periWrite (o : Nat) (v : Word) (s : State) : State :=
  match periAt o with
  | none => s
  | some k =>
    if k % 2 = 0 then s
    else { s with sys := { s.sys with peri := modAt (fun f => if f.held.length < Config.periDepth k then { f with held := f.held ++ [v.truncate 8] }
                                                     else { f with missed := f.missed + 1 }) k s.sys.peri } }

/-- The live value of the register at an address, as master `m` reads it; an address that holds no register, and a block
whose domain is off, read 0 (R244, R365), LCS_DEVICE_ID among them, of which R2 says that it reads 0x5A47_0008 in every mode (DEDUCED,
log 161). BOOT has no layout: a free value (log 7). -/
def State.regRead (s : State) (m a : Nat) : Nat :=
  if targetOf a = 6 then s.cluRead (a - cluWindow)
  else if a < blockBase ∨ blockBase + 0x1000000 ≤ a then 0
  else
    let b := (a - blockBase) / 0x100000
    let o := a % 0x100000
    if s.blockOn b = false then 0
    else match b with
      | 0 => (Config.freeWord s.freeIx).toNat
      | 14 => s.periRead o
      | 1 => s.mtxRead o
      | 2 => s.dmaRead o
      | 3 => s.evtRead o
      | 4 => s.timeRead m o
      | 5 => netARead s.net o
      | 6 => netPortWord s.net.b o
      | 7 => hkcRead s.hkc o
      | 8 => thmRead s.thm o
      | 9 => s.fabRead o
      | 10 => s.recRead o
      | 11 => s.mbxRead o
      | 12 => s.drvRead o
      | 13 => s.sprRead o
      | _ => lcsRead s.sys o

/-- The address of a pair's low word (R363). -/
def pairLow : Pair → Nat
  | .timeWns => blockBase + 0x400008
  | .timeTos => blockBase + 0x400034
  | .timeCap i => blockBase + 0x400204 + 0x10 * i.val
  | .netFo => blockBase + 0x50000C
  | .mtxErr => blockBase + 0x100180
  | .dmaErr => blockBase + 0x200004
  | .dmaMism n => blockBase + 0x20011C + 0x40 * n.val
  | .dmaBase n => blockBase + 0x200108 + 0x40 * n.val
  | .dmaSrc n => blockBase + 0x200128 + 0x40 * n.val
  | .dmaDst n => blockBase + 0x200130 + 0x40 * n.val
  | .recWptr i k => blockBase + 0xA00100 + 0x20 * i.val + 8 * k.val

/-- The pairs of R363, and those of the DMA registers that R264 adds. -/
def allPairs : List Pair :=
  [.timeWns, .timeTos, .netFo, .mtxErr, .dmaErr] ++ (List.finRange 8).map Pair.timeCap ++ (List.finRange 32).map Pair.dmaMism
    ++ (List.finRange 32).map Pair.dmaBase ++ (List.finRange 16).map Pair.dmaSrc ++ (List.finRange 16).map Pair.dmaDst
    ++ (List.finRange 4).flatMap (fun i => (List.finRange 3).map (Pair.recWptr i))

/-- The control block of a pair is powered. -/
def State.pairOn (s : State) (p : Pair) : Bool := s.blockOn ((pairLow p - blockBase) / 0x100000)

/-- A read of a pair's low word: the high word goes into the master's shadow, and with `TIME_WNS` SPH and ERA_STALE into its
`TIME_LATCH` (R173, R362, R363). -/
def State.latchPair (m : Nat) (p : Pair) (s : State) : State :=
  let hi := BitVec.ofNat 32 (s.regRead m (pairLow p + 4))
  let s := s.setShadow m p hi
  match p with
  | .timeWns => { s with latches := setAt (BitVec.ofNat 32 (s.time.sph % 2 ^ 30 + 2 ^ 31 * b2n s.time.eraStale)) m s.latches }
  | .timeTos | .timeCap _ | .netFo | .mtxErr | .dmaErr | .dmaMism _ | .dmaBase _ | .dmaSrc _ | .dmaDst _ | .recWptr _ _ => s

/-- What a firmware read of a capture's `TIME_CAP_WNS` clears (R176, R361). -/
def State.clearFull (m : Nat) (p : Pair) (s : State) : State :=
  match p with
  | .timeCap i => if isFirmware m then { s with time := { s.time with caps := modAt (fun c => { c with full := false }) i.val s.time.caps } } else s
  | .timeWns | .timeTos | .netFo | .mtxErr | .dmaErr | .dmaMism _ | .dmaBase _ | .dmaSrc _ | .dmaDst _ | .recWptr _ _ => s

/-- A register read by a master: the value and what the read changes (R361, R362). -/
def State.readReg (m a : Nat) (s : State) : Nat × State :=
  let v := s.regRead m a
  match allPairs.find? (fun p => pairLow p = a) with
  | some p => if s.pairOn p then (v, (s.latchPair m p).clearFull m p) else (v, s)
  | none =>
    match allPairs.find? (fun p => pairLow p + 4 = a) with
    | some p =>
      if s.pairOn p then
        (match s.shadows.find? (fun q => q.master = m && q.pair = p) with
         | some q => (q.hi.toNat, { s with shadows := s.shadows.filter (fun r => !(r.master = m && r.pair = p)) })
         | none => (v, s))
      else (v, s)
    | none =>
      match slotAt (blockBase + 0x700108) 0x100 3 a with
      | some q => if q.2 = 0 then (v, s.fifoRead q.1 m) else (v, s)
      | none =>
        if blockBase ≤ a ∧ ((a - blockBase) / 0x100000 = 0 ∨ (a - blockBase) / 0x100000 = 14) then
          let s : State := { s with freeIx := s.freeIx + 1 }
          (v, if (a - blockBase) / 0x100000 = 14 ∧ s.blockOn 14 = true ∧ isFirmware m = true then s.periTake (a % 0x100000) else s)
        else (v, s)

end Sys2Proof.Machine
end

