-- ==== Sys2Proof/Machine/MbxOps.lean ====
section
/-! DEFINITION. Operations of the mailbox: doorbells and indices, the notice backlog, HEALTH entries and the mirrors, the
reset of a port (R206-R221). -/

namespace Sys2Proof.Machine

/-! ### What a host writes in its window (R206, R207, R209) -/

/-- A port's mailbox is in service: READY, its domain on (R206, R365). -/
def State.mbxOpen (s : State) (p : Nat) : Bool := s.sys.ready && decide (s.power.pcie.getD p .off = .on)

/-- A host's accesses reach the braid: its link is up and its master's port is open (R221, R253). -/
def State.hostLink (s : State) (p : Nat) : Bool := (s.hport p).linkUp && !(s.braid.closed.getD (9 + p) false)

/-- A host can reach its mailbox (R206, R221). -/
def State.hostCan (s : State) (p : Nat) : Bool := s.mbxOpen p && s.hostLink p

/-- A ring index written is at most as far ahead of `old` as `limit` allows, modulo 65,536 (R209). -/
def indexOk (old limit v : Nat) : Bool := decide ((v + 65536 - old) % 65536 ≤ limit)

/-- A write of `MBX_CMD_TAIL`: a tail that would make the ring hold more than 64 entries is ignored (R209). -/
def HostPort.tailWrite (v : Nat) (h : HostPort) : HostPort :=
  if indexOk h.cmdHead 64 (v % 65536) then { h with cmdTail := v % 65536 } else { h with err := h.err ||| 1 }

/-- A write of `MBX_CPL_HEAD`: an index beyond the producer is ignored (R207). -/
def HostPort.cplHeadWrite (v : Nat) (h : HostPort) : HostPort :=
  if indexOk h.cplHead ((h.cplTail + 65536 - h.cplHead) % 65536) (v % 65536) then { h with cplHead := v % 65536 }
  else { h with err := h.err ||| 2 }

/-- A write of `MBX_NTC_HEAD` (R207). -/
def HostPort.ntcHeadWrite (v : Nat) (h : HostPort) : HostPort :=
  if indexOk h.ntcHead ((h.ntcTail + 65536 - h.ntcHead) % 65536) (v % 65536) then { h with ntcHead := v % 65536 }
  else { h with err := h.err ||| 2 }

/-- A write of `MBX_CTRL`: SEQ counts from 0 when ENABLE becomes set (R211). -/
def HostPort.enableWrite (v : Word) (h : HostPort) : HostPort :=
  let e := bit v.toNat 0
  { h with enable := e, ntcSeq := if e && !h.enable then 0 else h.ntcSeq }

/-- Entries that a host writes into its command ring from the tail on, as far as the ring is free (R209). -/
def HostPort.putEntries (es : List RawCmd) (h : HostPort) : HostPort :=
  let room := 64 - (h.cmdTail + 65536 - h.cmdHead) % 65536
  (es.take room).zipIdx.foldl (fun h q => { h with cmdRing := setAt (some q.1) ((h.cmdTail + q.2) % 64) h.cmdRing }) h

/-- Change a word of some bytes, kept at `n` bytes. -/
def putWord (n o : Nat) (v : Word) (l : List Byte) : List Byte :=
  let l := (l ++ List.replicate n 0).take n
  l.take o ++ leBytes 4 v.toNat ++ l.drop (o + 4)

/-- A command entry from its 128 bytes (R210). -/
def cmdOf (l : List Byte) : RawCmd :=
  { code := leNat (l.take 2), flags := leNat ((l.drop 2).take 2), tag := BitVec.ofNat 32 (wordOf l 4), params := l.drop 8 }

/-- A word of a command entry written (R209). -/
def cmdWordWrite (o : Nat) (v : Word) (c : Option RawCmd) : Option RawCmd :=
  some (cmdOf (putWord 128 o v (match c with | none => [] | some c => cmdBytes c)))

/-- A write of an MSI-X table entry; a vector that is unmasked with its pending bit set sends its message, with the
HOLDOFF of vectors 0 and 1 (R206, R219, log 12). -/
def HostPort.msixWrite (v o : Nat) (w : Word) (h : HostPort) : HostPort :=
  let n := w.toNat
  let f (m : Msix) : Msix :=
    match o with
    | 0 => { m with addr := m.addr / 2 ^ 32 * 2 ^ 32 + n }
    | 4 => { m with addr := m.addr % 2 ^ 32 + 2 ^ 32 * n }
    | 8 => { m with data := n }
    | _ => { m with masked := bit n 0 }
  let h := { h with msix := modAt f v h.msix }
  if (h.msix.getD v {}).masked = false ∧ h.pba.getD v false = true then
    HostPort.msg v { h with pba := setAt false v h.pba }
  else h

/-- MBX_EVT_DB (R207, R223). -/
def State.eventBell (p : Nat) (s : State) : State := s.raise (0xC0 + p) none

/-- A write of a port register by its host, or by firmware (R207, R251). -/
def State.mbxPortWrite (p o : Nat) (v : Word) (s : State) : State :=
  let n := v.toNat
  match o with
  | 0x004 => s.modHost p (HostPort.enableWrite v)
  | 0x00C => s.modHost p (fun h => { h with err := h.err &&& ~~~v })
  | 0x010 => s.modHost p (HostPort.tailWrite (n % 65536))
  | 0x01C => s.modHost p (HostPort.cplHeadWrite (n % 65536))
  | 0x024 => s.modHost p (HostPort.ntcHeadWrite (n % 65536))
  | 0x028 => s.eventBell p
  | 0x02C => s.modHost p (fun h => { h with holdoff := n % 65536 })
  | 0x034 => s.modHost p (fun h => { h with b2 := n % 128 })
  | 0x038 => if p = s.steward then s.modHost p (fun h => { h with b4 := n % 1024 }) else s
  | _ => s

/-! ### Notices (R211) -/

/-- The next backlogged notice is posted; the LOST notice counts the drops up to its posting (R211). -/
def State.postNext (p : Nat) (s : State) : State :=
  let h := s.hport p
  if s.firmware = false ∨ h.enable = false ∨ h.ntcRoom = false ∨ h.linkUp = false then s
  else match h.backlog with
    | [] => s
    | .note n :: rest => s.modHost p (fun h => HostPort.putNotice n { h with backlog := rest })
    | .lost k :: rest =>
      let q := mailOf s.tai
      s.modHost p (fun h => HostPort.putNotice { kind := 8, atS := q.1, atNs := q.2, short := leBytes 4 k } { h with backlog := rest })

/-! ### HEALTH entries (R217) -/

/-- The REASON of a cell's entry: the retirement list's, or the one firmware keeps (R86, R217). -/
def State.reasonOf (s : State) (honly : Bool) (n : Nat) : Nat :=
  match s.sys.retire.find? (fun r => r.crcOk && decide (r.kind = if honly then 2 else 1) && decide (r.unit = n)) with
  | some r => r.reason
  | none => s.reasonFor honly n

/-- Entries of KIND 1, 2, 3 and 6 of a cell (R217). -/
def State.cellEntries (s : State) (kind inst n : Nat) : List HEntry :=
  let e := (s.cell n).engNow
  let ret := s.isRetired n
  let holds : Bool := match kind with
    | 1 => e.pendRetire && !ret
    | 2 => ret
    | 3 => (e.honly || s.honlyCell n) && !ret
    | _ => (s.sys.pilots.getD n (0, false, false)).2.2
  if holds then [{ kind := kind, reason := if kind = 6 then 0 else s.reasonOf (decide (kind = 3)) n, unit := n, inst := inst }] else []

/-- Port ends of an instance that are not available (R36, R217). -/
def State.portEntries (s : State) (inst : Nat) : List HEntry :=
  let v := s.view inst 0
  ((s.image.fabm.ports.filter (fun p => decide (p.dir ≠ 0) && decide (p.inst = inst) && !portAvailable v p.id (decide (p.dir = 1)))).map
    (fun p => ({ kind := 4, unit := p.id, inst := inst } : HEntry)))

/-- Clusters of an instance in HOLD (NO_ENGINE) (R98, R217). -/
def State.engineEntries (s : State) (inst : Nat) : List HEntry :=
  let cs := ((s.cellsOf inst).map (· / 32)).eraseDups
  (cs.filter (fun c => s.cluOn c && (s.clu c).cells.any (fun q => decide (q.engNow.st = .hold) && decide (q.engNow.cause = .noEngine)))).map (fun c => ({ kind := 5, unit := c, inst := inst } : HEntry))

/-- A warning entry (R217). -/
def warnEntry (code detail : Nat) : HEntry := { kind := 7, unit := code, detail := detail }

/-- Numbers below a bound that satisfy a test. -/
def those (n : Nat) (p : Nat → Bool) : List Nat := (List.range n).filter p

/-- The lowest-numbered sensor in warning (R217). -/
def Thm.firstWarn (m : Thm) : Option Nat :=
  match (those 288 m.dieWarn).head? with
  | some i => some i
  | none => ((those 16 (fun j => match m.privs[j]? with | none => false | some p => p.warn.on)).head?).map (· + 0x100)

/-- The warnings of every host (R217). -/
def State.warnAll (s : State) : List HEntry :=
  (if s.time.hoSpec then [warnEntry 5 0] else []) ++ (if s.time.refLost then [warnEntry 6 0] else [])
    ++ (if s.traceable then [] else [warnEntry 8 0])
    ++ (if s.sys.mode = .derated ∨ s.sys.mode = .safe then [warnEntry 20 s.sys.mode.code] else [])

/-- The warnings of the steward alone (R217). -/
def State.warnSteward (s : State) : List HEntry :=
  let many (code : Nat) (l : List Nat) : List HEntry := l.map (warnEntry code)
  let one (code : Nat) (b : Bool) (d : Nat) : List HEntry := if b then [warnEntry code d] else []
  many 1 (those 16 (fun r => decide ((s.island r).pow = .on) && (s.island r).vhtrLow)) ++ many 2 (sortNat s.sys.slack05)
    ++ many 3 (those 16 (fun r => decide ((s.island r).pow = .on) && (s.island r).isenseFault)) ++ one 4 s.net.storm (b2n s.net.active)
    ++ one 7 s.sys.refFreqBad s.time.refFreq ++ many 9 (those 288 (fun i => (s.thm.dies.getD i {}).broken))
    ++ many 10 (those 18 (fun j => (s.thm.privs.getD j {}).subst)) ++ many 11 (those 7 (fun i => s.thm.railBad.getD i false))
    ++ many 12 (those 3 (fun n => (s.core n).probeFail)) ++ one 13 s.hkc.refSuspect 0 ++ many 14 (sortNat s.sys.coefBad)
    ++ one 15 s.sys.retireFull 0 ++ many 16 s.sys.retireBad ++ one 17 s.sys.absent 0 ++ one 18 s.sys.foreign 0
    ++ one 19 s.sys.sealIgnored 0 ++ (match s.thm.firstWarn with | none => [] | some d => [warnEntry 21 d])

/-- The instances of a host. -/
def State.instsOf (s : State) (h : Nat) : List Nat := (List.range s.instCount).filter (fun i => decide (s.owner i = some h))

/-- The entries due to a host, in ascending KIND and then ascending UNIT (R217). -/
def State.healthOf (s : State) (h : Nat) : List HEntry :=
  let is := s.instsOf h
  let cells (kind : Nat) : List HEntry := is.flatMap (fun i => (s.cellsOf i).flatMap (s.cellEntries kind i))
  let sorted (l : List HEntry) : List HEntry := sortLe (fun a b => decide (a.unit ≤ b.unit)) l
  let warn := s.warnAll ++ (if h = s.steward then s.warnSteward else [])
  sorted (cells 1) ++ sorted (cells 2) ++ sorted (cells 3) ++ sorted (is.flatMap s.portEntries) ++ sorted (is.flatMap s.engineEntries)
    ++ sorted (cells 6) ++ sorted warn

/-- An entry as its 8 bytes (R217). -/
def HEntry.bytes (e : HEntry) : List Byte :=
  leBytes 1 e.kind ++ leBytes 1 e.reason ++ leBytes 2 e.unit ++ leBytes 1 e.inst ++ leBytes 1 0 ++ leBytes 2 e.detail

/-- An entry of a host's own instances, not a device-wide one (R208, R217). -/
def HEntry.isOwn (e : HEntry) : Bool := decide (e.kind ≠ 7)

/-- Firmware looks at a host's entries: a change for its own instances is counted; such a change is notified to the host, one of
a device-wide item to the steward (R208, R211). The log of each instance it concerns is owed a record with the notice's contents, every
region's where the item is device-wide (R347). -/
def State.healthCheck (p : Nat) (s : State) : State :=
  let es := s.healthOf p
  let old := (s.hport p).seen
  let own := decide (es.filter HEntry.isOwn ≠ old.filter HEntry.isOwn)
  let wide := decide (p = s.steward) && decide (es.filter (fun e => !e.isOwn) ≠ old.filter (fun e => !e.isOwn))
  let s := s.modHost p (fun h => { h with seen := es, health := if own then (h.health + 1) % 2 ^ 32 else h.health })
  let short := leBytes 1 ((s.hport p).health % 16)
  if own || wide then (s.notify p 2 short []).owesLog 8 (if wide then [0, 1, 2, 3] else s.instsOf p) short else s

/-! ### Mirrors (R208) -/

/-- `MIR_STATE` (R208). -/
def State.mirState (s : State) : Nat :=
  s.time.srv.code + 2 ^ 4 * b2n s.time.refLost + 2 ^ 5 * b2n s.net.storm + 2 ^ 6 * b2n s.time.hoSpec + 2 ^ 7 * b2n s.traceable
    + 2 ^ 8 * s.sys.mode.code

/-- The words of an instance; zero for a host that does not own it (R208). -/
def State.mirInst (s : State) (p i : Nat) : MirInst :=
  if s.owner i = some p then
    { w0 := (s.circuitsOf i).length % 65536 + 2 ^ 16 * ((s.fab.epochs.filter (fun e => e.waits && decide (e.inst = i))).length % 256)
          + 2 ^ 24 * ((s.fab.held.filter (fun e => decide (e.st = .openE) && decide (e.inst = i))).length % 256)
      w4 := s.fab.lastClosed.getD i 0 % 65536
      w8 := match s.partOf i with | none => 0 | some r => r.tag.toNat }
  else {}

/-- A refresh, bracketed by `MIR_SEQ` (R208). -/
def State.mirror (p : Nat) (s : State) : State :=
  let s := s.healthCheck p
  let q := mailOf s.tai
  let insts := (List.range 4).map (s.mirInst p)
  let st := s.mirState
  s.modHost p (fun h => { h with mirSeq := (h.mirSeq + 2) % 2 ^ 32, mirState := st, mirTaiNs := q.2, mirTaiS := q.1 % 2 ^ 32,
                                 mirTaiSh := q.1 / 2 ^ 32 % 65536, mirHealth := h.health, mirInst := insts })

/-! ### Port reset (R221) -/

/-- The registers, rings, mirrors and tables at their reset values; the health count, host memory, the record of messages and
the epoch reports of the backlog stay (R208, R211, R221). -/
def HostPort.reset (h : HostPort) : HostPort :=
  let isReport (b : Back) : Bool := match b with | .note n => decide (n.kind = 1) | .lost _ => false
  { outMem := h.outMem, sent := h.sent, takes := h.takes, subVid := h.subVid, subId := h.subId, health := h.health, seen := h.seen, backlog := h.backlog.filter isReport }

/-- The reports that a port reset ends epochs with: ABORTED for open plans, CANCELLED for pending and armed epochs
(R157, R221). -/
def State.portEpochs (p : Nat) (s : State) : State :=
  let mine (e : Epoch) : Bool := e.waits && decide (s.owner e.inst = some p)
  let plan (e : Epoch) : Bool := decide (e.stage = .open_)
  (s.endAll (fun e => mine e && plan e) .aborted).endAll (fun e => mine e && !plan e) .cancelled

/-- No completion is posted any more for the epochs of a port, one sealed while its solve has not ended among them (R221). -/
def State.disown (p : Nat) (s : State) : State :=
  (s.fab.epochs.filter (fun e => e.owed && decide (e.host = p))).foldl (fun s e => s.modEp e.ext (fun e => { e with owed := false })) s

/-- A mode command of a port goes. -/
def dropOf (p : Nat) (m : Option ModeCmd) : Option ModeCmd :=
  match m with
  | none => none
  | some c => if c.port = p then none else some c

/-- What only the steward's port can have under way: a staged image, a release, a calibration capture, an export
(R220, R221). -/
def State.dropSteward (p : Nat) (s : State) : State :=
  if p ≠ s.steward then s
  else
    let rel := s.sys.release
    let staged := if s.sys.stageRun.isSome ∨ s.sys.grace.isSome then none else s.sys.staged
    let s := match s.hkc.sysRun with
      | none => s
      | some r =>
        let s := s.modCore r.core (fun c => { c with st := .idle })
        if r.resume then s.startPass r.core (s.core r.core).origin else s.contStart r.core
    let s : State := { s with sys := { s.sys with stageRun := none, staged := staged, grace := none, release := false, exportRun := none },
                              hkc := { s.hkc with sysRun := none, sys := none } }
    if rel then s.statusChanged else s

/-- A host's queued solving work is discarded; a solve in progress finishes (R221). -/
def Fab.dropWork (p : Nat) (mine : Nat → Bool) (f : Fab) : Fab :=
  { f with queue := f.queue.filter (fun q => q.host ≠ p),
           resolves := f.resolves.filter (fun x => match f.byExt x with | none => true | some e => !mine e.inst) }

/-- HOST_PORT_RESET (R221): the port's master is reset, its epochs, commands and channels end. -/
def State.portReset (p : Nat) (s : State) : State :=
  let s := s.dropMaster (9 + p)
  let s : State := { s with fab := s.fab.dropWork p (fun i => decide (s.owner i = some p)) }
  let s := (s.modHost p (fun h => { h with taken := [], linkUp := false })).portEpochs p
  let s := s.disown p
  let s := (s.dropSteward p).evtPortReset p
  let s : State := { s with sys := { s.sys with modeCmd := dropOf p s.sys.modeCmd, darkNext := s.sys.darkNext.filter (fun m => decide (m.port ≠ p)), restartCmd := dropOf p s.sys.restartCmd } }
  s.modHost p HostPort.reset

end Sys2Proof.Machine
end

