-- ==== Sys2Proof/Machine/DmaOps.lean ====
section
/-! DEFINITION. Operations of the DMA engine that its commands, its registers and its consumers share (R254, R258, R260-R262). -/

namespace Sys2Proof.Machine

/-- A DMA channel. -/
def State.dch (s : State) (n : Nat) : DmaCh := s.dma.chs.getD n {}

/-- Change a DMA channel. -/
def State.modDch (n : Nat) (f : DmaCh → DmaCh) (s : State) : State := { s with dma := { s.dma with chs := modAt f n s.dma.chs } }

/-- The simple pair as the words of a MOVE and of a HALT (R255, R260). -/
def DmaCh.simplePair (c : DmaCh) : List Nat :=
  let cfg := c.cfg.toNat
  [2 ^ 28 + bits cfg 27 12 * 2 ^ 12, c.src % 2 ^ 32, c.src / 2 ^ 32 % 256, c.dst % 2 ^ 32, c.dst / 2 ^ 32 % 256, c.count, 0, 0,
   15 * 2 ^ 28 + b2n (bit cfg 0) * 2 ^ 11, 0, 0, 0, 0, 0, 0, 0]

/-- What a start does to its channel (R254, R260, R264). -/
def DmaCh.start (simple : Bool) (origin : Option Nat) (c : DmaCh) : DmaCh :=
  { c with st := .running, base := c.pcBase, pc := 0, loops := [], remain := 0, mismCnt := 0, suspect := false, hold := [], ins := none,
           moved := 0, ent := none, entBase := 0, ents := 0, cut := none, origin := origin, buf := if c.simple && simple then some c.simplePair else none }

/-- DMA_STARTn is busy while its channel is RUNNING (R231, R254). -/
def State.dmaBusy (n : Nat) (s : State) : State := s.modCon (8 + n) (fun c => { c with busy := true })

/-- A START or an arrival that starts: ignored and counted while STOPPED is set or the channel is RUNNING or WAITING; it requires
EN (R254). -/
def State.dmaStart (n : Nat) (origin : Option Nat) (s : State) : State :=
  let c := s.dch n
  if s.dma.stopped = true ∨ c.active = true then s.modDch n (fun c => { c with startIgn := sat8 c.startIgn })
  else if c.en = false then s
  else (s.modDch n (DmaCh.start (decide (n < 16)) origin)).dmaBusy n

/-- A WAIT ends and the channel goes on at the next instruction (R258). -/
def DmaCh.resume (c : DmaCh) : DmaCh := { c with st := .running, pc := (c.pc + 32) % 2 ^ 32, ins := none, moved := 0 }

/-- An arrival at DMA_STARTn: a resumption in WAITING, a start otherwise (R254, R258). -/
def State.dmaArrive (n : Nat) (origin : Nat) (s : State) : State :=
  if (s.dch n).st = .waiting then (s.modDch n DmaCh.resume).dmaBusy n else s.dmaStart n (some origin)

/-- EN cleared: a RUNNING or WAITING channel is ABORTED; what its holding register holds is discarded, REMAIN and GIDX stay
(R261). -/
def State.dmaDisable (n : Nat) (s : State) : State :=
  s.modDch n (fun c => if c.active then { c with en := false, st := .aborted, hold := [], ins := none, moved := 0, cut := none } else { c with en := false })

/-- A channel ends in a state. -/
def DmaCh.finish (st : DmaState) (c : DmaCh) : DmaCh := { c with st := st, hold := [], ins := none, moved := 0, cut := none }

/-- A response other than OK stops the engine (R262). WCH of a failed read is unstated: a free value (log 7). -/
def State.dmaStop (n addr : Nat) (write : Bool) (resp : Nat) (fetching : List Nat) (s : State) : State :=
  let named (k : Nat) : Bool := decide (k = n) || (!write && fetching.contains k)
  let d := s.dma
  let halt (k : Nat) (c : DmaCh) : DmaCh := { (if c.active then c.finish .error else c) with suspect := named k }
  let wch := if write then n else Config.freeNat s.freeIx % 32
  let s : State := { s with freeIx := s.freeIx + 1,
                            dma := { d with chs := mapIx halt 0 d.chs, stopped := true, errCnt := sat16 d.errCnt, errAddr := addr % 2 ^ 40,
                                            errMask := (List.range 32).map named, errWrite := write, errResp := resp % 4, errWch := wch } }
  s.raise 0xA0 (s.dch n).origin

/-- STOPPED cleared (R262). -/
def State.stopClear (s : State) : State := { s with dma := { s.dma with stopped := false } }

/-- A request line: a FIFO holds, or a transmit FIFO has room for, at least its threshold (R259, R276). -/
def State.lineOn (s : State) (line : Nat) : Bool :=
  if line < 3 then decide (max 1 (s.core line).thresh ≤ (s.core line).fifo.length) && decide (s.power.hkc = .on)
  else
    let k := line - 3
    let n := (s.sys.peri.getD k {}).held.length
    decide (s.power.periph = .on) && (if k % 2 = 0 then decide (Config.periThresh k ≤ n) else decide (Config.periThresh k ≤ Config.periDepth k - n))

/-- What the pins of a UART or I²C line have done since: bytes received into its FIFO as far as they fit, or as many sent from
it (R259, log 147). -/
def State.periPins (line : Nat) (bs : List Byte) (s : State) : State :=
  if line < 3 ∨ 7 ≤ line ∨ s.power.periph ≠ .on then s
  else
    let k := line - 3
    let f (p : PeriFifo) : PeriFifo :=
      if k % 2 = 0 then { p with held := p.held ++ bs.take (Config.periDepth k - p.held.length) } else { p with held := p.held.drop bs.length }
    { s with sys := { s.sys with peri := modAt f k s.sys.peri } }

end Sys2Proof.Machine
end

