-- ==== Sys2Proof/Machine/RegWrite.lean ====
section
/-! DEFINITION. What a write of one word does to each register (R357-R360, R366 and the register tables of the home chapters):
the fields that the writer may write change, every other bit is ignored. -/

namespace Sys2Proof.Machine

/-- Bits of a W1C register that stay set. -/
def keepBit (b : Bool) (v : Word) (i : Nat) : Bool := b && !bit v.toNat i

/-! ### The cluster window (R103, R130, R131, R149) -/

/-- The sticky bits of `CLU_CELL_PADSTAT` (R130). -/
def padStatClear (v : Word) (c : Cell) : Cell :=
  { c with hCompl := keepBit c.hCompl v 4, hOc := keepBit c.hOc v 3, fPadFault := keepBit c.fPadFault v 2, fOpen := keepBit c.fOpen v 1,
           fLeak := keepBit c.fLeak v 0 }

/-- The RW fields of `CLU_CELL_PILOT` (R130). -/
def pilotWrite (v : Word) (c : Cell) : Cell :=
  let n := v.toNat
  { c with tone := bits n 27 24, quad := bit n 23, clash := bit n 16 }

/-- The state of a STATE code; a code that names none leaves the state (R71). -/
def tstateOf (old : TState) (n : Nat) : TState :=
  match n with | 0 => .park | 1 => .bar | 2 => .cross | 3 => .split | 15 => .retired | _ => old

/-- The solver's word of a NEXT slot (R149). -/
def nextWrite (o : Nat) (v : Word) (q : NextSlot) : NextSlot :=
  let n := v.toNat
  if o = 0 then { q with valid := bit n 31, epoch := bits n 15 0 }
  else if o = 4 then { q with ratio := bits n 31 16, state := tstateOf q.state (bits n 3 0) }
  else q

/-- A write in a powered cluster's window. -/
def State.cluWrite (m o : Nat) (v : Word) (s : State) : State :=
  let c := o / 65536
  let o := o % 65536
  if s.cluOn c = false then s
  else match slotAt 0x1000 0x80 32 o with
    | some q => if isFirmware m = false then s else
      let n := 32 * c + q.1
      (match q.2 with
       | 0x34 => s.modCell n (Cell.modEng (fun e => { e with fault := e.fault &&& ~~~v }))
       | 0x60 => s.modCell n (pilotWrite v)
       | 0x64 => padCfgWrite n v s
       | 0x68 => s.modCell n (padStatClear v)
       | _ => s)
    | none =>
      match slotAt 0x2000 0x10 128 o with
      | some q =>
        if m = 4 then s.modCell (32 * c + q.1 / 4) (fun k => { k with next := modAt (nextWrite q.2 v) (q.1 % 4) k.next }) else s
      | none => if isFirmware m = false then s else
        match o with
        | 0x0310 => s.modClu c (fun k => { k with ptapCfg := v &&& 0x7777, ptapCopy := v &&& 0x7777, ptap := mapIx (tapConfig k.ptapCfg v s.now) 0 k.ptap })
        | 0x0314 => s.modClu c (fun k => { k with sarFault := mapIx (fun i b => keepBit b v i) 0 k.sarFault })
        | _ => s

/-! ### MTX and DMA (R263, R264) -/

/-- A write of the MTX block. -/
def mtxWrite (o : Nat) (v : Word) (b : Braid) : Braid :=
  let n := v.toNat
  match slotAt 0x40 4 14 o with
  | some q => { b with mqos := setAt (n % 16) q.1 b.mqos }
  | none =>
    match slotAt 0x80 8 16 o with
    | some q =>
      let f (w : Bool × Nat × Nat) : Bool × Nat × Nat :=
        if q.2 = 0 then (bit n 31, n % 2 ^ 28, w.2.2) else (w.1, w.2.1, n % 2 ^ 28)
      { b with hwin := modAt (modAt f (q.1 % 4)) (q.1 / 4) b.hwin }
    | none =>
      match o with
      | 0x004 => { b with stewValid := bit n 2, steward := n % 4 }
      | 0x188 => { b with errValid := keepBit b.errValid v 31 }
      | _ => b

/-- The simple registers, which channels 0-15 have (R260, R264). -/
def simpleWrite (o n : Nat) (c : DmaCh) : DmaCh :=
  match o with
  | 0x28 => { c with src := c.src / 2 ^ 32 * 2 ^ 32 + n }
  | 0x2C => { c with src := c.src % 2 ^ 32 + n % 256 * 2 ^ 32 }
  | 0x30 => { c with dst := c.dst / 2 ^ 32 * 2 ^ 32 + n }
  | 0x34 => { c with dst := c.dst % 2 ^ 32 + n % 256 * 2 ^ 32 }
  | 0x38 => { c with count := n }
  | 0x3C => { c with cfg := BitVec.ofNat 32 n &&& 0x0FFFF001 }
  | _ => c

/-- A write of `DMA_CH_CTRL`: the fields, then the disable of R261 or the start of R254. -/
def State.dmaCtrlWrite (n : Nat) (v : Word) (s : State) : State :=
  let w := v.toNat
  let s := s.modDch n (fun c => { c with simple := decide (n < 16) && bit w 30, fqos := bits w 29 26, sec := bit w 25 })
  let s := if bit w 31 then s.modDch n (fun c => { c with en := true }) else s.dmaDisable n
  if bit w 0 then s.dmaStart n none else s

/-- A write of the DMA block. -/
def State.dmaWrite (o : Nat) (v : Word) (s : State) : State :=
  let n := v.toNat
  match slotAt 0x100 0x40 32 o with
  | some q =>
    (match q.2 with
     | 0x00 => s.dmaCtrlWrite q.1 v
     | 0x08 => s.modDch q.1 (fun c => { c with pcBase := c.pcBase / 2 ^ 32 * 2 ^ 32 + n / 32 * 32 })
     | 0x0C => s.modDch q.1 (fun c => { c with pcBase := c.pcBase % 2 ^ 32 + n % 256 * 2 ^ 32 })
     | _ => if q.1 < 16 then s.modDch q.1 (simpleWrite q.2 n) else s)
  | none => if o = 0 ∧ bit n 31 = true then s.stopClear else s

/-! ### EVT (R229-R232, R242) -/

/-- A software fire of a channel (R228, R230). -/
def State.softFire (w : Writer) (ch : Nat) (s : State) : State := if s.mayWriteChan w ch then s.accept ch none else s

/-- A write of a channel's registers; GUARD is firmware's alone (R230, R242). -/
def State.chanWrite (w : Writer) (ch o : Nat) (v : Word) (s : State) : State :=
  let n := v.toNat
  match o with
  | 0x0 => s.chanCfgWrite w ch v
  | 0x4 =>
    (match w with
     | .host _ => s
     | .firmware _ => if s.mayWriteChan w ch then s.modChan ch (fun c => { c with reMax := bits n 23 16, reWin := bits n 15 0 }) else s)
  | 0x8 => if bit n 31 then s.trippedClear w ch else s
  | 0xC => if bit n 0 then s.softFire w ch else s
  | _ => s

/-- Only firmware may drive a consumer (R231). -/
def State.conFirmware (s : State) (x : Nat) : Bool :=
  (List.range 4).all (fun h => !hostConsumer s.steward s.pinOwner s.groupOwned h x)

/-- A write of `EVT_CON_SEL`: the selects of consumers that only firmware may drive; a select of a channel that the consumer may
not select is not taken (R229, R231, R232). -/
def State.selWrite (x : Nat) (v : Word) (s : State) : State :=
  if x < 8 ∨ s.conFirmware x = false then s
  else
    let new (j old : Nat) : Nat :=
      let b := bits v.toNat (8 * j + 7) (8 * j)
      let c := s.chan (b % 128)
      if bit b 7 = true ∧ consumerOk s.steward s.pinOwner s.groupOwned x c.owner c.sec = false then old else b
    s.modCon x (fun c => { c with sel := mapIx new 0 c.sel })

/-- A write of `EVT_CON_CTRL` (R242). -/
def conCtrlWrite (v : Word) (c : Con) : Con :=
  let n := v.toNat
  { c with f2 := bit n 31, ovr := keepBit c.ovr v 28, action := bits n 23 22, width := bits n 21 16 }

/-- Bits of a map that a W1C write of word `w` leaves (R242). -/
def mapClear (w : Nat) (v : Word) (m : Nat) : Nat :=
  let hit := bits m (32 * w + 31) (32 * w) &&& v.toNat
  m - hit * 2 ^ (32 * w)

/-- A write of the EVT block by firmware (R229, R242). -/
def State.evtWrite (sec : Bool) (o : Nat) (v : Word) (s : State) : State :=
  let n := v.toNat
  match slotAt 0 0x10 128 o with
  | some q => s.chanWrite (.firmware sec) q.1 q.2 v
  | none =>
    match slotAt 0x1000 8 96 o with
    | some q => if q.2 = 0 then s.selWrite q.1 v else if q.2 = 4 then s.modCon q.1 (conCtrlWrite v) else s
    | none =>
      match slotAt 0x2100 0x20 5 o with
      | some q => { s with evt := { s.evt with cluMap := modAt (mapClear (q.2 / 4) v) q.1 s.evt.cluMap } }
      | none =>
        match o with
        | 0x2000 => { s with evt := { s.evt with group := unmask 16 n } }
        | 0x2020 => { s with evt := { s.evt with gpio := mapIx (fun i g => { g with edge := bits n (2 * i + 1) (2 * i) }) 0 s.evt.gpio } }
        | _ => s

/-! ### TIME (R166-R191) -/

/-- A write of `TIME_CTRL`; with LOAD the counters take the load registers, and the origin the second now running (R168). -/
def State.timeCtrlWrite (v : Word) (s : State) : State :=
  let n := v.toNat
  let s : State := { s with time := { s.time with stepEn := bit n 1, efcMode := bit n 2 } }
  if bit n 0 then timeLoad (mailOf s.tai).1 s else s

/-- A write of `TIME_CMP_CTRL` (R174, R191). -/
def State.cmpCtrlWrite (i : Nat) (v : Word) (s : State) : State :=
  let n := v.toNat
  let s := s.modCmp i (fun c => { c with stepDisarm := keepBit c.stepDisarm v 5, late := keepBit c.late v 4, armErr := keepBit c.armErr v 3,
                                         periodic := bit n 2 })
  let off (s : State) : State := s.modCmp i (fun c => { c with armed := false })
  if bit n 0 = true ∧ bit n 1 = true then
    let q := s.either
    if q.1 then off (compareArm i q.2) else compareArm i (off q.2)
  else if bit n 0 then compareArm i s
  else if bit n 1 then off s
  else s

/-- A write of `TIME_CAP_CTRL` (R176, R191). -/
def State.capCtrlWrite (i : Nat) (v : Word) (s : State) : State :=
  let n := v.toNat
  let s : State := { s with time := { s.time with caps := modAt (fun c =>
    { c with ovr := keepBit c.ovr v 18, channel := bits n 14 8, edge := bits n 6 5, src := bits n 4 0 }) i s.time.caps } }
  if bit n 16 = true ∧ bits n 4 0 = 19 then s.capture i s.stamp none else s

/-- The registers of the TIME block that only hold what is written, and the W1C bits of `TIME_STATUS` (R191). -/
def timeStore (o : Nat) (v : Word) (t : Time) : Time :=
  let n := v.toNat
  match o with
  | 0x000 => { t with stepErr := keepBit t.stepErr v 12, eraWrErr := keepBit t.eraWrErr v 9, eraAuto := keepBit t.eraAuto v 8,
                      refLostSeen := keepBit t.refLostSeen v 5 }
  | 0x028 => { t with loadEra := v }
  | 0x02C => { t with loadWns := v }
  | 0x030 => { t with loadSph := v &&& 0x3FFFFFFF }
  | 0x048 => { t with kp := v }
  | 0x04C => { t with ki := v }
  | 0x054 => { t with stepThr := v }
  | 0x058 => { t with lockThr := v &&& 0xFFFF }
  | 0x05C => { t with fin := v }
  | 0x060 => { t with drift := v }
  | 0x080 => { t with ppsEn := bit n 0, ppsGated := bit n 1, ppsFree := bit n 2, ppsWidth := bits n 31 8,
                      ppsOut := t.ppsOut && bit n 0 }
  | 0x084 => { t with ppsOfs := v }
  | _ => t

/-- A write of the TIME block. -/
def State.timeWrite (o : Nat) (v : Word) (s : State) : State :=
  let n := v.toNat
  match slotAt 0x100 0x10 8 o with
  | some q =>
    (match q.2 with
     | 0x0 => s.cmpCtrlWrite q.1 v
     | 0x4 => s.modCmp q.1 (fun c => { c with tgt := n })
     | 0x8 => s.modCmp q.1 (fun c => { c with per := n })
     | _ => s)
  | none =>
    match slotAt 0x200 0x10 8 o with
    | some q => if q.2 = 0 then s.capCtrlWrite q.1 v else s
    | none =>
      match slotAt 0x400 8 128 o with
      | some q =>
        if q.2 = 0 then { s with time := { s.time with ft := modAt (fun b => { b with yReg := v.toInt }) q.1 s.time.ft } }
        else { s with time := ftCommit q.1 ((s.time.ft.getD q.1 {}).yReg) (n % 256) (bit n 31) (bit n 30) s.time }
      | none =>
        match o with
        | 0x004 => s.timeCtrlWrite v
        | 0x00C => eraWrite v s
        | 0x024 => stepWrite v s
        | 0x040 => servoStateWrite v s
        | 0x044 => servoUpdate v s
        | _ => { s with time := timeStore o v s.time }

/-! ### NETA, HKC, THM, FAB, REC, LCS, DRV -/

/-- A write of the NETA block (R203). -/
def State.netWrite (o : Nat) (v : Word) (s : State) : State :=
  match o with
  | 0x000 => (s.modNet (Net.cleatWrite v)).hello
  | 0x004 => s.pathWrite v
  | 0x008 => s.modNet (fun n => { n with foCfg := v &&& 0x00FFFF03 })
  | _ => s

/-- A write of `HKC_CORE_CTRL`: the fields, LEN under R273, then EN, FLUSH and START (R273, R274, R276, R280, R282). -/
def State.coreCtrlWrite (n : Nat) (v : Word) (s : State) : State :=
  let w := v.toNat
  let s := s.modCore n (fun c => { c with trig := bits w 30 29, diag := bit w 28, thresh := bits w 15 8 })
  let s := if n = 0 then s.modCore n (fun c => { c with len := bits w 7 4 }) else s.seqChange n (fun c => { c with len := bits w 7 4 })
  let s := if n = 0 then s else if bit w 31 then s.hkcEnable n else (s.hkcDisable n).modCore n (fun c => { c with enWait := false })
  let s := if bit w 1 then s.hkcFlush n else s
  if bit w 0 then s.swStart n else s

/-- A write of the HKC block. -/
def State.hkcWrite (o : Nat) (v : Word) (s : State) : State :=
  let n := v.toNat
  match slotAt 0x100 0x100 3 o with
  | some q =>
    (match slotAt 0x40 4 16 q.2 with
     | some e => s.seqWrite q.1 e.1 v
     | none =>
       match q.2 with
       | 0x00 => s.coreCtrlWrite q.1 v
       | 0x04 => s.modCore q.1 (fun c => { c with cfgErr := keepBit c.cfgErr v 26 })
       | _ => s)
  | none =>
    match o with
    | 0x000 => s.modHkc (fun h => { h with prioFull := keepBit h.prioFull v 8, ovrSrc := mapIx (fun i b => keepBit b v (4 + i)) 0 h.ovrSrc })
    | 0x004 =>
      let s := s.modHkc (fun h => { h with vrefOut := bit n 1 })
      if bit n 0 then refEnableWrite s else s
    | 0x010 => s.prioWrite v
    | _ => s

/-- A write of `FAB_COMMIT_AT`: the register, and with it B of a PENDING epoch that commits by time: the instant of that WNS
nearest to the present (R146, R160). -/
def State.commitAtWrite (i : Nat) (v : Word) (s : State) : State :=
  let f := s.fab.slots.getD i {}
  let s : State := { s with fab := { s.fab with slots := modAt (fun q => { q with commitAt := v }) i s.fab.slots } }
  match f.ep with
  | none => s
  | some e =>
    if e.st = .pending ∧ e.event = false then
      s.modEp e.ext (fun e => { e with b := some (s.tai + (v - BitVec.ofNat 32 s.time.wns).toInt), loaded := true })
    else s

/-- A write of the FAB block (R160). -/
def State.fabWrite (o : Nat) (v : Word) (s : State) : State :=
  match slotAt 0x100 0x20 8 o with
  | some q => if q.2 = 0 then writeEpCtrl q.1 v s else if q.2 = 4 then s.commitAtWrite q.1 v else s
  | none => s

/-- A write of the REC block (R341, R348, R352). -/
def State.recWrite (o : Nat) (v : Word) (s : State) : State :=
  let n := v.toNat
  match slotAt 0x400 4 256 o with
  | some q => { s with rcd := { s.rcd with capSel := setAt v q.1 s.rcd.capSel, capDirty := true } }
  | none =>
    match o with
    | 0x000 => { s with rcd := { s.rcd with shedW1c := keepBit s.rcd.shedW1c v 26 } }
    | 0x004 =>
      let s : State := { s with rcd := { s.rcd with capEn := bit n 1 } }
      if bit n 0 then s.freeze else s.release
    | 0x008 => { s with rcd := { s.rcd with hz := n % 2048 } }
    | _ => s

/-- A write of the LCS block by firmware or the steward (R317, R324, R336, R337). -/
def State.lcsWrite (m o : Nat) (v : Word) (s : State) : State :=
  match o with
  | 0x020 => s.sresetWrite m v
  | 0x024 => s.lcReqWrite m v
  | 0x028 => if isFirmware m && s.firmware then { s with sys := { s.sys with wdtAt := s.now } } else s
  | _ => s

/-- Firmware drives EFC_OUT or returns it to high impedance: it sets EN in LOAD only, and only where the TIME section enables
oscillator trimming (R129). -/
def State.efcSet (v : Bool) (s : State) : State :=
  if s.firmware = false ∨ (v = true ∧ (s.sys.mode ≠ .load ∨ s.image.time.efc = false)) then s
  else { s with sys := { s.sys with efcEn := v } }

/-- A write of the DRV block (R132). -/
def State.drvWrite (o : Nat) (v : Word) (s : State) : State :=
  match o with
  | 0x2000 => s.efcSet (bit v.toNat 0)
  | 0x2004 => s.efcWrite v.toNat
  | _ => s

/-! ### MBX (R206, R207, R209, R230) -/

/-- A write in a port's window by its host or by firmware (R206, R207, R251). -/
def State.mbxWrite (m p o : Nat) (v : Word) (s : State) : State :=
  let byHost := decide (m = 9 + p)
  if s.mbxOpen p = false ∨ (byHost = true ∧ s.hostLink p = false) then s
  else if o < 0x400 then s.mbxPortWrite p o v
  else match slotAt 0xC00 0x10 32 o with
    | some q => s.modHost p (HostPort.msixWrite q.1 q.2 v)
    | none =>
      match slotAt 0x1000 0x10 128 o with
      | some q =>
        if h : p < 4 then (if (s.chan q.1).owner = p then s.chanWrite (.host ⟨p, h⟩) q.1 q.2 v else s) else s
      | none =>
        match slotAt 0x2000 0x80 64 o with
        | some q => s.modHost p (fun h => { h with cmdRing := modAt (cmdWordWrite q.2 v) q.1 h.cmdRing })
        | none => s

/-! ### One word -/

/-- A write of one register word by a master that R251 lets write there. A block whose domain is off, and an address that holds
no register, ignore it (R244, R365). BOOT, and PERI but for the FIFOs of R259, act at the pins alone (R356). -/
def State.regWrite (m : Nat) (sec : Bool) (a : Nat) (v : Word) (s : State) : State :=
  if targetOf a = 6 then s.cluWrite m (a - cluWindow) v
  else if a < blockBase ∨ blockBase + 0x1000000 ≤ a then s
  else
    let b := (a - blockBase) / 0x100000
    let o := a % 0x100000
    if s.blockOn b = false then s
    else match b with
      | 1 => { s with braid := mtxWrite o v s.braid }
      | 2 => s.dmaWrite o v
      | 3 => s.evtWrite sec o v
      | 4 => s.timeWrite o v
      | 5 => s.netWrite o v
      | 7 => s.hkcWrite o v
      | 8 => if o = 4 then thmResume v s else s
      | 9 => s.fabWrite o v
      | 10 => s.recWrite o v
      | 11 => if o / 65536 < 4 then s.mbxWrite m (o / 65536) (o % 65536) v else s
      | 12 => s.drvWrite o v
      | 14 => s.periWrite o v
      | 15 => s.lcsWrite m o v
      | _ => s

/-- The registers that hold a RWS field (R336, R337). -/
def holdsRws (a : Nat) : Bool := decide (a = blockBase + 0xF00020) || decide (a = blockBase + 0xF00024)

end Sys2Proof.Machine
end

