-- ==== Sys2Proof/Machine/BraidOps.lean ====
section
/-! DEFINITION. A piece at its target: decoding, access rights, what it reads and writes, the four responses, the log of refused
pieces (R243, R244, R247-R252, R360). -/

namespace Sys2Proof.Machine

/-! ### Responses (R248, R263) -/

/-- OK -/
def rspOk : Nat := 0
/-- DENY -/
def rspDeny : Nat := 1
/-- NOTGT -/
def rspNotgt : Nat := 2
/-- TGTERR -/
def rspTgterr : Nat := 3

/-! ### Who asks (R243) -/

/-- The host of a host port's master. -/
def hostOf (m : Nat) : Option Nat := if 9 ≤ m ∧ m ≤ 12 then some (m - 9) else none

/-- The owner ID of a master's transactions. -/
def ownerOf (m : Nat) : Nat := match hostOf m with | some h => h | none => 4

/-- The secure bit of a master's transactions: M5's is per channel, the others' fixed (R243). -/
def secOf (m : Nat) (sec : Bool) : Bool := match hostOf m with | some _ => false | none => if m = 5 then sec else true

/-- The port is the steward's (R263). -/
def State.isSteward (s : State) (h : Nat) : Bool := s.braid.stewValid && decide (s.braid.steward = h)

/-! ### Decoding and rights (R244, R251) -/

/-- No target answers a master at an address (R244, R305): none decodes it, a DDR channel is unpowered, not verified, failed or
smaller, an SRAM bank is off or, for every master but the boot and wipe engine M13, not verified by CHURN. -/
def State.noTarget (s : State) (m a : Nat) : Bool :=
  let t := targetOf a
  let size (c : Nat) : Nat := (s.image.dram.getD c {}).sizeGib * 2 ^ 30
  if t = 15 then true
  else if t < 2 then !(s.chOk t) || s.sys.ddrFail.getD t false || decide (size t ≤ a - chBase t)
  else if t < 6 then
    decide (s.power.sram.getD ((a - 0x2000000000) / 0x400000) .off ≠ .on) || (decide (m ≠ 13) && !s.sys.sramOk)
  else false

/-- An address in a port's own MBX window (R205). -/
def inMbx (h a : Nat) : Bool := decide (blockBase + 0xB00000 + 0x10000 * h ≤ a) && decide (a < blockBase + 0xB00000 + 0x10000 * (h + 1))

/-- The addresses of the words that a piece touches. -/
def wordsIn (a len : Nat) : List Nat := (List.range ((a % 4 + len + 3) / 4)).map (fun i => a / 4 * 4 + 4 * i)

/-- A piece touches the registers of a secure EVT channel (R229, R251). -/
def State.secureChan (s : State) (a len : Nat) : Bool :=
  decide (targetOf a = 8) && (wordsIn a len).any (fun w =>
    match slotAt (blockBase + 0x300000) 0x10 128 w with
    | some q => (s.chan q.1).sec
    | none => false)

/-- Bytes of DRAM inside a host's recorder windows (R251, R263). -/
def State.inHwin (s : State) (h a len : Nat) : Bool :=
  decide (targetOf a < 2) && (s.braid.hwin.getD h []).any (fun w => w.1 && decide (w.2.1 ≤ a / 4096) && decide ((a + len - 1) / 4096 ≤ w.2.2))

/-- The right to read (R251). -/
def State.mayRead (s : State) (m : Nat) (sec : Bool) (a len : Nat) : Bool :=
  match hostOf m with
  | none => secOf m sec || !s.secureChan a len
  | some h => s.isSteward h || inMbx h a || s.inHwin h a len

/-- The right to write (R251): beyond its own window the steward reaches registers that hold an RWS field, and them alone. -/
def State.mayWrite (s : State) (m : Nat) (sec : Bool) (a len : Nat) : Bool :=
  match hostOf m with
  | none => secOf m sec || !s.secureChan a len
  | some h => inMbx h a || (s.isSteward h && (wordsIn a len).all holdsRws)

/-- A register access of a size or alignment that its target refuses (R252, R360). -/
def badSize (a len : Nat) : Bool := !isMemory a && (decide (a % 4 ≠ 0) || decide (len % 4 ≠ 0))

/-! ### What a refusal leaves (R213, R251, R263) -/

/-- The braid's log: the first refused piece of a firmware master, later ones counted (R251). -/
def Braid.log (m : Nat) (sec : Bool) (a : Nat) (write : Bool) (resp : Nat) (b : Braid) : Braid :=
  if b.errValid then { b with errCnt := sat32 b.errCnt }
  else { b with errValid := true, errAddr := a % 2 ^ 40,
                errInfo := { write := write, resp := resp, target := targetOf a, master := m, sec := secOf m sec, owner := ownerOf m } }

/-- What a port keeps of a BAR4 access that was not answered OK (R213). -/
def HostPort.b4Fail (write : Bool) (resp : Nat) (h : HostPort) : HostPort :=
  let h := if write then { h with b4Deny := sat32 h.b4Deny } else h
  if resp = rspDeny then (if write then { h with err := h.err ||| 8 } else h) else { h with err := h.err ||| 64 }

/-- A refused or failed piece is logged for a firmware master, and counted by the steward's port outside its own window (R213,
R251). -/
def State.refused (m : Nat) (sec : Bool) (a : Nat) (write : Bool) (resp : Nat) (s : State) : State :=
  match hostOf m with
  | none => { s with braid := s.braid.log m sec a write resp }
  | some h => if s.isSteward h && !inMbx h a then s.modHost h (HostPort.b4Fail write resp) else s

/-! ### Serving a piece -/

/-- Successive words of registers, read in ascending order (R252). -/
def State.readWords (m : Nat) : Nat → Nat → State → List Byte × State
  | 0, _, s => ([], s)
  | k + 1, a, s =>
    let q := s.readReg m a
    let r := State.readWords m k (a + 4) q.2
    (leBytes 4 q.1 ++ r.1, r.2)

/-- Successive words of registers, written in ascending order (R252). -/
def State.writeWords (m : Nat) (sec : Bool) : Nat → Nat → List Byte → State → State
  | 0, _, _, s => s
  | k + 1, a, bs, s => State.writeWords m sec k (a + 4) (bs.drop 4) (s.regWrite m sec a (BitVec.ofNat 32 (leNat (bs.take 4))))

/-- The response to a read piece. -/
def State.readRsp (s : State) (m : Nat) (sec : Bool) (a len : Nat) : Nat :=
  if s.noTarget m a then rspNotgt else if s.mayRead m sec a len = false then rspDeny else if badSize a len then rspTgterr else rspOk

/-- The response to a write piece. -/
def State.writeRsp (s : State) (m : Nat) (sec : Bool) (a len : Nat) : Nat :=
  if s.noTarget m a then rspNotgt else if s.mayWrite m sec a len = false then rspDeny else if badSize a len then rspTgterr else rspOk

/-- The data of a read that is not answered OK: zeros where it is denied (R251), and at a host's port, whose PCIe completion is
successful and carries zeros whatever the braid's response (R213); none else. -/
def noRead (m r len : Nat) : List Byte := if r = rspDeny ∨ (hostOf m).isSome = true then List.replicate len 0 else []

/-- A read piece: response, data, state (R251). -/
def State.readPiece (m : Nat) (sec : Bool) (a len : Nat) (s : State) : Nat × List Byte × State :=
  let r := s.readRsp m sec a len
  if r ≠ rspOk then (r, noRead m r len, s.refused m sec a false r)
  else if isMemory a then (r, Mem.readN s.mem len a, s)
  else
    let q := s.readWords m (len / 4) a
    (r, q.1, q.2)

/-- A write piece: response and state; a refused one changes nothing but what records it (R251). -/
def State.writePiece (m : Nat) (sec : Bool) (a : Nat) (bs : List Byte) (s : State) : Nat × State :=
  let r := s.writeRsp m sec a bs.length
  if r ≠ rspOk then (r, s.refused m sec a true r)
  else if isMemory a then (r, { s with mem := Mem.writeN s.mem a bs })
  else (r, s.writeWords m (secOf m sec) (bs.length / 4) a bs)

/-- The pieces of a burst: it is split at every 256 B-aligned address (R247). -/
def splitBurst : Nat → Nat → Nat → List (Nat × Nat)
  | 0, _, _ => []
  | fuel + 1, a, len =>
    let k := min len (256 - a % 256)
    if len = 0 then [] else (a, k) :: splitBurst fuel (a + k) (len - k)

/-- The pieces of a burst of `len` bytes (R247). -/
def piecesOf (a len : Nat) : List (Nat × Nat) := splitBurst (len / 256 + 2) a len

/-- The port of a master is open and the braid powered (R253). -/
def State.braidOpen (s : State) (m : Nat) : Bool := decide (s.power.braid = .on) && !(s.braid.closed.getD m false)

end Sys2Proof.Machine
end

