-- ==== Sys2Proof/Machine/BraidFam.lean ====
section
/-! DEFINITION. The commands of the braid (R243-R253, R263). -/

namespace Sys2Proof.Machine

/-! ### Arbitration (R245, R247, R248) -/

/-- A request as its pieces (R247). -/
def splitReq (r : BraidReq) : List BraidReq :=
  match r.op with
  | .read len => (piecesOf r.addr len).map (fun q => { r with addr := q.1, op := .read q.2 })
  | .write bs => (piecesOf r.addr bs.length).map (fun q => { r with addr := q.1, op := .write ((bs.drop (q.1 - r.addr)).take q.2) })

/-- What an answer leaves in the model's record (R248). -/
def State.answered (m a resp : Nat) (data : List Byte) (s : State) : State :=
  { s with braid := { s.braid with answer := some { master := m, addr := a, resp := resp, data := data } } }

/-- A piece reaches its port, where each master has at most 16 outstanding; one that decodes to no target is answered NOTGT, one of
a closed master is not issued (R244, R245, R253). -/
def State.arrive (r : BraidReq) (s : State) : State :=
  let m := r.master.val
  let t := targetOf r.addr
  let write := match r.op with | .read _ => false | .write _ => true
  if s.braidOpen m = false then s
  else if t = 15 then
    (s.refused m r.sec r.addr write rspNotgt).answered m r.addr rspNotgt (match r.op with | .read len => noRead m rspNotgt len | .write _ => [])
  else
    let l := s.braid.waiting.getD t []
    if 16 ≤ (l.filter (fun w => decide (w.req.master.val = m))).length then s
    else { s with braid := { s.braid with waiting := setAt (l ++ [{ req := r, since := s.now }]) t s.braid.waiting } }

/-- QoS plus one for every 350 ns waited, up to 16 (R245). -/
def State.effPrio (s : State) (w : Waiting) : Nat :=
  let q := if w.req.master.val = 5 then w.req.qos % 16 else s.mqosOf w.req.master.val
  min 16 (q + ((s.now - w.since) / 350).toNat)

/-- Pieces that may be granted: the oldest of each master, whose transactions complete in issue order (R248). -/
def heads : List Waiting → List Waiting
  | [] => []
  | w :: ws => w :: (heads ws).filter (fun q => decide (q.req.master ≠ w.req.master))

/-- The piece granted next: the highest effective priority, ties to the oldest (R245). -/
def State.nextGrant (s : State) (t : Nat) : Option Waiting :=
  argMin (fun w => 16 - s.effPrio w) (heads (s.braid.waiting.getD t []))

/-- A target serves one piece at a time: what it granted before is complete (R245, R253). -/
def State.settled (t : Nat) (s : State) : State :=
  let done (g : Option Granted) : Option Granted := match g with | none => none | some g => if targetOf g.addr = t then none else some g
  { s with braid := { s.braid with granted := s.braid.granted.map done } }

/-- A write piece whose beats a master reset may still cut short, until its target serves another piece (R253). -/
def State.writeBeats (m : Nat) (sec : Bool) (a : Nat) (bs : List Byte) (s : State) : Nat × State :=
  let old := Mem.readN s.mem bs.length a
  let q := s.writePiece m sec a bs
  let s := q.2
  (q.1, if q.1 = rspOk ∧ isMemory a = true then { s with braid := { s.braid with granted := setAt (some { addr := a, old := old }) m s.braid.granted } } else s)

/-- A piece of M6 to a DDR channel that is not answered OK counts toward the channel's failure (R350). -/
def State.recJudge (m t : Nat) (s : State) : State :=
  match s.braid.answer with
  | some q => if m = 6 ∧ t < 2 ∧ q.resp ≠ rspOk then s.recPieceFail t else s
  | none => s

/-- A granted piece is served; `ecc`: DDR or SRAM meets an uncorrectable error on it, and it changes nothing (R245, R247, R248,
R251). -/
def State.grant (t : Nat) (ecc : Bool) (w : Waiting) (s : State) : State :=
  let m := w.req.master.val
  let a := w.req.addr
  let s : State := { s with braid := { s.braid with waiting := modAt (removeFirst (fun q => decide (q = w))) t s.braid.waiting } }
  let s := s.settled t
  let lost := ecc && isMemory a
  match w.req.op with
  | .read len =>
    if lost = true ∧ s.readRsp m w.req.sec a len = rspOk then ((s.refused m w.req.sec a false rspTgterr).answered m a rspTgterr (noRead m rspTgterr len)).recJudge m t
    else
      let q := s.readPiece m w.req.sec a len
      (q.2.2.answered m a q.1 q.2.1).recJudge m t
  | .write bs =>
    if lost = true ∧ s.writeRsp m w.req.sec a bs.length = rspOk then ((s.refused m w.req.sec a true rspTgterr).answered m a rspTgterr []).recJudge m t
    else
      let q := s.writeBeats m w.req.sec a bs
      (q.2.answered m a q.1 []).recJudge m t

/-- The pieces that a target grants before a request of master `m` that reaches it now: the master's own older ones, and those
whose effective priority is no lower (R245, R248). -/
def State.ahead (m qos t : Nat) : Nat → State → State
  | 0, s => s
  | k + 1, s =>
    match s.nextGrant t with
    | none => s
    | some w =>
      if (s.braid.waiting.getD t []).any (fun q => decide (q.req.master.val = m)) ∨ qos ≤ s.effPrio w then State.ahead m qos t k (s.grant t false w)
      else s

/-- An access of a master reaches its target and its turn comes; `qos` is M5's own, the other masters' stands in `MTX_MQOS`
(R243, R245, R248). -/
def State.access (m qos a : Nat) (s : State) : State :=
  let t := targetOf a
  let q := if m = 5 then qos % 16 else s.mqosOf m
  (s.ahead m q t (s.braid.waiting.getD t []).length).settled t

/-- The arrivals join their ports, and the port of a target grants one piece (R245). -/
def pieceGrant (t : Nat) (arrivals : List BraidReq) (ecc : Bool) (s : State) : State :=
  let s := (arrivals.flatMap splitReq).foldl (fun s r => s.arrive r) s
  match s.nextGrant t with
  | none => s
  | some w => if s.power.braid = .on then s.grant t ecc w else s

/-- BRAID_PIECE_GRANT (R245). -/
def execBraidPieceGrant (target : Fin 11) (arrivals : List BraidReq) (ecc : Bool) (s : State) : Host.Outcome State Fault Refusal :=
  .next (pieceGrant target.val arrivals ecc s)

/-! ### Atomic operations (R249) -/

/-- The new word of an atomic operation. -/
def atomicNew (size : Nat) (kind : AtomicKind) (old operand compare : Nat) : Nat :=
  match kind with
  | .swap => operand
  | .compareSwap => if old = compare then operand else old
  | .add => (old + operand) % 2 ^ (8 * size)
  | .and => old &&& operand
  | .or => old ||| operand
  | .xor => old ^^^ operand

/-- The response to an atomic operation: T0-T5 alone perform it, on aligned words of 4 B or 8 B that are read without an
uncorrectable error (R248, R249). -/
def State.atomicRsp (s : State) (m a size : Nat) (ecc : Bool) : Nat :=
  if s.noTarget m a then rspNotgt
  else if isMemory a = true ∧ (size = 4 ∨ size = 8) ∧ a % size = 0 ∧ ecc = false then rspOk else rspTgterr

/-- An atomic operation of M0-M4: a single beat, after the master's older pieces at its target (R248, R249, R253). -/
def atomicOp (m a size : Nat) (kind : AtomicKind) (operand compare : Nat) (ecc : Bool) (s : State) : State :=
  if 5 ≤ m ∨ s.braidOpen m = false then s
  else
    let s := s.access m 0 a
    let r := s.atomicRsp m a size ecc
    if r ≠ rspOk then (s.refused m true a true r).answered m a r []
    else
      let old := Mem.readLe s.mem size a
      let top := 2 ^ (8 * size)
      let new := atomicNew size kind old (operand % top) (compare % top)
      ({ s with mem := Mem.writeN s.mem a (leBytes size new) } : State).answered m a rspOk (leBytes size old)

/-- ATOMIC_OP (R249). -/
def execAtomicOp (m : Master) (addr size : Nat) (kind : AtomicKind) (operand compare : Nat) (ecc : Bool)
    (s : State) : Host.Outcome State Fault Refusal :=
  .next (atomicOp m.val addr size kind operand compare ecc s)

/-! ### Master reset (R253) -/

/-- A master is reset in mid-burst, with some beats of its granted write piece delivered. -/
def masterReset (m beats : Nat) (s : State) : State := (s.cutPiece m beats).dropMaster m

/-- MASTER_RESET (R253). -/
def execMasterReset (m : Master) (beats : Nat) (s : State) : Host.Outcome State Fault Refusal := .next (masterReset m.val beats s)

/-- Every granted piece of the master has completed and it leaves reset. -/
def portReopen (m : Nat) (s : State) : State :=
  { s with braid := { s.braid with closed := setAt false m s.braid.closed, granted := setAt none m s.braid.granted } }

/-- MASTER_PORT_REOPEN (R253). -/
def execMasterPortReopen (m : Master) (s : State) : Host.Outcome State Fault Refusal := .next (portReopen m.val s)

/-- MTX_ERR_REARM (R263). -/
def execMtxErrRearm (s : State) : Host.Outcome State Fault Refusal :=
  .next (if s.power.braid = .on then { s with braid := { s.braid with errValid := false } } else s)

end Sys2Proof.Machine
end

