-- ==== Sys2Proof/Machine/RegFam.lean ====
section
/-! DEFINITION. Register accesses as commands of their own, and the steward's and the hosts' BAR accesses (R132, R213, R214, R351,
R357-R363). -/

namespace Sys2Proof.Machine

/-- A master reaches the braid; a host's master also needs its link (R221, R253). -/
def State.masterUp (s : State) (m : Nat) : Bool :=
  s.braidOpen m && (match hostOf m with | none => true | some h => (s.hport h).linkUp)

/-- One 4 B write of a register, or of memory, by a master: a single beat (R253). -/
def registerWrite (m a : Nat) (v : Word) (s : State) : State :=
  if s.masterUp m then ((s.access m 0 a).writePiece m false a (leBytes 4 v.toNat)).2 else s

/-- REGISTER_WRITE (R357, R358): a write of M5 is taken as non-secure. -/
def execRegisterWrite (m : Master) (addr : Nat) (v : Word) (s : State) : Host.Outcome State Fault Refusal :=
  .next (registerWrite m.val addr v s)

/-- A read of a pair's low word, where the master may read (R251, R362). -/
def pairLowRead (m : Nat) (pair : Pair) (s : State) : State :=
  if s.masterUp m then
    let q := (s.access m 0 (pairLow pair)).readPiece m false (pairLow pair) 4
    q.2.2.answered m (pairLow pair) q.1 q.2.1
  else s

/-- PAIR_LOW_READ (R362). -/
def execPairLowRead (m : Master) (pair : Pair) (s : State) : Host.Outcome State Fault Refusal := .next (pairLowRead m.val pair s)

/-- The size of a BAR of port `p` in bytes: 64 KiB, 1 GiB, and 1 GiB on the steward's port alone (R205). -/
def State.barSize (s : State) (p bar : Nat) : Nat :=
  match bar with
  | 0 => 2 ^ 16
  | 2 => 2 ^ 30
  | 4 => if s.isSteward p then 2 ^ 30 else 0
  | _ => 0

/-- A BAR4 write (R213): on the steward's port alone (R205). A register of the port's own window has no RWS field, so there it
is discarded and counted too. -/
def bar4Write (p offset : Nat) (v : Word) (s : State) : State :=
  let a := (s.hport p).b4 * 2 ^ 30 + offset
  if s.hostCan p = false ∨ s.barSize p 4 ≤ offset then s
  else if inMbx p a && !holdsRws a then s.modHost p (HostPort.b4Fail true rspDeny)
  else registerWrite (9 + p) a v s

/-- BAR4_WRITE (R213). -/
def execBar4Write (p : Fin 4) (offset : Nat) (v : Word) (s : State) : Host.Outcome State Fault Refusal := .next (bar4Write p.val offset v s)

/-! ### BAR2 (R214, R351) -/

/-- The size of an instance's image in the recorder view: header area, log, Skim and capture ring (R351). -/
def State.imageSize (s : State) (i : Nat) : Nat :=
  let sz := s.rcd.sizes.getD i (0, 0, 0)
  mib + sz.1 + sz.2.1 + sz.2.2

/-- The address of the byte at an offset of an instance's image; none in the half of a lost channel (R344, R351). -/
def State.imageAddr (s : State) (i o : Nat) : Option Nat :=
  let sz := s.rcd.sizes.getD i (0, 0, 0)
  let at_ := s.rcd.place.getD i 0
  let half (k off : Nat) : Option Nat :=
    let h := ringSize sz k / 2
    let c := if off < h then 0 else 1
    let start := at_ + ringStart sz k
    if s.chOk c then some (chBase c + start + off % h) else none
  let both (off : Nat) : Option Nat := if s.chOk 0 ∨ s.chOk 1 then some (chBase s.survivor + at_ + off) else none
  if o < mib + sz.1 then both o
  else if o < mib + sz.1 + sz.2.1 then half 1 (o - mib - sz.1)
  else half 2 (o - mib - sz.1 - sz.2.1)

/-- The place of an offset of the concatenated images: none beyond them; within them an address, or none in a lost channel (R214,
R351). -/
def State.viewAddr (s : State) : List Nat → Nat → Option (Option Nat)
  | [], _ => none
  | i :: is, o => if o < s.imageSize i then some (s.imageAddr i o) else s.viewAddr is (o - s.imageSize i)

/-- A byte of the view: a lost channel's reads as zero (R351). -/
def State.viewByte (s : State) (p : Option (Option Nat)) : Byte :=
  match p with | some (some a) => Mem.read s.mem a | some none => 0 | none => 0

/-- The instances that have a region and belong to a host, ascending (R351). -/
def State.viewOf (s : State) (p : Nat) : List Nat := (s.instsOf p).filter (fun i => s.rcd.present.getD i false)

/-- A BAR2 read within the BAR: its pieces wait their turn at the channels that they reach, behind the port's older ones (R245, R248);
bytes outside the host's regions read zero and set B2_OUT (R214). -/
def bar2Read (p offset len : Nat) (s : State) : State :=
  if s.hostCan p = false ∨ s.barSize p 2 < offset + len then s
  else
    let o := (s.hport p).b2 * 2 ^ 30 + offset
    let ps := (List.range len).map (fun k => s.viewAddr (s.viewOf p) (o + k))
    let met (c : Nat) : Bool := ps.any (fun q => match q with | some (some a) => decide (targetOf a = c) | some none => false | none => false)
    let s := if met 0 then s.access (9 + p) 0 (chBase 0) else s
    let s := if met 1 then s.access (9 + p) 0 (chBase 1) else s
    let s := if ps.any Option.isNone then s.modHost p (fun h => { h with err := h.err ||| 16 }) else s
    s.answered (9 + p) offset rspOk (ps.map s.viewByte)

/-- BAR2_READ (R214). -/
def execBar2Read (p : Fin 4) (offset len : Nat) (s : State) : Host.Outcome State Fault Refusal := .next (bar2Read p.val offset len s)

/-! ### The oscillator trim output (R132) -/

/-- EFC_ENABLE (R129). -/
def execEfcEnable (v : Bool) (s : State) : Host.Outcome State Fault Refusal := .next (s.efcSet v)

/-- EFC_CODE_WRITE (R129). -/
def execEfcCodeWrite (v : Word) (s : State) : Host.Outcome State Fault Refusal := .next (s.efcWrite v.toNat)

end Sys2Proof.Machine
end

