-- ==== Sys2Proof/Machine/EvtFam.lean ====
section
/-! DEFINITION. The commands of the event fabric (R222-R242). -/

namespace Sys2Proof.Machine

/-! ### Writes of channels (R228, R230) -/

/-- A writer's accesses reach the fabric: a host's through its mailbox window (R206, R230). -/
def State.writerUp (s : State) (w : Writer) : Bool := match w with | .firmware _ => true | .host h => s.hostCan h.val

/-- SOFTWARE_FIRE (R228). -/
def execSoftwareFire (w : Writer) (ch : Fin 128) (s : State) : Host.Outcome State Fault Refusal :=
  .next (if s.writerUp w then s.softFire w ch.val else s)

/-- EVT_CH_CFG_WRITE (R230, R233). -/
def execEvtChCfgWrite (w : Writer) (ch : Fin 128) (v : Word) (s : State) : Host.Outcome State Fault Refusal :=
  .next (if s.writerUp w then s.chanCfgWrite w ch.val v else s)

/-- TRIPPED_CLEAR (R230). -/
def execTrippedClear (w : Writer) (ch : Fin 128) (s : State) : Host.Outcome State Fault Refusal :=
  .next (if s.writerUp w then s.trippedClear w ch.val else s)

/-! ### Consumers (R231-R235) -/

/-- The block of a consumer is unpowered (R235). -/
def State.conOff (s : State) (x : Nat) : Bool :=
  if 8 ≤ x ∧ x < 40 then decide (s.power.dma ≠ .on)
  else if 40 ≤ x ∧ x < 43 then decide (s.power.hkc ≠ .on)
  else if x = 43 ∨ x = 44 then decide (s.power.recorder ≠ .on)
  else false

/-- GPIO_OUT of a pin that is an input (R241). -/
def State.deadPin (s : State) (x : Nat) : Bool := decide (48 ≤ x) && decide (x < 64) && !(s.evt.gpio.getD (x - 48) {}).out

/-- A consumer that clears its busy bit at once (R231). -/
def State.neverBusy (s : State) (x : Nat) : Bool :=
  x = 43 || x = 46 || decide (64 ≤ x) || (decide (48 ≤ x) && decide (x < 64) && decide ((s.con x).action ≠ 0))

/-- PLAN_GO (R147, R231): the first occurrence while the slot is ARMED; it places a solved epoch. -/
def State.planGo (slot : Nat) (s : State) : State :=
  match (s.fab.slots.getD slot {}).ep with
  | none => s
  | some e =>
    if e.st = .armed ∧ e.event = true ∧ e.goAt.isNone = true then
      let s := s.modEp e.ext (fun e => { e with goAt := some s.tai })
      if e.stage = .solved then s.placeEvent e.ext else s
    else s

/-- The instances that a mark of a channel goes to: those of its owner, every one for firmware (R231). -/
def State.markInsts (s : State) (ch : Nat) : List Nat :=
  let o := (s.chan ch).owner
  if 4 ≤ o then allInsts else s.instsOf o

/-- REC_MARK's marker carries the channel; its VALUE is unstated: a free value (R231, R347, log 7). -/
def State.markBy (ch : Nat) (s : State) : State :=
  ({ s with freeIx := s.freeIx + 1 } : State).logMark (s.markInsts ch) (Config.freeWord s.freeIx) (0x80 + ch)

/-- GROUP_ENABLEg: without effect within a coincidence window of the group's GROUP_DISABLEg (R232, R234). -/
def State.groupEnable (g : Nat) (s : State) : State :=
  let on (s : State) : State := { s with evt := { s.evt with group := setAt true g s.evt.group } }
  match s.evt.groupOff.getD g none with
  | none => on s
  | some x =>
    if s.now - x ≤ 5 then s
    else if s.now - x ≤ 8 then
      let q := s.either
      if q.1 then q.2 else on q.2
    else on s

/-- GROUP_DISABLEg (R231, R234). -/
def State.groupDisable (g : Nat) (s : State) : State :=
  { s with evt := { s.evt with group := setAt false g s.evt.group, groupOff := setAt (some s.now) g s.evt.groupOff } }

/-- What a consumer does on an arrival, delivered through channel `ch` (R231). -/
def State.conAct (x ch origin : Nat) (s : State) : State :=
  let s := s.modCon x (fun c => { c with origin := some origin, rel := false })
  if x < 8 then s.planGo x
  else if x < 40 then s.dmaArrive (x - 8) origin
  else if x < 43 then s.hkcArrive (x - 40) origin
  else if x = 43 then s.freeze
  else if x = 44 then s.markBy ch
  else if x = 45 then s.failTrigger 3 false (some origin)
  else if x = 46 then { s with time := { s.time with ppsGate := true } }
  else if x < 48 then s
  else if x < 64 then s.modPin (x - 48) (Gpio.act (s.con x).action (s.con x).width s.now)
  else if x < 80 then s.groupEnable (x - 64)
  else s.groupDisable (x - 80)

/-- The channel that select `j` of a consumer names. -/
def Con.chanAt (j : Nat) (c : Con) : Nat := c.sel.getD j 0 % 128

/-- An arrival that is dropped (R235, R241). -/
def Con.dropOne (c : Con) : Con := { c with drop := sat8 c.drop }

/-- An arrival at a busy consumer (R232). -/
def Con.hold (j origin : Nat) (c : Con) : Con :=
  if c.f2 then { c.dropOne with ovr := true }
  else if c.pend = false then { c with pend := true, pmask := (List.range 4).map (fun i => decide (i = j)), porigin := origin }
  else { c with pmask := setAt true j c.pmask, merge := sat8 c.merge }

/-- consumer_arrive of R232. -/
def State.conArrive (x j origin : Nat) (s : State) : State :=
  if s.conOff x || s.deadPin x then s.modCon x Con.dropOne
  else if (s.con x).busy then s.modCon x (Con.hold j origin)
  else
    let s := s.modCon x (fun c => { c with busy := true })
    let s := s.conAct x ((s.con x).chanAt j) origin
    if s.neverBusy x then s.modCon x (fun c => { c with busy := false }) else s

/-- Further occurrences on their way to a consumer, folded into one arrival: removed and counted (R232). -/
def State.foldIn (x : Nat) : Nat → State → State
  | 0, s => s
  | k + 1, s =>
    if s.evt.conIn.any (fun q => decide (q.x = x)) then
      let s : State := { s with evt := { s.evt with conIn := removeFirst (fun q => decide (q.x = x)) s.evt.conIn } }
      State.foldIn x k (s.modCon x (fun c => { c with merge := sat8 c.merge }))
    else s

/-- An occurrence now at a consumer belongs to its latest arrival: within 5 ns of that one's first occurrence; either above
that, up to 8 ns (R232). -/
def State.sameArrival (x : Nat) (s : State) : Bool × State :=
  match (s.con x).arrAt with
  | none => (false, s)
  | some t =>
    if s.now < t ∨ t + 8 < s.now then (false, s)
    else if s.now ≤ t + 5 then (true, s) else s.either

/-- An occurrence, and those that reach the consumer with it, are folded into the latest arrival or make a new one (R232). -/
def State.newArrival (x j origin merged : Nat) (s : State) : State :=
  let q := s.sameArrival x
  if q.1 then (q.2.foldIn x merged).modCon x (fun c => { c with merge := sat8 c.merge })
  else ((q.2.modCon x (fun c => { c with arrAt := some q.2.now })).foldIn x merged).conArrive x j origin

/-- An occurrence forwarded to a consumer arrives (R231, R232). -/
def consumerArrive (x j origin merged : Nat) (s : State) : State :=
  let o : ConOcc := ⟨x, j, origin⟩
  if s.evt.conIn.contains o then
    let s : State := { s with evt := { s.evt with conIn := removeFirst (fun q => decide (q = o)) s.evt.conIn } }
    if x < 8 then s.planGo x else if x = 47 then s else s.newArrival x j origin merged
  else s

/-- CONSUMER_ARRIVE (R232). -/
def execConsumerArrive (x : Fin 96) (sel : Fin 4) (origin : Fin 128) (merged : Nat) (s : State) : Host.Outcome State Fault Refusal :=
  .next (consumerArrive x.val sel.val origin.val merged s)

/-! ### Channels (R228, R234) -/

/-- The changes of a group on their way to the group consumers arrive (R234). -/
def State.groupNow (g : Nat) (s : State) : State :=
  (s.evt.conIn.filter (fun q => decide (q.x = 64 + g ∨ q.x = 80 + g))).foldl (fun s q => consumerArrive q.x q.sel q.origin 0 s) s

/-- An occurrence leaves the way to its channel. -/
def State.takeOcc (o : ChanOcc) (s : State) : State :=
  { s with evt := { s.evt with chanIn := removeFirst (fun q => decide (q = o)) s.evt.chanIn } }

/-- The occurrences on their way to a channel that a group's consumers select: each may yet change the group. -/
def State.groupComing (g : Nat) (s : State) : List ChanOcc :=
  s.evt.chanIn.filter (fun o => !((s.con (64 + g)).selects o.ch).isEmpty || !((s.con (80 + g)).selects o.ch).isEmpty)

/-- The changes of a group that are on their way come before an occurrence of its channels: those at the group consumers, and
before them those still on their way to the channel that brings them (R234, DEDUCED, log 66). -/
def State.groupFirst (g : Nat) (s : State) : State :=
  ((s.groupComing g).foldl (fun s o => ((s.takeOcc o).groupNow (o.ch / 8)).accept o.ch o.origin) s).groupNow g

/-- An occurrence on its way reaches its channel's gate. -/
def channelAccept (ch : Nat) (origin : Option Nat) (s : State) : State :=
  let o : ChanOcc := ⟨ch, origin⟩
  if s.evt.chanIn.contains o then ((s.takeOcc o).groupFirst (ch / 8)).accept ch origin else s

/-- CHANNEL_ACCEPT (R228). -/
def execChannelAccept (ch : Fin 128) (origin : Option (Fin 128)) (s : State) : Host.Outcome State Fault Refusal :=
  .next (channelAccept ch.val (origin.map Fin.val) s)

/-! ### The end of a consumer's busy time -/

/-- What ends a consumer's busy time has come (R231): for HKC_START0 nothing but HKC_DONE0 (R270). -/
def State.released (s : State) (x : Nat) : Bool :=
  if x < 8 then false
  else if x < 40 then decide ((s.dch (x - 8)).st ≠ .running)
  else if x < 43 then (s.con x).rel || (decide (40 < x) && decide ((s.core (x - 40)).st ≠ .running) && !(s.core (x - 40)).en)
  else if x = 45 then !s.net.failing
  else if 48 ≤ x ∧ x < 64 then (s.evt.gpio.getD (x - 48) {}).pulseEnd.isNone
  else true

/-- A consumer stops being busy: it acts on what is pending and stays busy, or is free (R232). -/
def consumerIdle (x : Nat) (s : State) : State :=
  let c := s.con x
  if c.busy = false ∨ s.released x = false then s
  else if c.pend then
    let j := (those 4 (fun i => c.pmask.getD i false)).headD 0
    (s.modCon x (fun c => { c with pend := false, pmask := [false, false, false, false] })).conAct x (c.chanAt j) c.porigin
  else s.modCon x (fun c => { c with busy := false })

/-- CONSUMER_IDLE (R232). -/
def execConsumerIdle (x : Fin 96) (s : State) : Host.Outcome State Fault Refusal := .next (consumerIdle x.val s)

/-! ### Pins (R226, R227) -/

/-- The pin's edge kind selects a change to this level (R226, R242). -/
def Gpio.selects (level : Bool) (g : Gpio) : Bool := g.edge = 2 || (g.edge = 0 && level) || (g.edge = 1 && !level)

/-- An edge to a level is of the kind that EDGE of a capture unit selects; 3 is reserved and selects none (R176, R191). -/
def Cap.edgeIs (level : Bool) (c : Cap) : Bool := c.edge = 2 || (c.edge = 0 && level) || (c.edge = 1 && !level)

/-- The capture units that select a pin and its edge, with the stamp of the edge's tick (R176). -/
def State.pinCapture (n : Nat) (level : Bool) (s : State) : State :=
  let us := (List.range 8).filter (fun i => s.capSrc i = n + 2 && Cap.edgeIs level (s.time.caps.getD i {}))
  { s with evt := { s.evt with pinIn := s.evt.pinIn ++ us.map (fun i => (i, s.stamp)) } }

/-- The level of an input pin has held for 20 ns: GPIO_INn where it differs from the level held before and the pin's kind
selects it (R226). -/
def State.pinHeld (n : Nat) (level : Bool) (s : State) : State :=
  let g := s.evt.gpio.getD n {}
  if g.lvl = level then s
  else
    let s := s.modPin n (fun g => { g with lvl := level })
    if g.selects level then s.raise (0xD0 + n) none else s

/-- An edge on a pin that held its new level for some time: an input is ignored before EVTR is applied; its level counts from
20 ns on, never below 10 ns, either between (R226, R227). -/
def gpioInEdge (n : Nat) (level : Bool) (held : Nat) (s : State) : State :=
  let g := s.evt.gpio.getD n {}
  if g.out = true ∨ g.pad = level then s
  else
    let s := s.modPin n (fun g => { g with pad := level })
    if s.evt.applied = false then s
    else
      let s := s.pinCapture n level
      if held < 10 then s
      else if 20 ≤ held then s.pinHeld n level
      else
        let q := s.either
        if q.1 then q.2.pinHeld n level else q.2

/-- GPIO_IN_EDGE (R226). -/
def execGpioInEdge (pin : Fin 16) (level : Bool) (heldNs : Nat) (s : State) : Host.Outcome State Fault Refusal :=
  .next (gpioInEdge pin.val level heldNs s)

/-- A pulse ends and the pin returns to its resting level (R227). -/
def gpioPulseEnd (n : Nat) (s0 : State) : State :=
  match (s0.evt.gpio.getD n {}).pulseEnd with
  | none => s0
  | some x =>
    match reach 4000000000 x s0 with
    | none => s0
    | some s => s.modPin n (fun g => { g with lvl := g.rest, pulseEnd := none })

/-- GPIO_PULSE_END (R227). -/
def execGpioPulseEnd (pin : Fin 16) (s : State) : Host.Outcome State Fault Refusal := .next (gpioPulseEnd pin.val s)

end Sys2Proof.Machine
end

