-- ==== Sys2Proof/Machine/DmaFam.lean ====
section
/-! DEFINITION. The commands of the DMA engine (R254-R262). A row acts when the instruction at the channel's program counter is
its own. -/

namespace Sys2Proof.Machine

/-! ### Instruction words (R255) -/

/-- Word `i` of an instruction. -/
def wd (w : List Nat) (i : Nat) : Nat := w.getD i 0

/-- OP -/
def opOf (w : List Nat) : Nat := bits (wd w 0) 31 28
/-- Source width in bytes -/
def swOf (w : List Nat) : Nat := 2 ^ bits (wd w 0) 23 21
/-- Destination width in bytes -/
def dwOf (w : List Nat) : Nat := 2 ^ bits (wd w 0) 20 18
/-- SINC -/
def sinc (w : List Nat) : Bool := bit (wd w 0) 17
/-- DINC -/
def dinc (w : List Nat) : Bool := bit (wd w 0) 16
/-- DREQ -/
def dreqOf (w : List Nat) : Nat := bits (wd w 0) 15 12
/-- Flag A -/
def flagA (w : List Nat) : Bool := bit (wd w 0) 11
/-- Flag B -/
def flagB (w : List Nat) : Bool := bit (wd w 0) 10
/-- The address in words `i` and `i + 1` -/
def addrAt (w : List Nat) (i : Nat) : Nat := wd w i + wd w (i + 1) * 2 ^ 32
/-- COUNT, the number of entries, the iterations, or the timeout -/
def countOf (w : List Nat) : Nat := wd w 5

/-- Words `a` to `b` are zero. -/
def zeros (w : List Nat) (a b : Nat) : Bool := (List.range (b + 1)).all (fun i => decide (i < a) || decide (wd w i = 0))

/-- The fields that only MOVE, FILL, COMPARE and GATHER use are zero (R255). -/
def noData (w : List Nat) (dreq : Bool) : Bool := decide (bits (wd w 0) 27 16 = 0) && (dreq || decide (dreqOf w = 0))

/-- The high words of an instruction's addresses fit 40 bits. -/
def highOk (w : List Nat) (i : Nat) : Bool := decide (wd w i < 256)

/-- No reserved bit set and no misuse that the words alone show (R255). -/
def insOk (w : List Nat) : Bool :=
  let data := decide (bits (wd w 0) 23 21 ≤ 5) && decide (bits (wd w 0) 20 18 ≤ 5)
  let flags (a b : Bool) : Bool := (a || !flagA w) && (b || !flagB w)
  let multiple (k : Nat) : Bool := decide (countOf w % k = 0)
  decide (bits (wd w 0) 9 0 = 0) && decide (dreqOf w ≤ 7) && decide (wd w 7 = 0) &&
    (match opOf w with
     | 1 => data && flags false false && highOk w 2 && highOk w 4 && decide (wd w 6 = 0) && multiple (swOf w) && multiple (dwOf w)
     | 2 => data && flags false false && zeros w 1 2 && highOk w 4 && multiple (dwOf w)
     | 3 => data && highOk w 2 && multiple (swOf w) &&
         (if flagA w then highOk w 4 && decide (wd w 6 = 0) && multiple (dwOf w) else zeros w 3 4)
     | 4 => data && flags true false && highOk w 2 && highOk w 4 && decide (wd w 6 = 0)
     | 5 => noData w false && flags false false && zeros w 1 4
     | 7 => noData w true && flags true false && zeros w 1 4 && decide (wd w 6 = 0) && (!flagA w || decide (dreqOf w ≠ 0))
     | 15 => noData w false && flags true false && zeros w 1 6
     | 0 | 6 | 8 => noData w false && flags false false && zeros w 1 6
     | _ => false)

/-- An opcode that R255 defines. -/
def opKnown (op : Nat) : Bool := decide (op ≤ 8) || decide (op = 15)

/-! ### Fetch and end (R254-R256, R260) -/

/-- The eight words of 32 bytes. -/
def wordsOf (bs : List Byte) : List Nat := (List.range 8).map (fun i => wordOf bs (4 * i))

/-- The instruction at an offset: response, words, state; a fetch carries FQOS; the simple pair lies in the channel's buffer
(R255, R256, R260). -/
def State.fetchAt (n pc : Nat) (s : State) : Nat × List Nat × State :=
  let c := s.dch n
  match c.buf with
  | some p => (rspOk, (p.drop (pc / 4)).take 8, s)
  | none =>
    let a := (c.base + pc) % 2 ^ 40
    let q := (s.access 5 c.fqos a).readPiece 5 c.sec a 32
    (q.1, wordsOf q.2.1, q.2.2)

/-- The channel may go on: RUNNING, its engine and the braid powered, M5's port open (R254, R253). -/
def State.dmaMay (s : State) (n : Nat) : Bool := decide ((s.dch n).st = .running) && decide (s.power.dma = .on) && s.braidOpen 5

/-- The channel ends in ILLEGAL (R255). -/
def State.illegal (n : Nat) (s : State) : State := s.modDch n (DmaCh.finish .illegal)

/-- An instruction is complete: the next one is current. -/
def DmaCh.next (c : DmaCh) : DmaCh :=
  { c with pc := (c.pc + 32) % 2 ^ 32, ins := none, moved := 0, hold := [], ent := none, entBase := 0, ents := 0 }

/-- Run the instruction at the program counter where its OP is `op`; an undefined opcode ends the channel whichever row asks
(R255). -/
def State.dmaRow (n op : Nat) (act : List Nat → State → State) (s0 : State) : State :=
  let c := s0.dch n
  if s0.dmaMay n = false ∨ c.ins.isSome = true then s0
  else
    let q := s0.fetchAt n c.pc
    if q.1 ≠ rspOk then q.2.2.dmaStop n ((c.base + c.pc) % 2 ^ 40) false q.1 [n]
    else if opKnown (opOf q.2.1) = false then q.2.2.illegal n
    else if opOf q.2.1 ≠ op then s0
    else if insOk q.2.1 = false then q.2.2.illegal n
    else act q.2.1 q.2.2

/-! ### Data movement (R256-R259) -/

/-- An address with the strides of the open loops, modulo 2⁴⁰ (R256). -/
def strided (c : DmaCh) (a : Nat) : Nat := (((a : Int) + (c.loops.map (fun (l : LoopLvl) => (l.iter : Int) * l.stride)).foldl (· + ·) 0) % 2 ^ 40).toNat

/-- An address as the loops leave it: a fixed one is never strided (R256). -/
def effective (c : DmaCh) (inc : Bool) (a : Nat) : Nat := if inc then strided c a else a

/-- The accesses of `len` stream bytes from stream position `done` on one side: a burst where its address increments, single
accesses of the side's width where it is fixed (R247, R257). -/
def accesses (a width : Nat) (inc : Bool) (done len : Nat) : List (Nat × Nat) :=
  if inc then piecesOf ((a + done) % 2 ^ 40) len else List.replicate (len / width) (a, width)

/-- A transfer under way: the state, and the access that failed (address, write, response). -/
structure Mv where
  s : State
  bad : Option (Nat × Bool × Nat) := none
  deriving DecidableEq, Repr

/-- No further access: one failed, or firmware has cleared EN (R261, R262). -/
def Mv.over (n : Nat) (q : Mv) : Bool := q.bad.isSome || decide ((q.s.dch n).cut = some 0)

/-- The QoS of the instruction's data accesses (R256). -/
def DmaCh.dataQos (c : DmaCh) : Nat := bits (wd (c.ins.getD []) 0) 27 24

/-- Bytes of an access that go before EN is cleared in flight: the beat of 32 B in progress finishes (R261). -/
def DmaCh.cutLen (c : DmaCh) (x : Nat × Nat) : Nat := match c.cut with | none => x.2 | some k => min x.2 (32 * k - x.1 % 32)

/-- The beats of an access are done. -/
def DmaCh.spend (x : Nat × Nat) (c : DmaCh) : DmaCh := { c with cut := c.cut.map (fun k => k - (x.1 % 32 + x.2 + 31) / 32) }

/-- Source bytes enter the holding register (R257). -/
def Mv.read (n : Nat) (q : Mv) (x : Nat × Nat) : Mv :=
  if q.over n then q
  else
    let c := q.s.dch n
    let r := (q.s.access 5 c.dataQos x.1).readPiece 5 c.sec x.1 (c.cutLen x)
    if r.1 ≠ rspOk then { s := r.2.2, bad := some (x.1, false, r.1) }
    else { s := r.2.2.modDch n (fun c => ({ c with hold := c.hold ++ r.2.1 } : DmaCh).spend x) }

/-- Bytes written at the destination: of a GATHER, REMAIN counts those of the current entry (R261). -/
def DmaCh.wrote (k : Nat) (c : DmaCh) : DmaCh :=
  let m := c.moved + k
  { c with hold := c.hold.drop k, moved := m,
           remain := match c.ent with | none => c.remain - k | some e => min e.2 (c.entBase + e.2 - m) }

/-- Bytes leave the holding register for the destination (R257, R261). -/
def Mv.write (n : Nat) (q : Mv) (x : Nat × Nat) : Mv :=
  if q.over n then q
  else
    let c := q.s.dch n
    let len := c.cutLen x
    let r := (q.s.access 5 c.dataQos x.1).writeBeats 5 c.sec x.1 (c.hold.take len)
    if r.1 ≠ rspOk then { s := r.2, bad := some (x.1, true, r.1) }
    else { s := r.2.modDch n (fun c => (c.wrote len).spend x) }

/-- Accesses to a fixed destination while a whole one is in the holding register, up to `top` stream bytes written (R257). -/
def Mv.drain (n a width top : Nat) : Nat → Mv → Mv
  | 0, q => q
  | k + 1, q =>
    let c := q.s.dch n
    if q.over n ∨ c.hold.length < width ∨ top < c.moved + width then q
    else Mv.drain n a width top k (q.write n (a, width))

/-- Bytes leave for the destination, up to `top` stream bytes written: whole accesses of its width, as one burst where its
address increments, its first byte being stream byte `base` (R247, R257). -/
def Mv.put (n a width : Nat) (inc : Bool) (base top : Nat) (q : Mv) : Mv :=
  let c := q.s.dch n
  if inc then
    (piecesOf ((a + (c.moved - base)) % 2 ^ 40) (min c.hold.length (top - c.moved) / width * width)).foldl (Mv.write n) q
  else q.drain n a width top 128

/-- EN is cleared where the row's beats are spent (R261). -/
def State.cutEnd (n : Nat) (s : State) : State := if (s.dch n).cut = some 0 then s.dmaDisable n else s

/-- The end of a block: a failed access stops the engine, the last block completes the instruction, EN cleared in flight aborts
the channel (R257, R261, R262). -/
def Mv.close (n : Nat) (done : State → Bool) (q : Mv) : State :=
  match q.bad with
  | some b => q.s.dmaStop n b.1 b.2.1 b.2.2 [n]
  | none => (if done q.s then q.s.modDch n DmaCh.next else q.s).cutEnd n

/-- One block of a MOVE: an incrementing source comes as one burst, a fixed one access by access; what is complete of the
destination's accesses follows each (R257). -/
def moveBlock (n : Nat) (w : List Nat) (s : State) : State :=
  let c := s.dch n
  let src := effective c (sinc w) (addrAt w 1)
  let dst := effective c (dinc w) (addrAt w 3)
  let len := min 64 (countOf w - c.moved)
  let top := c.moved + len
  let out (q : Mv) : Mv := q.put n dst (dwOf w) (dinc w) 0 top
  let xs := accesses src (swOf w) (sinc w) c.moved len
  (xs.foldl (fun q x => out (q.read n x)) ({ s := s } : Mv)).close n (fun s => decide (countOf w ≤ (s.dch n).moved))

/-- Bytes of PATTERN for `len` bytes of a side from stream position `done`: byte x takes byte (x − address) mod 4 (R258). -/
def patternBytes (pat width : Nat) (inc : Bool) (done len : Nat) : List Byte :=
  (List.range len).map (fun i => BitVec.ofNat 8 (pat / 256 ^ ((if inc then done + i else (done + i) % width) % 4)))

/-- One block of a FILL (R258). -/
def fillBlock (n : Nat) (w : List Nat) (s : State) : State :=
  let c := s.dch n
  let dst := effective c (dinc w) (addrAt w 3)
  let len := min 64 (countOf w - c.moved)
  let top := c.moved + len
  let s := s.modDch n (fun c => { c with hold := patternBytes (wd w 6) (dwOf w) (dinc w) c.moved len })
  (Mv.put n dst (dwOf w) (dinc w) 0 top { s := s }).close n (fun s => decide (countOf w ≤ (s.dch n).moved))

/-- Bytes that differ, with their stream positions. -/
def differing (done : Nat) (a b : List Byte) : List Nat :=
  ((a.zip b).zipIdx done).filterMap (fun (q : (Byte × Byte) × Nat) => if q.1.1 = q.1.2 then none else some q.2)

/-- What a COMPARE records of a block (R258, R261). -/
def DmaCh.compared (src width len : Nat) (inc : Bool) (diffs : List Nat) (c : DmaCh) : DmaCh :=
  let at_ (i : Nat) : Nat := if inc then (src + i) % 2 ^ 40 else src + i % width
  { c with hold := [], moved := c.moved + len, remain := c.remain - len, mismCnt := satAdd 0xFFFFFFFF c.mismCnt diffs.length,
           mismAddr := match diffs with | [] => c.mismAddr | i :: _ => if c.mismCnt = 0 then at_ i else c.mismAddr }

/-- One block of a COMPARE (R258). -/
def compareBlock (n : Nat) (w : List Nat) (s : State) : State :=
  let c := s.dch n
  let src := effective c (sinc w) (addrAt w 1)
  let dst := effective c (dinc w) (addrAt w 3)
  let done := c.moved
  let len := min 64 (countOf w - done)
  let q := (accesses src (swOf w) (sinc w) done len).foldl (Mv.read n) { s := s }
  let a := (q.s.dch n).hold
  let q : Mv := { q with s := q.s.modDch n (fun c => { c with hold := [] }) }
  let q := if flagA w then (accesses dst (dwOf w) (dinc w) done len).foldl (Mv.read n) q else q
  let b := if flagA w then (q.s.dch n).hold else patternBytes (wd w 6) (swOf w) (sinc w) done len
  if q.bad.isSome ∨ a.length < len ∨ b.length < len then q.close n (fun _ => false)
  else
    let diffs := differing done a b
    let s := q.s.modDch n (DmaCh.compared src (swOf w) len (sinc w) diffs)
    if flagB w = true ∧ diffs ≠ [] then s.modDch n (DmaCh.finish .mismatch)
    else ({ s := s } : Mv).close n (fun s => decide (countOf w ≤ (s.dch n).moved))

/-- The next list entry is loaded where none is current: its 16 bytes, checked (R255, R261). True where the entry is good. -/
def loadEntry (n : Nat) (w : List Nat) (s : State) : Mv × Bool :=
  let c := s.dch n
  match c.ent with
  | some _ => ({ s := s }, true)
  | none =>
    let a := (strided c (addrAt w 1) + 16 * c.ents) % 2 ^ 40
    let keep := c.hold
    let q := (piecesOf a 16).foldl (Mv.read n) { s := s.modDch n (fun c => { c with hold := [] }) }
    let bs := (q.s.dch n).hold
    let lo := leNat (bs.take 8)
    let len := wordOf bs 8
    let width := if flagA w then dwOf w else swOf w
    let ok := decide (lo < 2 ^ 40) && decide (wordOf bs 12 = 0) && decide (len % width = 0) && decide (lo % width = 0)
    if q.over n = true ∧ bs.length < 16 then ({ q with s := q.s.modDch n (fun c => { c with hold := keep }) }, true)
    else ({ q with s := q.s.modDch n (fun c => { c with hold := keep, ent := some (lo, len), remain := len, gidx := c.ents }) }, ok)

/-- The entry is done; it stays the current one in GIDX and REMAIN until the next is loaded (R255, R261). -/
def DmaCh.nextEntry (len : Nat) (c : DmaCh) : DmaCh := { c with ents := c.ents + 1, ent := none, entBase := c.entBase + len }

/-- One block of a GATHER entry (R255, R257): with A clear the entry is the source, with A set the destination. -/
def entryBlock (n : Nat) (w : List Nat) (addr len : Nat) (s : State) : Mv :=
  let c := s.dch n
  let flat := strided c (addrAt w 3)
  if flagA w = false then
    let done := c.moved + c.hold.length - c.entBase
    let k := min 64 (len - done)
    let q := (accesses addr (swOf w) (sinc w) done k).foldl (Mv.read n) { s := s }
    q.put n flat (dwOf w) true 0 (c.entBase + len)
  else
    let done := c.moved - c.entBase
    let k := min 64 (len - done)
    let short := k - c.hold.length
    let reads := (short + swOf w - 1) / swOf w
    let q := (piecesOf ((flat + c.moved + c.hold.length) % 2 ^ 40) (reads * swOf w)).foldl (Mv.read n) { s := s }
    q.put n addr (dwOf w) (dinc w) c.entBase (c.moved + k)

/-- An entry is done when its source has been read, or its destination written (R255). -/
def DmaCh.entryDone (w : List Nat) (len : Nat) (c : DmaCh) : Bool :=
  decide (c.entBase + len ≤ (if flagA w then c.moved else c.moved + c.hold.length))

/-- One block of a GATHER (R255, R257). -/
def gatherBlock (n : Nat) (w : List Nat) (s : State) : State :=
  let all (s : State) : Bool := decide (countOf w ≤ (s.dch n).ents)
  let e := loadEntry n w s
  if e.1.bad.isSome then e.1.close n all
  else if e.2 = false then e.1.s.illegal n
  else match (e.1.s.dch n).ent with
    | none => e.1.s.cutEnd n
    | some q =>
      let r := entryBlock n w q.1 q.2 e.1.s
      ({ r with s := if (r.s.dch n).entryDone w q.2 then r.s.modDch n (DmaCh.nextEntry q.2) else r.s } : Mv).close n all

/-- One block of a data instruction. -/
def dataBlock (n : Nat) (w : List Nat) (s : State) : State :=
  match opOf w with
  | 1 => moveBlock n w s
  | 2 => fillBlock n w s
  | 3 => compareBlock n w s
  | _ => gatherBlock n w s

/-- Blocks until the instruction is complete or the channel has ended. -/
def allBlocks (n : Nat) (w : List Nat) : Nat → State → State
  | 0, s => s
  | k + 1, s => if (s.dch n).ins.isNone ∨ (s.dch n).st ≠ .running then s else allBlocks n w k (dataBlock n w s)

/-- The addresses of a data instruction as the loops leave them are aligned to their sides' widths (R255, R256). -/
def aligned (c : DmaCh) (w : List Nat) : Bool :=
  let src := decide (effective c (sinc w) (addrAt w 1) % swOf w = 0)
  let dst (inc : Bool) : Bool := decide (effective c inc (addrAt w 3) % dwOf w = 0)
  match opOf w with
  | 1 => src && dst (dinc w)
  | 2 => dst (dinc w)
  | 3 => src && (!flagA w || dst (dinc w))
  | _ => decide (strided c (addrAt w 3) % (if flagA w then swOf w else dwOf w) = 0)

/-- No row is at work on the channel. -/
def State.rowDone (n : Nat) (s : State) : State := s.modDch n (fun c => { c with cut := none })

/-- A data instruction begins: a paced one waits for its line before each block, another runs to its end, or until firmware
clears EN after `cut` beats (R257, R259, R261). -/
def State.dataIns (n : Nat) (cut : Option Nat) (w : List Nat) (s : State) : State :=
  if aligned (s.dch n) w = false then s.illegal n
  else if countOf w = 0 then s.modDch n (fun c => { c.next with remain := 0 })
  else
    let gather := decide (opOf w = 4)
    let s := s.modDch n (fun c => { c with ins := some w, moved := 0, hold := [], ent := none, entBase := 0, ents := 0,
                                           remain := if gather then 0 else countOf w, gidx := if gather then 0 else c.gidx })
    if dreqOf w = 0 then (allBlocks n w (2 ^ 64) (s.modDch n (fun c => { c with cut := cut }))).rowDone n else s

/-! ### The rows -/

/-- DMA_START (R254, R260): with no origin a write of START, nothing while the engine's domain is off (R365); with one an arrival at
DMA_STARTn through its first select, held pending while the channel is RUNNING and resuming it in WAITING (R231, R232, R258, log
160). -/
def execDmaStart (n : Fin 32) (origin : Option (Fin 128)) (s : State) : Host.Outcome State Fault Refusal :=
  .next (match origin with
    | none => if s.power.dma = .on then s.dmaStart n.val none else s
    | some o => s.newArrival (8 + n.val) 0 o.val 0)

/-- DMA_DISABLE (R261). -/
def execDmaDisable (n : Fin 32) (s : State) : Host.Outcome State Fault Refusal :=
  .next (if s.power.dma = .on then s.dmaDisable n.val else s)

/-- DMA_NOP (R255). -/
def execDmaNop (n : Fin 32) (s : State) : Host.Outcome State Fault Refusal := .next (s.dmaRow n.val 0 (fun _ s => s.modDch n.val DmaCh.next))

/-- DMA_MOVE (R255, R257). -/
def execDmaMove (n : Fin 32) (cut : Option Nat) (s : State) : Host.Outcome State Fault Refusal :=
  .next (s.dmaRow n.val 1 (fun w s => s.dataIns n.val cut w))

/-- DMA_FILL (R258). -/
def execDmaFill (n : Fin 32) (cut : Option Nat) (s : State) : Host.Outcome State Fault Refusal :=
  .next (s.dmaRow n.val 2 (fun w s => s.dataIns n.val cut w))

/-- DMA_COMPARE (R258). -/
def execDmaCompare (n : Fin 32) (cut : Option Nat) (s : State) : Host.Outcome State Fault Refusal :=
  .next (s.dmaRow n.val 3 (fun w s => s.dataIns n.val cut w))

/-- DMA_GATHER (R255). -/
def execDmaGather (n : Fin 32) (cut : Option Nat) (s : State) : Host.Outcome State Fault Refusal :=
  .next (s.dmaRow n.val 4 (fun w s => s.dataIns n.val cut w))

/-- The offset after the ENDLOOP that matches, from an offset on, or the response and offset of a fetch that fails; none where the
program holds no such ENDLOOP; with the state that the fetches leave (R256). -/
def State.afterLoop (n : Nat) : Nat → Nat → Nat → State → Option (Nat × Nat) × State
  | 0, _, _, s => (none, s)
  | fuel + 1, pc, depth, s =>
    let q := s.fetchAt n pc
    let s := q.2.2
    if q.1 ≠ rspOk then (some (q.1, pc), s)
    else match opOf q.2.1 with
      | 5 => State.afterLoop n fuel (pc + 32) (depth + 1) s
      | 6 => if depth = 0 then (some (rspOk, pc + 32), s) else State.afterLoop n fuel (pc + 32) (depth - 1) s
      | _ => State.afterLoop n fuel (pc + 32) depth s

/-- LOOP: a level opens, or a count of 0 skips to the matching ENDLOOP (R256). -/
def dmaLoop (n : Nat) (w : List Nat) (s : State) : State :=
  let c := s.dch n
  if 4 ≤ c.loops.length then s.illegal n
  else if countOf w = 0 then
    let r := State.afterLoop n (2 ^ 27) (c.pc + 32) 0 s
    match r.1 with
    | none => r.2.illegal n
    | some q =>
      if q.1 = rspOk then r.2.modDch n (fun c => { c with pc := q.2 % 2 ^ 32 })
      else r.2.dmaStop n ((c.base + q.2) % 2 ^ 40) false q.1 [n]
  else
    let l : LoopLvl := { at_ := c.pc, left := if countOf w = 0xFFFFFFFF then none else some (countOf w), stride := untwos 32 (wd w 6) }
    s.modDch n (fun c => { c.next with loops := l :: c.loops })

/-- DMA_LOOP (R256). -/
def execDmaLoop (n : Fin 32) (s : State) : Host.Outcome State Fault Refusal := .next (s.dmaRow n.val 5 (fun w s => dmaLoop n.val w s))

/-- ENDLOOP: the next iteration, or the level closes (R256). -/
def dmaEndloop (n : Nat) (s : State) : State :=
  match (s.dch n).loops with
  | [] => s.illegal n
  | l :: ls =>
    let again (left : Option Nat) : State :=
      s.modDch n (fun c => { c.next with pc := (l.at_ + 32) % 2 ^ 32, loops := { l with left := left, iter := l.iter + 1 } :: ls })
    match l.left with
    | none => again none
    | some k => if k ≤ 1 then s.modDch n (fun c => { c.next with loops := ls }) else again (some (k - 1))

/-- DMA_ENDLOOP (R256). -/
def execDmaEndloop (n : Fin 32) (s : State) : Host.Outcome State Fault Refusal := .next (s.dmaRow n.val 6 (fun _ s => dmaEndloop n.val s))

/-- WAIT: with A clear the channel is WAITING, with A set it stays RUNNING until its line is asserted (R258). -/
def dmaWait (n : Nat) (w : List Nat) (s : State) : State :=
  s.modDch n (fun c => { c with ins := some w, st := if flagA w then .running else .waiting })

/-- DMA_WAIT (R258). -/
def execDmaWait (n : Fin 32) (s : State) : Host.Outcome State Fault Refusal := .next (s.dmaRow n.val 7 (fun w s => dmaWait n.val w s))

/-- The WAIT under way on a channel. -/
def DmaCh.waitIns (c : DmaCh) : Option (List Nat) :=
  match c.ins with | none => none | some w => if opOf w = 7 then some w else none

/-- A WAIT ends: by an arrival while WAITING, by the request line where A is set (R258, R259). -/
def dmaWaitResume (n : Nat) (pins : List Byte) (s : State) : State :=
  match (s.dch n).waitIns with
  | none => s
  | some w =>
    if s.power.dma ≠ .on then s
    else if (s.dch n).st = .waiting then (s.modDch n DmaCh.resume).dmaBusy n
    else
      let s := s.periPins (dreqOf w - 1) pins
      if s.lineOn (dreqOf w - 1) then s.modDch n DmaCh.resume else s

/-- DMA_WAIT_RESUME (R258): `pins` is what a UART or I²C line's pins have done. -/
def execDmaWaitResume (n : Fin 32) (pins : List (BitVec 8)) (s : State) : Host.Outcome State Fault Refusal := .next (dmaWaitResume n.val pins s)

/-- A WAIT's timeout expires; a timeout of 0 is none (R255, R258). -/
def dmaWaitTimeout (n : Nat) (s : State) : State :=
  match (s.dch n).waitIns with
  | none => s
  | some w => if countOf w = 0 ∨ s.power.dma ≠ .on then s else s.modDch n (DmaCh.finish .timeout)

/-- DMA_WAIT_TIMEOUT (R258). -/
def execDmaWaitTimeout (n : Fin 32) (s : State) : Host.Outcome State Fault Refusal := .next (dmaWaitTimeout n.val s)

/-- DMA_DONEn with the origin of the arrival that started the program (R236, R258). -/
def State.dmaDone (n : Nat) (s : State) : State := s.raise (0x80 + n) (s.dch n).origin

/-- DMA_SIGNAL (R258). -/
def execDmaSignal (n : Fin 32) (s : State) : Host.Outcome State Fault Refusal :=
  .next (s.dmaRow n.val 8 (fun _ s => (s.dmaDone n.val).modDch n.val DmaCh.next))

/-- HALT ends the program in DONE (R254, R255). -/
def dmaHalt (n : Nat) (w : List Nat) (s : State) : State :=
  let s := s.modDch n (DmaCh.finish .done)
  if flagA w then s.dmaDone n else s

/-- DMA_HALT (R255). -/
def execDmaHalt (n : Fin 32) (s : State) : Host.Outcome State Fault Refusal := .next (s.dmaRow n.val 15 (fun w s => dmaHalt n.val w s))

/-- A paced instruction samples its line before a block, and a block that starts completes in full, unless firmware clears EN
after `cut` of its beats (R259, R261). -/
def pacedBlock (n : Nat) (pins : List Byte) (cut : Option Nat) (s : State) : State :=
  match (s.dch n).ins with
  | none => s
  | some w =>
    if opOf w = 7 ∨ s.dmaMay n = false then s
    else
      let s := s.periPins (dreqOf w - 1) pins
      if s.lineOn (dreqOf w - 1) = false then s else (dataBlock n w (s.modDch n (fun c => { c with cut := cut }))).rowDone n

/-- DMA_PACED_BLOCK (R259): `pins` is what a UART or I²C line's pins have done, `cut` the beats after which EN is cleared. -/
def execDmaPacedBlock (n : Fin 32) (pins : List (BitVec 8)) (cut : Option Nat) (s : State) : Host.Outcome State Fault Refusal :=
  .next (pacedBlock n.val pins cut s)

/-- An access of a RUNNING channel meets a response other than OK (R251, R262). -/
def dmaAccessError (n addr : Nat) (write : Bool) (resp : Nat) (fetching : List Nat) (s : State) : State :=
  if resp = rspOk ∨ s.dmaMay n = false then s
  else (s.refused 5 (s.dch n).sec addr write resp).dmaStop n addr write resp fetching

/-- DMA_ACCESS_ERROR (R262). -/
def execDmaAccessError (n : Fin 32) (addr : Nat) (write : Bool) (resp : Fin 4) (fetching : List (Fin 32)) (s : State) :
    Host.Outcome State Fault Refusal :=
  .next (dmaAccessError n.val addr write resp.val (fetching.map Fin.val) s)

/-- DMA_STOP_CLEAR (R262). -/
def execDmaStopClear (s : State) : Host.Outcome State Fault Refusal := .next (if s.power.dma = .on then s.stopClear else s)

end Sys2Proof.Machine
end

