-- ==== Sys2Proof/Machine/HostFam.lean ====
section
/-! DEFINITION. The mailbox commands that query, bind, mark, export and calibrate (R197, R212, R216, R217, R230, R278, R348, R349). -/

namespace Sys2Proof.Machine

/-! ### Output to host memory (R216) -/

/-- Offset of an OUT_ADDR that is not aligned to 8 B, or of an OUT_LEN below what is needed (R216). -/
def badOut (outAddr outLen need : Nat) : Option Nat :=
  if outAddr % 8 ≠ 0 then some 0x10 else if outLen < need then some 0x18 else none

/-- Bytes written to a host's memory by its port (R216). -/
def State.hostOut (p addr : Nat) (bs : List Byte) (s : State) : State := s.modHost p (fun h => { h with outMem := Mem.writeN h.outMem addr bs })

/-- A command whose write to host memory failed (R216). -/
def State.outFails (h : Hdr) (code : Nat) (s : State) : State :=
  (s.modHost h.port.val (fun q => { q with err := q.err ||| 32 })).reply h code stBadAddr 0 []

/-! ### QUERY_PORT (R216) -/

/-- Circuits that an instance's epochs find or make: established and projected ones. -/
def State.circuitsMet (s : State) (inst : Nat) : List Circuit :=
  s.circuitsOf inst ++ (s.fab.epochs.filter (fun e => decide (e.inst = inst))).flatMap Epoch.put

/-- A pending, sealed or open epoch changes a port end (R135, R216): a change names it, a circuit that ends or begins has it, or
its gate or trim takes a target. -/
def State.pendingAt (s : State) (q : PortEntry) : Bool :=
  let due (e : Epoch) : Bool := e.placed || decide (e.st = .openE)
  let met := s.circuitsMet q.inst
  let far (p : Nat) : Bool := met.any (fun d => (decide (d.inp = p) && decide (d.out = q.id)) || (decide (d.out = p) && decide (d.inp = q.id)))
  let named (c : PlanChange) : Bool := decide (c.port = q.id) || (decide (c.kind = 1) && decide (c.port2 = q.id))
    || (decide (c.kind = 2) && far c.port)
  s.fab.epochs.any (fun e => due e && decide (e.inst = q.inst) && (e.changes.any named
    || e.removed.any (fun i => decide (i = q.id) || far i) || e.put.any (fun c => decide (c.inp = q.id) || decide (c.out = q.id))
    || e.targets.any (fun t => decide (t.cell = q.gate) || decide (t.cell = q.trim))))

/-- TAP_X (R124, R216): zero while the tap's cluster is off. -/
def State.tapX (s : State) (q : PortEntry) : Nat :=
  if q.tap = 0xFFFF ∨ s.cluOn (q.tap / 4) = false then 0
  else
    let t := (s.clu (q.tap / 4)).ptap.getD (q.tap % 4) {}
    2 ^ 14 * (t.range % 4) + twos 14 (clampI (-8192) 8191 (viewInt t.x))

/-- An entry (R216). -/
def State.portBytes (s : State) (host id : Nat) : List Byte :=
  let q := s.port id
  if q.dir = 0 ∨ s.owner q.inst ≠ some host then leBytes 2 0xFFFF ++ leBytes 1 0 ++ leBytes 1 0xFF ++ leBytes 2 0 ++ leBytes 2 0xFFFF
  else
    let peer := match s.fab.circuits.find? (fun c => decide (c.inp = id) || decide (c.out = id)) with
      | none => 0xFFFF
      | some c => if c.inp = id then c.out else c.inp
    let st := q.dir % 4 + 4 * b2n (decide (q.tap ≠ 0xFFFF)) + 8 * b2n (s.gateBlocks id) + 16 * b2n (s.pendingAt q)
      + 32 * b2n (decide (peer ≠ 0xFFFF)) + 64 * b2n (portAvailable (s.view q.inst 0) id (decide (q.dir = 1))) + 128
    leBytes 2 peer ++ leBytes 1 st ++ leBytes 1 q.inst ++ leBytes 2 (s.tapX q)
      ++ leBytes 2 (if q.trim = 0xFFFF then 0xFFFF else (s.cell q.trim).live.ratio)

/-- QUERY_PORT's own act. -/
def queryPort (h : Hdr) (first count outAddr : Nat) (busOk : Bool) (s : State) : State :=
  if busOk then
    let bs := (List.range count).flatMap (fun k => s.portBytes h.port.val (first + k))
    (s.hostOut h.port.val outAddr bs).reply h 0x0010 stOk 0 (leBytes 2 count)
  else s.outFails h 0x0010

/-- The first field of QUERY_PORT out of range. -/
def queryPortRange (first count outAddr outLen : Nat) : Option Nat :=
  if 1024 ≤ first then some 8
  else if count = 0 ∨ 1024 < first + count then some 0xA
  else badOut outAddr outLen (8 * count)

/-- QUERY_PORT (R216). -/
def execQueryPort (h : Hdr) (first count outAddr outLen : Nat) (busOk : Bool) (s : State) : Host.Outcome State Fault Refusal :=
  .next (CmdSpec.run { code := 0x0010, range := queryPortRange first count outAddr outLen } h (queryPort h first count outAddr busOk) s)

/-! ### QUERY_CELL (R216) -/

/-- The result: the live registers at 0x00-0x3C, `CLU_CELL_DSUB`, `CLU_CELL_PMEAS`, `CLU_CELL_PADSTAT`. -/
def State.cellBytes (s : State) (n : Nat) : List Byte :=
  let at_ (o : Nat) : List Byte := leBytes 4 (s.cluRead (0x10000 * (n / 32) + 0x1000 + 0x80 * (n % 32) + o))
  (List.range 16).flatMap (fun i => at_ (4 * i)) ++ at_ 0x54 ++ at_ 0x5C ++ at_ 0x68

/-- QUERY_CELL (R216). -/
def execQueryCell (h : Hdr) (cell : Nat) (s : State) : Host.Outcome State Fault Refusal :=
  .next (CmdSpec.run { code := 0x0011, owners := [s.ownerCell cell], range := if 8191 < cell then some 8 else none } h
    (fun s => s.reply h 0x0011 stOk 0 (s.cellBytes cell)) s)

/-! ### HEALTH (R217) -/

/-- BUILD of the running image (R318). -/
def State.build (s : State) : Nat := match s.sys.img with | none => 0 | some q => (readHdr q.bytes).build

/-- The header (R217), which reports the identifiers of the PIC and of the build (R38, R318, log 146). -/
def State.healthHeader (s : State) (p written total : Nat) : List Byte :=
  leBytes 4 (s.hport p).health ++ leBytes 1 s.sys.mode.code ++ leBytes 1 s.time.srv.code ++ leBytes 2 written ++ leBytes 2 total
    ++ leBytes 2 0 ++ mailBytes s.tai ++ (List.range 40).map (Config.healthId s.image.fabm.picId s.image.fabm.picRev s.build)

/-- HEALTH's own act. -/
def health (h : Hdr) (outAddr outLen : Nat) (busOk : Bool) (s : State) : State :=
  let p := h.port.val
  let s := s.healthCheck p
  if busOk then
    let es := s.healthOf p
    let k := min es.length ((outLen - 64) / 8)
    let bs := s.healthHeader p k es.length ++ (es.take k).flatMap HEntry.bytes
    (s.hostOut p outAddr bs).reply h 0x0012 stOk 0 (leBytes 4 (64 + 8 * k) ++ leBytes 2 k ++ leBytes 2 0 ++ leBytes 4 (s.hport p).health)
  else s.outFails h 0x0012

/-- HEALTH (R217). -/
def execHealth (h : Hdr) (outAddr outLen : Nat) (busOk : Bool) (s : State) : Host.Outcome State Fault Refusal :=
  .next (CmdSpec.run { code := 0x0012, range := badOut outAddr outLen 64 } h (health h outAddr outLen busOk) s)

/-! ### TIME_GET (R216) -/

/-- clockClass of the selected master; 255 with none (R216). -/
def Net.clockClass (n : Net) : Nat :=
  match n.sel with
  | none => 255
  | some m => match n.foreign.find? (fun a => decide (a.master = m)) with | none => 255 | some a => a.clockClass

/-- The result of TIME_GET (R216). -/
def State.timeBytes (s : State) : List Byte :=
  mailBytes s.tai ++ leBytes 4 s.time.era ++ leBytes 4 s.time.wns
    ++ leBytes 4 (b2n s.time.eraStale + 2 * s.time.srv.code + 8 * b2n s.traceable + 16 * b2n s.time.refLost)
    ++ leBytes 4 s.hoSec ++ leBytes 1 s.net.clockClass ++ leBytes 3 0 ++ leBytes 4 (twos 32 s.net.lastTheta)

/-- TIME_GET (R216). -/
def execTimeGet (h : Hdr) (s : State) : Host.Outcome State Fault Refusal :=
  .next (CmdSpec.run { code := 0x0013 } h (fun s => s.reply h 0x0013 stOk 0 s.timeBytes) s)

/-! ### EVENT_BIND (R216, R230) -/

/-- The first field of EVENT_BIND out of range. -/
def bindRange (channel vector source enable : Nat) : Option Nat :=
  if 128 ≤ channel then some 8
  else if (1 ≤ vector ∧ vector ≤ 7) ∨ 31 < vector then some 9
  else if 255 < source then some 0xA
  else if 1 < enable then some 0xC
  else none

/-- SRC, VECTOR and EN written together; RE_CNT and the re-entry window cleared (R230). -/
def State.bindChan (ch vector source : Nat) (en : Bool) (s : State) : State :=
  let s := s.modChan ch (fun c => { c with src := source, vector := vector, reCnt := 0, winEnd := 0 })
  if en then s.modChan ch (fun c => { c with en := true }) else s.chanOff ch

/-- EVENT_BIND's own act (R230). -/
def eventBind (h : Hdr) (ch vector source enable : Nat) (s : State) : State :=
  let c := s.chan ch
  if sourceOk s.steward s.pinOwner c.owner c.sec source = false then s.reply h 0x0020 stDenied 0 []
  else if enable = 1 ∧ c.tripped = true then s.reply h 0x0020 stNotReady 0 []
  else (s.bindChan ch vector source (decide (enable = 1))).reply h 0x0020 stOk 0 []

/-- EVENT_BIND (R230). -/
def execEventBind (h : Hdr) (channel vector source enable : Nat) (s : State) : Host.Outcome State Fault Refusal :=
  .next (CmdSpec.run { code := 0x0020, owners := [s.ownerChan channel], range := bindRange channel vector source enable } h
    (eventBind h channel vector source enable) s)

/-! ### The recorder's commands (R347-R349) -/

/-- REC_MARK's own act: a MARK record in the named instance, or in every instance of the host, stamped as it is taken (R216, R347). -/
def recMark (h : Hdr) (inst : Nat) (value : Word) (s : State) : State :=
  let p := h.port.val
  let to_ := if inst = 0xFF then s.instsOf p else [inst]
  (s.logMark to_ value p).reply h 0x0030 stOk 0 (mailBytes s.tai ++ leBytes 4 s.time.era ++ leBytes 4 s.time.wns)

/-- REC_MARK (R216, R347). -/
def execRecMark (h : Hdr) (inst : Nat) (value : Word) (s : State) : Host.Outcome State Fault Refusal :=
  .next (CmdSpec.run { code := 0x0030, owners := if inst = 0xFF then [] else [s.ownerInst inst],
                       range := if inst = 0xFF then none else s.badInst inst } h (recMark h inst value) s)

/-- REC_FREEZE (R348). -/
def execRecFreeze (h : Hdr) (action : Nat) (s : State) : Host.Outcome State Fault Refusal :=
  .next (CmdSpec.run { code := 0x0031, steward := true, range := if 1 < action then some 8 else none } h
    (fun s => (if action = 1 then s.freeze else s.release).reply h 0x0031 stOk 0 []) s)

/-- The byte of a ring at a recorder pointer (R345): the copy of the first channel that serves it. -/
def State.ringByte (s : State) (i k p : Nat) : Byte :=
  let r := s.ring i k
  match s.ringAddrs i k ((p - r.base) % r.size) with | [] => 0 | a :: _ => Mem.read s.mem a

/-- REC_EXPORT's own act: FROM and LEN lie within the ring's valid bytes, or MALFORMED (R349). -/
def recExport (h : Hdr) (region src len outAddr : Nat) (s : State) : State :=
  let k := src / 2 ^ 62
  let p := src % 2 ^ 62
  let r := s.ring region k
  if s.sys.exportRun.isSome then s.reply h 0x0032 stBusy 0 []
  else if p < r.oldest then s.reply h 0x0032 stMalformed 0x10 []
  else if r.w < p + len then s.reply h 0x0032 stMalformed 0x18 []
  else { s with sys := { s.sys with exportRun := some { port := h.port.val, tag := h.tag, seq := s.turn h.port.val, inst := region, ring := k, src := p, len := len,
                                                        outAddr := outAddr, bytes := (List.range len).map (fun j => s.ringByte region k (p + j)) } } }

/-- REC_EXPORT (R349): the command completes by REC_EXPORT_DONE. -/
def execRecExport (h : Hdr) (region src len outAddr : Nat) (s : State) : Host.Outcome State Fault Refusal :=
  .next (CmdSpec.run { code := 0x0032, steward := true, owners := [s.ownerInst region],
                       range := if 3 < region then some 8 else if 3 ≤ src / 2 ^ 62 then some 0x10 else if outAddr % 8 ≠ 0 then some 0x20 else none } h
    (recExport h region src len outAddr) s)

/-- The export ends with its last byte, where a write overtakes the byte being copied, or, with `busOk` clear, at a write that
host memory refuses (R216, R349). -/
def exportDone (bytes : Nat) (busOk : Bool) (s : State) : State :=
  match s.sys.exportRun with
  | none => s
  | some r =>
    if s.firmware = false ∨ r.len < bytes ∨ (busOk = true ∧ bytes < r.len ∧ (s.ring r.inst r.ring).oldest ≤ r.src + bytes) then s
    else
      let s := ({ s with sys := { s.sys with exportRun := none } } : State).hostOut r.port r.outAddr (r.bytes.take bytes)
      if busOk then s.completeSeq r.port r.seq 0x0032 stOk r.tag 0 (leBytes 8 bytes)
      else (s.modHost r.port (fun q => { q with err := q.err ||| 32 })).completeSeq r.port r.seq 0x0032 stBadAddr r.tag 0 []

/-- REC_EXPORT_DONE (R349). -/
def execRecExportDone (bytes : Nat) (busOk : Bool) (s : State) : Host.Outcome State Fault Refusal := .next (exportDone bytes busOk s)

/-! ### HKC_SYSCAL (R278) -/

/-- The gain calibrated: that of the first sequence entry of the core that names the input (R278). -/
def HkcCore.gainOf (c : HkcCore) (input : Nat) : Option Nat := (c.entries.find? (fun e => decide (e.input = input))).map SeqEntry.gain

/-- E1 = FS_UV / (1,250,000 / 2^GAIN) × 2²³, rounded (R278). -/
def syscalE1 (gain : Nat) (fsUv : Int) : Int := roundNear ((fsUv : Rat) * 2 ^ gain * 8388608 / 1250000)

/-- The first field of HKC_SYSCAL out of range (R278). -/
def State.syscalRange (s : State) (core input stage : Nat) (fsUv : Int) : Option Nat :=
  if core ≠ 1 ∧ core ≠ 2 then some 8
  else if 15 < input then some 9
  else if 2 < stage then some 0xA
  else if stage = 1 then
    match (s.core core).gainOf input with
    | none => none
    | some g => if syscalE1 g fsUv < 2097152 ∨ 8388607 < syscalE1 g fsUv then some 0xC else none
  else none

/-- The captures held for a core and input (R278). -/
def State.syscalOf (s : State) (core input : Nat) : Option Syscal :=
  match s.hkc.sys with
  | none => none
  | some q => if q.core = core ∧ q.input = input then some q else none

/-- A capture that may be used: not older than 600 s, OR clear (R278). -/
def State.capOk (s : State) (c : Capture) : Bool := decide (s.now - c.atX ≤ 600000000000) && !c.ovr

/-- A capture begins: the sequence is suspended, once the conversion in progress has finished (R278). -/
def State.syscalStart (h : Hdr) (core input stage : Nat) (q : Syscal) (s : State) : State :=
  let running := decide ((s.core core).st = .running)
  (s.modHkc (fun k => { k with sys := some q, sysRun := some { port := h.port.val, tag := h.tag, seq := s.turn h.port.val, core := core, input := input, step := stage,
                                                               resume := running, waits := running } })).modCore core
    (fun c => { c with st := if running then c.st else .syscal })

/-- g of STEP 2 where every condition of R278 holds: c0, and g in Q2.30. -/
def State.syscalCoef (s : State) (q : Syscal) : Option (Int × Nat) :=
  match q.cz, q.cf with
  | some z, some f =>
    let d := f.v - z.v
    let g : Rat := (q.e1 : Rat) / d
    if s.capOk z && s.capOk f && decide (-83886 ≤ z.v ∧ z.v ≤ 83886) && decide (d ≠ 0) && decide (95 / 100 ≤ g ∧ g ≤ 105 / 100)
    then some (viewInt z.v, (viewInt (g * 1073741824)).toNat) else none
  | _, _ => none

/-- STEP 2: the coefficients are stored and apply from the core's next pass (R278, R279). -/
def State.syscalStore (h : Hdr) (x : Nat) (c0 : Int) (g : Nat) (s : State) : State :=
  let queued := s.sys.wouldQueue
  let s := (s.modHkc (fun k => { k with coef := setAt (some (c0, g)) x k.coef })).nvmWrite (.coef x c0 g)
  s.reply h 0x0043 stOk 0 (leBytes 4 (twos 32 c0) ++ leBytes 4 g ++ leBytes 1 (b2n queued))

/-- HKC_SYSCAL's own act (R278). -/
def hkcSyscal (h : Hdr) (core input stage : Nat) (fsUv : Int) (s : State) : State :=
  let no := s.reply h 0x0043 stNotReady 0 []
  if s.hkc.sysRun.isSome then s.reply h 0x0043 stBusy 0 []
  else match (s.core core).gainOf input with
    | none => no
    | some g =>
      if (s.core core).en = false then no
      else match stage with
        | 0 => s.syscalStart h core input 0 { core := core, input := input }
        | 1 =>
          (match s.syscalOf core input with
           | none => no
           | some q => if q.cz.isNone then no else s.syscalStart h core input 1 { q with e1 := syscalE1 g fsUv, cf := none })
        | _ =>
          (match s.syscalOf core input with
           | none => no
           | some q =>
             match s.syscalCoef q with
             | none => no
             | some c => s.syscalStore h ((core - 1) * 128 + input * 8 + g % 8) c.1 c.2)

/-- HKC_SYSCAL (R278). -/
def execHkcSyscal (h : Hdr) (core input stage : Nat) (fsUv : Int) (s : State) : Host.Outcome State Fault Refusal :=
  .next (CmdSpec.run { code := 0x0043, steward := true, modes := inAwake, range := s.syscalRange core input stage fsUv } h
    (hkcSyscal h core input stage fsUv) s)

/-! ### NET_FAILOVER (R197) -/

/-- NET_FAILOVER's own act: a trigger, which clears STORM where it is accepted and is counted where it is refused (R196-R198). -/
def netFailover (h : Hdr) (s : State) : State :=
  if s.net.standbyFitted = false then (s.failTrigger 2 false none).reply h 0x0044 stUnavailable 0 []
  else if s.net.failing then (s.failTrigger 2 false none).reply h 0x0044 stBusy 0 []
  else
    let s := (s.modNet (fun n => { n with storm := false })).failTrigger 2 false none
    s.reply h 0x0044 stOk 0 (leBytes 1 (b2n s.net.active))

/-- NET_FAILOVER (R197). -/
def execNetFailover (h : Hdr) (s : State) : Host.Outcome State Fault Refusal :=
  .next (CmdSpec.run { code := 0x0044, steward := true, modes := inAwake } h (netFailover h) s)

end Sys2Proof.Machine
end

