-- ==== Sys2Proof/Machine/MbxFam.lean ====
section
/-! DEFINITION. The commands of the mailbox windows and of the ports (R206-R211, R219, R221). -/

namespace Sys2Proof.Machine

/-- A host's own act in its window. -/
def State.byHost (p : Nat) (f : State → State) (s : State) : State := if s.hostCan p then f s else s

/-- COMMAND_DOORBELL (R209): the entries, then the tail. -/
def execCommandDoorbell (p : Fin 4) (tail : Nat) (entries : List RawCmd) (s : State) : Host.Outcome State Fault Refusal :=
  .next (s.byHost p.val (fun s => s.modHost p.val (fun h => (h.putEntries entries).tailWrite tail)))

/-- The command codes of R215. -/
def knownCodes : List Nat :=
  [0x0001, 0x0002, 0x0003, 0x0004, 0x0005, 0x0006, 0x0010, 0x0011, 0x0012, 0x0013, 0x0020, 0x0030, 0x0031, 0x0032, 0x0040, 0x0041, 0x0042, 0x0043]
    ++ [0x0044, 0x0048, 0x0049]

/-- Commands taken and completions not yet consumed leave room (R210). -/
def HostPort.mayTake (h : HostPort) : Bool :=
  decide (h.taken.length + (h.cplTail + 65536 - h.cplHead) % 65536 < 64) && decide (h.cmdHead ≠ h.cmdTail)

/-- The port that firmware serves next, round robin over the ports whose command may be taken (R210). -/
def State.nextPort (s : State) : Option Nat :=
  (([1, 2, 3, 4] : List Nat).map (fun k => (s.sys.servedPort + k) % 4)).find? (fun p => (s.hport p).mayTake)

/-- The entry at the head of a port's ring; one that the host never wrote reads as zeros (R209, log 58). -/
def HostPort.headCmd (h : HostPort) : RawCmd := (h.cmdRing.getD (h.cmdHead % 64) none).getD { code := 0 }

/-- Firmware copies the entry at the head and advances the head; an unknown code fails the first check of R212, in its turn
(R209, R210, R212). -/
def commandTake (p : Nat) (s : State) : State :=
  if s.serves = false ∨ s.nextPort ≠ some p then s
  else
    let c := (s.hport p).headCmd
    let k := (s.hport p).takes
    let t : Taken := if knownCodes.contains c.code then { cmd := c, seq := k }
      else { cmd := c, seq := k, begun := true, answer := some (cplBytes c.code stMalformed c.tag 0 []) }
    let s : State := { s with sys := { s.sys with servedPort := p } }
    s.modHost p (fun h => HostPort.flush 1 { h with cmdHead := (h.cmdHead + 1) % 65536, takes := k + 1, taken := h.taken ++ [t] })

/-- COMMAND_TAKE (R210). -/
def execCommandTake (p : Fin 4) (s : State) : Host.Outcome State Fault Refusal := .next (commandTake p.val s)

/-- COMPLETION_HEAD_WRITE (R207). -/
def execCompletionHeadWrite (p : Fin 4) (v : Nat) (s : State) : Host.Outcome State Fault Refusal :=
  .next (s.byHost p.val (fun s => s.modHost p.val (HostPort.cplHeadWrite v)))

/-- NOTICE_HEAD_WRITE (R207). -/
def execNoticeHeadWrite (p : Fin 4) (v : Nat) (s : State) : Host.Outcome State Fault Refusal :=
  .next (s.byHost p.val (fun s => s.modHost p.val (HostPort.ntcHeadWrite v)))

/-- MBX_ENABLE_WRITE (R207, R211). -/
def execMbxEnableWrite (p : Fin 4) (v : Word) (s : State) : Host.Outcome State Fault Refusal :=
  .next (s.byHost p.val (fun s => s.modHost p.val (HostPort.enableWrite v)))

/-- NOTICE_POST (R211). -/
def execNoticePost (p : Fin 4) (s : State) : Host.Outcome State Fault Refusal := .next (s.postNext p.val)

/-- EVENT_DOORBELL (R207). -/
def execEventDoorbell (p : Fin 4) (s : State) : Host.Outcome State Fault Refusal := .next (s.byHost p.val (State.eventBell p.val))

/-- MIRROR_REFRESH (R208): while firmware has the mailbox in service. -/
def execMirrorRefresh (p : Fin 4) (s : State) : Host.Outcome State Fault Refusal := .next (if s.serves then s.mirror p.val else s)

/-- HOLDOFF of vector 0 or 1 passes: postings made meanwhile give one message, after which HOLDOFF runs anew (R219). -/
def HostPort.holdEnd (v : Nat) (h : HostPort) : HostPort :=
  if v = 0 then
    let held := h.hold0 && h.held0
    let h := { h with hold0 := false, held0 := false }
    if held then h.msg 0 else h
  else
    let held := h.hold1 && h.held1
    let h := { h with hold1 := false, held1 := false }
    if held then h.msg 1 else h

/-- MSIX_HOLDOFF_END (R219). -/
def execMsixHoldoffEnd (p : Fin 4) (vector : Fin 2) (s : State) : Host.Outcome State Fault Refusal :=
  .next (s.modHost p.val (HostPort.holdEnd vector.val))

/-- HOST_PORT_RESET (R221). -/
def execHostPortReset (p : Fin 4) (s : State) : Host.Outcome State Fault Refusal := .next (s.portReset p.val)

/-- HOST_LINK_UP (R204, R221): the link has trained at a rate and the port is enumerated; its domain is on. -/
def execHostLinkUp (p : Fin 4) (rate : LinkRate) (s : State) : Host.Outcome State Fault Refusal :=
  .next (if s.power.pcie.getD p.val .off = .on then s.modHost p.val (fun h => { h with linkUp := true, rate := rate }) else s)

end Sys2Proof.Machine
end

