-- ==== Sys2Proof/Machine/Dispatch.lean ====
section
/-! DEFINITION. The meaning of every command: one direct call per constructor of `Instr`. -/

namespace Sys2Proof.Machine

/-- The effect of a command on everything but the queue. -/
def exec (i : Instr) (s : State) : Host.Outcome State Fault Refusal :=
  match i with
  | .powerOnReset => Sys2Proof.Machine.execPowerOnReset s
  | .resetNReset lowNs => Sys2Proof.Machine.execResetNReset lowNs s
  | .supplyLoss rail => Sys2Proof.Machine.execSupplyLoss rail s
  | .deviceResetRampDone => Sys2Proof.Machine.execDeviceResetRampDone s
  | .lcsSresetWrite m v => Sys2Proof.Machine.execLcsSresetWrite m v s
  | .lcsLcReqWrite m v => Sys2Proof.Machine.execLcsLcReqWrite m v s
  | .makerAuthorisation => Sys2Proof.Machine.execMakerAuthorisation s
  | .pllLock freq => Sys2Proof.Machine.execPllLock freq s
  | .refAbsentStart => Sys2Proof.Machine.execRefAbsentStart s
  | .sramWipeDone ok => Sys2Proof.Machine.execSramWipeDone ok s
  | .loadImageCheck flash => Sys2Proof.Machine.execLoadImageCheck flash s
  | .haltUartReport => Sys2Proof.Machine.execHaltUartReport s
  | .ddrTrainingDone ch ok => Sys2Proof.Machine.execDdrTrainingDone ch ok s
  | .dramWipeDone ch ok => Sys2Proof.Machine.execDramWipeDone ch ok s
  | .loadEnd => Sys2Proof.Machine.execLoadEnd s
  | .powerDomainRequest d on => Sys2Proof.Machine.execPowerDomainRequest d on s
  | .powerDomainUp d sarCal => Sys2Proof.Machine.execPowerDomainUp d sarCal s
  | .clusterRowPowerUp sarCal => Sys2Proof.Machine.execClusterRowPowerUp sarCal s
  | .clusterBoundary c inputs sarCodes => Sys2Proof.Machine.execClusterBoundary c inputs sarCodes s
  | .loopPeriodDone c chk slack pads => Sys2Proof.Machine.execLoopPeriodDone c chk slack pads s
  | .hPathUpdate n => Sys2Proof.Machine.execHPathUpdate n s
  | .honlyDitherFlip n => Sys2Proof.Machine.execHonlyDitherFlip n s
  | .darkDetect n => Sys2Proof.Machine.execDarkDetect n s
  | .litDetect n => Sys2Proof.Machine.execLitDetect n s
  | .frozenCodeRun n => Sys2Proof.Machine.execFrozenCodeRun n s
  | .stuckRetestEnd n => Sys2Proof.Machine.execStuckRetestEnd n s
  | .holdRecovery n => Sys2Proof.Machine.execHoldRecovery n s
  | .pendRetireTimeout n => Sys2Proof.Machine.execPendRetireTimeout n s
  | .engineLivenessFail c => Sys2Proof.Machine.execEngineLivenessFail c s
  | .engineCheckpoint c => Sys2Proof.Machine.execEngineCheckpoint c s
  | .fPadFault n => Sys2Proof.Machine.execFPadFault n s
  | .darkTrimUpdate n => Sys2Proof.Machine.execDarkTrimUpdate n s
  | .ptapRangeStep c t => Sys2Proof.Machine.execPtapRangeStep c t s
  | .heaterOcTrip n => Sys2Proof.Machine.execHeaterOcTrip n s
  | .padcfgApply n v => Sys2Proof.Machine.execPadcfgApply n v s
  | .rangeBreakEnd n => Sys2Proof.Machine.execRangeBreakEnd n s
  | .sparePowered r => Sys2Proof.Machine.execSparePowered r s
  | .spareLoaded r => Sys2Proof.Machine.execSpareLoaded r s
  | .spareSelftestDone r ok => Sys2Proof.Machine.execSpareSelftestDone r ok s
  | .clusterPowerDown c => Sys2Proof.Machine.execClusterPowerDown c s
  | .retireListAppend kind unit => Sys2Proof.Machine.execRetireListAppend kind unit s
  | .islandInterval r vhtrMv measMa => Sys2Proof.Machine.execIslandInterval r vhtrMv measMa s
  | .isenseFault r => Sys2Proof.Machine.execIsenseFault r s
  | .budgetInterval => Sys2Proof.Machine.execBudgetInterval s
  | .connect h inst inp out time => Sys2Proof.Machine.execConnect h inst inp out time s
  | .disconnect h inst port time => Sys2Proof.Machine.execDisconnect h inst port time s
  | .planOpen h inst => Sys2Proof.Machine.execPlanOpen h inst s
  | .planAdd h epoch changes => Sys2Proof.Machine.execPlanAdd h epoch changes s
  | .planCommit h epoch channel time => Sys2Proof.Machine.execPlanCommit h epoch channel time s
  | .planAbort h epoch => Sys2Proof.Machine.execPlanAbort h epoch s
  | .solverTakeItem => Sys2Proof.Machine.execSolverTakeItem s
  | .solveDone => Sys2Proof.Machine.execSolveDone s
  | .commitAtLoad slot => Sys2Proof.Machine.execCommitAtLoad slot s
  | .epochSeal slot => Sys2Proof.Machine.execEpochSeal slot s
  | .epochCommit => Sys2Proof.Machine.execEpochCommit s
  | .epochExpire slot => Sys2Proof.Machine.execEpochExpire slot s
  | .epochReportWrite slot => Sys2Proof.Machine.execEpochReportWrite slot s
  | .fabEpCtrlWrite slot v => Sys2Proof.Machine.execFabEpCtrlWrite slot v s
  | .allowRetireMove inst => Sys2Proof.Machine.execAllowRetireMove inst s
  | .queryPort h first count outAddr outLen busOk => Sys2Proof.Machine.execQueryPort h first count outAddr outLen busOk s
  | .queryCell h cell => Sys2Proof.Machine.execQueryCell h cell s
  | .health h outAddr outLen busOk => Sys2Proof.Machine.execHealth h outAddr outLen busOk s
  | .timeGet h => Sys2Proof.Machine.execTimeGet h s
  | .eventBind h channel vector source enable => Sys2Proof.Machine.execEventBind h channel vector source enable s
  | .recMark h inst value => Sys2Proof.Machine.execRecMark h inst value s
  | .recFreeze h action => Sys2Proof.Machine.execRecFreeze h action s
  | .recExport h region src len outAddr => Sys2Proof.Machine.execRecExport h region src len outAddr s
  | .modeSet h mode => Sys2Proof.Machine.execModeSet h mode s
  | .thermalResume h => Sys2Proof.Machine.execThermalResume h s
  | .calRequest h => Sys2Proof.Machine.execCalRequest h s
  | .hkcSyscal h core input stage fsUv => Sys2Proof.Machine.execHkcSyscal h core input stage fsUv s
  | .syscalCaptureDone core raws ovr => Sys2Proof.Machine.execSyscalCaptureDone core raws ovr s
  | .netFailover h => Sys2Proof.Machine.execNetFailover h s
  | .imageStage h bytes srcAddr len => Sys2Proof.Machine.execImageStage h bytes srcAddr len s
  | .imageActivate h graceMs => Sys2Proof.Machine.execImageActivate h graceMs s
  | .releaseGraceEnd => Sys2Proof.Machine.execReleaseGraceEnd s
  | .commandDoorbell p tail entries => Sys2Proof.Machine.execCommandDoorbell p tail entries s
  | .commandTake p => Sys2Proof.Machine.execCommandTake p s
  | .completionHeadWrite p v => Sys2Proof.Machine.execCompletionHeadWrite p v s
  | .noticeHeadWrite p v => Sys2Proof.Machine.execNoticeHeadWrite p v s
  | .mbxEnableWrite p v => Sys2Proof.Machine.execMbxEnableWrite p v s
  | .noticePost p => Sys2Proof.Machine.execNoticePost p s
  | .eventDoorbell p => Sys2Proof.Machine.execEventDoorbell p s
  | .mirrorRefresh p => Sys2Proof.Machine.execMirrorRefresh p s
  | .msixHoldoffEnd p vector => Sys2Proof.Machine.execMsixHoldoffEnd p vector s
  | .bar4Write p offset v => Sys2Proof.Machine.execBar4Write p offset v s
  | .bar2Read p offset len => Sys2Proof.Machine.execBar2Read p offset len s
  | .pairLowRead m pair => Sys2Proof.Machine.execPairLowRead m pair s
  | .hostPortReset p => Sys2Proof.Machine.execHostPortReset p s
  | .hostLinkUp p rate => Sys2Proof.Machine.execHostLinkUp p rate s
  | .incReload => Sys2Proof.Machine.execIncReload s
  | .nsWrap => Sys2Proof.Machine.execNsWrap s
  | .eraWrite v => Sys2Proof.Machine.execEraWrite v s
  | .eraAutoIncrement => Sys2Proof.Machine.execEraAutoIncrement s
  | .topOfSecond => Sys2Proof.Machine.execTopOfSecond s
  | .timeStepWrite v => Sys2Proof.Machine.execTimeStepWrite v s
  | .stepApply => Sys2Proof.Machine.execStepApply s
  | .timeLoad taiS => Sys2Proof.Machine.execTimeLoad taiS s
  | .compareArm ix => Sys2Proof.Machine.execCompareArm ix s
  | .compareDisarm ix => Sys2Proof.Machine.execCompareDisarm ix s
  | .compareFire ix => Sys2Proof.Machine.execCompareFire ix s
  | .captureStamp ix origin => Sys2Proof.Machine.execCaptureStamp ix origin s
  | .captureSwTrigger ix => Sys2Proof.Machine.execCaptureSwTrigger ix s
  | .captureRead ix m => Sys2Proof.Machine.execCaptureRead ix m s
  | .ppsInRise => Sys2Proof.Machine.execPpsInRise s
  | .ppsInQualified highNs => Sys2Proof.Machine.execPpsInQualified highNs s
  | .ppsOutRise => Sys2Proof.Machine.execPpsOutRise s
  | .ppsOutFall => Sys2Proof.Machine.execPpsOutFall s
  | .servoUpdate theta => Sys2Proof.Machine.execServoUpdate theta s
  | .servoStateWrite v => Sys2Proof.Machine.execServoStateWrite v s
  | .referenceLoss => Sys2Proof.Machine.execReferenceLoss s
  | .referenceReturn freq => Sys2Proof.Machine.execReferenceReturn freq s
  | .ftLearn => Sys2Proof.Machine.execFtLearn s
  | .ftBinCommit b v => Sys2Proof.Machine.execFtBinCommit b v s
  | .ftTableSave => Sys2Proof.Machine.execFtTableSave s
  | .driftUpdate => Sys2Proof.Machine.execDriftUpdate s
  | .holdoverSpecExceeded => Sys2Proof.Machine.execHoldoverSpecExceeded s
  | .announceTimeout => Sys2Proof.Machine.execAnnounceTimeout s
  | .syntGateEnd count => Sys2Proof.Machine.execSyntGateEnd count s
  | .efcUpdate => Sys2Proof.Machine.execEfcUpdate s
  | .ptpSync frame master seq twoStep origin corr => Sys2Proof.Machine.execPtpSync frame master seq twoStep origin corr s
  | .ptpFollowUp frame master seq origin corr => Sys2Proof.Machine.execPtpFollowUp frame master seq origin corr s
  | .ptpDelayReqSend => Sys2Proof.Machine.execPtpDelayReqSend s
  | .ptpDelayResp frame master seq receipt corr => Sys2Proof.Machine.execPtpDelayResp frame master seq receipt corr s
  | .ptpAnnounce msg => Sys2Proof.Machine.execPtpAnnounce msg s
  | .arpNdRequest addr => Sys2Proof.Machine.execArpNdRequest addr s
  | .otherFrameRx => Sys2Proof.Machine.execOtherFrameRx s
  | .cleatWrite v => Sys2Proof.Machine.execCleatWrite v s
  | .cleatBbmRelease => Sys2Proof.Machine.execCleatBbmRelease s
  | .linkChange port up hiBer => Sys2Proof.Machine.execLinkChange port up hiBer s
  | .linkLossTrigger => Sys2Proof.Machine.execLinkLossTrigger s
  | .failoverWrite v => Sys2Proof.Machine.execFailoverWrite v s
  | .failoverTrigger cause => Sys2Proof.Machine.execFailoverTrigger cause s
  | .netPathPowered => Sys2Proof.Machine.execNetPathPowered s
  | .failingClear => Sys2Proof.Machine.execFailingClear s
  | .failoverTimeout => Sys2Proof.Machine.execFailoverTimeout s
  | .holddownExpire => Sys2Proof.Machine.execHolddownExpire s
  | .stormClear => Sys2Proof.Machine.execStormClear s
  | .linkStable => Sys2Proof.Machine.execLinkStable s
  | .snapshotWrite => Sys2Proof.Machine.execSnapshotWrite s
  | .channelAccept ch origin => Sys2Proof.Machine.execChannelAccept ch origin s
  | .softwareFire w ch => Sys2Proof.Machine.execSoftwareFire w ch s
  | .consumerArrive x sel origin merged => Sys2Proof.Machine.execConsumerArrive x sel origin merged s
  | .consumerIdle x => Sys2Proof.Machine.execConsumerIdle x s
  | .gpioInEdge pin level heldNs => Sys2Proof.Machine.execGpioInEdge pin level heldNs s
  | .gpioPulseEnd pin => Sys2Proof.Machine.execGpioPulseEnd pin s
  | .evtChCfgWrite w ch v => Sys2Proof.Machine.execEvtChCfgWrite w ch v s
  | .trippedClear w ch => Sys2Proof.Machine.execTrippedClear w ch s
  | .braidPieceGrant target arrivals ecc => Sys2Proof.Machine.execBraidPieceGrant target arrivals ecc s
  | .atomicOp m addr size kind operand compare ecc => Sys2Proof.Machine.execAtomicOp m addr size kind operand compare ecc s
  | .masterReset m beats => Sys2Proof.Machine.execMasterReset m beats s
  | .masterPortReopen m => Sys2Proof.Machine.execMasterPortReopen m s
  | .mtxErrRearm => Sys2Proof.Machine.execMtxErrRearm s
  | .dmaStart n origin => Sys2Proof.Machine.execDmaStart n origin s
  | .dmaDisable n => Sys2Proof.Machine.execDmaDisable n s
  | .dmaNop n => Sys2Proof.Machine.execDmaNop n s
  | .dmaMove n cut => Sys2Proof.Machine.execDmaMove n cut s
  | .dmaFill n cut => Sys2Proof.Machine.execDmaFill n cut s
  | .dmaCompare n cut => Sys2Proof.Machine.execDmaCompare n cut s
  | .dmaGather n cut => Sys2Proof.Machine.execDmaGather n cut s
  | .dmaLoop n => Sys2Proof.Machine.execDmaLoop n s
  | .dmaEndloop n => Sys2Proof.Machine.execDmaEndloop n s
  | .dmaWait n => Sys2Proof.Machine.execDmaWait n s
  | .dmaWaitResume n pins => Sys2Proof.Machine.execDmaWaitResume n pins s
  | .dmaWaitTimeout n => Sys2Proof.Machine.execDmaWaitTimeout n s
  | .dmaSignal n => Sys2Proof.Machine.execDmaSignal n s
  | .dmaHalt n => Sys2Proof.Machine.execDmaHalt n s
  | .dmaPacedBlock n pins cut => Sys2Proof.Machine.execDmaPacedBlock n pins cut s
  | .dmaAccessError n addr write resp fetching => Sys2Proof.Machine.execDmaAccessError n addr write resp fetching s
  | .dmaStopClear => Sys2Proof.Machine.execDmaStopClear s
  | .refEnable => Sys2Proof.Machine.execRefEnable s
  | .refReady => Sys2Proof.Machine.execRefReady s
  | .hkcSlotEnd r => Sys2Proof.Machine.execHkcSlotEnd r s
  | .hkcConversionDone core raw ovr => Sys2Proof.Machine.execHkcConversionDone core raw ovr s
  | .hkcPassEnd core probe ovr => Sys2Proof.Machine.execHkcPassEnd core probe ovr s
  | .hkcSwStart core => Sys2Proof.Machine.execHkcSwStart core s
  | .hkcCoreDisable core => Sys2Proof.Machine.execHkcCoreDisable core s
  | .hkcDischargeEnd core => Sys2Proof.Machine.execHkcDischargeEnd core s
  | .hkcFlush core => Sys2Proof.Machine.execHkcFlush core s
  | .hkcFifoRead core m => Sys2Proof.Machine.execHkcFifoRead core m s
  | .censusPrioWrite v => Sys2Proof.Machine.execCensusPrioWrite v s
  | .hkcSeqWrite core e v => Sys2Proof.Machine.execHkcSeqWrite core e v s
  | .shutdownRampDone => Sys2Proof.Machine.execShutdownRampDone s
  | .shutdownRecordWrite => Sys2Proof.Machine.execShutdownRecordWrite s
  | .tailCapsuleWrite => Sys2Proof.Machine.execTailCapsuleWrite s
  | .thmResumeWrite v => Sys2Proof.Machine.execThmResumeWrite v s
  | .firmwareReturn circuitTableOk => Sys2Proof.Machine.execFirmwareReturn circuitTableOk s
  | .firmwareFault => Sys2Proof.Machine.execFirmwareFault s
  | .watchdogKick => Sys2Proof.Machine.execWatchdogKick s
  | .watchdogFirstExpire => Sys2Proof.Machine.execWatchdogFirstExpire s
  | .watchdogRestartExpire => Sys2Proof.Machine.execWatchdogRestartExpire s
  | .darkDeferredPowerDown c => Sys2Proof.Machine.execDarkDeferredPowerDown c s
  | .darkEntryDone => Sys2Proof.Machine.execDarkEntryDone s
  | .darkExitDone => Sys2Proof.Machine.execDarkExitDone s
  | .calSweepDone measured => Sys2Proof.Machine.execCalSweepDone measured s
  | .nvmTest found => Sys2Proof.Machine.execNvmTest found s
  | .skimSnapshot => Sys2Proof.Machine.execSkimSnapshot s
  | .captureBlock => Sys2Proof.Machine.execCaptureBlock s
  | .blockWriteDone => Sys2Proof.Machine.execBlockWriteDone s
  | .ddrChannelFail ch => Sys2Proof.Machine.execDdrChannelFail ch s
  | .logRecordWrite kind insts value => Sys2Proof.Machine.execLogRecordWrite kind insts value s
  | .recCtrlFreeze v => Sys2Proof.Machine.execRecCtrlFreeze v s
  | .recCtrlCapEn v => Sys2Proof.Machine.execRecCtrlCapEn v s
  | .efcEnable v => Sys2Proof.Machine.execEfcEnable v s
  | .efcCodeWrite v => Sys2Proof.Machine.execEfcCodeWrite v s
  | .registerWrite m addr v => Sys2Proof.Machine.execRegisterWrite m addr v s
  | .resetRelease strap => Sys2Proof.Machine.execResetRelease strap s
  | .ppsInTimeout => Sys2Proof.Machine.execPpsInTimeout s
  | .imageStageDone readBackOk => Sys2Proof.Machine.execImageStageDone readBackOk s
  | .recExportDone bytes busOk => Sys2Proof.Machine.execRecExportDone bytes busOk s

end Sys2Proof.Machine
end

