-- ==== Sys2Proof/Safety.lean ====
section
/-! DEFINITION. What a run must never do, in the words claims use. -/

namespace Sys2Proof

/-- A step that ends in a next state. -/
abbrev Safe.completes (o : Host.Outcome Machine.State Machine.Fault Machine.Refusal) : Prop := ∃ t, o = .next t

/-- Memory, and host memory as the device has written it, are in their canonical form. -/
abbrev Safe.memory (s : Machine.State) : Prop := Machine.Mem.wf s.mem = true ∧ ∀ h ∈ s.hosts, Machine.Mem.wf h.outMem = true

/-- The lists of State that hold the switchable domains have the lengths of R15. -/
abbrev Safe.sized (s : Machine.State) : Prop :=
  s.clusters.length = 256 ∧ s.spares.length = 16 ∧ s.islands.length = 16 ∧ s.power.cores.length = 4 ∧ s.power.sram.length = 8 ∧
    s.power.pcie.length = 4 ∧ s.power.ddr.length = 2

/-- Firmware serves a mailbox command whose flags and reserved bytes are as R212 step 1 asks. -/
abbrev Safe.served (h : Hdr) (s : Machine.State) : Prop := s.serves = true ∧ h.flags < 8 ∧ h.badByte = none

/-- A mailbox command of this code that firmware serves has its turn, its flags and reserved bytes as R212 step 1 asks; `s1` is
the state in which it has begun (R210). -/
abbrev Safe.turn (h : Hdr) (code : Nat) (s s1 : Machine.State) : Prop := Safe.served h s ∧ s.startCmd h code = some s1

/-- The epoch of a CONNECT or DISCONNECT, as firmware allocates it (R133, R143). -/
abbrev Safe.singleEpoch (s : Machine.State) (h : Hdr) (code inst : Nat) (c : PlanChange) (time : MailTime) : Machine.Epoch :=
  { (s.allocate inst h.port.val).1 with stage := .queued, changes := [c], single := true, code := code, tag := h.tag,
                                        seq := s.turn h.port.val, acceptMoves := Machine.accMoves h, owed := true, reqS := time.s, reqNs := time.ns }

/-- Every cluster that ran is on its ramp down, every other one is off (R16, R100). -/
abbrev Safe.rampsDown (s t : Machine.State) : Prop :=
  ∀ c, ((s.clu c).pow = .on → (t.clu c).pow = .on ∧ (t.clu c).pdown = true) ∧ ((s.clu c).pow ≠ .on → (t.clu c).pow = .off)

/-- Every read of the DMA engine that lies within a range is answered from memory. -/
abbrev Safe.dmaReads (s : Machine.State) (sec : Bool) (start len : Nat) : Prop :=
  start < 2 ^ 40 ∧ start + len ≤ 2 ^ 40 ∧
    ∀ a k, start ≤ a → 0 < k → a + k ≤ start + len → s.readRsp 5 sec a k = 0 ∧ Machine.isMemory a = true

/-- Every write of the DMA engine that lies within a range is taken by memory. -/
abbrev Safe.dmaWrites (s : Machine.State) (sec : Bool) (start len : Nat) : Prop :=
  start < 2 ^ 40 ∧ start + len ≤ 2 ^ 40 ∧
    ∀ a k, start ≤ a → 0 < k → a + k ≤ start + len → s.writeRsp 5 sec a k = 0 ∧ Machine.isMemory a = true

end Sys2Proof
end

