-- ==== Sys2Proof/Certificates/Slice0/Obligations.lean ====
section
/-! DEFINITION. The statements for the provers. A next state written as `{ s with f := t.f }` says that every field of
State but those named is unchanged. -/

open Sys2Proof Sys2Proof.Machine

/-! ### The step and the reset -/

/-- A step takes the command at the front of the queue and runs it on the queue's rest (the model's own queue). -/
def Obligations.StepRunsFrontCommand : Prop :=
  ∀ (c : Instr) (cs : List Instr) (s : State), s.pending = c :: cs → step s = exec c { s with pending := cs }

/-- WNS wraps at 2³² (R164): on the tick, the k-th from now, whose addition carries out of bit 31, NS_WRAP is raised once and ERA_STALE set;
WNS goes on from what that tick leaves, so a wrap takes 2³² ns of counted time. -/
def Obligations.WnsWrapRaisesNsWrap : Prop :=
  ∀ s : State, s.time.run = true → 0 < s.time.inc → s.time.inc < 2 ^ 40 → s.time.frac < 2 ^ 32 → s.time.wns < 2 ^ 32 → s.time.sph < 1000000000 →
    ∃ t k, exec .nsWrap s = .next t ∧ t = { s with time := t.time, rcd := t.rcd, evt := t.evt } ∧ 1 ≤ k ∧
      s.time.wns * 2 ^ 32 + s.time.frac + (k - 1) * s.time.inc < 2 ^ 64 ∧
      s.time.wns * 2 ^ 32 + s.time.frac + k * s.time.inc = 2 ^ 64 + t.time.wns * 2 ^ 32 + t.time.frac ∧ t.time.frac < 2 ^ 32 ∧
      t.time.eraStale = true ∧ t.evt = { s.evt with chanIn := s.evt.chanIn ++ (s.evt.takers 0x01).map (fun ch => ⟨ch, none⟩) }

/-- The values that the register tables give at reset (R70, R71, R103-R105, R130-R132, R191, R203, R242, R263, R264, R282,
R302, R336, R352), with memory in its canonical form; that an unlisted byte reads as 0 is the model's choice (log 13), and so is a
device that starts OPEN with no key fused (log 3; R1 delivers it so). -/
def Obligations.ResetRegisters : Prop :=
  State.reset.sys.mode = .churn ∧ State.reset.pending = [] ∧
  (∀ c, c < 256 → (State.reset.clu c).allow = 0xFFFFFFFF ∧ (State.reset.clu c).derate = 0xFFFF ∧ (State.reset.clu c).demand = 0 ∧
    (State.reset.clu c).bscale = 1 ∧ (State.reset.clu c).ptapCfg = 0x5555) ∧
  (∀ n, n < 8192 → (State.reset.cell n).uf = 0 ∧ (State.reset.cell n).uh = 0 ∧ (State.reset.cell n).parked = true ∧
    (State.reset.cell n).live = { state := .park, ratio := 0, epoch := 0 } ∧ (State.reset.cell n).engNow.st = .off) ∧
  (∀ r, r < 16 → (State.reset.island r).kappa = 1 ∧ (State.reset.spare r).st = .off) ∧
  State.reset.sys.efcEn = false ∧ State.reset.sys.efcCode = 0x800000 ∧
  State.reset.time.inc = 4 * 2 ^ 32 ∧ State.reset.time.kp = 0x00640000 ∧ State.reset.time.ki = 0x00002800 ∧
  State.reset.time.stepThr = 100000 ∧ State.reset.time.lockThr = 100 ∧ State.reset.time.ppsWidth = 100000 ∧
  State.reset.time.srv = .freerun ∧ State.reset.time.run = false ∧
  State.reset.net.aTxdis = true ∧ State.reset.net.bTxdis = true ∧ State.reset.net.foCfg = 0x001E0A00 ∧
  (∀ ch, ch < 128 → (State.reset.evt.chans.getD ch {}).holdoff = 16 ∧ (State.reset.evt.chans.getD ch {}).reMax = 8 ∧
    (State.reset.evt.chans.getD ch {}).reWin = 1000 ∧ (State.reset.evt.chans.getD ch {}).en = false) ∧
  State.reset.braid.mqos = [8, 8, 8, 8, 14, 0, 3, 10, 10, 6, 6, 6, 6, 15] ∧
  (∀ n, n < 32 → (State.reset.dma.chs.getD n {}).fqos = 8 ∧ (State.reset.dma.chs.getD n {}).st = .idle) ∧
  (∀ n, n < 3 → (State.reset.hkc.cores.getD n {}).thresh = 16 ∧ (State.reset.hkc.cores.getD n {}).en = false) ∧
  State.reset.thm.skipN = 4 ∧ State.reset.thm.persist = 2 ∧ State.reset.thm.roundMs = 10 ∧ State.reset.thm.safeLatch = false ∧
  State.reset.rcd.hz = 16 ∧ State.reset.rcd.capEn = false ∧ State.reset.mem = [] ∧ Safe.memory State.reset ∧
  (∀ a, Mem.read State.reset.mem a = 0) ∧ State.reset.sys.lc ≠ .ended ∧ State.reset.sys.lc ≠ .returned ∧ State.reset.sys.keyFused = false

/-- Resets complete (R190, R303, R304, R371). A power-on reset, and the loss of VCORE or VIO: CHURN with everything at its reset
value, the SAFE latch cleared and the time base restarted; the fuses and the NVM are kept. The end of another reset's ramp: CHURN
with everything at its reset value, so every circuit released, every epoch discarded, every domain off (braid and SRAM power up again
at once unless RESET_N is held), TXDIS high, sensors' BROKEN cleared and ports reset; kept are the SAFE latch, with its cause while it is
set, the fuses, the NVM, and after a watchdog or steward reset the TIME registers, with every master's TIME_LATCH, the compare units
disarmed and the captures cleared.
Memory is wiped later, in CHURN and LOAD. The queue, the count of free values, what the UART and the hosts have received and the
levels outside the GPIO pins are no registers of the device. -/
def Obligations.ResetsComplete : Prop :=
  (∀ s : State, ∃ t, exec .powerOnReset s = .next t ∧ exec (.supplyLoss .vcore) s = .next t ∧ exec (.supplyLoss .vio) s = .next t ∧
      t = { State.reset with pending := s.pending, freeIx := s.freeIx, mem := s.mem, sys := t.sys, hosts := t.hosts, evt := t.evt } ∧
      t.sys = { State.reset.sys with keyFused := s.sys.keyFused, keyHash := s.sys.keyHash, lc := s.sys.lc, strap := s.sys.strap,
                                     flash := s.sys.flash, uart := s.sys.uart } ∧
      t.evt = { State.reset.evt with gpio := s.evt.gpio.map (fun g => { pad := g.pad }) } ∧
      (∀ p, t.hport p = { outMem := (s.hport p).outMem, sent := (s.hport p).sent })) ∧
  (∀ (s : State) (k : ResetKind), s.sys.resetting = some k → k ≠ .powerOn → ∃ t, exec .deviceResetRampDone s = .next t ∧
    t = { State.reset with pending := s.pending, freeIx := s.freeIx, mem := s.mem, sys := t.sys, hosts := t.hosts, evt := t.evt,
                           thm := t.thm, time := t.time, power := t.power, latches := t.latches } ∧
    t.sys = { State.reset.sys with keyFused := s.sys.keyFused, keyHash := s.sys.keyHash, lc := s.sys.lc, strap := s.sys.strap,
                                   flash := s.sys.flash, uart := s.sys.uart, cause := k, held := decide (k = .resetN) } ∧
    t.evt = { State.reset.evt with gpio := s.evt.gpio.map (fun g => { pad := g.pad }) } ∧
    (∀ p, t.hport p = { outMem := (s.hport p).outMem, sent := (s.hport p).sent }) ∧
    (s.thm.safeLatch = true → t.thm = { State.reset.thm with safeLatch := true, cause := s.thm.cause, causeSensor := s.thm.causeSensor }) ∧
    (s.thm.safeLatch = false → t.thm = State.reset.thm) ∧
    (k = .resetN → t.power = State.reset.power) ∧
    (k ≠ .resetN → t.power = { State.reset.power with braid := .on, sram := List.replicate 8 .on }) ∧
    (k = .watchdog ∨ k = .steward →
      t.time = { s.time with cmps := s.time.cmps.map (fun c => { c with armed := false }), caps := List.replicate 8 {} } ∧
      t.latches = s.latches) ∧
    (k = .resetN ∨ k = .lifeCycle → t.time = State.reset.time ∧ t.latches = State.reset.latches))

/-- The other device resets begin with the heater ramp (R303, R304): RESET_N low for 1 µs or longer, and, where start-up has not
halted, a write of LCS_SRESET with its key, and, with LCSTRAP high, the life cycle's transitions (R322): from OPEN or SEALED the maker's
authorisation, and from these and RETURNED the key of LCS_LC_REQ, which erase the NVM first (R324, R337); from MAKER the
authorisation that the final test has passed, to OPEN (log 155: one command carries both authorisations, and Zwiheral's move from
RETURNED to END is made with the key). A halt ends at RESET_N or at power-on only (R309). F pads go to zero drive at the start of the
ramp; a spare engine that is being substituted goes off (log 133). -/
def Obligations.DeviceResetsBegin : Prop :=
  (∀ s : State, s.sys.resetting = none → s.sys.held = false →
    (∀ lowNs, 1000 ≤ lowNs → ∃ t, exec (.resetNReset lowNs) s = .next t ∧ t = { s with clusters := t.clusters, sys := t.sys, spares := t.spares } ∧
      t.sys = { s.sys with resetting := some .resetN } ∧ (∀ c n, (s.clu c).pow = .on → n < (s.clu c).cells.length →
        (t.clu c).pdown = true ∧ ((t.clu c).cell n).uf = 0 ∧ ((t.clu c).cell n).fParked = true)) ∧
    (∀ lowNs, lowNs < 700 → exec (.resetNReset lowNs) s = .next s)) ∧
  (∀ s : State, s.sys.resetting = none → s.sys.held = false → s.sys.halt = 0 →
    (∀ (m : Master) (v : Word), s.rwsWriter m.val = true → s.power.periph = .on → v.toNat % 65536 = 0xA5C3 →
      v.toNat / 65536 % 2 = 1 ∨ s.fab.circuits = [] → ∃ t, exec (.lcsSresetWrite m v) s = .next t ∧
        t = { s with clusters := t.clusters, sys := t.sys, spares := t.spares } ∧
        t.sys = { s.sys with srForce := decide (v.toNat / 65536 % 2 = 1), srRefused := false, resetting := some .steward } ∧
        (∀ c n, (s.clu c).pow = .on → n < (s.clu c).cells.length →
          (t.clu c).pdown = true ∧ ((t.clu c).cell n).uf = 0 ∧ ((t.clu c).cell n).fParked = true)) ∧
    (s.sys.strap = true → s.sys.lc = .open_ ∨ s.sys.lc = .sealed_ →
      ∃ t, exec .makerAuthorisation s = .next t ∧ t = { s with clusters := t.clusters, sys := t.sys, spares := t.spares } ∧
        t.sys = { s.sys with lc := .returned, flash := s.sys.flash.map (fun f => { jedec := f.jedec, sfdp := f.sfdp }), resetting := some .lifeCycle }) ∧
    (s.sys.strap = true → s.sys.lc = .maker →
      ∃ t, exec .makerAuthorisation s = .next t ∧ t = { s with clusters := t.clusters, sys := t.sys, spares := t.spares } ∧
        t.sys = { s.sys with lc := .open_, resetting := some .lifeCycle }) ∧
    (∀ (m : Master) (v : Word), s.sys.strap = true → s.sys.lc = .open_ ∨ s.sys.lc = .sealed_ ∨ s.sys.lc = .returned → s.rwsWriter m.val = true →
      s.power.periph = .on → v.toNat % 65536 = 0x3E0D →
      ∃ t, exec (.lcsLcReqWrite m v) s = .next t ∧ t = { s with clusters := t.clusters, sys := t.sys, spares := t.spares } ∧
        t.sys = { s.sys with lc := .ended, flash := s.sys.flash.map (fun f => { jedec := f.jedec, sfdp := f.sfdp }), resetting := some .lifeCycle })) ∧
  (∀ (s : State) (m : Master) (v : Word), s.rwsWriter m.val = true → s.power.periph = .on →
      ¬(v.toNat % 65536 = 0xA5C3 ∧ (v.toNat / 65536 % 2 = 1 ∨ s.fab.circuits = [])) ∨ s.sys.halt ≠ 0 →
      exec (.lcsSresetWrite m v) s = .next { s with sys := { s.sys with srRefused := true } }) ∧
  (∀ s : State, s.sys.halt ≠ 0 → exec .makerAuthorisation s = .next s)

/-- CHURN and the clock (R306, R307, R161, R162, R308, R371): the release of RESET_N powers braid and SRAM; a lost supply
other than VCORE and VIO parks every pad at once; the PLL's lock, or the lack of a reference in LOAD, starts the counters; the
SRAM fill leaves every SRAM byte zero and begins LOAD, or halts start-up, as does a check of the ROM that fails (R336; that it is made
here is log 103). -/
def Obligations.StartUpClockAndSram : Prop :=
  (∀ (s : State) (strap : Bool), s.sys.held = true → ∃ t, exec (.resetRelease strap) s = .next t ∧
    t = { s with sys := t.sys, power := t.power } ∧ t.sys = { s.sys with held := false, strap := strap, supplyOut := false } ∧
    t.power = { s.power with braid := .on, sram := List.replicate 8 .on }) ∧
  (∀ (s : State) (rail : Rail), rail ≠ .vcore → rail ≠ .vio → ∃ t, exec (.supplyLoss rail) s = .next t ∧
    t = { s with clusters := t.clusters, sys := t.sys } ∧ t.sys = { s.sys with supplyOut := true } ∧
    (∀ c n, n < (s.clu c).cells.length → ((t.clu c).cell n).parked = true ∧ ((t.clu c).cell n).fParked = true ∧
      ((t.clu c).cell n).uh = 0 ∧ ((t.clu c).cell n).uf = 0)) ∧
  (∀ (s : State) (freq : Fin 4), s.sys.held = false → s.time.pllLock = false → s.time.run = false →
    exec (.pllLock freq) s = .next { s with time := { s.time with run := true, pllLock := true, refValid := true, refFreq := freq.val } }) ∧
  (∀ s : State, s.time.run = false → s.sys.mode = .load → exec .refAbsentStart s =
    .next { s with time := { s.time with run := true, refLost := true, refLostSeen := true, srv := .freerun },
                   sys := { s.sys with refAbsent := true } }) ∧
  (∀ s : State, s.sys.mode = .churn → s.sys.held = false → s.sys.resetting = none → s.sys.sramOk = false →
    (∀ rom, ∃ t, exec (.sramWipeDone ⟨true, rom⟩) s = .next t ∧ t.sys.sramOk = true ∧ t.power.periph = .on ∧
      (∀ a, 0x2000000000 ≤ a → a < 0x2002000000 → Mem.read t.mem a = 0) ∧
      (∀ a, a < 0x2000000000 ∨ 0x2002000000 ≤ a → Mem.read t.mem a = Mem.read s.mem a) ∧
      (s.sys.lc ≠ .returned → s.sys.lc ≠ .ended → rom = true → t.sys.mode = .load ∧ t.sys.stage = 1 ∧ t.power.hkc = .on ∧
        t.power.cores = List.replicate 4 .on ∧ t.sys.halt = s.sys.halt) ∧
      (s.sys.lc ≠ .returned → s.sys.lc ≠ .ended → rom = false → t.sys.mode = .load ∧ t.sys.halt = 4 ∧ t.power.cores = s.power.cores) ∧
      (s.sys.lc = .returned ∨ s.sys.lc = .ended → t.sys.mode = .churn ∧ t.sys.halt = s.sys.halt)) ∧
    (∀ rom, ∃ t, exec (.sramWipeDone ⟨false, rom⟩) s = .next t ∧ t.sys.mode = .load ∧ t.sys.halt = 1 ∧ t.mem = s.mem ∧ t.clusters = s.clusters))

/-! ### Start-up, LOAD and power domains -/

/-- LOAD's image check (R307, R309, R320, R321, R322, R326, R333; that it waits for the counters is log 151, the signature of the
parameter table log 175): the first slot in the order of generations that passes runs, and start-up halts if it fits no DRAM channel;
with no flash, with no slot that passes, be one erased or both failed, or in MAKER, start-up halts in LOAD. In a halt the boot status
goes to the UART. -/
def Obligations.ImageCheckChoosesSlot : Prop :=
  (∀ (s : State) (f : Flash) (k : Nat) (ks : List Nat) (b : List Byte), s.sys.mode = .load → s.sys.stage = 1 → s.firmware = true →
    s.time.run = true → f.signed = true →
    s.sys.lc ≠ .maker → slotOrder (slotGen f.slotA) (slotGen f.slotB) = k :: ks →
    s.trySlot f k = .inr b → ((imageOf b).dram.getD 0 {}).fitted = true ∨ ((imageOf b).dram.getD 1 {}).fitted = true →
    ∃ t, exec (.loadImageCheck (some f)) s = .next t ∧ t = { s with sys := t.sys, power := t.power } ∧
      t.sys.img = some { bytes := b, image := imageOf b } ∧ t.sys.imgSlot = k ∧ t.sys.genImg = (readHdr b).generation ∧ t.sys.stage = 2 ∧
      t.sys.flash = some f ∧ t.sys.idJedec = f.jedec ∧ t.sys.idSfdp = f.sfdp ∧
      t.sys.imgFail = s.sys.imgFail ∧ t.sys.halt = s.sys.halt ∧ t.power.recorder = .on ∧ t.power.dma = .on ∧ t.power.solver = .on ∧
      t.power.ddr = [if ((imageOf b).dram.getD 0 {}).fitted then .on else .off, if ((imageOf b).dram.getD 1 {}).fitted then .on else .off]) ∧
  (∀ (s : State) (f : Flash) (k1 k2 : Nat) (e : BootFail) (b : List Byte), s.sys.mode = .load → s.sys.stage = 1 → s.firmware = true →
    s.time.run = true → f.signed = true →
    s.sys.lc ≠ .maker → slotOrder (slotGen f.slotA) (slotGen f.slotB) = [k1, k2] →
    s.trySlot f k1 = .inl e → s.trySlot f k2 = .inr b →
    ((imageOf b).dram.getD 0 {}).fitted = true ∨ ((imageOf b).dram.getD 1 {}).fitted = true → ∃ t, exec (.loadImageCheck (some f)) s = .next t ∧
      t = { s with sys := t.sys, power := t.power } ∧
      t.sys.img = some { bytes := b, image := imageOf b } ∧ t.sys.imgSlot = k2 ∧ t.sys.imgFail = setAt true k1 s.sys.imgFail ∧ t.sys.stage = 2 ∧
      t.sys.halt = s.sys.halt) ∧
  (∀ (s : State) (f : Flash) (k : Nat) (ks : List Nat) (b : List Byte), s.sys.mode = .load → s.sys.stage = 1 → s.firmware = true →
    s.time.run = true → f.signed = true →
    s.sys.lc ≠ .maker → slotOrder (slotGen f.slotA) (slotGen f.slotB) = k :: ks →
    s.trySlot f k = .inr b → ((imageOf b).dram.getD 0 {}).fitted = false → ((imageOf b).dram.getD 1 {}).fitted = false →
    ∃ t, exec (.loadImageCheck (some f)) s = .next t ∧ t.sys.img = some { bytes := b, image := imageOf b } ∧ t.sys.halt = 3 ∧
      t.sys.mode = .load) ∧
  (∀ (s : State) (f : Flash) (k1 k2 : Nat) (e1 e2 : BootFail), s.sys.mode = .load → s.sys.stage = 1 → s.firmware = true →
    s.time.run = true → f.signed = true →
    s.sys.lc ≠ .maker → slotOrder (slotGen f.slotA) (slotGen f.slotB) = [k1, k2] →
    s.trySlot f k1 = .inl e1 → s.trySlot f k2 = .inl e2 → ∃ t, exec (.loadImageCheck (some f)) s = .next t ∧
      t.sys.halt = 2 ∧ t.sys.mode = .load ∧ t.sys.imgFail = setAt true k2 (setAt true k1 s.sys.imgFail) ∧ t.sys.img = s.sys.img ∧
      (s.sys.bootRule = 0 → e1.rule ≠ 0 → t.sys.bootTag = e1.tag ∧ t.sys.bootOfs = e1.ofs ∧ t.sys.bootRule = e1.rule)) ∧
  (∀ (s : State) (f : Flash) (k : Nat) (e : BootFail), s.sys.mode = .load → s.sys.stage = 1 → s.firmware = true →
    s.time.run = true → f.signed = true → s.sys.lc ≠ .maker → k ≤ 1 → slotErased (f.image k) = false → f.image (1 - k) = none →
    s.trySlot f k = .inl e → ∃ t, exec (.loadImageCheck (some f)) s = .next t ∧
      t.sys.halt = 2 ∧ t.sys.mode = .load ∧ t.sys.imgFail = setAt true (1 - k) (setAt true k s.sys.imgFail) ∧ t.sys.img = s.sys.img ∧
      (s.sys.bootRule = 0 → e.rule ≠ 0 → t.sys.bootTag = e.tag ∧ t.sys.bootOfs = e.ofs ∧ t.sys.bootRule = e.rule)) ∧
  (∀ (s : State) (f : Option Flash), s.sys.mode = .load → s.sys.stage = 1 → s.firmware = true → s.time.run = true →
    s.sys.lc = .maker ∨ (f.orElse (fun _ => s.sys.flash)).filter Flash.signed = none →
    ∃ t, exec (.loadImageCheck f) s = .next t ∧ t.sys.halt = 2 ∧ t.sys.mode = .load ∧
      t.sys.absent = ((f.orElse (fun _ => s.sys.flash)).filter Flash.signed).isNone ∧ t.sys.img = s.sys.img) ∧
  (∀ s : State, s.sys.halt ≠ 0 → ∃ t, exec .haltUartReport s = .next t ∧ t = { s with sys := t.sys } ∧
    t.sys = { s.sys with uart := s.sys.uart ++ [(s.sys.stage, s.sys.halt, s.sys.bootTag, s.sys.bootOfs, s.sys.bootRule)] })

/-- DDR training and wipe in LOAD (R306, R307): a channel trains; its fill leaves each of its bytes zero and touches no other; a
channel that fails is marked, and LOAD goes on while the other is under way or good, or halts where it failed too. Once both have
trained or ended, the atlas is chosen while the wipe runs (R330; STAGE 3 of R336), and with the next such step the sections are
applied (STAGE 4): at which of these steps each stage is passed is the model's choice (log 103). -/
def Obligations.DdrChannelsCome : Prop :=
  ∀ (s : State) (c d : Fin 2), c ≠ d → s.sys.mode = .load → s.sys.stage = 2 ∨ s.sys.stage = 3 ∨ s.sys.stage = 4 → s.firmware = true →
    s.sys.halt = 0 → s.power.ddr.getD c.val .off = .on → s.sys.ddrDone.length = 2 → s.sys.ddrTrained.length = 2 → s.sys.ddrOk.length = 2 →
    s.sys.ddrFail.length = 2 → s.sys.ddrDone.getD c.val true = false →
    (s.sys.ddrTrained.getD c.val false = false →
      ((s.sys.stage = 2 ∧ s.ddrPast d.val = false) ∨ s.sys.stage = 4 → exec (.ddrTrainingDone c true) s =
        .next { s with sys := { s.sys with ddrTrained := setAt true c.val s.sys.ddrTrained } }) ∧
      (s.sys.stage = 2 → s.ddrPast d.val = true → ∃ t, exec (.ddrTrainingDone c true) s = .next t ∧ t = { s with sys := t.sys } ∧
        t.sys.stage = 3 ∧ t.sys.ddrTrained = setAt true c.val s.sys.ddrTrained ∧ t.sys.ddrDone = s.sys.ddrDone ∧ t.sys.halt = 0 ∧
        t.sys.atlas = (s.sys.flash.bind (chooseAtlas s.image.fabm)).map (·.2))) ∧
    (∀ i : Instr, (s.sys.ddrTrained.getD c.val false = false ∧ i = .ddrTrainingDone c false) ∨
        (s.sys.ddrTrained.getD c.val false = true ∧ i = .dramWipeDone c false) →
      (s.sys.ddrDone.getD d.val true = false ∨ s.sys.ddrOk.getD d.val false = true → ∃ t, exec i s = .next t ∧
        t.sys.ddrFail = setAt true c.val s.sys.ddrFail ∧ t.sys.ddrDone = setAt true c.val s.sys.ddrDone ∧ t.sys.halt = 0 ∧
        t.sys.mode = .load) ∧
      (s.sys.ddrDone.getD d.val true = true → s.sys.ddrOk = [false, false] → ∃ t, exec i s = .next t ∧
        t.sys.ddrFail = setAt true c.val s.sys.ddrFail ∧ t.sys.halt = 3 ∧ t.sys.mode = .load)) ∧
    (s.sys.ddrTrained.getD c.val false = true →
      ((s.sys.stage = 2 ∧ s.ddrPast d.val = false) ∨ s.sys.stage = 4 → ∃ t, exec (.dramWipeDone c true) s = .next t ∧
        t = { s with sys := { s.sys with ddrOk := setAt true c.val s.sys.ddrOk, ddrDone := setAt true c.val s.sys.ddrDone }, mem := t.mem } ∧
        (∀ a, Mem.read t.mem a = if chBase c.val ≤ a ∧ a < chBase c.val + 2 ^ 36 then 0 else Mem.read s.mem a)) ∧
      (s.sys.stage = 3 → ∃ t, exec (.dramWipeDone c true) s = .next t ∧ t.sys.stage = 4 ∧ t.sys.halt = 0 ∧ t.sys.mode = .load ∧
        t.sys.ddrOk = setAt true c.val s.sys.ddrOk ∧ t.sys.ddrDone = setAt true c.val s.sys.ddrDone))

/-- LOAD ends (R306, R311, R322, R323, R331, R332): READY set; with the SAFE latch set the mode is SAFE; without it, with an atlas in use
and no sweep to continue, SERVICE; without a usable atlas CALIBRATE with a new sweep of generation 1 into slot A; with a sweep to
continue CALIBRATE too, with a new sweep where it may not be resumed, else the same one (it goes straight to its commit where every
block is good, the port-end taps' too). An OPEN device whose image asks for it with LCSTRAP high fuses the owner-key hash, is SEALED and
begins the life-cycle reset. -/
def Obligations.LoadEndsInItsMode : Prop :=
  ∀ s : State, s.loadDone = true →
    (s.sealDue = false ∨ s.sys.strap = false → s.thm.safeLatch = true → ∃ t, exec .loadEnd s = .next t ∧ t.sys.mode = .safe ∧
      t.sys.ready = true ∧ t.sys.stage = 5 ∧ t.sys.lc = s.sys.lc ∧ t.rcd.on = true ∧ t.evt.applied = true ∧
      t.net.aTxdis = true ∧ t.net.bTxdis = true) ∧
    (s.sealDue = false ∨ s.sys.strap = false → s.thm.safeLatch = false → s.openSweep = none → s.sys.atlas.isSome = true →
      ∃ t, exec .loadEnd s = .next t ∧ t.sys.mode = .service ∧ t.sys.ready = true ∧ t.rcd.on = true ∧ t.sys.lc = s.sys.lc) ∧
    (s.sealDue = false ∨ s.sys.strap = false → s.thm.safeLatch = false → s.openSweep = none → s.sys.atlas = none →
      ∃ t w, exec .loadEnd s = .next t ∧ t.sys.mode = .calibrate ∧ t.sys.ready = true ∧ t.rcd.on = true ∧ t.sys.lc = s.sys.lc ∧
        t.sys.sweep = some w ∧ w.gen = 1 ∧ w.slot = 0 ∧ w.resumed = false ∧ w.filed = []) ∧
    (∀ (e : JournalEntry) (es : List JournalEntry), s.sealDue = false ∨ s.sys.strap = false → s.thm.safeLatch = false →
      s.openSweep = some (e, es) →
      ¬(s.image.atls.calResume = true ∧ e.gen = s.nextGen ∧ (s.sys.atlas = none ∨ e.slot ≠ s.sys.atlSlot)) →
      ∃ t w, exec .loadEnd s = .next t ∧ t.sys.mode = .calibrate ∧ t.sys.ready = true ∧
        t.sys.sweep = some w ∧ w.gen = s.nextGen ∧ w.resumed = false ∧ w.filed = []) ∧
    (∀ (e : JournalEntry) (es : List JournalEntry), s.sealDue = false ∨ s.sys.strap = false → s.thm.safeLatch = false →
      s.openSweep = some (e, es) →
      s.image.atls.calResume = true → e.gen = s.nextGen → s.sys.atlas = none ∨ e.slot ≠ s.sys.atlSlot →
      (s.keepBlocks es { gen := e.gen, slot := e.slot, resumed := true }).portsFiled = false →
      ∃ t w, exec .loadEnd s = .next t ∧ t.sys.mode = .calibrate ∧ t.sys.calResumed = true ∧
        t.sys.sweep = some w ∧ w.gen = e.gen ∧ w.slot = e.slot ∧ w.resumed = true ∧
        w.filed = (s.keepBlocks es { gen := e.gen, slot := e.slot, resumed := true }).filed) ∧
    (s.sealDue = true → s.sys.strap = true → s.sys.resetting = none → s.sys.held = false → ∃ t, exec .loadEnd s = .next t ∧
      t.sys.ready = true ∧ t.sys.lc = .sealed_ ∧ t.sys.keyFused = true ∧
      t.sys.keyHash = s.image.idnt.ownerKeyHash ∧ t.sys.resetting = some .lifeCycle ∧ t.sys.flash = s.sys.flash)

/-- Power domains (R16, R17, R24, R116, R139, R306): a request to switch on a domain whose needs are met raises it and its power-up
completes; one to switch on a domain whose needs are not met, or to switch off one that others need, is refused with nothing changed
(log 135 says which needs the model reads into R16); switching off takes effect, for a cluster as the beginning of its ramp; the next
tile row comes up with its island and its clusters, once the braid is on and no cluster of it still ramps. Moves that found no path are
tried again where a cluster of their instance comes up or goes down. -/
def Obligations.PowerDomainsSwitch : Prop :=
  (∀ (s : State) (d : Domain), s.firmware = true → d = .hkc ∨ d = .recorder ∨ d = .dma ∨ d = .solver ∨ d = .periph ∨ d = .braid →
    s.domPow d = .off → s.domNeeds d = true → ∃ t, exec (.powerDomainRequest d true) s = .next t ∧ t = { s with power := t.power } ∧
      t.domPow d = .rising ∧ ∀ cal, ∃ u, exec (.powerDomainUp d cal) t = .next u ∧ u = { s with power := u.power } ∧ u.domPow d = .on) ∧
  (∀ (s : State) (d : Domain), Safe.sized s → s.firmware = true → s.domPow d = .off → s.domNeeds d = true →
    ∃ t, exec (.powerDomainRequest d true) s = .next t ∧ t.domPow d = .rising ∧
      t = { s with power := t.power, clusters := t.clusters, islands := t.islands, spares := t.spares, net := t.net }) ∧
  (∀ (s : State) (d : Domain) (cal : List (List Nat)), Safe.sized s → s.domPow d = .rising →
    ∃ t, exec (.powerDomainUp d cal) s = .next t ∧ t.domPow d = .on ∧
      t = { s with power := t.power, clusters := t.clusters, islands := t.islands, spares := t.spares, net := t.net, fab := t.fab }) ∧
  (∀ (s : State) (d : Domain), s.firmware = true → s.domNeeds d = false → exec (.powerDomainRequest d true) s = .next s) ∧
  (∀ (s : State) (c : Fin 256) (k : Cluster), s.firmware = true → s.clusters[c.val]? = some k → k.pow = .off →
    s.domNeeds (.cluster c) = true → ∃ t, exec (.powerDomainRequest (.cluster c) true) s = .next t ∧ t = { s with clusters := t.clusters } ∧
      t.domPow (.cluster c) = .rising) ∧
  (∀ (s : State) (c : Fin 256) (cal : List (List Nat)), s.domPow (.cluster c) = .rising → ∃ t, exec (.powerDomainUp (.cluster c) cal) s = .next t ∧
    t = { s with clusters := t.clusters, spares := t.spares,
                 fab := { s.fab with retireRetry := s.fab.retireRetry.filter (fun q => !s.inCluster c.val q.1),
                                     retireSingly := s.fab.retireSingly.filter (fun i => !s.inCluster c.val i) } } ∧
    t.domPow (.cluster c) = .on ∧ (t.clu c.val).everOn = true ∧
    (t.clu c.val).allow = 0xFFFFFFFF ∧ (t.clu c.val).derate = 0xFFFF) ∧
  (∀ (s : State) (d : Domain), s.firmware = true → s.offBreaks d = true → exec (.powerDomainRequest d false) s = .next s) ∧
  (∀ (s : State) (d : Domain), s.firmware = true → s.offBreaks d = false → d = .hkc ∨ d = .recorder ∨ d = .dma ∨ d = .solver ∨ d = .periph ∨
    d = .braid → s.domPow d = .on → ∃ t, exec (.powerDomainRequest d false) s = .next t ∧ t = { s with power := t.power } ∧ t.domPow d = .off) ∧
  (∀ (s : State) (d : Domain), Safe.sized s → s.firmware = true → s.offBreaks d = false → s.domPow d = .on →
    ∃ t, exec (.powerDomainRequest d false) s = .next t ∧
      match d with
      | .cluster c => (t.clu c.val).pdown = true
      | .core _ | .sram _ | .pcie _ | .ddr _ | .hkc | .recorder | .dma | .solver | .periph | .braid | .spare _ | .island _ | .net _ =>
        t.domPow d = .off) ∧
  (∀ (s : State) (r : Nat) (rs : List Nat) (i : Island) (cal : List (List (List Nat))), s.sys.rowsLeft = r :: rs → s.firmware = true → s.islands[r]? = some i →
    s.power.braid = .on → s.rowRamps r = false →
    ∃ t, exec (.clusterRowPowerUp cal) s = .next t ∧
      t = { s with clusters := t.clusters, islands := t.islands, spares := t.spares, sys := t.sys, fab := t.fab } ∧
      t.sys = { s.sys with rowsLeft := rs } ∧ (t.island r).pow = .on ∧
      (∀ c, c < s.clusters.length → c ∈ s.rowClusters r → (t.clu c).pow = .on) ∧
      (∀ c, c ∉ s.rowClusters r → t.clu c = if i.pow ≠ .on ∧ c / 16 = r then { s.clu c with iAcc := 0 } else s.clu c))

/-! ### Cells, clusters and engines -/

/-- A sample boundary (R10, R11, R12, R50, R75, R89, R101): the instant and the index of the boundary; the loop events of the states
in force from it are raised there; where the engine has completed the period, its results take effect and the run of misses ends; where
it has not, the outputs are held and the miss is counted. -/
def Obligations.BoundaryAppliesOutputs : Prop :=
  ∀ (s s1 : State) (c : Fin 256) (k : Cluster) (inputs : List RawInput) (diff : List Nat), s.clusters[c.val]? = some k → k.pow = .on →
    reach 4000000000 (s.nextBoundary c.val) s = some s1 → k.pdown = false → k.fast = false → k.islandRamp = false → s.sys.supplyOut = false →
    ∃ t, exec (.clusterBoundary c inputs diff) s = .next t ∧ (t.clu c.val).lastB = some (s.nextBoundary c.val) ∧
      (t.clu c.val).bIx = k.bIx + 1 ∧ (t.clu c.val).done = false ∧
      (t.clu c.val).owedDark = false ∧ (t.clu c.val).owedStuck = false ∧ (t.clu c.val).owedLimit = false ∧
      (∀ (x : Nat) (owed : Bool), (x, owed) ∈ [(0, k.owedDark), (1, k.owedStuck), (2, k.owedLimit)] → owed = true →
        (x < s1.evt.cluMap.length → (t.evt.cluMap.getD x 0).testBit c.val = true) ∧
        (s1.evt.cluAt.getD x none = none → ∀ ch ∈ s1.evt.takers (0x40 + x), (⟨ch, none⟩ : ChanOcc) ∈ t.evt.chanIn)) ∧
      (k.lastB ≠ none → s.hasCells c.val = true → k.skipping = false → k.discarded = false → k.source ≠ .none → k.done = true →
        (t.clu c.val).consecMiss = 0 ∧ (t.clu c.val).missCnt = k.missCnt ∧
        ∀ (i : Nat) (q : Cell) (e : Eng), k.cells[i]? = some q → q.out = some e → e.st ≠ .off → e.st ≠ .retired → q.brk = false →
          q.rangeBusy = false → q.apply = false → q.hParked = false → ((t.clu c.val).cell i).uf = e.uF ∧ ((t.clu c.val).cell i).uh = e.uH ∧
            ((t.clu c.val).cell i).parked = false) ∧
      (k.lastB ≠ none → s.hasCells c.val = true → k.skipping = false → k.source ≠ .none → k.done = false →
        (s.spare (c.val / 16)).switched = false →
        (t.clu c.val).consecMiss = sat8 k.consecMiss ∧ (t.clu c.val).missCnt = sat32 k.missCnt ∧
        ∀ (i : Nat) (q : Cell), k.cells[i]? = some q → q.brk = false → q.rangeBusy = false → q.apply = false →
          ((t.clu c.val).cell i).uf = q.uf ∧ ((t.clu c.val).cell i).uh = q.uh)

/-- An engine's period (R50, R59, R70, R90, R93): a clean or corrected period completes, every cell has results that wait for
the boundary, the applied codes stay as they are, and Σ m_k and s_c are formed so that s_c × Σ m_k stays within the
allowance; a first residue mismatch discards the period; an uncorrectable error fails the engine. -/
def Obligations.EnginePeriodCompletes : Prop :=
  ∀ (s : State) (c : Fin 256) (k : Cluster) (slack : Nat) (pads : List PadSense), s.clusters[c.val]? = some k → k.pow = .on →
    k.lastB ≠ none → k.done = false → k.discarded = false → k.skipping = false → k.source ≠ .none → s.hasCells c.val = true →
    (∀ chk, chk = .clean ∨ (∃ n, chk = .corrected n) → ∃ t, exec (.loopPeriodDone c chk slack pads) s = .next t ∧
      t = { s with clusters := t.clusters, fab := t.fab, sys := t.sys } ∧ (t.clu c.val).done = true ∧
      (t.clu c.val).periods = k.periods + 1 ∧ (t.clu c.val).slack = min 0xFFFF slack ∧
      (0 ≤ (t.clu c.val).demandOut → (t.clu c.val).bscaleOut * (t.clu c.val).demandOut ≤ max ((k.latAllow : Nat) : Rat) 0) ∧
      (∀ i q, k.cells[i]? = some q → ((t.clu c.val).cell i).out.isSome = true ∧ ((t.clu c.val).cell i).uf = q.uf ∧
        ((t.clu c.val).cell i).uh = q.uh) ∧
      (∀ d, d ≠ c.val → t.clu d = s.clu d)) ∧
    (k.sinceRes = none → ∃ t, exec (.loopPeriodDone c .residue slack pads) s = .next t ∧ t = { s with clusters := t.clusters } ∧
      t.clu c.val = { k with residue := true, discarded := true, sinceRes := some 0 }) ∧
    (k.source = .native → ∃ t, exec (.loopPeriodDone c .eccUe slack pads) s = .next t ∧ t = { s with clusters := t.clusters, spares := t.spares } ∧
      (t.clu c.val).eccUe = true ∧ (t.clu c.val).failed = true ∧ (t.clu c.val).source = .none)

/-- The dark and lit tests (R76, R78) and the frozen-feedback test (R79, R81, R102): DARK after eight dark samples, back to HITCH or
TRACK after four lit ones, STUCK after STUCK_K equal raw samples, or at sixteen episodes HOLD, with
PEND_RETIRE where RETIRE_N is not 0 (the model's reading of R81 beside R102, log 130); the event is owed to the next boundary (R75). -/
def Obligations.DarkLitFrozenTransitions : Prop :=
  ∀ (s : State) (n : Fin 8192) (e : Eng), s.tests n.val = true → (s.cell n.val).engNow = e →
    (closed e = true → 8 ≤ e.darkRun → parked e = false → frozenCode (s.cls n.val) e = false → ∃ t, exec (.darkDetect n) s = .next t ∧
      t = { s with clusters := t.clusters } ∧ (t.clu (n.val / 32)).owedDark = true ∧ (t.cell n.val).engNow.st = .dark ∧ (t.cell n.val).engNow.prev = e.st ∧
      (t.cell n.val).engNow.darkEntries = sat8 e.darkEntries ∧ (t.cell n.val).uf = (s.cell n.val).uf ∧ (t.cell n.val).uh = (s.cell n.val).uh ∧
      (∀ m, m ≠ n.val → t.cell m = s.cell m)) ∧
    (e.st = .dark → 4 ≤ e.litRun → frozenCode (s.cls n.val) e = false → ∃ t, exec (.litDetect n) s = .next t ∧
      t = { s with clusters := t.clusters } ∧ (t.cell n.val).engNow.st = (if e.pSet = e.pGoal then .track else .hitch) ∧
      (t.cell n.val).engNow.win = [] ∧ (∀ m, m ≠ n.val → t.cell m = s.cell m)) ∧
    (frozenCode (s.cls n.val) e = true → e.stuckEpis < 16 → ∃ t, exec (.frozenCodeRun n) s = .next t ∧
      (t.clu (n.val / 32)).owedStuck = true ∧ (t.cell n.val).engNow.st = .stuck ∧ (t.cell n.val).engNow.beforeStuck = e.st ∧ (t.cell n.val).uf = (s.cell n.val).uf) ∧
    (frozenCode (s.cls n.val) e = true → 16 ≤ e.stuckEpis → ∃ t, exec (.frozenCodeRun n) s = .next t ∧
      (t.cell n.val).engNow.st = .hold ∧ (t.cell n.val).engNow.cause = .fault ∧ ((t.cell n.val).engNow.pendRetire = true ↔ e.pendRetire = true ∨ (s.cls n.val).retireN ≠ 0))

/-- STUCK and HOLD end, and the H path (R58, R76, R81, R83, R85, R102): a retest that saw both taps change returns the cell to the state
before STUCK, another one holds it; 1,024 good samples end HOLD; RETIRE_N ms in HOLD (FAULT) set PEND_RETIRE; the integral moves between φ_I and h_trim
without a step of their sum in phase; a dither reversal changes the sign of the dither. -/
def Obligations.StuckHoldAndHPath : Prop :=
  (∀ (s : State) (n : Fin 8192), s.engineRuns n.val = true → (s.cell n.val).engNow.hDue = true → (s.cell n.val).engNow.honly = false →
    (s.cell n.val).engNow.noCand = false →
    (s.cell n.val).engNow.winner = .phase → 0 < (s.cell n.val).engNow.barN →
    2 * (s.cell n.val).engNow.barInvalid ≤ (s.cell n.val).engNow.barN → ((s.cell n.val).engNow.taken.getD {}).state ≠ .park →
    ∃ t, exec (.hPathUpdate n) s = .next t ∧ t = { s with clusters := t.clusters } ∧ (∀ m, m ≠ n.val → t.cell m = s.cell m) ∧
      (t.cell n.val).engNow.hDue = false ∧
      (t.cell n.val).engNow.barPrev = (s.cell n.val).engNow.barSum / (s.cell n.val).engNow.barN ∧
      (t.cell n.val).engNow.phiI + etaH (s.ctx n.val).atl * (t.cell n.val).engNow.hTrim =
        (s.cell n.val).engNow.phiI + etaH (s.ctx n.val).atl * (s.cell n.val).engNow.hTrim) ∧
  (∀ (s : State) (n : Fin 8192), s.engineRuns n.val = true → (s.cell n.val).engNow.flipDue = true →
    ∃ t, exec (.honlyDitherFlip n) s = .next t ∧ t = { s with clusters := t.clusters } ∧ (∀ m, m ≠ n.val → t.cell m = s.cell m) ∧
      (t.cell n.val).engNow.flipDue = false ∧ (t.cell n.val).engNow.dithN = 0 ∧
      (t.cell n.val).engNow.dithNeg = !(s.cell n.val).engNow.dithNeg) ∧
  (∀ (s : State) (n : Fin 8192) (e : Eng), s.tests n.val = true → (s.cell n.val).engNow = e →
    (e.st = .stuck → (s.cls n.val).stuckK ≤ e.retest → ∃ t, exec (.stuckRetestEnd n) s = .next t ∧
      t = { s with clusters := t.clusters } ∧ (e.rerun = false → e.chgMb = true → e.chgMx = true →
        (e.beforeStuck = .dark → (t.clu (n.val / 32)).owedDark = true) ∧ (e.beforeStuck = .limit → (t.clu (n.val / 32)).owedLimit = true)) ∧
      (t.cell n.val).engNow.st = (if e.rerun = false ∧ e.chgMb = true ∧ e.chgMx = true then e.beforeStuck else .hold) ∧
      (∀ m, m ≠ n.val → t.cell m = s.cell m)) ∧
    (heldFault e = true → 1024 ≤ e.recRun → ∃ t, exec (.holdRecovery n) s = .next t ∧ t = { s with clusters := t.clusters } ∧
      (t.cell n.val).engNow.st = (if e.pSet = e.pGoal then .track else .hitch) ∧ (t.cell n.val).engNow.stuckEpis = sat8 e.stuckEpis ∧
      (∀ m, m ≠ n.val → t.cell m = s.cell m)) ∧
    (heldFault e = true → (s.cls n.val).retireN ≠ 0 → (s.cls n.val).retireN * 1000000 ≤ s.runNs n.val → ∃ t, exec (.pendRetireTimeout n) s = .next t ∧
      t = { s with clusters := t.clusters, sys := t.sys, fab := t.fab } ∧ (t.cell n.val).engNow.pendRetire = true ∧
      (t.cell n.val).engNow.st = .hold ∧ (∀ m, m ≠ n.val → t.cell m = s.cell m)))

/-- Engines and their spares (R94-R98): eight misses in a row while the row has slack fail the engine; a checkpoint is kept; the
spare is powered, loaded and tested, and takes over or leaves its cells without an engine. -/
def Obligations.EngineSubstitution : Prop :=
  (∀ (s : State) (c : Fin 256) (k : Cluster), s.clusters[c.val]? = some k → k.pow = .on → k.source = .native → 8 ≤ k.consecMiss →
    s.rowHasSlack c.val = true → (∃ t, exec (.engineLivenessFail c) s = .next t ∧ t = { s with clusters := t.clusters, spares := t.spares } ∧
      (t.clu c.val).liveness = true ∧ (t.clu c.val).failed = true ∧ (t.clu c.val).source = .none ∧
      (∀ p, s.spares[c.val / 16]? = some p → p.st = .off → p.spareFailed = false → k.pdown = false →
        (t.spare (c.val / 16)).st = .powering ∧ (t.spare (c.val / 16)).cluster = c.val))) ∧
  (∀ (s : State) (c : Fin 256), (s.clu c.val).ckptDue = true → ∃ t, exec (.engineCheckpoint c) s = .next t ∧
    t = { s with clusters := t.clusters } ∧ (t.clu c.val).ckptDue = false ∧
    (t.clu c.val).ckpt = some ((s.clu c.val).cells.map (fun q => ⟨q.engNow.phiI, q.engNow.hTrim, q.engNow.j, q.engNow.thNeg,
      q.engNow.taken, q.engNow.st⟩)) ∧ (t.clu c.val).cells = (s.clu c.val).cells) ∧
  (∀ (s : State) (r : Fin 16), (s.spare r.val).st = .powering → ∃ t, exec (.sparePowered r) s = .next t ∧ t = { s with spares := t.spares } ∧
    t.spare r.val = { s.spare r.val with st := .loading }) ∧
  (∀ (s : State) (r : Fin 16), (s.spare r.val).st = .loading → ∃ t, exec (.spareLoaded r) s = .next t ∧ t = { s with spares := t.spares } ∧
    t.spare r.val = { s.spare r.val with st := .selftest }) ∧
  (∀ (s : State) (r : Fin 16), (s.spare r.val).st = .selftest →
    (∃ t, exec (.spareSelftestDone r true) s = .next t ∧ t = { s with spares := t.spares } ∧
      t.spare r.val = { s.spare r.val with st := .active, switched := true, firstAt := none }) ∧
    (∃ t, exec (.spareSelftestDone r false) s = .next t ∧ t = { s with spares := t.spares, clusters := t.clusters } ∧
      t.spare r.val = { s.spare r.val with st := .failed, spareFailed := true } ∧
      ((s.spare r.val).cluster < s.clusters.length → (t.clu (s.spare r.val).cluster).source = .none)))

/-- Pads and taps (R82, R110, R113, R114, R123, R124): an F pad condition of sixteen periods makes the cell heater-only; an
over-current sets k = 0 for the period and H_OC, the fourth within 1,024 periods parks the heater pad; PADCFG is taken; the
break ends and the settings as last written are in force (the model's choice where they were written during the break, log 37); the dark trim moves by at most 1 within ±8; an auto-ranging tap steps its range. -/
def Obligations.PadsAndTaps : Prop :=
  (∀ (s : State) (n : Fin 8192), s.engineRuns n.val = true → 16 ≤ (s.cell n.val).padRun → (s.cell n.val).fPadFault = false →
    ∃ t, exec (.fPadFault n) s = .next t ∧ t = { s with clusters := t.clusters, sys := t.sys, fab := t.fab } ∧
      (t.cell n.val).fPadFault = true ∧ (t.cell n.val).engNow.honly = true ∧ (∀ m, m ≠ n.val → t.cell m = s.cell m)) ∧
  (∀ (s : State) (n : Fin 8192) (c : Cell), s.cluOn (n.val / 32) = true → (s.clu (n.val / 32)).cells[n.val % 32]? = some c → c.parked = false →
    c.hParked = false → c.hOff = false → ∃ t, exec (.heaterOcTrip n) s = .next t ∧ (t.cell n.val).hOff = true ∧ (t.cell n.val).hOc = true ∧
      ((t.cell n.val).hParked = true ↔ 4 ≤ (((s.clu (n.val / 32)).bIx :: c.trips).filter (fun b => decide ((s.clu (n.val / 32)).bIx < b + 1024))).length) ∧
      (∀ m, m / 32 ≠ n.val / 32 → t.cell m = s.cell m) ∧
      (∀ m, m ≠ n.val → m / 32 = n.val / 32 → m % 32 < (s.clu (m / 32)).cells.length →
        t.cell m = (Cell.modTo (s.clu (m / 32)).latV s.now (s.cell m)).1) ∧
      t = { s with clusters := t.clusters, islands := t.islands, hkc := t.hkc }) ∧
  (∀ (s : State) (n : Fin 8192) (v : Word) (c : Cell), s.cluOn (n.val / 32) = true → (s.clu (n.val / 32)).cells[n.val % 32]? = some c →
    ∃ t, exec (.padcfgApply n v) s = .next t ∧ t = { s with clusters := t.clusters } ∧
      t.cell n.val = { c with apply := c.apply || v.getLsbD 12, cfg := ⟨v.getLsbD 11, v.toNat / 512 % 4, v.getLsbD 8, v.toNat / 64 % 4,
        v.toNat % 4⟩ } ∧
      (∀ m, m ≠ n.val → t.cell m = s.cell m)) ∧
  (∀ (s s1 : State) (n : Fin 8192), (s.cell n.val).brk = true → reach 4000000000 ((s.cell n.val).brkAt + 2000) s = some s1 →
    ∃ t, exec (.rangeBreakEnd n) s = .next t ∧ (t.cell n.val).brk = false ∧ (t.cell n.val).cfgNow = (s.cell n.val).cfg ∧
      (∀ m, m ≠ n.val → t.cell m = s.cell m)) ∧
  (∀ (s : State) (n : Fin 8192) (c : Cell), s.cell n.val = c → c.eng.st = .dark → 1024 ≤ c.dkN → -8 ≤ c.trimMb → c.trimMb ≤ 8 →
    ∃ t, exec (.darkTrimUpdate n) s = .next t ∧ t = { s with clusters := t.clusters } ∧ (t.cell n.val).dkN = 0 ∧
      c.trimMb - 1 ≤ (t.cell n.val).trimMb ∧ (t.cell n.val).trimMb ≤ c.trimMb + 1 ∧ -8 ≤ (t.cell n.val).trimMb ∧ (t.cell n.val).trimMb ≤ 8 ∧
      (1 ≤ c.dkSumMb / c.dkCntMb → (t.cell n.val).trimMb = min 8 (c.trimMb + 1)) ∧ (∀ m, m ≠ n.val → t.cell m = s.cell m)) ∧
  (∀ (s : State) (c : Fin 256) (x : Fin 4) (b : Int) (p : PTap), (s.clu c.val).lastB = some b → (s.clu c.val).ptap[x.val]? = some p →
    (s.clu c.val).ptapCfg.getLsbD (4 * x.val + 2) = true →
    ∃ t, exec (.ptapRangeStep c x) s = .next t ∧ t = { s with clusters := t.clusters } ∧
      (2 ≤ p.orRun → p.now < 3 → (t.clu c.val).ptap[x.val]? = some { p with now := p.now + 1, orRun := 0, lowRun := 0, stepAt := some b }) ∧
      (p.orRun < 2 → 1024 ≤ p.lowRun → 0 < p.now →
        (t.clu c.val).ptap[x.val]? = some { p with now := p.now - 1, orRun := 0, lowRun := 0, stepAt := some b }))

/-- Power-down, retirement list, islands and budget (R24, R62, R86, R99, R100, R116, R152, R313): the ramp of a cluster begins unless an
open epoch names one of its cells, it holds a slot of a pending or sealed epoch, it holds a cell of an established circuit, or taps
that a powered cluster's instance needs; a substitution in progress for it goes no further; a retirement entry is kept; an island's
interval is measured and its κ stays within 0.9 to 1.1; the ISENSE fault follows 64 implausible intervals; the allowances of the powered
clusters share the power granted by the two limits over the histories, in proportion to Σ m_k + 500. -/
def Obligations.PowerDownRetireAndBudget : Prop :=
  (∀ (s : State) (c : Fin 256) (k : Cluster), s.clusters[c.val]? = some k → k.pow = .on → k.pdown = false → s.firmware = true →
    s.openNames c.val = false → s.pendingIn c.val = false → s.tapsNeeded c.val = false → (∀ i, i < 32 → s.circuitThrough (32 * c.val + i) = false) → ∃ t, exec (.clusterPowerDown c) s = .next t ∧
      t = { s with clusters := t.clusters, spares := t.spares, fab := t.fab } ∧ (t.clu c.val).pdown = true ∧ (t.clu c.val).pow = .on ∧
      (∀ d, d ≠ c.val → t.clu d = s.clu d) ∧
      (((s.spare (c.val / 16)).busy = true ∧ (s.spare (c.val / 16)).cluster = c.val → c.val / 16 < s.spares.length →
        (t.spare (c.val / 16)).st = .off ∧ (t.spare (c.val / 16)).switched = false ∧ (t.clu c.val).source = .none ∧
        (t.clu c.val).islandRamp = true)) ∧
      ((s.spare (c.val / 16)).busy = false ∨ (s.spare (c.val / 16)).cluster ≠ c.val → t.spares = s.spares)) ∧
  (∀ (s : State) (c : Fin 256) (i : Nat), i < 32 → s.circuitThrough (32 * c.val + i) = true → exec (.clusterPowerDown c) s = .next s) ∧
  (∀ (s : State) (c : Fin 256), s.openNames c.val = true ∨ s.pendingIn c.val = true ∨ s.tapsNeeded c.val = true →
    exec (.clusterPowerDown c) s = .next s) ∧
  (∀ (s : State) (kind unit : Nat), s.firmware = true → s.retireDue kind unit = true →
    ∃ t, exec (.retireListAppend kind unit) s = .next t ∧ t = { s with sys := t.sys } ∧
      (∃ e : RetireEntry, t.sys.retire = s.sys.retire ++ [e] ∧ e.crcOk = true ∧ e.unit = unit ∧ e.kind = kind ∧
        e.reason = s.retireReason kind unit ∧ e.taiS = (mailOf s.tai).1) ∧
      (1024 ≤ s.sys.retire.length → t.sys.retireFull = true ∧ t.sys.flash = s.sys.flash ∧ t.sys.queue = s.sys.queue)) ∧
  (∀ (s : State) (r : Fin 16) (v a : Nat) (p : Rat), (s.island r.val).pow = .on →
    p = predOf s.now (s.island r.val) (((s.clusters.drop (16 * r.val)).take 16).map (Cluster.modTo s.now)) →
    ∃ t, exec (.islandInterval r v a) s = .next t ∧ t = { s with clusters := t.clusters, islands := t.islands } ∧
    (∀ (c : Nat) (k : Cluster), s.clusters[c]? = some k →
      t.clusters[c]? = some (if c / 16 = r.val then { k.modTo s.now with iAcc := 0 } else k)) ∧ (t.island r.val).vhtr = min 0xFFFF v ∧ (t.island r.val).iMeas = min 0xFFFF a ∧
    (t.island r.val).iPred = viewU 16 p ∧ (t.island r.val).vhtrLow = decide (v < 3135) ∧
    (p < 200 → (t.island r.val).kappa = (s.island r.val).kappa ∧ (t.island r.val).badRun = (s.island r.val).badRun) ∧
    (200 ≤ p → (s.island r.val).isenseFault = false → 9 / 10 ≤ (t.island r.val).kappa ∧ (t.island r.val).kappa ≤ 11 / 10) ∧
    (∀ q, q ≠ r.val → t.island q = s.island q)) ∧
  (∀ (s : State) (r : Fin 16), (s.island r.val).pow = .on → 64 ≤ (s.island r.val).badRun → ∃ t, exec (.isenseFault r) s = .next t ∧
    t = { s with islands := t.islands } ∧ t.island r.val = { s.island r.val with isenseFault := true }) ∧
  (∀ s : State, s.time.run = true → ∃ t, exec .budgetInterval s = .next t ∧ t = { s with clusters := t.clusters, thm := t.thm } ∧
    t.thm.budget = s.budgetNext ∧
    0 ≤ (grants s.thm.iLim s.thm.pLim (s.budgetNext.hist.getD [])).1 ∧ (grants s.thm.iLim s.thm.pLim (s.budgetNext.hist.getD [])).1 ≤ 44000 ∧
    s.grantedPower ≤ (grants s.thm.iLim s.thm.pLim (s.budgetNext.hist.getD [])).2 ∧
    s.grantedPower ≤ (grants s.thm.iLim s.thm.pLim (s.budgetNext.hist.getD [])).1 * meanV s.islands / 2 * epsHat s.budgetNext.ratio * (98 / 100) ∧
    ∃ w : Rat, (∀ (c : Nat) (k : Cluster), s.clusters[c]? = some k →
      t.clusters[c]? = some (if k.pow = .on then { k with allow := viewU 32 (s.grantedPower * (k.demand + 500) / w), pwinAcc := 0, pwinN := 0 }
        else k)) ∧
      w = sumR (s.clusters.map (fun k => if k.pow = .on then k.demand + 500 else 0)))

/-! ### Rearrangement -/

/-- A completion (R209, R210, R219): where every earlier command of the port is one that waits alone, its entry and its tail,
the command no longer in flight; behind an earlier command that does not wait alone it is held, and nothing is posted; no other
port and nothing else of the machine changes. Of two commands of one TAG each is completed for itself, by its place in ring order (k); the
one that has begun last completes by its code alone. -/
def Obligations.CompletionIsPosted : Prop :=
  ∀ (s : State) (p : Fin 4) (q : HostPort) (code status detail k : Nat) (tag : Word) (res : List Byte), s.hosts[p.val]? = some q →
    q.cplRing.length = 64 → ∀ (c : RawCmd) (pre post : List Taken), q.taken = pre ++ ⟨c, true, none, k⟩ :: post → c.code = code → c.tag = tag →
    (∀ u ∈ pre ++ post, u.answer = none) → (∀ u ∈ pre, u.seq ≠ k) →
    let t := s.completeSeq p.val k code status tag detail res
    ((∀ u ∈ post, u.begun = false) → s.complete p.val code status tag detail res = t) ∧
    t = { s with hosts := t.hosts } ∧ (∀ r, r ≠ p.val → t.hport r = s.hport r) ∧
    ((∃ u ∈ pre, u.begun = false ∨ waitsAlone u.cmd = false) → t.hport p.val =
      { q with taken := pre ++ ⟨c, true, some (cplBytes code status tag detail res), k⟩ :: post }) ∧
    ((∀ u ∈ pre, u.begun = true ∧ waitsAlone u.cmd = true) → (t.hport p.val).taken = pre ++ post ∧ (t.hport p.val).cplTail = (q.cplTail + 1) % 65536 ∧
      (t.hport p.val).cplRing.getD (q.cplTail % 64) [] = cplBytes code status tag detail res ∧
      (t.hport p.val).cplHead = q.cplHead ∧ (t.hport p.val).cmdHead = q.cmdHead ∧ (t.hport p.val).outMem = q.outMem ∧
      (∀ i, i ≠ q.cplTail % 64 → (t.hport p.val).cplRing.getD i [] = q.cplRing.getD i []))

/-- PLAN_OPEN (R135, R143, R160): the next epoch number, a FAB slot with an open plan of the instance, OK with the number. Without
a pending place NO_SLOT; for another host's instance NOT_OWNER. -/
def Obligations.PlanOpens : Prop :=
  ∀ (s s1 : State) (h : Hdr) (inst : Nat), Safe.turn h 0x0003 s s1 →
    (s.owner inst = some h.port.val → inService s.sys.mode = true → s.sys.release = false → inst < s.instCount →
      (∀ (i : Nat), s.placeFree inst = true → s.fab.slots.findIdx? (fun q => q.ep.isNone) = some i →
        (∀ e ∈ s.fab.epochs, e.ext ≠ (s.fab.ext + 1) % 2 ^ 48) →
        ∃ t e, exec (.planOpen h inst) s = .next t ∧ t = { s with fab := t.fab, hosts := t.hosts } ∧ t.slotEp i = some e ∧
          e.num = s.fab.lastNum % 65535 + 1 ∧ t.fab.lastNum = e.num ∧ e.inst = inst ∧ e.host = h.port.val ∧ e.st = .pending ∧
          e.stage = .open_ ∧ e.changes = [] ∧ t.fab.circuits = s.fab.circuits ∧ t.fab.queue = s.fab.queue ∧
          t.hosts = (s1.complete h.port.val 0x0003 0 h.tag 0 (leBytes 2 e.num)).hosts) ∧
      (s.placeFree inst = false → exec (.planOpen h inst) s = .next (s1.complete h.port.val 0x0003 0x0006 h.tag 0 []))) ∧
    (∀ o, s.owner inst = some o → o ≠ h.port.val → exec (.planOpen h inst) s = .next (s1.complete h.port.val 0x0003 0x0002 h.tag 0 []))

/-- PLAN_ADD and PLAN_ABORT (R134, R153, R218): changes join an open plan and their number is answered; an epoch before its
seal ends and is gone, a sealed one is TOO_LATE. -/
def Obligations.PlanAddAndAbort : Prop :=
  ∀ (s s1 : State) (h : Hdr) (num code : Nat) (e : Epoch), Safe.turn h code s s1 → inService s.sys.mode = true → s.fab.byNum num = some e →
    s.owner e.inst = some h.port.val →
    (∀ cs : List PlanChange, code = 0x0004 → cs ≠ [] → cs.length ≤ 14 → e.st = .pending → e.stage = .open_ →
      (∀ c ∈ cs, c.reserved = 0 ∧ 1 ≤ c.kind ∧ c.kind ≤ 3 ∧ (c.kind ≠ 1 → c.port2 = 0) ∧ c.ratio ≤ 0x8000 ∧ (c.kind ≠ 3 → c.ratio = 0) ∧
        s.ownerPort c.port = some h.port.val ∧ (c.kind = 1 → s.ownerPort c.port2 = some h.port.val)) →
      s.entriesBad e.inst 0x10 cs = none → e.changes.length + cs.length ≤ 1024 →
      ∃ t, exec (.planAdd h num cs) s = .next t ∧ t = { s with fab := t.fab, hosts := t.hosts } ∧
        t.fab.byExt e.ext = (s.fab.byExt e.ext).map (fun q => { q with changes := q.changes ++ cs }) ∧
        t.hosts = (s1.complete h.port.val 0x0004 0 h.tag 0 (leBytes 2 (e.changes.length + cs.length))).hosts) ∧
    (code = 0x0006 → e.st = .pending ∨ e.st = .armed → s.fab.byExt e.ext = some e → ∃ t, exec (.planAbort h num) s = .next t ∧ t.fab.byExt e.ext = none ∧
      (∀ n, (t.cell n).live = (s.cell n).live) ∧ t.fab.circuits = s.fab.circuits) ∧
    (code = 0x0006 → e.st = .sealedE ∨ e.st = .openE → exec (.planAbort h num) s = .next (s1.complete h.port.val 0x0006 0x000F h.tag 0 []))

/-- CONNECT and DISCONNECT (R133-R136, R143, R218): a plan of one change that passes the checks of a commit takes a slot and
joins the solver's queue; with no place NO_SLOT, with the queue full or a plan armed BUSY (NO_SLOT where both hold: the model's order,
log 38). -/
def Obligations.ConnectAndDisconnectQueue : Prop :=
  ∀ (s s1 : State) (h : Hdr) (inst code : Nat) (time : MailTime), Safe.turn h code s s1 → s.owner inst = some h.port.val → inService s.sys.mode = true →
    s.sys.release = false → inst < s.instCount → time.ns ≤ 999999999 →
    ∀ (cmd : Instr) (c : PlanChange) (p2 : Nat),
      (∃ inp out, s.ownerPort inp = some h.port.val ∧ s.ownerPort out = some h.port.val ∧ cmd = .connect h inst inp out time ∧ code = 0x0001 ∧
        c = { kind := 1, port := inp, port2 := out } ∧ p2 = 0x0C) ∨
      (∃ port, s.ownerPort port = some h.port.val ∧ cmd = .disconnect h inst port time ∧ code = 0x0002 ∧ c = { kind := 2, port := port } ∧ p2 = 0x0A) →
      s.changeBad inst 0x0A p2 c = none →
      (s.placeFree inst = false → exec cmd s = .next (s1.complete h.port.val code 0x0006 h.tag 0 [])) ∧
      (s.placeFree inst = true → s.fab.armedInst inst = true ∨ s.fab.queueRoom h.port.val = false →
        exec cmd s = .next (s1.complete h.port.val code 0x0005 h.tag 0 [])) ∧
      (∀ (i : Nat) (b : Option Int), s.placeFree inst = true → s.fab.armedInst inst = false → s.fab.queueRoom h.port.val = true →
        (s1.allocate inst h.port.val).2.commitCheck (Safe.singleEpoch s1 h code inst c time) h.port.val (some time) = .inr b →
        s.fab.slots.findIdx? (fun q => q.ep.isNone) = some i → (∀ e ∈ s.fab.epochs, e.ext ≠ (s.fab.ext + 1) % 2 ^ 48) →
        ∃ t, exec cmd s = .next t ∧ t = { s1 with fab := t.fab } ∧ t.slotEp i = some { Safe.singleEpoch s1 h code inst c time with b := b } ∧
          t.fab.queue = s.fab.queue ++ [⟨h.port.val, (s.fab.ext + 1) % 2 ^ 48⟩] ∧ t.fab.circuits = s.fab.circuits ∧
          t.fab.lastNum = s.fab.lastNum % 65535 + 1)

/-- PLAN_COMMIT (R134-R136, R147, R218): a plan that passes its checks is queued with its instant or its event channel; NO_PLAN
for a plan already committed. -/
def Obligations.PlanCommitQueues : Prop :=
  ∀ (s s1 : State) (h : Hdr) (num channel : Nat) (time : MailTime) (e : Epoch), Safe.turn h 0x0005 s s1 → inService s.sys.mode = true →
    s.sys.release = false → s.fab.byNum num = some e → s.fab.byExt e.ext = some e → s.owner e.inst = some h.port.val → e.st = .pending →
    (onEvent h = true → channel < 128 ∧ s.ownerChan channel = some h.port.val) → (onEvent h = false → time.ns ≤ 999999999) →
    (e.stage ≠ .open_ → exec (.planCommit h num channel time) s = .next (s1.complete h.port.val 0x0005 0x0010 h.tag 0 [])) ∧
    (∀ b, e.stage = .open_ → s.fab.armedInst e.inst = false → s.fab.queueRoom h.port.val = true →
      s1.commitCheck e h.port.val (if onEvent h then none else some time) = .inr b →
      ∃ t q, exec (.planCommit h num channel time) s = .next t ∧ t = { s1 with fab := t.fab } ∧ t.fab.byExt e.ext = some q ∧
        q.stage = .queued ∧ q.changes = e.changes ∧ q.b = b ∧ q.event = onEvent h ∧ (onEvent h = true → q.channel = channel) ∧ q.owed = true ∧
        t.fab.queue = s.fab.queue ++ [⟨e.host, e.ext⟩] ∧ t.fab.circuits = s.fab.circuits)

/-- The solver (R136, R137, R149, R153): re-solves go first, then hosts in rotation, oldest item first; the targets of a finished
solve stand in the NEXT slots of their cells, tagged with the epoch, and no live target has changed. -/
def Obligations.SolverServesAndWrites : Prop :=
  (∀ (s : State) (x : Nat) (rest : List Nat), s.fab.busy = none → s.fab.resolves = x :: rest → ∃ t, exec .solverTakeItem s = .next t ∧
    t = { s with fab := t.fab } ∧ t.fab = { s.fab with busy := some (x, true), resolves := rest }) ∧
  (∀ (s : State) (k : Nat) (pre post : List SolveItem) (q : SolveItem), s.fab.busy = none → s.fab.resolves = [] → 1 ≤ k → k ≤ 4 →
    s.fab.queue = pre ++ q :: post → q.host = (s.fab.lastHost + k) % 4 → q ∉ pre → (∀ r ∈ pre, r.host ≠ q.host) →
    (∀ j, 1 ≤ j → j < k → ∀ r ∈ s.fab.queue, r.host ≠ (s.fab.lastHost + j) % 4) →
    ∃ t, exec .solverTakeItem s = .next t ∧ t = { s with fab := t.fab } ∧
      t.fab = { s.fab with busy := some (q.ext, false), lastHost := q.host, queue := pre ++ post }) ∧
  (∀ (s : State) (x : Nat) (e e' : Epoch), s.fab.busy = some (x, false) → s.fab.byExt x = some e → e.status = .none →
    ({ s with fab := { s.fab with busy := none } } : State).solve false e = .inr e' → e'.ext = x → e'.st = .pending → e'.event = false → e'.atB = false →
    (e'.targets.map CellTgt.cell).Nodup →
    ∃ t, exec .solveDone s = .next t ∧ t.fab.busy = none ∧ t.fab.circuits = s.fab.circuits ∧ (∀ n, (t.cell n).live = (s.cell n).live) ∧
      (∀ n, n ∉ e'.targets.map CellTgt.cell → t.cell n = s.cell n) ∧
      (∀ g ∈ e'.targets, g.cell / 32 < s.clusters.length → g.cell % 32 < (s.clu (g.cell / 32)).cells.length →
        (∃ p ∈ (s.cell g.cell).next, p.valid = false ∨ p.epoch = e'.num) → (⟨true, e'.num, g.st, g.ratio⟩ : NextSlot) ∈ (t.cell g.cell).next))

/-- Loading, sealing and the commit (R146, R150, R152, R172): the slot's `FAB_COMMIT_AT` takes the hardware time of B once B lies within 2 s and
inside the window; at the seal, S = B - 2 P_E, the tagged targets of the instance's cells are latched and no live target changes; when the one
sealed epoch of a boundary commits, each staged target of a cell that is neither OFF nor RETIRED is its cell's live target, and the epoch is
the latest committed. -/
def Obligations.EpochLoadsSealsAndCommits : Prop :=
  (∀ (s : State) (i : Fin 8) (e : Epoch) (b : Int), s.slotEp i.val = some e → e.b = some b → e.st = .pending ∨ e.st = .armed → e.loaded = false →
    s.firmware = true → 16 ≤ s.time.xOf b - s.now → s.time.xOf b - s.now ≤ 2000000000 → ∃ t q, exec (.commitAtLoad i) s = .next t ∧
      t = { s with fab := t.fab } ∧ t.slotEp i.val = some { e with loaded := true } ∧ t.fab.slots[i.val]? = some q ∧
      q.commitAt = BitVec.ofInt 32 (s.time.xOf b)) ∧
  (∀ (s s1 : State) (i : Fin 8) (e : Epoch) (b : Int), s.slotEp i.val = some e → e.b = some b → e.st = .pending ∨ e.st = .armed → e.loaded = true →
    reach 4000000000 (s.time.xOf (b - 2 * e.pE)) s = some s1 → ∃ t q, exec (.epochSeal i) s = .next t ∧ t.slotEp i.val = some q ∧
      q.st = .sealedE ∧ q.sealAt = some (b - 2 * e.pE) ∧ q.staged = s1.tagged e.inst e.num ∧ t.fab.lastSealed = e.num ∧ t.clusters = s.clusters ∧ t.fab.circuits = s.fab.circuits) ∧
  (∀ (s s1 : State) (b : Int) (e : Epoch), s.fab.nextCommit = some b → reach 4000000000 (s.time.xOf b) s = some s1 →
    s1.fab.held.filter (fun q => q.st = .sealedE && q.b = some b) = [e] → (e.staged.map CellTgt.cell).Nodup →
    ∃ t, exec .epochCommit s = .next t ∧ t.fab.lastCommitted = e.num ∧
      (∀ g ∈ e.staged, (s.cell g.cell).engNow.st ≠ .off → (s.cell g.cell).engNow.st ≠ .retired →
        (t.cell g.cell).live.state = g.st ∧ (t.cell g.cell).live.ratio = g.ratio) ∧
      (∀ n, n ∉ e.staged.map CellTgt.cell → (t.cell n).live = (s.cell n).live) ∧
      (∀ n, (t.cell n).uf = (s.cell n).uf ∧ (t.cell n).uh = (s.cell n).uh))

/-- Closing (R155, R158, R160): an open epoch with cells unfinished 1 s after the boundary at which it opened closes EXPIRED, each
such cell entered as UNDONE and its hand-over ended; firmware writes a closed epoch's report to the log, notifies the owner of it
and frees the slot. -/
def Obligations.EpochsExpireAndReport : Prop :=
  (∀ (s s1 : State) (i : Fin 8) (e : Epoch) (b : Int), s.slotEp i.val = some e → e.openAt = some b → e.st = .openE → (s.unfinished e).isEmpty = false →
    reach 4000000000 (s.time.xOf (b + 1000000000)) s = some s1 → s1.fab.byExt e.ext = some e → ∃ t q, exec (.epochExpire i) s = .next t ∧
      t.slotEp i.val = some q ∧ q.st = .closed ∧ q.status = .expired ∧ 1000000 ≤ q.closeUs ∧
      q.undone = (s.unfinished e).length ∧ q.excs = e.excs ++ (s.unfinished e).map (fun n => { cell := n, kind := 7 }) ∧ t.unfinished q = [] ∧
      t.fab.circuits = s.fab.circuits ∧
      (∀ n, (t.cell n).live = (s.cell n).live)) ∧
  (∀ (s : State) (i : Fin 8) (e : Epoch) (p : Nat), s.slotEp i.val = some e → e.st = .closed → s.firmware = true → s.solving e = false →
    s.fab.byExt e.ext = some e → e.owed = false → s.fab.slotWait = [] → s.owner e.inst = some p →
    ∃ t, exec (.epochReportWrite i) s = .next t ∧ t.slotEp i.val = none ∧ t.fab.byExt e.ext = none ∧
      t = { s with fab := t.fab, hosts := t.hosts, rcd := t.rcd, mem := t.mem } ∧
      t.hosts = (s.notify p 1 [] e.report).hosts ∧ t.rcd = (s.logTo 1 [e.inst] s.stamp e.report).rcd ∧
      t.mem = (s.logTo 1 [e.inst] s.stamp e.report).mem ∧ t.fab.circuits = s.fab.circuits) ∧
  (∀ (s : State) (i : Fin 8) (e : Epoch), s.slotEp i.val = some e → e.st = .closed → s.firmware = true → s.solving e = false →
    s.fab.byExt e.ext = some e →
    ∃ t, exec (.epochReportWrite i) s = .next t ∧ t.fab.byExt e.ext = none ∧ (∀ n, (t.cell n).live = (s.cell n).live) ∧ t.fab.circuits = s.fab.circuits)

/-- Firmware's writes of `FAB_EP_CTRL` and its own plans (R139, R160, R231, R365): with the solver's domain off a write does nothing (that
FAB lies there is log 123); with it on a FREE slot takes a PENDING or ARMED epoch of the written
fields, EVENT only with a channel that PLAN_GO may select; a write of STATE 0 ends an epoch before its seal and frees its slot;
under ALLOW the circuits of the instance that pass a cell in PEND_RETIRE, but those that wait for another try, are planned anew as
DISCONNECT and CONNECT pairs (the first of them alone where a joint plan found no path: the model's choice, log 143), in a pending
place of the instance. -/
def Obligations.FirmwarePlans : Prop :=
  (∀ (s : State) (i : Fin 8) (v : Word), s.power.solver ≠ .on → exec (.fabEpCtrlWrite i v) s = .next s) ∧
  (∀ (s : State) (i : Fin 8) (v : Word), s.power.solver = .on → i.val < s.fab.slots.length → s.slotEp i.val = none → v.toNat / 2 ^ 29 = 1 ∨ v.toNat / 2 ^ 29 = 2 →
    ∃ t e, exec (.fabEpCtrlWrite i v) s = .next t ∧ t = { s with fab := t.fab } ∧ t.slotEp i.val = some e ∧
      e.st = (if v.toNat / 2 ^ 29 = 1 then .pending else .armed) ∧ e.num = v.toNat % 65536 ∧ e.inst = v.toNat / 2 ^ 26 % 4 ∧
      e.event = (v.getLsbD 28 && s.goOk (v.toNat / 2 ^ 26 % 4) (v.toNat / 2 ^ 16 % 128)) ∧ e.channel = v.toNat / 2 ^ 16 % 128 ∧
      e.pE = [500, 1000, 2000, 4000].getD (v.toNat / 2 ^ 24 % 4) 0) ∧
  (∀ (s : State) (i : Fin 8) (v : Word) (e : Epoch), s.power.solver = .on → s.slotEp i.val = some e → e.st = .pending ∨ e.st = .armed →
    v.toNat / 2 ^ 29 = 0 → s.firmware = true → s.fab.byExt e.ext = some e → ∃ t, exec (.fabEpCtrlWrite i v) s = .next t ∧ t.fab.byExt e.ext = none ∧
      t.fab.circuits = s.fab.circuits) ∧
  (∀ (s : State) (inst : Fin 4) (h i : Nat), s.serves = true → inService s.sys.mode = true → s.policy inst.val = 0 → s.moveNext inst.val ≠ [] →
    s.placeFree inst.val = true → s.fab.armedInst inst.val = false → s.owner inst.val = some h →
    s.fab.slots.findIdx? (fun q => q.ep.isNone) = some i → (∀ e ∈ s.fab.epochs, e.ext ≠ (s.fab.ext + 1) % 2 ^ 48) →
    ∃ t e, exec (.allowRetireMove inst) s = .next t ∧ t = { s with fab := t.fab } ∧ t.slotEp i = some e ∧ e.inst = inst.val ∧ e.stage = .queued ∧
      e.changes = (s.moveNext inst.val).flatMap (fun c => [{ kind := 2, port := c.inp }, { kind := 1, port := c.inp, port2 := c.out }]) ∧
      (∀ c ∈ s.moveNext inst.val, c ∈ s.fab.circuits ∧ c.inst = inst.val ∧ ∃ p ∈ c.path, (s.cell p.cell).engNow.pendRetire = true) ∧
      (inst.val ∉ s.fab.retireSingly → ∀ c ∈ s.fab.circuits, c.inst = inst.val → (inst.val, c.inp) ∉ s.fab.retireRetry →
        (∃ p ∈ c.path, (s.cell p.cell).engNow.pendRetire = true) → c ∈ s.moveNext inst.val) ∧
      t.fab.queue = s.fab.queue ++ [⟨h, (s.fab.ext + 1) % 2 ^ 48⟩])

/-! ### Mailbox commands -/

/-- QUERY_PORT, QUERY_CELL, HEALTH and TIME_GET (R212, R216, R217): the entries stand in host memory at OUT_ADDR and nothing else there
changes, and the command completes OK; a write that host memory refuses sets bit 5 of MBX_ERR and completes BAD_ADDR; a cell's live
registers are answered to its owner, an UNUSED cell's to no host; HEALTH gives its header and as many entries as OUT_LEN allows, TOTAL
counting all of those that firmware finds; the time is as it is. -/
def Obligations.QueriesAnswer : Prop :=
  (∀ (s s1 : State) (h : Hdr) (q : HostPort) (first count outAddr outLen : Nat), Safe.memory s → Safe.turn h 0x0010 s s1 → inAny s.sys.mode = true →
    s.hosts[h.port.val]? = some q → 1 ≤ count → first < 1024 → first + count ≤ 1024 → outAddr % 8 = 0 → 8 * count ≤ outLen →
    (∃ t, exec (.queryPort h first count outAddr outLen true) s = .next t ∧
      t = (s1.hostOut h.port.val outAddr ((List.range count).flatMap (fun k => s1.portBytes h.port.val (first + k)))).complete h.port.val
        0x0010 0 h.tag 0 (leBytes 2 count) ∧
      Mem.readN (t.hport h.port.val).outMem (8 * count) outAddr =
        (List.range count).flatMap (fun k => s1.portBytes h.port.val (first + k)) ∧
      (∀ a, a < outAddr ∨ outAddr + 8 * count ≤ a → Mem.read (t.hport h.port.val).outMem a = Mem.read q.outMem a) ∧
      (∀ p, p ≠ h.port.val → t.hport p = s.hport p)) ∧
    (∃ (t u : State), exec (.queryPort h first count outAddr outLen false) s = .next t ∧ u.hosts[h.port.val]? = (s1.hosts[h.port.val]?).map
        (fun q => { q with err := q.err ||| 32 }) ∧ t = u.complete h.port.val 0x0010 0x0014 h.tag 0 [] ∧ u = { s1 with hosts := u.hosts } ∧
      (t.hport h.port.val).err = q.err ||| 32 ∧ (t.hport h.port.val).outMem = q.outMem)) ∧
  (∀ (s s1 : State) (h : Hdr) (n : Nat), Safe.turn h 0x0011 s s1 → inAny s.sys.mode = true → n < 8192 →
    ((s.entry n).role ≠ 0 → s.owner (s.entry n).inst = some h.port.val →
      exec (.queryCell h n) s = .next (s1.complete h.port.val 0x0011 0 h.tag 0 (s1.cellBytes n))) ∧
    ((s.entry n).role = 0 → exec (.queryCell h n) s = .next (s1.complete h.port.val 0x0011 0x0002 h.tag 0 []))) ∧
  (∀ (s s1 s2 : State) (h : Hdr) (q : HostPort) (outAddr outLen k : Nat) (es : List HEntry), Safe.memory s → Safe.turn h 0x0012 s s1 →
    inAny s.sys.mode = true → s.hosts[h.port.val]? = some q → outAddr % 8 = 0 → 64 ≤ outLen → s2 = s1.healthCheck h.port.val →
    es = s2.healthOf h.port.val → k = min es.length ((outLen - 64) / 8) →
    (∃ t, exec (.health h outAddr outLen true) s = .next t ∧
      t = { s with hosts := t.hosts, rcd := { s.rcd with logDue := t.rcd.logDue } } ∧
      Mem.readN (t.hport h.port.val).outMem (64 + 8 * k) outAddr = s2.healthHeader h.port.val k es.length ++ (es.take k).flatMap HEntry.bytes ∧
      (∀ a, a < outAddr ∨ outAddr + 64 + 8 * k ≤ a → Mem.read (t.hport h.port.val).outMem a = Mem.read q.outMem a) ∧
      t = (s2.hostOut h.port.val outAddr (s2.healthHeader h.port.val k es.length ++ (es.take k).flatMap HEntry.bytes)).complete h.port.val
        0x0012 0 h.tag 0 (leBytes 4 (64 + 8 * k) ++ leBytes 2 k ++ leBytes 2 0 ++ leBytes 4 (s2.hport h.port.val).health)) ∧
    (∃ t, exec (.health h outAddr outLen false) s = .next t ∧
      t = { s with hosts := t.hosts, rcd := { s.rcd with logDue := t.rcd.logDue } } ∧
      (t.hport h.port.val).err = (s2.hport h.port.val).err ||| 32 ∧ (t.hport h.port.val).outMem = q.outMem)) ∧
  (∀ (s s1 : State) (h : Hdr), Safe.turn h 0x0013 s s1 → inAny s.sys.mode = true →
    exec (.timeGet h) s = .next (s1.complete h.port.val 0x0013 0 h.tag 0 s1.timeBytes))

/-- EVENT_BIND (R212, R218, R230): SRC, VECTOR and EN of the caller's own channel, with RE_CNT and the re-entry window cleared; DENIED
for a source it may not bind, NOT_READY for a tripped channel, NOT_OWNER for another's. -/
def Obligations.EventBindBinds : Prop :=
  ∀ (s s1 : State) (h : Hdr) (ch vector source enable : Nat) (c : Chan), Safe.turn h 0x0020 s s1 → inAny s.sys.mode = true →
    s.evt.chans[ch]? = some c → ch < 128 → vector = 0 ∨ (8 ≤ vector ∧ vector ≤ 31) → source ≤ 255 → enable ≤ 1 →
    (c.owner = h.port.val → sourceOk s.steward s.pinOwner c.owner c.sec source = true → (enable = 1 → c.tripped = false) →
      ∃ t, exec (.eventBind h ch vector source enable) s = .next t ∧ t = { s with evt := t.evt, hosts := t.hosts } ∧
        t.evt.chans[ch]? = some { c with src := source, vector := vector, reCnt := 0, winEnd := 0, en := decide (enable = 1) } ∧
        (∀ d, d ≠ ch → t.evt.chans[d]? = s.evt.chans[d]?) ∧ (enable = 1 → t.evt.cons = s.evt.cons) ∧
        t.hosts = (s1.complete h.port.val 0x0020 0 h.tag 0 []).hosts) ∧
    (c.owner = h.port.val → sourceOk s.steward s.pinOwner c.owner c.sec source = false →
      exec (.eventBind h ch vector source enable) s = .next (s1.complete h.port.val 0x0020 0x0018 h.tag 0 [])) ∧
    (c.owner = h.port.val → sourceOk s.steward s.pinOwner c.owner c.sec source = true → enable = 1 → c.tripped = true →
      exec (.eventBind h ch vector source enable) s = .next (s1.complete h.port.val 0x0020 0x0017 h.tag 0 [])) ∧
    (c.owner ≠ h.port.val → exec (.eventBind h ch vector source enable) s = .next (s1.complete h.port.val 0x0020 0x0002 h.tag 0 []))

/-- The recorder's commands (R216, R343, R347-R349): a mark is logged and makes the next Skim and capture block of the instance carry
MARKED; a freeze keeps only the block in progress; a release sets GAP; an export takes valid bytes of a ring (as they are when it
starts: the model's choice, log 121) and ends by writing them to host memory, fewer where the ring overtakes it, or BAD_ADDR where host
memory refuses a write, with the bytes before that write written (log 60). -/
def Obligations.RecorderCommands : Prop :=
  (∀ (s s1 : State) (h : Hdr) (inst : Nat) (v : Word), Safe.turn h 0x0030 s s1 → inAny s.sys.mode = true → s.owner inst = some h.port.val →
    inst < s.instCount → inst ≠ 0xFF → ∃ t, exec (.recMark h inst v) s = .next t ∧ t = { s with rcd := t.rcd, mem := t.mem, hosts := t.hosts } ∧
      (∀ k r, (k = 1 ∨ k = 2) → (s.rcd.rings.getD inst [])[k]? = some r → (t.ring inst k).marked = true) ∧
      (s.rcd.on = true → s.rcd.present.getD inst false = true → (s.ring inst 0).size ≠ 0 → (t.ring inst 0).w = (s.ring inst 0).w + 64) ∧
      (∀ i, i ≠ inst → t.ring i 0 = s.ring i 0) ∧
      t.hosts = (s1.complete h.port.val 0x0030 0 h.tag 0 (mailBytes s.tai ++ leBytes 4 s.time.era ++ leBytes 4 s.time.wns)).hosts) ∧
  (∀ (s s1 : State) (h : Hdr), Safe.turn h 0x0031 s s1 → inAny s.sys.mode = true → h.port.val = s.steward → s.rcd.on = true →
    (s.rcd.frozen = false → ∃ t, exec (.recFreeze h 1) s = .next t ∧ t = { s with rcd := t.rcd, mem := t.mem, hosts := t.hosts } ∧
      t.rcd.frozen = true ∧ t.rcd.stage = s.rcd.stage.take 1 ∧ t.hosts = (s1.complete h.port.val 0x0031 0 h.tag 0 []).hosts) ∧
    (s.rcd.frozen = true → ∃ t, exec (.recFreeze h 0) s = .next t ∧ t = { s with rcd := t.rcd, mem := t.mem, hosts := t.hosts } ∧
      t.rcd.frozen = false ∧ t.rcd.stage = s.rcd.stage ∧ t.hosts = (s1.complete h.port.val 0x0031 0 h.tag 0 []).hosts ∧
      ∀ i k r, (k = 1 ∨ k = 2) → (s.rcd.rings.getD i [])[k]? = some r → (t.ring i k).gap = true)) ∧
  (∀ (s s1 : State) (h : Hdr) (inst k p len outAddr : Nat), Safe.turn h 0x0032 s s1 → inAny s.sys.mode = true → h.port.val = s.steward →
    s.owner inst = some h.port.val → inst ≤ 3 → k ≤ 2 → p < 2 ^ 62 → outAddr % 8 = 0 → s.sys.exportRun = none →
    (s.ring inst k).oldest ≤ p → p + len ≤ (s.ring inst k).w → ∃ t, exec (.recExport h inst (k * 2 ^ 62 + p) len outAddr) s = .next t ∧
      t = { s1 with sys := t.sys } ∧ t.sys = { s.sys with exportRun := t.sys.exportRun } ∧
      ∃ r, t.sys.exportRun = some r ∧ r.port = h.port.val ∧ r.tag = h.tag ∧ r.seq = s1.turn h.port.val ∧ r.inst = inst ∧ r.ring = k ∧ r.src = p ∧ r.outAddr = outAddr ∧
        r.len = len ∧ r.bytes = (List.range len).map (fun j => s.ringByte inst k (p + j))) ∧
  (∀ (s : State) (r : ExportRun) (q : HostPort) (n : Nat), Safe.memory s → s.sys.exportRun = some r → s.firmware = true →
    s.hosts[r.port]? = some q → r.bytes.length = r.len → n ≤ r.len →
    (n < r.len → r.src + n < (s.ring r.inst r.ring).oldest) →
    ∃ t, exec (.recExportDone n true) s = .next t ∧ t = { s with sys := t.sys, hosts := t.hosts } ∧ t.sys = { s.sys with exportRun := none } ∧
      Mem.readN (t.hport r.port).outMem n r.outAddr = r.bytes.take n ∧
      (∀ a, a < r.outAddr ∨ r.outAddr + n ≤ a → Mem.read (t.hport r.port).outMem a = Mem.read q.outMem a) ∧
      t.hosts = ((s.hostOut r.port r.outAddr (r.bytes.take n)).completeSeq r.port r.seq 0x0032 0 r.tag 0 (leBytes 8 n)).hosts) ∧
  (∀ (s : State) (r : ExportRun) (q : HostPort) (n : Nat), s.sys.exportRun = some r → s.firmware = true → s.hosts[r.port]? = some q →
    n ≤ r.len → ∃ (t u : State), exec (.recExportDone n false) s = .next t ∧ t = { s with sys := t.sys, hosts := t.hosts } ∧
      t.sys = { s.sys with exportRun := none } ∧ (t.hport r.port).err = q.err ||| 32 ∧
      t.hosts = (u.completeSeq r.port r.seq 0x0032 0x0014 r.tag 0 []).hosts ∧
      u.hosts[r.port]? = some { q with outMem := Mem.writeN q.outMem r.outAddr (r.bytes.take n), err := q.err ||| 32 })

/-- MODE_SET (R312-R316): the mode that already holds is OK at once; RESTART keeps every circuit and cluster as they are and owes its
completion; DARK is shown at once and brings no cluster with a cell of a circuit down; leaving DARK powers the clusters that it switched
off, and those of their instances' taps (R24), by rows; a MODE_SET SERVICE during an entry to or exit from DARK waits for its end (the
model's choice, log 81); SERVICE out of CALIBRATE needs an atlas and powers every cluster anew, those that run after their ramp (R16,
R100); a transition that R311 does not have is BAD_MODE; SAFE allows none; while firmware serves no command nothing happens. -/
def Obligations.ModeSetMoves : Prop :=
  (∀ (s s1 : State) (h : Hdr), Safe.turn h 0x0040 s s1 → inAny s.sys.mode = true → h.port.val = s.steward →
    (∀ m, m = 3 ∨ m = 4 ∨ m = 7 → m = s.sys.mode.code → exec (.modeSet h m) s = .next (s1.complete h.port.val 0x0040 0 h.tag 0 (leBytes 1 m))) ∧
    (s.sys.mode = .service ∨ s.sys.mode = .derated ∨ s.sys.mode = .dark → ∃ t, exec (.modeSet h 7) s = .next t ∧ t.sys.mode = .restart ∧
      t.sys.paused = true ∧ t.sys.before = s.sys.mode ∧ t.sys.restartCmd = some ⟨h.port.val, h.tag, 0x0040, s1.turn h.port.val⟩ ∧
      t.clusters = s.clusters ∧ t.fab.circuits = s.fab.circuits ∧ ((∀ m, m < 4 → s.braid.granted.getD m none = none) → t.mem = s.mem)) ∧
    (s.sys.mode = .service ∨ s.sys.mode = .derated → s.sys.darkEntering = false → s.sys.darkExiting = false →
      ∃ t, exec (.modeSet h 4) s = .next t ∧ t.sys.mode = .dark ∧ t.sys.darkEntering = true ∧
        t.sys.modeCmd = some ⟨h.port.val, h.tag, 0x0040, s1.turn h.port.val⟩ ∧
        t.fab.circuits = s.fab.circuits ∧ (∀ c, (t.clu c).pow = (s.clu c).pow) ∧
        (∀ c i, i < 32 → s.circuitThrough (32 * c + i) = true → (t.clu c).pdown = (s.clu c).pdown)) ∧
    (s.sys.mode = .dark → s.sys.darkEntering = false → s.sys.darkExiting = false → ∃ t, exec (.modeSet h 3) s = .next t ∧
      t = { s1 with sys := t.sys } ∧ t.sys.mode = .dark ∧ t.sys.darkExiting = true ∧
      t.sys.modeCmd = some ⟨h.port.val, h.tag, 0x0040, s1.turn h.port.val⟩ ∧
      (∀ c, c < 256 → (t.sys.waitOut.contains c = true ↔ s.sys.waitOut.contains c = true ∨ s.tapsDue s.sys.waitOut c = true)) ∧
      t.sys.rowsLeft = rowsOf (fun c => t.sys.waitOut.contains c)) ∧
    (s.sys.mode = .dark → s.sys.darkEntering = true ∨ s.sys.darkExiting = true → exec (.modeSet h 3) s =
      .next { s1 with sys := { s.sys with darkNext := s.sys.darkNext ++ [⟨h.port.val, h.tag, 0x0040, s1.turn h.port.val⟩] } }) ∧
    (s.sys.mode = .calibrate → s.sys.atlas.isSome = true → ∃ t, exec (.modeSet h 3) s = .next t ∧ t.sys.mode = .service ∧
      t.sys.sweep = none ∧ t.sys.atlas = s.sys.atlas ∧ Safe.rampsDown s t ∧ t.sys.rowsLeft = rowsOf s.usedCluster) ∧
    (s.sys.mode = .calibrate → s.sys.atlas = none →
      exec (.modeSet h 3) s = .next (s1.complete h.port.val 0x0040 0x0004 h.tag 0 [])) ∧
    (∀ m, (m = 3 ∧ s.sys.mode = .derated) ∨ ((m = 4 ∨ m = 7) ∧ s.sys.mode = .calibrate) →
      exec (.modeSet h m) s = .next (s1.complete h.port.val 0x0040 0x0004 h.tag 0 [])) ∧
    (∀ m, m ≠ 3 → m ≠ 4 → m ≠ 7 → exec (.modeSet h m) s = .next (s1.complete h.port.val 0x0040 0x0001 h.tag 8 [])) ∧
    (s.sys.mode = .safe → ∀ m, m = 3 ∨ m = 4 ∨ m = 7 → exec (.modeSet h m) s = .next (s1.complete h.port.val 0x0040 0x0004 h.tag 0 []))) ∧
  (∀ (s : State) (h : Hdr) (m : Nat), s.serves = false → exec (.modeSet h m) s = .next s)

/-- THERMAL_RESUME, THM_RESUME_WRITE and CAL_REQUEST (R220, R300, R311, R315): SAFE is left, with the latch cleared, only where no
die sensor is broken and every die sensor and anchor was below its throttle clear level in the latest PERSIST rounds;
CALIBRATE is entered without any established circuit, every running cluster on its ramp down and its rows to be powered, and refused
with LIVE_CIRCUITS otherwise. -/
def Obligations.ResumeAndCalibrate : Prop :=
  (∀ s : State, s.mayResume = true ↔ (∀ d ∈ s.thm.dies, d.broken = false ∧ s.thm.persist ≤ d.thr.below) ∧
    ∀ p ∈ s.thm.privs.take 16, s.thm.persist ≤ p.thr.below) ∧
  (∀ (s s1 : State) (h : Hdr), Safe.turn h 0x0041 s s1 → h.port.val = s.steward → s.sys.mode = .safe →
    (s.mayResume = false → exec (.thermalResume h) s = .next (s1.complete h.port.val 0x0041 0x0017 h.tag 0 [])) ∧
    (s.mayResume = true → ∃ t, exec (.thermalResume h) s = .next t ∧ t = s1.resume.complete h.port.val 0x0041 0 h.tag 0 [] ∧
      t.thm.safeLatch = false ∧ (s.openSweep = none → s.sys.atlas.isSome = true → t.sys.mode = .service) ∧
      (s.openSweep = none → s.sys.atlas = none → t.sys.mode = .calibrate))) ∧
  (∀ (s : State) (v : Word), v.getLsbD 0 = true → s.thm.safeLatch = true → s.firmware = true →
    (s.mayResume = false → exec (.thmResumeWrite v) s = .next s) ∧
    (s.mayResume = true → ∃ t, exec (.thmResumeWrite v) s = .next t ∧ t.thm.safeLatch = false ∧
      (s.sys.mode = .safe → s.openSweep = none → s.sys.atlas.isSome = true → t.sys.mode = .service) ∧
      (s.sys.mode = .safe → s.openSweep = none → s.sys.atlas = none → t.sys.mode = .calibrate))) ∧
  (∀ (s s1 : State) (h : Hdr), Safe.turn h 0x0042 s s1 → h.port.val = s.steward → s.sys.mode = .service ∨ s.sys.mode = .dark →
    (s.fab.circuits ≠ [] → exec (.calRequest h) s = .next (s1.complete h.port.val 0x0042 0x0015 h.tag 0 [])) ∧
    (s.fab.circuits = [] → ∃ t, exec (.calRequest h) s = .next t ∧ t.sys.mode = .calibrate ∧ t.sys.sweep.isSome = true ∧ t.sys.calAsked = true ∧
      t.fab.circuits = [] ∧ Safe.rampsDown s t ∧ t.sys.rowsLeft = rowsOf s.usedCluster))

/-- HKC_SYSCAL and NET_FAILOVER (R197, R218, R278): STEP 0 begins a capture, which suspends the core, a running one once its conversion in
progress has finished, and discards what was captured for the input (the model's choice, log 64); STEP 1 needs STEP 0's capture and
begins the second one at the code that FS_UV stands for; STEP 2 stores the coefficients that its conditions allow; BUSY while a capture
runs; a failover command is refused, and counted in IGNORED, without a standby or while one runs, and otherwise clears STORM and
triggers. -/
def Obligations.SyscalAndFailoverCommands : Prop :=
  (∀ (s s1 : State) (h : Hdr) (core input : Nat) (c : HkcCore) (g : Nat), Safe.turn h 0x0043 s s1 → h.port.val = s.steward → inAwake s.sys.mode = true →
    core = 1 ∨ core = 2 → input ≤ 15 → s.hkc.cores[core]? = some c → c.en = true → c.gainOf input = some g →
    (s.hkc.sysRun.isSome = true → exec (.hkcSyscal h core input 0 0) s = .next (s1.complete h.port.val 0x0043 0x0005 h.tag 0 [])) ∧
    (s.hkc.sysRun = none → ∃ t, exec (.hkcSyscal h core input 0 0) s = .next t ∧ t = { s1 with hkc := t.hkc } ∧
      t.hkc.sys = some { core := core, input := input } ∧ (c.st = .running → t.core core = c) ∧ (c.st ≠ .running → t.core core = { c with st := .syscal }) ∧
      t.hkc.sysRun = some { port := h.port.val, tag := h.tag, seq := s1.turn h.port.val, core := core, input := input, step := 0, resume := decide (c.st = .running),
                            waits := decide (c.st = .running) }) ∧
    (∀ (q : Syscal) (fs : Int), s.hkc.sysRun = none → s.hkc.sys = some q → q.core = core → q.input = input → q.cz.isSome = true →
      2097152 ≤ syscalE1 g fs → syscalE1 g fs ≤ 8388607 → ∃ t, exec (.hkcSyscal h core input 1 fs) s = .next t ∧ t = { s1 with hkc := t.hkc } ∧
        t.hkc.sys = some { q with e1 := syscalE1 g fs, cf := none } ∧
        t.hkc.sysRun = some { port := h.port.val, tag := h.tag, seq := s1.turn h.port.val, core := core, input := input, step := 1, resume := decide (c.st = .running),
                              waits := decide (c.st = .running) }) ∧
    (∀ fs : Int, s.hkc.sysRun = none → s.hkc.sys = none → 2097152 ≤ syscalE1 g fs → syscalE1 g fs ≤ 8388607 →
      exec (.hkcSyscal h core input 1 fs) s = .next (s1.complete h.port.val 0x0043 0x0017 h.tag 0 [])) ∧
    (∀ (q : Syscal) (fs c0 : Int) (gain x : Nat), s.hkc.sysRun = none → s.hkc.sys = some q → q.core = core → q.input = input →
      s.syscalCoef q = some (c0, gain) → x = (core - 1) * 128 + input * 8 + g % 8 → x < s.hkc.coef.length →
      ∃ t, exec (.hkcSyscal h core input 2 fs) s = .next t ∧ t = { s with hkc := t.hkc, sys := t.sys, hosts := t.hosts } ∧
        t.hkc = { s.hkc with coef := t.hkc.coef } ∧ t.hkc.coef[x]? = some (some (c0, gain)) ∧
        (∀ y, y ≠ x → t.hkc.coef[y]? = s.hkc.coef[y]?) ∧ t.sys = s.sys.nvmWrite (.coef x c0 gain) ∧
        t.hosts = (s1.complete h.port.val 0x0043 0 h.tag 0 (leBytes 4 (twos 32 c0) ++ leBytes 4 gain ++ leBytes 1 (b2n s.sys.wouldQueue))).hosts)) ∧
  (∀ (s s1 : State) (h : Hdr), Safe.turn h 0x0044 s s1 → h.port.val = s.steward → inAwake s.sys.mode = true →
    (s.net.standbyFitted = false → exec (.netFailover h) s =
      .next (({ s1 with net := { s.net with ignored := sat16 s.net.ignored } } : State).complete h.port.val 0x0044 0x0007 h.tag 0 [])) ∧
    (s.net.standbyFitted = true → s.net.failing = true → exec (.netFailover h) s =
      .next (({ s1 with net := { s.net with ignored := sat16 s.net.ignored } } : State).complete h.port.val 0x0044 0x0005 h.tag 0 [])) ∧
    (s.net.standbyFitted = true → s.net.failing = false → ∃ (t u : State), exec (.netFailover h) s = .next t ∧
      t = u.complete h.port.val 0x0044 0 h.tag 0 (leBytes 1 (b2n (!s.net.active))) ∧ t.net.storm = false ∧
      t.net.failing = true ∧ t.net.active = !s.net.active ∧ t.fab = s.fab ∧ t.mem = s.mem))

/-- Images (R220, R321, R325, R327, R328): staging erases the slot not running, takes of the image's bytes LEN and no more than a slot
holds, and passes or fails by R321 without its step 2, with a newer generation and a read back without error; activation without circuits
programs the ACT word and begins the steward reset (also where the flash does not answer and the word cannot be programmed: the model's
choice, log 105); with circuits it answers their number, or with FORCE begins the announced release, after whose grace the reset
begins. -/
def Obligations.ImagesStageAndActivate : Prop :=
  (∀ (s s1 : State) (h : Hdr) (bytes : List Byte) (a len : Nat), Safe.turn h 0x0048 s s1 → inAny s.sys.mode = true → h.port.val = s.steward →
    a < 2 ^ 64 → s.sys.stageRun = none → ∃ t r, exec (.imageStage h bytes a len) s = .next t ∧ t = { s1 with sys := t.sys } ∧
      t.sys.staged = none ∧ t.sys.stageRun = some r ∧ r.port = h.port.val ∧ r.tag = h.tag ∧ r.seq = s1.turn h.port.val ∧
      r.bytes = (bytes.take len).take 0x7F0000 ∧
      (∀ f, s.sys.flash = some f → s.sys.wouldQueue = false → ∃ f', t.sys.flash = some f' ∧ f'.image (1 - s.sys.imgSlot) = none ∧
        (s.sys.imgSlot ≤ 1 → f'.image s.sys.imgSlot = f.image s.sys.imgSlot))) ∧
  (∀ (s : State) (r : StageRun) (ok : Bool), s.sys.stageRun = some r → s.firmware = true → s.sys.wouldQueue = false →
    (ok = false ∨ newerGen (readHdr r.bytes).generation s.sys.genImg = false ∨
        (checkSlot false (if s.sys.lc = .sealed_ then some s.sys.keyHash else none) (if s.time.refValid then some s.time.refFreq else none)
          { bytes := r.bytes }).isSome = true →
      ∃ t, exec (.imageStageDone ok) s = .next t ∧ t = { s with sys := t.sys, hosts := t.hosts } ∧ t.sys.staged = none ∧
        t.sys.stageRun = none ∧ t.hosts = (s.completeSeq r.port r.seq 0x0048 0x0016 r.tag 0 []).hosts) ∧
    (ok = true → newerGen (readHdr r.bytes).generation s.sys.genImg = true →
      checkSlot false (if s.sys.lc = .sealed_ then some s.sys.keyHash else none)
        (if s.time.refValid then some s.time.refFreq else none) { bytes := r.bytes } = none →
      ∃ t, exec (.imageStageDone ok) s = .next t ∧ t = { s with sys := t.sys, hosts := t.hosts } ∧ t.sys.staged = some (1 - s.sys.imgSlot) ∧
        (∀ f, s.sys.flash = some f → ∃ f', t.sys.flash = some f' ∧
          f'.image (1 - s.sys.imgSlot) = some { bytes := r.bytes, act := 0xFFFFFFFF }) ∧
        t.hosts = (s.completeSeq r.port r.seq 0x0048 0 r.tag 0 (leBytes 1 (1 - s.sys.imgSlot))).hosts)) ∧
  (∀ (s s1 : State) (h : Hdr) (ms k : Nat), Safe.turn h 0x0049 s s1 → inAny s.sys.mode = true → h.port.val = s.steward → ms ≤ 10000 → s.sys.grace = none →
    (s.sys.staged = none → exec (.imageActivate h ms) s = .next (s1.complete h.port.val 0x0049 0x0017 h.tag 0 [])) ∧
    (s.sys.staged = some k → s.fab.circuits = [] → ∃ t, exec (.imageActivate h ms) s = .next t ∧ t.sys.resetting = some .steward ∧
      (∀ f q, s.sys.flash = some f → s.sys.wouldQueue = false → k ≤ 1 → f.image k = some q →
        ∃ f', t.sys.flash = some f' ∧ f'.image k = some { q with act := 0 })) ∧
    (s.sys.staged = some k → s.fab.circuits ≠ [] → forced h = false →
      exec (.imageActivate h ms) s = .next (s1.complete h.port.val 0x0049 0x0015 h.tag 0 (leBytes 4 s.fab.circuits.length))) ∧
    (s.sys.staged = some k → s.fab.circuits ≠ [] → forced h = true → ∃ t, exec (.imageActivate h ms) s = .next t ∧
      t = { s with sys := t.sys, hosts := t.hosts } ∧ t.sys.release = true ∧ t.sys.resetting = none ∧
      t.sys.grace = some ⟨h.port.val, h.tag⟩)) ∧
  (∀ s : State, s.sys.grace.isSome = true → s.firmware = true → ∃ t, exec .releaseGraceEnd s = .next t ∧ t.sys.resetting = some .steward ∧
    t.fab = s.fab ∧ t.mem = s.mem)

/-! ### Mailbox windows and ports -/

/-- Ring indices (R207, R209, R211): a doorbell's entries stand in the ring from the tail on; an index that the ring's state allows is taken, any other is ignored and sets its bit of MBX_ERR;
SEQ counts from 0 when ENABLE becomes set; the event doorbell raises the port's source. -/
def Obligations.WindowWrites : Prop :=
  ∀ (s : State) (p : Fin 4) (q : HostPort), s.hostCan p.val = true → s.hosts[p.val]? = some q →
    (∀ v es, v < 65536 → (v + 65536 - q.cmdHead) % 65536 ≤ 64 → es.length + (q.cmdTail + 65536 - q.cmdHead) % 65536 ≤ 64 → q.cmdRing.length = 64 →
      ∃ t, exec (.commandDoorbell p v es) s = .next t ∧ t = { s with hosts := t.hosts } ∧
      t.hosts[p.val]? = some { q with cmdTail := v, cmdRing := (t.hport p.val).cmdRing } ∧
      (∀ i e, es[i]? = some e → (t.hport p.val).cmdRing.getD ((q.cmdTail + i) % 64) none = some e) ∧
      (∀ k, (∀ i, i < es.length → k ≠ (q.cmdTail + i) % 64) → (t.hport p.val).cmdRing.getD k none = q.cmdRing.getD k none) ∧
      (∀ r, r ≠ p.val → t.hport r = s.hport r)) ∧
    (∀ v es, v < 65536 → 64 < (v + 65536 - q.cmdHead) % 65536 → ∃ t, exec (.commandDoorbell p v es) s = .next t ∧ t = { s with hosts := t.hosts } ∧
      (t.hport p.val).cmdTail = q.cmdTail ∧ (t.hport p.val).err = q.err ||| 1) ∧
    (∀ v, v < 65536 → (v + 65536 - q.cplHead) % 65536 ≤ (q.cplTail + 65536 - q.cplHead) % 65536 →
      ∃ t, exec (.completionHeadWrite p v) s = .next t ∧ t = { s with hosts := t.hosts } ∧ t.hosts[p.val]? = some { q with cplHead := v }) ∧
    (∀ v, v < 65536 → (q.cplTail + 65536 - q.cplHead) % 65536 < (v + 65536 - q.cplHead) % 65536 →
      ∃ t, exec (.completionHeadWrite p v) s = .next t ∧ t = { s with hosts := t.hosts } ∧ t.hosts[p.val]? = some { q with err := q.err ||| 2 }) ∧
    (∀ v, v < 65536 → (v + 65536 - q.ntcHead) % 65536 ≤ (q.ntcTail + 65536 - q.ntcHead) % 65536 →
      ∃ t, exec (.noticeHeadWrite p v) s = .next t ∧ t = { s with hosts := t.hosts } ∧ t.hosts[p.val]? = some { q with ntcHead := v }) ∧
    (∀ v, v < 65536 → (q.ntcTail + 65536 - q.ntcHead) % 65536 < (v + 65536 - q.ntcHead) % 65536 →
      ∃ t, exec (.noticeHeadWrite p v) s = .next t ∧ t = { s with hosts := t.hosts } ∧ t.hosts[p.val]? = some { q with err := q.err ||| 2 }) ∧
    (∀ v : Word, ∃ t, exec (.mbxEnableWrite p v) s = .next t ∧ t = { s with hosts := t.hosts } ∧
      t.hosts[p.val]? = some { q with enable := v.getLsbD 0, ntcSeq := if v.getLsbD 0 = true ∧ q.enable = false then 0 else q.ntcSeq }) ∧
    (∃ t, exec (.eventDoorbell p) s = .next t ∧ t = { s with evt := t.evt } ∧
      t.evt = { s.evt with chanIn := s.evt.chanIn ++ (s.evt.takers (0xC0 + p.val)).map (fun ch => ⟨ch, none⟩) })

/-- Taking, posting, mirroring (R208-R212, R219): round robin over the ports, a command is copied from the head and is in flight; an
unknown code completes MALFORMED; the oldest notice of the backlog is posted with the next SEQ, the LOST notice with its count; the mirrors
take what they show and MIR_SEQ moves on by 2; the end of HOLDOFF sends one message for what was held back, and HOLDOFF runs anew. -/
def Obligations.TakePostMirror : Prop :=
  (∀ (s : State) (p : Fin 4) (q : HostPort) (c : RawCmd) (k : Nat), s.serves = true → s.hosts[p.val]? = some q → 1 ≤ k → k ≤ 4 →
    p.val = (s.sys.servedPort + k) % 4 → (∀ j, 1 ≤ j → j < k → (s.hport ((s.sys.servedPort + j) % 4)).mayTake = false) →
    q.taken.length + (q.cplTail + 65536 - q.cplHead) % 65536 < 64 → q.cmdHead ≠ q.cmdTail → q.cmdRing.getD (q.cmdHead % 64) none = some c →
    (c.code ∈ knownCodes → (∀ u ∈ q.taken, u.answer = none) → ∃ t, exec (.commandTake p) s = .next t ∧
      t = { s with hosts := t.hosts, sys := { s.sys with servedPort := p.val } } ∧
      t.hosts[p.val]? = some { q with cmdHead := (q.cmdHead + 1) % 65536, taken := q.taken ++ [⟨c, false, none, q.takes⟩], takes := q.takes + 1 } ∧
      (∀ r, r ≠ p.val → t.hport r = s.hport r)) ∧
    (c.code ∉ knownCodes → q.taken = [] → q.cplRing.length = 64 → ∃ t, exec (.commandTake p) s = .next t ∧
      t = { s with hosts := t.hosts, sys := { s.sys with servedPort := p.val } } ∧ (t.hport p.val).taken = [] ∧
      (t.hport p.val).cmdHead = (q.cmdHead + 1) % 65536 ∧ (t.hport p.val).cplTail = (q.cplTail + 1) % 65536 ∧
      (t.hport p.val).cplRing.getD (q.cplTail % 64) [] = cplBytes c.code 1 c.tag 0 [])) ∧
  (∀ (s : State) (p : Fin 4) (q : HostPort) (n : Notice) (rest : List Back), s.firmware = true → s.hosts[p.val]? = some q → q.enable = true →
    q.linkUp = true → (q.ntcTail + 65536 - q.ntcHead) % 65536 < 32 → q.backlog = .note n :: rest → q.ntcBody.length = 32 →
    ∃ t, exec (.noticePost p) s = .next t ∧ t = { s with hosts := t.hosts } ∧ (t.hport p.val).backlog = rest ∧
      (t.hport p.val).ntcTail = (q.ntcTail + 1) % 65536 ∧ (t.hport p.val).ntcSeq = (q.ntcSeq + 1) % 2 ^ 32 ∧
      (t.hport p.val).ntcBody.getD (q.ntcTail % 32) [] = n.body ∧ (∀ r, r ≠ p.val → t.hport r = s.hport r)) ∧
  (∀ (s : State) (p : Fin 4) (q : HostPort) (k : Nat) (rest : List Back), s.firmware = true → s.hosts[p.val]? = some q → q.enable = true →
    q.linkUp = true → (q.ntcTail + 65536 - q.ntcHead) % 65536 < 32 → q.backlog = .lost k :: rest → q.ntcDesc.length = 32 →
    ∃ t, exec (.noticePost p) s = .next t ∧ t = { s with hosts := t.hosts } ∧ (t.hport p.val).backlog = rest ∧
      (t.hport p.val).ntcTail = (q.ntcTail + 1) % 65536 ∧ (t.hport p.val).ntcSeq = (q.ntcSeq + 1) % 2 ^ 32 ∧
      ((t.hport p.val).ntcDesc.getD (q.ntcTail % 32) []).take 2 = leBytes 2 8 ∧
      (((t.hport p.val).ntcDesc.getD (q.ntcTail % 32) []).drop 22).take 4 = leBytes 4 k) ∧
  (∀ (s : State) (p : Fin 4) (q : HostPort), s.serves = true → s.hosts[p.val]? = some q → ∃ t, exec (.mirrorRefresh p) s = .next t ∧
    t = { s with hosts := t.hosts, rcd := { s.rcd with logDue := t.rcd.logDue } } ∧ (t.hport p.val).mirSeq = (q.mirSeq + 2) % 2 ^ 32 ∧ (t.hport p.val).mirState = s.mirState ∧
    (t.hport p.val).mirTaiNs = (mailOf s.tai).2 ∧ (t.hport p.val).mirTaiS = (mailOf s.tai).1 % 2 ^ 32 ∧ (t.hport p.val).mirHealth = (t.hport p.val).health ∧
    (∀ i, i < 4 → (t.hport p.val).mirInst.getD i {} = s.mirInst p.val i) ∧ (∀ r, r ≠ p.val → t.hport r = s.hport r)) ∧
  (∀ (s : State) (p : Fin 4) (q : HostPort), s.hosts[p.val]? = some q →
    (q.hold0 = true → q.held0 = false → ∃ t, exec (.msixHoldoffEnd p 0) s = .next t ∧ t = { s with hosts := t.hosts } ∧
      t.hosts[p.val]? = some { q with hold0 := false, held0 := false }) ∧
    (q.hold1 = true → q.held1 = false → ∃ t, exec (.msixHoldoffEnd p 1) s = .next t ∧ t = { s with hosts := t.hosts } ∧
      t.hosts[p.val]? = some { q with hold1 := false, held1 := false }) ∧
    (q.hold0 = true → q.held0 = true → q.linkUp = true → q.holdoff ≠ 0 → (q.msix.getD 0 {}).masked = false → q.sent.length = 32 →
      ∃ t, exec (.msixHoldoffEnd p 0) s = .next t ∧ t = { s with hosts := t.hosts } ∧ (t.hport p.val).hold0 = true ∧ (t.hport p.val).held0 = false ∧
        (t.hport p.val).sent.getD 0 0 = q.sent.getD 0 0 + 1) ∧
    (q.hold1 = true → q.held1 = true → q.linkUp = true → q.holdoff ≠ 0 → (q.msix.getD 1 {}).masked = false → q.sent.length = 32 →
      ∃ t, exec (.msixHoldoffEnd p 1) s = .next t ∧ t = { s with hosts := t.hosts } ∧ (t.hport p.val).hold1 = true ∧ (t.hport p.val).held1 = false ∧
        (t.hport p.val).sent.getD 1 0 = q.sent.getD 1 0 + 1))

/-- A port goes and comes (R221, R253): its reset ends the commands it had, its link, its master's waiting pieces and its channels, and
touches neither circuits nor live targets; its enumeration brings the link up, at its rate, where the port's domain is on. -/
def Obligations.PortResetsAndLinks : Prop :=
  (∀ (s : State) (p : Fin 4) (q : HostPort), s.hosts[p.val]? = some q → ∃ t, exec (.hostPortReset p) s = .next t ∧
    (t.hport p.val).linkUp = false ∧ (t.hport p.val).taken = [] ∧ (t.hport p.val).enable = false ∧ (t.hport p.val).cmdTail = 0 ∧
    (t.hport p.val).err = 0 ∧ (t.hport p.val).health = q.health ∧
    (∀ l ∈ t.braid.waiting, ∀ w ∈ l, w.req.master.val ≠ 9 + p.val) ∧ (∀ w ∈ t.shadows, w.master ≠ 9 + p.val) ∧
    (∀ ch c, t.evt.chans[ch]? = some c → ch < 128 → c.owner = p.val → c.en = false ∧ c.src = 0) ∧
    t.fab.circuits = s.fab.circuits ∧ (∀ n, (t.cell n).live = (s.cell n).live) ∧ t.sys.mode = s.sys.mode) ∧
  (∀ (s : State) (p : Fin 4) (q : HostPort) (r : LinkRate), s.hosts[p.val]? = some q →
    (s.power.pcie.getD p.val .off = .on → ∃ t, exec (.hostLinkUp p r) s = .next t ∧ t = { s with hosts := t.hosts } ∧
      t.hosts[p.val]? = some { q with linkUp := true, rate := r } ∧ (∀ o, o ≠ p.val → t.hport o = s.hport o)) ∧
    (s.power.pcie.getD p.val .off ≠ .on → exec (.hostLinkUp p r) s = .next s))

/-! ### Modes, firmware and the NVM -/

/-- Firmware's absence and return (R316, R317, R311): a fault in SERVICE, DERATED or DARK enters RESTART with every circuit, live
target and cluster as it was; in LOAD and CALIBRATE it begins a watchdog reset, in SAFE it pauses; a kick restarts the watchdog, whose
first expiry is a fault and whose second one is a reset, another RESTART or, the third time, firmware given up; on return the mode follows R311, live targets and
outputs are as they were, and the circuits are the kept ones or, with the kept table damaged, those that the live targets trace. -/
def Obligations.FirmwareFailsAndReturns : Prop :=
  (∀ s : State, s.firmware = true →
    (s.sys.mode = .service ∨ s.sys.mode = .derated ∨ s.sys.mode = .dark → ∃ t, exec .firmwareFault s = .next t ∧ t.sys.mode = .restart ∧
      t.sys.paused = true ∧ t.sys.before = s.sys.mode ∧ t.sys.restarts = sat16 s.sys.restarts ∧ t.clusters = s.clusters ∧
      t.fab.circuits = s.fab.circuits ∧ ((∀ m, m < 4 → s.braid.granted.getD m none = none) → t.mem = s.mem) ∧ t.time = s.time ∧ (∀ m, m < 4 → t.braid.closed[m]? = s.braid.closed[m]?.map (fun _ => true))) ∧
    (s.sys.mode = .load ∨ s.sys.mode = .calibrate → ∃ t, exec .firmwareFault s = .next t ∧ t = { s with clusters := t.clusters, sys := t.sys } ∧
      t.sys = { s.sys with resetting := some .watchdog }) ∧
    (s.sys.mode = .safe → ∃ t, exec .firmwareFault s = .next t ∧ t.sys.mode = .safe ∧ t.sys.paused = true ∧ t.clusters = s.clusters ∧
      t.fab = s.fab ∧ t.thm = s.thm) ∧
    exec .watchdogKick s = .next { s with sys := { s.sys with wdtAt := s.now } } ∧
    ((s.watchdogAt 500000000).isSome = true → s.sys.mode = .service → ∃ t, exec .watchdogFirstExpire s = .next t ∧ t.sys.mode = .restart ∧
      t.sys.paused = true ∧ t.clusters = s.clusters)) ∧
  (∀ s : State, s.sys.paused = true → s.sys.givenUp = false → s.sys.resetting = none → s.sys.held = false →
    (∀ ok, ∃ t, exec (.firmwareReturn ok) s = .next t ∧ t.sys.paused = false ∧ t.sys.restartFails = 0 ∧
      (∀ n, (t.cell n).live = (s.cell n).live ∧ (t.cell n).uf = (s.cell n).uf ∧ (t.cell n).uh = (s.cell n).uh) ∧
      (ok = true → (∀ e ∈ s.fab.epochs, e.carry = false) → t.fab.circuits = s.fab.circuits) ∧
      (ok = false → (∀ e ∈ s.fab.epochs, e.carry = false) → t.fab.circuits = (List.range s.instCount).flatMap s.traced) ∧ (s.sys.mode ≠ .restart → t.sys.mode = s.sys.mode) ∧
      (s.sys.mode = .restart → t.sys.mode = s.returnMode)) ∧
    ((s.watchdogAt 2000000000).isSome = true → (s.image.idnt.wdtReset = true → ∃ t, exec .watchdogRestartExpire s = .next t ∧
        t.sys.resetting = some .watchdog) ∧
      (s.image.idnt.wdtReset = false → s.sys.restartFails = 2 → ∃ t, exec .watchdogRestartExpire s = .next t ∧ t.sys.givenUp = true ∧
        t.sys.restartFails = 3 ∧ t.clusters = s.clusters) ∧
      (s.image.idnt.wdtReset = false → s.sys.restartFails < 2 → ∃ t, exec .watchdogRestartExpire s = .next t ∧ t.sys.givenUp = false ∧
        t.sys.restartFails = s.sys.restartFails + 1 ∧ t.sys.restarts = sat16 s.sys.restarts ∧ t.sys.resetting = none)))

/-- DARK's transitions and a sweep (R86, R87, R295, R312, R314, R315, R319, R331): a waiting cluster that still meets R314 begins its
ramp; entry to DARK completes once what was switched off is off, exit once the first outputs are in force; a throttle holds a sweep back;
a sweep on its way takes what it has measured and, while the flash answers, files each cluster that it has passed (log 176); one that ends
within MAX_RETIRE is written with its header last and put into use in SERVICE with every running cluster on its ramp down, one beyond it
leaves the atlas as it was and stays in CALIBRATE (the model's choice, log 106). -/
def Obligations.DarkAndSweepEnd : Prop :=
  (∀ (s : State) (c : Fin 256) (k : Cluster), s.firmware = true → s.sys.darkWait.contains c.val = true → s.openNames c.val = false →
    s.darkMay c.val = true → s.clusters[c.val]? = some k → k.pow = .on → ∃ t, exec (.darkDeferredPowerDown c) s = .next t ∧
      t = { s with clusters := t.clusters, sys := t.sys, spares := t.spares, fab := t.fab } ∧ (t.clu c.val).pdown = true ∧
      t.fab.circuits = s.fab.circuits ∧ t.sys.darkWait.contains c.val = false ∧
      t.sys.waitOut = s.sys.waitOut ++ [c.val] ∧ (∀ d, d ≠ c.val → t.clu d = s.clu d)) ∧
  (∀ (s : State) (m : ModeCmd), s.firmware = true → s.darkReached = true → s.sys.modeCmd = some m → s.sys.darkNext = [] → m.port < 4 →
    ∃ t, exec .darkEntryDone s = .next t ∧ t = { s with sys := t.sys, hosts := t.hosts, rcd := { s.rcd with logDue := t.rcd.logDue } } ∧
      t.sys = { s.sys with darkEntering := false, modeCmd := none } ∧
      t.hosts = ((s.notifyAll 3 (leBytes 1 s.sys.darkFrom.code ++ leBytes 1 4)).completeSeq m.port m.seq m.code 0 m.tag 0 (leBytes 1 4)).hosts) ∧
  (∀ s : State, s.firmware = true → s.sys.darkExiting = true → s.sys.rowsLeft = [] → s.sys.waitOut.all s.firstOut = true →
    ∃ t, exec .darkExitDone s = .next t ∧ t = { s with sys := t.sys, hosts := t.hosts, rcd := { s.rcd with logDue := t.rcd.logDue } } ∧
      t.sys.darkExiting = false ∧ t.sys.waitOut = [] ∧
      t.sys.modeCmd = none ∧ t.sys.mode = (if s.thm.anyThr = true then .derated else .service)) ∧
  (∀ (s : State) (m a : AtlasSlot) (w : Sweep) (n : Nat), s.sys.sweep = some w → s.sys.mode = .calibrate → s.firmware = true →
    a = s.sweptAtlas (s.sweepTake m n w) m.retire →
    (s.thm.anyThr = true → exec (.calSweepDone ⟨m, n⟩) s = .next s) ∧
    (s.thm.anyThr = false → n < 258 → ∃ t u, exec (.calSweepDone ⟨m, n⟩) s = .next t ∧ t = { s with sys := t.sys } ∧ t.sys.sweep = some u ∧
      t.sys.mode = .calibrate ∧ t.sys.atlas = s.sys.atlas ∧ u.gen = w.gen ∧ u.slot = w.slot ∧ u.done = max w.done (min n 257) ∧
      (∀ q, q ∈ u.made.cells ↔ q ∈ w.made.cells ∨ ∃ r, (q.1, r) ∈ m.cells ∧ w.done ≤ q.1 / 32 ∧ q.1 / 32 < n ∧
        (s.entry q.1).role ≠ 0 ∧ q.2 = s.sweptCell q.1 r) ∧
      (s.sys.wouldQueue = false → ∀ c, c < 256 → s.cellInsts c ≠ [] → c < u.done → c ∈ u.filed)) ∧
    (s.thm.anyThr = false → 258 ≤ n → s.sweptBad a ≤ s.image.atls.maxRetire → ∃ t, exec (.calSweepDone ⟨m, n⟩) s = .next t ∧
      t.sys.mode = .service ∧ t.sys.sweep = none ∧ t.sys.atlas = some a ∧ t.sys.atlSlot = w.slot ∧ t.sys.genAtl = w.gen ∧
      t.sys.retire = a.retire ∧ Safe.rampsDown s t ∧ t.fab.circuits = s.fab.circuits ∧
      (s.sys.wouldQueue = false → ∃ f q, t.sys.flash = some f ∧ f.atlas w.slot = some q ∧ q.headed = true ∧ q.generation = w.gen ∧
        q.hdrCrc = a.hdrCrc ∧ q.retire = a.retire)) ∧
    (s.thm.anyThr = false → 258 ≤ n → s.image.atls.maxRetire < s.sweptBad a → ∃ t, exec (.calSweepDone ⟨m, n⟩) s = .next t ∧
      t.sys.sweep = none ∧ t.sys.atlas = s.sys.atlas ∧ t.sys.mode = .calibrate ∧ t.clusters = s.clusters))

/-- The NVM's tests and what a shutdown leaves (R298, R299, R325, R333-R335): a flash that does not answer, or whose parameter table has
no valid signature (log 175), is absent; one whose identity and running header are the kept ones is the same and takes the queue in order;
a blank one takes the running image and what waits; any other is foreign and takes nothing; at the end of the ramp every cluster is off and
the two latest Skim snapshots are kept; the record is written once, or queued; the capsule goes to the next of eight places once, one that
waits from an earlier shutdown first (the model's choice, log 99). -/
def Obligations.NvmAndShutdownRecords : Prop :=
  (∀ s : State, s.firmware = true → s.sys.ready = true →
    exec (.nvmTest .absent) s = .next { s with sys := { s.sys with absent := true, present := false, answers := false } } ∧
    (∀ (f : Flash) (a : Bool), f.signed = false → exec (.nvmTest (.other f a)) s =
      .next { s with sys := { s.sys with absent := true, present := false, answers := false } }) ∧
    (∀ (f : Flash) (a : Bool) (o : FlashFound), (o = .held a ∧ s.sys.flash = some f) ∨ o = .other f a → f.signed = true → s.sameFlash f = true →
      ∃ t g, exec (.nvmTest o) s = .next t ∧ t = { s with sys := t.sys } ∧ t.sys.queue = [] ∧ t.sys.absent = false ∧
      t.sys.foreign = false ∧ t.sys.answers = a ∧ t.sys.flash = some g ∧ g.slotA = f.slotA ∧ g.slotB = f.slotB ∧
      (s.sys.ftCopy = none → g = s.sys.queue.foldl (fun f r => flashPut s.sys.atlSlot r f) f)) ∧
    (∀ f : Flash, s.sameFlash f = true → f.jedec = s.sys.idJedec ∧ f.sfdp = s.sys.idSfdp ∧
      ∃ q, s.sys.img = some q ∧ ∀ o, o < 64 → f.byteAt (0x800000 * s.sys.imgSlot + o) = q.bytes.getD o 0xFF) ∧
    (∀ (f : Flash) (a : Bool), f.signed = true → s.sameFlash f = false → slotErased f.slotA = false ∨ slotErased f.slotB = false →
      exec (.nvmTest (.other f a)) s =
      .next { s with sys := { s.sys with absent := false, present := true, foreign := true, answers := a } }) ∧
    (∀ (f : Flash) (a : Bool), f.signed = true → s.sameFlash f = false → slotErased f.slotA = true → slotErased f.slotB = true →
      ∃ t g, exec (.nvmTest (.other f a)) s = .next t ∧ t = { s with sys := t.sys } ∧
      t.sys.replaced = true ∧ t.sys.foreign = false ∧ t.sys.absent = false ∧ t.sys.answers = a ∧ t.sys.queue = [] ∧ t.sys.staged = none ∧
      t.sys.imgSlot = 0 ∧ t.sys.flash = some g ∧ g.slotA = s.sys.img.map (fun q => { bytes := q.bytes, act := 0 }))) ∧
  (∀ (s : State) (q : Shutdown), s.thm.shut = some q → q.early = false → s.sys.mode = .safe → q.rampDone = false →
    ∃ t, exec .shutdownRampDone s = .next t ∧ (∀ c, (t.clu c).pow = .off) ∧ (∀ r, (t.island r).pow = .off) ∧
      (∀ n, (s.clu (n / 32)).pow ≠ .off → (t.cell n).parked = true ∧ (t.cell n).uh = 0) ∧ t.sys = s.sys ∧ t.fab = s.fab ∧
      (s.firmware = true → q.written = false → s.thm.capsule = none → s.rcd.snaps ≠ [] → t.thm.capsule = some s.rcd.snaps)) ∧
  (∀ (s : State) (q : Shutdown), s.thm.shut = some q → s.firmware = true →
    (q.written = true → exec .shutdownRecordWrite s = .next s) ∧
    (q.written = false → s.sys.wouldQueue = true → s.sys.queue.length < 64 → ∃ t bs, exec .shutdownRecordWrite s = .next t ∧ t = { s with thm := t.thm, sys := t.sys } ∧
      t.sys.flash = s.sys.flash ∧ NvmRecord.shutdown bs ∈ t.sys.queue ∧ bs.length = 512 ∧ t.thm.shut = some { q with written := true }) ∧
    (q.written = false → ∀ f, s.sys.flash = some f → s.sys.wouldQueue = false → ∃ t g bs, exec .shutdownRecordWrite s = .next t ∧
      t.sys.flash = some g ∧ bs.length = 512 ∧ g = flashPut s.sys.atlSlot (.shutdown bs) f ∧ t.thm.shut = some { q with written := true })) ∧
  (∀ (s : State) (q : Shutdown) (c : List (Nat × Nat × List Byte)) (f : Flash), s.thm.shut = some q → q.written = true → s.thm.capsule = some c → s.thm.waitCaps = [] →
    s.sys.flash = some f → s.firmware = true → s.sys.wouldQueue = false → ∃ t g, exec .tailCapsuleWrite s = .next t ∧
      t = { s with sys := t.sys, thm := t.thm } ∧ t.sys.flash = some g ∧ t.thm.capsule = none ∧
      (f.capNext < 8 → f.capNext ≤ f.capsules.length → f.capsules.length ≤ 8 → g.capsules[f.capNext]? = some (c.flatMap (fun q => q.2.2)) ∧
        g.capNext = (f.capNext + 1) % 8 ∧ g.capsules.length ≤ 8 ∧ ∀ i, i ≠ f.capNext → g.capsules[i]? = f.capsules[i]?)) ∧
  (∀ (s : State) (c : List (Nat × Nat × List Byte)) (cs : List (List (Nat × Nat × List Byte))) (f : Flash), s.thm.waitCaps = c :: cs →
    s.sys.flash = some f → s.firmware = true → s.sys.wouldQueue = false → ∃ t g, exec .tailCapsuleWrite s = .next t ∧
      t = { s with sys := t.sys, thm := { s.thm with waitCaps := cs } } ∧ t.sys.flash = some g ∧
      (f.capNext ≤ f.capsules.length → g.capsules[f.capNext]? = some (c.flatMap (fun q => q.2.2))))

/-! ### Time -/

/-- The counters run and cross their bounds (R163-R165, R170, R341): on an empty queue one tick (log 14: the tick stands in for idling), WNS and
the fraction growing together by INC in one 64-bit sum where no counter crosses a bound, and a change of the capture list taking effect with a
tick that reaches or passes a 4 µs grid instant; INC takes y and carries its rounding residue; a wrap of WNS sets ERA_STALE and
raises NS_WRAP; only ERA + 1 is written; at 2³¹ ERA increments itself; the top of the second latches ERA and WNS. -/
def Obligations.CountersCrossTheirBounds : Prop :=
  (∀ s : State, s.pending = [] → s.time.run = false → step s = .next s) ∧
  (∀ s : State, s.pending = [] → s.time.run = true → s.time.frac < 2 ^ 32 →
    s.time.wns + (s.time.frac + s.time.inc) / 2 ^ 32 < 2 ^ 31 → s.time.sph + (s.time.frac + s.time.inc) / 2 ^ 32 < 1000000000 →
    ∃ t, step s = .next t ∧
      t = { s with time := t.time,
                   rcd := if s.rcd.capDirty = true ∧ s.time.sph / 4000 < t.time.sph / 4000 then { s.rcd with capNow := s.capList, capDirty := false }
                     else s.rcd } ∧
      t.time.wns * 2 ^ 32 + t.time.frac = s.time.wns * 2 ^ 32 + s.time.frac + s.time.inc ∧ t.time.frac < 2 ^ 32 ∧
      t.time.sph + s.time.wns = s.time.sph + t.time.wns ∧ t.time.era = s.time.era) ∧
  (∀ s : State, s.time.run = true → 1 ≤ 4 * 2 ^ 32 + s.yInc * 4 * 2 ^ 32 / 1000000000000 + s.time.residue →
    4 * 2 ^ 32 + s.yInc * 4 * 2 ^ 32 / 1000000000000 + s.time.residue ≤ 2 ^ 40 - 1 → ∃ t, exec .incReload s = .next t ∧
      t = { s with time := { s.time with inc := t.time.inc, residue := t.time.residue, y := s.time.yTotal } } ∧
      (t.time.inc : Rat) + t.time.residue = 4 * 2 ^ 32 + s.yInc * 4 * 2 ^ 32 / 1000000000000 + s.time.residue ∧
      -(1 / 2) ≤ t.time.residue ∧ t.time.residue ≤ 1 / 2) ∧
  (∀ s : State, s.time.run = true → 0 < s.time.inc → s.time.inc < 2 ^ 40 → s.time.frac < 2 ^ 32 → s.time.wns < 2 ^ 32 → s.time.sph < 1000000000 →
    (s.time.eraStale = false → ∃ t, exec .nsWrap s = .next t ∧ t = { s with time := t.time, rcd := t.rcd, evt := t.evt } ∧
      t.time.eraStale = true ∧ t.time.era = s.time.era ∧ t.time.wns ≤ s.time.inc / 2 ^ 32 ∧
      t.evt = { s.evt with chanIn := s.evt.chanIn ++ (s.evt.takers 0x01).map (fun ch => ⟨ch, none⟩) }) ∧
    (s.time.eraStale = true → s.time.wns < 2 ^ 31 → ∃ t, exec .eraAutoIncrement s = .next t ∧ t = { s with time := t.time, rcd := t.rcd } ∧
      t.time.eraStale = false ∧ t.time.eraAuto = true ∧ t.time.era = (s.time.era + 1) % 2 ^ 32 ∧ 2 ^ 31 ≤ t.time.wns) ∧
    (∃ t, exec .topOfSecond s = .next t ∧ t = { s with time := t.time, rcd := t.rcd, evt := t.evt } ∧ t.time.sph ≤ s.time.inc / 2 ^ 32 ∧
      t.time.tosEra = t.time.era ∧ t.time.tosWns = t.time.wns ∧ t.rcd.k = 0)) ∧
  (∀ (s : State) (v : Word),
    (s.time.eraStale = true → v.toNat = (s.time.era + 1) % 2 ^ 32 →
      exec (.eraWrite v) s = .next { s with time := { s.time with era := v.toNat, eraStale := false } }) ∧
    (s.time.eraStale = false ∨ v.toNat ≠ (s.time.era + 1) % 2 ^ 32 →
      exec (.eraWrite v) s = .next { s with time := { s.time with eraWrErr := true } }))

/-- Steps and loads (R166-R170, R175): a request within 1 s pends, another sets STEP_ERR; a step adds to WNS and SPH in one tick, counts,
and leaves disarmed compare units as they are; carrying WNS to 2³¹ with ERA_STALE set it increments ERA; it moves the instants from which
elapsed time is counted with the counters, so that intervals keep their length (R169, log 51); firmware's origin stays TAI's and, as far as
the counters and TAI reach back, 2 s behind them; it waits while an epoch is sealed; a load sets every counter and, with its TAI second,
the origin, and disarms every compare unit; it is not taken while an FAB slot is in use. -/
def Obligations.StepsAndLoads : Prop :=
  (∀ (s : State) (v : Word),
    (v.toInt ≤ 1000000000 → -1000000000 ≤ v.toInt →
      exec (.timeStepWrite v) s = .next { s with time := { s.time with stepReg := v, stepPend := some v.toInt } }) ∧
    (1000000000 < v.toInt ∨ v.toInt < -1000000000 →
      exec (.timeStepWrite v) s = .next { s with time := { s.time with stepErr := true } })) ∧
  (∀ (s s1 : State) (d : Int), s.time.stepPend = some d →
    (s.fab.epochs.any (fun e => e.st = .sealedE) = true → exec .stepApply s = .next s) ∧
    (s.fab.epochs.any (fun e => e.st = .sealedE) = false → reach 3000000000 s.stepAt s = some s1 → ∃ t, exec .stepApply s = .next t ∧
      t.time.wns = (((s1.time.wns : Int) + d) % 2 ^ 32).toNat ∧ t.time.sph = (((s1.time.sph : Int) + d) % 1000000000).toNat ∧
      (s1.time.eraStale = false ∨ t.time.wns < 2 ^ 31 → t.time.era = s1.time.era ∧ t.time.eraStale = s1.time.eraStale) ∧
      (s1.time.eraStale = true → 2 ^ 31 ≤ t.time.wns →
        t.time.era = (s1.time.era + 1) % 2 ^ 32 ∧ t.time.eraStale = false ∧ t.time.eraAuto = true) ∧
      t.time.stepPend = none ∧ t.time.stepCnt = sat16 s1.time.stepCnt ∧
      (∀ (i : Nat) (c : Cmp), s1.time.cmps[i]? = some c → c.armed = false → t.time.cmps[i]? = some c) ∧
      (s1.time.srv = .locked → t.time.srv = .acquire) ∧ (s1.time.srv ≠ .locked → t.time.srv = s1.time.srv) ∧
      t.clusters = s1.clusters.map (Cluster.shift d) ∧ t.sys.efcEdge = s1.sys.efcEdge + d ∧ t.hkc.slotAt = s1.hkc.slotAt + d ∧
      t.net.trigX = s1.net.trigX + d ∧ t.evt.cons.map (fun q => q.arrAt) = s1.evt.cons.map (fun q => shiftOpt d q.arrAt) ∧ t.rcd.k = 0 ∧
      (∀ x, t.time.taiOf x = s1.time.taiOf x) ∧ (s1.firmware = true →
        2000000000 ≤ t.now - t.time.originX ∨ t.time.originS = 0 ∨ t.time.originX < 1000000000) ∧
      (t.time.originS = s1.time.originS → t.mem = s1.mem))) ∧
  (∀ (s : State) (taiS : Nat),
    (s.fab.epochs ≠ [] → exec (.timeLoad taiS) s = .next s) ∧
    (s.fab.epochs = [] → s.time.run = true → ∃ t, exec (.timeLoad taiS) s = .next t ∧ t.time.era = s.time.loadEra.toNat ∧
      t.time.wns = s.time.loadWns.toNat ∧ t.time.sph = s.time.loadSph.toNat % 2 ^ 30 % 1000000000 ∧ t.time.eraStale = false ∧
      t.time.taiOf ((s.time.loadEra.toNat : Int) * 2 ^ 32 + s.time.loadWns.toNat - t.time.sph) = (taiS : Int) * 1000000000 ∧ (∀ (i : Nat) (c : Cmp), t.time.cmps[i]? = some c → c.armed = false) ∧ t.fab = s.fab ∧ t.hosts = s.hosts))

/-- Compare units, capture units and PPS (R172, R174, R176-R178): arming takes a target ahead only; a firing unit disarms, or moves one
period on; a capture unit takes the stamp of its pin's edge, of its channel's occurrence or of the software trigger, and a full one counts what it
cannot take; a read by firmware empties it; a pulse of 104 ns qualifies 100 ns after its edge and one below 96 ns does not; with PPS_IN
as the phase source the edge feeds the servo, and its absence ends in HOLDOVER (R181); PPS_OUT rises where it is enabled and falls WIDTH µs
later. Arming a unit whose target is not ahead disarms it, and PER below 1,000 acts as 1,000 (log 52); WIDTH is held to 1-500,000
(log 53). -/
def Obligations.CompareCaptureAndPps : Prop :=
  (∀ (s : State) (i : Fin 8) (c : Cmp), s.time.cmps[i.val]? = some c →
    (∃ t, exec (.compareArm i) s = .next t ∧ t = { s with time := { s.time with cmps := t.time.cmps } } ∧
      (∀ j, j ≠ i.val → t.time.cmps[j]? = s.time.cmps[j]?) ∧
      (16 ≤ (c.tgt + 2 ^ 32 - s.time.wns) % 2 ^ 32 → (c.tgt + 2 ^ 32 - s.time.wns) % 2 ^ 32 < 2 ^ 31 →
        t.time.cmps[i.val]? = some { c with armed := true }) ∧
      ((c.tgt + 2 ^ 32 - s.time.wns) % 2 ^ 32 < 16 ∨ 2 ^ 31 ≤ (c.tgt + 2 ^ 32 - s.time.wns) % 2 ^ 32 →
        t.time.cmps[i.val]? = some { c with armed := false, armErr := true })) ∧
    (∃ t, exec (.compareDisarm i) s = .next t ∧ t = { s with time := { s.time with cmps := t.time.cmps } } ∧
      t.time.cmps[i.val]? = some { c with armed := false } ∧ (∀ j, j ≠ i.val → t.time.cmps[j]? = s.time.cmps[j]?)) ∧
    (c.armed = true → s.time.run = true → ∃ t, exec (.compareFire i) s = .next t ∧
      t.time.cmps[i.val]? = some (if c.periodic = true then { c with tgt := (c.tgt + max 1000 c.per) % 2 ^ 32 } else { c with armed := false }) ∧
      (∀ j, j ≠ i.val → t.time.cmps[j]? = s.time.cmps[j]?) ∧ (∀ ch ∈ s.evt.takers (0x10 + i.val), ⟨ch, none⟩ ∈ t.evt.chanIn))) ∧
  (∀ (s : State) (i : Fin 8) (c : Cap), s.time.caps[i.val]? = some c →
    (∀ (x : Instr) (p : Stamp) (o : Option (Fin 128)), (2 ≤ c.src ∧ c.src ≤ 17 ∧ x = .captureStamp i o ∧
          s.evt.pinIn.find? (fun q => q.1 = i.val) = some (i.val, p)) ∨
        (c.src = 18 ∧ x = .captureStamp i o ∧ p = s.stamp ∧ ∃ ch, o = some ch ∧ (i.val, ch.val) ∈ s.evt.capIn) ∨
        (c.src = 19 ∧ x = .captureSwTrigger i ∧ p = s.stamp) →
      ∃ t, exec x s = .next t ∧ t = { s with time := { s.time with caps := t.time.caps }, evt := t.evt } ∧
        (∀ j, j ≠ i.val → t.time.caps[j]? = s.time.caps[j]?) ∧
        (c.full = false → t.time.caps[i.val]? = some { c with full := true, stamp := p } ∧
          t.evt.chanIn = s.evt.chanIn ++ (s.evt.takers (0x18 + i.val)).map (fun ch => ⟨ch, if c.src = 18 then o.map Fin.val else none⟩)) ∧
        (c.full = true → t.time.caps[i.val]? = some { c with ovr := true, ovrCnt := sat8 c.ovrCnt } ∧ t.evt.chanIn = s.evt.chanIn)) ∧
    (∀ o : Option (Fin 128), 2 ≤ c.src → c.src ≤ 17 → (∀ q ∈ s.evt.pinIn, q.1 ≠ i.val) → exec (.captureStamp i o) s = .next s) ∧
    (∀ m : Master, ∃ t, exec (.captureRead i m) s = .next t ∧ t = { s with time := t.time, shadows := t.shadows } ∧
      t.time.caps[i.val]? = some (if m.val < 9 ∨ m.val = 13 then { c with full := false } else c) ∧
      ⟨m.val, .timeCap i, BitVec.ofNat 32 c.stamp.era⟩ ∈ t.shadows)) ∧
  (∀ s : State, exec .ppsInRise s = .next { s with time := { s.time with ppsRise := some s.stamp, ppsInAt := some s.now } } ∧
    (∀ (ns : Nat) (p : Stamp) (x : Int) (s1 s2 : State), s.time.ppsRise = some p → s.time.ppsInAt = some x → reach 1000 (x + 100) s = some s1 →
      s2 = { s1 with time := { s1.time with ppsRise := none, ppsInAt := none } } →
      (ns < 96 → exec (.ppsInQualified ns) s = .next s2) ∧
      (104 ≤ ns → s.image.time.source ≠ 2 → ∃ t, exec (.ppsInQualified ns) s = .next t ∧
        t = { s2 with time := { s2.time with caps := t.time.caps }, evt := { s2.evt with chanIn := t.evt.chanIn } } ∧
        (∀ ch ∈ s1.evt.takers 0x20, (⟨ch, none⟩ : ChanOcc) ∈ t.evt.chanIn) ∧
        (∀ (i : Nat) (c : Cap), i < 8 → s1.time.caps[i]? = some c → (c.src ≠ 1 → t.time.caps[i]? = some c) ∧
          (c.src = 1 → c.full = false → t.time.caps[i]? = some { c with full := true, stamp := p }))) ∧
      (104 ≤ ns → s.image.time.source = 2 → s.firmware = true → s.time.srv = .acquire ∨ s.time.srv = .locked → (∀ i, i < 8 → s.capSrc i ≠ 1) →
        ∀ th : Int, th = signedNs (((p.sph : Int) - s.image.time.dPps) % 1000000000) * 256 → -(2 ^ 31) ≤ th → th < 2 ^ 31 →
        ∃ u, exec (.ppsInQualified ns) s = exec (.servoUpdate (BitVec.ofInt 32 th)) u ∧
          u = { s2 with evt := { s2.evt with chanIn := s2.evt.chanIn ++ (s2.evt.takers 0x20).map (fun ch => ⟨ch, none⟩) } })) ∧
    (s.image.time.source = 2 → s.firmware = true → s.time.srv = .locked → ∃ t, exec .ppsInTimeout s = .next t ∧ t.time.srv = .holdover ∧
      t.time.ppsGood = 0)) ∧
  (∀ s s1 : State, reach 1100000000 s.ppsNext s = some s1 → ∃ t, exec .ppsOutRise s = .next t ∧ t.time.ppsRiseAt = some s1.now ∧
    t.time.ppsGate = false ∧ t.time.ppsOut = s1.ppsMay ∧ t = { s1 with time := t.time }) ∧
  (∀ (s s1 : State) (r : Int), s.time.ppsRiseAt = some r → s.time.ppsOut = true →
    reach 1100000000 (r + (max 1 (min 500000 s.time.ppsWidth)) * 1000) s = some s1 →
    exec .ppsOutFall s = .next { s1 with time := { s1.time with ppsOut := false } })

/-- The servo (R162, R179-R181, R308): an update moves I by Ki × θ and y_srv to FIN − (Kp × θ + I), and y stays within 200 ppm; in FREERUN and
HOLDOVER it is counted and ignored; beyond the threshold a step is asked for instead; LOCKED follows a run of 64 and is never written; a
lost reference ends in FREERUN; one that appears for the first time is compared with the image's REF. The step asked for is θ rounded to the
nearest ns, halves away from zero (log 49). A change of state owes the log its record. -/
def Obligations.ServoFollows : Prop :=
  (∀ (s : State) (v : Word), s.time.srv = .freerun ∨ s.time.srv = .holdover → ∃ t, exec (.servoUpdate v) s = .next t ∧
    t = { s with time := { s.time with ofsIgn := sat8 s.time.ofsIgn }, net := { s.net with lastTheta := v.toInt } }) ∧
  (∀ (s : State) (v : Word) (th kp ki i ys : Rat), s.time.srv = .acquire ∨ s.time.srv = .locked → th = (v.toInt : Rat) / 256 →
    kp = (s.time.kp.toNat : Rat) / 65536 → ki = (s.time.ki.toNat : Rat) / 65536 → i = s.time.i + ki * th →
    ys = (s.time.fin.toInt : Rat) - (kp * th + i) →
    (s.time.stepEn = true → (s.time.stepThr.toNat : Rat) < |th| → ∃ t, exec (.servoUpdate v) s = .next t ∧
      t.time.stepPend = some (-(roundAway th)) ∧ t.time.i = s.time.i ∧ t.time.y = s.time.y ∧ t.time.srv = .acquire) ∧
    (s.time.stepEn = false ∨ |th| ≤ (s.time.stepThr.toNat : Rat) → ∃ t, exec (.servoUpdate v) s = .next t ∧ t.time.ySrv = ys ∧
      |t.time.y| ≤ 200000000 ∧ t.time.stepPend = s.time.stepPend ∧ t.clusters = s.clusters ∧ t.fab = s.fab ∧
      (|s.time.yT + s.time.yD + ys| ≤ 200000000 → t.time.i = i ∧ t.time.y = s.time.yT + s.time.yD + ys) ∧
      (s.time.srv = .acquire → 63 ≤ s.time.lockRun → |th| ≤ ((s.time.lockThr.toNat % 65536 : Nat) : Rat) → t.time.srv = .locked) ∧
      (s.time.srv = .acquire → ((s.time.lockThr.toNat % 65536 : Nat) : Rat) < |th| → t.time.srv = .acquire))) ∧
  (∀ (s : State) (v : Word),
    (v.toNat % 4 = 2 → exec (.servoStateWrite v) s = .next s) ∧
    (v.toNat % 4 ≠ 2 → ∃ t, exec (.servoStateWrite v) s = .next t ∧
      t = { s with time := t.time, hosts := t.hosts, rcd := { s.rcd with logDue := t.rcd.logDue } } ∧
      (v.toNat % 4 = 0 → t.time.srv = .freerun) ∧ (v.toNat % 4 = 1 → t.time.srv = .acquire) ∧ (v.toNat % 4 = 3 → t.time.srv = .holdover) ∧
      (t.time.srv ≠ s.time.srv → s.rcd.on = true → ∃ q, t.rcd.logDue = s.rcd.logDue ++ [q] ∧ q.kind = 7 ∧ q.insts = [0, 1, 2, 3]))) ∧
  (∀ s : State, s.time.run = true → s.time.refLost = false → ∃ t, exec .referenceLoss s = .next t ∧
    t = { s with time := t.time, hosts := t.hosts, rcd := { s.rcd with logDue := t.rcd.logDue } } ∧
    t.time.refLost = true ∧ t.time.refLostSeen = true ∧ t.time.pllLock = false ∧ t.time.srv = .freerun ∧ t.time.wns = s.time.wns) ∧
  (∀ (s : State) (f : Fin 4), s.time.refLost = true → ∃ t, exec (.referenceReturn f) s = .next t ∧ t = { s with time := t.time, sys := t.sys } ∧
    t.time = { s.time with refLost := false, pllLock := true, refValid := true, refFreq := f.val } ∧
    (s.time.refValid = false → s.sys.img.isSome = true → f.val ≠ s.image.time.ref → t.sys = { s.sys with refFreqBad := true }) ∧
    (s.time.refValid = true ∨ f.val = s.image.time.ref → t.sys = s.sys))

/-- Learning, drift, holdover, syntonisation and the oscillator trim (R129, R181, R183, R184, R186, R187): a committed bin with IADJ
leaves y_T + y_srv where it was; after 300 s of LOCKED the two bins about the mean temperature learn the observed correction by R183's
weights, and y_T + y_srv stays; learning outside LOCKED changes no bin; the table is saved or kept; each hour's mean of I joins the 24
that give the drift; HO_SPEC follows the limit; FIN follows 16 gates of a path with link; the EFC code is centred on EFC_CENTRE; a
selected master that falls silent leaves the table and ends in HOLDOVER. That FIN is the mean of the gates held, and waits for sixteen
counted since the path last lost its link, is log 54; the two sums that IADJ keeps are log 48; a write of the EFC code leaves the code in
force until its edge (log 137). -/
def Obligations.LearningAndHoldover : Prop :=
  (∀ (s : State) (b : Fin 128) (v : Word) (f : FtBin), s.time.ft[b.val]? = some f → ∃ t, exec (.ftBinCommit b v) s = .next t ∧
    t = { s with time := t.time } ∧ (∀ j, j ≠ b.val → t.time.ft[j]? = s.time.ft[j]?) ∧
    t.time.ft[b.val]? = some { f with y := f.yReg, n := min 64 (v.toNat % 256), valid := v.getLsbD 31 } ∧
    (v.getLsbD 30 = true → t.time.yT + t.time.ySrv = s.time.yT + s.time.ySrv ∧ t.time.yT + t.time.i = s.time.yT + s.time.i) ∧
    (v.getLsbD 30 = false → t.time.ySrv = s.time.ySrv ∧ t.time.i = s.time.i)) ∧
  (∀ s : State, s.time.srv ≠ .locked ∨ s.image.time.learn = false → ∃ t, exec .ftLearn s = .next t ∧
    t = { s with time := { s.time with learnY := 0, learnT := 0, learnN := 0, learnBad := false } }) ∧
  (∀ (s : State) (b : Nat) (yObs tm w yNow : Rat) (f g : FtBin), s.firmware = true → s.image.time.learn = true → s.time.srv = .locked →
    300000000000 ≤ s.now - s.time.lockedAt → s.time.learnBad = false → s.time.learnN ≠ 0 → yObs = s.time.learnY / s.time.learnN →
    tm = s.time.learnT / s.time.learnN → (tm + 40).floor = (b : Int) → w = tm + 40 - b → yNow = yTemp s.time.ft tm → b < 127 →
    s.time.ft[b]? = some f → s.time.ft[b + 1]? = some g → f.n ≤ 64 → g.n ≤ 64 → ∃ t, exec .ftLearn s = .next t ∧ t = { s with time := t.time } ∧
      t.time.learnY = 0 ∧ t.time.learnN = 0 ∧ t.time.yT + t.time.ySrv = s.time.yT + s.time.ySrv ∧ t.time.yT + t.time.i = s.time.yT + s.time.i ∧
      (∀ j, j ≠ b → j ≠ b + 1 → t.time.ft[j]? = s.time.ft[j]?) ∧
      (∀ (k : Nat) (h : FtBin) (v : Rat), (k = b ∧ h = f ∧ v = 1 - w) ∨ (k = b + 1 ∧ h = g ∧ v = w) →
        (h.valid = true → ∀ y, y = viewInt (h.y + v * (yObs - yNow) / (min (h.n + 1) 64 : Nat)) →
          t.time.ft[k]? = some { h with y := y, yReg := y, n := if 1 / 2 ≤ v then min 64 (h.n + 1) else h.n }) ∧
        (h.valid = false → 1 / 2 ≤ v → t.time.ft[k]? = some { h with y := viewInt yObs, yReg := viewInt yObs, n := 1, valid := true }) ∧
        (h.valid = false → v < 1 / 2 → t.time.ft[k]? = some h))) ∧
  (∀ s : State, s.firmware = true →
    (s.sys.wouldQueue = true → ∃ t, exec .ftTableSave s = .next t ∧ t.sys.ftCopy = some s.time.ftTable ∧
      t = { s with sys := { s.sys with ftCopy := t.sys.ftCopy, absent := t.sys.absent, present := t.sys.present } } ∧
      (s.sys.flash = none ∨ s.sys.answers = false → t.sys.absent = true)) ∧
    (∀ f, s.sys.flash = some f → s.sys.wouldQueue = false → exec .ftTableSave s =
      .next { s with sys := { s.sys with flash := some (f.putFreq s.time.ftTable), ftCopy := none } }) ∧
    (∀ f : Flash, f.freqs.length = 2 → (f.putFreq s.time.ftTable).freq = some s.time.ftTable) ∧
    (s.time.srv = .locked → s.time.hourN ≠ 0 → ∃ t, exec .driftUpdate s = .next t ∧ t = { s with time := t.time } ∧
      t.time.hours = ((s.time.hourI / s.time.hourN) :: s.time.hours).take 24 ∧ t.time.hourN = 0 ∧
      (s.now - s.time.lockedAt < 86400000000000 → t.time.drift = s.time.drift) ∧
      (86400000000000 ≤ s.now - s.time.lockedAt → t.time.hours.length = 24 →
        t.time.drift = BitVec.ofInt 32 (viewInt (slopeOf t.time.hours * 256)))) ∧
    (s.time.efcMode = true → ∃ t, exec .efcUpdate s = .next t ∧ t = { s with time := t.time, sys := t.sys } ∧ t.sys.efcCode < 2 ^ 24 ∧
      t.sys = { s.sys with efcCode := t.sys.efcCode, efcPrev := s.efcNow, efcEdge := t.sys.efcEdge } ∧ (s.efcG = 0 → s.image.time.efcCentre < 2 ^ 24 → t.sys.efcCode = s.image.time.efcCentre)) ∧
    (∀ c : Word, s.image.time.synt = true → s.hears = false →
      exec (.syntGateEnd c) s = .next { s with time := { s.time with syntCnt := c } }) ∧
    (∀ c : Word, s.image.time.synt = true → s.hears = true → ∃ t, exec (.syntGateEnd c) s = .next t ∧ t = { s with time := t.time, net := t.net } ∧
      t.time.syntCnt = c ∧ (s.net.gatesOk < 15 → t.time.fin = s.time.fin) ∧ (15 ≤ s.net.gatesOk → t.time.fin =
        BitVec.ofInt 32 (viewInt (sumR t.time.gates / t.time.gates.length)) ∧ t.time.gates.length ≤ 16))) ∧
  (∀ s : State, s.time.srv = .holdover → s.image.time.hoSec < s.hoSec →
    exec .holdoverSpecExceeded s = .next { s with time := { s.time with hoSpec := true } }) ∧
  (∀ (s : State) (m : Nat), s.net.sel = some m → s.firmware = true → s.time.srv = .locked → s.net.autoAnn = false →
    ∃ t, exec .announceTimeout s = .next t ∧ t.time.srv = .holdover ∧ (∀ a ∈ t.net.foreign, a.master ≠ m) ∧ t.net.sel ≠ some m ∧
      t.net.active = s.net.active)

/-! ### Network paths -/

/-- PTP (R181, R188, R189, R193; the offset's formula and units are log 74's, the comparison by which a master is best log 75's): a Sync and a Delay_Req of one path and master make one offset;
a Delay_Req takes the next sequence number; the best acceptable master is selected and KI scaled to its update rate (log 153); under
G.8275.2 a request for the device's own address is answered and the Announce of a master that is not negotiated dropped (log 154); frames of another domain, transport or VLAN, and those that the device does not answer, are dropped and counted. -/
def Obligations.PtpFeedsTheServo : Prop :=
  (∀ (s : State) (f : PtpFrame) (m seq : Nat) (o : MailTime) (corr : Int) (two : Bool), s.firmware = true → s.hears = true → s.ours f = true → s.net.sel = some m →
    s.net.delays = [] → exec (.ptpSync f m seq two o corr) s = .next { s with net := { s.net with syncs :=
      [{ path := s.net.active, master := m, seq := seq, rx := s.rxTime - corrNs corr, tx := if two = true then none else some (mailTai o) }] } }) ∧
  (∀ (s : State) (f : PtpFrame) (m seq : Nat) (o : MailTime) (corr : Int) (q : SyncEx), s.firmware = true → s.hears = true → s.ours f = true → s.net.sel = some m →
    s.net.delays = [] → s.net.syncs = [q] → q.master = m → q.seq = seq → q.path = s.net.active → q.tx = none →
    exec (.ptpFollowUp f m seq o corr) s = .next { s with net := { s.net with syncs :=
      [{ q with tx := some (mailTai o), rx := q.rx - corrNs corr }] } }) ∧
  (∀ (s : State) (m : Nat), s.firmware = true → s.speaks = true → s.net.sel = some m → ∃ t, exec .ptpDelayReqSend s = .next t ∧
    t = { s with net := t.net, freeIx := s.freeIx + 1 } ∧ t.net.delaySeq = (s.net.delaySeq + 1) % 65536 ∧
    t.net.delays = [{ path := s.net.active, master := m, seq := s.net.delaySeq, tx := s.txTime }] ∧ t.net.syncs = s.net.syncs) ∧
  (∀ (s : State) (f : PtpFrame) (m seq : Nat) (o : MailTime) (corr : Int) (q : SyncEx) (d : DelayEx) (t1 : Rat) (th : Int), s.firmware = true →
    s.hears = true → s.ours f = true → s.net.sel = some m → s.net.syncs = [q] → q.tx = some t1 → q.path = s.net.active → q.master = m → s.net.delays = [d] →
    d.master = m → d.seq = seq → d.path = s.net.active → d.rx = none →
    th = viewInt (((q.rx - t1) - ((mailTai o - corrNs corr) - d.tx)) / 2 * 256) → ∃ t, exec (.ptpDelayResp f m seq o corr) s = .next t ∧
      t.net.syncs = [] ∧ t.net.delays = [] ∧ (s.image.time.source = 1 → -(2 ^ 31) ≤ th → th < 2 ^ 31 → t.net.lastTheta = th) ∧
      (s.image.time.source ≠ 1 → t.time = s.time) ∧ t.clusters = s.clusters ∧ t.fab = s.fab) ∧
  (∀ (s : State) (a : Announce), s.firmware = true → s.hears = true → s.ours ⟨a.domain, a.udp, a.vid⟩ = true →
    s.negotiated a = true → s.net.foreign = [] → s.net.sel = none →
    a.clockClass ≤ s.image.time.classLimit → ∃ t, exec (.ptpAnnounce a) s = .next t ∧
      t = { s with net := t.net, time := { s.time with ki := t.time.ki } } ∧ t.net.foreign = [a] ∧
      t.net.sel = some a.master ∧ t.net.qualified = 1 ∧
      (s.net.portDs.profile = 2 → s.image.time.source = 1 → s.net.grants = [] → a.syncRate ≠ s.net.kiRate →
        t.time.ki = s.scaledKi a.syncRate ∧ t.net.kiRate = a.syncRate ∧ t.net.grants = [⟨a.addr, a.annRate, a.syncRate, a.delayRate⟩]) ∧
      (s.image.time.source ≠ 1 → t.time = s.time)) ∧
  (∀ (s : State) (a : Announce), s.hears = true → s.net.portDs.profile = 2 → a.addr ∉ s.image.netc.masters ∨ a.annRate = 0 ∨ 8 < a.annRate ∨
      a.syncRate = 0 ∨ 128 < a.syncRate ∨ a.delayRate = 0 ∨ 128 < a.delayRate → ∃ t, exec (.ptpAnnounce a) s = .next t ∧
    t = { s with net := t.net } ∧ t.activePort.rxDrop = sat32 s.activePort.rxDrop ∧ t.net.foreign = s.net.foreign ∧ t.net.sel = s.net.sel) ∧
  (∀ (s : State) (a : Announce), s.firmware = true → s.hears = true → s.ours ⟨a.domain, a.udp, a.vid⟩ = true →
    s.negotiated a = true → ∃ t, exec (.ptpAnnounce a) s = .next t ∧
      t.net.foreign = foreignPut s.foreignMax a s.net.foreign ∧
      (∀ b, bestMaster (t.net.foreign.filter s.accepts) = some b → t.net.sel = some b.master)) ∧
  (∀ (s : State) (f : PtpFrame) (c : Instr), s.hears = true → f.domain ≠ s.net.portDs.domain ∨ f.udp ≠ s.net.portDs.udp ∨
      f.vid ≠ s.net.portDs.vid → (∃ m seq two o corr, c = .ptpSync f m seq two o corr) ∨
      (∃ m seq o corr, c = .ptpFollowUp f m seq o corr) ∨ (∃ m seq o corr, c = .ptpDelayResp f m seq o corr) ∨
      (∃ a, c = .ptpAnnounce a ∧ f = ⟨a.domain, a.udp, a.vid⟩) → ∃ t, exec c s = .next t ∧ t = { s with net := t.net } ∧
      t.activePort = { s.activePort with rxDrop := sat32 s.activePort.rxDrop } ∧ t.net.sel = s.net.sel ∧ t.net.foreign = s.net.foreign ∧
      t.net.syncs = s.net.syncs ∧ t.net.delays = s.net.delays) ∧
  (∀ (s : State) (addr : Nat), s.firmware = true → s.speaks = true → s.net.portDs.profile = 2 → addr ≠ 0 →
    addr = s.image.netc.ipv4 ∨ addr = s.image.netc.ipv6 → ∃ t, exec (.arpNdRequest addr) s = .next t ∧
      t = { s with net := t.net, freeIx := s.freeIx + 1 } ∧ t.net.arpSent = s.net.arpSent + 1 ∧ t.activePort.rxDrop = s.activePort.rxDrop) ∧
  (∀ s : State, s.hears = true → s.activePort.pow = .on →
    (∃ t, exec .otherFrameRx s = .next t ∧ t = { s with net := t.net } ∧ t.activePort.rxDrop = sat32 s.activePort.rxDrop) ∧
    (∀ addr, s.net.portDs.profile ≠ 2 → ∃ t, exec (.arpNdRequest addr) s = .next t ∧ t = { s with net := t.net } ∧
      t.activePort.rxDrop = sat32 s.activePort.rxDrop ∧ t.net.arpSent = s.net.arpSent)) ∧
  (∀ s : State, s.hears = false → exec .otherFrameRx s = .next s)

/-- The cleat, links and triggers (R194-R199, R201, R203, R223): both TXEN bits together are refused; a TXDIS pin is low only with its
TXEN bit, its domain on and the other pin high for 50 µs, so never both; a lost link counts and, on the active path, ends in HOLDOVER; an
accepted trigger switches the path, marks FAILING and mutes the old one, and firmware restores the newer valid snapshot (R200); a refused one
is counted. -/
def Obligations.CleatAndTriggers : Prop :=
  (∀ (s : State) (v : Word), v.getLsbD 0 = true → v.getLsbD 1 = true → ∃ t, exec (.cleatWrite v) s = .next t ∧
    t = { s with net := t.net, freeIx := t.freeIx } ∧ t.net.refused = true ∧ t.net.aTxen = s.net.aTxen ∧ t.net.bTxen = s.net.bTxen ∧
    t.net.aTxdis = s.net.aTxdis ∧ t.net.bTxdis = s.net.bTxdis ∧
    (s.net.helloDue = false → t = { s with net := { s.net with refused := true } })) ∧
  (∀ (s : State) (c : Instr), (∃ v, c = .cleatWrite v ∧ ¬(v.getLsbD 0 = true ∧ v.getLsbD 1 = true)) ∨ c = .cleatBbmRelease →
    ∃ t, exec c s = .next t ∧ t = { s with net := t.net, freeIx := t.freeIx } ∧ (s.net.helloDue = false → t.freeIx = s.freeIx) ∧ (t.net.aTxdis = true ∨ t.net.bTxdis = true) ∧
      (t.net.aTxdis = false → t.net.aTxen = true ∧ s.net.a.pow = .on ∧ s.net.bTxdis = true) ∧
      (t.net.bTxdis = false → t.net.bTxen = true ∧ s.net.b.pow = .on ∧ s.net.aTxdis = true) ∧
      (∀ v, c = .cleatWrite v → t.net.aTxen = v.getLsbD 0 ∧ t.net.bTxen = v.getLsbD 1 ∧
        (t.net.aTxdis = false → s.net.bHigh50 = true) ∧ (t.net.bTxdis = false → s.net.aHigh50 = true)) ∧
      (c = .cleatBbmRelease → t.net.aTxen = s.net.aTxen ∧ t.net.bTxen = s.net.bTxen ∧
        (s.net.aTxen = true → s.net.a.pow = .on → s.net.bTxdis = true → t.net.aTxdis = false))) ∧
  (∀ (s : State) (p : Fin 2) (up ber : Bool) (q : NetPort) (pb : Bool), pb = decide (p.val = 1) → q = s.net.port pb → q.pow = .on →
    ∃ t, exec (.linkChange p up ber) s = .next t ∧ (t.net.port pb).link = (up && !(ber && !q.rate)) ∧
      (q.link = true → (t.net.port pb).link = false → (t.net.port pb).linkDn = sat32 q.linkDn) ∧
      (q.link = (t.net.port pb).link → t = { s with net := t.net }) ∧
      (q.link ≠ (t.net.port pb).link → t.evt = { s.evt with chanIn := s.evt.chanIn ++
        (s.evt.takers (if pb = true then 0xB1 else 0xB0)).map (fun ch => ⟨ch, none⟩) }) ∧
      (pb ≠ s.net.active → t.time = s.time) ∧
      (pb = s.net.active → q.link = true → (t.net.port pb).link = false → s.firmware = true → s.time.srv = .locked → t.time.srv = .holdover) ∧
      t.net.active = s.net.active ∧ t.net.port (!pb) = s.net.port (!pb)) ∧
  (∀ s : State, s.net.autoLink = true → s.linkLost = true →
    (s.net.accepts true = true → ∃ t, exec .linkLossTrigger s = .next t ∧ t.net.active = !s.net.active ∧ t.net.failing = true ∧ t.net.cause = 1) ∧
    (s.net.accepts true = false → exec .linkLossTrigger s =
      .next { s with net := { s.net with ignored := sat16 s.net.ignored, standing := true } })) ∧
  (∀ s : State, s.net.autoLink = false ∨ s.linkLost = false → exec .linkLossTrigger s = .next s) ∧
  (∀ (s : State) (cause : FailCause),
    (s.net.accepts (decide (cause = .link)) = true → ∃ t, exec (.failoverTrigger cause) s = .next t ∧ t.net.active = !s.net.active ∧
      t.net.failing = true ∧ t.net.cause = (match cause with | .link => 1 | .firmware => 2 | .event => 3) ∧
      t.net.txdis s.net.active = true ∧ t.net.txen s.net.active = false ∧ t.net.foAt = s.time.wns ∧ t.net.failovers = sat16 s.net.failovers ∧
      t.mem = s.mem ∧ t.clusters = s.clusters ∧ t.fab = s.fab ∧
      (∀ (i : Nat) (q : Snap), s.firmware = true → s.net.newest = some (i, q) → t.net.foreign = q.foreign ∧ t.net.grants = q.grants ∧
        t.net.neigh = q.neigh ∧ t.net.portDs = q.portDs ∧ t.net.filter = q.filter ∧ t.net.srvBefore = q.srvBefore ∧
        t.net.pathDelay = (if s.net.active = true then q.mpdA else q.mpdB)) ∧
      (s.firmware = true → t.net.syncs = [] ∧ t.net.delays = [] ∧ (s.time.srv = .locked → t.time.srv = .holdover)) ∧
      (s.firmware = false → t.net.fwDue = true ∧ t.time = s.time)) ∧
    (s.net.accepts (decide (cause = .link)) = false → exec (.failoverTrigger cause) s =
      .next { s with net := { s.net with ignored := sat16 s.net.ignored } })) ∧
  (∀ (s : State) (v : Word), v.getLsbD 3 = false → s.net.standing = false →
    (v.getLsbD 2 = false → ∃ t, exec (.failoverWrite v) s = .next t ∧ t = { s with net := t.net, freeIx := t.freeIx } ∧
      (s.net.helloDue = false → s.net.aTxen = true ∨ s.net.bTxen = true → t.freeIx = s.freeIx) ∧ t.net.standbyFitted = v.getLsbD 1 ∧
      t.net.storm = (s.net.storm && !v.getLsbD 7) ∧
      t.net.active = (if s.net.aTxen = true ∨ s.net.bTxen = true then s.net.active else v.getLsbD 0)) ∧
    (v.getLsbD 2 = true → v.getLsbD 1 = true → s.net.failing = false → s.net.aTxen = true ∨ s.net.bTxen = true →
      ∃ t, exec (.failoverWrite v) s = .next t ∧ t.net.active = !s.net.active ∧ t.net.failing = true ∧ t.net.cause = 2))

/-- A failover runs (R197-R200, R203): the new path's domain comes on, or was on, with its TXEN alone and the old one goes off; link-up, or F + 1 s,
completes it and HOLDDOWN runs; repeats are counted and the fourth in a row sets STORM; HOLDDOWN's end, a cleared STORM and a stable link
leave the paths as they are; the newest snapshot holds the path's state. That a failover which is no repeat ends the run is log 56, that a new path already on
stays on log 57; a write piece of the old path under way is cut as R253 says (log 84). -/
def Obligations.FailoverRuns : Prop :=
  (∀ s : State, s.activePort.pow = .rising ∨ (s.activePort.pow = .on ∧ s.net.failing = true) → s.firmware = true → ∃ t, exec .netPathPowered s = .next t ∧
    t = { s with net := t.net, braid := t.braid, shadows := t.shadows, evt := t.evt, freeIx := t.freeIx, mem := t.mem } ∧
    (s.braid.granted.getD (if s.net.active = true then 7 else 8) none = none → t.mem = s.mem) ∧ t.activePort.pow = .on ∧ t.net.active = s.net.active ∧
    (t.net.port (!s.net.active)).pow = .off ∧ t.net.txen s.net.active = true ∧ t.net.txen (!s.net.active) = false ∧
    t.net.txdis (!s.net.active) = true) ∧
  (∀ s : State, s.net.failing = true → s.firmware = true → s.hears = true → ∃ t, exec .failingClear s = .next t ∧
    t = { s with net := t.net, hosts := t.hosts, freeIx := t.freeIx } ∧ t.net.failing = false ∧ t.net.holddown = true ∧ t.net.doneAt = some s.now ∧
    t.net.active = s.net.active) ∧
  (∀ s s1 : State, s.net.failing = true → s.firmware = true → s.activePort.link = false →
    reach 1100000000 (s.net.trigX + 1000000000) s = some s1 → ∃ t, exec .failoverTimeout s = .next t ∧
      t = { s1 with net := t.net, hosts := t.hosts } ∧ t.net.failing = false ∧ t.net.holddown = true ∧ t.net.doneAt = some s1.now ∧
      (s.net.isRepeat = true → t.net.repeats = s.net.repeats + 1 ∧ (3 ≤ s.net.repeats → t.net.storm = true)) ∧
      (s.net.isRepeat = false → t.net.repeats = 0 ∧ t.net.storm = s.net.storm)) ∧
  (∀ (s : State) (x : Int), s.net.doneAt = some x → s.net.holddown = true → s.net.standing = false → ∃ t, exec .holddownExpire s = .next t ∧
    t.net = { s.net with holddown := false } ∧ t.clusters = s.clusters ∧ t.fab = s.fab ∧ t.mem = s.mem) ∧
  (∀ s : State, s.net.standing = false → exec .stormClear s = .next { s with net := { s.net with storm := false } }) ∧
  (∀ s : State, s.hears = true → exec .linkStable s = .next { s with net := { s.net with storm := false } }) ∧
  (∀ s : State, s.firmware = true → s.hears = true ∨ s.net.snapDue = true → s.net.snaps.length = 2 → (∀ (i : Nat) (q : Snap), s.net.snaps[i]? = some (some q) → q.seq < 2 ^ 32) →
    ∃ t i q, exec .snapshotWrite s = .next t ∧ t = { s with net := { s.net with snaps := t.net.snaps, snapDue := false } } ∧ t.net.newest = some (i, q) ∧
      q.port = s.net.active ∧ q.rate = s.activePort.rate ∧ q.foreign = s.net.foreign ∧ q.portDs = s.net.portDs ∧
      q.parent = s.net.foreign.find? (fun a => decide (s.net.sel = some a.master)) ∧ q.lastTheta = s.net.lastTheta ∧ q.lockRun = s.time.lockRun ∧
      q.overRun = s.time.overRun ∧ q.ofsFilter = s.net.ofsFilter ∧ q.filter = s.net.filter ∧ q.grants = s.net.grants ∧ q.neigh = s.net.neigh ∧ q.mpdA = s.net.mpdA ∧ q.mpdB = s.net.mpdB ∧ q.srvBefore = s.time.srv ∧
      (∀ j, j ≠ i → t.net.snaps[j]? = s.net.snaps[j]?))

/-! ### Events -/

/-- The event fabric (R147, R226-R237, R241): a closed channel passes nothing, one in hold-off counts, an open one forwards to every
select, capture unit and vector; a group's change on its way comes first; a software fire is an occurrence; a host fires and writes its
own channels alone, and of their configuration EN and HOLDOFF; a cleared EN purges; TRIPPED is cleared. Edges of 20 ns are seen, those
under 10 ns never, and a capture unit is stamped at the edge; a pulse returns to rest. An arrival at a consumer that is not busy is acted
on at once and its origin kept: PPS_GATE gates, a GPIO_OUT pin takes its level or begins its pulse, a group is enabled or disabled,
PLAN_GO stamps its armed slot; a busy one keeps one pending arrival, or with F2 drops and sets OVR; an occurrence within 5 ns of the
latest arrival is merged into it (log 66); a consumer that stops being busy is free, or acts on what is pending. That EN stays clear
while TRIPPED is set whoever writes it is log 69, that a capture unit is stamped at an edge too short for the pin's level log 83. -/
def Obligations.EventFabricActs : Prop :=
  (∀ (s : State) (ch : Fin 128) (o : Option (Fin 128)) (c : Chan) (oc : ChanOcc), oc = ⟨ch.val, o.map Fin.val⟩ → s.evt.chanIn.contains oc = true →
    s.evt.chans[ch.val]? = some c → (∀ q ∈ s.evt.conIn, q.x ≠ 64 + ch.val / 8 ∧ q.x ≠ 80 + ch.val / 8) →
    (s.takeOcc oc).groupComing (ch.val / 8) = [] →
    (s.chanOpen ch.val = false → exec (.channelAccept ch o) s =
      .next { s with evt := { s.evt with chanIn := removeFirst (fun q => decide (q = oc)) s.evt.chanIn } }) ∧
    (s.chanOpen ch.val = true → s.now < c.holdEnd → ∃ t, exec (.channelAccept ch o) s = .next t ∧ t = { s with evt := t.evt } ∧
      t.evt.chans[ch.val]? = some { c with holdCnt := sat16 c.holdCnt } ∧ t.evt.conIn = s.evt.conIn) ∧
    (s.chanOpen ch.val = true → c.holdEnd ≤ s.now → o ≠ some ch → ∃ t, exec (.channelAccept ch o) s = .next t ∧
      t = { s with evt := t.evt, hosts := t.hosts } ∧
      t.evt.chans[ch.val]? = some { c with fired := sat16 c.fired, holdEnd := s.now + (max 1 c.holdoff) * 64 } ∧ t.evt.cons = s.evt.cons ∧
      (∀ x j, 8 ≤ x → x < 96 → j ∈ (s.con x).selects ch.val → (⟨x, j, (o.map Fin.val).getD ch.val⟩ : ConOcc) ∈ t.evt.conIn) ∧
      (∀ (i : Nat) (u : Cap), i < 8 → s.time.caps[i]? = some u → u.src = 18 → u.channel = ch.val →
        (i, (o.map Fin.val).getD ch.val) ∈ t.evt.capIn) ∧
      (c.owner < 4 → 8 ≤ c.vector → t.hosts = (s.modHost c.owner (HostPort.msg c.vector)).hosts) ∧
      (4 ≤ c.owner ∨ c.vector < 8 → t.hosts = s.hosts) ∧
      (∀ d, d ≠ ch.val → t.evt.chans[d]? = s.evt.chans[d]?))) ∧
  (∀ (s : State) (ch : Fin 128) (o : Option (Fin 128)) (c : Chan) (q : ConOcc) (k : Con), s.evt.chanIn.contains ⟨ch.val, o.map Fin.val⟩ = true →
    s.evt.chans[ch.val]? = some c → s.evt.group.length = 16 → q.x = 80 + ch.val / 8 → s.evt.conIn = [q] → s.evt.cons[q.x]? = some k → k.busy = false →
    k.arrAt = none → (s.takeOcc ⟨ch.val, o.map Fin.val⟩).groupComing (ch.val / 8) = [] → ∃ t, exec (.channelAccept ch o) s = .next t ∧ t = { s with evt := t.evt } ∧ t.evt.group[ch.val / 8]? = some false ∧
      t.evt.chans[ch.val]? = some c ∧ t.evt.conIn = []) ∧
  (∀ (s : State) (ch : Fin 128) (c : Chan), s.evt.chans[ch.val]? = some c →
    (s.chanOpen ch.val = true → c.holdEnd ≤ s.now → ∀ w : Writer, w = .firmware true ∨ (∃ h : Fin 4, w = .host h ∧ s.hostCan h.val = true ∧ c.owner = h.val) →
      ∃ t, exec (.softwareFire w ch) s = .next t ∧ t = { s with evt := t.evt, hosts := t.hosts } ∧
      t.evt.chans[ch.val]? = some { c with fired := sat16 c.fired, holdEnd := s.now + (max 1 c.holdoff) * 64 }) ∧
    (∀ (h : Fin 4) (v : Word), c.owner ≠ h.val → exec (.softwareFire (.host h) ch) s = .next s ∧ exec (.evtChCfgWrite (.host h) ch v) s = .next s ∧
      exec (.trippedClear (.host h) ch) s = .next s) ∧
    (∀ (v : Word) (w : Writer), w = .firmware true ∨ (∃ h : Fin 4, w = .host h ∧ s.hostCan h.val = true ∧ c.owner = h.val) →
      ∃ t q, exec (.evtChCfgWrite w ch v) s = .next t ∧ t = { s with evt := t.evt } ∧ t.evt.chans[ch.val]? = some q ∧
      q.holdoff = v.toNat % 4096 ∧ q.tripped = c.tripped ∧ q.owner = c.owner ∧ q.sec = c.sec ∧
      (w ≠ .firmware true → q.src = c.src ∧ q.vector = c.vector) ∧
      (v.getLsbD 31 = true → q.en = (c.en || !c.tripped) ∧ t.evt.cons = s.evt.cons) ∧
      (v.getLsbD 31 = false → q.en = false ∧ t.evt.cons = s.evt.cons.map (Con.purge ch.val)) ∧
      (∀ d, d ≠ ch.val → t.evt.chans[d]? = s.evt.chans[d]?)) ∧
    (∀ w : Writer, w = .firmware true ∨ (∃ h : Fin 4, w = .host h ∧ s.hostCan h.val = true ∧ c.owner = h.val) →
      ∃ t, exec (.trippedClear w ch) s = .next t ∧ t = { s with evt := t.evt } ∧
      t.evt.chans[ch.val]? = some { c with tripped := false } ∧ (∀ d, d ≠ ch.val → t.evt.chans[d]? = s.evt.chans[d]?))) ∧
  (∀ (s : State) (p : Fin 16) (level : Bool) (ns : Nat) (g : Gpio), s.evt.gpio[p.val]? = some g → g.out = false → g.pad ≠ level →
    (s.evt.applied = false → ∃ t, exec (.gpioInEdge p level ns) s = .next t ∧ t = { s with evt := { s.evt with gpio := t.evt.gpio } } ∧
      t.evt.gpio[p.val]? = some { g with pad := level }) ∧
    (s.evt.applied = true → ns < 10 ∨ 20 ≤ ns → ∃ t, exec (.gpioInEdge p level ns) s = .next t ∧ t = { s with evt := t.evt } ∧
      t.evt.gpio[p.val]? = some { g with pad := level, lvl := if 20 ≤ ns then level else g.lvl } ∧
      (∀ (i : Nat) (u : Cap), i < 8 → s.time.caps[i]? = some u → u.src = p.val + 2 → u.edgeIs level = true → (i, s.stamp) ∈ t.evt.pinIn) ∧
      t.evt.chanIn = s.evt.chanIn ++ (if 20 ≤ ns ∧ g.lvl ≠ level ∧ g.selects level = true then
        (s.evt.takers (0xD0 + p.val)).map (fun ch => ⟨ch, none⟩) else []))) ∧
  (∀ (s s1 : State) (p : Fin 16) (g : Gpio) (x : Int), s.evt.gpio[p.val]? = some g → g.pulseEnd = some x → reach 4000000000 x s = some s1 →
    ∃ t, exec (.gpioPulseEnd p) s = .next t ∧ t = { s1 with evt := t.evt } ∧
      t.evt.gpio[p.val]? = some { g with lvl := g.rest, pulseEnd := none } ∧ t.evt.chanIn = s1.evt.chanIn) ∧
  (∀ (s : State) (x : Fin 96) (j : Fin 4) (o : Fin 128) (c : Con) (k : Nat), s.evt.conIn.contains ⟨x.val, j.val, o.val⟩ = true →
    s.evt.cons[x.val]? = some c → s.conOff x.val = false → s.deadPin x.val = false →
    (∀ a, c.arrAt = some a → a + 8 < s.now ∨ s.now < a) →
    (∀ q ∈ removeFirst (fun q => decide (q = ⟨x.val, j.val, o.val⟩)) s.evt.conIn, q.x ≠ x.val) →
    (x.val = 46 → c.busy = false → ∃ t, exec (.consumerArrive x j o k) s = .next t ∧ t = { s with evt := t.evt, time := t.time } ∧
      t.time = { s.time with ppsGate := true } ∧ t.evt.cons[x.val]? = some { c with origin := some o.val, rel := false, arrAt := some s.now }) ∧
    (∀ g : Gpio, 48 ≤ x.val → x.val < 64 → c.busy = false → s.evt.gpio[x.val - 48]? = some g → ∃ t, exec (.consumerArrive x j o k) s = .next t ∧
      t = { s with evt := t.evt } ∧
      t.evt.cons[x.val]? = some { c with origin := some o.val, rel := false, arrAt := some s.now, busy := decide (c.action = 0) } ∧
      (c.action = 0 → t.evt.gpio[x.val - 48]? = some { g with lvl := !g.rest, pulseEnd := some (s.now + (max 1 c.width) * 64) }) ∧
      (c.action = 1 → t.evt.gpio[x.val - 48]? = some { g with lvl := !g.lvl, rest := !g.lvl }) ∧
      (c.action = 2 → t.evt.gpio[x.val - 48]? = some { g with lvl := true, rest := true }) ∧
      (c.action = 3 → t.evt.gpio[x.val - 48]? = some { g with lvl := false, rest := false })) ∧
    (∀ g, g < 16 → s.evt.group.length = 16 → s.evt.groupOff.getD g none = none → x.val = 64 + g ∨ x.val = 80 + g → c.busy = false →
      ∃ t, exec (.consumerArrive x j o k) s = .next t ∧ t = { s with evt := t.evt } ∧ t.evt.group[g]? = some (decide (x.val = 64 + g)) ∧
        (∀ i, i ≠ g → t.evt.group[i]? = s.evt.group[i]?) ∧
        t.evt.cons[x.val]? = some { c with origin := some o.val, rel := false, arrAt := some s.now }) ∧
    (8 ≤ x.val → x.val ≠ 47 → c.busy = true → c.f2 = true → ∃ t, exec (.consumerArrive x j o k) s = .next t ∧ t = { s with evt := t.evt } ∧
      t.evt.cons[x.val]? = some { c with drop := sat8 c.drop, ovr := true, arrAt := some s.now }) ∧
    (8 ≤ x.val → x.val ≠ 47 → c.busy = true → c.f2 = false → c.pend = false → ∃ t, exec (.consumerArrive x j o k) s = .next t ∧
      t = { s with evt := t.evt } ∧
      t.evt.cons[x.val]? = some { c with pend := true, porigin := o.val, arrAt := some s.now,
                                         pmask := (List.range 4).map (fun i => decide (i = j.val)) })) ∧
  (∀ (s : State) (x : Fin 96) (j : Fin 4) (o : Fin 128) (c : Con) (a : Int), s.evt.conIn.contains ⟨x.val, j.val, o.val⟩ = true →
    s.evt.cons[x.val]? = some c → 8 ≤ x.val → x.val ≠ 47 → c.arrAt = some a → a ≤ s.now → s.now ≤ a + 5 → ∃ t, exec (.consumerArrive x j o 0) s = .next t ∧
      t = { s with evt := t.evt } ∧ t.evt.cons[x.val]? = some { c with merge := sat8 c.merge } ∧
      (∀ y, y ≠ x.val → t.evt.cons[y]? = s.evt.cons[y]?)) ∧
  (∀ (s : State) (x : Fin 96) (j : Fin 4) (o : Fin 128) (e : Epoch) (k : Nat), s.evt.conIn.contains ⟨x.val, j.val, o.val⟩ = true → x.val < 8 →
    s.slotEp x.val = some e → e.st = .armed → e.event = true → e.goAt = none → e.stage = .queued → ∃ t q, exec (.consumerArrive x j o k) s = .next t ∧
      t = { s with evt := t.evt, fab := t.fab } ∧ t.slotEp x.val = some q ∧ q = { e with goAt := some s.tai } ∧
      t.evt = { s.evt with conIn := removeFirst (fun q => decide (q = ⟨x.val, j.val, o.val⟩)) s.evt.conIn }) ∧
  (∀ (s : State) (x : Fin 96) (c : Con), s.evt.cons[x.val]? = some c → c.busy = true →
    (s.released x.val = true → c.pend = false → ∃ t, exec (.consumerIdle x) s = .next t ∧ t = { s with evt := t.evt } ∧
      t.evt.cons[x.val]? = some { c with busy := false } ∧ (∀ y, y ≠ x.val → t.evt.cons[y]? = s.evt.cons[y]?)) ∧
    (x.val = 46 → c.pend = true → ∃ t, exec (.consumerIdle x) s = .next t ∧ t = { s with evt := t.evt, time := t.time } ∧
      t.time = { s.time with ppsGate := true } ∧
      t.evt.cons[x.val]? = some { c with pend := false, pmask := [false, false, false, false], origin := some c.porigin, rel := false }) ∧
    (s.released x.val = false → exec (.consumerIdle x) s = .next s))

/-- An arrival at a consumer whose block is unpowered is discarded and counted in DROP_CNT; OVR is not set and nothing is held
pending (R235). It is an arrival of its own: more than 8 ns after the latest one, with no other occurrence on its way there (log 66). -/
def Obligations.UnpoweredConsumerDrops : Prop :=
  ∀ (s : State) (x : Fin 96) (j : Fin 4) (o : Fin 128) (c : Con) (k : Nat), s.evt.conIn.contains ⟨x.val, j.val, o.val⟩ = true →
    s.evt.cons[x.val]? = some c → s.conOff x.val = true → (∀ a, c.arrAt = some a → a + 8 < s.now ∨ s.now < a) →
    (∀ q ∈ removeFirst (fun q => decide (q = ⟨x.val, j.val, o.val⟩)) s.evt.conIn, q.x ≠ x.val) →
    ∃ t, exec (.consumerArrive x j o k) s = .next t ∧ t = { s with evt := t.evt } ∧
      t.evt = { s.evt with conIn := t.evt.conIn, cons := t.evt.cons } ∧
      t.evt.conIn = removeFirst (fun q => decide (q = ⟨x.val, j.val, o.val⟩)) s.evt.conIn ∧
      t.evt.cons[x.val]? = some { c with drop := sat8 c.drop, arrAt := some s.now } ∧ (∀ y, y ≠ x.val → t.evt.cons[y]? = s.evt.cons[y]?)

/-- The re-entry that takes RE_CNT above RE_MAX within its window (R237) trips the channel (R238): the occurrence is discarded, EN clears and
its selects leave the pending masks, TRIPPED is set, EVT_LOOP_TRIP is raised once with no origin; the channel stays tripped until TRIPPED is
cleared and EN is set again (R230; that firmware too cannot set EN while TRIPPED is set is the model's reading, log 69). No change of the
channel's group is on its way, which would come first (log 66). -/
def Obligations.ReentryTripsChannel : Prop :=
  (∀ (s : State) (ch : Fin 128) (c : Chan) (oc : ChanOcc), oc = ⟨ch.val, some ch.val⟩ → s.evt.chanIn.contains oc = true →
    s.evt.chans[ch.val]? = some c → s.chanOpen ch.val = true → c.holdEnd ≤ s.now →
    (∀ q ∈ s.evt.conIn, q.x ≠ 64 + ch.val / 8 ∧ q.x ≠ 80 + ch.val / 8) → (s.takeOcc oc).groupComing (ch.val / 8) = [] →
    max 1 c.reMax < (if c.winEnd ≤ s.now then 0 else c.reCnt) + 1 →
    ∃ t q, exec (.channelAccept ch (some ch)) s = .next t ∧ t = { s with evt := t.evt } ∧
      t.evt = { s.evt with chans := t.evt.chans, cons := s.evt.cons.map (Con.purge ch.val), chanIn := t.evt.chanIn } ∧
      t.evt.chanIn = removeFirst (fun q => decide (q = oc)) s.evt.chanIn ++ (s.evt.takers 0xF0).map (fun d => ⟨d, none⟩) ∧
      t.evt.chans[ch.val]? = some q ∧ q.tripped = true ∧ q.en = false ∧ q.fired = c.fired ∧
      (∀ d, d ≠ ch.val → t.evt.chans[d]? = s.evt.chans[d]?)) ∧
  (∀ (s : State) (ch : Fin 128) (c : Chan) (w : Writer) (v : Word), s.evt.chans[ch.val]? = some c → c.tripped = true → c.en = false →
    ∃ t q, exec (.evtChCfgWrite w ch v) s = .next t ∧ t.evt.chans[ch.val]? = some q ∧ q.tripped = true ∧ q.en = false) ∧
  (∀ (s : State) (ch : Fin 128) (c : Chan) (o : Option (Fin 128)), s.evt.chans[ch.val]? = some c → c.tripped = true ∨ c.en = false →
    (∀ q ∈ s.evt.conIn, q.x ≠ 64 + ch.val / 8 ∧ q.x ≠ 80 + ch.val / 8) →
    (s.takeOcc ⟨ch.val, o.map Fin.val⟩).groupComing (ch.val / 8) = [] →
    ∃ t, exec (.channelAccept ch o) s = .next t ∧ t = { s with evt := { s.evt with chanIn := t.evt.chanIn } })

/-! ### The braid and register accesses -/

/-- Register and window accesses (R129, R132, R205, R213, R214, R248, R251, R351, R357, R362): the master's older pieces at the target go
first; a write that its rights and its size allow lands in memory and nowhere else, or is a register's; a refused one changes only what
records it; a low word read latches its pair's high word; BAR4 reaches registers with an RWS field alone and counts the rest; BAR2 shows
the host's own images, and zero beyond them; a refused read at a host's port gives zeros; firmware sets EFC_OUT's EN in LOAD only and its
code takes effect at the next clock edge. The model's choices: the clock's edges lie at multiples of 32 ns of extended time (log 137), EN may
be cleared at any time (log 139), the answer stands in a record of the model and a register access of M5 counts as non-secure (log 125). -/
def Obligations.AccessesReachWhatTheyMay : Prop :=
  (∀ (s : State) (m q a : Nat), s.braid.waiting.getD (targetOf a) [] = [] → ∃ g : List (Option Granted),
    s.access m q a = { s with braid := { s.braid with granted := g } } ∧ g.length = s.braid.granted.length) ∧
  (∀ (s s1 : State) (m : Master) (a : Nat) (v : Word), s.masterUp m.val = true → s1 = s.access m.val 0 a → Safe.memory s1 →
    (s1.writeRsp m.val false a 4 = 0 → isMemory a = true → ∃ t, exec (.registerWrite m a v) s = .next t ∧ t = { s1 with mem := t.mem } ∧
      Mem.readN t.mem 4 a = leBytes 4 v.toNat ∧ (∀ b, b < a ∨ a + 4 ≤ b → Mem.read t.mem b = Mem.read s1.mem b)) ∧
    (s1.writeRsp m.val false a 4 = 0 → isMemory a = false → exec (.registerWrite m a v) s = .next (s1.regWrite m.val (secOf m.val false) a v)) ∧
    (s1.writeRsp m.val false a 4 ≠ 0 → ∃ t, exec (.registerWrite m a v) s = .next t ∧ t = { s1 with braid := t.braid, hosts := t.hosts } ∧
      t.braid.waiting = s1.braid.waiting ∧ t.braid.closed = s1.braid.closed)) ∧
  (∀ (s : State) (m : Master) (a : Nat) (v : Word), s.masterUp m.val = false → exec (.registerWrite m a v) s = .next s) ∧
  (∀ (s s1 : State) (m : Master) (p : Pair), s.masterUp m.val = true → s1 = s.access m.val 0 (pairLow p) →
    (s1.readRsp m.val false (pairLow p) 4 = 0 → s1.pairOn p = true → ∃ t hi, exec (.pairLowRead m p) s = .next t ∧
      t.braid.answer = some { master := m.val, addr := pairLow p, resp := 0, data := leBytes 4 (s1.regRead m.val (pairLow p)) } ∧
      hi = BitVec.ofNat 32 (s1.regRead m.val (pairLow p + 4)) ∧ (⟨m.val, p, hi⟩ : Shadow) ∈ t.shadows ∧ t.mem = s1.mem ∧ t.clusters = s1.clusters) ∧
    (s1.readRsp m.val false (pairLow p) 4 ≠ 0 → ∃ t, exec (.pairLowRead m p) s = .next t ∧ t = { s1 with braid := t.braid, hosts := t.hosts } ∧
      t.braid.answer = some { master := m.val, addr := pairLow p, resp := s1.readRsp m.val false (pairLow p) 4,
                              data := if s1.readRsp m.val false (pairLow p) 4 = 1 ∨ (9 ≤ m.val ∧ m.val ≤ 12) then [0, 0, 0, 0] else [] })) ∧
  (∀ (s : State) (p : Fin 4) (offset a : Nat) (v : Word) (q : HostPort), s.hosts[p.val]? = some q → a = q.b4 * 2 ^ 30 + offset →
    (s.isSteward p.val = false ∨ 2 ^ 30 ≤ offset → exec (.bar4Write p offset v) s = .next s) ∧
    (s.hostCan p.val = true → s.isSteward p.val = true → offset < 2 ^ 30 →
      (∀ m : Master, m.val = 9 + p.val → inMbx p.val a = false ∨ holdsRws a = true → exec (.bar4Write p offset v) s = exec (.registerWrite m a v) s) ∧
      (inMbx p.val a = true → holdsRws a = false → ∃ t, exec (.bar4Write p offset v) s = .next t ∧ t = { s with hosts := t.hosts } ∧
        t.hosts[p.val]? = some { q with b4Deny := sat32 q.b4Deny, err := q.err ||| 8 }) ∧
      (∀ (s1 : State) (q1 : HostPort), s.masterUp (9 + p.val) = true → isMemory a = true → s1 = s.access (9 + p.val) 0 a → s1.noTarget (9 + p.val) a = false →
        s1.isSteward p.val = true → s1.hosts[p.val]? = some q1 → ∃ t, exec (.bar4Write p offset v) s = .next t ∧ t = { s1 with hosts := t.hosts } ∧
        t.hosts[p.val]? = some { q1 with b4Deny := sat32 q1.b4Deny, err := q1.err ||| 8 }))) ∧
  (∀ (s : State) (p : Fin 4) (offset len : Nat) (q : HostPort), s.hosts[p.val]? = some q → s.hostCan p.val = true →
    (2 ^ 30 < offset + len → exec (.bar2Read p offset len) s = .next s) ∧
    (offset + len ≤ 2 ^ 30 → ∃ t d, exec (.bar2Read p offset len) s = .next t ∧
      t.braid.answer = some { master := 9 + p.val, addr := offset, resp := 0, data := d } ∧
      (s.braid.waiting.getD 0 [] = [] → s.braid.waiting.getD 1 [] = [] → t = { s with hosts := t.hosts, braid := t.braid } ∧
        d = (List.range len).map (fun k => s.viewByte (s.viewAddr (s.viewOf p.val) (q.b2 * 2 ^ 30 + offset + k))) ∧
        ((∀ k, k < len → (s.viewAddr (s.viewOf p.val) (q.b2 * 2 ^ 30 + offset + k)).isSome = true) → t.hosts = s.hosts)) ∧
      (s.viewOf p.val = [] → 0 < len → d = List.replicate len 0 ∧ (t.hport p.val).err = q.err ||| 16))) ∧
  (∀ s : State, (∀ b, s.firmware = true → b = false ∨ (s.sys.mode = .load ∧ s.image.time.efc = true) →
      exec (.efcEnable b) s = .next { s with sys := { s.sys with efcEn := b } }) ∧
    (s.firmware = false ∨ s.sys.mode ≠ .load ∨ s.image.time.efc = false → exec (.efcEnable true) s = .next s) ∧
    (∀ v : Word, ∃ t, exec (.efcCodeWrite v) s = .next t ∧
      t = { s with sys := { s.sys with efcPrev := s.efcNow, efcCode := v.toNat % 2 ^ 24, efcEdge := t.sys.efcEdge } } ∧
      s.now < t.sys.efcEdge ∧ t.sys.efcEdge ≤ s.now + 32 ∧ t.sys.efcEdge % 32 = 0 ∧ t.efcNow = s.efcNow))

/-- The braid's pieces (R245, R248, R249, R251, R253, R263): the chosen piece is served, in memory or not at all, and leaves its queue; one
that meets an uncorrectable error changes nothing and answers TGTERR; an atomic operation answers the old word and leaves the new one; a
master reset closes its port and takes back the beats not delivered; reopening and re-arming clear their bits. -/
def Obligations.BraidServesPieces : Prop :=
  (∀ (s : State) (k : Fin 11) (w : Waiting), Safe.memory s → s.nextGrant k.val = some w → s.power.braid = .on →
    (∀ bs, w.req.op = .write bs → s.writeRsp w.req.master.val w.req.sec w.req.addr bs.length = 0 → isMemory w.req.addr = true →
      ∃ t, exec (.braidPieceGrant k [] false) s = .next t ∧ t = { s with braid := t.braid, mem := t.mem } ∧
        Mem.readN t.mem bs.length w.req.addr = bs ∧
        (∀ b, b < w.req.addr ∨ w.req.addr + bs.length ≤ b → Mem.read t.mem b = Mem.read s.mem b) ∧
        t.braid.answer = some { master := w.req.master.val, addr := w.req.addr, resp := 0, data := [] } ∧
        t.braid.granted[w.req.master.val]? = (s.braid.granted[w.req.master.val]?).map
          (fun _ => some { addr := w.req.addr, old := Mem.readN s.mem bs.length w.req.addr }) ∧
        t.braid.waiting[k.val]? = (s.braid.waiting[k.val]?).map (removeFirst (fun q => decide (q = w)))) ∧
    (∀ len, w.req.op = .read len → s.readRsp w.req.master.val w.req.sec w.req.addr len = 0 → isMemory w.req.addr = true →
      (∃ t, exec (.braidPieceGrant k [] false) s = .next t ∧ t = { s with braid := t.braid } ∧
        t.braid.answer = some { master := w.req.master.val, addr := w.req.addr, resp := 0, data := Mem.readN s.mem len w.req.addr }) ∧
      (w.req.master.val ≠ 6 → ∃ t, exec (.braidPieceGrant k [] true) s = .next t ∧ t = { s with braid := t.braid, hosts := t.hosts } ∧
        t.braid.answer = some { master := w.req.master.val, addr := w.req.addr, resp := 3,
                                data := if 9 ≤ w.req.master.val ∧ w.req.master.val ≤ 12 then List.replicate len 0 else [] } ∧
        t.braid.waiting[k.val]? = (s.braid.waiting[k.val]?).map (removeFirst (fun q => decide (q = w)))))) ∧
  (∀ (s : State) (k : Fin 11) (ecc : Bool), s.nextGrant k.val = none → exec (.braidPieceGrant k [] ecc) s = .next s) ∧
  (∀ (s : State) (k : Fin 11) (r : BraidReq) (ecc : Bool), splitReq r = [r] → targetOf r.addr = k.val → s.braidOpen r.master.val = true →
    s.braid.waiting.getD k.val [] = [] → exec (.braidPieceGrant k [r] ecc) s =
      exec (.braidPieceGrant k [] ecc) { s with braid := { s.braid with waiting := setAt [{ req := r, since := s.now }] k.val s.braid.waiting } }) ∧
  (∀ (s s1 : State) (m : Master) (a size : Nat) (kind : AtomicKind) (x c : Nat) (ecc : Bool), m.val < 5 → s.braidOpen m.val = true →
    s1 = s.access m.val 0 a → Safe.memory s1 →
    (s1.atomicRsp m.val a size ecc = 0 → ∃ t, exec (.atomicOp m a size kind x c ecc) s = .next t ∧ t = { s1 with mem := t.mem, braid := t.braid } ∧
      Mem.readN t.mem size a = leBytes size (atomicNew size kind (Mem.readLe s1.mem size a) (x % 2 ^ (8 * size)) (c % 2 ^ (8 * size))) ∧
      (∀ b, b < a ∨ a + size ≤ b → Mem.read t.mem b = Mem.read s1.mem b) ∧
      t.braid.answer = some { master := m.val, addr := a, resp := 0, data := leBytes size (Mem.readLe s1.mem size a) }) ∧
    (s1.atomicRsp m.val a size ecc ≠ 0 → ∃ t, exec (.atomicOp m a size kind x c ecc) s = .next t ∧ t = { s1 with braid := t.braid } ∧
      t.braid.answer = some { master := m.val, addr := a, resp := s1.atomicRsp m.val a size ecc, data := [] })) ∧
  (∀ (s : State) (m : Master) (beats : Nat), ∃ t, exec (.masterReset m beats) s = .next t ∧
    t = { s with mem := t.mem, braid := t.braid, shadows := t.shadows } ∧
    t.braid.closed[m.val]? = (s.braid.closed[m.val]?).map (fun _ => true) ∧
    (∀ l ∈ t.braid.waiting, ∀ w ∈ l, w.req.master ≠ m) ∧ (∀ w ∈ t.shadows, w.master ≠ m.val) ∧
    (s.braid.granted.getD m.val none = none → t.mem = s.mem) ∧
    (∀ g, s.braid.granted.getD m.val none = some g →
      (Safe.memory s → ∀ i, 32 * beats ≤ i → i < g.old.length → Mem.read t.mem (g.addr + i) = g.old.getD i 0) ∧
      (∀ b, b < g.addr + 32 * beats ∨ g.addr + g.old.length ≤ b → Mem.read t.mem b = Mem.read s.mem b)) ∧
    (∃ u, exec (.masterPortReopen m) t = .next u ∧ u = { t with braid := u.braid } ∧
      u.braid.closed[m.val]? = (s.braid.closed[m.val]?).map (fun _ => false) ∧ u.braid.waiting = t.braid.waiting)) ∧
  (∀ s : State, s.power.braid = .on → exec .mtxErrRearm s = .next { s with braid := { s.braid with errValid := false } })

/-! ### The DMA engine -/

/-- DMA programs (R231, R232, R254-R256, R258, R260-R262): a start needs EN and no STOPPED, an ignored one is counted; an arrival at
DMA_STARTn starts its channel, resumes it in WAITING, and is held pending while the consumer is busy (log 160); clearing EN aborts; each instruction that moves no data has
its effect and goes on 32 bytes further, or ends its channel; a refused access stops every channel until STOPPED is cleared; a
RUNNING WAIT asks its line, and a LOOP of no iterations goes on after its ENDLOOP (log 88: R256 says that it skips forward to it). -/
def Obligations.DmaProgramsRun : Prop :=
  (∀ (s : State) (n : Fin 32) (o : Option (Fin 128)) (c : DmaCh), s.dma.chs[n.val]? = some c → s.power.dma = .on →
    (o = none ∨ (c.st ≠ .waiting ∧ ∃ k, s.evt.cons[8 + n.val]? = some k ∧ k.busy = false ∧ k.arrAt = none) →
      (s.dma.stopped = false → c.active = false → c.en = true → ∃ t d, exec (.dmaStart n o) s = .next t ∧
        t = { s with dma := t.dma, evt := t.evt } ∧ t.dma.chs[n.val]? = some d ∧ d.st = .running ∧ d.pc = 0 ∧ d.base = c.pcBase ∧ d.loops = [] ∧
        d.origin = o.map Fin.val ∧ d.en = true ∧ d.startIgn = c.startIgn ∧ d.buf = (if c.simple = true ∧ n.val < 16 then some c.simplePair else none) ∧
        (∀ k, k ≠ n.val → t.dma.chs[k]? = s.dma.chs[k]?)) ∧
      (s.dma.stopped = true ∨ c.active = true → ∃ t, exec (.dmaStart n o) s = .next t ∧ t = { s with dma := t.dma, evt := t.evt } ∧
        t.dma.chs[n.val]? = some { c with startIgn := sat8 c.startIgn } ∧ (o = none → t.evt = s.evt))) ∧
    (∀ (a : Fin 128) (k : Con), o = some a → s.evt.cons[8 + n.val]? = some k → k.arrAt = none →
      (k.busy = false → c.st = .waiting → ∃ t d, exec (.dmaStart n o) s = .next t ∧ t = { s with dma := t.dma, evt := t.evt } ∧
        t.dma.chs[n.val]? = some d ∧ d.st = .running ∧ d.pc = (c.pc + 32) % 2 ^ 32 ∧ d.ins = none ∧ d.startIgn = c.startIgn) ∧
      (k.busy = true → k.f2 = false → k.pend = false → ∃ t, exec (.dmaStart n o) s = .next t ∧ t = { s with evt := t.evt } ∧
        t.evt.cons[8 + n.val]? = some { k with pend := true, porigin := a.val, arrAt := some s.now, pmask := [true, false, false, false] })) ∧
    (c.active = true → ∃ t d, exec (.dmaDisable n) s = .next t ∧ t = { s with dma := t.dma } ∧ t.dma.chs[n.val]? = some d ∧ d.en = false ∧
      d.st = .aborted ∧ d.hold = [] ∧ d.remain = c.remain ∧ d.gidx = c.gidx) ∧
    exec .dmaStopClear s = .next { s with dma := { s.dma with stopped := false } } ∧
    (∀ w, c.ins = some w → opOf w = 7 →
      (∀ pins, c.st = .waiting → ∃ t d, exec (.dmaWaitResume n pins) s = .next t ∧ t = { s with dma := t.dma, evt := t.evt } ∧ t.dma.chs[n.val]? = some d ∧
        d.st = .running ∧ d.pc = (c.pc + 32) % 2 ^ 32 ∧ d.ins = none) ∧
      (∀ (pins : List (BitVec 8)) (s1 : State), c.st = .running → s1 = s.periPins (dreqOf w - 1) pins →
        (s1.lineOn (dreqOf w - 1) = false → exec (.dmaWaitResume n pins) s = .next s1) ∧
        (s1.lineOn (dreqOf w - 1) = true → ∃ t, exec (.dmaWaitResume n pins) s = .next t ∧ t = { s1 with dma := t.dma } ∧
          t.dma.chs[n.val]? = some { c with pc := (c.pc + 32) % 2 ^ 32, ins := none, moved := 0 })) ∧
      (countOf w ≠ 0 → ∃ t d, exec (.dmaWaitTimeout n) s = .next t ∧ t = { s with dma := t.dma } ∧ t.dma.chs[n.val]? = some d ∧
        d.st = .timeout ∧ d.pc = c.pc ∧ d.ins = none))) ∧
  (∀ (s s1 : State) (n : Fin 32) (c : DmaCh) (w : List Nat), s.dma.chs[n.val]? = some c → s.dmaMay n.val = true → c.ins = none →
    s.fetchAt n.val c.pc = (0, w, s1) → s1.dma.chs[n.val]? = some c →
    (opKnown (opOf w) = false ∨ (opOf w = 0 ∧ insOk w = false) → ∃ t, exec (.dmaNop n) s = .next t ∧ t = { s1 with dma := t.dma } ∧
      t.dma.chs[n.val]? = some { c with st := .illegal, hold := [], ins := none, moved := 0, cut := none }) ∧
    (insOk w = true →
      (opOf w = 0 → ∃ t, exec (.dmaNop n) s = .next t ∧ t = { s1 with dma := t.dma } ∧ t.dma.chs[n.val]? = some c.next) ∧
      (opOf w = 5 → c.loops.length < 4 → countOf w ≠ 0 → ∃ t, exec (.dmaLoop n) s = .next t ∧ t = { s1 with dma := t.dma } ∧
        t.dma.chs[n.val]? = some { c.next with loops := { at_ := c.pc, left := if countOf w = 0xFFFFFFFF then none else some (countOf w),
                                                          stride := untwos 32 (wd w 6) } :: c.loops }) ∧
      (opOf w = 5 → 4 ≤ c.loops.length → ∃ t, exec (.dmaLoop n) s = .next t ∧ t = { s1 with dma := t.dma } ∧ (t.dch n.val).st = .illegal) ∧
      (opOf w = 6 → c.loops = [] → ∃ t, exec (.dmaEndloop n) s = .next t ∧ t = { s1 with dma := t.dma } ∧ (t.dch n.val).st = .illegal) ∧
      (∀ l ls k, opOf w = 6 → c.loops = l :: ls → l.left = some k → ∃ t, exec (.dmaEndloop n) s = .next t ∧ t = { s1 with dma := t.dma } ∧
        (k ≤ 1 → t.dma.chs[n.val]? = some { c.next with loops := ls }) ∧
        (1 < k → t.dma.chs[n.val]? = some { c.next with pc := (l.at_ + 32) % 2 ^ 32,
                                                        loops := { l with left := some (k - 1), iter := l.iter + 1 } :: ls })) ∧
      (∀ l ls, opOf w = 6 → c.loops = l :: ls → l.left = none → ∃ t, exec (.dmaEndloop n) s = .next t ∧ t = { s1 with dma := t.dma } ∧
        t.dma.chs[n.val]? = some { c.next with pc := (l.at_ + 32) % 2 ^ 32, loops := { l with iter := l.iter + 1 } :: ls }) ∧
      (∀ w2 s2, opOf w = 5 → c.loops.length < 4 → countOf w = 0 → s1.fetchAt n.val (c.pc + 32) = (0, w2, s2) → opOf w2 = 6 →
        s2.dma.chs[n.val]? = some c → ∃ t, exec (.dmaLoop n) s = .next t ∧ t = { s2 with dma := t.dma } ∧
        t.dma.chs[n.val]? = some { c with pc := (c.pc + 64) % 2 ^ 32 }) ∧
      (opOf w = 7 → ∃ t, exec (.dmaWait n) s = .next t ∧ t = { s1 with dma := t.dma } ∧
        t.dma.chs[n.val]? = some { c with ins := some w, st := if flagA w = true then .running else .waiting }) ∧
      (opOf w = 8 → ∃ t, exec (.dmaSignal n) s = .next t ∧ t = { s1 with dma := t.dma, evt := t.evt } ∧ t.dma.chs[n.val]? = some c.next ∧
        t.evt = { s1.evt with chanIn := s1.evt.chanIn ++ (s1.evt.takers (0x80 + n.val)).map (fun ch => ⟨ch, c.origin⟩) }) ∧
      (opOf w = 15 → ∃ t, exec (.dmaHalt n) s = .next t ∧ t = { s1 with dma := t.dma, evt := t.evt } ∧
        t.dma.chs[n.val]? = some { c with st := .done, hold := [], ins := none, moved := 0, cut := none } ∧
        (flagA w = false → t.evt = s1.evt) ∧
        (flagA w = true → t.evt = { s1.evt with chanIn := s1.evt.chanIn ++ (s1.evt.takers (0x80 + n.val)).map (fun ch => ⟨ch, c.origin⟩) })))) ∧
  (∀ (s : State) (n : Fin 32) (a : Nat) (write : Bool) (r : Fin 4) (l : List (Fin 32)), s.dmaMay n.val = true → r.val ≠ 0 →
    s.dma.chs.length = 32 → ∃ t, exec (.dmaAccessError n a write r l) s = .next t ∧
      t = { s with dma := t.dma, evt := t.evt, braid := t.braid, freeIx := s.freeIx + 1 } ∧ t.dma.stopped = true ∧ t.dma.errAddr = a % 2 ^ 40 ∧
      t.dma.errWrite = write ∧ t.dma.errResp = r.val ∧ (write = true → t.dma.errWch = n.val) ∧ t.dma.errMask[n.val]? = some true ∧
      (∀ (k : Nat) (c : DmaCh), t.dma.chs[k]? = some c → c.active = false))

/-- DMA data (R255, R257-R259, R261): with incrementing sides in memory and no open loop, a MOVE leaves the source's bytes at the
destination, a FILL its pattern, a COMPARE counts the bytes that differ and writes nothing, a GATHER of one entry gathers its bytes; a
paced instruction moves one block of at most 64 bytes when its line asks; EN cleared after some beats leaves what they wrote; no other
byte of memory changes. No other master's piece waits at the braid. That the block of a FILL is 64 bytes too is log 87 (R257 gives a FILL
bursts of up to 256), that the beats after which EN is cleared come with the command log 148. -/
def Obligations.DmaMovesData : Prop :=
  ∀ (s s1 : State) (n : Fin 32) (c : DmaCh) (w : List Nat) (src dst count : Nat), Safe.memory s1 → s.dma.chs[n.val]? = some c → s.dmaMay n.val = true →
    c.loops = [] → src = addrAt w 1 → dst = addrAt w 3 → count = countOf w → 0 < count →
    s1.dma.chs[n.val]? = some c → (∀ l ∈ s1.braid.waiting, l = []) →
    (c.ins = none → s.fetchAt n.val c.pc = (0, w, s1) → dreqOf w = 0 → insOk w = true →
      (opOf w = 1 → sinc w = true → dinc w = true → src % swOf w = 0 → dst % dwOf w = 0 → Safe.dmaReads s1 c.sec src count →
        Safe.dmaWrites s1 c.sec dst count → ((count ≤ 64 ∧ src % 256 + count ≤ 256) ∨ src + count ≤ dst ∨ dst + count ≤ src) →
        ∃ t d, exec (.dmaMove n none) s = .next t ∧
        t = { s1 with dma := t.dma, mem := t.mem, braid := { s1.braid with granted := t.braid.granted } } ∧
        t.dma.chs[n.val]? = some d ∧ d.st = .running ∧ d.pc = (c.pc + 32) % 2 ^ 32 ∧ d.remain = 0 ∧
        (∀ i, i < count → Mem.read t.mem (dst + i) = Mem.read s1.mem (src + i)) ∧
        (∀ a, a < dst ∨ dst + count ≤ a → Mem.read t.mem a = Mem.read s1.mem a)) ∧
      (opOf w = 2 → dinc w = true → dst % dwOf w = 0 → Safe.dmaWrites s1 c.sec dst count → ∃ t d, exec (.dmaFill n none) s = .next t ∧
        t = { s1 with dma := t.dma, mem := t.mem, braid := { s1.braid with granted := t.braid.granted } } ∧
        t.dma.chs[n.val]? = some d ∧ d.st = .running ∧ d.pc = (c.pc + 32) % 2 ^ 32 ∧
        (∀ i, i < count → Mem.read t.mem (dst + i) = BitVec.ofNat 8 (wd w 6 / 256 ^ (i % 4))) ∧
        (∀ a, a < dst ∨ dst + count ≤ a → Mem.read t.mem a = Mem.read s1.mem a)) ∧
      (∀ k, opOf w = 2 → dinc w = true → dst % 32 = 0 → 32 * k < count → Safe.dmaWrites s1 c.sec dst count →
        ∃ t d, exec (.dmaFill n (some k)) s = .next t ∧
        t = { s1 with dma := t.dma, mem := t.mem, braid := { s1.braid with granted := t.braid.granted } } ∧
        t.dma.chs[n.val]? = some d ∧ d.st = .aborted ∧ d.en = false ∧
        d.pc = c.pc ∧ d.remain = count - 32 * k ∧ (∀ i, i < 32 * k → Mem.read t.mem (dst + i) = BitVec.ofNat 8 (wd w 6 / 256 ^ (i % 4))) ∧
        (∀ a, a < dst ∨ dst + 32 * k ≤ a → Mem.read t.mem a = Mem.read s1.mem a)) ∧
      (opOf w = 3 → sinc w = true → flagA w = false → flagB w = false → src % swOf w = 0 → Safe.dmaReads s1 c.sec src count →
        c.mismCnt < 2 ^ 32 → ∃ t d, exec (.dmaCompare n none) s = .next t ∧
        t = { s1 with dma := t.dma, braid := { s1.braid with granted := t.braid.granted } } ∧ t.dma.chs[n.val]? = some d ∧
        d.st = .running ∧ d.pc = (c.pc + 32) % 2 ^ 32 ∧ d.mismCnt = min 0xFFFFFFFF (c.mismCnt +
          ((List.range count).filter (fun i => decide (Mem.read s1.mem (src + i) ≠ BitVec.ofNat 8 (wd w 6 / 256 ^ (i % 4))))).length)) ∧
      (∀ lo len, opOf w = 4 → count = 1 → sinc w = true → flagA w = false → dst % dwOf w = 0 → len ≤ 64 → len % swOf w = 0 →
        len % dwOf w = 0 → lo % swOf w = 0 → Mem.readN s1.mem 16 src = leBytes 8 lo ++ leBytes 4 len ++ leBytes 4 0 →
        Safe.dmaReads s1 c.sec src 16 → Safe.dmaReads s1 c.sec lo len → Safe.dmaWrites s1 c.sec dst len → ∃ t d, exec (.dmaGather n none) s = .next t ∧
        t = { s1 with dma := t.dma, mem := t.mem, braid := { s1.braid with granted := t.braid.granted } } ∧
        t.dma.chs[n.val]? = some d ∧ d.st = .running ∧ d.pc = (c.pc + 32) % 2 ^ 32 ∧ d.gidx = 0 ∧
        (∀ i, i < len → Mem.read t.mem (dst + i) = Mem.read s1.mem (lo + i)) ∧
        (∀ a, a < dst ∨ dst + len ≤ a → Mem.read t.mem a = Mem.read s1.mem a))) ∧
    (∀ (pins : List (BitVec 8)), c.ins = some w → 1 ≤ dreqOf w → opOf w ≠ 7 → s1 = s.periPins (dreqOf w - 1) pins →
      (s1.lineOn (dreqOf w - 1) = false → exec (.dmaPacedBlock n pins none) s = .next s1) ∧
      (s1.lineOn (dreqOf w - 1) = true → opOf w = 2 → dinc w = true → c.moved < count → c.moved % dwOf w = 0 → dwOf w ≤ 32 →
        count % dwOf w = 0 → Safe.dmaWrites s1 c.sec dst count → ∃ t d, exec (.dmaPacedBlock n pins none) s = .next t ∧
        t = { s1 with dma := t.dma, mem := t.mem, braid := { s1.braid with granted := t.braid.granted } } ∧
        t.dma.chs[n.val]? = some d ∧ d.st = .running ∧
        (c.moved + 64 < count → d.moved = c.moved + 64 ∧ d.ins = some w ∧ d.pc = c.pc) ∧
        (count ≤ c.moved + 64 → d.ins = none ∧ d.pc = (c.pc + 32) % 2 ^ 32) ∧
        (∀ i, c.moved ≤ i → i < min count (c.moved + 64) → Mem.read t.mem (dst + i) = BitVec.ofNat 8 (wd w 6 / 256 ^ (i % 4))) ∧
        (∀ a, a < dst + c.moved ∨ dst + min count (c.moved + 64) ≤ a → Mem.read t.mem a = Mem.read s1.mem a)))

/-! ### The housekeeping converters -/

/-- The converters (R268-R280): REF_EN and REF_RDY start core 0's rounds, whose slots follow one another (an overloaded auto-zero reading
counts at its saturated value, log 159); a conversion of a user core
puts its word in the FIFO and moves on, to the capture that waits unless its pass ends with it; a pass ends with HKC_DONEn; EN cleared stops a core; reads take the head word; queues and
sequences are taken or refused; a capture keeps its mean. -/
def Obligations.ConvertersRun : Prop :=
  (∀ s : State, s.power.hkc = .on →
    exec .refEnable s = .next { s with hkc := { s.hkc with refEn := true } } ∧
    (s.hkc.refEn = true → s.hkc.refRdy = false → ∃ t, exec .refReady s = .next t ∧ t = { s with hkc := t.hkc, evt := t.evt } ∧
      t.hkc.refRdy = true ∧ t.hkc.roundRun = true ∧ t.hkc.slot = 0 ∧ (∀ c, s.hkc.cores[0]? = some c → (t.core 0).en = true ∧ (t.core 0).st = .running))) ∧
  (∀ (s : State) (r : SlotReading), s.hkc.roundRun = true →
    (s.hkc.slot < 49 → ∃ t, exec (.hkcSlotEnd r) s = .next t ∧ t.hkc.slot = s.hkc.slot + 1 ∧ t.hkc.rounds = s.hkc.rounds ∧
      (42 ≤ s.hkc.slot → t = { s with hkc := { s.hkc with slot := s.hkc.slot + 1, slotAt := s.now, zsum := s.hkc.zsum + satCode r.raw } })) ∧
    (s.hkc.slot = 49 → ∃ t, exec (.hkcSlotEnd r) s = .next t ∧ t.hkc.slot = 0 ∧ t.hkc.rounds = (s.hkc.rounds + 1) % 2 ^ 32 ∧ t.hkc.zsum = 0)) ∧
  (∀ (s : State) (n : Fin 3) (c : HkcCore), s.hkc.cores[n.val]? = some c → n.val ≠ 0 →
    (∀ raw e ovr code, c.st = .running → c.lSeq[c.pos]? = some e → e.input ≠ 17 → c.fifo.length < 64 →
      code = c.trunc (s.codeOf (c.lCoef.getD c.pos (0, 1)).1 (c.lCoef.getD c.pos (0, 1)).2 raw ovr) →
      ∃ t d, exec (.hkcConversionDone n raw ovr) s = .next t ∧ t = { s with hkc := t.hkc, evt := t.evt } ∧ (ovr = false → t.evt = s.evt) ∧
      t.hkc.cores[n.val]? = some d ∧ d.fifo = c.fifo ++ [fifoWord ovr c.nrdy c.probeFail false false code] ∧
      d.st = (if s.syscalWaits n.val = true ∧ (c.smp + 1 < c.results e ∨ c.pos + 1 < c.lSeq.length) then .syscal else .running) ∧
      d.pos = (if c.results e ≤ c.smp + 1 then c.pos + 1 else c.pos) ∧ d.smp = (if c.results e ≤ c.smp + 1 then 0 else c.smp + 1) ∧
      d.words = c.words + 1) ∧
    (∀ p, c.st = .running → c.lSeq.length ≤ c.pos → c.lDiag = false → c.trig ≠ 0 → s.syscalWaits n.val = false →
      ∃ t d, exec (.hkcPassEnd n p false) s = .next t ∧
      t = { s with hkc := t.hkc, evt := t.evt } ∧ t.hkc.cores[n.val]? = some d ∧ d.st = .idle ∧ d.pass = (c.pass + 1) % 2 ^ 32 ∧
      t.evt.chanIn = s.evt.chanIn ++ (s.evt.takers (0x60 + n.val)).map (fun ch => ⟨ch, c.origin⟩)) ∧
    (s.power.hkc = .on → c.st = .running → ∃ t, exec (.hkcSwStart n) s = .next t ∧ t = { s with hkc := t.hkc } ∧
      t.hkc.cores[n.val]? = some { c with startIgn := sat6 c.startIgn }) ∧
    (s.power.hkc = .on → c.en = true → c.trig = 2 → c.st = .idle → ∃ t d, exec (.hkcSwStart n) s = .next t ∧
      t = { s with hkc := t.hkc, evt := t.evt } ∧ t.hkc.cores[n.val]? = some d ∧ d.st = .running ∧ d.pos = 0 ∧ d.lSeq = c.entries) ∧
    (c.en = true → c.st = .idle → s.hkc.sysRun = none → ∃ t d, exec (.hkcCoreDisable n) s = .next t ∧ t = { s with hkc := t.hkc } ∧
      t.hkc.cores[n.val]? = some d ∧ d.en = false ∧ d.st = (if c.sigma = true then .idle else .discharge) ∧ d.fifo = c.fifo) ∧
    (c.st = .running → s.hkc.sysRun = none → c.en = true → c.fifo.length < 64 → ∃ t d, exec (.hkcCoreDisable n) s = .next t ∧
      t = { s with hkc := t.hkc, evt := t.evt } ∧ t.hkc.cores[n.val]? = some d ∧ d.en = false ∧
      d.st = (if c.sigma = true then .idle else .discharge) ∧ d.fifo = c.fifo ++ [fifoWord false false c.probeFail true true (c.words : Nat)]) ∧
    (c.st = .discharge → c.enWait = true → ∃ t d, exec (.hkcDischargeEnd n) s = .next t ∧ t = { s with hkc := t.hkc, evt := t.evt } ∧
      t.hkc.cores[n.val]? = some d ∧ d.en = true ∧ d.enWait = false ∧ d.st = (if c.trig = 0 then .running else .idle)) ∧
    (c.st = .discharge → c.enWait = false → ∃ t, exec (.hkcDischargeEnd n) s = .next t ∧ t = { s with hkc := t.hkc } ∧
      t.hkc.cores[n.val]? = some { c with st := .idle }) ∧
    (∀ (e : Fin 16) (v : Word), s.power.hkc = .on →
      (s.seqLegal n.val { c with seq := setAt (seqEntryOf v) e.val c.seq } = true → ∃ t, exec (.hkcSeqWrite n e v) s = .next t ∧
        t = { s with hkc := t.hkc } ∧ t.hkc.cores[n.val]? = some { c with seq := setAt (seqEntryOf v) e.val c.seq }) ∧
      (s.seqLegal n.val { c with seq := setAt (seqEntryOf v) e.val c.seq } = false → ∃ t, exec (.hkcSeqWrite n e v) s = .next t ∧
        t = { s with hkc := t.hkc } ∧ t.hkc.cores[n.val]? = some { c with cfgErr := true }))) ∧
  (∀ (s : State) (n : Fin 3) (m : Master) (c : HkcCore), s.hkc.cores[n.val]? = some c → s.power.hkc = .on →
    (∃ t, exec (.hkcFlush n) s = .next t ∧ t = { s with hkc := t.hkc } ∧ t.hkc.cores[n.val]? = some { c with fifo := [] }) ∧
    (m.val < 9 → ∃ t d, exec (.hkcFifoRead n m) s = .next t ∧ t = { s with hkc := t.hkc } ∧ t.hkc.cores[n.val]? = some d ∧
      (∀ w ws, c.fifo = w :: ws → d = { c with fifo := ws }) ∧ (c.fifo = [] → d = { c with overread := sat6 c.overread })) ∧
    (9 ≤ m.val → m.val ≤ 12 → exec (.hkcFifoRead n m) s = .next s)) ∧
  (∀ (s : State) (v : Word), s.power.hkc = .on →
    (s.hkc.prio.length < 4 → exec (.censusPrioWrite v) s = .next { s with hkc := { s.hkc with prio := s.hkc.prio ++ [v.toNat % 8192] } }) ∧
    (4 ≤ s.hkc.prio.length → exec (.censusPrioWrite v) s = .next { s with hkc := { s.hkc with prioFull := true } })) ∧
  (∀ (s : State) (n : Fin 3) (raws : List Int) (ovr : Bool) (r : SyscalRun) (q : Syscal), s.hkc.sysRun = some r → r.core = n.val → r.waits = false →
    raws.length = (s.core n.val).captureLen → s.hkc.sys = some q → ∃ t cap, exec (.syscalCaptureDone n raws ovr) s = .next t ∧
      t = { s with hkc := t.hkc, hosts := t.hosts, evt := t.evt } ∧ t.hkc.sysRun = none ∧
      cap = ({ v := ((viewInt (s.kT * (((raws.map satCode).sum : Rat) / raws.length)) : Int) : Rat), atX := s.now, ovr := ovr } : Capture) ∧
      t.hkc.sys = some (if r.step = 0 then { q with cz := some cap } else { q with cf := some cap }))

/-- The thermal sequencer at the end of a round, slot 49 (R284-R297): BROKEN is latched by a missing, faulty or far-off reading, or three
rounds more than 20 °C off the neighbours' median (which neighbours count is log 95); the value in use of any other die sensor is its reading,
of an implausible privileged sensor its estimate; a threshold condition sets and clears after PERSIST rounds; a throttle condition of any
sensor, one broken among them, throttles the device and takes SERVICE to DERATED, which ends when none holds and no cluster is derated; a
derated cluster's ceiling falls by an eighth a round and rises again out of scope; a shutdown condition, or two broken sensors in a quadrant,
sets the SAFE latch, enters SAFE, turns off both transmitters and ramps every driven cluster (which cause is shown of several, log 96); a
shutdown under way is not started again; each cluster and the converters get their temperatures. -/
def Obligations.ThermalRoundActs : Prop :=
  ∀ (s : State) (r : SlotReading), s.hkc.roundRun = true → s.hkc.slot = 49 → ∃ t, exec (.hkcSlotEnd r) s = .next t ∧
    (∀ (i : Nat) (d : DieS) (q : DieReading), s.thm.dies[i]? = some d → r.die[i]? = some q → ∃ d', t.thm.dies[i]? = some d' ∧
      (d.broken = true ∨ q.present = false ∨ q.fault = true ∨ q.t < -14080 ∨ 38400 < q.t → d'.broken = true) ∧
      (d.broken = false → q.present = true → q.fault = false → -14080 ≤ q.t → q.t ≤ 38400 →
        (medianR (neighbourTs s.thm.dies r.die i) = none → d'.dev = d.dev) ∧
        (∀ m, medianR (neighbourTs s.thm.dies r.die i) = some m → d'.dev = if 5120 < |(q.t : Rat) - m| then d.dev + 1 else 0) ∧
        (d'.broken = decide (3 ≤ d'.dev)) ∧ (d'.broken = false → d'.t = q.t))) ∧
    (∀ (j : Nat) (p : PrivS), j < 18 → s.thm.privs[j]? = some p → s.privEvaluated j = true → ∃ p', t.thm.privs[j]? = some p' ∧
      ((s.privReading j).2 = true ∨ (s.privReading j).1 = none → p'.subst = true ∧ p'.delta = p.delta) ∧
      (∀ x, (s.privReading j).1 = some x → x < -60 ∨ 150 < x ∨ (∃ y, p.prev = some y ∧ 5 < |x - y|) → p'.subst = true ∧ p'.delta = p.delta) ∧
      (∀ x, s.privReading j = (some x, false) → -60 ≤ x → x ≤ 150 → p.implausible = false → p.dev < 2 →
        (∀ y, p.prev = some y → |x - y| ≤ 5) → p'.subst = false ∧ p'.t = x)) ∧
    (∀ (c c' : Cond) (x : Rat) (hi lo : Int),
      (∃ (i : Nat) (d d' : DieS), s.thm.dies[i]? = some d ∧ t.thm.dies[i]? = some d' ∧ d'.broken = false ∧ x = d'.t ∧
        ((c = d.warn ∧ c' = d'.warn ∧ hi = s.thm.die.warnSet ∧ lo = s.thm.die.warnClr) ∨
          (c = d.thr ∧ c' = d'.thr ∧ hi = s.thm.die.thrSet ∧ lo = s.thm.die.thrClr) ∨
          (c = d.shut ∧ c' = d'.shut ∧ hi = s.thm.die.shutSet ∧ lo = s.thm.die.shutClr))) ∨
      (∃ (j : Nat) (p p' : PrivS), j < 16 ∧ s.thm.privs[j]? = some p ∧ t.thm.privs[j]? = some p' ∧ s.hkc.conv.isSome = true ∧ x = p'.t * 256 ∧
        ((c = p.warn ∧ c' = p'.warn ∧ hi = s.thm.anc.warnSet ∧ lo = s.thm.anc.warnClr) ∨
          (c = p.thr ∧ c' = p'.thr ∧ hi = s.thm.anc.thrSet ∧ lo = s.thm.anc.thrClr) ∨
          (c = p.shut ∧ c' = p'.shut ∧ hi = s.thm.anc.shutSet ∧ lo = s.thm.anc.shutClr))) →
      lo ≤ hi → 1 ≤ s.thm.persist →
      ((hi : Rat) ≤ x → c'.on = (c.on || decide (s.thm.persist ≤ c.above + 1))) ∧
      (x < (lo : Rat) → c'.on = (c.on && decide (c.below + 1 < s.thm.persist))) ∧ ((lo : Rat) ≤ x → x < (hi : Rat) → c'.on = c.on)) ∧
    (∀ (i : Nat) (d : DieS), i < 288 → t.thm.dies[i]? = some d → d.thr.on = true ∨ d.broken = true → t.thm.anyThr = true) ∧
    t.rcd.throttled = t.thm.anyThr ∧ t.thm.slowBuses = t.thm.anyThr ∧
    (∀ (c x : Nat), s.thm.dDer[c]? = some x → ∃ y, t.thm.dDer[c]? = some y ∧
      (t.thm.derates c = true → y = if x = 0xFFFF then s.thm.derStart else max s.thm.derFloor (x - x / 8)) ∧
      (t.thm.derates c = false → y = if x = 0xFFFF ∨ s.thm.derStart ≤ x + x / 16 + 16 then 0xFFFF else x + x / 16 + 16)) ∧
    (∀ (i : Nat) (d : DieS), i < 288 → t.thm.dies[i]? = some d → d.shut.on = true ∨ (d.broken = true ∧ ∃ (k : Nat) (e : DieS), k < 288 ∧ k ≠ i ∧
      quadrant k = quadrant i ∧ t.thm.dies[k]? = some e ∧ e.broken = true) → t.thm.shutCond ≠ none) ∧
    (∀ (j : Nat) (p : PrivS), j < 16 → t.thm.privs[j]? = some p → p.shut.on = true → t.thm.shutCond ≠ none) ∧
    (s.thm.safeLatch = true ∨ t.thm.shutCond = none →
      t.thm.safeLatch = s.thm.safeLatch ∧ t.thm.cause = s.thm.cause ∧ t.thm.causeSensor = s.thm.causeSensor ∧ t.thm.shut = s.thm.shut ∧
      t.fab = s.fab ∧ t.net = s.net ∧ t.mem = s.mem ∧ t.power = s.power ∧ t.dma = s.dma ∧
      (∀ (c : Nat) (k : Cluster), s.clusters[c]? = some k →
        t.clusters[c]? = some (if k.pow = .on then { k with derate := t.thm.dDer.getD c 0xFFFF } else k)) ∧
      t.sys.sweep = s.sys.sweep.map (fun w => { w with paused := t.thm.anyThr }) ∧
      t.sys.mode = (if s.sys.mode = .service ∧ t.thm.anyThr = true then .derated
        else if s.sys.mode = .derated ∧ t.thm.anyThr = false ∧ (∀ x ∈ t.thm.dDer, x = 0xFFFF) then .service else s.sys.mode)) ∧
    (∀ (cause sensor : Nat) (T : Int), s.thm.safeLatch = false → t.thm.shutCond = some (cause, sensor, T) →
      t.thm.safeLatch = true ∧ t.thm.cause = cause ∧ t.thm.causeSensor = sensor ∧ (∃ q, t.thm.shut = some q ∧ q.cause = cause ∧ q.t = T) ∧
      (∀ ch ∈ s.evt.takers 0x52, (⟨ch, none⟩ : ChanOcc) ∈ t.evt.chanIn) ∧
      (s.sys.mode = .churn ∨ s.sys.mode = .load → t.sys.mode = s.sys.mode ∧ t.net = s.net) ∧
      (s.sys.mode ≠ .churn → s.sys.mode ≠ .load → t.sys.mode = .safe ∧ t.net.aTxdis = true ∧ t.net.bTxdis = true ∧ t.fab.circuits = [] ∧
        t.sys.sweep = none ∧ (∀ k ∈ t.clusters, k.pow = .on → k.pdown = true ∧ (k.fast = true ∨ k.islandRamp = true)))) ∧
    (∀ (c : Nat) (d : DieS), c < 256 → t.thm.dies[c]? = some d →
      (d.broken = false → t.thm.cluT[c]? = some (d.t, false)) ∧
      (∀ m, d.broken = true → medianR (neighbourTs t.thm.dies r.die c) = some m → t.thm.cluT[c]? = some (viewInt m, true))) ∧
    (∀ p, t.thm.privs[17]? = some p → t.hkc.tR = viewInt (p.t * 256))

/-! ### The recorder -/

/-- The recorder (R338-R350, R352, R365): a Skim snapshot and a capture instant stage blocks, drain the record latches and change no memory; a full buffer sheds; a
written block advances its ring, within the addresses of the ring's bytes and its region's 640-byte header; a lost channel halves the
rings from W on; a MARK advances the log and marks the next blocks, and of what an occurrence owes the log the oldest of a kind is written (log 117); freeze
and release; FREEZE written before the recorder runs is held (log 171); the enable bit. -/
def Obligations.RecorderRecords : Prop :=
  (∀ (s s1 : State) (b : Int), s.rcd.on = true → s.rcd.f ≠ 0 → s.toSkim = some (b, s1) → s1.rcd.frozen = false →
    (s1.rcd.fill ≤ stageSize * 7 / 8 → ∃ t, exec .skimSnapshot s = .next t ∧ t = { s1 with rcd := t.rcd, clusters := t.clusters } ∧
      (∀ c, t.clu c = { s1.clu c with latch := none }) ∧ t.rcd.stage.length = s1.rcd.stage.length + s1.regions.length ∧ t.rcd.snaps.length ≤ 2 ∧
      t.rcd.snaps.getLast? = some ((mailOf (s1.time.taiOf b)).1, (mailOf (s1.time.taiOf b)).2, s1.snapBytes b)) ∧
    (stageSize * 7 / 8 < s1.rcd.fill → ∃ t, exec .skimSnapshot s = .next t ∧
      t = { s1 with rcd := t.rcd, clusters := t.clusters } ∧ (∀ c, t.clu c = { s1.clu c with latch := none }) ∧ t.rcd.stage = s1.rcd.stage ∧
      t.rcd.shedCnt = sat32 s1.rcd.shedCnt ∧ t.rcd.shedW1c = true)) ∧
  (∀ s : State, s.rcd.on = false ∨ s.rcd.capEn = false → exec .captureBlock s = .next s) ∧
  (∀ (s s1 : State) (v : Int × Nat × List Nat), s.rcd.on = true → s.rcd.capEn = true → s.nextCapture = some v → reach 10000 v.1 s = some s1 →
    ∃ t new, exec .captureBlock s = .next t ∧ t = { s1 with rcd := t.rcd, clusters := t.clusters } ∧
      (∀ c, t.clu c = s1.clu c ∨ t.clu c = { s1.clu c with latch := none }) ∧ t.rcd.capNow = s1.rcd.capNow ∧ t.rcd.lastCap = some v.1 ∧
      t.rcd.stage = s1.rcd.stage ++ new ∧ (s.rcd.frozen = true → new = []) ∧ new.length ≤ s1.regions.length) ∧
  (∀ (s : State) (b : Block) (bs : List Block) (l : List Ring) (r : Ring), s.rcd.stage = b :: bs → s.rcd.rings[b.inst]? = some l →
    l[b.ring]? = some r → ∃ t, exec .blockWriteDone s = .next t ∧ t = { s with rcd := t.rcd, mem := t.mem } ∧ t.rcd.stage = bs ∧
      (t.ring b.inst b.ring).w = (if r.size = 0 then r.w else r.w + b.bytes.length) ∧
      (∀ i k, ¬(i = b.inst ∧ k = b.ring) → t.ring i k = s.ring i k) ∧
      (∀ a, (∀ j, j < b.bytes.length → a ∉ s.ringAddrs b.inst b.ring ((r.w + j - r.base) % r.size)) →
        (∀ c, c < 2 → a < chBase c + s.rcd.place.getD b.inst 0 ∨ chBase c + s.rcd.place.getD b.inst 0 + 640 ≤ a) →
        Mem.read t.mem a = Mem.read s.mem a)) ∧
  (∀ (s : State) (ch : Fin 2), s.chOk ch.val = true → s.chOk (1 - ch.val) = true → ch.val < s.rcd.chLost.length →
    ∃ t, exec (.ddrChannelFail ch) s = .next t ∧ t = { s with rcd := t.rcd, mem := t.mem } ∧ t.chOk ch.val = false ∧
      (∀ i k, k ≠ 0 → (t.ring i k).size = (s.ring i k).size / 2 ∧ (t.ring i k).base = (s.ring i k).w ∧ (t.ring i k).w = (s.ring i k).w) ∧
      (∀ i, t.ring i 0 = s.ring i 0)) ∧
  (∀ (s : State) (i : Fin 4) (v : Word) (l : List Ring) (r : Ring), s.firmware = true → s.rcd.on = true →
    s.rcd.present.getD i.val false = true → s.rcd.rings[i.val]? = some l → l[0]? = some r → r.size ≠ 0 →
    (∃ t, exec (.logRecordWrite 2 [i] v) s = .next t ∧ t = { s with rcd := t.rcd, mem := t.mem } ∧ (t.ring i.val 0).w = r.w + 64 ∧
      (∀ j, j ≠ i.val → t.ring j 0 = s.ring j 0) ∧ t.rcd.stage = s.rcd.stage ∧
      (∀ k q, k = 1 ∨ k = 2 → l[k]? = some q → t.ring i.val k = { q with marked := true })) ∧
    (∀ (kind : Nat) (insts : List (Fin 4)), kind ≠ 2 →
      ((∀ q ∈ s.rcd.logDue, q.kind ≠ kind) → exec (.logRecordWrite kind insts v) s = .next s) ∧
      (∀ q, s.rcd.logDue.find? (fun q => decide (q.kind = kind)) = some q → kind ≠ 1 → q.insts = [i.val] →
        ∃ t, exec (.logRecordWrite kind insts v) s = .next t ∧ t = { s with rcd := t.rcd, mem := t.mem } ∧ (t.ring i.val 0).w = r.w + 64 ∧
        t.rcd.logDue = removeFirst (fun q => decide (q.kind = kind)) s.rcd.logDue ∧ (∀ j, j ≠ i.val → t.ring j 0 = s.ring j 0)))) ∧
  (∀ (s : State) (v : Bool), s.power.recorder ≠ .on → exec (.recCtrlFreeze v) s = .next s) ∧
  (∀ s : State, s.power.recorder = .on → s.rcd.on = false →
    exec (.recCtrlFreeze true) s = .next { s with rcd := { s.rcd with frozen := true } } ∧
    exec (.recCtrlFreeze false) s = .next { s with rcd := { s.rcd with frozen := false } }) ∧
  (∀ s : State, s.power.recorder = .on → s.rcd.on = true →
    (s.rcd.frozen = false → ∃ t, exec (.recCtrlFreeze true) s = .next t ∧ t = { s with rcd := t.rcd, mem := t.mem } ∧ t.rcd.frozen = true ∧
      t.rcd.stage = s.rcd.stage.take 1) ∧
    (s.rcd.frozen = true → exec (.recCtrlFreeze true) s = .next s ∧ ∃ t, exec (.recCtrlFreeze false) s = .next t ∧
      t = { s with rcd := t.rcd, mem := t.mem } ∧ t.rcd.frozen = false ∧ t.rcd.stage = s.rcd.stage)) ∧
  (∀ (s : State) (v : Bool), s.power.recorder = .on → exec (.recCtrlCapEn v) s = .next { s with rcd := { s.rcd with capEn := v } })

/-! ### Invariants of every step -/

/-- Every step keeps memory, and host memory as the device writes it, in canonical form: addresses strictly rising, none listed that reads
as an unlisted one does. -/
def Obligations.EveryStepKeepsMemoryForm : Prop :=
  ∀ s t : State, Safe.memory s → step s = .next t → Safe.memory t

/-- The life cycle only moves on (R322, R323, R324): no step leaves ENDED, RETURNED but for ENDED, unseals a SEALED device, takes a device
back to MAKER, or changes a fused owner-key hash once the device has left OPEN. -/
def Obligations.LifeCycleOnlyMovesOn : Prop :=
  ∀ s t : State, step s = .next t →
    (s.sys.lc = .ended → t.sys.lc = .ended) ∧ (s.sys.lc = .returned → t.sys.lc = .returned ∨ t.sys.lc = .ended) ∧
    (s.sys.lc = .sealed_ → t.sys.lc = .sealed_ ∨ t.sys.lc = .returned ∨ t.sys.lc = .ended) ∧
    (s.sys.lc = .open_ → t.sys.lc ≠ .maker) ∧
    (s.sys.keyFused = true → t.sys.keyFused = true ∧ (s.sys.lc ≠ .open_ → t.sys.keyHash = s.sys.keyHash))

/-- Only a power-on reset clears the SAFE latch while a sensor still stands in the way (R297, R300, R303): every other step, the end of a
thermal round among them, keeps it set where the exit rule does not hold. A power-on reset is POWER_ON_RESET, the loss of VCORE or VIO, and the
end of its ramp. -/
def Obligations.SafeLatchHolds : Prop :=
  ∀ s t : State, s.pending.head? ≠ some .powerOnReset → s.pending.head? ≠ some (.supplyLoss .vcore) → s.pending.head? ≠ some (.supplyLoss .vio) →
    s.sys.resetting ≠ some .powerOn → s.thm.safeLatch = true → s.mayResume = false → step s = .next t → t.thm.safeLatch = true
end

