-- ==== Sys2Proof/Laws/Image.lean ====
section
/-! SUPPORT. The bytes of an image, taken apart: what the checksum, the hash and the reading of a section say of bytes that are put
together from pieces. -/

namespace Sys2Proof.Machine

/-- `force` only says in which order a term is evaluated. -/
@[simp] theorem force_eq {α : Type} (k : Nat → α) (n : Nat) : force k n = k n := by cases n <;> rfl

@[simp] theorem leBytes_length : ∀ (k n : Nat), (leBytes k n).length = k
  | 0, _ => rfl
  | k + 1, n => by simp [leBytes, leBytes_length k]

/-! ### The checksum and the hash -/

theorem crcRun_append : ∀ (a b : List Byte) (r : Nat), crcRun r (a ++ b) = crcRun (crcRun r a) b
  | [], _, _ => by simp [crcRun]
  | x :: a, b, r => by
    simp only [List.cons_append, crcRun]
    split <;> exact crcRun_append a b _

/-- Blocks that end on a block's boundary come before those of the rest. -/
theorem overBlocks_append (f : Sha → List Byte → Sha) (m : Nat) (rest : List Byte) : ∀ (k : Nat) (c : List Byte) (s : Sha), c.length = 128 * k →
    overBlocks f (k + m) (c ++ rest) s = overBlocks f m rest (overBlocks f k c s)
  | 0, c, s, h => by
    obtain rfl : c = [] := List.eq_nil_of_length_eq_zero h
    rw [List.nil_append, Nat.zero_add, overBlocks]
  | k + 1, c, s, h => by
    have d : (c.drop 128).length = 128 * k := by simp; omega
    rw [show k + 1 + m = (k + m) + 1 from by omega, overBlocks, overBlocks, List.drop_append_of_le_length (by omega),
      List.take_append_of_le_length (by omega), overBlocks_append f m rest k (c.drop 128) _ d]

/-- The same of the hash. -/
theorem shaRun_append (m : Nat) (rest : List Byte) (k : Nat) (c : List Byte) (s : Sha) (h : c.length = 128 * k) :
    shaRun (k + m) (c ++ rest) s = shaRun m rest (shaRun k c s) := overBlocks_append _ m rest k c s h

/-! ### Sections and tables -/

/-- A field within the first bytes. -/
theorem le_append {k o : Nat} {a b : List Byte} (h : o + k ≤ a.length) : le k o (a ++ b) = le k o a := by
  unfold le
  rw [List.drop_append_of_le_length (by omega), List.take_append_of_le_length (by simp; omega)]

/-- An entry of the directory whose section header and body stand where it says. -/
theorem readSecs_cons {o : Nat} {bytes e h b rest : List Byte} {es : List (List Byte)} (at_ : bytes.drop (le 4 4 e - o) = h ++ (b ++ rest))
    (hh : h.length = 16) (hb : le 4 4 h = b.length) :
    readSecs o bytes (e :: es) = { dirTag := le 4 0 e, offset := le 4 4 e, length := le 4 8 e, dirReserved := le 4 12 e, tag := le 4 0 h,
                                   bodyLen := le 4 4 h, bodyCrc := le 4 8 h, reserved := le 4 12 h, body := b } ::
      readSecs (max o (le 4 4 e)) (h ++ (b ++ rest)) es := by
  have d : ((h ++ (b ++ rest)).drop 16).take (le 4 4 h) = b := by
    rw [List.drop_left' hh, hb, List.take_left' rfl]
  simp only [readSecs, at_]
  rw [le_append (k := 4) (o := 0) (by omega), le_append (k := 4) (o := 4) (by omega), le_append (k := 4) (o := 8) (by omega),
    le_append (k := 4) (o := 12) (by omega), d]

/-- The next section stands behind header, body and padding of the one before. -/
theorem drop_section {h b p rest : List Byte} {n : Nat} (len : n = 16 + b.length + p.length) (hh : h.length = 16) :
    (h ++ (b ++ (p ++ rest))).drop n = rest := by
  rw [← List.append_assoc, ← List.append_assoc]
  exact List.drop_left' (by simp; omega)

/-- The entry of a cell that is not used. -/
def unusedCell : List Byte := [0, 0xFF, 0, 0, 0, 0, 0, 0]

@[simp] theorem unused_length (n : Nat) : (List.replicate n unusedCell).flatten.length = 8 * n := by
  simp [unusedCell, Nat.mul_comm]

theorem readCells_unused (k : Nat) (rest : List Byte) : ∀ n, readCells (k + n) ((List.replicate n unusedCell).flatten ++ rest) = readCells k rest
  | 0 => by simp
  | n + 1 => by
    rw [List.replicate_succ, List.flatten_cons, List.append_assoc]
    exact readCells_unused k rest n

theorem cellsUnclean_unused (k : Nat) (rest : List Byte) :
    ∀ n, cellsUnclean (k + n) ((List.replicate n unusedCell).flatten ++ rest) = cellsUnclean k rest
  | 0 => by simp
  | n + 1 => by
    rw [List.replicate_succ, List.flatten_cons, List.append_assoc]
    exact cellsUnclean_unused k rest n

theorem readFabm_cells (b : List Byte) : (readFabm b).cells = readCells 8192 (b.drop 0x100) := rfl

theorem readFabm_ports (b : List Byte) : (readFabm b).ports = readPorts 1024 ((b.drop 0x100).drop 0x10000) := rfl

theorem readFabm_reserved (b : List Byte) : (readFabm b).badReserved =
    firstOf ([unclean [(3, 1, 0xFF), (0x0E, 18, 0xFF), (0x38, 8, 0xFF), (0x58, 8, 0xFF), (0x78, 8, 0xFF), (0x98, 104, 0xFF)] b,
      cellsUnclean 8192 (b.drop 0x100)] ++
      ((recs 32 4 (b.drop 0x20)).take (u8 2 b)).map (fun d => routesUnclean (le 2 14 d) (le 4 0x10 d) (routeTable d b))) := rfl

end Sys2Proof.Machine
end

