-- ==== Sys2Proof/Laws/Mem.lean ====
section
/-! SUPPORT. Memory: what a write leaves at every address, and the canonical form, which every memory operation keeps. -/

namespace Sys2Proof.Machine

/-! ### The canonical form -/

/-- The form above a bound holds above a lower one. -/
theorem wfFrom_mono {lo hi : Nat} (h : lo ≤ hi) : ∀ {m : List Host.Cell}, Mem.wfFrom hi m = true → Mem.wfFrom lo m = true
  | [], _ => rfl
  | c :: cs, hw => by
    simp only [Mem.wfFrom, Bool.and_eq_true, decide_eq_true_eq] at hw ⊢
    exact ⟨⟨by omega, hw.1.2⟩, hw.2⟩

/-- A write of a byte keeps the form, above a bound that its address reaches. -/
theorem write_wfFrom {b : Byte} : ∀ {m : List Host.Cell} {lo a : Nat}, lo ≤ a → Mem.wfFrom lo m = true → Mem.wfFrom lo (Mem.write m a b) = true
  | [], lo, a, h, _ => by
    unfold Mem.write
    split
    · rfl
    · simp only [Mem.wfFrom, Bool.and_eq_true, decide_eq_true_eq]; exact ⟨⟨h, by assumption⟩, trivial⟩
  | c :: cs, lo, a, h, hw => by
    have hw' := hw
    simp only [Mem.wfFrom, Bool.and_eq_true, decide_eq_true_eq] at hw
    unfold Mem.write
    split
    · split
      · exact hw'
      · rename_i hlt hb
        simp only [Mem.wfFrom, Bool.and_eq_true, decide_eq_true_eq]
        exact ⟨⟨h, hb⟩, ⟨by omega, hw.1.2⟩, hw.2⟩
    · split
      · split
        · exact wfFrom_mono (by omega) hw.2
        · rename_i heq hb
          simp only [Mem.wfFrom, Bool.and_eq_true, decide_eq_true_eq]
          exact ⟨⟨h, hb⟩, heq ▸ hw.2⟩
      · rename_i hlt hne
        simp only [Mem.wfFrom, Bool.and_eq_true, decide_eq_true_eq]
        exact ⟨hw.1, write_wfFrom (by omega) hw.2⟩

/-- A write of a byte keeps the canonical form. -/
@[simp] theorem write_wf {m : List Host.Cell} {a : Nat} {b : Byte} (h : Mem.wf m = true) : Mem.wf (Mem.write m a b) = true :=
  write_wfFrom (Nat.zero_le a) h

/-- A write of bytes keeps the canonical form. -/
@[simp] theorem writeN_wf : ∀ {bs : List Byte} {m : List Host.Cell} {a : Nat}, Mem.wf m = true → Mem.wf (Mem.writeN m a bs) = true
  | [], _, _, h => h
  | _ :: bs, _, _, h => writeN_wf (bs := bs) (write_wf h)

/-- A fill keeps the form above a bound. -/
theorem clear_wfFrom {p : Nat → Bool} : ∀ {m : List Host.Cell} {lo : Nat}, Mem.wfFrom lo m = true → Mem.wfFrom lo (Mem.clear p m) = true
  | [], _, _ => rfl
  | c :: cs, lo, hw => by
    simp only [Mem.wfFrom, Bool.and_eq_true, decide_eq_true_eq] at hw
    have ih := clear_wfFrom (p := p) hw.2
    unfold Mem.clear at ih ⊢
    rw [List.filter_cons]
    split
    · simp only [Mem.wfFrom, Bool.and_eq_true, decide_eq_true_eq]; exact ⟨hw.1, ih⟩
    · exact wfFrom_mono (by omega) ih

/-- A fill keeps the canonical form. -/
@[simp] theorem clear_wf {p : Nat → Bool} {m : List Host.Cell} (h : Mem.wf m = true) : Mem.wf (Mem.clear p m) = true := clear_wfFrom h

/-- A fold of writes keeps the canonical form. -/
theorem foldl_wf {α : Type} (g : List Host.Cell → α → List Host.Cell) (hg : ∀ m a, Mem.wf m = true → Mem.wf (g m a) = true) :
    ∀ (l : List α) (m : List Host.Cell), Mem.wf m = true → Mem.wf (l.foldl g m) = true
  | [], _, h => h
  | a :: l, m, h => foldl_wf g hg l (g m a) (hg m a h)

/-- Bytes written to a ring keep the canonical form. -/
@[simp] theorem ringWrite_wf (s : State) (i k : Nat) : ∀ {bs : List Byte} {p : Nat} {m : List Host.Cell}, Mem.wf m = true →
    Mem.wf (ringWrite s i k p bs m) = true
  | [], _, _, h => h
  | _ :: bs, _, _, h => ringWrite_wf s i k (bs := bs) (foldl_wf _ (fun _ _ hm => write_wf hm) _ _ h)

/-- Memory after reset is in canonical form. -/
theorem reset_mem_wf : Mem.wf State.reset.mem = true := rfl

/-! ### What a read gives -/

/-- Below every listed address memory reads as blank. -/
theorem read_below : ∀ {m : List Host.Cell} {lo a : Nat}, a < lo → Mem.wfFrom lo m = true → Mem.read m a = Mem.blank
  | [], _, _, _, _ => rfl
  | c :: cs, lo, a, h, hw => by
    simp only [Mem.wfFrom, Bool.and_eq_true, decide_eq_true_eq] at hw
    have hne : ¬ c.1 = a := by omega
    simp only [Mem.read, hne, if_false]
    exact read_below (by omega) hw.2

/-- A byte reads as it was written, above a bound. -/
theorem read_write_same_from {b : Byte} : ∀ {m : List Host.Cell} {lo a : Nat}, Mem.wfFrom lo m = true → Mem.read (Mem.write m a b) a = b
  | [], _, _, _ => by unfold Mem.write; split <;> simp_all [Mem.read]
  | c :: cs, lo, a, hw => by
    have hw' := hw
    simp only [Mem.wfFrom, Bool.and_eq_true, decide_eq_true_eq] at hw
    unfold Mem.write
    split
    · split
      · rename_i hlt hb
        have hne : ¬ c.1 = a := by omega
        simp only [Mem.read, hne, if_false, hb]
        exact read_below (by omega) hw.2
      · simp [Mem.read]
    · split
      · split
        · rename_i heq hb
          rw [hb]; exact read_below (by omega) hw.2
        · simp [Mem.read]
      · rename_i hlt hne
        have hne' : ¬ c.1 = a := fun h => hne h.symm
        simp only [Mem.read, hne', if_false]
        exact read_write_same_from hw.2

/-- A byte reads as it was written. -/
theorem read_write_same {m : List Host.Cell} {a : Nat} {b : Byte} (h : Mem.wf m = true) : Mem.read (Mem.write m a b) a = b :=
  read_write_same_from h

/-- A write leaves every other address alone. -/
theorem read_write_other {b : Byte} : ∀ {m : List Host.Cell} {a x : Nat}, x ≠ a → Mem.read (Mem.write m a b) x = Mem.read m x
  | [], a, x, h => by
    unfold Mem.write
    split
    · rfl
    · have : ¬ a = x := fun e => h e.symm
      simp [Mem.read, this]
  | c :: cs, a, x, h => by
    have hax : ¬ a = x := fun e => h e.symm
    unfold Mem.write
    split
    · split
      · rfl
      · simp [Mem.read, hax]
    · split
      · rename_i heq
        have hcx : ¬ c.1 = x := fun e => h (by omega)
        split
        · simp [Mem.read, hcx]
        · simp [Mem.read, hax, hcx]
      · simp only [Mem.read]
        split
        · rfl
        · exact read_write_other h

/-- A write of bytes leaves every address outside them alone. -/
theorem read_writeN_other : ∀ {bs : List Byte} {m : List Host.Cell} {a x : Nat}, (x < a ∨ a + bs.length ≤ x) →
    Mem.read (Mem.writeN m a bs) x = Mem.read m x
  | [], _, _, _, _ => rfl
  | b :: bs, m, a, x, h => by
    simp only [List.length_cons] at h
    simp only [Mem.writeN]
    rw [read_writeN_other (by omega), read_write_other (by omega)]

/-- Bytes read as they were written. -/
theorem read_writeN_same : ∀ {bs : List Byte} {m : List Host.Cell} {a i : Nat} (_ : Mem.wf m = true) (hi : i < bs.length),
    Mem.read (Mem.writeN m a bs) (a + i) = bs[i]
  | b :: bs, m, a, 0, h, _ => by
    simp only [Mem.writeN, Nat.add_zero, List.getElem_cons_zero]
    rw [read_writeN_other (Or.inl (by omega)), read_write_same h]
  | b :: bs, m, a, i + 1, h, hi => by
    simp only [List.length_cons] at hi
    simp only [Mem.writeN, List.getElem_cons_succ]
    have := read_writeN_same (bs := bs) (m := Mem.write m a b) (a := a + 1) (i := i) (write_wf h) (by omega)
    rw [show a + (i + 1) = a + 1 + i by omega]
    exact this

/-- The length of what is read. -/
@[simp] theorem readN_length (m : List Host.Cell) : ∀ (n a : Nat), (Mem.readN m n a).length = n
  | 0, _ => rfl
  | n + 1, a => by simp [Mem.readN, readN_length m n (a + 1)]

end Sys2Proof.Machine
end

