-- ==== Sys2Proof/Laws/State.lean ====
section
/-! SUPPORT. The updates of State: what each leaves in every field, so that no proof unfolds a record update; and the list
operations they are made of. -/

namespace Sys2Proof.Machine

/-! ### Lists -/

/-- A changed list keeps its length. -/
@[simp] theorem length_modAt {α : Type} (f : α → α) : ∀ (i : Nat) (l : List α), (modAt f i l).length = l.length
  | _, [] => by simp [modAt]
  | 0, _ :: _ => rfl
  | i + 1, _ :: xs => congrArg (· + 1) (length_modAt f i xs)

/-- What stands at a place of a changed list. -/
theorem getElem?_modAt {α : Type} (f : α → α) : ∀ (i j : Nat) (l : List α), (modAt f i l)[j]? = if i = j then l[j]?.map f else l[j]?
  | _, _, [] => by simp [modAt]
  | 0, 0, _ :: _ => by simp [modAt]
  | 0, _ + 1, _ :: _ => by simp [modAt]
  | _ + 1, 0, _ :: _ => by simp [modAt]
  | i + 1, j + 1, _ :: xs => by simpa [modAt] using getElem?_modAt f i j xs

/-- The changed place. -/
theorem getElem?_modAt_same {α : Type} {f : α → α} {i : Nat} {l : List α} {x : α} (h : l[i]? = some x) : (modAt f i l)[i]? = some (f x) := by
  simp [getElem?_modAt, h]

/-- Another place. -/
@[simp] theorem getElem?_modAt_other {α : Type} {f : α → α} {i j : Nat} {l : List α} (h : j ≠ i) : (modAt f i l)[j]? = l[j]? := by
  simp [getElem?_modAt, h.symm]

/-- The changed place, with a default. -/
theorem getD_modAt_same {α : Type} {f : α → α} {i : Nat} {l : List α} {x d : α} (h : l[i]? = some x) : (modAt f i l).getD i d = f x := by
  simp [List.getD_eq_getElem?_getD, getElem?_modAt_same h]

/-- Another place, with a default. -/
theorem getD_modAt_other {α : Type} {f : α → α} {i j : Nat} {l : List α} {d : α} (h : j ≠ i) :
    (modAt f i l).getD j d = l.getD j d := by
  simp [List.getD_eq_getElem?_getD, h]

/-- An indexed map keeps the length. -/
@[simp] theorem length_mapIx {α β : Type} (f : Nat → α → β) : ∀ (i : Nat) (l : List α), (mapIx f i l).length = l.length
  | _, [] => rfl
  | i, _ :: xs => congrArg (· + 1) (length_mapIx f (i + 1) xs)

/-- What stands at a place of an indexed map. -/
theorem getElem?_mapIx {α β : Type} (f : Nat → α → β) : ∀ (i j : Nat) (l : List α), (mapIx f i l)[j]? = l[j]?.map (f (i + j))
  | _, _, [] => by simp [mapIx]
  | i, 0, _ :: _ => by simp [mapIx]
  | i, j + 1, _ :: xs => by
    have h := getElem?_mapIx f (i + 1) j xs
    have e : i + 1 + j = i + (j + 1) := by omega
    simpa [mapIx, e] using h

/-- The bytes of a number are as many as asked for. -/
@[simp] theorem length_leBytes : ∀ (n v : Nat), (leBytes n v).length = n
  | 0, _ => rfl
  | n + 1, v => by simp [leBytes, length_leBytes n]

/-! ### State.modClu -/
@[simp] theorem modClu_clusters (c : Nat) (f : Cluster → Cluster) (s : State) :
    (s.modClu c f).clusters = modAt f c s.clusters := rfl
@[simp] theorem modClu_pending (c : Nat) (f : Cluster → Cluster) (s : State) : (s.modClu c f).pending = s.pending := rfl
@[simp] theorem modClu_freeIx (c : Nat) (f : Cluster → Cluster) (s : State) : (s.modClu c f).freeIx = s.freeIx := rfl
@[simp] theorem modClu_sys (c : Nat) (f : Cluster → Cluster) (s : State) : (s.modClu c f).sys = s.sys := rfl
@[simp] theorem modClu_power (c : Nat) (f : Cluster → Cluster) (s : State) : (s.modClu c f).power = s.power := rfl
@[simp] theorem modClu_spares (c : Nat) (f : Cluster → Cluster) (s : State) : (s.modClu c f).spares = s.spares := rfl
@[simp] theorem modClu_islands (c : Nat) (f : Cluster → Cluster) (s : State) : (s.modClu c f).islands = s.islands := rfl
@[simp] theorem modClu_fab (c : Nat) (f : Cluster → Cluster) (s : State) : (s.modClu c f).fab = s.fab := rfl
@[simp] theorem modClu_time (c : Nat) (f : Cluster → Cluster) (s : State) : (s.modClu c f).time = s.time := rfl
@[simp] theorem modClu_net (c : Nat) (f : Cluster → Cluster) (s : State) : (s.modClu c f).net = s.net := rfl
@[simp] theorem modClu_hosts (c : Nat) (f : Cluster → Cluster) (s : State) : (s.modClu c f).hosts = s.hosts := rfl
@[simp] theorem modClu_evt (c : Nat) (f : Cluster → Cluster) (s : State) : (s.modClu c f).evt = s.evt := rfl
@[simp] theorem modClu_braid (c : Nat) (f : Cluster → Cluster) (s : State) : (s.modClu c f).braid = s.braid := rfl
@[simp] theorem modClu_dma (c : Nat) (f : Cluster → Cluster) (s : State) : (s.modClu c f).dma = s.dma := rfl
@[simp] theorem modClu_hkc (c : Nat) (f : Cluster → Cluster) (s : State) : (s.modClu c f).hkc = s.hkc := rfl
@[simp] theorem modClu_thm (c : Nat) (f : Cluster → Cluster) (s : State) : (s.modClu c f).thm = s.thm := rfl
@[simp] theorem modClu_rcd (c : Nat) (f : Cluster → Cluster) (s : State) : (s.modClu c f).rcd = s.rcd := rfl
@[simp] theorem modClu_shadows (c : Nat) (f : Cluster → Cluster) (s : State) : (s.modClu c f).shadows = s.shadows := rfl
@[simp] theorem modClu_latches (c : Nat) (f : Cluster → Cluster) (s : State) : (s.modClu c f).latches = s.latches := rfl
@[simp] theorem modClu_mem (c : Nat) (f : Cluster → Cluster) (s : State) : (s.modClu c f).mem = s.mem := rfl

/-! ### State.mapClu -/
@[simp] theorem mapClu_clusters (f : Nat → Cluster → Cluster) (s : State) :
    (s.mapClu f).clusters = mapIx f 0 s.clusters := rfl
@[simp] theorem mapClu_pending (f : Nat → Cluster → Cluster) (s : State) : (s.mapClu f).pending = s.pending := rfl
@[simp] theorem mapClu_freeIx (f : Nat → Cluster → Cluster) (s : State) : (s.mapClu f).freeIx = s.freeIx := rfl
@[simp] theorem mapClu_sys (f : Nat → Cluster → Cluster) (s : State) : (s.mapClu f).sys = s.sys := rfl
@[simp] theorem mapClu_power (f : Nat → Cluster → Cluster) (s : State) : (s.mapClu f).power = s.power := rfl
@[simp] theorem mapClu_spares (f : Nat → Cluster → Cluster) (s : State) : (s.mapClu f).spares = s.spares := rfl
@[simp] theorem mapClu_islands (f : Nat → Cluster → Cluster) (s : State) : (s.mapClu f).islands = s.islands := rfl
@[simp] theorem mapClu_fab (f : Nat → Cluster → Cluster) (s : State) : (s.mapClu f).fab = s.fab := rfl
@[simp] theorem mapClu_time (f : Nat → Cluster → Cluster) (s : State) : (s.mapClu f).time = s.time := rfl
@[simp] theorem mapClu_net (f : Nat → Cluster → Cluster) (s : State) : (s.mapClu f).net = s.net := rfl
@[simp] theorem mapClu_hosts (f : Nat → Cluster → Cluster) (s : State) : (s.mapClu f).hosts = s.hosts := rfl
@[simp] theorem mapClu_evt (f : Nat → Cluster → Cluster) (s : State) : (s.mapClu f).evt = s.evt := rfl
@[simp] theorem mapClu_braid (f : Nat → Cluster → Cluster) (s : State) : (s.mapClu f).braid = s.braid := rfl
@[simp] theorem mapClu_dma (f : Nat → Cluster → Cluster) (s : State) : (s.mapClu f).dma = s.dma := rfl
@[simp] theorem mapClu_hkc (f : Nat → Cluster → Cluster) (s : State) : (s.mapClu f).hkc = s.hkc := rfl
@[simp] theorem mapClu_thm (f : Nat → Cluster → Cluster) (s : State) : (s.mapClu f).thm = s.thm := rfl
@[simp] theorem mapClu_rcd (f : Nat → Cluster → Cluster) (s : State) : (s.mapClu f).rcd = s.rcd := rfl
@[simp] theorem mapClu_shadows (f : Nat → Cluster → Cluster) (s : State) : (s.mapClu f).shadows = s.shadows := rfl
@[simp] theorem mapClu_latches (f : Nat → Cluster → Cluster) (s : State) : (s.mapClu f).latches = s.latches := rfl
@[simp] theorem mapClu_mem (f : Nat → Cluster → Cluster) (s : State) : (s.mapClu f).mem = s.mem := rfl

/-! ### State.modCell -/
@[simp] theorem modCell_clusters (n : Nat) (f : Cell → Cell) (s : State) :
    (s.modCell n f).clusters = modAt (Cluster.modCell (n % 32) f) (n / 32) s.clusters := rfl
@[simp] theorem modCell_pending (n : Nat) (f : Cell → Cell) (s : State) : (s.modCell n f).pending = s.pending := rfl
@[simp] theorem modCell_freeIx (n : Nat) (f : Cell → Cell) (s : State) : (s.modCell n f).freeIx = s.freeIx := rfl
@[simp] theorem modCell_sys (n : Nat) (f : Cell → Cell) (s : State) : (s.modCell n f).sys = s.sys := rfl
@[simp] theorem modCell_power (n : Nat) (f : Cell → Cell) (s : State) : (s.modCell n f).power = s.power := rfl
@[simp] theorem modCell_spares (n : Nat) (f : Cell → Cell) (s : State) : (s.modCell n f).spares = s.spares := rfl
@[simp] theorem modCell_islands (n : Nat) (f : Cell → Cell) (s : State) : (s.modCell n f).islands = s.islands := rfl
@[simp] theorem modCell_fab (n : Nat) (f : Cell → Cell) (s : State) : (s.modCell n f).fab = s.fab := rfl
@[simp] theorem modCell_time (n : Nat) (f : Cell → Cell) (s : State) : (s.modCell n f).time = s.time := rfl
@[simp] theorem modCell_net (n : Nat) (f : Cell → Cell) (s : State) : (s.modCell n f).net = s.net := rfl
@[simp] theorem modCell_hosts (n : Nat) (f : Cell → Cell) (s : State) : (s.modCell n f).hosts = s.hosts := rfl
@[simp] theorem modCell_evt (n : Nat) (f : Cell → Cell) (s : State) : (s.modCell n f).evt = s.evt := rfl
@[simp] theorem modCell_braid (n : Nat) (f : Cell → Cell) (s : State) : (s.modCell n f).braid = s.braid := rfl
@[simp] theorem modCell_dma (n : Nat) (f : Cell → Cell) (s : State) : (s.modCell n f).dma = s.dma := rfl
@[simp] theorem modCell_hkc (n : Nat) (f : Cell → Cell) (s : State) : (s.modCell n f).hkc = s.hkc := rfl
@[simp] theorem modCell_thm (n : Nat) (f : Cell → Cell) (s : State) : (s.modCell n f).thm = s.thm := rfl
@[simp] theorem modCell_rcd (n : Nat) (f : Cell → Cell) (s : State) : (s.modCell n f).rcd = s.rcd := rfl
@[simp] theorem modCell_shadows (n : Nat) (f : Cell → Cell) (s : State) : (s.modCell n f).shadows = s.shadows := rfl
@[simp] theorem modCell_latches (n : Nat) (f : Cell → Cell) (s : State) : (s.modCell n f).latches = s.latches := rfl
@[simp] theorem modCell_mem (n : Nat) (f : Cell → Cell) (s : State) : (s.modCell n f).mem = s.mem := rfl

/-! ### State.modSpare -/
@[simp] theorem modSpare_spares (r : Nat) (f : Spare → Spare) (s : State) :
    (s.modSpare r f).spares = modAt f r s.spares := rfl
@[simp] theorem modSpare_pending (r : Nat) (f : Spare → Spare) (s : State) : (s.modSpare r f).pending = s.pending := rfl
@[simp] theorem modSpare_freeIx (r : Nat) (f : Spare → Spare) (s : State) : (s.modSpare r f).freeIx = s.freeIx := rfl
@[simp] theorem modSpare_sys (r : Nat) (f : Spare → Spare) (s : State) : (s.modSpare r f).sys = s.sys := rfl
@[simp] theorem modSpare_power (r : Nat) (f : Spare → Spare) (s : State) : (s.modSpare r f).power = s.power := rfl
@[simp] theorem modSpare_clusters (r : Nat) (f : Spare → Spare) (s : State) : (s.modSpare r f).clusters = s.clusters := rfl
@[simp] theorem modSpare_islands (r : Nat) (f : Spare → Spare) (s : State) : (s.modSpare r f).islands = s.islands := rfl
@[simp] theorem modSpare_fab (r : Nat) (f : Spare → Spare) (s : State) : (s.modSpare r f).fab = s.fab := rfl
@[simp] theorem modSpare_time (r : Nat) (f : Spare → Spare) (s : State) : (s.modSpare r f).time = s.time := rfl
@[simp] theorem modSpare_net (r : Nat) (f : Spare → Spare) (s : State) : (s.modSpare r f).net = s.net := rfl
@[simp] theorem modSpare_hosts (r : Nat) (f : Spare → Spare) (s : State) : (s.modSpare r f).hosts = s.hosts := rfl
@[simp] theorem modSpare_evt (r : Nat) (f : Spare → Spare) (s : State) : (s.modSpare r f).evt = s.evt := rfl
@[simp] theorem modSpare_braid (r : Nat) (f : Spare → Spare) (s : State) : (s.modSpare r f).braid = s.braid := rfl
@[simp] theorem modSpare_dma (r : Nat) (f : Spare → Spare) (s : State) : (s.modSpare r f).dma = s.dma := rfl
@[simp] theorem modSpare_hkc (r : Nat) (f : Spare → Spare) (s : State) : (s.modSpare r f).hkc = s.hkc := rfl
@[simp] theorem modSpare_thm (r : Nat) (f : Spare → Spare) (s : State) : (s.modSpare r f).thm = s.thm := rfl
@[simp] theorem modSpare_rcd (r : Nat) (f : Spare → Spare) (s : State) : (s.modSpare r f).rcd = s.rcd := rfl
@[simp] theorem modSpare_shadows (r : Nat) (f : Spare → Spare) (s : State) : (s.modSpare r f).shadows = s.shadows := rfl
@[simp] theorem modSpare_latches (r : Nat) (f : Spare → Spare) (s : State) : (s.modSpare r f).latches = s.latches := rfl
@[simp] theorem modSpare_mem (r : Nat) (f : Spare → Spare) (s : State) : (s.modSpare r f).mem = s.mem := rfl

/-! ### State.modIsland -/
@[simp] theorem modIsland_islands (r : Nat) (f : Island → Island) (s : State) :
    (s.modIsland r f).islands = modAt f r s.islands := rfl
@[simp] theorem modIsland_pending (r : Nat) (f : Island → Island) (s : State) : (s.modIsland r f).pending = s.pending := rfl
@[simp] theorem modIsland_freeIx (r : Nat) (f : Island → Island) (s : State) : (s.modIsland r f).freeIx = s.freeIx := rfl
@[simp] theorem modIsland_sys (r : Nat) (f : Island → Island) (s : State) : (s.modIsland r f).sys = s.sys := rfl
@[simp] theorem modIsland_power (r : Nat) (f : Island → Island) (s : State) : (s.modIsland r f).power = s.power := rfl
@[simp] theorem modIsland_clusters (r : Nat) (f : Island → Island) (s : State) : (s.modIsland r f).clusters = s.clusters := rfl
@[simp] theorem modIsland_spares (r : Nat) (f : Island → Island) (s : State) : (s.modIsland r f).spares = s.spares := rfl
@[simp] theorem modIsland_fab (r : Nat) (f : Island → Island) (s : State) : (s.modIsland r f).fab = s.fab := rfl
@[simp] theorem modIsland_time (r : Nat) (f : Island → Island) (s : State) : (s.modIsland r f).time = s.time := rfl
@[simp] theorem modIsland_net (r : Nat) (f : Island → Island) (s : State) : (s.modIsland r f).net = s.net := rfl
@[simp] theorem modIsland_hosts (r : Nat) (f : Island → Island) (s : State) : (s.modIsland r f).hosts = s.hosts := rfl
@[simp] theorem modIsland_evt (r : Nat) (f : Island → Island) (s : State) : (s.modIsland r f).evt = s.evt := rfl
@[simp] theorem modIsland_braid (r : Nat) (f : Island → Island) (s : State) : (s.modIsland r f).braid = s.braid := rfl
@[simp] theorem modIsland_dma (r : Nat) (f : Island → Island) (s : State) : (s.modIsland r f).dma = s.dma := rfl
@[simp] theorem modIsland_hkc (r : Nat) (f : Island → Island) (s : State) : (s.modIsland r f).hkc = s.hkc := rfl
@[simp] theorem modIsland_thm (r : Nat) (f : Island → Island) (s : State) : (s.modIsland r f).thm = s.thm := rfl
@[simp] theorem modIsland_rcd (r : Nat) (f : Island → Island) (s : State) : (s.modIsland r f).rcd = s.rcd := rfl
@[simp] theorem modIsland_shadows (r : Nat) (f : Island → Island) (s : State) : (s.modIsland r f).shadows = s.shadows := rfl
@[simp] theorem modIsland_latches (r : Nat) (f : Island → Island) (s : State) : (s.modIsland r f).latches = s.latches := rfl
@[simp] theorem modIsland_mem (r : Nat) (f : Island → Island) (s : State) : (s.modIsland r f).mem = s.mem := rfl

/-! ### State.modHost -/
@[simp] theorem modHost_hosts (p : Nat) (f : HostPort → HostPort) (s : State) :
    (s.modHost p f).hosts = modAt f p s.hosts := rfl
@[simp] theorem modHost_pending (p : Nat) (f : HostPort → HostPort) (s : State) : (s.modHost p f).pending = s.pending := rfl
@[simp] theorem modHost_freeIx (p : Nat) (f : HostPort → HostPort) (s : State) : (s.modHost p f).freeIx = s.freeIx := rfl
@[simp] theorem modHost_sys (p : Nat) (f : HostPort → HostPort) (s : State) : (s.modHost p f).sys = s.sys := rfl
@[simp] theorem modHost_power (p : Nat) (f : HostPort → HostPort) (s : State) : (s.modHost p f).power = s.power := rfl
@[simp] theorem modHost_clusters (p : Nat) (f : HostPort → HostPort) (s : State) : (s.modHost p f).clusters = s.clusters := rfl
@[simp] theorem modHost_spares (p : Nat) (f : HostPort → HostPort) (s : State) : (s.modHost p f).spares = s.spares := rfl
@[simp] theorem modHost_islands (p : Nat) (f : HostPort → HostPort) (s : State) : (s.modHost p f).islands = s.islands := rfl
@[simp] theorem modHost_fab (p : Nat) (f : HostPort → HostPort) (s : State) : (s.modHost p f).fab = s.fab := rfl
@[simp] theorem modHost_time (p : Nat) (f : HostPort → HostPort) (s : State) : (s.modHost p f).time = s.time := rfl
@[simp] theorem modHost_net (p : Nat) (f : HostPort → HostPort) (s : State) : (s.modHost p f).net = s.net := rfl
@[simp] theorem modHost_evt (p : Nat) (f : HostPort → HostPort) (s : State) : (s.modHost p f).evt = s.evt := rfl
@[simp] theorem modHost_braid (p : Nat) (f : HostPort → HostPort) (s : State) : (s.modHost p f).braid = s.braid := rfl
@[simp] theorem modHost_dma (p : Nat) (f : HostPort → HostPort) (s : State) : (s.modHost p f).dma = s.dma := rfl
@[simp] theorem modHost_hkc (p : Nat) (f : HostPort → HostPort) (s : State) : (s.modHost p f).hkc = s.hkc := rfl
@[simp] theorem modHost_thm (p : Nat) (f : HostPort → HostPort) (s : State) : (s.modHost p f).thm = s.thm := rfl
@[simp] theorem modHost_rcd (p : Nat) (f : HostPort → HostPort) (s : State) : (s.modHost p f).rcd = s.rcd := rfl
@[simp] theorem modHost_shadows (p : Nat) (f : HostPort → HostPort) (s : State) : (s.modHost p f).shadows = s.shadows := rfl
@[simp] theorem modHost_latches (p : Nat) (f : HostPort → HostPort) (s : State) : (s.modHost p f).latches = s.latches := rfl
@[simp] theorem modHost_mem (p : Nat) (f : HostPort → HostPort) (s : State) : (s.modHost p f).mem = s.mem := rfl

/-! ### State.modChan -/
@[simp] theorem modChan_evt (k : Nat) (f : Chan → Chan) (s : State) :
    (s.modChan k f).evt = { s.evt with chans := modAt f k s.evt.chans } := rfl
@[simp] theorem modChan_pending (k : Nat) (f : Chan → Chan) (s : State) : (s.modChan k f).pending = s.pending := rfl
@[simp] theorem modChan_freeIx (k : Nat) (f : Chan → Chan) (s : State) : (s.modChan k f).freeIx = s.freeIx := rfl
@[simp] theorem modChan_sys (k : Nat) (f : Chan → Chan) (s : State) : (s.modChan k f).sys = s.sys := rfl
@[simp] theorem modChan_power (k : Nat) (f : Chan → Chan) (s : State) : (s.modChan k f).power = s.power := rfl
@[simp] theorem modChan_clusters (k : Nat) (f : Chan → Chan) (s : State) : (s.modChan k f).clusters = s.clusters := rfl
@[simp] theorem modChan_spares (k : Nat) (f : Chan → Chan) (s : State) : (s.modChan k f).spares = s.spares := rfl
@[simp] theorem modChan_islands (k : Nat) (f : Chan → Chan) (s : State) : (s.modChan k f).islands = s.islands := rfl
@[simp] theorem modChan_fab (k : Nat) (f : Chan → Chan) (s : State) : (s.modChan k f).fab = s.fab := rfl
@[simp] theorem modChan_time (k : Nat) (f : Chan → Chan) (s : State) : (s.modChan k f).time = s.time := rfl
@[simp] theorem modChan_net (k : Nat) (f : Chan → Chan) (s : State) : (s.modChan k f).net = s.net := rfl
@[simp] theorem modChan_hosts (k : Nat) (f : Chan → Chan) (s : State) : (s.modChan k f).hosts = s.hosts := rfl
@[simp] theorem modChan_braid (k : Nat) (f : Chan → Chan) (s : State) : (s.modChan k f).braid = s.braid := rfl
@[simp] theorem modChan_dma (k : Nat) (f : Chan → Chan) (s : State) : (s.modChan k f).dma = s.dma := rfl
@[simp] theorem modChan_hkc (k : Nat) (f : Chan → Chan) (s : State) : (s.modChan k f).hkc = s.hkc := rfl
@[simp] theorem modChan_thm (k : Nat) (f : Chan → Chan) (s : State) : (s.modChan k f).thm = s.thm := rfl
@[simp] theorem modChan_rcd (k : Nat) (f : Chan → Chan) (s : State) : (s.modChan k f).rcd = s.rcd := rfl
@[simp] theorem modChan_shadows (k : Nat) (f : Chan → Chan) (s : State) : (s.modChan k f).shadows = s.shadows := rfl
@[simp] theorem modChan_latches (k : Nat) (f : Chan → Chan) (s : State) : (s.modChan k f).latches = s.latches := rfl
@[simp] theorem modChan_mem (k : Nat) (f : Chan → Chan) (s : State) : (s.modChan k f).mem = s.mem := rfl

/-! ### State.modCon -/
@[simp] theorem modCon_evt (x : Nat) (f : Con → Con) (s : State) :
    (s.modCon x f).evt = { s.evt with cons := modAt f x s.evt.cons } := rfl
@[simp] theorem modCon_pending (x : Nat) (f : Con → Con) (s : State) : (s.modCon x f).pending = s.pending := rfl
@[simp] theorem modCon_freeIx (x : Nat) (f : Con → Con) (s : State) : (s.modCon x f).freeIx = s.freeIx := rfl
@[simp] theorem modCon_sys (x : Nat) (f : Con → Con) (s : State) : (s.modCon x f).sys = s.sys := rfl
@[simp] theorem modCon_power (x : Nat) (f : Con → Con) (s : State) : (s.modCon x f).power = s.power := rfl
@[simp] theorem modCon_clusters (x : Nat) (f : Con → Con) (s : State) : (s.modCon x f).clusters = s.clusters := rfl
@[simp] theorem modCon_spares (x : Nat) (f : Con → Con) (s : State) : (s.modCon x f).spares = s.spares := rfl
@[simp] theorem modCon_islands (x : Nat) (f : Con → Con) (s : State) : (s.modCon x f).islands = s.islands := rfl
@[simp] theorem modCon_fab (x : Nat) (f : Con → Con) (s : State) : (s.modCon x f).fab = s.fab := rfl
@[simp] theorem modCon_time (x : Nat) (f : Con → Con) (s : State) : (s.modCon x f).time = s.time := rfl
@[simp] theorem modCon_net (x : Nat) (f : Con → Con) (s : State) : (s.modCon x f).net = s.net := rfl
@[simp] theorem modCon_hosts (x : Nat) (f : Con → Con) (s : State) : (s.modCon x f).hosts = s.hosts := rfl
@[simp] theorem modCon_braid (x : Nat) (f : Con → Con) (s : State) : (s.modCon x f).braid = s.braid := rfl
@[simp] theorem modCon_dma (x : Nat) (f : Con → Con) (s : State) : (s.modCon x f).dma = s.dma := rfl
@[simp] theorem modCon_hkc (x : Nat) (f : Con → Con) (s : State) : (s.modCon x f).hkc = s.hkc := rfl
@[simp] theorem modCon_thm (x : Nat) (f : Con → Con) (s : State) : (s.modCon x f).thm = s.thm := rfl
@[simp] theorem modCon_rcd (x : Nat) (f : Con → Con) (s : State) : (s.modCon x f).rcd = s.rcd := rfl
@[simp] theorem modCon_shadows (x : Nat) (f : Con → Con) (s : State) : (s.modCon x f).shadows = s.shadows := rfl
@[simp] theorem modCon_latches (x : Nat) (f : Con → Con) (s : State) : (s.modCon x f).latches = s.latches := rfl
@[simp] theorem modCon_mem (x : Nat) (f : Con → Con) (s : State) : (s.modCon x f).mem = s.mem := rfl

/-! ### State.modPin -/
@[simp] theorem modPin_evt (n : Nat) (f : Gpio → Gpio) (s : State) :
    (s.modPin n f).evt = { s.evt with gpio := modAt f n s.evt.gpio } := rfl
@[simp] theorem modPin_pending (n : Nat) (f : Gpio → Gpio) (s : State) : (s.modPin n f).pending = s.pending := rfl
@[simp] theorem modPin_freeIx (n : Nat) (f : Gpio → Gpio) (s : State) : (s.modPin n f).freeIx = s.freeIx := rfl
@[simp] theorem modPin_sys (n : Nat) (f : Gpio → Gpio) (s : State) : (s.modPin n f).sys = s.sys := rfl
@[simp] theorem modPin_power (n : Nat) (f : Gpio → Gpio) (s : State) : (s.modPin n f).power = s.power := rfl
@[simp] theorem modPin_clusters (n : Nat) (f : Gpio → Gpio) (s : State) : (s.modPin n f).clusters = s.clusters := rfl
@[simp] theorem modPin_spares (n : Nat) (f : Gpio → Gpio) (s : State) : (s.modPin n f).spares = s.spares := rfl
@[simp] theorem modPin_islands (n : Nat) (f : Gpio → Gpio) (s : State) : (s.modPin n f).islands = s.islands := rfl
@[simp] theorem modPin_fab (n : Nat) (f : Gpio → Gpio) (s : State) : (s.modPin n f).fab = s.fab := rfl
@[simp] theorem modPin_time (n : Nat) (f : Gpio → Gpio) (s : State) : (s.modPin n f).time = s.time := rfl
@[simp] theorem modPin_net (n : Nat) (f : Gpio → Gpio) (s : State) : (s.modPin n f).net = s.net := rfl
@[simp] theorem modPin_hosts (n : Nat) (f : Gpio → Gpio) (s : State) : (s.modPin n f).hosts = s.hosts := rfl
@[simp] theorem modPin_braid (n : Nat) (f : Gpio → Gpio) (s : State) : (s.modPin n f).braid = s.braid := rfl
@[simp] theorem modPin_dma (n : Nat) (f : Gpio → Gpio) (s : State) : (s.modPin n f).dma = s.dma := rfl
@[simp] theorem modPin_hkc (n : Nat) (f : Gpio → Gpio) (s : State) : (s.modPin n f).hkc = s.hkc := rfl
@[simp] theorem modPin_thm (n : Nat) (f : Gpio → Gpio) (s : State) : (s.modPin n f).thm = s.thm := rfl
@[simp] theorem modPin_rcd (n : Nat) (f : Gpio → Gpio) (s : State) : (s.modPin n f).rcd = s.rcd := rfl
@[simp] theorem modPin_shadows (n : Nat) (f : Gpio → Gpio) (s : State) : (s.modPin n f).shadows = s.shadows := rfl
@[simp] theorem modPin_latches (n : Nat) (f : Gpio → Gpio) (s : State) : (s.modPin n f).latches = s.latches := rfl
@[simp] theorem modPin_mem (n : Nat) (f : Gpio → Gpio) (s : State) : (s.modPin n f).mem = s.mem := rfl

/-! ### State.modCmp -/
@[simp] theorem modCmp_time (i : Nat) (f : Cmp → Cmp) (s : State) :
    (s.modCmp i f).time = { s.time with cmps := modAt f i s.time.cmps } := rfl
@[simp] theorem modCmp_pending (i : Nat) (f : Cmp → Cmp) (s : State) : (s.modCmp i f).pending = s.pending := rfl
@[simp] theorem modCmp_freeIx (i : Nat) (f : Cmp → Cmp) (s : State) : (s.modCmp i f).freeIx = s.freeIx := rfl
@[simp] theorem modCmp_sys (i : Nat) (f : Cmp → Cmp) (s : State) : (s.modCmp i f).sys = s.sys := rfl
@[simp] theorem modCmp_power (i : Nat) (f : Cmp → Cmp) (s : State) : (s.modCmp i f).power = s.power := rfl
@[simp] theorem modCmp_clusters (i : Nat) (f : Cmp → Cmp) (s : State) : (s.modCmp i f).clusters = s.clusters := rfl
@[simp] theorem modCmp_spares (i : Nat) (f : Cmp → Cmp) (s : State) : (s.modCmp i f).spares = s.spares := rfl
@[simp] theorem modCmp_islands (i : Nat) (f : Cmp → Cmp) (s : State) : (s.modCmp i f).islands = s.islands := rfl
@[simp] theorem modCmp_fab (i : Nat) (f : Cmp → Cmp) (s : State) : (s.modCmp i f).fab = s.fab := rfl
@[simp] theorem modCmp_net (i : Nat) (f : Cmp → Cmp) (s : State) : (s.modCmp i f).net = s.net := rfl
@[simp] theorem modCmp_hosts (i : Nat) (f : Cmp → Cmp) (s : State) : (s.modCmp i f).hosts = s.hosts := rfl
@[simp] theorem modCmp_evt (i : Nat) (f : Cmp → Cmp) (s : State) : (s.modCmp i f).evt = s.evt := rfl
@[simp] theorem modCmp_braid (i : Nat) (f : Cmp → Cmp) (s : State) : (s.modCmp i f).braid = s.braid := rfl
@[simp] theorem modCmp_dma (i : Nat) (f : Cmp → Cmp) (s : State) : (s.modCmp i f).dma = s.dma := rfl
@[simp] theorem modCmp_hkc (i : Nat) (f : Cmp → Cmp) (s : State) : (s.modCmp i f).hkc = s.hkc := rfl
@[simp] theorem modCmp_thm (i : Nat) (f : Cmp → Cmp) (s : State) : (s.modCmp i f).thm = s.thm := rfl
@[simp] theorem modCmp_rcd (i : Nat) (f : Cmp → Cmp) (s : State) : (s.modCmp i f).rcd = s.rcd := rfl
@[simp] theorem modCmp_shadows (i : Nat) (f : Cmp → Cmp) (s : State) : (s.modCmp i f).shadows = s.shadows := rfl
@[simp] theorem modCmp_latches (i : Nat) (f : Cmp → Cmp) (s : State) : (s.modCmp i f).latches = s.latches := rfl
@[simp] theorem modCmp_mem (i : Nat) (f : Cmp → Cmp) (s : State) : (s.modCmp i f).mem = s.mem := rfl

/-! ### State.modHkc -/
@[simp] theorem modHkc_hkc (f : Hkc → Hkc) (s : State) :
    (s.modHkc f).hkc = f s.hkc := rfl
@[simp] theorem modHkc_pending (f : Hkc → Hkc) (s : State) : (s.modHkc f).pending = s.pending := rfl
@[simp] theorem modHkc_freeIx (f : Hkc → Hkc) (s : State) : (s.modHkc f).freeIx = s.freeIx := rfl
@[simp] theorem modHkc_sys (f : Hkc → Hkc) (s : State) : (s.modHkc f).sys = s.sys := rfl
@[simp] theorem modHkc_power (f : Hkc → Hkc) (s : State) : (s.modHkc f).power = s.power := rfl
@[simp] theorem modHkc_clusters (f : Hkc → Hkc) (s : State) : (s.modHkc f).clusters = s.clusters := rfl
@[simp] theorem modHkc_spares (f : Hkc → Hkc) (s : State) : (s.modHkc f).spares = s.spares := rfl
@[simp] theorem modHkc_islands (f : Hkc → Hkc) (s : State) : (s.modHkc f).islands = s.islands := rfl
@[simp] theorem modHkc_fab (f : Hkc → Hkc) (s : State) : (s.modHkc f).fab = s.fab := rfl
@[simp] theorem modHkc_time (f : Hkc → Hkc) (s : State) : (s.modHkc f).time = s.time := rfl
@[simp] theorem modHkc_net (f : Hkc → Hkc) (s : State) : (s.modHkc f).net = s.net := rfl
@[simp] theorem modHkc_hosts (f : Hkc → Hkc) (s : State) : (s.modHkc f).hosts = s.hosts := rfl
@[simp] theorem modHkc_evt (f : Hkc → Hkc) (s : State) : (s.modHkc f).evt = s.evt := rfl
@[simp] theorem modHkc_braid (f : Hkc → Hkc) (s : State) : (s.modHkc f).braid = s.braid := rfl
@[simp] theorem modHkc_dma (f : Hkc → Hkc) (s : State) : (s.modHkc f).dma = s.dma := rfl
@[simp] theorem modHkc_thm (f : Hkc → Hkc) (s : State) : (s.modHkc f).thm = s.thm := rfl
@[simp] theorem modHkc_rcd (f : Hkc → Hkc) (s : State) : (s.modHkc f).rcd = s.rcd := rfl
@[simp] theorem modHkc_shadows (f : Hkc → Hkc) (s : State) : (s.modHkc f).shadows = s.shadows := rfl
@[simp] theorem modHkc_latches (f : Hkc → Hkc) (s : State) : (s.modHkc f).latches = s.latches := rfl
@[simp] theorem modHkc_mem (f : Hkc → Hkc) (s : State) : (s.modHkc f).mem = s.mem := rfl

/-! ### State.modCore -/
@[simp] theorem modCore_hkc (n : Nat) (f : HkcCore → HkcCore) (s : State) :
    (s.modCore n f).hkc = { s.hkc with cores := modAt f n s.hkc.cores } := rfl
@[simp] theorem modCore_pending (n : Nat) (f : HkcCore → HkcCore) (s : State) : (s.modCore n f).pending = s.pending := rfl
@[simp] theorem modCore_freeIx (n : Nat) (f : HkcCore → HkcCore) (s : State) : (s.modCore n f).freeIx = s.freeIx := rfl
@[simp] theorem modCore_sys (n : Nat) (f : HkcCore → HkcCore) (s : State) : (s.modCore n f).sys = s.sys := rfl
@[simp] theorem modCore_power (n : Nat) (f : HkcCore → HkcCore) (s : State) : (s.modCore n f).power = s.power := rfl
@[simp] theorem modCore_clusters (n : Nat) (f : HkcCore → HkcCore) (s : State) : (s.modCore n f).clusters = s.clusters := rfl
@[simp] theorem modCore_spares (n : Nat) (f : HkcCore → HkcCore) (s : State) : (s.modCore n f).spares = s.spares := rfl
@[simp] theorem modCore_islands (n : Nat) (f : HkcCore → HkcCore) (s : State) : (s.modCore n f).islands = s.islands := rfl
@[simp] theorem modCore_fab (n : Nat) (f : HkcCore → HkcCore) (s : State) : (s.modCore n f).fab = s.fab := rfl
@[simp] theorem modCore_time (n : Nat) (f : HkcCore → HkcCore) (s : State) : (s.modCore n f).time = s.time := rfl
@[simp] theorem modCore_net (n : Nat) (f : HkcCore → HkcCore) (s : State) : (s.modCore n f).net = s.net := rfl
@[simp] theorem modCore_hosts (n : Nat) (f : HkcCore → HkcCore) (s : State) : (s.modCore n f).hosts = s.hosts := rfl
@[simp] theorem modCore_evt (n : Nat) (f : HkcCore → HkcCore) (s : State) : (s.modCore n f).evt = s.evt := rfl
@[simp] theorem modCore_braid (n : Nat) (f : HkcCore → HkcCore) (s : State) : (s.modCore n f).braid = s.braid := rfl
@[simp] theorem modCore_dma (n : Nat) (f : HkcCore → HkcCore) (s : State) : (s.modCore n f).dma = s.dma := rfl
@[simp] theorem modCore_thm (n : Nat) (f : HkcCore → HkcCore) (s : State) : (s.modCore n f).thm = s.thm := rfl
@[simp] theorem modCore_rcd (n : Nat) (f : HkcCore → HkcCore) (s : State) : (s.modCore n f).rcd = s.rcd := rfl
@[simp] theorem modCore_shadows (n : Nat) (f : HkcCore → HkcCore) (s : State) : (s.modCore n f).shadows = s.shadows := rfl
@[simp] theorem modCore_latches (n : Nat) (f : HkcCore → HkcCore) (s : State) : (s.modCore n f).latches = s.latches := rfl
@[simp] theorem modCore_mem (n : Nat) (f : HkcCore → HkcCore) (s : State) : (s.modCore n f).mem = s.mem := rfl

/-! ### State.modNet -/
@[simp] theorem modNet_net (f : Net → Net) (s : State) :
    (s.modNet f).net = f s.net := rfl
@[simp] theorem modNet_pending (f : Net → Net) (s : State) : (s.modNet f).pending = s.pending := rfl
@[simp] theorem modNet_freeIx (f : Net → Net) (s : State) : (s.modNet f).freeIx = s.freeIx := rfl
@[simp] theorem modNet_sys (f : Net → Net) (s : State) : (s.modNet f).sys = s.sys := rfl
@[simp] theorem modNet_power (f : Net → Net) (s : State) : (s.modNet f).power = s.power := rfl
@[simp] theorem modNet_clusters (f : Net → Net) (s : State) : (s.modNet f).clusters = s.clusters := rfl
@[simp] theorem modNet_spares (f : Net → Net) (s : State) : (s.modNet f).spares = s.spares := rfl
@[simp] theorem modNet_islands (f : Net → Net) (s : State) : (s.modNet f).islands = s.islands := rfl
@[simp] theorem modNet_fab (f : Net → Net) (s : State) : (s.modNet f).fab = s.fab := rfl
@[simp] theorem modNet_time (f : Net → Net) (s : State) : (s.modNet f).time = s.time := rfl
@[simp] theorem modNet_hosts (f : Net → Net) (s : State) : (s.modNet f).hosts = s.hosts := rfl
@[simp] theorem modNet_evt (f : Net → Net) (s : State) : (s.modNet f).evt = s.evt := rfl
@[simp] theorem modNet_braid (f : Net → Net) (s : State) : (s.modNet f).braid = s.braid := rfl
@[simp] theorem modNet_dma (f : Net → Net) (s : State) : (s.modNet f).dma = s.dma := rfl
@[simp] theorem modNet_hkc (f : Net → Net) (s : State) : (s.modNet f).hkc = s.hkc := rfl
@[simp] theorem modNet_thm (f : Net → Net) (s : State) : (s.modNet f).thm = s.thm := rfl
@[simp] theorem modNet_rcd (f : Net → Net) (s : State) : (s.modNet f).rcd = s.rcd := rfl
@[simp] theorem modNet_shadows (f : Net → Net) (s : State) : (s.modNet f).shadows = s.shadows := rfl
@[simp] theorem modNet_latches (f : Net → Net) (s : State) : (s.modNet f).latches = s.latches := rfl
@[simp] theorem modNet_mem (f : Net → Net) (s : State) : (s.modNet f).mem = s.mem := rfl

/-! ### State.modDch -/
@[simp] theorem modDch_dma (n : Nat) (f : DmaCh → DmaCh) (s : State) :
    (s.modDch n f).dma = { s.dma with chs := modAt f n s.dma.chs } := rfl
@[simp] theorem modDch_pending (n : Nat) (f : DmaCh → DmaCh) (s : State) : (s.modDch n f).pending = s.pending := rfl
@[simp] theorem modDch_freeIx (n : Nat) (f : DmaCh → DmaCh) (s : State) : (s.modDch n f).freeIx = s.freeIx := rfl
@[simp] theorem modDch_sys (n : Nat) (f : DmaCh → DmaCh) (s : State) : (s.modDch n f).sys = s.sys := rfl
@[simp] theorem modDch_power (n : Nat) (f : DmaCh → DmaCh) (s : State) : (s.modDch n f).power = s.power := rfl
@[simp] theorem modDch_clusters (n : Nat) (f : DmaCh → DmaCh) (s : State) : (s.modDch n f).clusters = s.clusters := rfl
@[simp] theorem modDch_spares (n : Nat) (f : DmaCh → DmaCh) (s : State) : (s.modDch n f).spares = s.spares := rfl
@[simp] theorem modDch_islands (n : Nat) (f : DmaCh → DmaCh) (s : State) : (s.modDch n f).islands = s.islands := rfl
@[simp] theorem modDch_fab (n : Nat) (f : DmaCh → DmaCh) (s : State) : (s.modDch n f).fab = s.fab := rfl
@[simp] theorem modDch_time (n : Nat) (f : DmaCh → DmaCh) (s : State) : (s.modDch n f).time = s.time := rfl
@[simp] theorem modDch_net (n : Nat) (f : DmaCh → DmaCh) (s : State) : (s.modDch n f).net = s.net := rfl
@[simp] theorem modDch_hosts (n : Nat) (f : DmaCh → DmaCh) (s : State) : (s.modDch n f).hosts = s.hosts := rfl
@[simp] theorem modDch_evt (n : Nat) (f : DmaCh → DmaCh) (s : State) : (s.modDch n f).evt = s.evt := rfl
@[simp] theorem modDch_braid (n : Nat) (f : DmaCh → DmaCh) (s : State) : (s.modDch n f).braid = s.braid := rfl
@[simp] theorem modDch_hkc (n : Nat) (f : DmaCh → DmaCh) (s : State) : (s.modDch n f).hkc = s.hkc := rfl
@[simp] theorem modDch_thm (n : Nat) (f : DmaCh → DmaCh) (s : State) : (s.modDch n f).thm = s.thm := rfl
@[simp] theorem modDch_rcd (n : Nat) (f : DmaCh → DmaCh) (s : State) : (s.modDch n f).rcd = s.rcd := rfl
@[simp] theorem modDch_shadows (n : Nat) (f : DmaCh → DmaCh) (s : State) : (s.modDch n f).shadows = s.shadows := rfl
@[simp] theorem modDch_latches (n : Nat) (f : DmaCh → DmaCh) (s : State) : (s.modDch n f).latches = s.latches := rfl
@[simp] theorem modDch_mem (n : Nat) (f : DmaCh → DmaCh) (s : State) : (s.modDch n f).mem = s.mem := rfl

/-! ### State.modRing -/
@[simp] theorem modRing_rcd (i k : Nat) (f : Ring → Ring) (s : State) :
    (s.modRing i k f).rcd = { s.rcd with rings := modAt (modAt f k) i s.rcd.rings } := rfl
@[simp] theorem modRing_pending (i k : Nat) (f : Ring → Ring) (s : State) : (s.modRing i k f).pending = s.pending := rfl
@[simp] theorem modRing_freeIx (i k : Nat) (f : Ring → Ring) (s : State) : (s.modRing i k f).freeIx = s.freeIx := rfl
@[simp] theorem modRing_sys (i k : Nat) (f : Ring → Ring) (s : State) : (s.modRing i k f).sys = s.sys := rfl
@[simp] theorem modRing_power (i k : Nat) (f : Ring → Ring) (s : State) : (s.modRing i k f).power = s.power := rfl
@[simp] theorem modRing_clusters (i k : Nat) (f : Ring → Ring) (s : State) : (s.modRing i k f).clusters = s.clusters := rfl
@[simp] theorem modRing_spares (i k : Nat) (f : Ring → Ring) (s : State) : (s.modRing i k f).spares = s.spares := rfl
@[simp] theorem modRing_islands (i k : Nat) (f : Ring → Ring) (s : State) : (s.modRing i k f).islands = s.islands := rfl
@[simp] theorem modRing_fab (i k : Nat) (f : Ring → Ring) (s : State) : (s.modRing i k f).fab = s.fab := rfl
@[simp] theorem modRing_time (i k : Nat) (f : Ring → Ring) (s : State) : (s.modRing i k f).time = s.time := rfl
@[simp] theorem modRing_net (i k : Nat) (f : Ring → Ring) (s : State) : (s.modRing i k f).net = s.net := rfl
@[simp] theorem modRing_hosts (i k : Nat) (f : Ring → Ring) (s : State) : (s.modRing i k f).hosts = s.hosts := rfl
@[simp] theorem modRing_evt (i k : Nat) (f : Ring → Ring) (s : State) : (s.modRing i k f).evt = s.evt := rfl
@[simp] theorem modRing_braid (i k : Nat) (f : Ring → Ring) (s : State) : (s.modRing i k f).braid = s.braid := rfl
@[simp] theorem modRing_dma (i k : Nat) (f : Ring → Ring) (s : State) : (s.modRing i k f).dma = s.dma := rfl
@[simp] theorem modRing_hkc (i k : Nat) (f : Ring → Ring) (s : State) : (s.modRing i k f).hkc = s.hkc := rfl
@[simp] theorem modRing_thm (i k : Nat) (f : Ring → Ring) (s : State) : (s.modRing i k f).thm = s.thm := rfl
@[simp] theorem modRing_shadows (i k : Nat) (f : Ring → Ring) (s : State) : (s.modRing i k f).shadows = s.shadows := rfl
@[simp] theorem modRing_latches (i k : Nat) (f : Ring → Ring) (s : State) : (s.modRing i k f).latches = s.latches := rfl
@[simp] theorem modRing_mem (i k : Nat) (f : Ring → Ring) (s : State) : (s.modRing i k f).mem = s.mem := rfl

/-! ### State.modEp -/
@[simp] theorem modEp_pending (x : Nat) (g : Epoch → Epoch) (s : State) : (s.modEp x g).pending = s.pending := rfl
@[simp] theorem modEp_freeIx (x : Nat) (g : Epoch → Epoch) (s : State) : (s.modEp x g).freeIx = s.freeIx := rfl
@[simp] theorem modEp_sys (x : Nat) (g : Epoch → Epoch) (s : State) : (s.modEp x g).sys = s.sys := rfl
@[simp] theorem modEp_power (x : Nat) (g : Epoch → Epoch) (s : State) : (s.modEp x g).power = s.power := rfl
@[simp] theorem modEp_clusters (x : Nat) (g : Epoch → Epoch) (s : State) : (s.modEp x g).clusters = s.clusters := rfl
@[simp] theorem modEp_spares (x : Nat) (g : Epoch → Epoch) (s : State) : (s.modEp x g).spares = s.spares := rfl
@[simp] theorem modEp_islands (x : Nat) (g : Epoch → Epoch) (s : State) : (s.modEp x g).islands = s.islands := rfl
@[simp] theorem modEp_time (x : Nat) (g : Epoch → Epoch) (s : State) : (s.modEp x g).time = s.time := rfl
@[simp] theorem modEp_net (x : Nat) (g : Epoch → Epoch) (s : State) : (s.modEp x g).net = s.net := rfl
@[simp] theorem modEp_hosts (x : Nat) (g : Epoch → Epoch) (s : State) : (s.modEp x g).hosts = s.hosts := rfl
@[simp] theorem modEp_evt (x : Nat) (g : Epoch → Epoch) (s : State) : (s.modEp x g).evt = s.evt := rfl
@[simp] theorem modEp_braid (x : Nat) (g : Epoch → Epoch) (s : State) : (s.modEp x g).braid = s.braid := rfl
@[simp] theorem modEp_dma (x : Nat) (g : Epoch → Epoch) (s : State) : (s.modEp x g).dma = s.dma := rfl
@[simp] theorem modEp_hkc (x : Nat) (g : Epoch → Epoch) (s : State) : (s.modEp x g).hkc = s.hkc := rfl
@[simp] theorem modEp_thm (x : Nat) (g : Epoch → Epoch) (s : State) : (s.modEp x g).thm = s.thm := rfl
@[simp] theorem modEp_rcd (x : Nat) (g : Epoch → Epoch) (s : State) : (s.modEp x g).rcd = s.rcd := rfl
@[simp] theorem modEp_shadows (x : Nat) (g : Epoch → Epoch) (s : State) : (s.modEp x g).shadows = s.shadows := rfl
@[simp] theorem modEp_latches (x : Nat) (g : Epoch → Epoch) (s : State) : (s.modEp x g).latches = s.latches := rfl
@[simp] theorem modEp_mem (x : Nat) (g : Epoch → Epoch) (s : State) : (s.modEp x g).mem = s.mem := rfl

/-! ### State.modSlotOf -/
@[simp] theorem modSlotOf_pending (x : Nat) (g : FabSlot → FabSlot) (s : State) : (s.modSlotOf x g).pending = s.pending := rfl
@[simp] theorem modSlotOf_freeIx (x : Nat) (g : FabSlot → FabSlot) (s : State) : (s.modSlotOf x g).freeIx = s.freeIx := rfl
@[simp] theorem modSlotOf_sys (x : Nat) (g : FabSlot → FabSlot) (s : State) : (s.modSlotOf x g).sys = s.sys := rfl
@[simp] theorem modSlotOf_power (x : Nat) (g : FabSlot → FabSlot) (s : State) : (s.modSlotOf x g).power = s.power := rfl
@[simp] theorem modSlotOf_clusters (x : Nat) (g : FabSlot → FabSlot) (s : State) : (s.modSlotOf x g).clusters = s.clusters := rfl
@[simp] theorem modSlotOf_spares (x : Nat) (g : FabSlot → FabSlot) (s : State) : (s.modSlotOf x g).spares = s.spares := rfl
@[simp] theorem modSlotOf_islands (x : Nat) (g : FabSlot → FabSlot) (s : State) : (s.modSlotOf x g).islands = s.islands := rfl
@[simp] theorem modSlotOf_time (x : Nat) (g : FabSlot → FabSlot) (s : State) : (s.modSlotOf x g).time = s.time := rfl
@[simp] theorem modSlotOf_net (x : Nat) (g : FabSlot → FabSlot) (s : State) : (s.modSlotOf x g).net = s.net := rfl
@[simp] theorem modSlotOf_hosts (x : Nat) (g : FabSlot → FabSlot) (s : State) : (s.modSlotOf x g).hosts = s.hosts := rfl
@[simp] theorem modSlotOf_evt (x : Nat) (g : FabSlot → FabSlot) (s : State) : (s.modSlotOf x g).evt = s.evt := rfl
@[simp] theorem modSlotOf_braid (x : Nat) (g : FabSlot → FabSlot) (s : State) : (s.modSlotOf x g).braid = s.braid := rfl
@[simp] theorem modSlotOf_dma (x : Nat) (g : FabSlot → FabSlot) (s : State) : (s.modSlotOf x g).dma = s.dma := rfl
@[simp] theorem modSlotOf_hkc (x : Nat) (g : FabSlot → FabSlot) (s : State) : (s.modSlotOf x g).hkc = s.hkc := rfl
@[simp] theorem modSlotOf_thm (x : Nat) (g : FabSlot → FabSlot) (s : State) : (s.modSlotOf x g).thm = s.thm := rfl
@[simp] theorem modSlotOf_rcd (x : Nat) (g : FabSlot → FabSlot) (s : State) : (s.modSlotOf x g).rcd = s.rcd := rfl
@[simp] theorem modSlotOf_shadows (x : Nat) (g : FabSlot → FabSlot) (s : State) : (s.modSlotOf x g).shadows = s.shadows := rfl
@[simp] theorem modSlotOf_latches (x : Nat) (g : FabSlot → FabSlot) (s : State) : (s.modSlotOf x g).latches = s.latches := rfl
@[simp] theorem modSlotOf_mem (x : Nat) (g : FabSlot → FabSlot) (s : State) : (s.modSlotOf x g).mem = s.mem := rfl

/-! ### State.setShadow -/
@[simp] theorem setShadow_shadows (m : Nat) (p : Pair) (hi : Word) (s : State) :
    (s.setShadow m p hi).shadows = s.shadows.filter (fun q => !(q.master = m && q.pair = p)) ++ [{ master := m, pair := p, hi := hi }] := rfl
@[simp] theorem setShadow_pending (m : Nat) (p : Pair) (hi : Word) (s : State) : (s.setShadow m p hi).pending = s.pending := rfl
@[simp] theorem setShadow_freeIx (m : Nat) (p : Pair) (hi : Word) (s : State) : (s.setShadow m p hi).freeIx = s.freeIx := rfl
@[simp] theorem setShadow_sys (m : Nat) (p : Pair) (hi : Word) (s : State) : (s.setShadow m p hi).sys = s.sys := rfl
@[simp] theorem setShadow_power (m : Nat) (p : Pair) (hi : Word) (s : State) : (s.setShadow m p hi).power = s.power := rfl
@[simp] theorem setShadow_clusters (m : Nat) (p : Pair) (hi : Word) (s : State) : (s.setShadow m p hi).clusters = s.clusters := rfl
@[simp] theorem setShadow_spares (m : Nat) (p : Pair) (hi : Word) (s : State) : (s.setShadow m p hi).spares = s.spares := rfl
@[simp] theorem setShadow_islands (m : Nat) (p : Pair) (hi : Word) (s : State) : (s.setShadow m p hi).islands = s.islands := rfl
@[simp] theorem setShadow_fab (m : Nat) (p : Pair) (hi : Word) (s : State) : (s.setShadow m p hi).fab = s.fab := rfl
@[simp] theorem setShadow_time (m : Nat) (p : Pair) (hi : Word) (s : State) : (s.setShadow m p hi).time = s.time := rfl
@[simp] theorem setShadow_net (m : Nat) (p : Pair) (hi : Word) (s : State) : (s.setShadow m p hi).net = s.net := rfl
@[simp] theorem setShadow_hosts (m : Nat) (p : Pair) (hi : Word) (s : State) : (s.setShadow m p hi).hosts = s.hosts := rfl
@[simp] theorem setShadow_evt (m : Nat) (p : Pair) (hi : Word) (s : State) : (s.setShadow m p hi).evt = s.evt := rfl
@[simp] theorem setShadow_braid (m : Nat) (p : Pair) (hi : Word) (s : State) : (s.setShadow m p hi).braid = s.braid := rfl
@[simp] theorem setShadow_dma (m : Nat) (p : Pair) (hi : Word) (s : State) : (s.setShadow m p hi).dma = s.dma := rfl
@[simp] theorem setShadow_hkc (m : Nat) (p : Pair) (hi : Word) (s : State) : (s.setShadow m p hi).hkc = s.hkc := rfl
@[simp] theorem setShadow_thm (m : Nat) (p : Pair) (hi : Word) (s : State) : (s.setShadow m p hi).thm = s.thm := rfl
@[simp] theorem setShadow_rcd (m : Nat) (p : Pair) (hi : Word) (s : State) : (s.setShadow m p hi).rcd = s.rcd := rfl
@[simp] theorem setShadow_latches (m : Nat) (p : Pair) (hi : Word) (s : State) : (s.setShadow m p hi).latches = s.latches := rfl
@[simp] theorem setShadow_mem (m : Nat) (p : Pair) (hi : Word) (s : State) : (s.setShadow m p hi).mem = s.mem := rfl

/-! ### State.raise -/
@[simp] theorem raise_evt (src : Nat) (o : Option Nat) (s : State) :
    (s.raise src o).evt = { s.evt with chanIn := s.evt.chanIn ++ (s.evt.takers src).map (fun ch => ⟨ch, o⟩) } := rfl
@[simp] theorem raise_pending (src : Nat) (o : Option Nat) (s : State) : (s.raise src o).pending = s.pending := rfl
@[simp] theorem raise_freeIx (src : Nat) (o : Option Nat) (s : State) : (s.raise src o).freeIx = s.freeIx := rfl
@[simp] theorem raise_sys (src : Nat) (o : Option Nat) (s : State) : (s.raise src o).sys = s.sys := rfl
@[simp] theorem raise_power (src : Nat) (o : Option Nat) (s : State) : (s.raise src o).power = s.power := rfl
@[simp] theorem raise_clusters (src : Nat) (o : Option Nat) (s : State) : (s.raise src o).clusters = s.clusters := rfl
@[simp] theorem raise_spares (src : Nat) (o : Option Nat) (s : State) : (s.raise src o).spares = s.spares := rfl
@[simp] theorem raise_islands (src : Nat) (o : Option Nat) (s : State) : (s.raise src o).islands = s.islands := rfl
@[simp] theorem raise_fab (src : Nat) (o : Option Nat) (s : State) : (s.raise src o).fab = s.fab := rfl
@[simp] theorem raise_time (src : Nat) (o : Option Nat) (s : State) : (s.raise src o).time = s.time := rfl
@[simp] theorem raise_net (src : Nat) (o : Option Nat) (s : State) : (s.raise src o).net = s.net := rfl
@[simp] theorem raise_hosts (src : Nat) (o : Option Nat) (s : State) : (s.raise src o).hosts = s.hosts := rfl
@[simp] theorem raise_braid (src : Nat) (o : Option Nat) (s : State) : (s.raise src o).braid = s.braid := rfl
@[simp] theorem raise_dma (src : Nat) (o : Option Nat) (s : State) : (s.raise src o).dma = s.dma := rfl
@[simp] theorem raise_hkc (src : Nat) (o : Option Nat) (s : State) : (s.raise src o).hkc = s.hkc := rfl
@[simp] theorem raise_thm (src : Nat) (o : Option Nat) (s : State) : (s.raise src o).thm = s.thm := rfl
@[simp] theorem raise_rcd (src : Nat) (o : Option Nat) (s : State) : (s.raise src o).rcd = s.rcd := rfl
@[simp] theorem raise_shadows (src : Nat) (o : Option Nat) (s : State) : (s.raise src o).shadows = s.shadows := rfl
@[simp] theorem raise_latches (src : Nat) (o : Option Nat) (s : State) : (s.raise src o).latches = s.latches := rfl
@[simp] theorem raise_mem (src : Nat) (o : Option Nat) (s : State) : (s.raise src o).mem = s.mem := rfl

/-! ### State.answered -/
@[simp] theorem answered_braid (m a r : Nat) (d : List Byte) (s : State) :
    (s.answered m a r d).braid = { s.braid with answer := some { master := m, addr := a, resp := r, data := d } } := rfl
@[simp] theorem answered_pending (m a r : Nat) (d : List Byte) (s : State) : (s.answered m a r d).pending = s.pending := rfl
@[simp] theorem answered_freeIx (m a r : Nat) (d : List Byte) (s : State) : (s.answered m a r d).freeIx = s.freeIx := rfl
@[simp] theorem answered_sys (m a r : Nat) (d : List Byte) (s : State) : (s.answered m a r d).sys = s.sys := rfl
@[simp] theorem answered_power (m a r : Nat) (d : List Byte) (s : State) : (s.answered m a r d).power = s.power := rfl
@[simp] theorem answered_clusters (m a r : Nat) (d : List Byte) (s : State) : (s.answered m a r d).clusters = s.clusters := rfl
@[simp] theorem answered_spares (m a r : Nat) (d : List Byte) (s : State) : (s.answered m a r d).spares = s.spares := rfl
@[simp] theorem answered_islands (m a r : Nat) (d : List Byte) (s : State) : (s.answered m a r d).islands = s.islands := rfl
@[simp] theorem answered_fab (m a r : Nat) (d : List Byte) (s : State) : (s.answered m a r d).fab = s.fab := rfl
@[simp] theorem answered_time (m a r : Nat) (d : List Byte) (s : State) : (s.answered m a r d).time = s.time := rfl
@[simp] theorem answered_net (m a r : Nat) (d : List Byte) (s : State) : (s.answered m a r d).net = s.net := rfl
@[simp] theorem answered_hosts (m a r : Nat) (d : List Byte) (s : State) : (s.answered m a r d).hosts = s.hosts := rfl
@[simp] theorem answered_evt (m a r : Nat) (d : List Byte) (s : State) : (s.answered m a r d).evt = s.evt := rfl
@[simp] theorem answered_dma (m a r : Nat) (d : List Byte) (s : State) : (s.answered m a r d).dma = s.dma := rfl
@[simp] theorem answered_hkc (m a r : Nat) (d : List Byte) (s : State) : (s.answered m a r d).hkc = s.hkc := rfl
@[simp] theorem answered_thm (m a r : Nat) (d : List Byte) (s : State) : (s.answered m a r d).thm = s.thm := rfl
@[simp] theorem answered_rcd (m a r : Nat) (d : List Byte) (s : State) : (s.answered m a r d).rcd = s.rcd := rfl
@[simp] theorem answered_shadows (m a r : Nat) (d : List Byte) (s : State) : (s.answered m a r d).shadows = s.shadows := rfl
@[simp] theorem answered_latches (m a r : Nat) (d : List Byte) (s : State) : (s.answered m a r d).latches = s.latches := rfl
@[simp] theorem answered_mem (m a r : Nat) (d : List Byte) (s : State) : (s.answered m a r d).mem = s.mem := rfl

/-! ### State.statusChanged -/
@[simp] theorem statusChanged_hosts (s : State) :
    (s.statusChanged).hosts = s.hosts.map (HostPort.msg 2) := rfl
@[simp] theorem statusChanged_pending (s : State) : (s.statusChanged).pending = s.pending := rfl
@[simp] theorem statusChanged_freeIx (s : State) : (s.statusChanged).freeIx = s.freeIx := rfl
@[simp] theorem statusChanged_sys (s : State) : (s.statusChanged).sys = s.sys := rfl
@[simp] theorem statusChanged_power (s : State) : (s.statusChanged).power = s.power := rfl
@[simp] theorem statusChanged_clusters (s : State) : (s.statusChanged).clusters = s.clusters := rfl
@[simp] theorem statusChanged_spares (s : State) : (s.statusChanged).spares = s.spares := rfl
@[simp] theorem statusChanged_islands (s : State) : (s.statusChanged).islands = s.islands := rfl
@[simp] theorem statusChanged_fab (s : State) : (s.statusChanged).fab = s.fab := rfl
@[simp] theorem statusChanged_time (s : State) : (s.statusChanged).time = s.time := rfl
@[simp] theorem statusChanged_net (s : State) : (s.statusChanged).net = s.net := rfl
@[simp] theorem statusChanged_evt (s : State) : (s.statusChanged).evt = s.evt := rfl
@[simp] theorem statusChanged_braid (s : State) : (s.statusChanged).braid = s.braid := rfl
@[simp] theorem statusChanged_dma (s : State) : (s.statusChanged).dma = s.dma := rfl
@[simp] theorem statusChanged_hkc (s : State) : (s.statusChanged).hkc = s.hkc := rfl
@[simp] theorem statusChanged_thm (s : State) : (s.statusChanged).thm = s.thm := rfl
@[simp] theorem statusChanged_rcd (s : State) : (s.statusChanged).rcd = s.rcd := rfl
@[simp] theorem statusChanged_shadows (s : State) : (s.statusChanged).shadows = s.shadows := rfl
@[simp] theorem statusChanged_latches (s : State) : (s.statusChanged).latches = s.latches := rfl
@[simp] theorem statusChanged_mem (s : State) : (s.statusChanged).mem = s.mem := rfl

/-! ### State.nvmWrite -/
@[simp] theorem nvmWrite_sys (r : NvmRecord) (s : State) :
    (s.nvmWrite r).sys = s.sys.nvmWrite r := rfl
@[simp] theorem nvmWrite_pending (r : NvmRecord) (s : State) : (s.nvmWrite r).pending = s.pending := rfl
@[simp] theorem nvmWrite_freeIx (r : NvmRecord) (s : State) : (s.nvmWrite r).freeIx = s.freeIx := rfl
@[simp] theorem nvmWrite_power (r : NvmRecord) (s : State) : (s.nvmWrite r).power = s.power := rfl
@[simp] theorem nvmWrite_clusters (r : NvmRecord) (s : State) : (s.nvmWrite r).clusters = s.clusters := rfl
@[simp] theorem nvmWrite_spares (r : NvmRecord) (s : State) : (s.nvmWrite r).spares = s.spares := rfl
@[simp] theorem nvmWrite_islands (r : NvmRecord) (s : State) : (s.nvmWrite r).islands = s.islands := rfl
@[simp] theorem nvmWrite_fab (r : NvmRecord) (s : State) : (s.nvmWrite r).fab = s.fab := rfl
@[simp] theorem nvmWrite_time (r : NvmRecord) (s : State) : (s.nvmWrite r).time = s.time := rfl
@[simp] theorem nvmWrite_net (r : NvmRecord) (s : State) : (s.nvmWrite r).net = s.net := rfl
@[simp] theorem nvmWrite_hosts (r : NvmRecord) (s : State) : (s.nvmWrite r).hosts = s.hosts := rfl
@[simp] theorem nvmWrite_evt (r : NvmRecord) (s : State) : (s.nvmWrite r).evt = s.evt := rfl
@[simp] theorem nvmWrite_braid (r : NvmRecord) (s : State) : (s.nvmWrite r).braid = s.braid := rfl
@[simp] theorem nvmWrite_dma (r : NvmRecord) (s : State) : (s.nvmWrite r).dma = s.dma := rfl
@[simp] theorem nvmWrite_hkc (r : NvmRecord) (s : State) : (s.nvmWrite r).hkc = s.hkc := rfl
@[simp] theorem nvmWrite_thm (r : NvmRecord) (s : State) : (s.nvmWrite r).thm = s.thm := rfl
@[simp] theorem nvmWrite_rcd (r : NvmRecord) (s : State) : (s.nvmWrite r).rcd = s.rcd := rfl
@[simp] theorem nvmWrite_shadows (r : NvmRecord) (s : State) : (s.nvmWrite r).shadows = s.shadows := rfl
@[simp] theorem nvmWrite_latches (r : NvmRecord) (s : State) : (s.nvmWrite r).latches = s.latches := rfl
@[simp] theorem nvmWrite_mem (r : NvmRecord) (s : State) : (s.nvmWrite r).mem = s.mem := rfl

/-! ### State.complete -/
@[simp] theorem complete_hosts (p code status : Nat) (tag : Word) (detail : Nat) (r : List Byte) (s : State) :
    (s.complete p code status tag detail r).hosts = modAt (HostPort.complete code status tag detail r) p s.hosts := rfl
@[simp] theorem complete_pending (p code status : Nat) (tag : Word) (detail : Nat) (r : List Byte) (s : State) : (s.complete p code status tag detail r).pending = s.pending := rfl
@[simp] theorem complete_freeIx (p code status : Nat) (tag : Word) (detail : Nat) (r : List Byte) (s : State) : (s.complete p code status tag detail r).freeIx = s.freeIx := rfl
@[simp] theorem complete_sys (p code status : Nat) (tag : Word) (detail : Nat) (r : List Byte) (s : State) : (s.complete p code status tag detail r).sys = s.sys := rfl
@[simp] theorem complete_power (p code status : Nat) (tag : Word) (detail : Nat) (r : List Byte) (s : State) : (s.complete p code status tag detail r).power = s.power := rfl
@[simp] theorem complete_clusters (p code status : Nat) (tag : Word) (detail : Nat) (r : List Byte) (s : State) : (s.complete p code status tag detail r).clusters = s.clusters := rfl
@[simp] theorem complete_spares (p code status : Nat) (tag : Word) (detail : Nat) (r : List Byte) (s : State) : (s.complete p code status tag detail r).spares = s.spares := rfl
@[simp] theorem complete_islands (p code status : Nat) (tag : Word) (detail : Nat) (r : List Byte) (s : State) : (s.complete p code status tag detail r).islands = s.islands := rfl
@[simp] theorem complete_fab (p code status : Nat) (tag : Word) (detail : Nat) (r : List Byte) (s : State) : (s.complete p code status tag detail r).fab = s.fab := rfl
@[simp] theorem complete_time (p code status : Nat) (tag : Word) (detail : Nat) (r : List Byte) (s : State) : (s.complete p code status tag detail r).time = s.time := rfl
@[simp] theorem complete_net (p code status : Nat) (tag : Word) (detail : Nat) (r : List Byte) (s : State) : (s.complete p code status tag detail r).net = s.net := rfl
@[simp] theorem complete_evt (p code status : Nat) (tag : Word) (detail : Nat) (r : List Byte) (s : State) : (s.complete p code status tag detail r).evt = s.evt := rfl
@[simp] theorem complete_braid (p code status : Nat) (tag : Word) (detail : Nat) (r : List Byte) (s : State) : (s.complete p code status tag detail r).braid = s.braid := rfl
@[simp] theorem complete_dma (p code status : Nat) (tag : Word) (detail : Nat) (r : List Byte) (s : State) : (s.complete p code status tag detail r).dma = s.dma := rfl
@[simp] theorem complete_hkc (p code status : Nat) (tag : Word) (detail : Nat) (r : List Byte) (s : State) : (s.complete p code status tag detail r).hkc = s.hkc := rfl
@[simp] theorem complete_thm (p code status : Nat) (tag : Word) (detail : Nat) (r : List Byte) (s : State) : (s.complete p code status tag detail r).thm = s.thm := rfl
@[simp] theorem complete_rcd (p code status : Nat) (tag : Word) (detail : Nat) (r : List Byte) (s : State) : (s.complete p code status tag detail r).rcd = s.rcd := rfl
@[simp] theorem complete_shadows (p code status : Nat) (tag : Word) (detail : Nat) (r : List Byte) (s : State) : (s.complete p code status tag detail r).shadows = s.shadows := rfl
@[simp] theorem complete_latches (p code status : Nat) (tag : Word) (detail : Nat) (r : List Byte) (s : State) : (s.complete p code status tag detail r).latches = s.latches := rfl
@[simp] theorem complete_mem (p code status : Nat) (tag : Word) (detail : Nat) (r : List Byte) (s : State) : (s.complete p code status tag detail r).mem = s.mem := rfl

/-! ### State.notify -/
@[simp] theorem notify_pending (p kind : Nat) (short body : List Byte) (s : State) : (s.notify p kind short body).pending = s.pending := rfl
@[simp] theorem notify_freeIx (p kind : Nat) (short body : List Byte) (s : State) : (s.notify p kind short body).freeIx = s.freeIx := rfl
@[simp] theorem notify_sys (p kind : Nat) (short body : List Byte) (s : State) : (s.notify p kind short body).sys = s.sys := rfl
@[simp] theorem notify_power (p kind : Nat) (short body : List Byte) (s : State) : (s.notify p kind short body).power = s.power := rfl
@[simp] theorem notify_clusters (p kind : Nat) (short body : List Byte) (s : State) : (s.notify p kind short body).clusters = s.clusters := rfl
@[simp] theorem notify_spares (p kind : Nat) (short body : List Byte) (s : State) : (s.notify p kind short body).spares = s.spares := rfl
@[simp] theorem notify_islands (p kind : Nat) (short body : List Byte) (s : State) : (s.notify p kind short body).islands = s.islands := rfl
@[simp] theorem notify_fab (p kind : Nat) (short body : List Byte) (s : State) : (s.notify p kind short body).fab = s.fab := rfl
@[simp] theorem notify_time (p kind : Nat) (short body : List Byte) (s : State) : (s.notify p kind short body).time = s.time := rfl
@[simp] theorem notify_net (p kind : Nat) (short body : List Byte) (s : State) : (s.notify p kind short body).net = s.net := rfl
@[simp] theorem notify_evt (p kind : Nat) (short body : List Byte) (s : State) : (s.notify p kind short body).evt = s.evt := rfl
@[simp] theorem notify_braid (p kind : Nat) (short body : List Byte) (s : State) : (s.notify p kind short body).braid = s.braid := rfl
@[simp] theorem notify_dma (p kind : Nat) (short body : List Byte) (s : State) : (s.notify p kind short body).dma = s.dma := rfl
@[simp] theorem notify_hkc (p kind : Nat) (short body : List Byte) (s : State) : (s.notify p kind short body).hkc = s.hkc := rfl
@[simp] theorem notify_thm (p kind : Nat) (short body : List Byte) (s : State) : (s.notify p kind short body).thm = s.thm := rfl
@[simp] theorem notify_rcd (p kind : Nat) (short body : List Byte) (s : State) : (s.notify p kind short body).rcd = s.rcd := rfl
@[simp] theorem notify_shadows (p kind : Nat) (short body : List Byte) (s : State) : (s.notify p kind short body).shadows = s.shadows := rfl
@[simp] theorem notify_latches (p kind : Nat) (short body : List Byte) (s : State) : (s.notify p kind short body).latches = s.latches := rfl
@[simp] theorem notify_mem (p kind : Nat) (short body : List Byte) (s : State) : (s.notify p kind short body).mem = s.mem := rfl

/-! ### State.startRows -/
@[simp] theorem startRows_pending (why : RowWhy) (p : Nat → Bool) (s : State) : (s.startRows why p).pending = s.pending := rfl
@[simp] theorem startRows_freeIx (why : RowWhy) (p : Nat → Bool) (s : State) : (s.startRows why p).freeIx = s.freeIx := rfl
@[simp] theorem startRows_power (why : RowWhy) (p : Nat → Bool) (s : State) : (s.startRows why p).power = s.power := rfl
@[simp] theorem startRows_clusters (why : RowWhy) (p : Nat → Bool) (s : State) : (s.startRows why p).clusters = s.clusters := rfl
@[simp] theorem startRows_spares (why : RowWhy) (p : Nat → Bool) (s : State) : (s.startRows why p).spares = s.spares := rfl
@[simp] theorem startRows_islands (why : RowWhy) (p : Nat → Bool) (s : State) : (s.startRows why p).islands = s.islands := rfl
@[simp] theorem startRows_fab (why : RowWhy) (p : Nat → Bool) (s : State) : (s.startRows why p).fab = s.fab := rfl
@[simp] theorem startRows_time (why : RowWhy) (p : Nat → Bool) (s : State) : (s.startRows why p).time = s.time := rfl
@[simp] theorem startRows_net (why : RowWhy) (p : Nat → Bool) (s : State) : (s.startRows why p).net = s.net := rfl
@[simp] theorem startRows_hosts (why : RowWhy) (p : Nat → Bool) (s : State) : (s.startRows why p).hosts = s.hosts := rfl
@[simp] theorem startRows_evt (why : RowWhy) (p : Nat → Bool) (s : State) : (s.startRows why p).evt = s.evt := rfl
@[simp] theorem startRows_braid (why : RowWhy) (p : Nat → Bool) (s : State) : (s.startRows why p).braid = s.braid := rfl
@[simp] theorem startRows_dma (why : RowWhy) (p : Nat → Bool) (s : State) : (s.startRows why p).dma = s.dma := rfl
@[simp] theorem startRows_hkc (why : RowWhy) (p : Nat → Bool) (s : State) : (s.startRows why p).hkc = s.hkc := rfl
@[simp] theorem startRows_thm (why : RowWhy) (p : Nat → Bool) (s : State) : (s.startRows why p).thm = s.thm := rfl
@[simp] theorem startRows_rcd (why : RowWhy) (p : Nat → Bool) (s : State) : (s.startRows why p).rcd = s.rcd := rfl
@[simp] theorem startRows_shadows (why : RowWhy) (p : Nat → Bool) (s : State) : (s.startRows why p).shadows = s.shadows := rfl
@[simp] theorem startRows_latches (why : RowWhy) (p : Nat → Bool) (s : State) : (s.startRows why p).latches = s.latches := rfl
@[simp] theorem startRows_mem (why : RowWhy) (p : Nat → Bool) (s : State) : (s.startRows why p).mem = s.mem := rfl

/-! ### State.forgetEnables -/
@[simp] theorem forgetEnables_pending (s : State) : (s.forgetEnables).pending = s.pending := rfl
@[simp] theorem forgetEnables_freeIx (s : State) : (s.forgetEnables).freeIx = s.freeIx := rfl
@[simp] theorem forgetEnables_sys (s : State) : (s.forgetEnables).sys = s.sys := rfl
@[simp] theorem forgetEnables_power (s : State) : (s.forgetEnables).power = s.power := rfl
@[simp] theorem forgetEnables_spares (s : State) : (s.forgetEnables).spares = s.spares := rfl
@[simp] theorem forgetEnables_islands (s : State) : (s.forgetEnables).islands = s.islands := rfl
@[simp] theorem forgetEnables_fab (s : State) : (s.forgetEnables).fab = s.fab := rfl
@[simp] theorem forgetEnables_time (s : State) : (s.forgetEnables).time = s.time := rfl
@[simp] theorem forgetEnables_net (s : State) : (s.forgetEnables).net = s.net := rfl
@[simp] theorem forgetEnables_hosts (s : State) : (s.forgetEnables).hosts = s.hosts := rfl
@[simp] theorem forgetEnables_evt (s : State) : (s.forgetEnables).evt = s.evt := rfl
@[simp] theorem forgetEnables_braid (s : State) : (s.forgetEnables).braid = s.braid := rfl
@[simp] theorem forgetEnables_dma (s : State) : (s.forgetEnables).dma = s.dma := rfl
@[simp] theorem forgetEnables_hkc (s : State) : (s.forgetEnables).hkc = s.hkc := rfl
@[simp] theorem forgetEnables_thm (s : State) : (s.forgetEnables).thm = s.thm := rfl
@[simp] theorem forgetEnables_rcd (s : State) : (s.forgetEnables).rcd = s.rcd := rfl
@[simp] theorem forgetEnables_shadows (s : State) : (s.forgetEnables).shadows = s.shadows := rfl
@[simp] theorem forgetEnables_latches (s : State) : (s.forgetEnables).latches = s.latches := rfl
@[simp] theorem forgetEnables_mem (s : State) : (s.forgetEnables).mem = s.mem := rfl

/-! ### Views of a changed state -/

/-- The cluster that was changed. -/
theorem clu_modClu_same {c : Nat} {f : Cluster → Cluster} {s : State} {k : Cluster} (h : s.clusters[c]? = some k) :
    (s.modClu c f).clu c = f k := getD_modAt_same h

/-- Another cluster. -/
@[simp] theorem clu_modClu_other {c d : Nat} {f : Cluster → Cluster} {s : State} (h : d ≠ c) : (s.modClu c f).clu d = s.clu d :=
  getD_modAt_other h

/-- A cell of another cluster. -/
theorem cell_modClu_other {c n : Nat} {f : Cluster → Cluster} {s : State} (h : n / 32 ≠ c) : (s.modClu c f).cell n = s.cell n := by
  unfold State.cell; rw [clu_modClu_other h]

/-- The host port that was changed. -/
theorem hport_modHost_same {p : Nat} {f : HostPort → HostPort} {s : State} {q : HostPort} (h : s.hosts[p]? = some q) :
    (s.modHost p f).hport p = f q := getD_modAt_same h

/-- Another host port. -/
@[simp] theorem hport_modHost_other {p r : Nat} {f : HostPort → HostPort} {s : State} (h : r ≠ p) :
    (s.modHost p f).hport r = s.hport r := getD_modAt_other h

end Sys2Proof.Machine
end

