-- ==== Sys2Proof/Laws/Ops.lean ====
section
/-! SUPPORT. What the shared operations do, said once for each: the fields they may change, and the outcomes they have. -/

namespace Sys2Proof.Machine

/-! ### Folds over a state -/

/-- A fold keeps what every step of it keeps. -/
theorem foldl_keeps {α β : Type} (v : State → β) (f : State → α → State) (h : ∀ s a, v (f s a) = v s) :
    ∀ (l : List α) (s : State), v (l.foldl f s) = v s
  | [], _ => rfl
  | a :: l, s => (foldl_keeps v f h l (f s a)).trans (h s a)

/-- A fold keeps a property that every step of it keeps. -/
theorem foldl_holds {α : Type} (P : State → Prop) (f : State → α → State) (h : ∀ s a, P s → P (f s a)) :
    ∀ (l : List α) (s : State), P s → P (l.foldl f s)
  | [], _, hs => hs
  | a :: l, s, hs => foldl_holds P f h l (f s a) (h s a hs)

/-- A fold of updates that change one field changes that field alone. -/
theorem foldl_frame {α β : Type} (put : State → β → State) (get : State → β) (self : ∀ s, put s (get s) = s)
    (once : ∀ s b c, put (put s b) c = put s c) (f : State → α → State) (h : ∀ s a, f s a = put s (get (f s a))) :
    ∀ (l : List α) (s : State), l.foldl f s = put s (get (l.foldl f s))
  | [], s => (self s).symm
  | a :: l, s => by
    have ih := foldl_frame put get self once f h l (f s a)
    calc (a :: l).foldl f s = l.foldl f (f s a) := rfl
      _ = put (f s a) (get (l.foldl f (f s a))) := ih
      _ = put s (get (l.foldl f (f s a))) := by rw [h s a, once]

/-! ### Notices, modes -/

/-- A log record owed changes what the recorder owes alone. -/
theorem owesLog_frame (k : Nat) (is : List Nat) (b : List Byte) (s : State) :
    s.owesLog k is b = { s with rcd := { s.rcd with logDue := (s.owesLog k is b).rcd.logDue } } := by
  unfold State.owesLog
  split <;> rfl

/-- A notice to each of some hosts changes the ports alone. -/
theorem notices_frame (k : Nat) (b : List Byte) (l : List Nat) (s : State) :
    l.foldl (fun s p => s.notify p k b []) s = { s with hosts := (l.foldl (fun s p => s.notify p k b []) s).hosts } :=
  foldl_frame (fun s h => { s with hosts := h }) State.hosts (fun _ => rfl) (fun _ _ _ => rfl) _ (fun _ _ => rfl) l s

/-- A device-wide notice changes the ports, and the log records that the recorder owes. -/
theorem notifyAll_frame (k : Nat) (b : List Byte) (s : State) :
    s.notifyAll k b = { s with hosts := (s.notifyAll k b).hosts, rcd := { s.rcd with logDue := (s.notifyAll k b).rcd.logDue } } := by
  unfold State.notifyAll
  rw [owesLog_frame, notices_frame]

/-- A change of mode changes the mode, the ports, and the log records that the recorder owes. -/
theorem setMode_frame (m : Mode) (s : State) :
    s.setMode m = { s with sys := { s.sys with mode := m }, hosts := (s.setMode m).hosts,
                           rcd := { s.rcd with logDue := (s.setMode m).rcd.logDue } } := by
  unfold State.setMode
  split
  · rename_i h; subst h; rfl
  · exact notifyAll_frame _ _ _

/-- The mode after a change of mode. -/
@[simp] theorem setMode_mode (m : Mode) (s : State) : (s.setMode m).sys.mode = m := by rw [setMode_frame]

/-- Showing a mode changes the mode and the ports alone. -/
theorem showMode_frame (m : Mode) (s : State) :
    s.showMode m = { s with sys := { s.sys with mode := m }, hosts := (s.showMode m).hosts } := by
  unfold State.showMode
  split
  · rename_i h; subst h; rfl
  · rfl

/-- A change of the servo's state changes the time base, the ports, and the log records that the recorder owes. -/
theorem setSrv_frame (n : SrvState) (s : State) :
    s.setSrv n = { s with time := (s.setSrv n).time, hosts := (s.setSrv n).hosts, rcd := { s.rcd with logDue := (s.setSrv n).rcd.logDue } } := by
  unfold State.setSrv
  split
  · rfl
  · rw [notifyAll_frame]

/-- The servo's state after a change. -/
@[simp] theorem setSrv_srv (n : SrvState) (s : State) : (s.setSrv n).time.srv = n := by
  unfold State.setSrv
  split
  · assumption
  · rw [notifyAll_frame]
    dsimp only
    split <;> rfl

/-- Entry to HOLDOVER changes the time base, the ports, and the log records that the recorder owes. -/
theorem enterHoldover_frame (s : State) :
    s.enterHoldover = { s with time := s.enterHoldover.time, hosts := s.enterHoldover.hosts,
                               rcd := { s.rcd with logDue := s.enterHoldover.rcd.logDue } } := by
  unfold State.enterHoldover
  split
  · exact setSrv_frame _ _
  · rfl

/-- A change of the servo's state keeps what a θ may have changed before it. -/
theorem setSrv_within {x : Int} {n : SrvState} {s u : State}
    (h : ∃ ti ho ld, u = { s with time := ti, net := { s.net with lastTheta := x }, hosts := ho, rcd := { s.rcd with logDue := ld } }) :
    ∃ ti ho ld, u.setSrv n = { s with time := ti, net := { s.net with lastTheta := x }, hosts := ho, rcd := { s.rcd with logDue := ld } } := by
  obtain ⟨ti, ho, ld, rfl⟩ := h
  rw [setSrv_frame]
  exact ⟨_, _, _, rfl⟩

/-- One θ changes the time base, the network's note of it, the ports, and the log records that the recorder owes. -/
theorem servoUpdate_frame (v : Word) (s : State) :
    ∃ ti ho ld, servoUpdate v s = { s with time := ti, net := { s.net with lastTheta := v.toInt }, hosts := ho,
                                           rcd := { s.rcd with logDue := ld } } := by
  unfold servoUpdate
  dsimp only
  repeat' split
  all_goals first
    | exact setSrv_within (setSrv_within ⟨_, _, _, rfl⟩)
    | exact setSrv_within ⟨_, _, _, rfl⟩
    | exact ⟨_, _, _, rfl⟩

/-! ### The counters -/

/-- What a tick may change of a state: the counters, what the recorder holds of them, the occurrences on their way. -/
def Ticked (s t : State) : Prop := ∃ ti rc ci, t = { s with time := ti, rcd := rc, evt := { s.evt with chanIn := ci } }

/-- A wrap of WNS changes what a tick may change. -/
theorem wrapWns_ticked {s t : State} (h : Ticked s t) : Ticked s (wrapWns t) := by
  obtain ⟨_, _, _, rfl⟩ := h
  unfold wrapWns
  split <;> exact ⟨_, _, _, rfl⟩

/-- An automatic increment of ERA changes what a tick may change. -/
theorem eraAuto_ticked {s t : State} (h : Ticked s t) : Ticked s (eraAuto t) := by
  obtain ⟨_, _, _, rfl⟩ := h
  unfold eraAuto
  split <;> exact ⟨_, _, _, rfl⟩

/-- The top of a second changes what a tick may change. -/
theorem wrapSph_ticked {s t : State} (h : Ticked s t) : Ticked s (wrapSph t) := by
  obtain ⟨_, _, _, rfl⟩ := h
  unfold wrapSph
  split <;> exact ⟨_, _, _, rfl⟩

/-- A new capture list changes what a tick may change. -/
theorem capRenew_ticked {a b : Nat} {s t : State} (h : Ticked s t) : Ticked s (capRenew a b t) := by
  obtain ⟨_, _, _, rfl⟩ := h
  unfold capRenew
  split <;> exact ⟨_, _, _, rfl⟩

/-- A tick changes the counters, the recorder's rate and capture list, and the occurrences on their way alone. -/
theorem ticks_ticked (k : Nat) (s : State) : Ticked s (ticks k s) :=
  capRenew_ticked (wrapSph_ticked (eraAuto_ticked (wrapWns_ticked ⟨_, _, _, rfl⟩)))

/-- The same as an equation. -/
theorem ticks_frame (k : Nat) (s : State) : ticks k s = { s with time := (ticks k s).time, rcd := (ticks k s).rcd, evt := (ticks k s).evt } := by
  obtain ⟨_, _, _, h⟩ := ticks_ticked k s
  rw [h]

/-- An advance changes what ticks change. -/
theorem advanceFor_frame : ∀ (fuel d : Nat) (s : State), advanceFor fuel d s =
    { s with time := (advanceFor fuel d s).time, rcd := (advanceFor fuel d s).rcd, evt := (advanceFor fuel d s).evt }
  | 0, _, _ => rfl
  | fuel + 1, d, s => by
    unfold advanceFor
    split
    · rfl
    · dsimp only
      rw [advanceFor_frame fuel, ticks_frame]

/-- Reaching an instant changes what ticks change. -/
theorem reach_frame {w : Nat} {x : Int} {s t : State} (h : reach w x s = some t) :
    t = { s with time := t.time, rcd := t.rcd, evt := t.evt } := by
  unfold reach at h
  split at h
  · cases h
  · cases h; exact advanceFor_frame _ _ _

/-- An instant is reached where the counters run and it is near enough. -/
theorem reach_isSome {w : Nat} {x : Int} {s : State} (run : s.time.run = true) (near : x - s.now ≤ w) : ∃ t, reach w x s = some t := by
  unfold reach
  rw [if_neg (by simp [run]; omega)]
  exact ⟨_, rfl⟩

/-- Ticks change no occurrence's channel, consumer or pin: only what is on its way grows. -/
theorem ticks_evt (k : Nat) (s : State) : (ticks k s).evt = { s.evt with chanIn := (ticks k s).evt.chanIn } := by
  obtain ⟨_, _, _, h⟩ := ticks_ticked k s
  rw [h]

/-! ### The recorder's writes -/

/-- A ring's write changes the recorder and memory alone. -/
theorem ringPut_frame (i k : Nat) (bs : List Byte) (s : State) :
    s.ringPut i k bs = { s with rcd := (s.ringPut i k bs).rcd, mem := (s.ringPut i k bs).mem } := by
  unfold State.ringPut
  split <;> rfl

/-- A header's refresh changes the recorder and memory alone. -/
theorem refreshHeader_frame (i : Nat) (s : State) :
    s.refreshHeader i = { s with rcd := (s.refreshHeader i).rcd, mem := (s.refreshHeader i).mem } := by
  unfold State.refreshHeader
  split <;> rfl

/-- A log record changes the recorder and memory alone. -/
theorem logTo_frame (kind : Nat) (insts : List Nat) (p : Stamp) (body : List Byte) (s : State) :
    s.logTo kind insts p body = { s with rcd := (s.logTo kind insts p body).rcd, mem := (s.logTo kind insts p body).mem } := by
  exact foldl_frame (fun s (q : Rec × List Host.Cell) => { s with rcd := q.1, mem := q.2 }) (fun s => (s.rcd, s.mem)) (fun _ => rfl)
    (fun _ _ _ => rfl) _ (fun s' i => by
      dsimp only
      split
      · rw [refreshHeader_frame, ringPut_frame]
      · rfl) insts s

/-- A ring's write keeps memory's form. -/
theorem ringPut_wf {i k : Nat} {bs : List Byte} {s : State} (h : Mem.wf s.mem = true) : Mem.wf (s.ringPut i k bs).mem = true := by
  unfold State.ringPut
  split
  · exact h
  · exact ringWrite_wf _ _ _ h

/-- A header's refresh keeps memory's form. -/
theorem refreshHeader_wf {i : Nat} {s : State} (h : Mem.wf s.mem = true) : Mem.wf (s.refreshHeader i).mem = true := by
  unfold State.refreshHeader
  split
  · exact foldl_wf _ (fun _ _ hm => writeN_wf hm) _ _ h
  · exact h

/-- A log record keeps memory's form. -/
theorem logTo_wf {kind : Nat} {insts : List Nat} {p : Stamp} {body : List Byte} {s : State} (h : Mem.wf s.mem = true) :
    Mem.wf (s.logTo kind insts p body).mem = true := by
  unfold State.logTo
  refine foldl_holds (fun s => Mem.wf s.mem = true) _ (fun s i hs => ?_) _ _ h
  split
  · exact refreshHeader_wf (ringPut_wf hs)
  · exact hs

/-! ### Pieces at their targets -/

/-- A refusal changes only what records it. -/
theorem refused_frame (m : Nat) (sec : Bool) (a : Nat) (w : Bool) (r : Nat) (s : State) :
    s.refused m sec a w r = { s with braid := (s.refused m sec a w r).braid, hosts := (s.refused m sec a w r).hosts } := by
  unfold State.refused
  repeat' split
  all_goals rfl

/-- A read of memory that is answered OK: the bytes, and nothing changes. -/
theorem readPiece_memory {m a len : Nat} {sec : Bool} {s : State} (ok : s.readRsp m sec a len = rspOk) (mem : isMemory a = true) :
    s.readPiece m sec a len = (rspOk, Mem.readN s.mem len a, s) := by
  simp [State.readPiece, ok, mem]

/-- A read piece that is not answered OK: zeros where it is DENY, no data otherwise, and only what records it. -/
theorem readPiece_refused {m a len : Nat} {sec : Bool} {s : State} (bad : s.readRsp m sec a len ≠ rspOk) :
    s.readPiece m sec a len = (s.readRsp m sec a len, noRead m (s.readRsp m sec a len) len, s.refused m sec a false (s.readRsp m sec a len)) := by
  simp [State.readPiece, bad]

/-- A write of memory that is answered OK: the bytes are stored. -/
theorem writePiece_memory {m a : Nat} {bs : List Byte} {sec : Bool} {s : State} (ok : s.writeRsp m sec a bs.length = rspOk)
    (mem : isMemory a = true) : s.writePiece m sec a bs = (rspOk, { s with mem := Mem.writeN s.mem a bs }) := by
  simp [State.writePiece, ok, mem]

/-- A write piece that is not answered OK: only what records it. -/
theorem writePiece_refused {m a : Nat} {bs : List Byte} {sec : Bool} {s : State} (bad : s.writeRsp m sec a bs.length ≠ rspOk) :
    s.writePiece m sec a bs = (s.writeRsp m sec a bs.length, s.refused m sec a true (s.writeRsp m sec a bs.length)) := by
  simp [State.writePiece, bad]

/-- An access moves on what may still be cut short, and nothing else where no piece of the target waits. -/
theorem settled_frame (t : Nat) (s : State) :
    s.settled t = { s with braid := { s.braid with granted := (s.settled t).braid.granted } } := rfl

/-- What the pins of a UART or I²C line do touches the FIFOs of the lines alone. -/
theorem periPins_frame (line : Nat) (bs : List Byte) (s : State) :
    s.periPins line bs = { s with sys := { s.sys with peri := (s.periPins line bs).sys.peri } } := by
  unfold State.periPins
  split <;> rfl

/-! ### Network and events -/

/-- What firmware sends on a path that may send again changes the network state and takes free values. -/
theorem hello_frame (s : State) : s.hello = { s with net := s.hello.net, freeIx := s.hello.freeIx } := by
  unfold State.hello
  split
  · rfl
  · simp only []
    split <;> rfl

/-- Whether an occurrence joins the latest arrival takes at most a free value. -/
theorem sameArrival_frame (x : Nat) (s : State) : (s.sameArrival x).2 = { s with freeIx := (s.sameArrival x).2.freeIx } := by
  unfold State.sameArrival
  repeat' split
  all_goals rfl

/-- Folded occurrences change the consumer's counts and leave the queue. -/
theorem foldIn_frame (x : Nat) : ∀ (k : Nat) (s : State),
    State.foldIn x k s = { s with evt := { s.evt with cons := (State.foldIn x k s).evt.cons, conIn := (State.foldIn x k s).evt.conIn } }
  | 0, _ => rfl
  | k + 1, s => by
    unfold State.foldIn
    split
    · rw [foldIn_frame x k]; rfl
    · rfl

/-! ### Mailbox commands -/

/-- Firmware that does not serve leaves a command alone. -/
theorem run_unserved {c : CmdSpec} {h : Hdr} {act : State → State} {s : State} (n : s.serves = false) : c.run h act s = s := by
  simp [CmdSpec.run, n]

/-- A command whose turn has not come is left alone. -/
theorem run_untaken {c : CmdSpec} {h : Hdr} {act : State → State} {s : State} (n : s.startCmd h c.code = none) : c.run h act s = s := by
  simp [CmdSpec.run, n]

/-- A command whose turn it is and that passes every check of R212 runs its own act, in the state in which it has begun. -/
theorem run_passes {c : CmdSpec} {h : Hdr} {act : State → State} {s s1 : State} (serves : s.serves = true)
    (turn : s.startCmd h c.code = some s1) (ok : c.check h s1 = none) : c.run h act s = act s1 := by
  simp [CmdSpec.run, serves, turn, ok]

/-- A command that fails a check of R212 changes nothing but its port's completion. -/
theorem run_fails {c : CmdSpec} {h : Hdr} {act : State → State} {s s1 : State} {st d : Nat} (serves : s.serves = true)
    (turn : s.startCmd h c.code = some s1) (bad : c.check h s1 = some (st, d)) :
    c.run h act s = s1.complete h.port.val c.code st h.tag d [] := by
  simp [CmdSpec.run, serves, turn, bad, State.reply]

/-- Beginning a command touches its port alone. -/
theorem startCmd_frame {h : Hdr} {code : Nat} {s s1 : State} (turn : s.startCmd h code = some s1) :
    s1 = { s with hosts := s1.hosts } ∧ ∀ p, p ≠ h.port.val → s1.hosts[p]? = s.hosts[p]? := by
  unfold State.startCmd at turn
  obtain ⟨q, -, rfl⟩ := Option.map_eq_some_iff.1 turn
  refine ⟨rfl, fun p hp => ?_⟩
  simp only [State.modHost]
  exact getElem?_modAt_other hp

/-- What R212 asks of the form, for a command with no bad byte: the checks that are left. -/
theorem check_form {c : CmdSpec} {h : Hdr} {s : State} (f : h.flags < 8) (b : h.badByte = none) :
    c.check h s =
      (if c.steward = true ∧ h.port.val ≠ s.steward then some (stNotSteward, 0)
       else if c.owners.any (fun o => match o with | none => false | some q => q ≠ h.port.val) then some (stNotOwner, 0)
       else if c.modes s.sys.mode = false then some (stBadMode, 0)
       else if c.noRelease = true ∧ s.sys.release = true then some (stBadMode, 0)
       else match c.range with | some o => some (stMalformed, o) | none => none) := by
  have q : h.flags / 8 = 0 := by omega
  unfold CmdSpec.check
  rw [if_neg (by omega), b]

end Sys2Proof.Machine
end

