-- ==== Sys2Proof/WellFormed.lean ====
section
/-! DEFINITION. Well-formed commands: every operand fits the field that carries it. The meanings are total and do not
ask for it; a claim may. -/

namespace Sys2Proof

/-- A number fits an unsigned field. -/
def fits (w n : Nat) : Bool := decide (n < 2 ^ w)

/-- A number fits a two's complement field. -/
def fitsS (w : Nat) (x : Int) : Bool := decide (-(2 ^ (w - 1) : Int) ≤ x) && decide (x < (2 ^ (w - 1) : Int))

/-- FLAGS is 16 bits and the entry is 128 bytes long (R210). -/
def Hdr.wf (h : Hdr) : Bool :=
  fits 16 h.flags && (match h.badByte with | none => true | some b => decide (b < 128))

/-- Six bytes of seconds and 30 bits of nanoseconds (R210). -/
def MailTime.wf (t : MailTime) : Bool := fits 48 t.s && fits 30 t.ns

/-- A PTP frame's domain and VID fit their fields (R188, R319). -/
def PtpFrame.wf (f : PtpFrame) : Bool := fits 8 f.domain && fits 12 f.vid

/-- An Announce message's fields fit the widths of IEEE 1588 (R188, log 74). -/
def Announce.wf (a : Announce) : Bool :=
  fits 16 a.master && fits 8 a.clockClass && fits 8 a.accuracy && fits 16 a.variance && fits 8 a.priority2 &&
    fits 8 a.localPriority && fits 64 a.identity && fits 16 a.steps && fits 8 a.domain && fits 12 a.vid && fits 128 a.addr

/-- The fields of a plan change entry (R216). -/
def PlanChange.wf (c : PlanChange) : Bool :=
  fits 8 c.kind && fits 16 c.port && fits 16 c.port2 && fits 16 c.ratio && fits 8 c.reserved

/-- At most 14 changes (R134). -/
def changesWf (l : List PlanChange) : Bool := decide (l.length ≤ 14) && l.all PlanChange.wf

/-- A command entry: 16-bit code and flags, 120 bytes of parameters (R210). -/
def RawCmd.wf (c : RawCmd) : Bool := fits 16 c.code && fits 16 c.flags && decide (c.params.length ≤ 120)

/-- At most 64 entries lie between two doorbells (R209). -/
def entriesWf (l : List RawCmd) : Bool := decide (l.length ≤ 64) && l.all RawCmd.wf

/-- A cluster has 68 inputs (R11). -/
def inputsWf (l : List RawInput) : Bool := decide (l.length = 68)

/-- Codes of 12 bits, by converter and reference, at most twelve converters (R126). -/
def sarWf (l : List (List Nat)) : Bool := decide (l.length ≤ 12) && l.all (fun q => q.all (fits 12))

/-- At most one report per cell. -/
def padsWf (l : List PadSense) : Bool := decide ((l.map PadSense.cell).Nodup)

/-- A braid address has 40 bits (R243); a piece is 1 to 256 bytes. -/
def BraidReq.wf (q : BraidReq) : Bool :=
  fits 40 q.addr && fits 4 q.qos &&
    (match q.op with
     | .read n => decide (1 ≤ n) && decide (n ≤ 256)
     | .write bs => decide (1 ≤ bs.length) && decide (bs.length ≤ 256))

/-- Every arriving request is well formed. -/
def arrivalsWf (l : List BraidReq) : Bool := l.all BraidReq.wf

/-- A command whose operands fit their fields. -/
def Instr.wf : Instr → Bool
  | .powerOnReset => true
  | .resetNReset _ => true
  | .supplyLoss _ => true
  | .deviceResetRampDone => true
  | .lcsSresetWrite _ _ => true
  | .lcsLcReqWrite _ _ => true
  | .makerAuthorisation => true
  | .pllLock _ => true
  | .refAbsentStart => true
  | .sramWipeDone _ => true
  | .loadImageCheck _ => true
  | .haltUartReport => true
  | .ddrTrainingDone _ _ => true
  | .dramWipeDone _ _ => true
  | .loadEnd => true
  | .powerDomainRequest _ _ => true
  | .powerDomainUp _ sarCal => sarWf sarCal
  | .clusterRowPowerUp sarCal => decide (sarCal.length ≤ 16) && sarCal.all sarWf
  | .clusterBoundary _ inputs sarCodes => inputsWf inputs && decide (sarCodes.length = 12) && sarCodes.all (fits 12)
  | .loopPeriodDone _ _ slack pads => fits 16 slack && padsWf pads
  | .hPathUpdate _ => true
  | .honlyDitherFlip _ => true
  | .darkDetect _ => true
  | .litDetect _ => true
  | .frozenCodeRun _ => true
  | .stuckRetestEnd _ => true
  | .holdRecovery _ => true
  | .pendRetireTimeout _ => true
  | .engineLivenessFail _ => true
  | .engineCheckpoint _ => true
  | .fPadFault _ => true
  | .darkTrimUpdate _ => true
  | .ptapRangeStep _ _ => true
  | .heaterOcTrip _ => true
  | .padcfgApply _ _ => true
  | .rangeBreakEnd _ => true
  | .sparePowered _ => true
  | .spareLoaded _ => true
  | .spareSelftestDone _ _ => true
  | .clusterPowerDown _ => true
  | .retireListAppend kind unit => fits 8 kind && fits 16 unit
  | .islandInterval _ vhtrMv measMa => fits 16 vhtrMv && fits 16 measMa
  | .isenseFault _ => true
  | .budgetInterval => true
  | .connect h inst inp out time => Hdr.wf h && fits 8 inst && fits 16 inp && fits 16 out && MailTime.wf time
  | .disconnect h inst port time => Hdr.wf h && fits 8 inst && fits 16 port && MailTime.wf time
  | .planOpen h inst => Hdr.wf h && fits 8 inst
  | .planAdd h epoch changes => Hdr.wf h && fits 16 epoch && changesWf changes
  | .planCommit h epoch channel time => Hdr.wf h && fits 16 epoch && fits 8 channel && MailTime.wf time
  | .planAbort h epoch => Hdr.wf h && fits 16 epoch
  | .solverTakeItem => true
  | .solveDone => true
  | .commitAtLoad _ => true
  | .epochSeal _ => true
  | .epochCommit => true
  | .epochExpire _ => true
  | .epochReportWrite _ => true
  | .fabEpCtrlWrite _ _ => true
  | .allowRetireMove _ => true
  | .queryPort h first count outAddr outLen _ => Hdr.wf h && fits 16 first && fits 16 count && fits 64 outAddr && fits 32 outLen
  | .queryCell h cell => Hdr.wf h && fits 16 cell
  | .health h outAddr outLen _ => Hdr.wf h && fits 64 outAddr && fits 32 outLen
  | .timeGet h => Hdr.wf h
  | .eventBind h channel vector source enable => Hdr.wf h && fits 8 channel && fits 8 vector && fits 16 source && fits 8 enable
  | .recMark h inst _ => Hdr.wf h && fits 8 inst
  | .recFreeze h action => Hdr.wf h && fits 8 action
  | .recExport h region src len outAddr => Hdr.wf h && fits 8 region && fits 64 src && fits 64 len && fits 64 outAddr
  | .modeSet h mode => Hdr.wf h && fits 8 mode
  | .thermalResume h => Hdr.wf h
  | .calRequest h => Hdr.wf h
  | .hkcSyscal h core input stage fsUv => Hdr.wf h && fits 8 core && fits 8 input && fits 8 stage && fitsS 32 fsUv
  | .syscalCaptureDone _ _ _ => true
  | .netFailover h => Hdr.wf h
  | .imageStage h _ srcAddr len => Hdr.wf h && fits 64 srcAddr && fits 32 len
  | .imageActivate h graceMs => Hdr.wf h && fits 16 graceMs
  | .releaseGraceEnd => true
  | .commandDoorbell _ tail entries => fits 32 tail && entriesWf entries
  | .commandTake _ => true
  | .completionHeadWrite _ v => fits 32 v
  | .noticeHeadWrite _ v => fits 32 v
  | .mbxEnableWrite _ _ => true
  | .noticePost _ => true
  | .eventDoorbell _ => true
  | .mirrorRefresh _ => true
  | .msixHoldoffEnd _ _ => true
  | .bar4Write _ offset _ => fits 30 offset
  | .bar2Read _ offset len => fits 30 offset && fits 13 len
  | .pairLowRead _ _ => true
  | .hostPortReset _ => true
  | .hostLinkUp _ _ => true
  | .incReload => true
  | .nsWrap => true
  | .eraWrite _ => true
  | .eraAutoIncrement => true
  | .topOfSecond => true
  | .timeStepWrite _ => true
  | .stepApply => true
  | .timeLoad taiS => fits 48 taiS
  | .compareArm _ => true
  | .compareDisarm _ => true
  | .compareFire _ => true
  | .captureStamp _ _ => true
  | .captureSwTrigger _ => true
  | .captureRead _ _ => true
  | .ppsInRise => true
  | .ppsInQualified _ => true
  | .ppsOutRise => true
  | .ppsOutFall => true
  | .servoUpdate _ => true
  | .servoStateWrite _ => true
  | .referenceLoss => true
  | .referenceReturn _ => true
  | .ftLearn => true
  | .ftBinCommit _ _ => true
  | .ftTableSave => true
  | .driftUpdate => true
  | .holdoverSpecExceeded => true
  | .announceTimeout => true
  | .syntGateEnd _ => true
  | .efcUpdate => true
  | .ptpSync frame master seq _ origin corr => PtpFrame.wf frame && fits 16 master && fits 16 seq && MailTime.wf origin && fitsS 64 corr
  | .ptpFollowUp frame master seq origin corr => PtpFrame.wf frame && fits 16 master && fits 16 seq && MailTime.wf origin && fitsS 64 corr
  | .ptpDelayReqSend => true
  | .ptpDelayResp frame master seq receipt corr => PtpFrame.wf frame && fits 16 master && fits 16 seq && MailTime.wf receipt && fitsS 64 corr
  | .ptpAnnounce msg => Announce.wf msg
  | .arpNdRequest addr => fits 128 addr
  | .otherFrameRx => true
  | .cleatWrite _ => true
  | .cleatBbmRelease => true
  | .linkChange _ _ _ => true
  | .linkLossTrigger => true
  | .failoverWrite _ => true
  | .failoverTrigger _ => true
  | .netPathPowered => true
  | .failingClear => true
  | .failoverTimeout => true
  | .holddownExpire => true
  | .stormClear => true
  | .linkStable => true
  | .snapshotWrite => true
  | .channelAccept _ _ => true
  | .softwareFire _ _ => true
  | .consumerArrive _ _ _ merged => fits 16 merged
  | .consumerIdle _ => true
  | .gpioInEdge _ _ _ => true
  | .gpioPulseEnd _ => true
  | .evtChCfgWrite _ _ _ => true
  | .trippedClear _ _ => true
  | .braidPieceGrant _ arrivals _ => arrivalsWf arrivals
  | .atomicOp _ addr size _ operand compare _ => fits 40 addr && (size = 4 || size = 8) && fits 64 operand && fits 64 compare
  | .masterReset _ beats => fits 16 beats
  | .masterPortReopen _ => true
  | .mtxErrRearm => true
  | .dmaStart _ _ => true
  | .dmaDisable _ => true
  | .dmaNop _ => true
  | .dmaMove _ _ => true
  | .dmaFill _ _ => true
  | .dmaCompare _ _ => true
  | .dmaGather _ _ => true
  | .dmaLoop _ => true
  | .dmaEndloop _ => true
  | .dmaWait _ => true
  | .dmaWaitResume _ _ => true
  | .dmaWaitTimeout _ => true
  | .dmaSignal _ => true
  | .dmaHalt _ => true
  | .dmaPacedBlock _ _ _ => true
  | .dmaAccessError _ addr _ _ _ => fits 40 addr
  | .dmaStopClear => true
  | .refEnable => true
  | .refReady => true
  | .hkcSlotEnd _ => true
  | .hkcConversionDone _ _ _ => true
  | .hkcPassEnd _ _ _ => true
  | .hkcSwStart _ => true
  | .hkcCoreDisable _ => true
  | .hkcDischargeEnd _ => true
  | .hkcFlush _ => true
  | .hkcFifoRead _ _ => true
  | .censusPrioWrite _ => true
  | .hkcSeqWrite _ _ _ => true
  | .shutdownRampDone => true
  | .shutdownRecordWrite => true
  | .tailCapsuleWrite => true
  | .thmResumeWrite _ => true
  | .firmwareReturn _ => true
  | .firmwareFault => true
  | .watchdogKick => true
  | .watchdogFirstExpire => true
  | .watchdogRestartExpire => true
  | .darkDeferredPowerDown _ => true
  | .darkEntryDone => true
  | .darkExitDone => true
  | .calSweepDone _ => true
  | .nvmTest _ => true
  | .skimSnapshot => true
  | .captureBlock => true
  | .blockWriteDone => true
  | .ddrChannelFail _ => true
  | .logRecordWrite kind _ _ => fits 16 kind
  | .recCtrlFreeze _ => true
  | .recCtrlCapEn _ => true
  | .efcEnable _ => true
  | .efcCodeWrite _ => true
  | .registerWrite _ addr _ => fits 40 addr
  | .resetRelease _ => true
  | .ppsInTimeout => true
  | .imageStageDone _ => true
  | .recExportDone bytes _ => fits 64 bytes

end Sys2Proof
end

