-- ==== Sys2Proof/Tests/Slice0.lean ====
section
/-! SUPPORT. Tests of the model: what WellFormed refuses, worked examples of the spec, and a state that meets the hypotheses of
each statement. Expected values come from the rule each test names. -/

namespace Sys2Proof.Tests

set_option Elab.async false

open Sys2Proof Sys2Proof.Machine

/-! ### A small device -/

/-- A running image with one XBAR instance of two by two ports of host 0 on cells 0 to 3, a GATE on port end 0 and a TRIM on port
end 2; its bytes are not looked at. -/
def img0 : RunImage :=
  { bytes := [1, 2],
    image := {
      fabm := { instCount := 1,
                insts := [{ topo := 3, n := 2, inBase := 0, outBase := 2, logicalCount := 4, gateCount := 1, trimCount := 1 }],
                cells := [⟨0, 1, 0, 0, 0, 0⟩, ⟨1, 1, 0, 1, 0, 0⟩, ⟨2, 1, 0, 2, 0, 0⟩, ⟨3, 1, 0, 3, 0, 0⟩, ⟨4, 2, 0, 0, 0, 0⟩, ⟨5, 3, 0, 2, 0, 0⟩],
                ports := [⟨0, 0, 1, 0, 4, 0xFFFF⟩, ⟨1, 1, 1, 0, 0xFFFF, 0xFFFF⟩, ⟨2, 2, 2, 0, 0xFFFF, 5⟩, ⟨3, 3, 2, 0, 0xFFFF, 0xFFFF⟩] },
      part := { instCount := 1, recs := [{ inst := 0, owner := 0 }] },
      hkcv := { rtd := List.replicate 16 (100000, 4) },
      dmap := { regions := [(1, 2, 2)] } } }

/-- The atlas of that device. -/
def atl0 : AtlasSlot :=
  { cells := (List.range 6).map (fun n => (n, { role := if n = 4 then 2 else if n = 5 then 3 else 1, pB := 10000, fCurve := (List.range 17).map (fun k => 1000 * (k : Int)) })) }

/-- Its flash. -/
def fl0 : Flash := { slotA := some { bytes := img0.bytes, act := 0 }, atlasA := some atl0 }

/-- A cell of an engine that follows. -/
def cell0 : Cell := { parked := false, fParked := false, eng := { st := .track, count := 5000, sinceTake := 5000, taken := some {} } }

/-- A cluster that works at 1 µs periods: the previous boundary at 1,000,000 ns. -/
def clu0 : Cluster := { pow := .on, everOn := true, cells := List.replicate 32 cell0, lastB := some 1000000, bIx := 3 }

/-- The device in SERVICE, 1,000,600 ns after the counters were loaded with 0. -/
def svc : State :=
  { State.reset with
    sys := { mode := .service, ready := true, stage := 5, held := false, sramOk := true, img := some img0, atlas := some atl0, flash := some fl0,
             present := true, idJedec := 1, idSfdp := [0x53, 0x46, 0x44, 0x50] },
    power := { cores := List.replicate 4 .on, sram := List.replicate 8 .on, pcie := List.replicate 4 .on, ddr := [.on, .on], hkc := .on,
               recorder := .on, dma := .on, solver := .on, periph := .on, braid := .on },
    clusters := clu0 :: List.replicate 255 {},
    islands := { pow := .on, vhtr := 3300 } :: List.replicate 15 {},
    time := { run := true, pllLock := true, refValid := true, refFreq := 2, wns := 1000600, sph := 1000600 },
    hosts := List.replicate 4 { linkUp := true, enable := true },
    evt := { applied := true },
    rcd := { on := true, f := 16, present := [true, false, false, false], place := [0, 0, 0, 0],
             rings := [[{ size := 2 ^ 20 }, { size := 2 ^ 20 }, { size := 2 ^ 20 }], [{}, {}, {}], [{}, {}, {}], [{}, {}, {}]],
             sizes := [(2 ^ 20, 2 ^ 20, 2 ^ 20), (0, 0, 0), (0, 0, 0), (0, 0, 0)] } }

/-- The same device reached through its DDR channels. -/
def svcD : State := { svc with sys := { svc.sys with ddrOk := [true, true], ddrTrained := [true, true], ddrDone := [true, true] } }

/-- A command of host 0. -/
def h0 : Hdr := { port := 0, tag := 7 }

/-- Firmware has taken the command of this code next (R210); and begins it. -/
def tk (h : Hdr) (code : Nat) (s : State) : State :=
  s.modHost h.port.val (fun q => { q with taken := q.taken ++ [⟨{ code := code, flags := h.flags, tag := h.tag }, false, none, q.takes⟩], takes := q.takes + 1 })
def go (h : Hdr) (code : Nat) (s : State) : State := (s.startCmd h code).getD s

/-- The state in which a command so taken has begun. -/
def bg (h : Hdr) (code : Nat) (s : State) : State := go h code (tk h code s)

/-- The state a command answers. -/
def nx (o : Host.Outcome State Fault Refusal) : State := match o with | .next t => t | .fault _ => State.reset | .refused _ => State.reset

/-- The state a taken command of the mailbox answers. -/
def rn (h : Hdr) (code : Nat) (i : Instr) (s : State) : State := nx (exec i (tk h code s))

/-! ### SRAM answers every piece of a secure master -/

theorem sram_target (a : Nat) (h1 : 0x2000000000 ≤ a) (h2 : a < 0x2002000000) : 2 ≤ targetOf a ∧ targetOf a < 6 := by
  unfold targetOf
  rw [if_neg (by omega), if_neg (by omega), if_pos h2]
  omega

theorem sram_rsp (s : State) (hs : ∀ b, b < 8 → s.power.sram.getD b .off = .on) (ok : s.sys.sramOk = true) (a k : Nat) (h1 : 0x2000000000 ≤ a) (h2 : a < 0x2002000000) :
    s.readRsp 5 true a k = 0 ∧ s.writeRsp 5 true a k = 0 ∧ isMemory a = true := by
  obtain ⟨t1, t2⟩ := sram_target a h1 h2
  have m : isMemory a = true := by simp [isMemory, t2]
  have n : s.noTarget 5 a = false := by
    have b := hs ((a - 0x2000000000) / 0x400000) (by omega)
    unfold State.noTarget
    simp only []
    rw [if_neg (by omega), if_neg (by omega), if_pos t2, b, ok]
    rfl
  have r : s.mayRead 5 true a k = true := rfl
  have w : s.mayWrite 5 true a k = true := rfl
  simp [State.readRsp, State.writeRsp, n, r, w, badSize, m, rspOk]

theorem sram_ranges (s : State) (hs : ∀ b, b < 8 → s.power.sram.getD b .off = .on) (ok : s.sys.sramOk = true) (start len : Nat) (h1 : 0x2000000000 ≤ start)
    (h2 : start + len ≤ 0x2002000000) : Safe.dmaReads s true start len ∧ Safe.dmaWrites s true start len := by
  constructor <;> refine ⟨by omega, by omega, fun a k _ _ _ => ?_⟩ <;>
    have q := sram_rsp s hs ok a k (by omega) (by omega)
  · exact ⟨q.1, q.2.2⟩
  · exact ⟨q.2.1, q.2.2⟩
/-! ### WellFormed refuses what no field carries -/
/-- The head of a command, its time and its changes (R134, R210). -/
theorem test_wf_heads :
    ([.timeGet { h0 with flags := 65536 }, .timeGet { h0 with badByte := some 128 }, .connect h0 256 0 0 {}, .connect h0 0 65536 0 {},
      .connect h0 0 0 65536 {}, .connect h0 0 0 0 { s := 2 ^ 48 }, .disconnect h0 0 0 { ns := 2 ^ 30 }, .disconnect h0 256 0 {},
      .disconnect h0 0 65536 {}, .planOpen h0 256, .planAdd h0 65536 [], .planAdd h0 0 (List.replicate 15 { kind := 1 }),
      .planAdd h0 0 [{ kind := 256 }], .planAdd h0 0 [{ kind := 1, port := 65536 }], .planAdd h0 0 [{ kind := 1, port2 := 65536 }],
      .planAdd h0 0 [{ kind := 1, ratio := 65536 }], .planAdd h0 0 [{ kind := 1, reserved := 256 }], .planCommit h0 65536 0 {},
      .planCommit h0 0 256 {}, .planAbort h0 65536] : List Instr).all (fun i => !i.wf) = true := by decide
/-- Operands of the other mailbox commands (R216-R220). -/
theorem test_wf_mailbox :
    ([.queryPort h0 65536 1 0 8 true, .queryPort h0 0 65536 0 8 true, .queryPort h0 0 1 (2 ^ 64) 8 true, .queryPort h0 0 1 0 (2 ^ 32) true,
      .queryCell h0 65536, .health h0 (2 ^ 64) 64 true, .health h0 0 (2 ^ 32) true, .eventBind h0 256 0 0 0, .eventBind h0 0 256 0 0,
      .eventBind h0 0 0 65536 0, .eventBind h0 0 0 0 256, .recMark h0 256 0, .recFreeze h0 256, .recExport h0 256 0 0 0,
      .recExport h0 0 (2 ^ 64) 0 0, .recExport h0 0 0 (2 ^ 64) 0, .recExport h0 0 0 0 (2 ^ 64), .modeSet h0 256, .hkcSyscal h0 256 0 0 0,
      .hkcSyscal h0 1 256 0 0, .hkcSyscal h0 1 0 256 0, .hkcSyscal h0 1 0 1 (2 ^ 31), .hkcSyscal h0 1 0 1 (-(2 ^ 31) - 1),
      .imageStage h0 [] (2 ^ 64) 0, .imageStage h0 [] 0 (2 ^ 32), .imageActivate h0 65536] : List Instr).all (fun i => !i.wf) = true := by
  decide +kernel
/-- Windows and rings (R205-R210). -/
theorem test_wf_windows :
    ([.commandDoorbell 0 (2 ^ 32) [], .commandDoorbell 0 0 (List.replicate 65 { code := 1 }), .commandDoorbell 0 0 [{ code := 65536 }],
      .commandDoorbell 0 0 [{ code := 1, flags := 65536 }], .commandDoorbell 0 0 [{ code := 1, params := List.replicate 121 0 }],
      .completionHeadWrite 0 (2 ^ 32), .noticeHeadWrite 0 (2 ^ 32), .bar4Write 0 (2 ^ 30) 0, .bar2Read 0 (2 ^ 30) 4, .bar2Read 0 0 8192,
      .recExportDone (2 ^ 64) true] : List Instr).all (fun i => !i.wf) = true := by decide +kernel
/-- What the cells, the counters, the network and the buses report. -/
theorem test_wf_reports :
    ([.clusterBoundary 0 (List.replicate 67 {}) (List.replicate 12 0), .clusterBoundary 0 (List.replicate 68 {}) (List.replicate 11 0),
      .loopPeriodDone 0 .clean 65536 [], .loopPeriodDone 0 .clean 0 [{ cell := 3 }, { cell := 3 }], .retireListAppend 256 0,
      .retireListAppend 1 65536, .islandInterval 0 65536 0, .islandInterval 0 0 65536,
      .clusterBoundary 0 (List.replicate 68 {}) (List.replicate 12 4096), .powerDomainUp (.cluster 0) [[4096]], .powerDomainUp (.cluster 0) (List.replicate 13 []),
      .clusterRowPowerUp (List.replicate 17 []), .timeLoad (2 ^ 48), .ptpSync {} 65536 0 true {} 0, .ptpSync {} 0 65536 true {} 0,
      .ptpSync {} 0 0 true { ns := 2 ^ 30 } 0, .ptpSync {} 0 0 true {} (2 ^ 63), .ptpSync { domain := 256 } 0 0 true {} 0, .ptpFollowUp {} 65536 0 {} 0,
      .ptpDelayResp {} 0 0 {} (-(2 ^ 63) - 1), .ptpDelayResp { vid := 4096 } 0 0 {} 0, .ptpAnnounce { master := 65536 }, .ptpAnnounce { master := 0, addr := 2 ^ 128 },
      .arpNdRequest (2 ^ 128), .consumerArrive 0 0 0 65536, .braidPieceGrant 0 [⟨0, 2 ^ 40, .read 1, 0, true⟩] false,
      .braidPieceGrant 0 [⟨0, 0, .read 0, 0, true⟩] false, .braidPieceGrant 0 [⟨0, 0, .read 257, 0, true⟩] false, .braidPieceGrant 0 [⟨0, 0, .write [], 0, true⟩] false,
      .braidPieceGrant 0 [⟨0, 0, .write (List.replicate 257 0), 0, true⟩] false, .braidPieceGrant 0 [⟨0, 0, .read 1, 16, true⟩] false,
      .atomicOp 0 (2 ^ 40) 4 .add 0 0 false, .atomicOp 0 0 2 .add 0 0 false, .atomicOp 0 0 4 .add (2 ^ 64) 0 false,
      .atomicOp 0 0 4 .add 0 (2 ^ 64) false,
      .masterReset 0 65536, .dmaAccessError 0 (2 ^ 40) true 1 [], .logRecordWrite 65536 [] 0,
      .registerWrite 0 (2 ^ 40) 0] : List Instr).all (fun i => !i.wf) = true := by decide +kernel
/-- The greatest operands that fit. -/
theorem test_wf_accepts :
    ([.connect { h0 with flags := 65535, badByte := some 127 } 255 65535 65535 { s := 2 ^ 48 - 1, ns := 2 ^ 30 - 1 },
      .planAdd h0 65535 (List.replicate 14 ⟨255, 65535, 65535, 65535, 255⟩), .hkcSyscal h0 1 0 1 (-(2 ^ 31)),
      .commandDoorbell 0 (2 ^ 32 - 1) (List.replicate 64 { code := 65535, flags := 65535, params := List.replicate 120 255 }),
      .clusterBoundary 255 (List.replicate 68 {}) (List.replicate 12 4095), .loopPeriodDone 0 .residue 65535 [{ cell := 3 }, { cell := 4 }],
      .braidPieceGrant 10 [⟨13, 2 ^ 40 - 1, .read 256, 15, false⟩] true, .atomicOp 13 (2 ^ 40 - 1) 8 .compareSwap (2 ^ 64 - 1) (2 ^ 64 - 1) true,
      .clusterRowPowerUp (List.replicate 16 (List.replicate 12 [4095])),
      .registerWrite 0 (2 ^ 40 - 1) 0] : List Instr).all Instr.wf = true := by decide +kernel
/-- The table gives no row any bits: no word spells a command. -/
theorem test_no_word_spells (nbits w : Nat) : decodeTableWord nbits w = none := rfl
/-- So a word put in front leaves the state as it is. -/
theorem test_withFetchWord (s : State) (nbits w : Nat) : s.withFetchWord nbits w = s := rfl
/-! ### States that meet the hypotheses of the statements, and what the commands leave there -/

/-! ### Two images, byte by byte
Laid out by hand from R318, R319 and the tables of the fifteen sections, and signed outside the model: one XBAR instance of two by two
ports of host 0 on cells 0 to 3, a GATE on port end 0 and a TRIM on port end 2. In the dry one no DRAM channel is fitted. -/
/-- The same `n` bytes `k` times. -/
def reps (k n v : Nat) : List Byte := (List.replicate k (leBytes n v)).flatten
/-- The image header. -/
def imgHdr : List Byte :=
  [leBytes 20 0x5A470008000137C000000001000F00014B524F4B, List.replicate 40 0, leBytes 4 0x39CE0647].flatten
def imgHead : List Byte :=
  [leBytes 1 0x1, List.replicate 15 0, leBytes 32 0x6000000150544E444900000000000001100000004044414548,
   leBytes 32 0x12110000002104D4241460000000000000060000001B04D415244, leBytes 32 0x52000012350504F4F4C00000000000000300001232054524150,
   leBytes 32 0x24000012890454D4954000000000000001C00012870534C5441, leBytes 32 0x73000012B6052545645000000000000009000012AD04354454E,
   leBytes 32 0x90000134F04D52485400000000000002600001329050414D44, leBytes 32 0x22000136B054534F4800000000000001300001358056434B48,
   leBytes 16 0xE0000136E04E474953].flatten
def imgIdnt : List Byte :=
  [leBytes 1 0x1, List.replicate 79 0].flatten
def imgDram : Bool → List Byte
  | false =>
    [leBytes 1 0x1, List.replicate 15 0, leBytes 6 0x190008014001, List.replicate 26 0, leBytes 6 0x190008014001,
     List.replicate 26 0].flatten
  | true =>
    [leBytes 1 0x1, List.replicate 16 0, leBytes 5 0x1900080140, List.replicate 27 0, leBytes 5 0x1900080140, List.replicate 26 0].flatten
/-- Fabm: up to cell 5, then 8,186 cells that are not used, then the port ends. -/
def fabmCells : List Byte :=
  [leBytes 7 0x1210000010001, List.replicate 25 0, leBytes 13 0x1000100040002000000020003, List.replicate 211 0,
   leBytes 32 0x30001000000000002000100000000000100010000000000000001, leBytes 16 0x200030000000000000002].flatten
def fabmPorts : List Byte :=
  [leBytes 28 0x200030005FFFF00020002FFFFFFFF00010001FFFF000400010000, reps 1020 8 0xFF00FFFFFFFFFFFF, leBytes 4 0xFFFFFFFF].flatten
def imgFabm : List Byte := fabmCells ++ ((List.replicate 8186 unusedCell).flatten ++ fabmPorts)
def imgPart : List Byte :=
  [leBytes 3 0x10001, List.replicate 29 0].flatten
def imgLoop : List Byte :=
  [leBytes 3 0x10001, List.replicate 269 0, leBytes 30 0x1388010000187000002000807D0000400040400000000400040008010212,
   List.replicate 994 0].flatten
def imgAtls : List Byte :=
  leBytes 12 0x49600C8010000000001
def imgTime : List Byte :=
  [leBytes 6 0x180100020001, List.replicate 14 0, leBytes 28 0x186A0000000640000280000640000000000000080000000007080,
   reps 128 4 0x80000000].flatten
def imgNetc : List Byte :=
  [leBytes 7 0x1E0A0000000001, List.replicate 121 0].flatten
def imgEvtr : List Byte :=
  [leBytes 12 0x1, List.replicate 16 0x04, leBytes 3 0x0, reps 128 8 0x1003E80800010400, List.replicate 769 0].flatten
def imgDmap : List Byte :=
  [leBytes 25 0x2000000020000000100000000000000000000001000000001, List.replicate 567 0].flatten
def imgThrm : List Byte :=
  [leBytes 32 0x400045F00690056005A004D0050006C00760067006C005F006400020A0001, leBytes 6 0x8CA00FA07D00, List.replicate 38 0,
   leBytes 3 0x1ADB0, List.replicate 49 0].flatten
def imgHkcv : List Byte :=
  [leBytes 19 0x989680009896800D6B00FF1010000000000001, List.replicate 13 0, reps 16 8 0x4000186A0, List.replicate 64 0, leBytes 1 0x1,
   List.replicate 63 0].flatten
def imgHost : List Byte :=
  leBytes 18 0x606060600000001
def imgSign : Bool → List Byte
  | false =>
    [leBytes 32 0x7A83B09869512F9530A099C8EB25BA2ED26903AF01EA6D57E8BFE75C46ACA204,
     leBytes 32 0x66A2EA09A4997D76626012097D9F01F91EF5554074B7631F06AEE32AED000700,
     leBytes 32 0x5D56D057A79DF0330E546E100BC4D225B09DE576FE2D561B962E59570D6471F1, leBytes 1 0xDD, List.replicate 15 0,
     leBytes 32 0xC6DD7593F4B35CA75111B1673484C89614EE1A9142A739A60AE168C8A4052445,
     leBytes 32 0xACE696B476F79BD5D34D6D83F4288750CAA078B34A7F0EBC632F0BA9DB39B0DD,
     leBytes 32 0x8538B5C106A78D040049DB21CB8B9AFF81151A5759DB6FD5205E90BD62E488E5].flatten
  | true =>
    [leBytes 32 0x7A83B09869512F9530A099C8EB25BA2ED26903AF01EA6D57E8BFE75C46ACA204,
     leBytes 32 0x66A2EA09A4997D76626012097D9F01F91EF5554074B7631F06AEE32AED000700,
     leBytes 32 0x5D56D057A79DF0330E546E100BC4D225B09DE576FE2D561B962E59570D6471F1, leBytes 1 0xDD, List.replicate 15 0,
     leBytes 32 0xC6DD7593F4B35CA75111B1673484C89614EE1A9142A739A60AE168C8A4052445,
     leBytes 32 0xA61EA361D6D98E9173DD9A811A972B79CAA078B34A7F0EBC632F0BA9DB39B0DD,
     leBytes 32 0xB489AFA8510D71D8043C6213D1F325F6805B8BD9E87D0AC53C1FCBA0E0F2A11F].flatten
/-- The sections that come before FABM, FABM, those between it and SIGN, and SIGN: header, body, its length, padding. -/
structure Sec where
  head : List Byte
  body : List Byte
  len : Nat
  pad : Nat
def secsA (dry : Bool) : List Sec :=
  [⟨leBytes 16 0x7783F03E0000010044414548, imgHead, 256, 0⟩,
   ⟨leBytes 16 0x280F8CF000000050544E4449, imgIdnt, 80, 0⟩,
   ⟨leBytes 16 (if dry then 0x854CF448000000504D415244 else 0xCCE4CB81000000504D415244), imgDram dry, 80, 0⟩]
def secFabm : Sec := ⟨leBytes 16 0x10B50A2000121004D424146, imgFabm, 73984, 0⟩
def secsB : List Sec :=
  [⟨leBytes 16 0xA28CA7680000002054524150, imgPart, 32, 0⟩,
   ⟨leBytes 16 0x97CA76A200000510504F4F4C, imgLoop, 1296, 0⟩,
   ⟨leBytes 16 0xE14777ED0000000C534C5441, imgAtls, 12, 4⟩,
   ⟨leBytes 16 0xC6E80F8B00000230454D4954, imgTime, 560, 0⟩,
   ⟨leBytes 16 0xA4B99A9B000000804354454E, imgNetc, 128, 0⟩,
   ⟨leBytes 16 0x545FD6A40000072052545645, imgEvtr, 1824, 0⟩,
   ⟨leBytes 16 0xBDA0591C0000025050414D44, imgDmap, 592, 0⟩,
   ⟨leBytes 16 0x41F70EDF000000804D524854, imgThrm, 128, 0⟩,
   ⟨leBytes 16 0xD5A2562D0000012056434B48, imgHkcv, 288, 0⟩,
   ⟨leBytes 16 0x436B84010000001254534F48, imgHost, 18, 14⟩]
def secSign (dry : Bool) : Sec :=
  ⟨leBytes 16 (if dry then 0x4D9FE828000000D04E474953 else 0x8AE898E2000000D04E474953), imgSign dry, 208, 0⟩
/-- Sections one after the other. -/
def lay : List Sec → List Byte
  | [] => []
  | q :: r => q.head ++ (q.body ++ (List.replicate q.pad 0 ++ lay r))
def goodSecs (dry : Bool) : List Sec := secsA dry ++ (secFabm :: (secsB ++ [secSign dry]))
/-- The bytes of the image. -/
def good (dry : Bool) : List Byte := imgHdr ++ lay (goodSecs dry)
/-- What FABM says, but for the CRC of its cells. -/
def goodFabm : Fabm :=
  { instCount := 1,
    insts := [{ topo := 3, n := 2, inBase := 0, outBase := 2, logicalCount := 4, gateCount := 1, trimCount := 1 }],
    cells := [⟨0, 1, 0, 0, 0, 0⟩, ⟨1, 1, 0, 1, 0, 0⟩, ⟨2, 1, 0, 2, 0, 0⟩, ⟨3, 1, 0, 3, 0, 0⟩, ⟨4, 2, 0, 0, 0, 0⟩, ⟨5, 3, 0, 2, 0, 0⟩],
    ports := [⟨0, 0, 1, 0, 4, 0xFFFF⟩, ⟨1, 1, 1, 0, 0xFFFF, 0xFFFF⟩, ⟨2, 2, 2, 0, 0xFFFF, 5⟩, ⟨3, 3, 2, 0, 0xFFFF, 0xFFFF⟩],
    tableCrc := (readFabm imgFabm).tableCrc }
/-- The sections' fields. -/
def goodImage (dry : Bool) : Image :=
  { idnt := { product := List.replicate 24 0 },
    dram := [{ fitted := !dry, timing := List.replicate 24 0 }, { fitted := !dry, timing := List.replicate 24 0 }],
    fabm := goodFabm, part := { instCount := 1, recs := [{ inst := 0, owner := 0 }] }, loop := { periods := List.replicate 256 0 },
    time := { seed := List.replicate 128 none }, netc := { latIn := List.replicate 4 0, latOut := List.replicate 4 0 },
    evtr := { gpioOwner := List.replicate 16 4, chans := List.replicate 128 {}, cons := List.replicate 96 {} },
    dmap := { regions := [(1, 2, 2), (0, 0, 0), (0, 0, 0), (0, 0, 0)] }, thrm := { delta := List.replicate 18 0 },
    hkcv := { core1 := { seq := List.replicate 16 {} }, core2 := { seq := { input := 1 } :: List.replicate 15 {} },
              rtd := List.replicate 16 (100000, 4) },
    sign := readSign (imgSign dry) }

/-! ### The checks pass -/
/-- A section as the directory's entry and the section itself describe it. -/
def secOf (q : Sec × List Byte) : SecHdr :=
  { dirTag := le 4 0 q.2, offset := le 4 4 q.2, length := le 4 8 q.2, dirReserved := le 4 12 q.2, tag := le 4 0 q.1.head, bodyLen := le 4 4 q.1.head,
    bodyCrc := le 4 8 q.1.head, reserved := le 4 12 q.1.head, body := q.1.body }
/-- The directory's entries say where the sections stand, the first at the given offset. -/
def fits : Nat → List Sec → List (List Byte) → Bool
  | _, [], [] => true
  | o, q :: r, e :: es =>
    decide (le 4 4 e = o) && decide (q.head.length = 16) && decide (le 4 4 q.head = q.len) && fits (o + 16 + q.len + q.pad) r es
  | _, _, _ => false
theorem readSecs_lay : ∀ (secs : List Sec) (es : List (List Byte)) (o p : Nat) (bytes : List Byte), (∀ q ∈ secs, q.body.length = q.len) →
    fits p secs es = true → o ≤ p → bytes.drop (p - o) = lay secs → readSecs o bytes es = (secs.zip es).map secOf
  | [], [], _, _, _, _, _, _, _ => rfl
  | [], _ :: _, _, _, _, _, f, _, _ => by simp [fits] at f
  | _ :: _, [], _, _, _, _, f, _, _ => by simp [fits] at f
  | q :: r, e :: es, o, p, bytes, len, f, h, d => by
    simp only [fits, Bool.and_eq_true, decide_eq_true_eq] at f
    obtain ⟨⟨⟨fe, fh⟩, fb⟩, fr⟩ := f
    have lq := len q (by simp)
    have d' : bytes.drop (le 4 4 e - o) = q.head ++ (q.body ++ (List.replicate q.pad 0 ++ lay r)) := by rw [fe, d, lay]
    rw [readSecs_cons d' fh (by omega), readSecs_lay r es (max o (le 4 4 e)) (p + 16 + q.len + q.pad) _ (fun x hx => len x (by simp [hx])) fr (by omega)
      (drop_section (by simp; omega) fh)]
    rfl
theorem lay_append : ∀ a b : List Sec, lay (a ++ b) = lay a ++ lay b
  | [], _ => rfl
  | q :: r, b => by simp [lay, lay_append r b, List.append_assoc]
theorem imgFabm_length : imgFabm.length = 73984 := by
  unfold imgFabm
  rw [List.length_append, List.length_append, unused_length]
  decide +kernel
theorem good_lens (dry : Bool) : ∀ q ∈ goodSecs dry, q.body.length = q.len := by
  intro q h
  simp only [goodSecs, List.mem_append, List.mem_cons] at h
  have a : ∀ q ∈ secsA dry, q.body.length = q.len := by cases dry <;> decide +kernel
  have b : ∀ q ∈ secsB, q.body.length = q.len := by decide +kernel
  have c : (secSign dry).body.length = (secSign dry).len := by cases dry <;> decide +kernel
  rcases h with h | rfl | h | h
  · exact a q h
  · exact imgFabm_length
  · exact b q h
  · obtain rfl : q = secSign dry := by simpa using h
    exact c
/-- HEAD's directory. -/
def goodDirs : List (List Byte) := recs 16 15 (imgHead.drop 16)
/-- The sections as firmware reads them. -/
def goodList (dry : Bool) : List SecHdr := ((goodSecs dry).zip goodDirs).map secOf
theorem good_dir (dry : Bool) : readDir (good dry) = goodList dry := by
  have e : recs 16 15 ((good dry).drop 0x60) = goodDirs := by cases dry <;> decide +kernel
  unfold readDir
  rw [e]
  refine readSecs_lay (goodSecs dry) goodDirs 0 64 (good dry) (good_lens dry) ?_ (by omega) ?_
  · cases dry <;> decide +kernel
  · exact List.drop_left' (by decide +kernel)
theorem good_header (dry : Bool) : hdrFault (readHdr (good dry)) = none := by cases dry <;> decide +kernel
theorem good_directory (dry : Bool) : dirCheck (readHdr (good dry)) (goodList dry) = none := by cases dry <;> decide +kernel
theorem fabm_crc : crc32c imgFabm = le 4 8 secFabm.head := by decide +kernel
theorem crcCheck_none {l : List SecHdr} (h : ∀ q ∈ l, crc32c q.body = q.bodyCrc) : crcCheck l = none := by
  have f : ∀ (l : List SecHdr) (i : Nat), (∀ q ∈ l, crc32c q.body = q.bodyCrc) →
      firstIx (fun _ (h : SecHdr) => decide (crc32c h.body = h.bodyCrc)) i l = none := by
    intro l
    induction l with
    | nil => intros; rfl
    | cons q r ih => intro i h; simp only [firstIx, h q (by simp), decide_true, if_true]; exact ih _ (fun x hx => h x (by simp [hx]))
  simp only [crcCheck, f l 0 h, Option.map_none]
theorem good_crcs (dry : Bool) : crcCheck (goodList dry) = none := by
  refine crcCheck_none (fun q h => ?_)
  obtain ⟨x, hx, rfl⟩ := List.mem_map.1 h
  have m : x.1 ∈ goodSecs dry := (List.of_mem_zip hx).1
  simp only [goodSecs, List.mem_append, List.mem_cons] at m
  have a : ∀ q ∈ secsA dry, crc32c q.body = le 4 8 q.head := by cases dry <;> decide +kernel
  have b : ∀ q ∈ secsB, crc32c q.body = le 4 8 q.head := by decide +kernel
  have c : crc32c (secSign dry).body = le 4 8 (secSign dry).head := by cases dry <;> decide +kernel
  show crc32c x.1.body = le 4 8 x.1.head
  rcases m with m | m | m | m
  · exact a _ m
  · rw [m]; exact fabm_crc
  · exact b _ m
  · obtain e : x.1 = secSign dry := by simpa using m
    rw [e]; exact c
/-- The bytes that are signed: up to the cells that are not used, those, and what is behind them. -/
def msgA (dry : Bool) : List Byte := imgHdr ++ (lay (secsA dry) ++ (secFabm.head ++ (fabmCells ++ (List.replicate 6 unusedCell).flatten)))
def msgB : List Byte := (List.replicate 8176 unusedCell).flatten
def msgC : List Byte := (List.replicate 4 unusedCell).flatten ++ (fabmPorts ++ lay secsB)
theorem msgA_length (dry : Bool) : (msgA dry).length = 128 * 7 := by cases dry <;> decide +kernel
theorem msgB_length : msgB.length = 128 * 511 := by unfold msgB; rw [unused_length]
theorem msgC_length : msgC.length = 13280 := by decide +kernel
theorem fabm_split : imgFabm = fabmCells ++ ((List.replicate 6 unusedCell).flatten ++ (msgB ++ ((List.replicate 4 unusedCell).flatten ++ fabmPorts))) := by
  unfold imgFabm msgB
  rw [show (8186 : Nat) = 6 + (8176 + 4) from rfl, List.replicate_append_replicate.symm, List.flatten_append, List.replicate_append_replicate.symm,
    List.flatten_append]
  simp only [List.append_assoc]
theorem good_split (dry : Bool) : good dry = (msgA dry ++ (msgB ++ msgC)) ++ lay [secSign dry] := by
  have f : lay (secFabm :: (secsB ++ [secSign dry])) = secFabm.head ++ (imgFabm ++ (lay secsB ++ lay [secSign dry])) := by
    rw [lay, lay_append, show List.replicate secFabm.pad (0 : Byte) = [] from rfl, List.nil_append, show secFabm.body = imgFabm from rfl]
  unfold good goodSecs msgA msgC
  rw [lay_append, f, fabm_split]
  simp only [List.append_assoc]
theorem signed_part (dry : Bool) : (good dry).take (secAt (goodList dry) 14) = msgA dry ++ (msgB ++ msgC) := by
  have e : secAt (goodList dry) 14 = 79584 := by cases dry <;> decide +kernel
  rw [e, good_split]
  refine List.take_left' ?_
  rw [List.length_append, List.length_append, msgA_length, msgB_length, msgC_length]
theorem hash_cells_false : shaRun 511 msgB
    ⟨0xb26aeef44e508f27, 0xfeb19fe2b6627f0, 0x71fa74a7df688bc2, 0xdbee4259c7786d3d, 0xfae7c27ef30fa28, 0xdfe8583a82a852c9, 0xda509a9c88a2d7cd, 0xf72b852e3c719e24⟩ =
    ⟨0x5905aae209b36d26, 0x5fe75210bbb43b0f, 0x13a2fa1f25c0cd73, 0x92b68d4a0cd48041, 0x4589b13dca94e647, 0x9195c4af5f35f7bb, 0x5e8dd685d1d60b37, 0xc0ae80a8720eaf4b⟩ := by decide +kernel
theorem hash_cells_true : shaRun 511 msgB
    ⟨0xab33fade9df5855c, 0xf4b72cda78208c99, 0x97ab233e915972e5, 0x5cc9dda2b0e4c24, 0xf918ab691dab320b, 0xbc1d9d643a56ba63, 0x7362b2b792eb15f, 0x25a60aeecc0ebcdd⟩ =
    ⟨0x227dfe808bc7e635, 0xd51a4c15b9ab1cdc, 0x92c4b66666c502b0, 0x4122618354f3bbdc, 0x5bcd944820f7d8fb, 0x91f88c1ec55866aa, 0x5ffb20892a205840, 0x56e880ce3b0bb1b7⟩ := by decide +kernel
theorem hash_end_false : (let s := shaRun 104 (msgC ++ shaPad 79584) ⟨0x5905aae209b36d26, 0x5fe75210bbb43b0f, 0x13a2fa1f25c0cd73, 0x92b68d4a0cd48041, 0x4589b13dca94e647, 0x9195c4af5f35f7bb, 0x5e8dd685d1d60b37, 0xc0ae80a8720eaf4b⟩
    [s.b, s.c, s.d, s.e, s.f].foldl (fun n x => n * 2 ^ 64 + x) s.a) = 0x23f20b3df2851805ae36d032470dd98a04eba98a9a01787b2441ff75062f5641b08c05fb934fd230f2c4dab3921e0e6c := by decide +kernel
theorem hash_end_true : (let s := shaRun 104 (msgC ++ shaPad 79584) ⟨0x227dfe808bc7e635, 0xd51a4c15b9ab1cdc, 0x92c4b66666c502b0, 0x4122618354f3bbdc, 0x5bcd944820f7d8fb, 0x91f88c1ec55866aa, 0x5ffb20892a205840, 0x56e880ce3b0bb1b7⟩
    [s.b, s.c, s.d, s.e, s.f].foldl (fun n x => n * 2 ^ 64 + x) s.a) = 0x6784959bb6d22d3cd6f8dae9568b04eaac31fdcd2859ce86f64a376e145aae0e8ae5b85c5ef218ccc5c8e63d4bf34c20 := by decide +kernel
theorem hash_begin (dry : Bool) : shaRun 7 (msgA dry) shaIv = if dry then
    ⟨0xab33fade9df5855c, 0xf4b72cda78208c99, 0x97ab233e915972e5, 0x5cc9dda2b0e4c24, 0xf918ab691dab320b, 0xbc1d9d643a56ba63, 0x7362b2b792eb15f, 0x25a60aeecc0ebcdd⟩ else
    ⟨0xb26aeef44e508f27, 0xfeb19fe2b6627f0, 0x71fa74a7df688bc2, 0xdbee4259c7786d3d, 0xfae7c27ef30fa28, 0xdfe8583a82a852c9, 0xda509a9c88a2d7cd, 0xf72b852e3c719e24⟩ := by cases dry <;> decide +kernel
theorem hash_parts (dry : Bool) : shaRun 622 ((msgA dry ++ (msgB ++ msgC)) ++ shaPad 79584) shaIv =
    shaRun 104 (msgC ++ shaPad 79584) (shaRun 511 msgB (shaRun 7 (msgA dry) shaIv)) := by
  rw [List.append_assoc, List.append_assoc, show 622 = 7 + (511 + 104) from rfl, shaRun_append _ _ 7 _ _ (msgA_length dry),
    shaRun_append _ _ 511 _ _ msgB_length]
theorem good_hash (dry : Bool) : sha384 (msgA dry ++ (msgB ++ msgC)) = if dry then 0x6784959bb6d22d3cd6f8dae9568b04eaac31fdcd2859ce86f64a376e145aae0e8ae5b85c5ef218ccc5c8e63d4bf34c20 else 0x23f20b3df2851805ae36d032470dd98a04eba98a9a01787b2441ff75062f5641b08c05fb934fd230f2c4dab3921e0e6c := by
  have n : (msgA dry ++ (msgB ++ msgC)).length = 79584 := by
    rw [List.length_append, List.length_append, msgA_length, msgB_length, msgC_length]
  unfold sha384
  rw [n, show (79584 + 17 + 127) / 128 = 622 from rfl, hash_parts, hash_begin]
  cases dry
  · rw [if_neg (by decide), if_neg (by decide), hash_cells_false]; exact hash_end_false
  · rw [if_pos rfl, if_pos rfl, hash_cells_true]; exact hash_end_true
theorem good_signature (dry : Bool) : signatureOk ((imgSign dry).take 97) (((imgSign dry).drop 0x70).take 96) (if dry then 0x6784959bb6d22d3cd6f8dae9568b04eaac31fdcd2859ce86f64a376e145aae0e8ae5b85c5ef218ccc5c8e63d4bf34c20 else 0x23f20b3df2851805ae36d032470dd98a04eba98a9a01787b2441ff75062f5641b08c05fb934fd230f2c4dab3921e0e6c) = true := by
  cases dry <;> decide +kernel
theorem fabm_tail : imgFabm.drop 0x100 = fabmCells.drop 0x100 ++ ((List.replicate 8186 unusedCell).flatten ++ fabmPorts) := by
  unfold imgFabm
  rw [List.drop_append_of_le_length (by decide +kernel)]
theorem fabm_ports : (imgFabm.drop 0x100).drop 0x10000 = fabmPorts := by
  rw [fabm_tail, ← List.append_assoc]
  refine List.drop_left' ?_
  rw [List.length_append, unused_length]
  decide +kernel
/-- The entries of the six cells in use. -/
def sixCells : List Byte :=
  [1, 0, 0, 0, 0, 0, 0, 0, 1, 0, 1, 0, 0, 0, 0, 0, 1, 0, 2, 0, 0, 0, 0, 0, 1, 0, 3, 0, 0, 0, 0, 0, 2, 0, 0, 0, 0, 0, 0, 0, 3, 0, 2, 0, 0, 0, 0, 0]
theorem six_cells (k : Nat) (rest : List Byte) : readCells (k + 1 + 1 + 1 + 1 + 1 + 1) (sixCells ++ rest) =
      [⟨8191 - (k + 5), 1, 0, 0, 0, 0⟩, ⟨8191 - (k + 4), 1, 0, 1, 0, 0⟩, ⟨8191 - (k + 3), 1, 0, 2, 0, 0⟩, ⟨8191 - (k + 2), 1, 0, 3, 0, 0⟩,
       ⟨8191 - (k + 1), 2, 0, 0, 0, 0⟩, ⟨8191 - k, 3, 0, 2, 0, 0⟩] ++ readCells k rest ∧
    cellsUnclean (k + 1 + 1 + 1 + 1 + 1 + 1) (sixCells ++ rest) = cellsUnclean k rest := ⟨rfl, rfl⟩
theorem fabm_cells : readCells 8192 (imgFabm.drop 0x100) = goodFabm.cells ∧ cellsUnclean 8192 (imgFabm.drop 0x100) = none := by
  have e : fabmCells.drop 0x100 = sixCells := by decide +kernel
  have s := six_cells 8186 ((List.replicate 8186 unusedCell).flatten ++ fabmPorts)
  have c := readCells_unused 0 fabmPorts 8186
  have u := cellsUnclean_unused 0 fabmPorts 8186
  rw [Nat.zero_add] at c u
  rw [c, u] at s
  rw [fabm_tail, e]
  exact s
/-- A body with the fields of the good one. -/
theorem fabm_fields : ∀ f : Fabm, (f.format, f.instCount, f.bodyLength, f.picId, f.picRev, f.insts) = (1, 1, 0x12100, 0, 0, goodFabm.insts) →
    f.cells = goodFabm.cells → f.ports = goodFabm.ports → f.tableCrc = goodFabm.tableCrc → f.badReserved = none → f = goodFabm := by
  rintro ⟨⟩ h h1 h2 h3 h4
  simp only [Prod.mk.injEq] at h
  obtain ⟨a, b, c, d, e, g⟩ := h
  simp only at *
  subst a b c d e g h1 h2 h3 h4
  rfl
theorem good_fabm : readFabm imgFabm = goodFabm := by
  refine fabm_fields _ (by decide +kernel) ?_ ?_ rfl ?_
  · rw [readFabm_cells, fabm_cells.1]
  · rw [readFabm_ports, fabm_ports]
    decide +kernel
  · rw [readFabm_reserved, fabm_cells.2]
    decide +kernel
theorem good_sections : readIdnt imgIdnt = (goodImage false).idnt ∧ (∀ dry, readDram (imgDram dry) = (goodImage dry).dram) ∧
    readPart imgPart = (goodImage false).part ∧ readLoop imgLoop = (goodImage false).loop ∧ readAtls imgAtls = (goodImage false).atls ∧
    readTime imgTime = (goodImage false).time ∧ readNetc imgNetc = (goodImage false).netc := by
  decide +kernel
theorem good_sections_2 : readEvtr imgEvtr = (goodImage false).evtr ∧ readDmap imgDmap = (goodImage false).dmap ∧
    readThrm imgThrm = (goodImage false).thrm ∧ readHkcv imgHkcv = (goodImage false).hkcv ∧ readHost imgHost = (goodImage false).host := by
  decide +kernel
theorem good_image (dry : Bool) : readImage (goodList dry) = goodImage dry := by
  have r : readImage (goodList dry) = { goodImage dry with
      idnt := readIdnt imgIdnt, dram := readDram (imgDram dry), fabm := readFabm imgFabm, part := readPart imgPart, loop := readLoop imgLoop,
      atls := readAtls imgAtls, time := readTime imgTime, netc := readNetc imgNetc, evtr := readEvtr imgEvtr, dmap := readDmap imgDmap,
      thrm := readThrm imgThrm, hkcv := readHkcv imgHkcv, host := readHost imgHost } := by
    cases dry <;> rfl
  obtain ⟨a, b, c, d, e, f, g⟩ := good_sections
  obtain ⟨h, i, j, k, l⟩ := good_sections_2
  rw [r, a, b dry, good_fabm, c, d, e, f, g, h, i, j, k, l]
  cases dry <;> rfl
theorem good_bodies (dry : Bool) : bodyCheck (some 2) (readHdr (good dry)) (goodList dry) (goodImage dry) = none := by
  cases dry <;> decide +kernel
/-- The image passes every check, with the reference that it names (R320, R321). -/
theorem good_passes (dry : Bool) (act : Bool) (w : Word) (ok : act = false ∨ w = 0) :
    checkSlot act none (some 2) { bytes := good dry, act := w } = none := by
  have r : restFault none (some 2) (good dry) = none := by
    have h : signCheck none (good dry) (goodList dry) (readSign (imgSign dry)) = none := by
      unfold signCheck
      rw [signed_part, good_hash, show (readSign (imgSign dry)).key = (imgSign dry).take 97 from rfl,
        show (readSign (imgSign dry)).sig = ((imgSign dry).drop 0x70).take 96 from rfl, good_signature]
      rfl
    unfold restFault
    simp only []
    rw [good_dir, good_image, good_directory, good_crcs, show (goodImage dry).sign = readSign (imgSign dry) from rfl, h, good_bodies]
    rfl
  unfold checkSlot
  rw [show (({ bytes := good dry, act := w } : ImageSlot).bytes) = good dry from rfl, good_header, r]
  rcases ok with rfl | rfl
  · rfl
  · cases act <;> rfl
/-- The fields of the image. -/
theorem good_fields (dry : Bool) : imageOf (good dry) = goodImage dry := by unfold imageOf; rw [good_dir, good_image]

/-- The counters one tick before they cross nothing: INC is 4 ns. -/
def sTick : State := { svc with time := { svc.time with wns := 2 ^ 31 - 5, sph := 999999995 } }

/-- A queue of two commands. -/
theorem witness_StepRunsFrontCommand :
  { svc with pending := [.nsWrap, .topOfSecond] }.pending = .nsWrap :: [.topOfSecond] := by decide +kernel

def wnsWrapRaisesNsWrap_w := { sTick with time := { sTick.time with wns := 2 ^ 32 - 3 }, evt := { sTick.evt with chans := sTick.evt.chans.set 5 { en := true, src := 1 } } }

def wnsWrapRaisesNsWrap_t := nx (exec .nsWrap wnsWrapRaisesNsWrap_w)

/-- R164, three nanoseconds before the wrap. -/
theorem witness_WnsWrapRaisesNsWrap :
  wnsWrapRaisesNsWrap_w.time.run = true ∧ 0 < wnsWrapRaisesNsWrap_w.time.inc ∧ wnsWrapRaisesNsWrap_w.time.inc < 2 ^ 40 ∧ wnsWrapRaisesNsWrap_w.time.frac < 2 ^ 32 ∧ wnsWrapRaisesNsWrap_w.time.wns < 2 ^ 32 ∧ wnsWrapRaisesNsWrap_w.time.sph < 1000000000 ∧
    wnsWrapRaisesNsWrap_t.time.wns = 1 ∧ wnsWrapRaisesNsWrap_t.time.frac = wnsWrapRaisesNsWrap_w.time.frac ∧ wnsWrapRaisesNsWrap_t.time.eraStale = true ∧ wnsWrapRaisesNsWrap_t.evt.chanIn.length = 1 := by decide +kernel

def resetsComplete_s := { svc with sys := { svc.sys with resetting := some .watchdog } }

def resetsComplete_t := nx (exec .deviceResetRampDone resetsComplete_s)

def resetsComplete_u := nx (exec .powerOnReset { svc with thm := { svc.thm with safeLatch := true } })

/-- Each reset, and its end (R303, R304). -/
theorem witness_ResetsComplete :
  resetsComplete_s.sys.resetting = some .watchdog ∧ ResetKind.watchdog ≠ .powerOn ∧
    resetsComplete_t.sys.mode = .churn ∧ resetsComplete_t.sys.cause = .watchdog ∧ resetsComplete_t.time.wns = 1000600 ∧ resetsComplete_t.sys.flash = svc.sys.flash ∧
    resetsComplete_u.thm.safeLatch = false ∧ resetsComplete_u.sys.mode = .churn ∧ resetsComplete_u.sys.flash = svc.sys.flash ∧ resetsComplete_u.time.wns = 0 := by decide +kernel

def deviceResetsBegin_s := { svc with sys := { svc.sys with strap := true, lc := .sealed_ } }

def deviceResetsBegin_ha := { svc with sys := { svc.sys with strap := true, halt := 2 } }

def deviceResetsBegin_mk := { deviceResetsBegin_s with sys := { deviceResetsBegin_s.sys with lc := .maker } }

def deviceResetsBegin_rt := { deviceResetsBegin_s with sys := { deviceResetsBegin_s.sys with lc := .returned } }

/-- R370: 1 µs resets, less than 0.7 µs does not; R337: the key, and FORCE with a circuit; R323: LC_REQ with LCSTRAP high. -/
theorem witness_DeviceResetsBegin :
  svc.sys.resetting = none ∧ svc.sys.held = false ∧ deviceResetsBegin_mk.sys.lc = .maker ∧ deviceResetsBegin_rt.sys.lc = .returned ∧
    1000 ≤ 1000 ∧ 699 < 700 ∧
    svc.rwsWriter 0 = true ∧ svc.power.periph = .on ∧ svc.sys.halt = 0 ∧ deviceResetsBegin_ha.sys.halt ≠ 0 ∧ deviceResetsBegin_ha.sys.strap = true ∧
    (0x0000A5C3#32).toNat % 65536 = 0xA5C3 ∧ svc.fab.circuits = [] ∧ ¬((0x0000A5C2#32).toNat % 65536 = 0xA5C3) ∧
    deviceResetsBegin_s.sys.strap = true ∧ deviceResetsBegin_s.sys.lc = .sealed_ ∧ (0x00003E0D#32).toNat % 65536 = 0x3E0D ∧
    (nx (exec (.resetNReset 1000) svc)).sys.resetting = some .resetN ∧
    (nx (exec (.lcsSresetWrite 0 0x0000A5C3) svc)).sys.resetting = some .steward ∧
    (nx (exec (.lcsSresetWrite 0 0x0000A5C2) svc)).sys.srRefused = true ∧
    (nx (exec (.lcsLcReqWrite 0 0x00003E0D) deviceResetsBegin_s)).sys.lc = .ended ∧
    (nx (exec .makerAuthorisation deviceResetsBegin_s)).sys.lc = .returned ∧ (nx (exec .makerAuthorisation deviceResetsBegin_mk)).sys.lc = .open_ ∧ (nx (exec (.lcsLcReqWrite 0 0x00003E0D) deviceResetsBegin_rt)).sys.lc = .ended := by decide +kernel

/-- In CHURN with RESET_N released. -/
def sChurn : State := { State.reset with sys := { held := false, flash := some fl0 }, power := { braid := .on, sram := List.replicate 8 .on }, mem := [⟨0x2000000000, 9⟩, ⟨0x2001FFFFFF, 1⟩, ⟨0x4000000000, 5⟩] }

/-- In LOAD at a stage. -/
def sLoad (k : Nat) : State := { svc with sys := { svc.sys with mode := .load, stage := k, ready := false } }

def startUpClockAndSram_t := nx (exec (.sramWipeDone ⟨true, true⟩) sChurn)

def startUpClockAndSram_f := nx (exec (.sramWipeDone ⟨false, true⟩) sChurn)

def startUpClockAndSram_g := nx (exec (.sramWipeDone ⟨true, false⟩) sChurn)

def startUpClockAndSram_p := nx (exec (.pllLock 2) { sChurn with sys := sChurn.sys })

def startUpClockAndSram_ns := { sLoad 1 with time := {} }

def startUpClockAndSram_r := nx (exec (.resetRelease true) { State.reset with pending := [] })

/-- The release, a lost rail, the lock, no reference, and the SRAM fill up to its last byte. -/
theorem witness_StartUpClockAndSram :
  State.reset.sys.held = true ∧ Rail.vhtr ≠ .vcore ∧ Rail.vhtr ≠ .vio ∧
    sChurn.sys.held = false ∧ sChurn.time.pllLock = false ∧ sChurn.time.run = false ∧
    startUpClockAndSram_ns.time.run = false ∧ startUpClockAndSram_ns.sys.mode = .load ∧
    sChurn.sys.mode = .churn ∧ sChurn.sys.resetting = none ∧ sChurn.sys.sramOk = false ∧ sChurn.sys.lc ≠ .returned ∧ sChurn.sys.lc ≠ .ended ∧
    startUpClockAndSram_g.sys.halt = 4 ∧ startUpClockAndSram_t.sys.mode = .load ∧ startUpClockAndSram_t.sys.stage = 1 ∧ startUpClockAndSram_t.mem = [⟨0x4000000000, 5⟩] ∧ startUpClockAndSram_f.sys.halt = 1 ∧ startUpClockAndSram_p.time.run = true := by decide +kernel

/-- An image slot that passes, with or without DRAM, and one that fails its MAGIC with a newer generation. -/
def goodSlot (dry : Bool) : ImageSlot := { bytes := good dry, act := 0 }
def badSlot : ImageSlot := { bytes := leBytes 12 0x20000000000000000, act := 0 }
def fGood (dry : Bool) : Flash := { slotA := some (goodSlot dry) }
def fNext : Flash := { slotA := some badSlot, slotB := some (goodSlot false) }
def fBad : Flash := { slotA := some badSlot, slotB := some badSlot }
def fOne : Flash := { slotA := some badSlot }

theorem slot_passes {f : Flash} {k : Nat} {dry : Bool} (h : f.image k = some (goodSlot dry)) : (sLoad 1).trySlot f k = .inr (good dry) := by
  have p : checkSlot true (if (sLoad 1).sys.lc = .sealed_ then some (sLoad 1).sys.keyHash else none)
      (if (sLoad 1).time.refValid then some (sLoad 1).time.refFreq else none) (goodSlot dry) = none :=
    good_passes dry true 0 (Or.inr rfl)
  unfold State.trySlot
  rw [h]
  simp only [p]
  rfl
/-- R321: slot A alone, a failing slot before one that passes, an image that fits no channel, two slots and one slot that fail, no flash. -/
theorem witness_ImageCheckChoosesSlot :
    ((sLoad 1).sys.mode = .load ∧ (sLoad 1).sys.stage = 1 ∧ (sLoad 1).firmware = true ∧ (sLoad 1).time.run = true ∧ (sLoad 1).sys.lc ≠ .maker ∧
      (sLoad 1).sys.bootRule = 0) ∧
    ((fGood false).signed = true ∧ slotOrder (slotGen (fGood false).slotA) (slotGen (fGood false).slotB) = [0, 1] ∧
      (sLoad 1).trySlot (fGood false) 0 = .inr (good false) ∧ ((imageOf (good false)).dram.getD 0 {}).fitted = true) ∧
    (fNext.signed = true ∧ slotOrder (slotGen fNext.slotA) (slotGen fNext.slotB) = [0, 1] ∧ (sLoad 1).trySlot fNext 0 = .inl ⟨0, 0, 321⟩ ∧
      (sLoad 1).trySlot fNext 1 = .inr (good false)) ∧
    ((fGood true).signed = true ∧ slotOrder (slotGen (fGood true).slotA) (slotGen (fGood true).slotB) = [0, 1] ∧
      (sLoad 1).trySlot (fGood true) 0 = .inr (good true) ∧ ((imageOf (good true)).dram.getD 0 {}).fitted = false ∧
      ((imageOf (good true)).dram.getD 1 {}).fitted = false) ∧
    (fBad.signed = true ∧ slotOrder (slotGen fBad.slotA) (slotGen fBad.slotB) = [0, 1] ∧ (sLoad 1).trySlot fBad 0 = .inl ⟨0, 0, 321⟩ ∧
      (sLoad 1).trySlot fBad 1 = .inl ⟨0, 0, 321⟩) ∧
    (fOne.signed = true ∧ slotErased (fOne.image 0) = false ∧ fOne.image (1 - 0) = none ∧ (sLoad 1).trySlot fOne 0 = .inl ⟨0, 0, 321⟩) ∧
    (none.orElse (fun _ => State.reset.sys.flash)).filter Flash.signed = none ∧
    { sLoad 1 with sys := { (sLoad 1).sys with halt := 2 } }.sys.halt ≠ 0 := by
  refine ⟨by decide +kernel, ⟨by decide +kernel, by decide +kernel, slot_passes rfl, ?_⟩,
    ⟨by decide +kernel, by decide +kernel, by decide +kernel, slot_passes rfl⟩, ⟨by decide +kernel, by decide +kernel, slot_passes rfl, ?_, ?_⟩,
    by decide +kernel, by decide +kernel, by decide +kernel, by decide +kernel⟩ <;> rw [good_fields] <;> rfl

def imageCheckEval_t := nx (exec (.loadImageCheck (some (fGood false))) (sLoad 1))

def imageCheckEval_u := nx (exec (.loadImageCheck (some fNext)) (sLoad 1))

def imageCheckEval_z := nx (exec (.loadImageCheck (some (fGood true))) (sLoad 1))

def imageCheckEval_v := nx (exec (.loadImageCheck (some fBad)) (sLoad 1))

def imageCheckEval_o := nx (exec (.loadImageCheck (some fOne)) (sLoad 1))

def imageCheckEval_n := nx (exec (.loadImageCheck none) { sLoad 1 with sys := { (sLoad 1).sys with flash := none } })

def imageCheckEval_hs := { sLoad 1 with sys := { (sLoad 1).sys with halt := 2 } }

def imageCheckEval_h := nx (exec .haltUartReport imageCheckEval_hs)

def ddrChannelsCome_s := { sLoad 2 with sys := { (sLoad 2).sys with flash := some {}, atlas := none }, power := { svc.power with ddr := [.on, .on] }, mem := [⟨0x5, 5⟩, ⟨0x1000000000, 6⟩] }

def ddrChannelsCome_s1 := { ddrChannelsCome_s with sys := { ddrChannelsCome_s.sys with ddrTrained := [true, false] } }

def ddrChannelsCome_t := nx (exec (.ddrTrainingDone 0 true) ddrChannelsCome_s)

def ddrChannelsCome_u := nx (exec (.ddrTrainingDone 0 false) ddrChannelsCome_s)

def ddrChannelsCome_v := nx (exec (.dramWipeDone 0 true) ddrChannelsCome_s1)

def ddrChannelsCome_w := nx (exec (.dramWipeDone 0 false) ddrChannelsCome_s1)

def ddrChannelsCome_p := { ddrChannelsCome_s with sys := { ddrChannelsCome_s.sys with ddrTrained := [false, true] } }

def ddrChannelsCome_x := nx (exec (.ddrTrainingDone 0 true) ddrChannelsCome_p)

def ddrChannelsCome_y := { ddrChannelsCome_s with sys := { ddrChannelsCome_s.sys with ddrDone := [false, true], ddrFail := [false, true] } }

def ddrChannelsCome_z := nx (exec (.ddrTrainingDone 0 false) ddrChannelsCome_y)

def ddrChannelsCome_s4 := { ddrChannelsCome_s1 with sys := { ddrChannelsCome_s1.sys with stage := 4 } }

def ddrChannelsCome_s3 := { ddrChannelsCome_s1 with sys := { ddrChannelsCome_s1.sys with stage := 3, ddrTrained := [true, true] } }

def ddrChannelsCome_y3 := nx (exec (.dramWipeDone 0 true) ddrChannelsCome_s3)

/-- R307, on the channel that comes first. -/
theorem witness_DdrChannelsCome :
  ddrChannelsCome_s.sys.mode = .load ∧ ddrChannelsCome_s.sys.halt = 0 ∧ ddrChannelsCome_s.sys.stage = 2 ∧ ddrChannelsCome_s.firmware = true ∧ ddrChannelsCome_s.sys.ddrDone = [false, false] ∧ ddrChannelsCome_s.sys.ddrTrained.getD 0 false = false ∧ ddrChannelsCome_s1.sys.ddrTrained.getD 0 false = true ∧ ddrChannelsCome_s.power.ddr.getD 0 .off = .on ∧ ddrChannelsCome_s.sys.ddrOk = [false, false] ∧ ddrChannelsCome_s.sys.ddrFail = [false, false] ∧
    ddrChannelsCome_s.ddrPast 1 = false ∧ ddrChannelsCome_p.ddrPast 1 = true ∧ ddrChannelsCome_p.sys.ddrTrained.getD 0 false = false ∧ ddrChannelsCome_y.sys.ddrDone.getD 1 true = true ∧ ddrChannelsCome_y.sys.ddrOk = [false, false] ∧ ddrChannelsCome_s4.sys.stage = 4 ∧ ddrChannelsCome_s3.sys.stage = 3 ∧
    ddrChannelsCome_x.sys.stage = 3 ∧ ddrChannelsCome_y3.sys.stage = 4 ∧ ddrChannelsCome_z.sys.halt = 3 ∧
    ddrChannelsCome_t.sys.ddrTrained = [true, false] ∧ ddrChannelsCome_u.sys.ddrFail = [true, false] ∧ ddrChannelsCome_v.sys.ddrOk = [true, false] ∧ ddrChannelsCome_v.mem = [⟨0x1000000000, 6⟩] := by decide +kernel

def loadEndsInItsMode_s := { sLoad 4 with sys := { (sLoad 4).sys with ddrOk := [true, true], ddrTrained := [true, true], ddrDone := [true, true] } }

def loadEndsInItsMode_l := { loadEndsInItsMode_s with thm := { loadEndsInItsMode_s.thm with safeLatch := true } }

def loadEndsInItsMode_q := { loadEndsInItsMode_s with sys := { loadEndsInItsMode_s.sys with strap := true, img := some { img0 with image := { img0.image with idnt := { sealReq := true, ownerKeyHash := 77 } } } } }

def loadEndsInItsMode_na := { loadEndsInItsMode_s with sys := { loadEndsInItsMode_s.sys with atlas := none } }

def loadEndsInItsMode_je := ({ gen := 1, kind := 1, slot := 1 } : JournalEntry).sealCrc

def loadEndsInItsMode_op := { loadEndsInItsMode_s with sys := { loadEndsInItsMode_s.sys with flash := some { journal := [loadEndsInItsMode_je] } } }

def loadEndsInItsMode_rs := { loadEndsInItsMode_op with sys := { loadEndsInItsMode_op.sys with img := some ({ img0 with image := { img0.image with atls := { calResume := true } } }) } }

def loadEndsInItsMode_tn := nx (exec .loadEnd loadEndsInItsMode_na)

def loadEndsInItsMode_to := nx (exec .loadEnd loadEndsInItsMode_op)

def loadEndsInItsMode_tr := nx (exec .loadEnd loadEndsInItsMode_rs)

def loadEndsInItsMode_t := nx (exec .loadEnd loadEndsInItsMode_s)

def loadEndsInItsMode_u := nx (exec .loadEnd loadEndsInItsMode_l)

def loadEndsInItsMode_v := nx (exec .loadEnd loadEndsInItsMode_q)

/-- R311 and R323: the latch set, an atlas in use, and an image that asks to be sealed. -/
theorem witness_LoadEndsInItsMode :
  loadEndsInItsMode_s.loadDone = true ∧ loadEndsInItsMode_l.loadDone = true ∧ loadEndsInItsMode_q.loadDone = true ∧ loadEndsInItsMode_q.sys.resetting = none ∧ loadEndsInItsMode_q.sys.held = false ∧ loadEndsInItsMode_s.sealDue = false ∧ loadEndsInItsMode_s.thm.safeLatch = false ∧ loadEndsInItsMode_s.openSweep = none ∧ loadEndsInItsMode_s.sys.atlas.isSome = true ∧
    loadEndsInItsMode_l.firmware = true ∧ loadEndsInItsMode_l.sealDue = false ∧ loadEndsInItsMode_l.thm.safeLatch = true ∧
    loadEndsInItsMode_na.loadDone = true ∧ loadEndsInItsMode_na.sealDue = false ∧ loadEndsInItsMode_na.thm.safeLatch = false ∧ loadEndsInItsMode_na.openSweep = none ∧ loadEndsInItsMode_na.sys.atlas = none ∧
    loadEndsInItsMode_op.loadDone = true ∧ loadEndsInItsMode_op.sealDue = false ∧ loadEndsInItsMode_op.thm.safeLatch = false ∧ loadEndsInItsMode_op.openSweep = some (loadEndsInItsMode_je, []) ∧ loadEndsInItsMode_op.image.atls.calResume = false ∧
    loadEndsInItsMode_rs.loadDone = true ∧ loadEndsInItsMode_rs.sealDue = false ∧ loadEndsInItsMode_rs.thm.safeLatch = false ∧ loadEndsInItsMode_rs.openSweep = some (loadEndsInItsMode_je, []) ∧ loadEndsInItsMode_rs.image.atls.calResume = true ∧ (loadEndsInItsMode_je).gen = loadEndsInItsMode_rs.nextGen ∧ (loadEndsInItsMode_je).slot ≠ loadEndsInItsMode_rs.sys.atlSlot ∧ (loadEndsInItsMode_rs.keepBlocks [] { gen := (loadEndsInItsMode_je).gen, slot := (loadEndsInItsMode_je).slot, resumed := true }).portsFiled = false := by decide +kernel

/-- The same, continued. -/
theorem witness_LoadEndsInItsMode_2 :
  loadEndsInItsMode_q.firmware = true ∧ loadEndsInItsMode_q.sealDue = true ∧ loadEndsInItsMode_q.sys.strap = true ∧
    loadEndsInItsMode_tn.sys.mode = .calibrate ∧ loadEndsInItsMode_to.sys.mode = .calibrate ∧ (loadEndsInItsMode_to.sys.sweep).map Sweep.resumed = some false ∧ loadEndsInItsMode_tr.sys.calResumed = true ∧ (loadEndsInItsMode_tr.sys.sweep).map Sweep.slot = some 1 ∧ loadEndsInItsMode_t.sys.mode = .service ∧ loadEndsInItsMode_u.sys.mode = .safe ∧ loadEndsInItsMode_v.sys.lc = .sealed_ ∧ loadEndsInItsMode_v.sys.keyHash = 77 := by decide +kernel

def powerDomainsSwitch_o := { svc with power := { svc.power with dma := .off } }

def powerDomainsSwitch_t := nx (exec (.powerDomainRequest .dma true) powerDomainsSwitch_o)

def powerDomainsSwitch_tt := nx (exec (.powerDomainUp .dma []) powerDomainsSwitch_t)

def powerDomainsSwitch_c := { svc with clusters := List.replicate 256 {} }

def powerDomainsSwitch_u := nx (exec (.powerDomainRequest (.cluster 0) true) powerDomainsSwitch_c)

def powerDomainsSwitch_uu := nx (exec (.powerDomainUp (.cluster 0) []) powerDomainsSwitch_u)

def powerDomainsSwitch_r := { powerDomainsSwitch_c with sys := { svc.sys with rowsLeft := [0, 1] }, islands := List.replicate 16 {} }

def powerDomainsSwitch_v := nx (exec (.clusterRowPowerUp []) powerDomainsSwitch_r)

def powerDomainsSwitch_sp := nx (exec (.powerDomainRequest (.spare 0) true) svc)

def powerDomainsSwitch_ss := nx (exec (.powerDomainUp (.spare 0) []) powerDomainsSwitch_sp)

def powerDomainsSwitch_cd := nx (exec (.powerDomainRequest (.cluster 0) false) svc)

def powerDomainsSwitch_so := nx (exec (.powerDomainRequest (.spare 0) false) powerDomainsSwitch_ss)

/-- R15, R16: the DMA engine's domain, cluster 0, the braid that others need, and the next row. -/
theorem witness_PowerDomainsSwitch :
  Safe.sized powerDomainsSwitch_o ∧ Safe.sized svc ∧ svc.domPow (.spare 0) = .off ∧ svc.domNeeds (.spare 0) = true ∧ svc.offBreaks (.cluster 0) = false ∧ svc.domPow (.cluster 0) = .on ∧ powerDomainsSwitch_ss.offBreaks (.spare 0) = false ∧ Safe.sized powerDomainsSwitch_ss ∧ powerDomainsSwitch_sp.domPow (.spare 0) = .rising ∧ powerDomainsSwitch_o.firmware = true ∧ powerDomainsSwitch_o.domPow .dma = .off ∧ powerDomainsSwitch_o.domNeeds .dma = true ∧ powerDomainsSwitch_o.clusters.length = 256 ∧
    powerDomainsSwitch_c.clusters[0]?.map Cluster.pow = some .off ∧ powerDomainsSwitch_c.domNeeds (.cluster 0) = true ∧ powerDomainsSwitch_u.domPow (.cluster 0) = .rising ∧
    { powerDomainsSwitch_o with power := { powerDomainsSwitch_o.power with braid := .off } }.domNeeds .dma = false ∧ svc.power.braid = .on ∧ powerDomainsSwitch_r.rowRamps 0 = false ∧
    svc.offBreaks .braid = true ∧ svc.offBreaks .dma = false ∧ svc.domPow .dma = .on ∧
    powerDomainsSwitch_r.sys.rowsLeft = 0 :: [1] ∧ powerDomainsSwitch_r.firmware = true ∧ powerDomainsSwitch_r.islands[0]?.isSome = true ∧
    powerDomainsSwitch_t.domPow .dma = .rising ∧ powerDomainsSwitch_tt.domPow .dma = .on ∧ powerDomainsSwitch_uu.domPow (.cluster 0) = .on ∧ (powerDomainsSwitch_v.clu 0).pow = .on := by decide +kernel

/-- Cluster 0 with one cell changed. -/
def sCell (n : Nat) (f : Cell → Cell) : State := svc.modCell n f

/-- Cell 0 with its engine changed. -/
def sEng (f : Eng → Eng) : State := sCell 0 (fun c => { c with eng := f c.eng })

/-- The 68 inputs of a capture, and the 12 SAR differences. -/
def inputs0 : List RawInput := List.replicate 68 {}
def diff0 : List Nat := List.replicate 12 0

def boundaryAppliesOutputs_d := svc.modClu 0 (fun k => { k with done := true, cells := k.cells.map (fun c => { c with out := some { c.eng with uF := 123, uH := 456 } }) })

def boundaryAppliesOutputs_t := nx (exec (.clusterBoundary 0 inputs0 diff0) boundaryAppliesOutputs_d)

def boundaryAppliesOutputs_m := nx (exec (.clusterBoundary 0 inputs0 diff0) svc)

def boundaryAppliesOutputs_w := { (svc.modClu 0 (fun k => { k with owedDark := true, owedLimit := true })) with evt := { svc.evt with chans := (svc.evt.chans.set 5 { en := true, src := 0x40 }).set 6 { en := true, src := 0x42 } } }

def boundaryAppliesOutputs_tw := nx (exec (.clusterBoundary 0 inputs0 diff0) boundaryAppliesOutputs_w)

def boundaryAppliesOutputs_ww := (reach 4000000000 (boundaryAppliesOutputs_w.nextBoundary 0) boundaryAppliesOutputs_w).getD svc

/-- R11, R89: a completed period, a missed one, and the instant of R10. -/
theorem witness_BoundaryAppliesOutputs :
  (boundaryAppliesOutputs_w.clu 0).owedDark = true ∧ (boundaryAppliesOutputs_w.clu 0).owedLimit = true ∧ (boundaryAppliesOutputs_w.clu 0).pow = .on ∧ 0 < boundaryAppliesOutputs_ww.evt.cluMap.length ∧ boundaryAppliesOutputs_ww.evt.cluAt.getD 0 none = none ∧ boundaryAppliesOutputs_ww.evt.takers 0x40 = [5] ∧
    svc.clusters[0]? = some clu0 ∧ clu0.pow = .on ∧ (reach 4000000000 (svc.nextBoundary 0) svc).isSome = true ∧
    clu0.pdown = false ∧ clu0.fast = false ∧ clu0.islandRamp = false ∧ svc.sys.supplyOut = false ∧
    (svc.spare 0).switched = false ∧ clu0.lastB ≠ none ∧ svc.hasCells 0 = true ∧ clu0.skipping = false ∧ clu0.discarded = false ∧ clu0.source ≠ .none ∧ clu0.done = false ∧ (boundaryAppliesOutputs_d.clu 0).done = true ∧
    ((boundaryAppliesOutputs_d.clu 0).cell 7).out.isSome = true ∧ cell0.eng.st = .track ∧ cell0.brk = false ∧ cell0.rangeBusy = false ∧ cell0.apply = false ∧ cell0.hParked = false := by decide +kernel

/-- The same, continued. -/
theorem witness_BoundaryAppliesOutputs_2 :
  boundaryAppliesOutputs_tw.evt.cluMap.getD 0 0 = 1 ∧ boundaryAppliesOutputs_tw.evt.cluMap.getD 1 0 = 0 ∧ boundaryAppliesOutputs_tw.evt.chanIn.length = 2 ∧ svc.nextBoundary 0 = 1001000 ∧ (boundaryAppliesOutputs_t.clu 0).lastB = some 1001000 ∧ (boundaryAppliesOutputs_t.cell 7).uf = 123 ∧ (boundaryAppliesOutputs_t.cell 7).uh = 456 ∧ (boundaryAppliesOutputs_m.clu 0).missCnt = 1 ∧ (boundaryAppliesOutputs_m.cell 7).uf = 0 := by decide +kernel

def enginePeriodCompletes_t := nx (exec (.loopPeriodDone 0 .clean 200 []) svc)

def enginePeriodCompletes_r := nx (exec (.loopPeriodDone 0 .residue 200 []) svc)

def enginePeriodCompletes_u := nx (exec (.loopPeriodDone 0 .eccUe 200 []) svc)

/-- R50, R93: a clean period, a first residue mismatch, an uncorrectable error. -/
theorem witness_EnginePeriodCompletes :
  svc.clusters[0]? = some clu0 ∧ clu0.pow = .on ∧ clu0.lastB ≠ none ∧ clu0.done = false ∧ clu0.discarded = false ∧ clu0.skipping = false ∧ clu0.source ≠ .none ∧ svc.hasCells 0 = true ∧
    clu0.sinceRes = none ∧ clu0.source = .native ∧
    (enginePeriodCompletes_t.clu 0).done = true ∧ (enginePeriodCompletes_t.clu 0).slack = 200 ∧ (enginePeriodCompletes_r.clu 0).discarded = true ∧ (enginePeriodCompletes_u.clu 0).failed = true := by decide +kernel

def darkLitFrozenTransitions_live := sEng (fun e => { e with taken := some { state := .bar } })

def darkLitFrozenTransitions_a := sEng (fun e => { e with taken := some { state := .bar }, darkRun := 8 })

def darkLitFrozenTransitions_b := sEng (fun e => { e with taken := some { state := .bar }, st := .dark, litRun := 4 })

def darkLitFrozenTransitions_c := sEng (fun e => { e with taken := some { state := .bar }, sameMb := 256 })

def darkLitFrozenTransitions_d := sEng (fun e => { e with taken := some { state := .bar }, sameMb := 256, stuckEpis := 16 })

def darkLitFrozenTransitions_ta := nx (exec (.darkDetect 0) darkLitFrozenTransitions_a)

def darkLitFrozenTransitions_tb := nx (exec (.litDetect 0) darkLitFrozenTransitions_b)

def darkLitFrozenTransitions_tc := nx (exec (.frozenCodeRun 0) darkLitFrozenTransitions_c)

def darkLitFrozenTransitions_td := nx (exec (.frozenCodeRun 0) darkLitFrozenTransitions_d)

/-- R78, R79: the eighth dark sample, the fourth lit one, STUCK_K equal ones, and a sixteenth episode. -/
theorem witness_DarkLitFrozenTransitions :
  darkLitFrozenTransitions_a.tests 0 = true ∧ closed (darkLitFrozenTransitions_a.cell 0).engNow = true ∧ 8 ≤ (darkLitFrozenTransitions_a.cell 0).engNow.darkRun ∧ parked (darkLitFrozenTransitions_a.cell 0).engNow = false ∧ frozenCode (darkLitFrozenTransitions_a.cls 0) (darkLitFrozenTransitions_a.cell 0).engNow = false ∧
    darkLitFrozenTransitions_b.tests 0 = true ∧ (darkLitFrozenTransitions_b.cell 0).engNow.st = .dark ∧ 4 ≤ (darkLitFrozenTransitions_b.cell 0).engNow.litRun ∧ frozenCode (darkLitFrozenTransitions_b.cls 0) (darkLitFrozenTransitions_b.cell 0).engNow = false ∧
    darkLitFrozenTransitions_c.tests 0 = true ∧ frozenCode (darkLitFrozenTransitions_c.cls 0) (darkLitFrozenTransitions_c.cell 0).engNow = true ∧ (darkLitFrozenTransitions_c.cell 0).engNow.stuckEpis < 16 ∧
    darkLitFrozenTransitions_d.tests 0 = true ∧ frozenCode (darkLitFrozenTransitions_d.cls 0) (darkLitFrozenTransitions_d.cell 0).engNow = true ∧ 16 ≤ (darkLitFrozenTransitions_d.cell 0).engNow.stuckEpis ∧
    (darkLitFrozenTransitions_ta.cell 0).engNow.st = .dark ∧ (darkLitFrozenTransitions_tb.cell 0).engNow.st = .track ∧ (darkLitFrozenTransitions_tc.cell 0).engNow.st = .stuck ∧ (darkLitFrozenTransitions_td.cell 0).engNow.st = .hold ∧ (darkLitFrozenTransitions_td.cell 0).engNow.pendRetire = true := by decide +kernel

def stuckHoldAndHPath_a := sEng (fun e => { e with taken := some { state := .bar }, hDue := true, barN := 8, barInvalid := 4, barSum := 800, phiI := 3000 })

def stuckHoldAndHPath_f := sEng (fun e => { e with flipDue := true })

def stuckHoldAndHPath_r := sEng (fun e => { e with st := .stuck, beforeStuck := .hitch, retest := 256, chgMb := true, chgMx := true })

def stuckHoldAndHPath_h := sEng (fun e => { e with st := .hold, cause := .fault, recRun := 1024 })

def stuckHoldAndHPath_rd := sEng (fun e => { e with st := .stuck, beforeStuck := .dark, retest := 256, chgMb := true, chgMx := true })

def stuckHoldAndHPath_ta := nx (exec (.hPathUpdate 0) stuckHoldAndHPath_a)

def stuckHoldAndHPath_tf := nx (exec (.honlyDitherFlip 0) stuckHoldAndHPath_f)

def stuckHoldAndHPath_tr := nx (exec (.stuckRetestEnd 0) stuckHoldAndHPath_r)

def stuckHoldAndHPath_th := nx (exec (.holdRecovery 0) stuckHoldAndHPath_h)

def stuckHoldAndHPath_hp := sEng (fun e => { e with st := .hold, cause := .fault, run := 10000000 })

def stuckHoldAndHPath_tp := nx (exec (.pendRetireTimeout 0) stuckHoldAndHPath_hp)

/-- R58, R76, R81, R83, R102: an update, a reversal, a retest, a recovery and RETIRE_N. -/
theorem witness_StuckHoldAndHPath :
  (stuckHoldAndHPath_a.cell 0).engNow.noCand = false ∧ stuckHoldAndHPath_a.engineRuns 0 = true ∧ (stuckHoldAndHPath_a.cell 0).engNow.hDue = true ∧ (stuckHoldAndHPath_a.cell 0).engNow.honly = false ∧ (stuckHoldAndHPath_a.cell 0).engNow.winner = .phase ∧ 0 < (stuckHoldAndHPath_a.cell 0).engNow.barN ∧ 2 * (stuckHoldAndHPath_a.cell 0).engNow.barInvalid ≤ (stuckHoldAndHPath_a.cell 0).engNow.barN ∧ ((stuckHoldAndHPath_a.cell 0).engNow.taken.getD {}).state ≠ .park ∧
    stuckHoldAndHPath_f.engineRuns 0 = true ∧ (stuckHoldAndHPath_f.cell 0).engNow.flipDue = true ∧
    stuckHoldAndHPath_r.tests 0 = true ∧ (stuckHoldAndHPath_r.cell 0).engNow.st = .stuck ∧ (stuckHoldAndHPath_r.cls 0).stuckK ≤ (stuckHoldAndHPath_r.cell 0).engNow.retest ∧
    stuckHoldAndHPath_h.tests 0 = true ∧ heldFault (stuckHoldAndHPath_h.cell 0).engNow = true ∧ 1024 ≤ (stuckHoldAndHPath_h.cell 0).engNow.recRun ∧ (stuckHoldAndHPath_hp.cls 0).retireN ≠ 0 ∧ (stuckHoldAndHPath_hp.cls 0).retireN * 1000000 ≤ stuckHoldAndHPath_hp.runNs 0 ∧ heldFault (stuckHoldAndHPath_hp.cell 0).engNow = true ∧
    (stuckHoldAndHPath_ta.cell 0).engNow.hDue = false ∧ (stuckHoldAndHPath_ta.cell 0).engNow.barPrev = 100 ∧ (stuckHoldAndHPath_tf.cell 0).engNow.dithNeg = true ∧ (stuckHoldAndHPath_tr.cell 0).engNow.st = .hitch ∧ (stuckHoldAndHPath_th.cell 0).engNow.st = .track ∧ (stuckHoldAndHPath_tp.cell 0).engNow.pendRetire = true ∧ ((nx (exec (.stuckRetestEnd 0) stuckHoldAndHPath_rd)).clu 0).owedDark = true := by decide +kernel

def engineSubstitution_l := { svc with clusters := { clu0 with consecMiss := 8 } :: { clu0 with slacks := [25] } :: List.replicate 254 {} }

def engineSubstitution_k := svc.modClu 0 (fun k => { k with ckptDue := true })

def engineSubstitution_s1 := { svc with spares := { st := .powering, cluster := 0 } :: List.replicate 15 {} }

def engineSubstitution_s2 := { svc with spares := { st := .loading, cluster := 0 } :: List.replicate 15 {} }

def engineSubstitution_s3 := { svc with spares := { st := .selftest, cluster := 0 } :: List.replicate 15 {} }

def engineSubstitution_t := nx (exec (.engineLivenessFail 0) engineSubstitution_l)

def engineSubstitution_tk := nx (exec (.engineCheckpoint 0) engineSubstitution_k)

def engineSubstitution_t1 := nx (exec (.sparePowered 0) engineSubstitution_s1)

def engineSubstitution_t2 := nx (exec (.spareLoaded 0) engineSubstitution_s2)

def engineSubstitution_t3 := nx (exec (.spareSelftestDone 0 true) engineSubstitution_s3)

def engineSubstitution_t4 := nx (exec (.spareSelftestDone 0 false) engineSubstitution_s3)

/-- R94-R98: eight misses beside an engine with 10 % slack, a checkpoint, and the spare's way to its cluster. -/
theorem witness_EngineSubstitution :
  (engineSubstitution_l.spare 0).spareFailed = false ∧ (engineSubstitution_l.clusters[0]?).map Cluster.pow = some .on ∧ (engineSubstitution_l.clu 0).source = .native ∧ 8 ≤ (engineSubstitution_l.clu 0).consecMiss ∧ engineSubstitution_l.rowHasSlack 0 = true ∧ (engineSubstitution_l.spares[0]?).map Spare.st = some .off ∧ (engineSubstitution_l.clu 0).pdown = false ∧
    (engineSubstitution_k.clu 0).ckptDue = true ∧ (engineSubstitution_s1.spare 0).st = .powering ∧ (engineSubstitution_s2.spare 0).st = .loading ∧ (engineSubstitution_s3.spare 0).st = .selftest ∧ (engineSubstitution_s3.spare 0).cluster < engineSubstitution_s3.clusters.length ∧
    (engineSubstitution_t.clu 0).liveness = true ∧ (engineSubstitution_t.spare 0).st = .powering ∧ (engineSubstitution_t1.spare 0).st = .loading ∧ (engineSubstitution_t2.spare 0).st = .selftest ∧ (engineSubstitution_t3.spare 0).st = .active ∧ (engineSubstitution_t4.spare 0).spareFailed = true ∧ (engineSubstitution_t4.clu 0).source = .none := by decide +kernel

def padsAndTaps_a := sCell 0 (fun c => { c with padRun := 16 })

def padsAndTaps_o := (sCell 0 (fun c => { c with trips := [1, 2, 3] })).modClu 0 (fun k => { k with bIx := 1024 })

def padsAndTaps_o2 := (sCell 0 (fun c => { c with trips := [0, 1, 2] })).modClu 0 (fun k => { k with bIx := 1024 })

def padsAndTaps_b := sCell 0 (fun c => { c with brk := true, brkAt := 998700, cfg := { fVolt := true } })

def padsAndTaps_d := sCell 0 (fun c => { c with eng := { c.eng with st := .dark }, dkN := 1024, dkSumMb := 1024, dkCntMb := 1024, trimMb := 7 })

def padsAndTaps_r := svc.modClu 0 (fun k => { k with ptap := [{ orRun := 2 }, { orRun := 1, lowRun := 1024 }, {}, {}], ptapCfg := 0x5555 })

def padsAndTaps_ta := nx (exec (.fPadFault 0) padsAndTaps_a)

def padsAndTaps_to := nx (exec (.heaterOcTrip 0) padsAndTaps_o)

def padsAndTaps_to2 := nx (exec (.heaterOcTrip 0) padsAndTaps_o2)

def padsAndTaps_tc := nx (exec (.padcfgApply 0 0x1B42) svc)

def padsAndTaps_tb := nx (exec (.rangeBreakEnd 0) padsAndTaps_b)

def padsAndTaps_td := nx (exec (.darkTrimUpdate 0) padsAndTaps_d)

def padsAndTaps_tr := nx (exec (.ptapRangeStep 0 0) padsAndTaps_r)

def padsAndTaps_tl := nx (exec (.ptapRangeStep 0 1) padsAndTaps_r)

/-- R82, R110, R113, R114, R123, R124, at the sixteenth period, the fourth trip, the end of 2 µs, and the 1,024th sample. -/
theorem witness_PadsAndTaps :
  padsAndTaps_a.engineRuns 0 = true ∧ 16 ≤ (padsAndTaps_a.cell 0).padRun ∧ (padsAndTaps_a.cell 0).fPadFault = false ∧
    padsAndTaps_o.cluOn 0 = true ∧ (padsAndTaps_o.cell 0).parked = false ∧ (padsAndTaps_o.cell 0).hParked = false ∧ (padsAndTaps_o.cell 0).hOff = false ∧ svc.cluOn 0 = true ∧
    (padsAndTaps_b.cell 0).brk = true ∧ (reach 4000000000 ((padsAndTaps_b.cell 0).brkAt + 2000) padsAndTaps_b).isSome = true ∧
    (padsAndTaps_d.cell 0).eng.st = .dark ∧ 1024 ≤ (padsAndTaps_d.cell 0).dkN ∧ -8 ≤ (padsAndTaps_d.cell 0).trimMb ∧ (padsAndTaps_d.cell 0).trimMb ≤ 8 ∧
    (padsAndTaps_r.clu 0).lastB = some 1000000 ∧ (padsAndTaps_r.clu 0).ptapCfg.getLsbD 2 = true ∧ (padsAndTaps_r.clu 0).ptapCfg.getLsbD 6 = true ∧
    (padsAndTaps_ta.cell 0).engNow.honly = true ∧ (padsAndTaps_to.cell 0).hParked = true ∧ (padsAndTaps_to2.cell 0).hParked = false ∧ (padsAndTaps_tb.cell 0).cfgNow = { fVolt := true } ∧ (padsAndTaps_td.cell 0).trimMb = 8 := by decide +kernel

def powerDownRetireAndBudget_c := { svc with fab := { svc.fab with circuits := [{ inst := 0, inp := 0, out := 2, path := [⟨0, .cross, 0⟩, ⟨2, .bar, 1⟩] }] } }

def powerDownRetireAndBudget_r := (sEng (fun e => { e with st := .retired })).setReason 0 8

def powerDownRetireAndBudget_full := { powerDownRetireAndBudget_r with sys := { powerDownRetireAndBudget_r.sys with retire := List.replicate 1024 { unit := 9, kind := 1, reason := 1 } } }

def powerDownRetireAndBudget_i := { svc with islands := { pow := .on, badRun := 64, kappa := 1 } :: List.replicate 15 {} }

def powerDownRetireAndBudget_t := nx (exec (.clusterPowerDown 0) svc)

def powerDownRetireAndBudget_sp := { svc with spares := { st := .selftest, cluster := 0 } :: svc.spares.drop 1 }

def powerDownRetireAndBudget_tsp := nx (exec (.clusterPowerDown 0) powerDownRetireAndBudget_sp)

def powerDownRetireAndBudget_tr := nx (exec (.retireListAppend 1 0) powerDownRetireAndBudget_r)

def powerDownRetireAndBudget_tf := nx (exec (.retireListAppend 1 0) powerDownRetireAndBudget_full)

def powerDownRetireAndBudget_is := svc.modClu 0 (fun k => { k with iAcc := 200 * 500 })

def powerDownRetireAndBudget_is1 := { powerDownRetireAndBudget_is with islands := ({ pow := .on, vhtr := 3300, predFrom := svc.now - 16000 } : Island) :: powerDownRetireAndBudget_is.islands.drop 1 }

def powerDownRetireAndBudget_ti := nx (exec (.islandInterval 0 3300 210) powerDownRetireAndBudget_is1)

def powerDownRetireAndBudget_ti2 := nx (exec (.islandInterval 0 3134 210) svc)

def powerDownRetireAndBudget_ts := nx (exec (.isenseFault 0) powerDownRetireAndBudget_i)

def powerDownRetireAndBudget_b := svc.modClu 0 (fun k => { k with demand := 1500 })

def powerDownRetireAndBudget_tb := nx (exec .budgetInterval powerDownRetireAndBudget_b)

/-- R62, R86, R99, R100, R116, at a full list, 200 mA and the 64th interval. -/
theorem witness_PowerDownRetireAndBudget :
  svc.clusters[0]? = some clu0 ∧ clu0.pow = .on ∧ clu0.pdown = false ∧ svc.firmware = true ∧ svc.openNames 0 = false ∧ svc.pendingIn 0 = false ∧ svc.tapsNeeded 0 = false ∧ (List.range 32).all (fun i => !svc.circuitThrough i) = true ∧ powerDownRetireAndBudget_c.circuitThrough (32 * 0 + 2) = true ∧
    (powerDownRetireAndBudget_sp.spare 0).busy = true ∧ (powerDownRetireAndBudget_sp.spare 0).cluster = 0 ∧ 0 < powerDownRetireAndBudget_sp.spares.length ∧ (svc.spare 0).busy = false ∧
    powerDownRetireAndBudget_r.firmware = true ∧ powerDownRetireAndBudget_r.retireDue 1 0 = true ∧ powerDownRetireAndBudget_full.retireDue 1 0 = true ∧ 1024 ≤ powerDownRetireAndBudget_full.sys.retire.length ∧
    (svc.island 0).pow = .on ∧ (svc.island 0).isenseFault = false ∧ (powerDownRetireAndBudget_i.island 0).pow = .on ∧ 64 ≤ (powerDownRetireAndBudget_i.island 0).badRun ∧ svc.time.run = true ∧
    (powerDownRetireAndBudget_tsp.clu 0).pdown = true ∧ (powerDownRetireAndBudget_tsp.spare 0).st = .off ∧ (powerDownRetireAndBudget_tsp.clu 0).source = .none ∧ (powerDownRetireAndBudget_t.clu 0).pdown = true ∧ powerDownRetireAndBudget_tr.sys.retire.length = 1 ∧ powerDownRetireAndBudget_tf.sys.retireFull = true ∧ (powerDownRetireAndBudget_ti.island 0).badRun = 0 ∧ (powerDownRetireAndBudget_ti2.island 0).vhtrLow = true ∧ (powerDownRetireAndBudget_ts.island 0).isenseFault = true ∧ (powerDownRetireAndBudget_tb.clu 0).allow ≤ 0xFFFFFFFF := by decide +kernel

/-- An epoch of host 0, opened; and with its plan of one CONNECT. -/
def ep0 : Epoch := { num := 1, ext := 1 }
def ep1 : Epoch := { num := 1, ext := 1, changes := [{ kind := 1, port := 0, port2 := 2 }] }

/-- SERVICE with an epoch in FAB slot 0; its cells' targets stand at BAR. -/
def sEp (e : Epoch) : State := { svc with fab := { svc.fab with slots := { ep := some e } :: List.replicate 7 {}, lastNum := 1, ext := 1 } }

def completionIsPosted_c := { code := 0x0013, tag := 7 : RawCmd }

def completionIsPosted_d := { code := 0x0010, tag := 3 : RawCmd }

def completionIsPosted_w := { code := 0x0040, tag := 3 : RawCmd }

def completionIsPosted_s := svc.modHost 0 (fun q => { q with taken := [⟨completionIsPosted_c, true, none, 4⟩] })

def completionIsPosted_s2 := svc.modHost 0 (fun q => { q with taken := [⟨completionIsPosted_d, false, none, 3⟩, ⟨completionIsPosted_c, true, none, 4⟩] })

def completionIsPosted_s3 := svc.modHost 0 (fun q => { q with taken := [⟨completionIsPosted_w, true, none, 3⟩, ⟨completionIsPosted_c, true, none, 4⟩] })

def completionIsPosted_s5 := svc.modHost 0 (fun q => { q with taken := [⟨completionIsPosted_c, true, none, 4⟩, ⟨completionIsPosted_c, true, none, 5⟩] })

def completionIsPosted_t5 := completionIsPosted_s5.completeSeq 0 5 0x0013 0 7 0 [1]

def completionIsPosted_t := completionIsPosted_s.complete 0 0x0013 0 7 0 [1]

def completionIsPosted_t2 := completionIsPosted_s2.complete 0 0x0013 0 7 0 [1]

def completionIsPosted_t3 := completionIsPosted_s3.complete 0 0x0013 0 7 0 [1]

/-- A command of host 0 alone, and behind one that does not wait alone. -/
theorem witness_CompletionIsPosted :
  (completionIsPosted_s.hport 0).cplRing.length = 64 ∧ (completionIsPosted_s.hport 0).taken = [] ++ ⟨completionIsPosted_c, true, none, 4⟩ :: [] ∧ (completionIsPosted_s2.hport 0).taken = [⟨completionIsPosted_d, false, none, 3⟩] ++ ⟨completionIsPosted_c, true, none, 4⟩ :: [] ∧ (completionIsPosted_s3.hport 0).taken = [⟨completionIsPosted_w, true, none, 3⟩] ++ ⟨completionIsPosted_c, true, none, 4⟩ :: [] ∧
    (completionIsPosted_s5.hport 0).taken = [⟨completionIsPosted_c, true, none, 4⟩] ++ ⟨completionIsPosted_c, true, none, 5⟩ :: [] ∧ (5 : Nat) ≠ 4 ∧
    completionIsPosted_c.code = 0x0013 ∧ completionIsPosted_c.tag = 7 ∧ waitsAlone completionIsPosted_d = false ∧ waitsAlone completionIsPosted_w = true ∧
    (completionIsPosted_t5.hport 0).cplTail = 0 ∧ (completionIsPosted_t5.hport 0).taken.map Taken.answer = [none, some (cplBytes 0x0013 0 7 0 [1])] ∧ (completionIsPosted_t.hport 0).cplTail = 1 ∧ ((completionIsPosted_t.hport 0).cplRing.getD 0 []).take 8 = [0x13, 0, 0, 0, 7, 0, 0, 0] ∧ (completionIsPosted_t2.hport 0).cplTail = 0 ∧ (completionIsPosted_t3.hport 0).cplTail = 1 := by decide +kernel

def planOpens_s := tk h0 3 svc

def planOpens_s1 := go h0 3 planOpens_s

def planOpens_n := { planOpens_s with fab := { svc.fab with lastNum := 65535 } }

def planOpens_f := { planOpens_s with fab := { svc.fab with slots := [{ ep := some { ep0 with ext := 1 } }, { ep := some { ep0 with ext := 2 } }, { ep := some { ep0 with ext := 3 } }, { ep := some { ep0 with ext := 4 } }, {}, {}, {}, {}] } }

def planOpens_t := nx (exec (.planOpen h0 0) planOpens_s)

def planOpens_u := nx (exec (.planOpen h0 0) planOpens_n)

def planOpens_v := nx (exec (.planOpen h0 0) planOpens_f)

/-- R143: number 1 follows 0 and 65,535. -/
theorem witness_PlanOpens :
  Safe.turn h0 3 planOpens_s planOpens_s1 ∧ Safe.turn h0 3 planOpens_n (go h0 3 planOpens_n) ∧ Safe.turn h0 3 planOpens_f (go h0 3 planOpens_f) ∧ svc.owner 0 = some 0 ∧ inService svc.sys.mode = true ∧ svc.sys.release = false ∧ 0 < svc.instCount ∧ svc.placeFree 0 = true ∧ svc.fab.epochs = [] ∧
    svc.fab.slots.findIdx? (fun q => q.ep.isNone) = some 0 ∧ planOpens_f.placeFree 0 = false ∧ (0 : Nat) ≠ 1 ∧
    (planOpens_t.slotEp 0).map Epoch.num = some 1 ∧ (planOpens_u.slotEp 0).map Epoch.num = some 1 := by decide +kernel

def planAddAndAbort_s := tk h0 4 (sEp ep0)

def planAddAndAbort_s1 := go h0 4 planAddAndAbort_s

def planAddAndAbort_a := tk h0 6 <| sEp { ep1 with st := .armed, stage := .solved }

def planAddAndAbort_e := tk h0 6 <| sEp { ep1 with st := .sealedE, stage := .solved }

def planAddAndAbort_t := nx (exec (.planAdd h0 1 [{ kind := 1, port := 0, port2 := 2 }]) planAddAndAbort_s)

def planAddAndAbort_ta := nx (exec (.planAbort h0 1) planAddAndAbort_a)

def planAddAndAbort_te := nx (exec (.planAbort h0 1) planAddAndAbort_e)

/-- R218: a first change, an ARMED epoch and a SEALED one. -/
theorem witness_PlanAddAndAbort :
  Safe.turn h0 4 planAddAndAbort_s planAddAndAbort_s1 ∧ Safe.turn h0 6 planAddAndAbort_a (go h0 6 planAddAndAbort_a) ∧ Safe.turn h0 6 planAddAndAbort_e (go h0 6 planAddAndAbort_e) ∧ inService planAddAndAbort_s.sys.mode = true ∧ planAddAndAbort_s.fab.byNum 1 = some ep0 ∧ planAddAndAbort_s.owner ep0.inst = some 0 ∧ ep0.st = .pending ∧ ep0.stage = .open_ ∧
    planAddAndAbort_s.ownerPort 0 = some 0 ∧ planAddAndAbort_s.ownerPort 2 = some 0 ∧ planAddAndAbort_s.entriesBad 0 0x10 [{ kind := 1, port := 0, port2 := 2 }] = none ∧
    planAddAndAbort_a.fab.byNum 1 = planAddAndAbort_a.fab.byExt 1 ∧ (planAddAndAbort_a.fab.byExt 1).map Epoch.st = some .armed ∧ (planAddAndAbort_e.fab.byNum 1).map Epoch.st = some .sealedE ∧
    (planAddAndAbort_t.fab.byExt 1).map Epoch.changes = some [{ kind := 1, port := 0, port2 := 2 }] ∧ planAddAndAbort_ta.fab.byExt 1 = none := by decide +kernel

def connectAndDisconnectQueue_s := tk h0 1 svc

def connectAndDisconnectQueue_s1 := go h0 1 connectAndDisconnectQueue_s

def connectAndDisconnectQueue_k0 := { svc with fab := { svc.fab with circuits := [{ inst := 0, inp := 0, out := 2, path := [⟨0, .cross, 0⟩, ⟨2, .bar, 1⟩] }] } }

def connectAndDisconnectQueue_k := tk h0 2 connectAndDisconnectQueue_k0

def connectAndDisconnectQueue_k1 := go h0 2 connectAndDisconnectQueue_k

def connectAndDisconnectQueue_b := tk h0 1 <| sEp { ep1 with st := .armed, stage := .solved }

def connectAndDisconnectQueue_f := { connectAndDisconnectQueue_s with fab := { svc.fab with slots := [{ ep := some { ep0 with ext := 1 } }, { ep := some { ep0 with ext := 2 } }, { ep := some { ep0 with ext := 3 } }, { ep := some { ep0 with ext := 4 } }, {}, {}, {}, {}] } }

def connectAndDisconnectQueue_t := nx (exec (.connect h0 0 0 2 {}) connectAndDisconnectQueue_s)

def connectAndDisconnectQueue_d := nx (exec (.disconnect h0 0 2 {}) connectAndDisconnectQueue_k)

def connectAndDisconnectQueue_c := { kind := 1, port := 0, port2 := 2 : PlanChange }

def connectAndDisconnectQueue_cd := { kind := 2, port := 2 : PlanChange }

/-- R133: a CONNECT of free ports; a DISCONNECT of an established circuit; BUSY behind an armed plan. -/
theorem witness_ConnectAndDisconnectQueue :
  Safe.turn h0 1 connectAndDisconnectQueue_s connectAndDisconnectQueue_s1 ∧ Safe.turn h0 2 connectAndDisconnectQueue_k connectAndDisconnectQueue_k1 ∧ Safe.turn h0 1 connectAndDisconnectQueue_b (go h0 1 connectAndDisconnectQueue_b) ∧ Safe.turn h0 1 connectAndDisconnectQueue_f (go h0 1 connectAndDisconnectQueue_f) ∧ svc.owner 0 = some 0 ∧ inService svc.sys.mode = true ∧ svc.sys.release = false ∧ 0 < svc.instCount ∧ svc.ownerPort 0 = some 0 ∧ svc.ownerPort 2 = some 0 ∧
    svc.changeBad 0 0x0A 0x0C connectAndDisconnectQueue_c = none ∧ svc.placeFree 0 = true ∧ svc.fab.armedInst 0 = false ∧ svc.fab.queueRoom 0 = true ∧ svc.fab.slots.findIdx? (fun q => q.ep.isNone) = some 0 ∧
    (connectAndDisconnectQueue_s1.allocate 0 0).2.commitCheck (Safe.singleEpoch connectAndDisconnectQueue_s1 h0 0x0001 0 connectAndDisconnectQueue_c {}) 0 (some {}) = .inr none ∧
    connectAndDisconnectQueue_k.changeBad 0 0x0A 0x0A connectAndDisconnectQueue_cd = none ∧ (connectAndDisconnectQueue_k1.allocate 0 0).2.commitCheck (Safe.singleEpoch connectAndDisconnectQueue_k1 h0 0x0002 0 connectAndDisconnectQueue_cd {}) 0 (some {}) = .inr none ∧
    connectAndDisconnectQueue_b.placeFree 0 = true ∧ connectAndDisconnectQueue_b.fab.armedInst 0 = true ∧ connectAndDisconnectQueue_f.placeFree 0 = false ∧
    connectAndDisconnectQueue_t.fab.queue = [⟨0, 1⟩] ∧ connectAndDisconnectQueue_d.fab.queue = [⟨0, 1⟩] := by decide +kernel

def planCommitQueues_s := tk h0 5 (sEp ep1)

def planCommitQueues_s1 := go h0 5 planCommitQueues_s

def planCommitQueues_ev := { h0 with flags := 2 }

def planCommitQueues_q := tk h0 5 <| sEp { ep1 with stage := .queued }

def planCommitQueues_o0 := { sEp ep1 with evt := { svc.evt with chans := { owner := 0 } :: List.replicate 127 {} } }

def planCommitQueues_o := tk planCommitQueues_ev 5 planCommitQueues_o0

def planCommitQueues_o1 := go planCommitQueues_ev 5 planCommitQueues_o

def planCommitQueues_t := nx (exec (.planCommit h0 1 0 {}) planCommitQueues_s)

def planCommitQueues_te := nx (exec (.planCommit planCommitQueues_ev 1 0 {}) planCommitQueues_o)

/-- R147: at the earliest instant, on an event channel, and a second commit. -/
theorem witness_PlanCommitQueues :
  Safe.turn h0 5 planCommitQueues_s planCommitQueues_s1 ∧ Safe.turn h0 5 planCommitQueues_q (go h0 5 planCommitQueues_q) ∧  inService planCommitQueues_s.sys.mode = true ∧ planCommitQueues_s.sys.release = false ∧ planCommitQueues_s.fab.byNum 1 = some ep1 ∧ planCommitQueues_s.fab.byExt 1 = some ep1 ∧ planCommitQueues_s.owner 0 = some 0 ∧ ep1.st = .pending ∧ onEvent h0 = false ∧ onEvent planCommitQueues_ev = true ∧ Safe.turn planCommitQueues_ev 5 planCommitQueues_o planCommitQueues_o1 ∧ planCommitQueues_o.ownerChan 0 = some 0 ∧
    ep1.stage = .open_ ∧ planCommitQueues_s.fab.armedInst 0 = false ∧ planCommitQueues_s.fab.queueRoom 0 = true ∧ planCommitQueues_s1.commitCheck ep1 0 (some {}) = .inr none ∧ planCommitQueues_o1.commitCheck ep1 0 none = .inr none ∧
    (planCommitQueues_q.fab.byNum 1).map Epoch.stage = some .queued ∧
    planCommitQueues_t.fab.queue = [⟨0, 1⟩] ∧ (planCommitQueues_te.fab.byExt 1).map Epoch.event = some true := by decide +kernel

def solverServesAndWrites_r := { svc with fab := { svc.fab with resolves := [5, 6] } }

def solverServesAndWrites_q := { svc with fab := { svc.fab with queue := [⟨0, 1⟩, ⟨1, 2⟩, ⟨1, 3⟩], lastHost := 0 } }

def solverServesAndWrites_e := { ep1 with stage := .queued, owed := true, code := 1 }

def solverServesAndWrites_b := { sEp solverServesAndWrites_e with fab := { (sEp solverServesAndWrites_e).fab with busy := some (1, false) } }

def solverServesAndWrites_t := nx (exec .solverTakeItem solverServesAndWrites_r)

def solverServesAndWrites_tq := nx (exec .solverTakeItem solverServesAndWrites_q)

def solverServesAndWrites_tb := nx (exec .solveDone solverServesAndWrites_b)

def solverServesAndWrites_sol := ({ solverServesAndWrites_b with fab := { solverServesAndWrites_b.fab with busy := none } } : State).solve false solverServesAndWrites_e

def solverServesAndWrites_e2 := match solverServesAndWrites_sol with | .inr x => x | .inl _ => solverServesAndWrites_e

/-- R136, R149: a re-solve first, host 1 before host 0 after host 0, and a CONNECT solved. -/
theorem witness_SolverServesAndWrites :
  solverServesAndWrites_r.fab.busy = none ∧ solverServesAndWrites_r.fab.resolves = 5 :: [6] ∧
    solverServesAndWrites_q.fab.busy = none ∧ solverServesAndWrites_q.fab.resolves = [] ∧ solverServesAndWrites_q.fab.queue = [⟨0, 1⟩] ++ ⟨1, 2⟩ :: [⟨1, 3⟩] ∧ 1 = (solverServesAndWrites_q.fab.lastHost + 1) % 4 ∧
    solverServesAndWrites_b.fab.busy = some (1, false) ∧ solverServesAndWrites_b.fab.byExt 1 = some solverServesAndWrites_e ∧ solverServesAndWrites_e.status = .none ∧ solverServesAndWrites_sol = .inr solverServesAndWrites_e2 ∧ solverServesAndWrites_e2.ext = 1 ∧ solverServesAndWrites_e2.st = .pending ∧ solverServesAndWrites_e2.event = false ∧ solverServesAndWrites_e2.atB = false ∧ (solverServesAndWrites_e2.targets.map CellTgt.cell).Nodup ∧
    solverServesAndWrites_e2.targets ≠ [] ∧ solverServesAndWrites_e2.targets.all (fun g => g.cell / 32 < solverServesAndWrites_b.clusters.length && g.cell % 32 < (solverServesAndWrites_b.clu (g.cell / 32)).cells.length && (solverServesAndWrites_b.cell g.cell).next.any (fun p => !p.valid)) = true ∧
    solverServesAndWrites_t.fab.busy = some (5, true) ∧ solverServesAndWrites_tq.fab.busy = some (2, false) ∧ solverServesAndWrites_tb.fab.busy = none ∧ ((solverServesAndWrites_tb.cell 0).next.getD 0 {}).state = .cross := by decide +kernel

/-- A solved epoch that commits at TAI `b`. -/
def ep2 (b : Int) : Epoch := { ep1 with stage := .solved, b := some b, targets := [⟨0, .cross, 0⟩], put := [{ inst := 0, inp := 0, out := 2, path := [⟨0, .cross, 0⟩, ⟨2, .bar, 1⟩] }] }

def epochLoadsSealsAndCommits_s := sEp (ep2 1000616)

def epochLoadsSealsAndCommits_f := sEp (ep2 2001000600)

def epochLoadsSealsAndCommits_l := ({ sEp { ep2 1010000 with loaded := true } with pending := [] } : State).modCell 0 (fun c => { c with next := { valid := true, epoch := 1, state := .cross } :: List.replicate 3 {} })

def epochLoadsSealsAndCommits_e := { ep2 1010000 with st := .sealedE, loaded := true, staged := [⟨0, .cross, 0⟩] }

def epochLoadsSealsAndCommits_z := sEp epochLoadsSealsAndCommits_e

def epochLoadsSealsAndCommits_z1 := (reach 4000000000 (epochLoadsSealsAndCommits_z.time.xOf 1010000) epochLoadsSealsAndCommits_z).getD svc

def epochLoadsSealsAndCommits_t := nx (exec (.commitAtLoad 0) epochLoadsSealsAndCommits_s)

def epochLoadsSealsAndCommits_tf := nx (exec (.commitAtLoad 0) epochLoadsSealsAndCommits_f)

def epochLoadsSealsAndCommits_u := nx (exec (.epochSeal 0) epochLoadsSealsAndCommits_l)

def epochLoadsSealsAndCommits_v := nx (exec .epochCommit epochLoadsSealsAndCommits_z)

/-- R146, R150, R152: 16 ns and 2 s before B; the seal 2 P_E before B; one sealed epoch. -/
theorem witness_EpochLoadsSealsAndCommits :
  epochLoadsSealsAndCommits_s.slotEp 0 = some (ep2 1000616) ∧ epochLoadsSealsAndCommits_s.firmware = true ∧ 16 ≤ epochLoadsSealsAndCommits_s.time.xOf 1000616 - epochLoadsSealsAndCommits_s.now ∧ epochLoadsSealsAndCommits_f.time.xOf 2001000600 - epochLoadsSealsAndCommits_f.now ≤ 2000000000 ∧
    epochLoadsSealsAndCommits_l.slotEp 0 = some { ep2 1010000 with loaded := true } ∧ (reach 4000000000 (epochLoadsSealsAndCommits_l.time.xOf (1010000 - 2 * 1000)) epochLoadsSealsAndCommits_l).isSome = true ∧
    epochLoadsSealsAndCommits_z.fab.nextCommit = some 1010000 ∧ reach 4000000000 (epochLoadsSealsAndCommits_z.time.xOf 1010000) epochLoadsSealsAndCommits_z = some epochLoadsSealsAndCommits_z1 ∧
    epochLoadsSealsAndCommits_z1.fab.held.filter (fun q => q.st = .sealedE && q.b = some 1010000) = [epochLoadsSealsAndCommits_e] ∧ (epochLoadsSealsAndCommits_e.staged.map CellTgt.cell).Nodup ∧ (epochLoadsSealsAndCommits_z.cell 0).engNow.st ≠ .off ∧ (epochLoadsSealsAndCommits_z.cell 0).engNow.st ≠ .retired ∧
    (epochLoadsSealsAndCommits_t.fab.slots[0]?).map FabSlot.commitAt = some 1000616 ∧ (epochLoadsSealsAndCommits_tf.fab.slots[0]?).map FabSlot.commitAt = some 2001000600 ∧ (epochLoadsSealsAndCommits_u.slotEp 0).map Epoch.staged = some [⟨0, .cross, 0⟩] ∧
    (epochLoadsSealsAndCommits_v.cell 0).live.state = .cross ∧ epochLoadsSealsAndCommits_v.fab.lastCommitted = 1 := by decide +kernel

def epochsExpireAndReport_e := { ep2 1000000 with st := .openE, atB := true, openAt := some 1000000, staged := [⟨0, .cross, 0⟩] }

def epochsExpireAndReport_s := (sEp epochsExpireAndReport_e).modCell 0 (fun c => { c with handover := some 1 })

def epochsExpireAndReport_s1 := (reach 4000000000 (epochsExpireAndReport_s.time.xOf (1000000 + 1000000000)) epochsExpireAndReport_s).getD svc

def epochsExpireAndReport_c := sEp { epochsExpireAndReport_e with st := .closed }

def epochsExpireAndReport_t := nx (exec (.epochExpire 0) epochsExpireAndReport_s)

def epochsExpireAndReport_u := nx (exec (.epochReportWrite 0) epochsExpireAndReport_c)

/-- R155, R160: 1 s after B with a hand-over left; a closed epoch. -/
theorem witness_EpochsExpireAndReport :
  epochsExpireAndReport_s.slotEp 0 = some epochsExpireAndReport_e ∧ epochsExpireAndReport_e.openAt = some 1000000 ∧ epochsExpireAndReport_e.st = .openE ∧ (epochsExpireAndReport_s.unfinished epochsExpireAndReport_e).isEmpty = false ∧ reach 4000000000 (epochsExpireAndReport_s.time.xOf (1000000 + 1000000000)) epochsExpireAndReport_s = some epochsExpireAndReport_s1 ∧ epochsExpireAndReport_s1.fab.byExt 1 = some epochsExpireAndReport_e ∧
    (epochsExpireAndReport_c.slotEp 0).map Epoch.owed = some false ∧ epochsExpireAndReport_c.fab.slotWait = [] ∧ epochsExpireAndReport_c.owner 0 = some 0 ∧ epochsExpireAndReport_c.slotEp 0 = some { epochsExpireAndReport_e with st := .closed } ∧ (epochsExpireAndReport_c.slotEp 0).map Epoch.st = some .closed ∧ epochsExpireAndReport_c.firmware = true ∧ ((epochsExpireAndReport_c.slotEp 0).map (fun e => epochsExpireAndReport_c.solving e)) = some false ∧ epochsExpireAndReport_c.fab.byExt 1 = epochsExpireAndReport_c.slotEp 0 ∧
    (epochsExpireAndReport_t.slotEp 0).map Epoch.status = some .expired ∧ epochsExpireAndReport_u.fab.byExt 1 = none := by decide +kernel

def firmwarePlans_a := sEp ep1

def firmwarePlans_p := ({ svc with fab := { svc.fab with circuits := [{ inst := 0, inp := 0, out := 2, path := [⟨0, .cross, 0⟩, ⟨2, .bar, 1⟩] }] } } : State).modCell 2 (fun c => { c with eng := { c.eng with pendRetire := true } })

def firmwarePlans_g := { svc with evt := { svc.evt with chans := (List.replicate 128 ({} : Chan)).set 5 { owner := 0 } } }

def firmwarePlans_t := nx (exec (.fabEpCtrlWrite 0 0x31050001) firmwarePlans_g)

def firmwarePlans_x := nx (exec (.fabEpCtrlWrite 0 0x35050001) svc)

def firmwarePlans_u := nx (exec (.fabEpCtrlWrite 0 0x44050001) svc)

def firmwarePlans_v := nx (exec (.fabEpCtrlWrite 0 0) firmwarePlans_a)

def firmwarePlans_w := nx (exec (.allowRetireMove 0) firmwarePlans_p)

def firmwarePlans_dk := { firmwarePlans_a with power := { firmwarePlans_a.power with solver := .off } }

/-- R160: both states firmware may write, STATE 0; R139: a circuit on a cell in PEND_RETIRE. -/
theorem witness_FirmwarePlans :
  firmwarePlans_dk.power.solver ≠ .on ∧ svc.power.solver = .on ∧ firmwarePlans_g.power.solver = .on ∧
    0 < svc.fab.slots.length ∧ svc.slotEp 0 = none ∧ (0x31050001#32).toNat / 2 ^ 29 = 1 ∧ firmwarePlans_g.slotEp 0 = none ∧ firmwarePlans_g.goOk 0 5 = true ∧ svc.goOk 1 5 = false ∧ (0x44050001#32).toNat / 2 ^ 29 = 2 ∧ firmwarePlans_a.slotEp 0 = some ep1 ∧ firmwarePlans_a.firmware = true ∧ firmwarePlans_a.fab.byExt 1 = some ep1 ∧
    firmwarePlans_p.serves = true ∧ firmwarePlans_p.policy 0 = 0 ∧ firmwarePlans_p.moveNext 0 ≠ [] ∧ inService firmwarePlans_p.sys.mode = true ∧ firmwarePlans_p.placeFree 0 = true ∧ firmwarePlans_p.fab.armedInst 0 = false ∧ firmwarePlans_p.owner 0 = some 0 ∧ firmwarePlans_p.fab.slots.findIdx? (fun q => q.ep.isNone) = some 0 ∧
    ((nx (exec (.fabEpCtrlWrite 0 0) firmwarePlans_dk)).slotEp 0).map Epoch.num = some 1 ∧ (firmwarePlans_t.slotEp 0).map Epoch.event = some true ∧ (firmwarePlans_u.slotEp 0).map Epoch.st = some .armed ∧ firmwarePlans_v.slotEp 0 = none ∧ firmwarePlans_w.fab.queue = [⟨0, 1⟩] := by decide +kernel

/-- A circuit from port end 0 to port end 2, established. -/
def sCirc : State := { svc with fab := { svc.fab with circuits := [{ inst := 0, inp := 0, out := 2, path := [⟨0, .cross, 0⟩, ⟨2, .bar, 1⟩] }] } }

/-- SERVICE with the mode changed. -/
def sMode (m : Mode) : State := { svc with sys := { svc.sys with mode := m } }

def queriesAnswer_s := tk h0 0x10 svc

def queriesAnswer_b := bg h0 0x10 svc

def queriesAnswer_t := rn h0 0x10 (.queryPort h0 1022 2 0x1000 16 true) svc

def queriesAnswer_tb := rn h0 0x10 (.queryPort h0 1022 2 0x1000 16 false) svc

def queriesAnswer_r := sEng (fun e => { e with st := .retired })

def queriesAnswer_hs := { queriesAnswer_r with hosts := { linkUp := true, enable := true, seen := queriesAnswer_r.healthOf 0 } :: queriesAnswer_r.hosts.drop 1 }

def queriesAnswer_h1 := (bg h0 0x12 queriesAnswer_hs).healthCheck 0

def queriesAnswer_h := rn h0 0x12 (.health h0 0x2000 72 true) queriesAnswer_hs

def queriesAnswer_hb := rn h0 0x12 (.health h0 0x2000 72 false) queriesAnswer_hs

/-- R216: the last port ends, cell 0 and an UNUSED cell, and an OUT_LEN for one entry of HEALTH. -/
theorem witness_QueriesAnswer :
  Safe.memory queriesAnswer_s ∧ Safe.turn h0 0x10 queriesAnswer_s queriesAnswer_b ∧ inAny queriesAnswer_s.sys.mode = true ∧ queriesAnswer_s.hosts[0]?.isSome = true ∧ 1 ≤ 2 ∧ 1022 < 1024 ∧ 1022 + 2 ≤ 1024 ∧ 0x1000 % 8 = 0 ∧ 8 * 2 ≤ 16 ∧
    Safe.turn h0 0x11 (tk h0 0x11 svc) (bg h0 0x11 svc) ∧ Safe.turn h0 0x13 (tk h0 0x13 svc) (bg h0 0x13 svc) ∧ (svc.entry 0).role ≠ 0 ∧ svc.owner (svc.entry 0).inst = some 0 ∧ (svc.entry 8191).role = 0 ∧
    Safe.memory (tk h0 0x12 queriesAnswer_hs) ∧ Safe.turn h0 0x12 (tk h0 0x12 queriesAnswer_hs) (bg h0 0x12 queriesAnswer_hs) ∧ (queriesAnswer_hs.hosts[0]?).isSome = true ∧ 0x2000 % 8 = 0 ∧ 64 ≤ 72 ∧
    (queriesAnswer_tb.hport 0).err = 32 ∧ 0 < (queriesAnswer_h1.healthOf 0).length := by decide +kernel

def eventBindBinds_s := { svc with evt := { svc.evt with chans := { owner := 0 } :: { owner := 1 } :: { owner := 0, tripped := true } :: List.replicate 125 {} } }

def eventBindBinds_b := bg h0 0x20 eventBindBinds_s

def eventBindBinds_t := rn h0 0x20 (.eventBind h0 0 31 0x30 1) eventBindBinds_s

/-- R230: a channel of host 0, a source it may not bind, another host's channel; vector 31. -/
theorem witness_EventBindBinds :
  Safe.turn h0 0x20 (tk h0 0x20 eventBindBinds_s) eventBindBinds_b ∧ inAny eventBindBinds_s.sys.mode = true ∧ eventBindBinds_s.evt.chans[0]? = some { owner := 0 } ∧ eventBindBinds_s.evt.chans[2]? = some { owner := 0, tripped := true } ∧ 31 ≤ 31 ∧ 0x30 ≤ 255 ∧ 1 ≤ 1 ∧
    sourceOk eventBindBinds_s.steward eventBindBinds_s.pinOwner 0 false 0x30 = true ∧ sourceOk eventBindBinds_s.steward eventBindBinds_s.pinOwner 0 false 0xF0 = false ∧ eventBindBinds_s.evt.chans[1]? = some { owner := 1 } ∧
    (eventBindBinds_t.evt.chans.getD 0 {}).src = 0x30 ∧ (eventBindBinds_t.evt.chans.getD 0 {}).en = true := by decide +kernel

def recorderCommands_l := { svcD with rcd := { svcD.rcd with rings := [[{ size := 2 ^ 20, w := 64 }, { size := 2 ^ 20 }, { size := 2 ^ 20 }], [{}, {}, {}], [{}, {}, {}], [{}, {}, {}]] }, mem := [⟨(svcD.ringAddrs 0 0 0).headD 0, 5⟩] }

def recorderCommands_z := { svcD with rcd := { svcD.rcd with frozen := true } }

def recorderCommands_t := rn h0 0x30 (.recMark h0 0 9) svcD

def recorderCommands_f := rn h0 0x31 (.recFreeze h0 1) svcD

def recorderCommands_g := rn h0 0x31 (.recFreeze h0 0) recorderCommands_z

def recorderCommands_b := bg h0 0x32 recorderCommands_l

def recorderCommands_x := rn h0 0x32 (.recExport h0 0 0 16 0x100) recorderCommands_l

def recorderCommands_run := (recorderCommands_x.sys.exportRun).getD { port := 0, tag := 0, inst := 0, ring := 0, src := 0, len := 0, outAddr := 0 }

def recorderCommands_y := nx (exec (.recExportDone 16 true) recorderCommands_x)

def recorderCommands_yb := nx (exec (.recExportDone 8 false) recorderCommands_x)

def recorderCommands_cut := { recorderCommands_x with rcd := { recorderCommands_x.rcd with rings := [[{ size := 2 ^ 20, w := 2 ^ 20 + 8 }, { size := 2 ^ 20 }, { size := 2 ^ 20 }], [{}, {}, {}], [{}, {}, {}], [{}, {}, {}]] } }

def recorderCommands_yc := nx (exec (.recExportDone 4 true) recorderCommands_cut)

/-- R347-R349: a mark, a freeze and its release, and an export of the first 16 bytes of the log. -/
theorem witness_RecorderCommands :
  Safe.turn h0 0x30 (tk h0 0x30 svcD) (bg h0 0x30 svcD) ∧ Safe.turn h0 0x31 (tk h0 0x31 svcD) (bg h0 0x31 svcD) ∧ inAny svcD.sys.mode = true ∧ svcD.owner 0 = some 0 ∧ 0 < svcD.instCount ∧ svcD.steward = 0 ∧ svcD.rcd.on = true ∧ svcD.rcd.present.getD 0 false = true ∧ (svcD.ring 0 0).size ≠ 0 ∧ svcD.rcd.frozen = false ∧ recorderCommands_z.rcd.frozen = true ∧ Safe.turn h0 0x31 (tk h0 0x31 recorderCommands_z) (bg h0 0x31 recorderCommands_z) ∧
    Safe.turn h0 0x32 (tk h0 0x32 recorderCommands_l) recorderCommands_b ∧ recorderCommands_l.sys.exportRun = none ∧ (recorderCommands_l.ring 0 0).oldest ≤ 0 ∧ 0 + 16 ≤ (recorderCommands_l.ring 0 0).w ∧ 0x100 % 8 = 0 ∧
    Safe.memory recorderCommands_x ∧ recorderCommands_x.sys.exportRun = some recorderCommands_run ∧ recorderCommands_x.firmware = true ∧ recorderCommands_run.bytes.length = recorderCommands_run.len ∧ Safe.memory recorderCommands_cut ∧ recorderCommands_cut.sys.exportRun = some recorderCommands_run ∧ recorderCommands_run.src + 4 < (recorderCommands_cut.ring 0 0).oldest ∧
    (recorderCommands_t.ring 0 0).w = 64 ∧ (recorderCommands_t.ring 0 1).marked = true ∧ recorderCommands_f.rcd.frozen = true ∧ recorderCommands_g.rcd.frozen = false ∧ (recorderCommands_g.ring 0 1).gap = true ∧ recorderCommands_run.len = 16 ∧ recorderCommands_y.sys.exportRun = none := by decide +kernel

def modeSetMoves_d := { sMode .dark with sys := { (sMode .dark).sys with waitOut := [0] } }

def modeSetMoves_t := rn h0 0x40 (.modeSet h0 7) svc

def modeSetMoves_u := rn h0 0x40 (.modeSet h0 4) sCirc

def modeSetMoves_v := rn h0 0x40 (.modeSet h0 3) modeSetMoves_d

def modeSetMoves_w := rn h0 0x40 (.modeSet h0 3) (sMode .calibrate)

def modeSetMoves_wa := { sMode .calibrate with sys := { (sMode .calibrate).sys with atlas := none } }

def modeSetMoves_m := { sMode .dark with sys := { (sMode .dark).sys with darkEntering := true } }

def modeSetMoves_n := rn h0 0x40 (.modeSet h0 3) modeSetMoves_m

def modeSetMoves_der := sMode .derated

def modeSetMoves_cal := sMode .calibrate

/-- R312-R316, each mode from which MODE_SET moves. -/
theorem witness_ModeSetMoves :
  Safe.turn h0 0x40 (tk h0 0x40 svc) (bg h0 0x40 svc) ∧ Safe.turn h0 0x40 (tk h0 0x40 sCirc) (bg h0 0x40 sCirc) ∧ inAny svc.sys.mode = true ∧ svc.steward = 0 ∧ 3 = svc.sys.mode.code ∧ svc.sys.darkEntering = false ∧ svc.sys.darkExiting = false ∧ sCirc.circuitThrough (32 * 0 + 2) = true ∧
    Safe.turn h0 0x40 (tk h0 0x40 modeSetMoves_d) (bg h0 0x40 modeSetMoves_d) ∧ modeSetMoves_d.sys.mode = .dark ∧ Safe.turn h0 0x40 (tk h0 0x40 (sMode .calibrate)) (bg h0 0x40 (sMode .calibrate)) ∧ (sMode .calibrate).sys.atlas.isSome = true ∧ Safe.turn h0 0x40 (tk h0 0x40 (sMode .safe)) (bg h0 0x40 (sMode .safe)) ∧ modeSetMoves_wa.sys.atlas = none ∧ State.reset.serves = false ∧
    Safe.turn h0 0x40 (tk h0 0x40 modeSetMoves_der) (bg h0 0x40 modeSetMoves_der) ∧ modeSetMoves_der.sys.mode = .derated ∧ inAny modeSetMoves_der.sys.mode = true ∧ modeSetMoves_cal.sys.mode = .calibrate ∧ (5 : Nat) ≠ 3 ∧ (5 : Nat) ≠ 4 ∧ (5 : Nat) ≠ 7 ∧
    Safe.turn h0 0x40 (tk h0 0x40 modeSetMoves_m) (bg h0 0x40 modeSetMoves_m) ∧ modeSetMoves_m.sys.mode = .dark ∧ modeSetMoves_m.sys.darkEntering = true ∧
    modeSetMoves_t.sys.mode = .restart ∧ modeSetMoves_u.sys.mode = .dark ∧ (modeSetMoves_u.clu 0).pow = .on ∧ modeSetMoves_v.sys.darkExiting = true ∧ modeSetMoves_v.sys.rowsLeft = [0] ∧ modeSetMoves_w.sys.mode = .service ∧
    modeSetMoves_n.sys.darkNext = [⟨0, 7, 0x40, 0⟩] := by decide +kernel

def resumeAndCalibrate_cool := { svc.thm with safeLatch := true, privs := List.replicate 18 { thr := { below := 2 } }, dies := List.replicate 288 { thr := { below := 2 } } }

def resumeAndCalibrate_s := { sMode .safe with thm := resumeAndCalibrate_cool, clusters := List.replicate 256 {} }

def resumeAndCalibrate_n := { resumeAndCalibrate_s with sys := { resumeAndCalibrate_s.sys with atlas := none } }

def resumeAndCalibrate_hot := { resumeAndCalibrate_s with thm := { resumeAndCalibrate_cool with dies := List.replicate 288 { thr := { below := 1 } } } }

def resumeAndCalibrate_b := bg h0 0x41 resumeAndCalibrate_s

def resumeAndCalibrate_t := rn h0 0x41 (.thermalResume h0) resumeAndCalibrate_s

def resumeAndCalibrate_tn := rn h0 0x41 (.thermalResume h0) resumeAndCalibrate_n

def resumeAndCalibrate_w := nx (exec (.thmResumeWrite 1) resumeAndCalibrate_s)

def resumeAndCalibrate_c := rn h0 0x42 (.calRequest h0) svc

/-- R300, R315: SAFE with a good exit and without; a circuit in the way of CAL_REQUEST. -/
theorem witness_ResumeAndCalibrate :
  Safe.turn h0 0x41 (tk h0 0x41 resumeAndCalibrate_s) resumeAndCalibrate_b ∧ resumeAndCalibrate_s.steward = 0 ∧ resumeAndCalibrate_s.sys.mode = .safe ∧ resumeAndCalibrate_s.mayResume = true ∧ resumeAndCalibrate_hot.mayResume = false ∧ resumeAndCalibrate_s.openSweep = none ∧ resumeAndCalibrate_s.sys.atlas.isSome = true ∧ Safe.turn h0 0x41 (tk h0 0x41 resumeAndCalibrate_n) (bg h0 0x41 resumeAndCalibrate_n) ∧ resumeAndCalibrate_n.mayResume = true ∧ resumeAndCalibrate_n.sys.atlas = none ∧
    (1#32).getLsbD 0 = true ∧ resumeAndCalibrate_s.thm.safeLatch = true ∧ resumeAndCalibrate_s.firmware = true ∧ resumeAndCalibrate_hot.firmware = true ∧
    Safe.turn h0 0x42 (tk h0 0x42 svc) (bg h0 0x42 svc) ∧ svc.sys.mode = .service ∧ svc.fab.circuits = [] ∧ sCirc.fab.circuits ≠ [] ∧ Safe.turn h0 0x42 (tk h0 0x42 sCirc) (bg h0 0x42 sCirc) ∧
    resumeAndCalibrate_t.sys.mode = .service ∧ resumeAndCalibrate_t.thm.safeLatch = false ∧ resumeAndCalibrate_tn.sys.mode = .calibrate ∧ resumeAndCalibrate_w.sys.mode = .service ∧ resumeAndCalibrate_c.sys.mode = .calibrate := by decide +kernel

def syscalAndFailoverCommands_s := { svc with hkc := { svc.hkc with cores := [{}, { en := true, st := .running, seq := { input := 3, gain := 1 } :: List.replicate 15 {}, len := 0 }, {}], refRdy := true, refEn := true } }

def syscalAndFailoverCommands_b := { syscalAndFailoverCommands_s with hkc := { syscalAndFailoverCommands_s.hkc with sysRun := some { port := 0, tag := 1, core := 1, input := 3, step := 0 } } }

def syscalAndFailoverCommands_f := { svc with net := { svc.net with standbyFitted := true } }

def syscalAndFailoverCommands_g := { syscalAndFailoverCommands_f with net := { syscalAndFailoverCommands_f.net with failing := true } }

def syscalAndFailoverCommands_i := { syscalAndFailoverCommands_s with hkc := { syscalAndFailoverCommands_s.hkc with cores := [{}, { syscalAndFailoverCommands_s.core 1 with st := .idle }, {}] } }

def syscalAndFailoverCommands_c0 := { syscalAndFailoverCommands_s with hkc := { syscalAndFailoverCommands_s.hkc with sys := some { core := 1, input := 3, cz := some { v := 100, atX := svc.now } } } }

def syscalAndFailoverCommands_c2 := { syscalAndFailoverCommands_s with hkc := { syscalAndFailoverCommands_s.hkc with sys := some { core := 1, input := 3, cz := some { v := 100, atX := svc.now }, e1 := 4194304, cf := some { v := 4194404, atX := svc.now } } } }

def syscalAndFailoverCommands_ti := rn h0 0x43 (.hkcSyscal h0 1 3 0 0) syscalAndFailoverCommands_i

def syscalAndFailoverCommands_t1 := rn h0 0x43 (.hkcSyscal h0 1 3 1 312500) syscalAndFailoverCommands_c0

def syscalAndFailoverCommands_t2 := rn h0 0x43 (.hkcSyscal h0 1 3 2 0) syscalAndFailoverCommands_c2

def syscalAndFailoverCommands_t := rn h0 0x43 (.hkcSyscal h0 1 3 0 0) syscalAndFailoverCommands_s

def syscalAndFailoverCommands_u := rn h0 0x44 (.netFailover h0) syscalAndFailoverCommands_f

/-- R218, R278: a capture, a second one, and the three answers of NET_FAILOVER. -/
theorem witness_SyscalAndFailoverCommands :
  Safe.turn h0 0x43 (tk h0 0x43 syscalAndFailoverCommands_s) (bg h0 0x43 syscalAndFailoverCommands_s) ∧ syscalAndFailoverCommands_s.steward = 0 ∧ inAwake syscalAndFailoverCommands_s.sys.mode = true ∧ 3 ≤ 15 ∧ (syscalAndFailoverCommands_s.hkc.cores[1]?).map HkcCore.en = some true ∧ (syscalAndFailoverCommands_s.core 1).gainOf 3 = some 1 ∧ syscalAndFailoverCommands_s.hkc.sysRun = none ∧ syscalAndFailoverCommands_b.hkc.sysRun.isSome = true ∧ Safe.turn h0 0x43 (tk h0 0x43 syscalAndFailoverCommands_b) (bg h0 0x43 syscalAndFailoverCommands_b) ∧ Safe.turn h0 0x43 (tk h0 0x43 syscalAndFailoverCommands_c0) (bg h0 0x43 syscalAndFailoverCommands_c0) ∧ 2097152 ≤ syscalE1 1 312500 ∧ syscalE1 1 312500 ≤ 8388607 ∧ Safe.turn h0 0x43 (tk h0 0x43 syscalAndFailoverCommands_c2) (bg h0 0x43 syscalAndFailoverCommands_c2) ∧ (syscalAndFailoverCommands_c2.syscalCoef (syscalAndFailoverCommands_c2.hkc.sys.getD { core := 0, input := 0 })).isSome = true ∧ 25 < syscalAndFailoverCommands_c2.hkc.coef.length ∧
    Safe.turn h0 0x44 (tk h0 0x44 svc) (bg h0 0x44 svc) ∧ svc.net.standbyFitted = false ∧ Safe.turn h0 0x44 (tk h0 0x44 syscalAndFailoverCommands_f) (bg h0 0x44 syscalAndFailoverCommands_f) ∧ Safe.turn h0 0x44 (tk h0 0x44 syscalAndFailoverCommands_g) (bg h0 0x44 syscalAndFailoverCommands_g) ∧ syscalAndFailoverCommands_f.net.standbyFitted = true ∧ syscalAndFailoverCommands_f.net.failing = false ∧ syscalAndFailoverCommands_g.net.failing = true ∧
    (syscalAndFailoverCommands_t.core 1).st = .running ∧ (syscalAndFailoverCommands_ti.core 1).st = .syscal ∧ syscalAndFailoverCommands_t1.hkc.sys = some { core := 1, input := 3, cz := some { v := 100, atX := svc.now }, e1 := syscalE1 1 312500, cf := none } ∧ (syscalAndFailoverCommands_t2.hkc.coef.getD 25 none).isSome = true ∧ syscalAndFailoverCommands_u.net.failing = true ∧ syscalAndFailoverCommands_u.net.active = true := by decide +kernel

def imagesStageAndActivate_n := { bytes := img0.bytes, act := 0xFFFFFFFF : ImageSlot }

def imagesStageAndActivate_r := { svc with sys := { svc.sys with genImg := 1, stageRun := some { port := 0, tag := 7, bytes := img0.bytes } } }

def imagesStageAndActivate_a := { svc with sys := { svc.sys with staged := some 1, flash := some { fl0 with slotB := some { imagesStageAndActivate_n with act := 0xFFFFFFFF } } } }

def imagesStageAndActivate_ac := { sCirc with sys := { sCirc.sys with staged := some 1 } }

def imagesStageAndActivate_fo := { h0 with flags := 4 }

def imagesStageAndActivate_gr := { sCirc with sys := { sCirc.sys with grace := some ⟨0, 7⟩, release := true } }

def imagesStageAndActivate_b := bg h0 0x48 svc

def imagesStageAndActivate_t := rn h0 0x48 (.imageStage h0 [1, 2, 3] 0x1000 2) svc

def imagesStageAndActivate_no := nx (exec (.imageStageDone false) imagesStageAndActivate_r)

def imagesStageAndActivate_u := rn h0 0x49 (.imageActivate h0 10000) imagesStageAndActivate_a

def imagesStageAndActivate_v := rn imagesStageAndActivate_fo 0x49 (.imageActivate imagesStageAndActivate_fo 10000) imagesStageAndActivate_ac

def imagesStageAndActivate_e := nx (exec .releaseGraceEnd imagesStageAndActivate_gr)

/-- R220, R327, R328: staging, a failed image, activation with and without circuits, FORCE, and the grace's end. -/
theorem witness_ImagesStageAndActivate :
  Safe.turn h0 0x48 (tk h0 0x48 svc) imagesStageAndActivate_b ∧ svc.steward = 0 ∧ svc.sys.stageRun = none ∧ svc.sys.flash = some fl0 ∧ svc.sys.wouldQueue = false ∧ inAny svc.sys.mode = true ∧ svc.sys.imgSlot ≤ 1 ∧ 0x1000 < 2 ^ 64 ∧
    imagesStageAndActivate_r.sys.stageRun.isSome = true ∧ imagesStageAndActivate_r.firmware = true ∧ imagesStageAndActivate_r.sys.wouldQueue = false ∧ newerGen (readHdr img0.bytes).generation imagesStageAndActivate_r.sys.genImg = false ∧
    Safe.turn h0 0x49 (tk h0 0x49 svc) (bg h0 0x49 svc) ∧ svc.sys.grace = none ∧ svc.sys.staged = none ∧ imagesStageAndActivate_a.sys.staged = some 1 ∧ Safe.turn h0 0x49 (tk h0 0x49 imagesStageAndActivate_a) (bg h0 0x49 imagesStageAndActivate_a) ∧ imagesStageAndActivate_a.fab.circuits = [] ∧ Safe.turn h0 0x49 (tk h0 0x49 imagesStageAndActivate_ac) (bg h0 0x49 imagesStageAndActivate_ac) ∧ imagesStageAndActivate_ac.fab.circuits ≠ [] ∧ forced h0 = false ∧ forced imagesStageAndActivate_fo = true ∧ Safe.turn imagesStageAndActivate_fo 0x49 (tk imagesStageAndActivate_fo 0x49 imagesStageAndActivate_ac) (bg imagesStageAndActivate_fo 0x49 imagesStageAndActivate_ac) ∧
    (imagesStageAndActivate_a.sys.flash).map (fun f => f.image 1) = some (some imagesStageAndActivate_n) ∧ imagesStageAndActivate_a.sys.wouldQueue = false ∧
    imagesStageAndActivate_gr.sys.grace.isSome = true ∧ imagesStageAndActivate_gr.firmware = true ∧
    (imagesStageAndActivate_t.sys.stageRun).map StageRun.bytes = some [1, 2] ∧ imagesStageAndActivate_no.sys.staged = none ∧ imagesStageAndActivate_u.sys.resetting = some .steward ∧ imagesStageAndActivate_v.sys.release = true ∧ imagesStageAndActivate_e.sys.resetting = some .steward := by decide +kernel

/-- The good image, staged (R327). -/
def sStaged : State := { svc with sys := { svc.sys with stageRun := some { port := 0, tag := 7, bytes := good false } } }
/-- R327: a newer image that passes the checks but for step 2. -/
theorem witness_ImagesStageAndActivate_passes :
    (sStaged.sys.stageRun = some { port := 0, tag := 7, bytes := good false } ∧ sStaged.firmware = true ∧ sStaged.sys.wouldQueue = false) ∧
    newerGen (readHdr (good false)).generation sStaged.sys.genImg = true ∧
    checkSlot false (if sStaged.sys.lc = .sealed_ then some sStaged.sys.keyHash else none)
      (if sStaged.time.refValid then some sStaged.time.refFreq else none) { bytes := good false } = none :=
  ⟨⟨rfl, by decide +kernel, by decide +kernel⟩, by decide +kernel, good_passes false false 0xFFFFFFFF (Or.inl rfl)⟩

def stageEval_ok := nx (exec (.imageStageDone true) sStaged)

def windowWrites_q := { linkUp := true, enable := true, cmdHead := 65500, cmdTail := 65500, cplHead := 65535, cplTail := 1, ntcHead := 5, ntcTail := 7 : HostPort }

def windowWrites_s := { svc with hosts := windowWrites_q :: svc.hosts.drop 1 }

def windowWrites_c := nx (exec (.commandDoorbell 0 28 []) windowWrites_s)

def windowWrites_d := nx (exec (.commandDoorbell 0 29 [{ code := 1 }]) windowWrites_s)

def windowWrites_e := nx (exec (.completionHeadWrite 0 1) windowWrites_s)

def windowWrites_f := nx (exec (.completionHeadWrite 0 2) windowWrites_s)

def windowWrites_g := nx (exec (.noticeHeadWrite 0 7) windowWrites_s)

def windowWrites_i := nx (exec (.noticeHeadWrite 0 8) windowWrites_s)

def windowWrites_j := nx (exec (.mbxEnableWrite 0 0) windowWrites_s)

def windowWrites_k := nx (exec (.commandDoorbell 0 65502 [{ code := 1 }, { code := 2 }]) windowWrites_s)

def windowWrites_t := nx (exec (.eventDoorbell 0) { windowWrites_s with evt := { windowWrites_s.evt with chans := { src := 0xC0 } :: List.replicate 127 {} } })

/-- R209, R211: the last index each ring takes and the first it does not, across the wrap at 65,536. -/
theorem witness_WindowWrites :
  windowWrites_q.cmdRing.length = 64 ∧ 2 + (65500 + 65536 - 65500) % 65536 ≤ 64 ∧ windowWrites_s.hostCan 0 = true ∧ windowWrites_s.hosts[0]? = some windowWrites_q ∧ 28 < 65536 ∧ (28 + 65536 - windowWrites_q.cmdHead) % 65536 ≤ 64 ∧ 64 < (29 + 65536 - windowWrites_q.cmdHead) % 65536 ∧
    (1 + 65536 - windowWrites_q.cplHead) % 65536 ≤ (windowWrites_q.cplTail + 65536 - windowWrites_q.cplHead) % 65536 ∧ (windowWrites_q.cplTail + 65536 - windowWrites_q.cplHead) % 65536 < (2 + 65536 - windowWrites_q.cplHead) % 65536 ∧
    (7 + 65536 - windowWrites_q.ntcHead) % 65536 ≤ (windowWrites_q.ntcTail + 65536 - windowWrites_q.ntcHead) % 65536 ∧ (windowWrites_q.ntcTail + 65536 - windowWrites_q.ntcHead) % 65536 < (8 + 65536 - windowWrites_q.ntcHead) % 65536 ∧
    (windowWrites_c.hport 0).cmdTail = 28 ∧ (windowWrites_d.hport 0).cmdTail = 65500 ∧ (windowWrites_d.hport 0).err = 1 ∧ (windowWrites_e.hport 0).cplHead = 1 ∧ (windowWrites_f.hport 0).err = 2 ∧ (windowWrites_g.hport 0).ntcHead = 7 ∧ (windowWrites_i.hport 0).err = 2 ∧ windowWrites_t.evt.chanIn = [⟨0, none⟩] := by decide +kernel

def takePostMirror_n := { kind := 3, atS := 1, body := [1, 2] : Notice }

def takePostMirror_q := { linkUp := true, enable := true, cmdTail := 1, cmdRing := some { code := 1 } :: List.replicate 63 none, backlog := [.note takePostMirror_n], holdoff := 10, hold0 := true, hold1 := true, held1 := true, msix := List.replicate 32 { masked := false } : HostPort }

def takePostMirror_s := { svc with hosts := takePostMirror_q :: svc.hosts.drop 1, sys := { svc.sys with servedPort := 2 } }

def takePostMirror_su := { takePostMirror_s with hosts := { takePostMirror_q with cmdRing := some { code := 0xEE } :: List.replicate 63 none } :: svc.hosts.drop 1 }

def takePostMirror_sl := { takePostMirror_s with hosts := { takePostMirror_q with backlog := [.lost 5] } :: svc.hosts.drop 1 }

def takePostMirror_tu := nx (exec (.commandTake 0) takePostMirror_su)

def takePostMirror_pl := nx (exec (.noticePost 0) takePostMirror_sl)

def takePostMirror_t := nx (exec (.commandTake 0) takePostMirror_s)

def takePostMirror_p := nx (exec (.noticePost 0) takePostMirror_s)

def takePostMirror_m := nx (exec (.mirrorRefresh 0) takePostMirror_s)

def takePostMirror_a := nx (exec (.msixHoldoffEnd 0 0) takePostMirror_s)

def takePostMirror_b := nx (exec (.msixHoldoffEnd 0 1) takePostMirror_s)

/-- R208, R210, R211, R219: a command at the head, the oldest notice, a refresh, and both ends of HOLDOFF. -/
theorem witness_TakePostMirror :
  0 = (takePostMirror_s.sys.servedPort + 2) % 4 ∧ (takePostMirror_s.hport 3).mayTake = false ∧ 0xEE ∉ knownCodes ∧ takePostMirror_q.taken = [] ∧ takePostMirror_q.cplRing.length = 64 ∧ takePostMirror_q.ntcDesc.length = 32 ∧
    takePostMirror_s.serves = true ∧ takePostMirror_s.hosts[0]? = some takePostMirror_q ∧ takePostMirror_q.taken.length + (takePostMirror_q.cplTail + 65536 - takePostMirror_q.cplHead) % 65536 < 64 ∧ takePostMirror_q.cmdHead ≠ takePostMirror_q.cmdTail ∧ takePostMirror_q.cmdRing.getD (takePostMirror_q.cmdHead % 64) none = some { code := 1 } ∧ 1 ∈ knownCodes ∧
    takePostMirror_s.firmware = true ∧ takePostMirror_q.enable = true ∧ takePostMirror_q.linkUp = true ∧ (takePostMirror_q.ntcTail + 65536 - takePostMirror_q.ntcHead) % 65536 < 32 ∧ takePostMirror_q.backlog = .note takePostMirror_n :: [] ∧ takePostMirror_q.ntcBody.length = 32 ∧
    takePostMirror_q.hold0 = true ∧ takePostMirror_q.held0 = false ∧ takePostMirror_q.hold1 = true ∧ takePostMirror_q.held1 = true ∧ takePostMirror_q.holdoff ≠ 0 ∧ (takePostMirror_q.msix.getD 1 {}).masked = false ∧ takePostMirror_q.sent.length = 32 ∧
    (takePostMirror_t.hport 0).taken = [⟨{ code := 1 }, false, none, 0⟩] ∧ (takePostMirror_tu.hport 0).cplTail = 1 ∧ (takePostMirror_pl.hport 0).ntcTail = 1 ∧ (takePostMirror_p.hport 0).ntcTail = 1 ∧ (takePostMirror_m.hport 0).mirSeq = 2 ∧ (takePostMirror_a.hport 0).hold0 = false ∧ (takePostMirror_b.hport 0).sent.getD 1 0 = 1 := by decide +kernel

def portResetsAndLinks_s := { sCirc with hosts := { linkUp := true, enable := true, taken := [⟨{ code := 1 }, true, none, 0⟩], cmdTail := 1, err := 4, health := 3 } :: svc.hosts.drop 1, evt := { svc.evt with chans := { owner := 0, en := true, src := 0x30 } :: List.replicate 127 { owner := 4 } }, braid := { svc.braid with waiting := [⟨⟨9, 0x40, .read 4, 0, false⟩, 0⟩] :: List.replicate 10 [] } }

def portResetsAndLinks_t := nx (exec (.hostPortReset 0) portResetsAndLinks_s)

def portResetsAndLinks_u := nx (exec (.hostLinkUp 0 .gt8) portResetsAndLinks_t)

def portResetsAndLinks_n := { portResetsAndLinks_t with power := { portResetsAndLinks_t.power with pcie := List.replicate 4 .off } }

/-- R221: a port with a command in flight, a waiting piece and a channel. -/
theorem witness_PortResetsAndLinks :
  (portResetsAndLinks_s.hosts[0]?).map HostPort.health = some 3 ∧ portResetsAndLinks_s.power.pcie.getD 0 .off = .on ∧ portResetsAndLinks_t.power.pcie.getD 0 .off = .on ∧ portResetsAndLinks_n.power.pcie.getD 0 .off ≠ .on ∧
    (portResetsAndLinks_t.hport 0).linkUp = false ∧ (portResetsAndLinks_t.hport 0).taken = [] ∧ (portResetsAndLinks_t.evt.chans.getD 0 {}).en = false ∧ (portResetsAndLinks_u.hport 0).linkUp = true := by decide +kernel

def firmwareFailsAndReturns_w := { svc with time := { svc.time with wns := 600000000 } }

def firmwareFailsAndReturns_p := { sMode .restart with sys := { (sMode .restart).sys with paused := true, before := .derated } }

def firmwareFailsAndReturns_x := { firmwareFailsAndReturns_p with sys := { firmwareFailsAndReturns_p.sys with restartFails := 2 }, time := { svc.time with wns := 2100000000 } }

def firmwareFailsAndReturns_y := { firmwareFailsAndReturns_x with sys := { firmwareFailsAndReturns_x.sys with restartFails := 1 } }

def firmwareFailsAndReturns_z := { firmwareFailsAndReturns_x with sys := { firmwareFailsAndReturns_x.sys with img := some ({ img0 with image := { img0.image with idnt := { wdtReset := true } } }) } }

def firmwareFailsAndReturns_t := nx (exec .firmwareFault sCirc)

def firmwareFailsAndReturns_l := nx (exec .firmwareFault (sMode .calibrate))

def firmwareFailsAndReturns_f := nx (exec .firmwareFault (sMode .safe))

def firmwareFailsAndReturns_k := nx (exec .watchdogKick firmwareFailsAndReturns_w)

def firmwareFailsAndReturns_e := nx (exec .watchdogFirstExpire firmwareFailsAndReturns_w)

def firmwareFailsAndReturns_r := nx (exec (.firmwareReturn true) firmwareFailsAndReturns_p)

def firmwareFailsAndReturns_a := nx (exec .watchdogRestartExpire firmwareFailsAndReturns_x)

def firmwareFailsAndReturns_b := nx (exec .watchdogRestartExpire firmwareFailsAndReturns_y)

def firmwareFailsAndReturns_c := nx (exec .watchdogRestartExpire firmwareFailsAndReturns_z)

/-- R316, R317: the faults of four modes, the watchdog in SERVICE, a return, and the third failure in a row. -/
theorem witness_FirmwareFailsAndReturns :
  sCirc.firmware = true ∧ sCirc.sys.mode = .service ∧ (sMode .calibrate).firmware = true ∧ (sMode .safe).firmware = true ∧ firmwareFailsAndReturns_w.firmware = true ∧ (firmwareFailsAndReturns_w.watchdogAt 500000000).isSome = true ∧ firmwareFailsAndReturns_w.sys.mode = .service ∧
    firmwareFailsAndReturns_p.sys.paused = true ∧ firmwareFailsAndReturns_p.sys.givenUp = false ∧ firmwareFailsAndReturns_p.sys.resetting = none ∧ firmwareFailsAndReturns_p.sys.held = false ∧ firmwareFailsAndReturns_p.sys.mode = .restart ∧
    (firmwareFailsAndReturns_x.watchdogAt 2000000000).isSome = true ∧ firmwareFailsAndReturns_x.image.idnt.wdtReset = false ∧ firmwareFailsAndReturns_x.sys.restartFails = 2 ∧ firmwareFailsAndReturns_y.sys.restartFails < 2 ∧ (firmwareFailsAndReturns_y.watchdogAt 2000000000).isSome = true ∧ firmwareFailsAndReturns_z.image.idnt.wdtReset = true ∧ (firmwareFailsAndReturns_z.watchdogAt 2000000000).isSome = true ∧
    firmwareFailsAndReturns_t.sys.mode = .restart ∧ firmwareFailsAndReturns_l.sys.resetting = some .watchdog ∧ firmwareFailsAndReturns_f.sys.mode = .safe ∧ firmwareFailsAndReturns_f.sys.paused = true ∧ firmwareFailsAndReturns_e.sys.mode = .restart ∧ firmwareFailsAndReturns_r.sys.paused = false ∧ firmwareFailsAndReturns_a.sys.givenUp = true ∧ firmwareFailsAndReturns_b.sys.restartFails = 2 ∧ firmwareFailsAndReturns_c.sys.resetting = some .watchdog := by decide +kernel

def darkAndSweepEnd_d := { sMode .dark with sys := { (sMode .dark).sys with darkWait := [0] } }

def darkAndSweepEnd_e := { sMode .dark with sys := { (sMode .dark).sys with darkEntering := true, modeCmd := some ⟨0, 7, 0x40, 0⟩ }, clusters := List.replicate 256 {}, islands := List.replicate 16 {}, hosts := { linkUp := true, enable := true, taken := [⟨{ code := 0x40, tag := 7 }, true, none, 0⟩] } :: List.replicate 3 { linkUp := true, enable := true } }

def darkAndSweepEnd_x := { sMode .dark with sys := { (sMode .dark).sys with darkExiting := true } }

def darkAndSweepEnd_c := { sMode .calibrate with sys := { (sMode .calibrate).sys with sweep := some { gen := 2, slot := 1 } } }

def darkAndSweepEnd_bad := { atl0 with cells := atl0.cells.map (fun (q : Nat × AtlasCell) => (q.1, { q.2 with accepted := false })) }

def darkAndSweepEnd_hot := { darkAndSweepEnd_c with thm := { darkAndSweepEnd_c.thm with dies := { thr := { on := true } } :: List.replicate 287 {} } }

def darkAndSweepEnd_t := nx (exec (.darkDeferredPowerDown 0) darkAndSweepEnd_d)

def darkAndSweepEnd_u := nx (exec .darkEntryDone darkAndSweepEnd_e)

def darkAndSweepEnd_v := nx (exec .darkExitDone darkAndSweepEnd_x)

def darkAndSweepEnd_sw := { gen := 2, slot := 1 : Sweep }

def darkAndSweepEnd_w := nx (exec (.calSweepDone ⟨atl0, 258⟩) darkAndSweepEnd_c)

def darkAndSweepEnd_y := nx (exec (.calSweepDone ⟨darkAndSweepEnd_bad, 258⟩) darkAndSweepEnd_c)

def darkAndSweepEnd_pt := nx (exec (.calSweepDone ⟨atl0, 1⟩) darkAndSweepEnd_c)

/-- R312, R314, R319, R331: a deferred cluster, entry, exit, and sweeps at MAX_RETIRE and beyond. -/
theorem witness_DarkAndSweepEnd :
  darkAndSweepEnd_d.firmware = true ∧ darkAndSweepEnd_d.sys.darkWait.contains 0 = true ∧ darkAndSweepEnd_d.openNames 0 = false ∧ darkAndSweepEnd_d.darkMay 0 = true ∧ darkAndSweepEnd_d.clusters[0]? = some clu0 ∧ clu0.pow = .on ∧
    darkAndSweepEnd_e.firmware = true ∧ darkAndSweepEnd_e.darkReached = true ∧ darkAndSweepEnd_e.sys.modeCmd = some ⟨0, 7, 0x40, 0⟩ ∧ darkAndSweepEnd_e.sys.darkNext = [] ∧ darkAndSweepEnd_e.hosts.length = 4 ∧ (darkAndSweepEnd_e.hport 0).cplRing.length = 64 ∧
    darkAndSweepEnd_x.firmware = true ∧ darkAndSweepEnd_x.sys.darkExiting = true ∧ darkAndSweepEnd_x.sys.rowsLeft = [] ∧ darkAndSweepEnd_x.sys.waitOut.all darkAndSweepEnd_x.firstOut = true ∧
    darkAndSweepEnd_c.sys.sweep = some { gen := 2, slot := 1 } ∧ darkAndSweepEnd_c.sys.mode = .calibrate ∧ darkAndSweepEnd_c.firmware = true ∧ darkAndSweepEnd_c.thm.anyThr = false ∧ darkAndSweepEnd_c.sweptBad (darkAndSweepEnd_c.sweptAtlas (darkAndSweepEnd_c.sweepTake atl0 258 darkAndSweepEnd_sw) atl0.retire) ≤ darkAndSweepEnd_c.image.atls.maxRetire ∧ darkAndSweepEnd_c.image.atls.maxRetire < darkAndSweepEnd_c.sweptBad (darkAndSweepEnd_c.sweptAtlas (darkAndSweepEnd_c.sweepTake darkAndSweepEnd_bad 258 darkAndSweepEnd_sw) (darkAndSweepEnd_bad).retire) ∧ darkAndSweepEnd_c.sys.wouldQueue = false ∧ 258 ≤ 258 ∧ 1 < 258 ∧ darkAndSweepEnd_c.cellInsts 0 ≠ [] ∧ darkAndSweepEnd_hot.thm.anyThr = true ∧ darkAndSweepEnd_hot.firmware = true := by decide +kernel

/-- The same, continued. -/
theorem witness_DarkAndSweepEnd_2 :
  (darkAndSweepEnd_t.clu 0).pdown = true ∧ darkAndSweepEnd_u.sys.darkEntering = false ∧ darkAndSweepEnd_v.sys.mode = .service ∧ darkAndSweepEnd_w.sys.mode = .service ∧ darkAndSweepEnd_w.sys.atlSlot = 1 ∧ darkAndSweepEnd_y.sys.mode = .calibrate ∧ (darkAndSweepEnd_pt.sys.sweep).map Sweep.filed = some [0] ∧ (darkAndSweepEnd_pt.sys.sweep).map Sweep.done = some 1 := by decide +kernel

def nvmAndShutdownRecords_sd := { cause := 1, mode := 3, sensor := 0, t := 0 : Shutdown }

def nvmAndShutdownRecords_r := { sMode .safe with thm := { svc.thm with shut := some nvmAndShutdownRecords_sd }, rcd := { svc.rcd with snaps := [(1, 2, [3])] } }

def nvmAndShutdownRecords_w := { nvmAndShutdownRecords_r with thm := { nvmAndShutdownRecords_r.thm with shut := some { nvmAndShutdownRecords_sd with rampDone := true } } }

def nvmAndShutdownRecords_q := { nvmAndShutdownRecords_w with sys := { nvmAndShutdownRecords_w.sys with absent := true } }

def nvmAndShutdownRecords_d := { nvmAndShutdownRecords_w with thm := { nvmAndShutdownRecords_w.thm with shut := some { nvmAndShutdownRecords_sd with written := true } } }

def nvmAndShutdownRecords_k := { nvmAndShutdownRecords_d with thm := { nvmAndShutdownRecords_d.thm with capsule := some [(1, 2, [3]), (1, 3, [4])] } }

def nvmAndShutdownRecords_t := nx (exec .shutdownRampDone nvmAndShutdownRecords_r)

def nvmAndShutdownRecords_u := nx (exec .shutdownRecordWrite nvmAndShutdownRecords_w)

def nvmAndShutdownRecords_v := nx (exec .shutdownRecordWrite nvmAndShutdownRecords_q)

def nvmAndShutdownRecords_c := nx (exec .tailCapsuleWrite nvmAndShutdownRecords_k)

def nvmAndShutdownRecords_z := { svc with sys := { svc.sys with queue := [.coef 1 2 3], absent := true } }

def nvmAndShutdownRecords_n := nx (exec (.nvmTest (.held false)) nvmAndShutdownRecords_z)

def nvmAndShutdownRecords_no := nx (exec (.nvmTest (.other fl0 true)) nvmAndShutdownRecords_z)

def nvmAndShutdownRecords_bl := nx (exec (.nvmTest (.other { jedec := 9 } true)) nvmAndShutdownRecords_z)

def nvmAndShutdownRecords_ff := { fl0 with jedec := 9 }

def nvmAndShutdownRecords_us := { fl0 with sfdp := [1] }

def nvmAndShutdownRecords_fn := nx (exec (.nvmTest (.other nvmAndShutdownRecords_ff true)) svc)

def nvmAndShutdownRecords_kw := { nvmAndShutdownRecords_k with thm := { nvmAndShutdownRecords_k.thm with waitCaps := [[(1, 5, [9])]] } }

def nvmAndShutdownRecords_cw := nx (exec .tailCapsuleWrite nvmAndShutdownRecords_kw)

/-- R298, R299, R333-R335: the three tests, the ramp's end, the record to the flash and to the queue, and the capsule. -/
theorem witness_NvmAndShutdownRecords :
  nvmAndShutdownRecords_kw.thm.waitCaps ≠ [] ∧ nvmAndShutdownRecords_kw.sys.flash.isSome = true ∧ nvmAndShutdownRecords_kw.firmware = true ∧ nvmAndShutdownRecords_kw.sys.wouldQueue = false ∧
    nvmAndShutdownRecords_z.sameFlash fl0 = true ∧ fl0.signed = true ∧ (nvmAndShutdownRecords_us).signed = false ∧ svc.sameFlash nvmAndShutdownRecords_ff = false ∧ (nvmAndShutdownRecords_ff).signed = true ∧ slotErased (nvmAndShutdownRecords_ff).slotA = false ∧ nvmAndShutdownRecords_z.sameFlash { jedec := 9 } = false ∧ slotErased ({ jedec := 9 } : Flash).slotA = true ∧ slotErased ({ jedec := 9 } : Flash).slotB = true ∧
    svc.firmware = true ∧ svc.sys.ready = true ∧ nvmAndShutdownRecords_z.sys.flash = some fl0 ∧ nvmAndShutdownRecords_z.sys.ftCopy = none ∧ fl0.slotA ≠ none ∧
    nvmAndShutdownRecords_r.thm.shut = some nvmAndShutdownRecords_sd ∧ nvmAndShutdownRecords_sd.early = false ∧ nvmAndShutdownRecords_r.sys.mode = .safe ∧ nvmAndShutdownRecords_sd.rampDone = false ∧ (nvmAndShutdownRecords_r.clu (0 / 32)).pow ≠ .off ∧ nvmAndShutdownRecords_r.firmware = true ∧ nvmAndShutdownRecords_sd.written = false ∧ nvmAndShutdownRecords_r.thm.capsule = none ∧ nvmAndShutdownRecords_r.rcd.snaps ≠ [] := by decide +kernel

/-- The same, continued. -/
theorem witness_NvmAndShutdownRecords_2 :
  nvmAndShutdownRecords_d.thm.waitCaps = [] ∧ nvmAndShutdownRecords_w.thm.shut.isSome = true ∧ nvmAndShutdownRecords_w.firmware = true ∧ nvmAndShutdownRecords_w.sys.wouldQueue = false ∧ nvmAndShutdownRecords_q.sys.wouldQueue = true ∧ nvmAndShutdownRecords_q.sys.queue.length < 64 ∧ nvmAndShutdownRecords_d.firmware = true ∧ nvmAndShutdownRecords_k.thm.capsule.isSome = true ∧ nvmAndShutdownRecords_k.sys.flash = some fl0 ∧ nvmAndShutdownRecords_k.sys.wouldQueue = false ∧
    (nvmAndShutdownRecords_t.clu 0).pow = .off ∧ nvmAndShutdownRecords_t.thm.capsule = some [(1, 2, [3])] ∧ (nvmAndShutdownRecords_u.sys.flash).map (fun f => f.shutdowns.length) = some 1 ∧ nvmAndShutdownRecords_v.sys.queue.length = 1 ∧ (nvmAndShutdownRecords_c.sys.flash).map Flash.capsules = some [[3, 4]] ∧ nvmAndShutdownRecords_n.sys.queue = [] := by decide +kernel

/-- SERVICE with the time base changed. -/
def sTime (f : Time → Time) : State := { svc with time := f svc.time }

def countersCrossTheirBounds_k := { sTick with rcd := { svc.rcd with capDirty := true, capSel := 0x80000001 :: List.replicate 255 0 } }

def countersCrossTheirBounds_tk := nx (step countersCrossTheirBounds_k)

def countersCrossTheirBounds_i := sTime (fun t => { t with yT := 1000 })

def countersCrossTheirBounds_w := { sTime (fun t => { t with wns := 2 ^ 32 - 4 }) with evt := { svc.evt with chans := { src := 1, en := true } :: List.replicate 127 {} } }

def countersCrossTheirBounds_e := sTime (fun t => { t with eraStale := true, wns := 2 ^ 31 - 4, era := 0xFFFFFFFF })

def countersCrossTheirBounds_ti := nx (exec .incReload countersCrossTheirBounds_i)

def countersCrossTheirBounds_tw := nx (exec .nsWrap countersCrossTheirBounds_w)

def countersCrossTheirBounds_te := nx (exec .eraAutoIncrement countersCrossTheirBounds_e)

def countersCrossTheirBounds_tt := nx (exec .topOfSecond svc)

def countersCrossTheirBounds_g := nx (exec (.eraWrite 0) countersCrossTheirBounds_e)

def countersCrossTheirBounds_b := nx (exec (.eraWrite 1) countersCrossTheirBounds_e)

/-- R163-R165, R170, R341: an idle tick at the last instant before a bound, INC with y = 0, one tick before each bound, and both writes of ERA. -/
theorem witness_CountersCrossTheirBounds :
  countersCrossTheirBounds_k.pending = [] ∧ countersCrossTheirBounds_k.time.run = true ∧ countersCrossTheirBounds_k.time.frac < 2 ^ 32 ∧ countersCrossTheirBounds_k.time.wns + (countersCrossTheirBounds_k.time.frac + countersCrossTheirBounds_k.time.inc) / 2 ^ 32 < 2 ^ 31 ∧ countersCrossTheirBounds_k.time.sph + (countersCrossTheirBounds_k.time.frac + countersCrossTheirBounds_k.time.inc) / 2 ^ 32 < 1000000000 ∧ State.reset.pending = [] ∧ State.reset.time.run = false ∧
    countersCrossTheirBounds_i.time.run = true ∧ 1 ≤ 4 * 2 ^ 32 + countersCrossTheirBounds_i.yInc * 4 * 2 ^ 32 / 1000000000000 + countersCrossTheirBounds_i.time.residue ∧ 4 * 2 ^ 32 + countersCrossTheirBounds_i.yInc * 4 * 2 ^ 32 / 1000000000000 + countersCrossTheirBounds_i.time.residue ≤ 2 ^ 40 - 1 ∧
    countersCrossTheirBounds_w.time.run = true ∧ 0 < countersCrossTheirBounds_w.time.inc ∧ countersCrossTheirBounds_w.time.inc < 2 ^ 40 ∧ countersCrossTheirBounds_w.time.frac < 2 ^ 32 ∧ countersCrossTheirBounds_w.time.wns < 2 ^ 32 ∧ countersCrossTheirBounds_w.time.sph < 1000000000 ∧ countersCrossTheirBounds_w.time.eraStale = false ∧
    countersCrossTheirBounds_e.time.eraStale = true ∧ countersCrossTheirBounds_e.time.wns < 2 ^ 31 ∧ (0#32).toNat = (countersCrossTheirBounds_e.time.era + 1) % 2 ^ 32 ∧ (1#32).toNat ≠ (countersCrossTheirBounds_e.time.era + 1) % 2 ^ 32 ∧ svc.time.eraStale = false ∧
    countersCrossTheirBounds_tk.time.wns = 2 ^ 31 - 1 ∧ countersCrossTheirBounds_tk.time.sph = 999999999 ∧ countersCrossTheirBounds_tw.time.wns = 0 ∧ countersCrossTheirBounds_tw.time.eraStale = true ∧ countersCrossTheirBounds_te.time.era = 0 ∧ countersCrossTheirBounds_te.time.eraAuto = true ∧ countersCrossTheirBounds_tt.time.sph = 0 ∧ countersCrossTheirBounds_g.time.eraStale = false ∧ countersCrossTheirBounds_b.time.eraWrErr = true := by decide +kernel

/-- The machine after reset idles: its counters do not run. -/
theorem witness_CountersCrossTheirBounds_idle : step State.reset = .next State.reset := rfl

def stepsAndLoads_p := sTime (fun t => { t with stepPend := some (-500), srv := .locked, cmps := List.replicate 8 { tgt := 9 } })

def stepsAndLoads_z := { stepsAndLoads_p with fab := (sEp { ep2 5000000 with st := .sealedE }).fab }

def stepsAndLoads_s1 := (reach 3000000000 stepsAndLoads_p.stepAt stepsAndLoads_p).getD svc

def stepsAndLoads_a := nx (exec (.timeStepWrite 1000000000) svc)

def stepsAndLoads_b := nx (exec (.timeStepWrite (BitVec.ofInt 32 (-1000000001))) svc)

def stepsAndLoads_t := nx (exec .stepApply stepsAndLoads_p)

def stepsAndLoads_ec := { sTime (fun t => { t with stepPend := some 900000000, eraStale := true, wns := 2 ^ 31 - 800000000, era := 7 }) with sys := { svc.sys with efcEdge := 64 } }

def stepsAndLoads_e1 := (reach 3000000000 stepsAndLoads_ec.stepAt stepsAndLoads_ec).getD svc

def stepsAndLoads_et := nx (exec .stepApply stepsAndLoads_ec)

def stepsAndLoads_l := sTime (fun t => { t with loadEra := 1, loadWns := 2, loadSph := 999999999, cmps := List.replicate 8 { armed := true } })

def stepsAndLoads_u := nx (exec (.timeLoad 77) stepsAndLoads_l)

/-- R166-R169: steps of 1 s either way and 1 ns beyond, a pending step, one held by a seal, and a load. -/
theorem witness_StepsAndLoads :
  (1000000000#32).toInt ≤ 1000000000 ∧ -1000000000 ≤ (1000000000#32).toInt ∧ (BitVec.ofInt 32 (-1000000001)).toInt < -1000000000 ∧
    stepsAndLoads_p.time.stepPend = some (-500) ∧ stepsAndLoads_p.fab.epochs.any (fun e => e.st = .sealedE) = false ∧ reach 3000000000 stepsAndLoads_p.stepAt stepsAndLoads_p = some stepsAndLoads_s1 ∧ stepsAndLoads_z.fab.epochs.any (fun e => e.st = .sealedE) = true ∧ (stepsAndLoads_s1.time.cmps[0]?).map Cmp.armed = some false ∧ stepsAndLoads_s1.time.srv = .locked ∧
    reach 3000000000 stepsAndLoads_ec.stepAt stepsAndLoads_ec = some stepsAndLoads_e1 ∧ stepsAndLoads_e1.time.eraStale = true ∧ 2 ^ 31 ≤ stepsAndLoads_et.time.wns ∧ stepsAndLoads_et.time.era = 8 ∧ stepsAndLoads_et.time.eraAuto = true ∧ stepsAndLoads_et.time.eraStale = false ∧
    stepsAndLoads_l.fab.epochs = [] ∧ stepsAndLoads_l.time.run = true ∧ (sEp ep1).fab.epochs ≠ [] ∧
    stepsAndLoads_a.time.stepPend = some 1000000000 ∧ stepsAndLoads_b.time.stepErr = true ∧ stepsAndLoads_t.time.wns + 500 = stepsAndLoads_s1.time.wns ∧ stepsAndLoads_t.time.srv = .acquire ∧ stepsAndLoads_u.time.wns = 2 := by decide +kernel

def compareCaptureAndPps_c := sTime (fun t => { t with cmps := [{ tgt := 1000616 }, { tgt := 1000615 }, { tgt := 1000700, armed := true }, { tgt := 1000700, armed := true, periodic := true, per := 5 }, {}, {}, {}, {}], caps := [{ src := 2 }, { src := 17, full := true, ovrCnt := 255 }, { src := 19 }, { src := 18 }, { src := 18 }, {}, {}, {}] })

def compareCaptureAndPps_ps := ({ sph := 999 } : Stamp)

def compareCaptureAndPps_cp := { compareCaptureAndPps_c with evt := { compareCaptureAndPps_c.evt with pinIn := [(0, compareCaptureAndPps_ps), (1, compareCaptureAndPps_ps)], capIn := [(3, 9)], chans := { src := 0x18, en := true } :: { src := 0x1B, en := true } :: List.replicate 126 {} } }

def compareCaptureAndPps_ch := nx (exec (.captureStamp 3 (some 9)) compareCaptureAndPps_cp)

def compareCaptureAndPps_a := nx (exec (.compareArm 0) compareCaptureAndPps_c)

def compareCaptureAndPps_b := nx (exec (.compareArm 1) compareCaptureAndPps_c)

def compareCaptureAndPps_f := nx (exec (.compareFire 2) compareCaptureAndPps_c)

def compareCaptureAndPps_g := nx (exec (.compareFire 3) compareCaptureAndPps_c)

def compareCaptureAndPps_d := nx (exec (.compareDisarm 2) compareCaptureAndPps_c)

def compareCaptureAndPps_k := nx (exec (.captureStamp 0 none) compareCaptureAndPps_cp)

def compareCaptureAndPps_l := nx (exec (.captureStamp 1 none) compareCaptureAndPps_cp)

def compareCaptureAndPps_m := nx (exec (.captureSwTrigger 2) compareCaptureAndPps_c)

def compareCaptureAndPps_n := nx (exec (.captureRead 1 0) compareCaptureAndPps_c)

def compareCaptureAndPps_r := nx (exec .ppsInRise compareCaptureAndPps_c)

def compareCaptureAndPps_r1 := (reach 1000 (compareCaptureAndPps_c.now + 100) compareCaptureAndPps_r).getD svc

def compareCaptureAndPps_r2 := { compareCaptureAndPps_r1 with time := { compareCaptureAndPps_r1.time with ppsRise := none, ppsInAt := none } }

def compareCaptureAndPps_sv := { sTime (fun t => { t with srv := .acquire, ppsRise := some { sph := 100 }, ppsInAt := some svc.now }) with sys := { svc.sys with img := some ({ img0 with image := { img0.image with time := { source := 2, dPps := 40 } } }) } }

def compareCaptureAndPps_sv1 := (reach 1000 (svc.now + 100) compareCaptureAndPps_sv).getD svc

def compareCaptureAndPps_svq := nx (exec (.ppsInQualified 104) compareCaptureAndPps_sv)

def compareCaptureAndPps_q := nx (exec (.ppsInQualified 104) compareCaptureAndPps_r)

def compareCaptureAndPps_q2 := nx (exec (.ppsInQualified 95) compareCaptureAndPps_r)

def compareCaptureAndPps_h := { sTime (fun t => { t with srv := .locked }) with sys := { svc.sys with img := some ({ img0 with image := { img0.image with time := { source := 2 } } }) } }

def compareCaptureAndPps_th := nx (exec .ppsInTimeout compareCaptureAndPps_h)

def compareCaptureAndPps_o := sTime (fun t => { t with ppsEn := true, ppsFree := true, sph := 999000000 })

def compareCaptureAndPps_o1 := (reach 1100000000 compareCaptureAndPps_o.ppsNext compareCaptureAndPps_o).getD svc

def compareCaptureAndPps_to := nx (exec .ppsOutRise compareCaptureAndPps_o)

def compareCaptureAndPps_w1 := (reach 1100000000 (((compareCaptureAndPps_to.time.ppsRiseAt).getD 0) + (max 1 (min 500000 compareCaptureAndPps_to.time.ppsWidth)) * 1000) compareCaptureAndPps_to).getD svc

def compareCaptureAndPps_tf := nx (exec .ppsOutFall compareCaptureAndPps_to)

/-- R174-R178: targets 16 and 15 ns ahead, a periodic unit, an empty and a full capture unit, and pulses of 95 and 104 ns. -/
theorem witness_CompareCaptureAndPps :
  (compareCaptureAndPps_c.time.cmps[0]?).map Cmp.tgt = some 1000616 ∧ 16 ≤ (1000616 + 2 ^ 32 - compareCaptureAndPps_c.time.wns) % 2 ^ 32 ∧ (1000615 + 2 ^ 32 - compareCaptureAndPps_c.time.wns) % 2 ^ 32 < 16 ∧ (compareCaptureAndPps_c.time.cmps[2]?).map Cmp.armed = some true ∧ compareCaptureAndPps_c.time.run = true ∧
    (compareCaptureAndPps_cp.evt.pinIn.find? (fun q => q.1 = 0) = some (0, compareCaptureAndPps_ps) ∧ compareCaptureAndPps_cp.evt.pinIn.find? (fun q => q.1 = 1) = some (1, compareCaptureAndPps_ps) ∧ (3, 9) ∈ compareCaptureAndPps_cp.evt.capIn ∧ (compareCaptureAndPps_cp.time.caps[3]?).map Cap.src = some 18 ∧ (∀ q ∈ compareCaptureAndPps_c.evt.pinIn, q.1 ≠ 0)) ∧
    reach 1000 (compareCaptureAndPps_c.now + 100) compareCaptureAndPps_r = some compareCaptureAndPps_r1 ∧ compareCaptureAndPps_r.time.ppsInAt = some compareCaptureAndPps_c.now ∧ compareCaptureAndPps_sv.image.time.source = 2 ∧ compareCaptureAndPps_sv.firmware = true ∧ compareCaptureAndPps_sv.time.srv = .acquire ∧ reach 1000 (svc.now + 100) compareCaptureAndPps_sv = some compareCaptureAndPps_sv1 ∧ (List.range 8).all (fun i => compareCaptureAndPps_sv.capSrc i ≠ 1) = true ∧ signedNs (((100 : Int) - 40) % 1000000000) * 256 = 15360 ∧
    (compareCaptureAndPps_c.time.caps[0]?).map Cap.full = some false ∧ (compareCaptureAndPps_c.time.caps[1]?).map Cap.full = some true ∧ (compareCaptureAndPps_c.time.caps[2]?).map Cap.src = some 19 ∧ compareCaptureAndPps_r.time.ppsRise = some compareCaptureAndPps_c.stamp ∧ compareCaptureAndPps_r.image.time.source ≠ 2 ∧ (List.range 8).all (fun i => compareCaptureAndPps_r.capSrc i ≠ 1) = true ∧
    compareCaptureAndPps_h.image.time.source = 2 ∧ compareCaptureAndPps_h.firmware = true ∧ compareCaptureAndPps_h.time.srv = .locked ∧ reach 1100000000 compareCaptureAndPps_o.ppsNext compareCaptureAndPps_o = some compareCaptureAndPps_o1 ∧ compareCaptureAndPps_to.time.ppsRiseAt = some compareCaptureAndPps_o1.now ∧ compareCaptureAndPps_to.time.ppsOut = true ∧ reach 1100000000 (compareCaptureAndPps_o1.now + (max 1 (min 500000 compareCaptureAndPps_to.time.ppsWidth)) * 1000) compareCaptureAndPps_to = some compareCaptureAndPps_w1 := by decide +kernel

/-- The same, continued. -/
theorem witness_CompareCaptureAndPps_2 :
  (compareCaptureAndPps_a.time.cmps.getD 0 {}).armed = true ∧ (compareCaptureAndPps_b.time.cmps.getD 1 {}).armErr = true ∧ (compareCaptureAndPps_g.time.cmps.getD 3 {}).tgt = 1001700 ∧ (compareCaptureAndPps_k.time.caps.getD 0 {}).full = true ∧ (compareCaptureAndPps_l.time.caps.getD 1 {}).ovrCnt = 255 ∧ compareCaptureAndPps_th.time.srv = .holdover ∧ compareCaptureAndPps_tf.time.ppsOut = false := by decide +kernel

def servoFollows_l := sTime (fun t => { t with srv := .locked })

def servoFollows_a := sTime (fun t => { t with srv := .acquire, lockRun := 63 })

def servoFollows_p := sTime (fun t => { t with srv := .acquire, stepEn := true })

def servoFollows_v := BitVec.ofNat 32 (100 * 256)

def servoFollows_big := BitVec.ofNat 32 (100001 * 256)

def servoFollows_t := nx (exec (.servoUpdate servoFollows_v) servoFollows_l)

def servoFollows_ta := nx (exec (.servoUpdate servoFollows_v) servoFollows_a)

def servoFollows_tp := nx (exec (.servoUpdate servoFollows_big) servoFollows_p)

def servoFollows_tx := nx (exec (.servoUpdate (BitVec.ofNat 32 (101 * 256))) servoFollows_a)

def servoFollows_ti := nx (exec (.servoUpdate servoFollows_v) svc)

def servoFollows_rl := nx (exec .referenceLoss servoFollows_l)

def servoFollows_rr := nx (exec (.referenceReturn 1) { servoFollows_rl with time := { servoFollows_rl.time with refValid := false } })

/-- R179-R181: an update in LOCKED, the 64th in a row within the threshold, a step, each written state and the reference. -/
theorem witness_ServoFollows :
  svc.time.srv = .freerun ∧ servoFollows_l.time.srv = .locked ∧ servoFollows_a.time.srv = .acquire ∧ servoFollows_l.time.stepEn = false ∧ |((servoFollows_l.time.yT + servoFollows_l.time.yD + ((servoFollows_l.time.fin.toInt : Rat) - ((servoFollows_l.time.kp.toNat : Rat) / 65536 * 100 + (servoFollows_l.time.i + (servoFollows_l.time.ki.toNat : Rat) / 65536 * 100)))))| ≤ 200000000 ∧
    63 ≤ servoFollows_a.time.lockRun ∧ |((servoFollows_v).toInt : Rat) / 256| ≤ ((servoFollows_a.time.lockThr.toNat % 65536 : Nat) : Rat) ∧ servoFollows_p.time.stepEn = true ∧ (servoFollows_p.time.stepThr.toNat : Rat) < |((servoFollows_big).toInt : Rat) / 256| ∧
    servoFollows_l.time.run = true ∧ servoFollows_l.time.refLost = false ∧ servoFollows_rl.time.refLost = true ∧ (1 : Fin 4).val ≠ svc.image.time.ref ∧ svc.sys.img.isSome = true ∧
    servoFollows_t.time.i = 100 * 10240 / 65536 ∧ servoFollows_ta.time.srv = .locked ∧ servoFollows_tx.time.srv = .acquire ∧ servoFollows_tp.time.stepPend = some (-100001) ∧ servoFollows_ti.time.ofsIgn = 1 ∧ servoFollows_rl.time.srv = .freerun ∧ servoFollows_rr.sys.refFreqBad = true := by decide +kernel

def learningAndHoldover_b := sTime (fun t => { t with ft := { yReg := 5000 } :: t.ft.drop 1, srv := .locked, oscT := -40 })

def learningAndHoldover_t := nx (exec (.ftBinCommit 0 0xC0000040) learningAndHoldover_b)

def learningAndHoldover_n := nx (exec .ftLearn learningAndHoldover_b)

def learningAndHoldover_sv := nx (exec .ftTableSave svc)

def learningAndHoldover_q := { svc with sys := { svc.sys with absent := true } }

def learningAndHoldover_sq := nx (exec .ftTableSave learningAndHoldover_q)

def learningAndHoldover_h := sTime (fun t => { t with srv := .locked, hourI := 7200, hourN := 3600 })

def learningAndHoldover_th := nx (exec .driftUpdate learningAndHoldover_h)

def learningAndHoldover_ho := sTime (fun t => { t with srv := .holdover, era := 8000, hoAt := some 0 })

def learningAndHoldover_e := { sTime (fun t => { t with efcMode := true }) with pending := [] }

def learningAndHoldover_te := nx (exec .efcUpdate learningAndHoldover_e)

def learningAndHoldover_sy := { svc with sys := { svc.sys with img := some { img0 with image := { img0.image with time := { synt := true } } } }, net := { svc.net with gatesOk := 15, a := { pow := .on, link := true } } }

def learningAndHoldover_sd := { learningAndHoldover_sy with net := { learningAndHoldover_sy.net with a := {} } }

def learningAndHoldover_ln := { sTime (fun t => { t with srv := .locked, era := 100, learnY := 10, learnT := 83 / 2, learnN := 2, ft := (List.replicate 128 {}).set 60 { y := 1000, yReg := 1000, n := 64, valid := true } }) with sys := { svc.sys with img := some ({ img0 with image := { img0.image with time := { learn := true } } }) } }

def learningAndHoldover_tl := nx (exec .ftLearn learningAndHoldover_ln)

def learningAndHoldover_hl := sTime (fun t => { t with srv := .locked, era := 30000, hourI := 7200, hourN := 3600, hours := List.replicate 23 2 })

def learningAndHoldover_tm := nx (exec .driftUpdate learningAndHoldover_hl)

def learningAndHoldover_ts := nx (exec (.syntGateEnd 1000) learningAndHoldover_sy)

def learningAndHoldover_an := { sTime (fun t => { t with srv := .locked }) with net := { svc.net with sel := some 3, foreign := [{ master := 3 }] } }

def learningAndHoldover_ta := nx (exec .announceTimeout learningAndHoldover_an)

/-- R183, R184, R186, R187: a commit with IADJ, the table saved and kept, the hour, HO_SPEC, the 16th gate. -/
theorem witness_LearningAndHoldover :
  (learningAndHoldover_b.time.ft[0]?).map FtBin.yReg = some 5000 ∧ (0xC0000040#32).getLsbD 30 = true ∧ learningAndHoldover_b.image.time.learn = false ∧ svc.firmware = true ∧ svc.sys.wouldQueue = false ∧ svc.sys.flash = some fl0 ∧ learningAndHoldover_q.sys.wouldQueue = true ∧
    learningAndHoldover_ln.firmware = true ∧ learningAndHoldover_ln.image.time.learn = true ∧ learningAndHoldover_ln.time.srv = .locked ∧ 300000000000 ≤ learningAndHoldover_ln.now - learningAndHoldover_ln.time.lockedAt ∧ learningAndHoldover_ln.time.learnBad = false ∧ learningAndHoldover_ln.time.learnN ≠ 0 ∧ ((83 / 2 / 2 + 40 : Rat).floor = ((60 : Nat) : Int)) ∧ (learningAndHoldover_ln.time.ft[60]?).map FtBin.n = some 64 ∧ (learningAndHoldover_ln.time.ft[61]?).map FtBin.n = some 0 ∧
    86400000000000 ≤ learningAndHoldover_hl.now - learningAndHoldover_hl.time.lockedAt ∧ learningAndHoldover_hl.time.hourN ≠ 0 ∧ learningAndHoldover_sd.hears = false ∧ learningAndHoldover_sy.hears = true ∧ 15 ≤ learningAndHoldover_sy.net.gatesOk ∧
    learningAndHoldover_h.time.srv = .locked ∧ learningAndHoldover_h.time.hourN ≠ 0 ∧ learningAndHoldover_h.now - learningAndHoldover_h.time.lockedAt < 86400000000000 ∧ learningAndHoldover_e.time.efcMode = true ∧ learningAndHoldover_e.efcG = 0 ∧ learningAndHoldover_e.image.time.efcCentre < 2 ^ 24 ∧ learningAndHoldover_sy.image.time.synt = true ∧ 15 ≤ learningAndHoldover_sy.net.gatesOk := by decide +kernel

/-- The same, continued. -/
theorem witness_LearningAndHoldover_2 :
  learningAndHoldover_ho.time.srv = .holdover ∧ learningAndHoldover_ho.image.time.hoSec < learningAndHoldover_ho.hoSec ∧ learningAndHoldover_an.net.sel = some 3 ∧ learningAndHoldover_an.firmware = true ∧ learningAndHoldover_an.time.srv = .locked ∧ learningAndHoldover_an.net.autoAnn = false ∧
    (learningAndHoldover_t.time.ft.getD 0 {}).n = 64 ∧ (learningAndHoldover_t.time.ft.getD 0 {}).valid = true ∧ learningAndHoldover_th.time.hours = [2] ∧ learningAndHoldover_te.sys.efcCode = 0x800000 ∧ learningAndHoldover_ts.time.syntCnt = 1000 ∧ learningAndHoldover_ta.time.srv = .holdover ∧ learningAndHoldover_ta.net.foreign = [] := by decide +kernel

/-- SERVICE with NET-A powered, linked and sending, and the image's TIME section changed. -/
def sNet (x : TimeSec) (f : Net → Net) : State :=
  let s : State := { svc with sys := { svc.sys with img := some ({ img0 with image := { img0.image with time := x } }) } }
  { s with net := f { svc.net with portDs := s.imagePortDs, kiRate := 16, a := { pow := .on, link := true, rxLock := true, rate := true, pll := true }, aTxen := true, aTxdis := false } }

def ptpFeedsTheServo_s := { sNet { source := 1 } (fun n => { n with sel := some 3 }) with pending := [] }

def ptpFeedsTheServo_y := nx (exec (.ptpSync {} 3 9 true { s := 0, ns := 1000500 } 0) ptpFeedsTheServo_s)

def ptpFeedsTheServo_f := nx (exec (.ptpFollowUp {} 3 9 { s := 0, ns := 1000500 } 65536) ptpFeedsTheServo_y)

def ptpFeedsTheServo_q := nx (exec .ptpDelayReqSend { ptpFeedsTheServo_s with pending := [] })

def ptpFeedsTheServo_r := { ptpFeedsTheServo_s with net := { ptpFeedsTheServo_s.net with syncs := [{ path := false, master := 3, seq := 9, rx := 1000, tx := some 900 }], delays := [{ path := false, master := 3, seq := 0, tx := 1200 }] } }

def ptpFeedsTheServo_t := nx (exec (.ptpDelayResp {} 3 0 { s := 0, ns := 1240 } 0) ptpFeedsTheServo_r)

def ptpFeedsTheServo_a := sNet { source := 1, classLimit := 7 } (fun n => n)

def ptpFeedsTheServo_an := nx (exec (.ptpAnnounce { master := 5, clockClass := 7 }) ptpFeedsTheServo_a)

def ptpFeedsTheServo_o := nx (exec .otherFrameRx ptpFeedsTheServo_s)

def ptpFeedsTheServo_g := nx (exec (.arpNdRequest 5) ptpFeedsTheServo_s)

def ptpFeedsTheServo_bad := ({ domain := 25 } : PtpFrame)

def ptpFeedsTheServo_d1 := nx (exec (.ptpSync ptpFeedsTheServo_bad 3 9 true { s := 0, ns := 0 } 0) ptpFeedsTheServo_s)

def ptpFeedsTheServo_d2 := nx (exec (.ptpFollowUp ptpFeedsTheServo_bad 3 9 { s := 0, ns := 0 } 0) ptpFeedsTheServo_s)

def ptpFeedsTheServo_d3 := nx (exec (.ptpDelayResp ptpFeedsTheServo_bad 3 9 { s := 0, ns := 0 } 0) ptpFeedsTheServo_s)

def ptpFeedsTheServo_d4 := nx (exec (.ptpAnnounce { master := 5, domain := 25 }) ptpFeedsTheServo_s)

def ptpFeedsTheServo_u := { sNet { source := 1, profile := 2, classLimit := 7, domain := 44, ki := 0x2800 } (fun n => { n with foreign := [{ master := 5, clockClass := 7, domain := 44, udp := true, addr := 9 }] }) with pending := [] }

def ptpFeedsTheServo_ui := { ptpFeedsTheServo_u with sys := { ptpFeedsTheServo_u.sys with img := ptpFeedsTheServo_u.sys.img.map (fun (q : RunImage) => { q with image := { q.image with netc := { ipv4 := 77, masters := [9, 10] } } }) } }

def ptpFeedsTheServo_ua := nx (exec (.ptpAnnounce { master := 6, clockClass := 6, domain := 44, udp := true, addr := 10 }) ptpFeedsTheServo_ui)

def ptpFeedsTheServo_ug := nx (exec (.arpNdRequest 77) ptpFeedsTheServo_ui)

def ptpFeedsTheServo_n0 := { ptpFeedsTheServo_ui with net := { ptpFeedsTheServo_ui.net with foreign := [] } }

def ptpFeedsTheServo_nm := ({ master := 6, clockClass := 6, domain := 44, udp := true, addr := 10, syncRate := 32 } : Announce)

def ptpFeedsTheServo_nk := nx (exec (.ptpAnnounce ptpFeedsTheServo_nm) ptpFeedsTheServo_n0)

def ptpFeedsTheServo_nn := nx (exec (.ptpAnnounce { ptpFeedsTheServo_nm with addr := 11 }) ptpFeedsTheServo_n0)

def ptpFeedsTheServo_ns := nx (exec (.ptpAnnounce { ptpFeedsTheServo_nm with syncRate := 129 }) ptpFeedsTheServo_n0)

def ptpFeedsTheServo_tc := nx (exec (.ptpAnnounce { master := 5, clockClass := 7 }) (sNet { source := 2, classLimit := 7 } (fun n => n)))

/-- R188, R189: one exchange of a selected master, an Announce at CLASS_LIMIT, and other frames. -/
theorem witness_PtpFeedsTheServo :
  ptpFeedsTheServo_s.ours {} = true ∧ ptpFeedsTheServo_s.ours ptpFeedsTheServo_bad = false ∧ ptpFeedsTheServo_a.ours {} = true ∧ ptpFeedsTheServo_ui.firmware = true ∧ ptpFeedsTheServo_ui.hears = true ∧ ptpFeedsTheServo_ui.speaks = true ∧ ptpFeedsTheServo_ui.ours ⟨44, true, 0⟩ = true ∧ (10 : Nat) ∈ ptpFeedsTheServo_ui.image.netc.masters ∧ ptpFeedsTheServo_ui.net.portDs.profile = 2 ∧ ptpFeedsTheServo_ui.negotiated { master := 6, clockClass := 6, domain := 44, udp := true, addr := 10 } = true ∧ 77 = ptpFeedsTheServo_ui.image.netc.ipv4 ∧
    ptpFeedsTheServo_n0.firmware = true ∧ ptpFeedsTheServo_n0.hears = true ∧ ptpFeedsTheServo_n0.ours ⟨ptpFeedsTheServo_nm.domain, ptpFeedsTheServo_nm.udp, ptpFeedsTheServo_nm.vid⟩ = true ∧ ptpFeedsTheServo_n0.negotiated ptpFeedsTheServo_nm = true ∧ ptpFeedsTheServo_n0.net.foreign = [] ∧ ptpFeedsTheServo_n0.net.sel = none ∧ ptpFeedsTheServo_nm.clockClass ≤ ptpFeedsTheServo_n0.image.time.classLimit ∧ ptpFeedsTheServo_n0.net.portDs.profile = 2 ∧ ptpFeedsTheServo_n0.image.time.source = 1 ∧ ptpFeedsTheServo_n0.net.grants = [] ∧ ptpFeedsTheServo_nm.syncRate ≠ ptpFeedsTheServo_n0.net.kiRate ∧ (11 : Nat) ∉ ptpFeedsTheServo_n0.image.netc.masters ∧ ptpFeedsTheServo_nk.time.ki = 0x1400 ∧ ptpFeedsTheServo_nn.net.foreign = [] ∧ ptpFeedsTheServo_nn.activePort.rxDrop = 1 := by decide +kernel

/-- The same, continued. -/
theorem witness_PtpFeedsTheServo_2 :
  ptpFeedsTheServo_s.firmware = true ∧ ptpFeedsTheServo_s.hears = true ∧ ptpFeedsTheServo_s.speaks = true ∧ ptpFeedsTheServo_s.net.sel = some 3 ∧ ptpFeedsTheServo_s.net.delays = [] ∧ ptpFeedsTheServo_y.net.syncs.length = 1 ∧ (ptpFeedsTheServo_y.net.syncs.getD 0 { path := true, master := 0, seq := 0, rx := 0 }).tx = none ∧
    ptpFeedsTheServo_r.firmware = true ∧ ptpFeedsTheServo_r.hears = true ∧ ptpFeedsTheServo_r.net.sel = some 3 ∧ ptpFeedsTheServo_r.net.syncs.length = 1 ∧ viewInt (((1000 - 900 : Rat) - (((mailTai { s := 0, ns := 1240 } : Int) : Rat) - 0 - 1200)) / 2 * 256) = 7680 ∧ ptpFeedsTheServo_r.image.time.source = 1 ∧ -(2 ^ 31) ≤ (7680 : Int) ∧ (7680 : Int) < 2 ^ 31 ∧
    ptpFeedsTheServo_a.firmware = true ∧ ptpFeedsTheServo_a.hears = true ∧ ({ master := 5, clockClass := 7 } : Announce).domain = ptpFeedsTheServo_a.image.time.domain ∧ ptpFeedsTheServo_a.net.foreign = [] ∧ ptpFeedsTheServo_a.net.sel = none ∧ 7 ≤ ptpFeedsTheServo_a.image.time.classLimit ∧ ptpFeedsTheServo_s.activePort.pow = .on ∧ ptpFeedsTheServo_s.net.portDs.profile ≠ 2 ∧ svc.hears = false ∧
    ptpFeedsTheServo_f.net.syncs.length = 1 ∧ ptpFeedsTheServo_t.net.lastTheta = 7680 ∧ ptpFeedsTheServo_t.net.syncs = [] ∧ ptpFeedsTheServo_an.net.sel = some 5 ∧ ptpFeedsTheServo_o.activePort.rxDrop = 1 ∧ ptpFeedsTheServo_g.activePort.rxDrop = 1 := by decide +kernel

def cleatAndTriggers_s := sNet {} (fun n => { n with standbyFitted := true, foCfg := 0x001E0A01 })

def cleatAndTriggers_d := { sNet {} (fun n => { n with aTxdis := true, aTxen := false, foCfg := 0x001E0A01 }) with pending := [] }

def cleatAndTriggers_l := { cleatAndTriggers_s with time := { cleatAndTriggers_s.time with srv := .locked }, evt := { cleatAndTriggers_s.evt with chans := { src := 0xB0 } :: List.replicate 127 {} } }

def cleatAndTriggers_z := { cleatAndTriggers_s with net := { cleatAndTriggers_s.net with a := { cleatAndTriggers_s.net.a with link := false } } }

def cleatAndTriggers_zr := { cleatAndTriggers_z with net := { cleatAndTriggers_z.net with holddown := true } }

def cleatAndTriggers_bad := { cleatAndTriggers_s with net := { cleatAndTriggers_s.net with standbyFitted := false } }

def cleatAndTriggers_t := nx (exec (.cleatWrite 3) cleatAndTriggers_s)

def cleatAndTriggers_u := nx (exec (.cleatWrite 1) cleatAndTriggers_d)

def cleatAndTriggers_r := nx (exec .cleatBbmRelease { cleatAndTriggers_d with net := { cleatAndTriggers_d.net with aTxen := true } })

def cleatAndTriggers_v := nx (exec (.linkChange 0 false false) cleatAndTriggers_l)

def cleatAndTriggers_w := nx (exec .linkLossTrigger cleatAndTriggers_z)

def cleatAndTriggers_x := nx (exec .linkLossTrigger cleatAndTriggers_zr)

def cleatAndTriggers_y := nx (exec (.failoverTrigger .event) cleatAndTriggers_s)

def cleatAndTriggers_sn := { master := 8, clockClass := 6 : Announce }

def cleatAndTriggers_sp := ({ seq := 4, portDs := { domain := 30 }, parent := some cleatAndTriggers_sn, foreign := [cleatAndTriggers_sn], grants := [⟨3, 1, 1, 1⟩], srvBefore := .locked, lastTheta := -7, mpdA := some 5, mpdB := some 9, filter := [2], neigh := [3] } : Snap).sealCrc

def cleatAndTriggers_rs := { cleatAndTriggers_s with net := { cleatAndTriggers_s.net with snaps := [none, some cleatAndTriggers_sp] }, time := { cleatAndTriggers_s.time with srv := .locked } }

def cleatAndTriggers_ry := nx (exec (.failoverTrigger .event) cleatAndTriggers_rs)

def cleatAndTriggers_rf := { cleatAndTriggers_rs with sys := { cleatAndTriggers_rs.sys with paused := true, mode := .restart } }

def cleatAndTriggers_rw := nx (exec (.failoverTrigger .event) cleatAndTriggers_rf)

def cleatAndTriggers_f := nx (exec (.failoverWrite 2) cleatAndTriggers_bad)

def cleatAndTriggers_g := nx (exec (.failoverWrite 6) cleatAndTriggers_s)

/-- R194-R198: both bits, one bit, the release, a link lost on the active path, and each trigger accepted and refused. -/
theorem witness_CleatAndTriggers :
  (3#32).getLsbD 0 = true ∧ (3#32).getLsbD 1 = true ∧ ¬((1#32).getLsbD 0 = true ∧ (1#32).getLsbD 1 = true) ∧ cleatAndTriggers_d.net.a.pow = .on ∧ cleatAndTriggers_d.net.bTxdis = true ∧
    (cleatAndTriggers_l.net.port false).pow = .on ∧ (cleatAndTriggers_l.net.port false).link = true ∧ cleatAndTriggers_l.net.active = false ∧ cleatAndTriggers_l.firmware = true ∧ cleatAndTriggers_l.time.srv = .locked ∧
    cleatAndTriggers_z.net.autoLink = true ∧ cleatAndTriggers_z.linkLost = true ∧ cleatAndTriggers_z.net.accepts true = true ∧ cleatAndTriggers_zr.net.accepts true = false ∧ cleatAndTriggers_zr.linkLost = true ∧ cleatAndTriggers_s.linkLost = false ∧ cleatAndTriggers_s.net.accepts false = true ∧ cleatAndTriggers_bad.net.accepts false = false ∧
    cleatAndTriggers_rs.net.newest = some (1, cleatAndTriggers_sp) ∧ cleatAndTriggers_rs.firmware = true ∧ cleatAndTriggers_rs.net.accepts false = true ∧ cleatAndTriggers_rs.time.srv = .locked ∧ cleatAndTriggers_rf.firmware = false ∧ cleatAndTriggers_rf.net.accepts false = true ∧ cleatAndTriggers_ry.net.foreign = [cleatAndTriggers_sn] ∧ cleatAndTriggers_ry.time.srv = .holdover ∧ cleatAndTriggers_rw.net.fwDue = true ∧ cleatAndTriggers_rw.time.srv = .locked := by decide +kernel

/-- The same, continued. -/
theorem witness_CleatAndTriggers_2 :
  (2#32).getLsbD 3 = false ∧ cleatAndTriggers_s.net.standing = false ∧ (2#32).getLsbD 2 = false ∧ (6#32).getLsbD 2 = true ∧ (6#32).getLsbD 1 = true ∧ cleatAndTriggers_s.net.failing = false ∧ cleatAndTriggers_s.net.aTxen = true ∧
    cleatAndTriggers_t.net.refused = true ∧ cleatAndTriggers_r.net.aTxdis = false ∧ cleatAndTriggers_v.net.a.link = false ∧ cleatAndTriggers_v.time.srv = .holdover ∧ cleatAndTriggers_w.net.active = true ∧ cleatAndTriggers_w.net.cause = 1 ∧ cleatAndTriggers_x.net.standing = true ∧ cleatAndTriggers_y.net.cause = 3 ∧ cleatAndTriggers_g.net.failing = true := by decide +kernel

def failoverRuns_p := sNet {} (fun n => { n with active := true, b := { pow := .rising }, standbyFitted := true, failing := true })

def failoverRuns_c := sNet {} (fun n => { n with failing := true, standbyFitted := true })

def failoverRuns_pb := sNet {} (fun n => { n with active := true, b := { pow := .on }, bTxen := true, aTxen := false, aTxdis := true, standbyFitted := true, failing := true })

def failoverRuns_tb := nx (exec .netPathPowered failoverRuns_pb)

def failoverRuns_o := sNet {} (fun n => { n with failing := true, standbyFitted := true, a := { pow := .on }, isRepeat := true, repeats := 3, foAt := 1000000 })

def failoverRuns_o1 := (reach 1100000000 (failoverRuns_o.net.trigX + 1000000000) failoverRuns_o).getD svc

def failoverRuns_h := sNet {} (fun n => { n with holddown := true, doneAt := some 0 })

def failoverRuns_n := sNet {} (fun n => { n with snaps := [some (({ seq := 4294967295 } : Snap).sealCrc), some (({ seq := 4294967294 } : Snap).sealCrc)] })

def failoverRuns_t := nx (exec .netPathPowered failoverRuns_p)

def failoverRuns_u := nx (exec .failingClear failoverRuns_c)

def failoverRuns_v := nx (exec .failoverTimeout failoverRuns_o)

def failoverRuns_w := nx (exec .holddownExpire failoverRuns_h)

def failoverRuns_x := nx (exec .snapshotWrite failoverRuns_n)

def failoverRuns_z := sNet {} (fun n => { n with storm := true })

/-- R197-R200: the new path powered, the completion by link, by F + 1 s and by the fourth repeat, and the rest of a failover. -/
theorem witness_FailoverRuns :
  failoverRuns_pb.activePort.pow = .on ∧ failoverRuns_pb.net.failing = true ∧ failoverRuns_pb.firmware = true ∧ failoverRuns_n.hears = true ∧ failoverRuns_n.firmware = true ∧
    failoverRuns_p.activePort.pow = .rising ∧ failoverRuns_p.firmware = true ∧ failoverRuns_c.net.failing = true ∧ failoverRuns_c.firmware = true ∧ failoverRuns_c.hears = true ∧ failoverRuns_c.image.time.profile ≠ 2 ∧
    failoverRuns_o.net.failing = true ∧ failoverRuns_o.activePort.link = false ∧ reach 1100000000 (failoverRuns_o.net.trigX + 1000000000) failoverRuns_o = some failoverRuns_o1 ∧ failoverRuns_o.net.isRepeat = true ∧ 3 ≤ failoverRuns_o.net.repeats ∧
    failoverRuns_h.net.doneAt = some 0 ∧ failoverRuns_h.net.holddown = true ∧ failoverRuns_h.net.standing = false ∧ failoverRuns_z.hears = true ∧ failoverRuns_n.net.snaps.length = 2 ∧
    failoverRuns_t.net.txen true = true ∧ failoverRuns_u.net.failing = false ∧ failoverRuns_v.net.storm = true ∧ failoverRuns_w.net.holddown = false ∧ failoverRuns_x.net.newest.map (fun q => q.1) = some 1 := by decide +kernel

/-- Channel 0 open, channel 1 selected by consumer 46 and by itself, an occurrence on its way to each. -/
def sEvt (c : Chan) (k : Con) : State :=
  { svc with evt := { svc.evt with chans := c :: { en := true, src := 0xF0 } :: List.replicate 126 {}, group := List.replicate 16 true,
                                   cons := (List.replicate 96 {}).set 46 k, chanIn := [⟨0, none⟩, ⟨0, some 0⟩], conIn := [⟨46, 0, 0⟩, ⟨9, 1, 0⟩] } }

def eventFabricActs_c := { en := true, owner := 4, holdoff := 4095 : Chan }

def eventFabricActs_s := sEvt eventFabricActs_c { sel := [0x80, 0, 0, 0] }

def eventFabricActs_hld := sEvt { eventFabricActs_c with holdEnd := 1000601 } ({} : Con)

def eventFabricActs_off := sEvt { eventFabricActs_c with en := false } ({} : Con)

def eventFabricActs_t := nx (exec (.channelAccept 0 none) eventFabricActs_s)

def eventFabricActs_th := nx (exec (.channelAccept 0 none) eventFabricActs_hld)

def eventFabricActs_to := nx (exec (.channelAccept 0 none) eventFabricActs_off)

def eventFabricActs_sf := nx (exec (.softwareFire (.firmware true) 0) eventFabricActs_s)

def eventFabricActs_w := nx (exec (.evtChCfgWrite (.firmware true) 0 0x80000FFF) eventFabricActs_s)

def eventFabricActs_wx := nx (exec (.evtChCfgWrite (.firmware true) 0 0x00000FFF) eventFabricActs_s)

def eventFabricActs_tc := nx (exec (.trippedClear (.firmware true) 0) (sEvt { eventFabricActs_c with tripped := true } ({} : Con)))

def eventFabricActs_a := nx (exec (.consumerArrive 46 0 0 0) eventFabricActs_s)

def eventFabricActs_b := { eventFabricActs_s with evt := { eventFabricActs_s.evt with cons := (List.replicate 96 ({} : Con)).set 9 { busy := true, f2 := true } } }

def eventFabricActs_b2 := { eventFabricActs_s with evt := { eventFabricActs_s.evt with cons := (List.replicate 96 ({} : Con)).set 9 { busy := true } } }

def eventFabricActs_gp := { eventFabricActs_b with evt := { eventFabricActs_b.evt with conIn := [⟨48, 0, 7⟩, ⟨64, 1, 7⟩, ⟨81, 2, 7⟩, ⟨46, 0, 7⟩, ⟨0, 3, 7⟩], gpio := { out := true, rest := true, lvl := true } :: List.replicate 15 {}, chanIn := [⟨8, none⟩] } }

def eventFabricActs_gs := fun (k : Nat) => ({ eventFabricActs_gp with evt := { eventFabricActs_gp.evt with cons := eventFabricActs_gp.evt.cons.set 48 { action := k, width := 0 } } } : State)

def eventFabricActs_ga := fun (k : Nat) => nx (exec (.consumerArrive 48 0 7 0) (eventFabricActs_gs k))

def eventFabricActs_ge := nx (exec (.consumerArrive 64 1 7 0) { eventFabricActs_gp with evt := { eventFabricActs_gp.evt with group := List.replicate 16 false } })

def eventFabricActs_gd := nx (exec (.consumerArrive 81 2 7 0) eventFabricActs_gp)

def eventFabricActs_first := { eventFabricActs_gp with evt := { eventFabricActs_gp.evt with conIn := [⟨81, 2, 7⟩] } }

def eventFabricActs_gf := nx (exec (.channelAccept 8 none) eventFabricActs_first)

def eventFabricActs_near := { eventFabricActs_gp with evt := { eventFabricActs_gp.evt with cons := eventFabricActs_gp.evt.cons.set 46 { arrAt := some 1000595 } } }

def eventFabricActs_nm := nx (exec (.consumerArrive 46 0 7 0) eventFabricActs_near)

def eventFabricActs_far := { eventFabricActs_gp with evt := { eventFabricActs_gp.evt with cons := eventFabricActs_gp.evt.cons.set 46 { arrAt := some 1000591 } } }

def eventFabricActs_fm := nx (exec (.consumerArrive 46 0 7 0) eventFabricActs_far)

def eventFabricActs_arm := sEp { ep2 5000000 with st := .armed, event := true, stage := .queued, goAt := none }

def eventFabricActs_armed := { eventFabricActs_arm with evt := { eventFabricActs_gp.evt with conIn := [⟨0, 3, 7⟩] } }

def eventFabricActs_pg := nx (exec (.consumerArrive 0 3 7 0) eventFabricActs_armed)

def eventFabricActs_pi := { eventFabricActs_gp with evt := { eventFabricActs_gp.evt with cons := eventFabricActs_gp.evt.cons.set 46 { busy := true, pend := true, porigin := 5, pmask := [true, false, false, false] } } }

def eventFabricActs_pd := nx (exec (.consumerIdle 46) eventFabricActs_pi)

def eventFabricActs_cap := { eventFabricActs_s with time := { eventFabricActs_s.time with caps := { src := 18 } :: List.replicate 7 {} } }

def eventFabricActs_ct := nx (exec (.channelAccept 0 none) eventFabricActs_cap)

def eventFabricActs_hc := sEvt { eventFabricActs_c with owner := 0, vector := 9 } ({} : Con)

def eventFabricActs_hf := nx (exec (.softwareFire (.host 0) 0) eventFabricActs_hc)

def eventFabricActs_hw := nx (exec (.evtChCfgWrite (.host 0) 0 0x80FF0001) eventFabricActs_hc)

def eventFabricActs_pre := { eventFabricActs_s with evt := { eventFabricActs_s.evt with applied := false } }

def eventFabricActs_pg0 := nx (exec (.gpioInEdge 2 true 20) eventFabricActs_pre)

def eventFabricActs_ab := nx (exec (.consumerArrive 9 1 0 0) eventFabricActs_b)

def eventFabricActs_ab2 := nx (exec (.consumerArrive 9 1 0 0) eventFabricActs_b2)

def eventFabricActs_i := nx (exec (.consumerIdle 9) eventFabricActs_b)

def eventFabricActs_br := { eventFabricActs_b with dma := { eventFabricActs_b.dma with chs := {} :: { st := .running } :: List.replicate 30 {} } }

def eventFabricActs_g := nx (exec (.gpioInEdge 2 true 20) { eventFabricActs_s with evt := { eventFabricActs_s.evt with chans := { src := 0xD2 } :: List.replicate 127 {} } })

def eventFabricActs_g9 := nx (exec (.gpioInEdge 2 true 9) { eventFabricActs_s with evt := { eventFabricActs_s.evt with chans := { src := 0xD2 } :: List.replicate 127 {} } })

def eventFabricActs_p := { eventFabricActs_s with evt := { eventFabricActs_s.evt with gpio := { out := true, lvl := true, rest := false, pulseEnd := some 1000700 } :: List.replicate 15 {} } }

def eventFabricActs_p1 := (reach 4000000000 1000700 eventFabricActs_p).getD svc

def eventFabricActs_tp := nx (exec (.gpioPulseEnd 0) eventFabricActs_p)

/-- R226-R238: closed, in hold-off and open; a busy consumer; edges of 9 and 20 ns; a pulse's end. -/
theorem witness_EventFabricActs :
  eventFabricActs_s.evt.chanIn.contains ⟨0, none⟩ = true ∧ eventFabricActs_s.evt.chans[0]? = some eventFabricActs_c ∧ eventFabricActs_s.chanOpen 0 = true ∧ eventFabricActs_c.holdEnd ≤ eventFabricActs_s.now ∧ eventFabricActs_hld.chanOpen 0 = true ∧ eventFabricActs_hld.now < 1000601 ∧ eventFabricActs_off.chanOpen 0 = false ∧ 0 ∈ (eventFabricActs_s.con 46).selects 0 ∧
    eventFabricActs_gp.evt.conIn.contains ⟨48, 0, 7⟩ = true ∧ eventFabricActs_gp.conOff 48 = false ∧ eventFabricActs_gp.deadPin 48 = false ∧ (eventFabricActs_gp.con 48).busy = false ∧ (eventFabricActs_gp.con 48).arrAt = none ∧ eventFabricActs_gp.evt.group.length = 16 ∧ eventFabricActs_gp.evt.groupOff.getD 1 none = none ∧ eventFabricActs_gp.conOff 81 = false ∧ eventFabricActs_gp.deadPin 81 = false ∧ eventFabricActs_gp.conOff 64 = false ∧
    eventFabricActs_first.evt.chanIn.contains ⟨8, none⟩ = true ∧ (eventFabricActs_first.con 81).busy = false ∧ (eventFabricActs_first.con 81).arrAt = none ∧ eventFabricActs_near.now ≤ 1000595 + 5 ∧ 1000591 + 8 < eventFabricActs_far.now ∧ eventFabricActs_armed.slotEp 0 = some { ep2 5000000 with st := .armed, event := true, stage := .queued, goAt := none } ∧
    (eventFabricActs_pi.con 46).busy = true ∧ (eventFabricActs_pi.con 46).pend = true ∧ eventFabricActs_hc.hostCan 0 = true ∧ (eventFabricActs_hc.chan 0).owner = 0 ∧ eventFabricActs_hc.chanOpen 0 = true ∧ (eventFabricActs_cap.time.caps[0]?).map Cap.channel = some 0 ∧ eventFabricActs_pre.evt.applied = false := by decide +kernel

/-- The same, continued. -/
theorem witness_EventFabricActs_2 :
  (eventFabricActs_s.takeOcc ⟨0, none⟩).groupComing 0 = [] ∧ (eventFabricActs_first.takeOcc ⟨8, none⟩).groupComing 1 = [] ∧ eventFabricActs_first.evt.conIn = [⟨81, 2, 7⟩] ∧ eventFabricActs_s.evt.conIn.all (fun q => decide (q.x ≠ 64 ∧ q.x ≠ 80)) = true ∧
    eventFabricActs_c.owner ≠ 0 ∧ (0x80000FFF#32).getLsbD 31 = true ∧ (0x00000FFF#32).getLsbD 31 = false ∧
    eventFabricActs_s.evt.conIn.contains ⟨46, 0, 0⟩ = true ∧ eventFabricActs_s.conOff 46 = false ∧ eventFabricActs_s.deadPin 46 = false ∧ (eventFabricActs_s.con 46).busy = false ∧ eventFabricActs_b.evt.conIn.contains ⟨9, 1, 0⟩ = true ∧ (eventFabricActs_b.con 9).busy = true ∧ (eventFabricActs_b.con 9).f2 = true ∧ eventFabricActs_b.conOff 9 = false ∧ (eventFabricActs_b2.con 9).f2 = false ∧ (eventFabricActs_b2.con 9).pend = false ∧
    eventFabricActs_b.released 9 = true ∧ eventFabricActs_br.released 9 = false ∧ eventFabricActs_s.evt.gpio[2]? = some ({} : Gpio) ∧ eventFabricActs_s.evt.applied = true ∧ ({} : Gpio).pad ≠ true ∧ 9 < 10 ∧ 20 ≤ 20 ∧ ({} : Gpio).selects true = true ∧ reach 4000000000 1000700 eventFabricActs_p = some eventFabricActs_p1 := by decide +kernel

/-- The same, continued. -/
theorem witness_EventFabricActs_3 :
  (eventFabricActs_t.evt.chans.getD 0 {}).fired = 1 ∧ (eventFabricActs_t.evt.chans.getD 0 {}).holdEnd = 1000600 + 4095 * 64 ∧ (eventFabricActs_th.evt.chans.getD 0 {}).holdCnt = 1 ∧ eventFabricActs_to.evt.chanIn = [⟨0, some 0⟩] ∧ eventFabricActs_a.time.ppsGate = true ∧ (eventFabricActs_ab.con 9).drop = 1 ∧ (eventFabricActs_ab2.con 9).pend = true ∧ (eventFabricActs_i.con 9).busy = false ∧ eventFabricActs_g.evt.chanIn.length = 3 ∧ eventFabricActs_g9.evt.chanIn.length = 2 ∧ (eventFabricActs_tp.evt.gpio.getD 0 {}).lvl = false := by decide +kernel

def unpoweredConsumerDrops_s := { sEvt {} ({} : Con) with power := { svc.power with dma := .off } }

def unpoweredConsumerDrops_t := nx (exec (.consumerArrive 9 1 0 0) unpoweredConsumerDrops_s)

/-- R235, with the DMA engine's domain off. -/
theorem witness_UnpoweredConsumerDrops :
  unpoweredConsumerDrops_s.evt.conIn.contains ⟨9, 1, 0⟩ = true ∧ unpoweredConsumerDrops_s.evt.cons[9]? = some ({} : Con) ∧ unpoweredConsumerDrops_s.conOff 9 = true ∧
    unpoweredConsumerDrops_t.evt.cons[9]? = some { drop := 1, arrAt := some 1000600 } ∧ unpoweredConsumerDrops_t.evt.conIn = [⟨46, 0, 0⟩] := by decide +kernel

def reentryTripsChannel_c := { en := true, reMax := 8, reCnt := 8, winEnd := 2000000 : Chan }

def reentryTripsChannel_s := sEvt reentryTripsChannel_c { sel := [0x80, 0, 0, 0], pend := true, pmask := [true, false, false, false] }

def reentryTripsChannel_e := sEvt { reentryTripsChannel_c with winEnd := 1000600 } ({} : Con)

def reentryTripsChannel_x := sEvt { reentryTripsChannel_c with tripped := true, en := false } ({} : Con)

def reentryTripsChannel_t := nx (exec (.channelAccept 0 (some 0)) reentryTripsChannel_s)

def reentryTripsChannel_u := nx (exec (.channelAccept 0 (some 0)) reentryTripsChannel_e)

def reentryTripsChannel_v := nx (exec (.evtChCfgWrite (.firmware true) 0 0x80000000) reentryTripsChannel_x)

def reentryTripsChannel_w := nx (exec (.channelAccept 0 (some 0)) reentryTripsChannel_x)

/-- R238: RE_CNT at RE_MAX within the window, and beyond it; a tripped channel. -/
theorem witness_ReentryTripsChannel :
  reentryTripsChannel_s.evt.chanIn.contains ⟨0, some 0⟩ = true ∧ reentryTripsChannel_s.evt.chans[0]? = some reentryTripsChannel_c ∧ reentryTripsChannel_s.chanOpen 0 = true ∧ reentryTripsChannel_c.holdEnd ≤ reentryTripsChannel_s.now ∧ max 1 reentryTripsChannel_c.reMax < (if reentryTripsChannel_c.winEnd ≤ reentryTripsChannel_s.now then 0 else reentryTripsChannel_c.reCnt) + 1 ∧
    reentryTripsChannel_s.evt.conIn.all (fun q => decide (q.x ≠ 64 ∧ q.x ≠ 80)) = true ∧ (reentryTripsChannel_x.chan 0).tripped = true ∧ (reentryTripsChannel_x.chan 0).en = false ∧
    (reentryTripsChannel_t.chan 0).tripped = true ∧ (reentryTripsChannel_t.chan 0).en = false ∧ reentryTripsChannel_t.evt.chanIn = [⟨0, none⟩, ⟨1, none⟩] ∧ (reentryTripsChannel_u.chan 0).tripped = false ∧ (reentryTripsChannel_u.chan 0).reCnt = 1 ∧ (reentryTripsChannel_v.chan 0).en = false ∧ (reentryTripsChannel_v.chan 0).tripped = true := by decide +kernel

/-- SERVICE with bytes at the start of SRAM, H0 the steward by `MTX_CFG`. -/
def sMem : State := { svc with mem := [⟨0x2000000000, 1⟩, ⟨0x2000000001, 2⟩, ⟨0x2000000002, 3⟩, ⟨0x2000000003, 4⟩, ⟨0x2000000104, 9⟩],
                               braid := { svc.braid with stewValid := true, steward := 0 } }

def accessesReachWhatTheyMay_w := nx (exec (.registerWrite 0 0x2000000100 0x04030201) sMem)

def accessesReachWhatTheyMay_d := nx (exec (.registerWrite 10 0x2000000100 5) sMem)

def accessesReachWhatTheyMay_p := nx (exec (.pairLowRead 0 .timeWns) sMem)

def accessesReachWhatTheyMay_pd := nx (exec (.pairLowRead 10 .timeWns) sMem)

def accessesReachWhatTheyMay_b := nx (exec (.bar4Write 0 0 5) { sMem with hosts := { linkUp := true, enable := true, b4 := 128 } :: svc.hosts.drop 1 })

def accessesReachWhatTheyMay_r := nx (exec (.bar2Read 1 0 4) sMem)

def accessesReachWhatTheyMay_up := { sMem with hosts := List.replicate 4 { linkUp := true, b4 := 128 } }

def accessesReachWhatTheyMay_own := { sMem with hosts := List.replicate 4 { linkUp := true, b4 := 136 } }

def accessesReachWhatTheyMay_ld := { sMode .load with sys := { (sMode .load).sys with img := some ({ img0 with image := { img0.image with time := { efc := true } } }) } }

def accessesReachWhatTheyMay_ec := nx (exec (.efcCodeWrite 0xFF800001) svc)

/-- R205, R213, R251, R357: SRAM written by firmware and refused to a host; a pair; BAR4 over memory; BAR2 beyond the images; EFC's 24 bits. -/
theorem witness_AccessesReachWhatTheyMay :
  Safe.memory sMem ∧ sMem.masterUp 0 = true ∧ sMem.writeRsp 0 false 0x2000000100 4 = 0 ∧ isMemory 0x2000000100 = true ∧ sMem.masterUp 10 = true ∧ sMem.writeRsp 10 false 0x2000000100 4 ≠ 0 ∧ ({ sMem with hosts := [] } : State).masterUp 10 = false ∧
    sMem.readRsp 0 false (pairLow .timeWns) 4 = 0 ∧ sMem.pairOn .timeWns = true ∧ sMem.readRsp 10 false (pairLow .timeWns) 4 ≠ 0 ∧
    sMem.isSteward 1 = false ∧ accessesReachWhatTheyMay_up.hostCan 0 = true ∧ accessesReachWhatTheyMay_up.isSteward 0 = true ∧ 0 < 2 ^ 30 ∧ accessesReachWhatTheyMay_up.masterUp 9 = true ∧ isMemory (128 * 2 ^ 30 + 0) = true ∧ accessesReachWhatTheyMay_up.noTarget 9 (128 * 2 ^ 30 + 0) = false ∧
    sMem.hostCan 1 = true ∧ sMem.viewOf 1 = [] ∧ 0 + 4 ≤ 2 ^ 30 ∧ 2 ^ 30 < (2 ^ 30 - 2) + 4 ∧ sMem.viewOf 0 ≠ [] ∧ sMem.access 0 0 0x2000000100 = sMem ∧ sMem.access 10 0 0x2000000100 = sMem ∧ sMem.access 0 0 (pairLow .timeWns) = sMem ∧ accessesReachWhatTheyMay_up.access 9 0 (128 * 2 ^ 30) = accessesReachWhatTheyMay_up ∧
    [0, 1, 2].all (fun k => decide (sMem.braid.waiting.getD k [] = [])) = true ∧ targetOf 0x2000000100 = 2 ∧ accessesReachWhatTheyMay_r.braid.answer.isSome = true := by decide +kernel

/-- The same, continued. -/
theorem witness_AccessesReachWhatTheyMay_2 :
  inMbx 0 (136 * 2 ^ 30 + 0xB00000) = true ∧ holdsRws (136 * 2 ^ 30 + 0xB00000) = false ∧ accessesReachWhatTheyMay_own.hostCan 0 = true ∧ accessesReachWhatTheyMay_own.isSteward 0 = true ∧ accessesReachWhatTheyMay_ld.firmware = true ∧ accessesReachWhatTheyMay_ld.sys.mode = .load ∧ accessesReachWhatTheyMay_ld.image.time.efc = true ∧ svc.sys.mode ≠ .load ∧
    Mem.readN accessesReachWhatTheyMay_w.mem 4 0x2000000100 = [1, 2, 3, 4] ∧ Mem.read accessesReachWhatTheyMay_w.mem 0x2000000104 = 9 ∧ accessesReachWhatTheyMay_d.braid.answer.isSome = svc.braid.answer.isSome ∧ accessesReachWhatTheyMay_p.shadows.length = 1 ∧ (accessesReachWhatTheyMay_b.hport 0).b4Deny = 1 ∧ (accessesReachWhatTheyMay_r.hport 1).err = 16 := by decide +kernel

def braidServesPieces_rd := { req := { master := 5, addr := 0x2000000000, op := .read 4 }, since := 0 : Waiting }

def braidServesPieces_wr := { req := { master := 5, addr := 0x2000000002, op := .write [7, 8] }, since := 0 : Waiting }

def braidServesPieces_a := { sMem with braid := { sMem.braid with waiting := [[], [], [braidServesPieces_wr, braidServesPieces_rd], [], [], [], [], [], [], [], []] } }

def braidServesPieces_c := { sMem with braid := { sMem.braid with waiting := [[], [], [braidServesPieces_rd], [], [], [], [], [], [], [], []] } }

def braidServesPieces_g := { sMem with braid := { sMem.braid with granted := [none, none, none, none, none, some { addr := 0x2000000000, old := List.replicate 64 5 }, none, none, none, none, none, none, none, none] } }

def braidServesPieces_t := nx (exec (.braidPieceGrant 2 [] false) braidServesPieces_a)

def braidServesPieces_u := nx (exec (.braidPieceGrant 2 [] false) braidServesPieces_c)

def braidServesPieces_ue := nx (exec (.braidPieceGrant 2 [] true) braidServesPieces_c)

def braidServesPieces_rq := ({ master := 5, addr := 0x2000000000, op := .read 4 } : BraidReq)

def braidServesPieces_ar := nx (exec (.braidPieceGrant 2 [braidServesPieces_rq] false) sMem)

def braidServesPieces_mm := ({ req := { master := 0, addr := 0x2000000000, op := .write [9] }, since := 0 } : Waiting)

def braidServesPieces_own := { sMem with braid := { sMem.braid with waiting := [[], [], [braidServesPieces_mm], [], [], [], [], [], [], [], []] } }

def braidServesPieces_xo := nx (exec (.atomicOp 0 0x2000000000 4 .add 1 0 false) braidServesPieces_own)

def braidServesPieces_xt := nx (exec (.atomicOp 0 0x2000000000 4 .add 1 0 true) sMem)

def braidServesPieces_x := nx (exec (.atomicOp 0 0x2000000000 4 .add 0xFFFFFFFF 0 false) sMem)

def braidServesPieces_xe := nx (exec (.atomicOp 0 0x2000000002 4 .add 1 0 false) sMem)

def braidServesPieces_m := nx (exec (.masterReset 5 1) braidServesPieces_g)

def braidServesPieces_o := nx (exec (.masterPortReopen 5) braidServesPieces_m)

/-- R248, R249, R253: a write and a read piece, an empty port, ADD with its carry out of the word, and a reset after one beat. -/
theorem witness_BraidServesPieces :
  Safe.memory braidServesPieces_a ∧ braidServesPieces_a.nextGrant 2 = some braidServesPieces_wr ∧ braidServesPieces_a.power.braid = .on ∧ braidServesPieces_a.writeRsp 5 true 0x2000000002 2 = 0 ∧ isMemory 0x2000000002 = true ∧ braidServesPieces_c.nextGrant 2 = some braidServesPieces_rd ∧ braidServesPieces_c.readRsp 5 true 0x2000000000 4 = 0 ∧ braidServesPieces_a.nextGrant 3 = none ∧
    0 < 5 ∧ sMem.braidOpen 0 = true ∧ sMem.atomicRsp 0 0x2000000000 4 false = 0 ∧ sMem.atomicRsp 0 0x2000000002 4 false ≠ 0 ∧ sMem.atomicRsp 0 0x2000000000 4 true ≠ 0 ∧ sMem.access 0 0 0x2000000000 = sMem ∧ splitReq braidServesPieces_rq = [braidServesPieces_rq] ∧ targetOf braidServesPieces_rq.addr = 2 ∧ sMem.braidOpen 5 = true ∧ sMem.braid.waiting.getD 2 [] = [] ∧ (braidServesPieces_g.braid.granted.getD 5 none).isSome = true ∧ braidServesPieces_a.braid.granted.getD 5 none = none ∧ Safe.memory braidServesPieces_g ∧
    Mem.readN braidServesPieces_t.mem 4 0x2000000000 = [1, 2, 7, 8] ∧ (braidServesPieces_u.braid.answer).map Answer.data = some [1, 2, 3, 4] ∧ Mem.readN braidServesPieces_x.mem 4 0x2000000000 = [0, 2, 3, 4] ∧ (braidServesPieces_m.braid.closed.getD 5 false) = true ∧ Mem.read braidServesPieces_m.mem 0x200000001F = 0 ∧ Mem.read braidServesPieces_m.mem 0x2000000020 = 5 ∧ braidServesPieces_o.braid.closed.getD 5 true = false := by decide +kernel

/-- DMA channel 0 running at SRAM offset 0x1000, its instruction's eight words there. -/
def sDma (w : List Nat) (f : DmaCh → DmaCh) (d : List Host.Cell) : State :=
  { svc with mem := d ++ ((List.range 64).map (fun i => ((0x2000001000 + i, BitVec.ofNat 8 (w.getD (i / 4) 0 / 256 ^ (i % 4))) : Host.Cell))).filter (fun q => q.2 ≠ 0),
             dma := { chs := f { en := true, st := .running, sec := true, base := 0x2000001000, pcBase := 0x2000001000, origin := some 5 } :: List.replicate 31 {} } }

def dmaProgramsRun_i := sDma [] (fun c => { c with st := .idle }) []

def dmaProgramsRun_si := { dmaProgramsRun_i with dma := { dmaProgramsRun_i.dma with stopped := true } }

def dmaProgramsRun_nop := sDma [0] id []

def dmaProgramsRun_ill := sDma [0x90000000] id []

def dmaProgramsRun_lp := sDma [0x50000000, 0, 0, 0, 0, 3] id []

def dmaProgramsRun_l4 := sDma [0x50000000, 0, 0, 0, 0, 3] (fun c => { c with loops := List.replicate 4 ⟨0, some 1, 0, 0⟩ }) []

def dmaProgramsRun_e0 := sDma [0x60000000] id []

def dmaProgramsRun_e1 := sDma [0x60000000] (fun c => { c with loops := [⟨0, some 1, 0, 0⟩] }) []

def dmaProgramsRun_e2 := sDma [0x60000000] (fun c => { c with loops := [⟨0, some 2, 0, 0⟩] }) []

def dmaProgramsRun_wt := sDma [0x70000000, 0, 0, 0, 0, 9] id []

def dmaProgramsRun_sg := sDma [0x80000000] id []

def dmaProgramsRun_hl := sDma [0xF0000800] id []

def dmaProgramsRun_ww := sDma [] (fun c => { c with st := .waiting, ins := some [0x70000000, 0, 0, 0, 0, 9, 0, 0] }) []

def dmaProgramsRun_inf := sDma [0x60000000] (fun c => { c with loops := [⟨0, none, 0, 4⟩] }) []

def dmaProgramsRun_tinf := nx (exec (.dmaEndloop 0) dmaProgramsRun_inf)

def dmaProgramsRun_l0 := sDma [0x50000000, 0, 0, 0, 0, 0, 0, 0, 0x60000000] id []

def dmaProgramsRun_tl0 := nx (exec (.dmaLoop 0) dmaProgramsRun_l0)

def dmaProgramsRun_wr := sDma [0x71000000 + 0x1000] id []

def dmaProgramsRun_twr := nx (exec (.dmaWait 0) dmaProgramsRun_wr)

def dmaProgramsRun_wf : List Nat := [0x70001800, 0, 0, 0, 0, 9, 0, 0]

def dmaProgramsRun_r0 := sDma [] (fun c => { c with ins := some dmaProgramsRun_wf }) []

def dmaProgramsRun_r1 := { dmaProgramsRun_r0 with hkc := { dmaProgramsRun_r0.hkc with cores := [{ fifo := [5], thresh := 1 }, {}, {}] } }

def dmaProgramsRun_q1 := nx (exec (.dmaWaitResume 0 []) dmaProgramsRun_r1)

def dmaProgramsRun_t := nx (exec (.dmaStart 0 (some 7)) dmaProgramsRun_i)

def dmaProgramsRun_ts := nx (exec (.dmaStart 0 none) dmaProgramsRun_si)

def dmaProgramsRun_aw := nx (exec (.dmaStart 0 (some 7)) dmaProgramsRun_ww)

def dmaProgramsRun_bz := { dmaProgramsRun_i with evt := { dmaProgramsRun_i.evt with cons := dmaProgramsRun_i.evt.cons.set 8 { busy := true } } }

def dmaProgramsRun_tb := nx (exec (.dmaStart 0 (some 7)) dmaProgramsRun_bz)

def dmaProgramsRun_tsa := nx (exec (.dmaStart 0 (some 7)) dmaProgramsRun_si)

def dmaProgramsRun_ab := nx (exec (.dmaDisable 0) dmaProgramsRun_nop)

def dmaProgramsRun_tn := nx (exec (.dmaNop 0) dmaProgramsRun_nop)

def dmaProgramsRun_ti := nx (exec (.dmaNop 0) dmaProgramsRun_ill)

def dmaProgramsRun_tl := nx (exec (.dmaLoop 0) dmaProgramsRun_lp)

def dmaProgramsRun_tl4 := nx (exec (.dmaLoop 0) dmaProgramsRun_l4)

def dmaProgramsRun_te0 := nx (exec (.dmaEndloop 0) dmaProgramsRun_e0)

def dmaProgramsRun_te1 := nx (exec (.dmaEndloop 0) dmaProgramsRun_e1)

def dmaProgramsRun_te2 := nx (exec (.dmaEndloop 0) dmaProgramsRun_e2)

def dmaProgramsRun_tw := nx (exec (.dmaWait 0) dmaProgramsRun_wt)

def dmaProgramsRun_tg := nx (exec (.dmaSignal 0) { dmaProgramsRun_sg with evt := { dmaProgramsRun_sg.evt with chans := { src := 0x80 } :: List.replicate 127 {} } })

def dmaProgramsRun_th := nx (exec (.dmaHalt 0) { dmaProgramsRun_hl with evt := { dmaProgramsRun_hl.evt with chans := { src := 0x80 } :: List.replicate 127 {} } })

def dmaProgramsRun_tr := nx (exec (.dmaWaitResume 0 []) dmaProgramsRun_ww)

def dmaProgramsRun_to := nx (exec (.dmaWaitTimeout 0) dmaProgramsRun_ww)

def dmaProgramsRun_ta := nx (exec (.dmaAccessError 0 0x1234 true 2 [3]) dmaProgramsRun_nop)

/-- R254-R262: a start and its refusals, an abort, each instruction that moves nothing, four open loops, the last iteration, and a refused access. -/
theorem witness_DmaProgramsRun :
  (dmaProgramsRun_i.dma.chs[0]?).map DmaCh.st = some .idle ∧ dmaProgramsRun_i.power.dma = .on ∧ dmaProgramsRun_i.dma.stopped = false ∧ (dmaProgramsRun_i.dch 0).active = false ∧ (dmaProgramsRun_i.dch 0).en = true ∧ dmaProgramsRun_si.dma.stopped = true ∧ (dmaProgramsRun_nop.dch 0).active = true ∧
    dmaProgramsRun_i.evt.cons[8]? = some ({} : Con) ∧ dmaProgramsRun_si.evt.cons[8]? = some ({} : Con) ∧ dmaProgramsRun_ww.evt.cons[8]? = some ({} : Con) ∧ dmaProgramsRun_bz.evt.cons[8]? = some { busy := true } ∧ dmaProgramsRun_ww.power.dma = .on ∧ dmaProgramsRun_bz.power.dma = .on ∧ (dmaProgramsRun_aw.dch 0).st = .running ∧ (dmaProgramsRun_tb.con 8).pend = true ∧
    dmaProgramsRun_nop.dmaMay 0 = true ∧ (dmaProgramsRun_nop.dch 0).ins = none ∧ (dmaProgramsRun_nop.fetchAt 0 0).1 = 0 ∧ (dmaProgramsRun_nop.fetchAt 0 0).2.1 = [0, 0, 0, 0, 0, 0, 0, 0] ∧ insOk [0, 0, 0, 0, 0, 0, 0, 0] = true ∧ opKnown (opOf ((dmaProgramsRun_ill.fetchAt 0 0).2.1)) = false ∧
    (([dmaProgramsRun_lp, dmaProgramsRun_l4, dmaProgramsRun_e0, dmaProgramsRun_e1, dmaProgramsRun_e2, dmaProgramsRun_wt, dmaProgramsRun_sg, dmaProgramsRun_hl].map (fun (s : State) => (opOf (s.fetchAt 0 0).2.1, insOk (s.fetchAt 0 0).2.1, s.dmaMay 0))) = [(5, true, true), (5, true, true), (6, true, true), (6, true, true), (6, true, true), (7, true, true), (8, true, true), (15, true, true)]) := by decide +kernel

/-- The same, continued. -/
theorem witness_DmaProgramsRun_2 :
  (dmaProgramsRun_r0.dch 0).st = .running ∧ opOf dmaProgramsRun_wf = 7 ∧ dreqOf dmaProgramsRun_wf = 1 ∧ dmaProgramsRun_r0.periPins 0 [] = dmaProgramsRun_r0 ∧ dmaProgramsRun_r0.lineOn 0 = false ∧ dmaProgramsRun_r1.lineOn 0 = true ∧ opOf (dmaProgramsRun_inf.fetchAt 0 0).2.1 = 6 ∧ countOf (dmaProgramsRun_l0.fetchAt 0 0).2.1 = 0 ∧ opOf (dmaProgramsRun_l0.fetchAt 0 32).2.1 = 6 ∧ insOk (dmaProgramsRun_l0.fetchAt 0 0).2.1 = true ∧ flagA dmaProgramsRun_wf = true ∧
    (dmaProgramsRun_ww.dch 0).st = .waiting ∧ opOf [0x70000000, 0, 0, 0, 0, 9, 0, 0] = 7 ∧ countOf [0x70000000, 0, 0, 0, 0, 9, 0, 0] ≠ 0 ∧ (2 : Fin 4).val ≠ 0 ∧ dmaProgramsRun_nop.dma.chs.length = 32 := by decide +kernel

/-- The same, continued. -/
theorem witness_DmaProgramsRun_3 :
  (dmaProgramsRun_t.dch 0).st = .running ∧ (dmaProgramsRun_t.dch 0).origin = some 7 ∧ (dmaProgramsRun_ts.dch 0).startIgn = 1 ∧ (dmaProgramsRun_ab.dch 0).st = .aborted ∧ (dmaProgramsRun_tn.dch 0).pc = 32 ∧ (dmaProgramsRun_ti.dch 0).st = .illegal ∧ (dmaProgramsRun_tl.dch 0).loops.length = 1 ∧ (dmaProgramsRun_tl4.dch 0).st = .illegal ∧ (dmaProgramsRun_te0.dch 0).st = .illegal ∧ (dmaProgramsRun_te1.dch 0).loops = [] ∧ (dmaProgramsRun_te2.dch 0).pc = 32 ∧ (dmaProgramsRun_tw.dch 0).st = .waiting ∧ dmaProgramsRun_tg.evt.chanIn = [⟨0, some 5⟩] ∧ (dmaProgramsRun_th.dch 0).st = .done ∧ (dmaProgramsRun_tr.dch 0).pc = 32 ∧ (dmaProgramsRun_to.dch 0).st = .timeout ∧ dmaProgramsRun_ta.dma.stopped = true := by decide +kernel

def dmaMovesData_src : List Host.Cell := [⟨0x2000000000, 1⟩, ⟨0x2000000001, 2⟩, ⟨0x2000000002, 3⟩, ⟨0x2000000003, 4⟩]

def dmaMovesData_mw : List Nat := [0x10030000, 0, 0x20, 0x40, 0x20, 4, 0, 0]

def dmaMovesData_fw : List Nat := [0x20010000, 0, 0, 0x40, 0x20, 5, 0x04030201, 0]

def dmaMovesData_cw : List Nat := [0x30020000, 0, 0x20, 0, 0, 4, 0x04030101, 0]

def dmaMovesData_gw : List Nat := [0x40030000, 0x800, 0x20, 0x40, 0x20, 1, 0, 0]

def dmaMovesData_pw : List Nat := [0x20011000, 0, 0, 0x40, 0x20, 65, 0x04030201, 0]

def dmaMovesData_m := sDma dmaMovesData_mw id dmaMovesData_src

def dmaMovesData_f := sDma dmaMovesData_fw id dmaMovesData_src

def dmaMovesData_c := sDma dmaMovesData_cw id dmaMovesData_src

def dmaMovesData_g := sDma dmaMovesData_gw id (dmaMovesData_src ++ [⟨0x2000000804, 0x20⟩, ⟨0x2000000808, 4⟩])

def dmaMovesData_pz := sDma [] (fun c => { c with ins := some dmaMovesData_pw }) dmaMovesData_src

def dmaMovesData_p0 := { dmaMovesData_pz with hkc := { dmaMovesData_pz.hkc with cores := [{ fifo := [5], thresh := 1 }, {}, {}] } }

def dmaMovesData_p1 := { sDma [] (fun c => { c with ins := some dmaMovesData_pw, moved := 64 }) dmaMovesData_src with hkc := dmaMovesData_p0.hkc }

def dmaMovesData_kw : List Nat := [0x20010000, 0, 0, 0x40, 0x20, 40, 0x04030201, 0]

def dmaMovesData_kf := sDma dmaMovesData_kw id dmaMovesData_src

def dmaMovesData_tk := nx (exec (.dmaFill 0 (some 1)) dmaMovesData_kf)

def dmaMovesData_tm := nx (exec (.dmaMove 0 none) dmaMovesData_m)

def dmaMovesData_tf := nx (exec (.dmaFill 0 none) dmaMovesData_f)

def dmaMovesData_tc := nx (exec (.dmaCompare 0 none) dmaMovesData_c)

def dmaMovesData_tg := nx (exec (.dmaGather 0 none) dmaMovesData_g)

def dmaMovesData_q0 := nx (exec (.dmaPacedBlock 0 [] none) dmaMovesData_p0)

def dmaMovesData_q1 := nx (exec (.dmaPacedBlock 0 [] none) dmaMovesData_p1)

/-- R255-R259: each instruction on a few bytes of SRAM, and a paced FILL of 65 bytes over its two blocks. -/
theorem witness_DmaMovesData :
  Safe.memory dmaMovesData_m ∧ dmaMovesData_m.dmaMay 0 = true ∧ (dmaMovesData_m.dch 0).loops = [] ∧ addrAt dmaMovesData_mw 1 = 0x2000000000 ∧ addrAt dmaMovesData_mw 3 = 0x2000000040 ∧ countOf dmaMovesData_mw = 4 ∧ (dmaMovesData_m.dch 0).ins = none ∧
    [dmaMovesData_m, dmaMovesData_f, dmaMovesData_c, dmaMovesData_g].map (fun (s : State) => (s.fetchAt 0 0).2.1) = [dmaMovesData_mw, dmaMovesData_fw, dmaMovesData_cw, dmaMovesData_gw] ∧ [dmaMovesData_mw, dmaMovesData_fw, dmaMovesData_cw, dmaMovesData_gw].all insOk = true ∧ [dmaMovesData_mw, dmaMovesData_fw, dmaMovesData_cw, dmaMovesData_gw].map dreqOf = [0, 0, 0, 0] ∧ [dmaMovesData_mw, dmaMovesData_fw, dmaMovesData_cw, dmaMovesData_gw].map opOf = [1, 2, 3, 4] ∧ [dmaMovesData_mw, dmaMovesData_cw, dmaMovesData_gw].all sinc = true ∧ [dmaMovesData_mw, dmaMovesData_fw, dmaMovesData_gw].all dinc = true ∧
    opOf dmaMovesData_kw = 2 ∧ dinc dmaMovesData_kw = true ∧ insOk dmaMovesData_kw = true ∧ dreqOf dmaMovesData_kw = 0 ∧ 0x2000000040 % 32 = 0 ∧ 32 * 1 < countOf dmaMovesData_kw ∧ dmaMovesData_m.braid.waiting = List.replicate 11 [] ∧ addrAt dmaMovesData_kw 3 = 0x2000000040 ∧ dmaMovesData_kf.fetchAt 0 0 = (0, dmaMovesData_kw, dmaMovesData_kf) ∧
    flagA dmaMovesData_cw = false ∧ flagB dmaMovesData_cw = false ∧ flagA dmaMovesData_gw = false ∧ Mem.readN dmaMovesData_g.mem 16 0x2000000800 = leBytes 8 0x2000000000 ++ leBytes 4 4 ++ leBytes 4 0 ∧ Safe.memory dmaMovesData_f ∧ Safe.memory dmaMovesData_c ∧ Safe.memory dmaMovesData_g := by decide +kernel

/-- The same, continued. -/
theorem witness_DmaMovesData_2 :
  (dmaMovesData_p0.dch 0).ins = some dmaMovesData_pw ∧ 1 ≤ dreqOf dmaMovesData_pw ∧ dmaMovesData_pz.lineOn (dreqOf dmaMovesData_pw - 1) = false ∧ dmaMovesData_p0.lineOn (dreqOf dmaMovesData_pw - 1) = true ∧ dmaMovesData_p1.lineOn (dreqOf dmaMovesData_pw - 1) = true ∧ dmaMovesData_p0.periPins (dreqOf dmaMovesData_pw - 1) [] = dmaMovesData_p0 ∧ opOf dmaMovesData_pw ≠ 7 ∧ opOf dmaMovesData_pw = 2 ∧ dinc dmaMovesData_pw = true ∧ (dmaMovesData_p1.dch 0).moved < 65 ∧ dwOf dmaMovesData_pw ≤ 32 ∧ Safe.memory dmaMovesData_p0 ∧ Safe.memory dmaMovesData_p1 ∧ dmaMovesData_p0.dmaMay 0 = true ∧
    Mem.readN dmaMovesData_tm.mem 4 0x2000000040 = [1, 2, 3, 4] ∧ Mem.readN dmaMovesData_tf.mem 6 0x2000000040 = [1, 2, 3, 4, 1, 0] ∧ (dmaMovesData_tc.dch 0).mismCnt = 1 ∧ Mem.readN dmaMovesData_tg.mem 4 0x2000000040 = [1, 2, 3, 4] ∧ (dmaMovesData_q0.dch 0).moved = 64 ∧ (dmaMovesData_q1.dch 0).ins = none ∧ Mem.read dmaMovesData_q1.mem 0x2000000080 = 1 := by decide +kernel

/-- The same: SRAM answers every read of the source and every write of the destination. -/
theorem witness_DmaMovesData_ranges : Safe.dmaReads dmaMovesData_m true 0x2000000000 4 ∧ Safe.dmaWrites dmaMovesData_m true 0x2000000040 4 :=
  have p : ∀ b, b < 8 → dmaMovesData_m.power.sram.getD b .off = .on := by decide +kernel
  ⟨(sram_ranges dmaMovesData_m p rfl 0x2000000000 4 (by omega) (by omega)).1, (sram_ranges dmaMovesData_m p rfl 0x2000000040 4 (by omega) (by omega)).2⟩

def convertersRun_c1 : HkcCore := { en := true, trig := 2, st := .running, lSeq := [{ input := 3 }], lCoef := [(0, 1)], origin := some 6 }

def convertersRun_s := { svc with hkc := { svc.hkc with refEn := true, refRdy := true, cores := [{}, convertersRun_c1, { en := true, trig := 2, st := .idle, fifo := [5, 6] }] } }

def convertersRun_z := { convertersRun_s with hkc := { convertersRun_s.hkc with refRdy := false } }

def convertersRun_rd := { convertersRun_s with hkc := { convertersRun_s.hkc with roundRun := true, slot := 42 } }

def convertersRun_r49 := { convertersRun_s with hkc := { convertersRun_s.hkc with roundRun := true, slot := 49, rounds := 0xFFFFFFFF } }

def convertersRun_pe := { convertersRun_s with hkc := { convertersRun_s.hkc with cores := [{}, { convertersRun_c1 with pos := 1 }, {}] } }

def convertersRun_dis := { convertersRun_s with hkc := { convertersRun_s.hkc with cores := [{}, { convertersRun_c1 with en := false, st := .discharge }, {}] } }

def convertersRun_dw := { convertersRun_s with hkc := { convertersRun_s.hkc with cores := [{}, { convertersRun_c1 with en := false, st := .discharge, enWait := true, trig := 0 }, {}] } }

def convertersRun_gw := nx (exec (.hkcDischargeEnd 1) convertersRun_dw)

def convertersRun_dr := nx (exec (.hkcCoreDisable 1) convertersRun_s)

def convertersRun_c2 : HkcCore := { convertersRun_c1 with lSeq := [{ input := 3 }, { input := 4 }], lCoef := [(0, 1), (0, 1)] }

def convertersRun_s2 := { convertersRun_s with hkc := { convertersRun_s.hkc with cores := [{}, convertersRun_c2, {}] } }

def convertersRun_sw := { convertersRun_s2 with hkc := { convertersRun_s.hkc with cores := [{}, convertersRun_c2, {}], sysRun := some { port := 0, tag := 7, core := 1, input := 3, step := 0, resume := true, waits := true } } }

def convertersRun_vw := nx (exec (.hkcConversionDone 1 100 true) convertersRun_sw)

def convertersRun_sl := { convertersRun_s with hkc := { convertersRun_s.hkc with sysRun := some { port := 0, tag := 7, core := 1, input := 3, step := 0, resume := true, waits := true } } }

def convertersRun_vl := nx (exec (.hkcConversionDone 1 100 false) convertersRun_sl)

def convertersRun_cap := { convertersRun_s with hkc := { convertersRun_s.hkc with cores := [{}, { convertersRun_c1 with st := .syscal }, {}], sysRun := some { port := 0, tag := 7, core := 1, input := 3, step := 0 }, sys := some { core := 1, input := 3 } } }

def convertersRun_full := { convertersRun_s with hkc := { convertersRun_s.hkc with prio := [1, 2, 3, 4] } }

def convertersRun_e := nx (exec .refEnable svc)

def convertersRun_y := nx (exec .refReady convertersRun_z)

def convertersRun_t := nx (exec (.hkcSlotEnd { raw := 5 }) convertersRun_rd)

def convertersRun_u := nx (exec (.hkcSlotEnd { raw := 5 }) convertersRun_r49)

def convertersRun_v := nx (exec (.hkcConversionDone 1 100 false) convertersRun_s)

def convertersRun_w := nx (exec (.hkcPassEnd 1 0 false) convertersRun_pe)

def convertersRun_x := nx (exec (.hkcSwStart 1) convertersRun_s)

def convertersRun_x2 := nx (exec (.hkcSwStart 2) convertersRun_s)

def convertersRun_d := nx (exec (.hkcCoreDisable 2) convertersRun_s)

def convertersRun_g := nx (exec (.hkcDischargeEnd 1) convertersRun_dis)

def convertersRun_q := nx (exec (.hkcSeqWrite 2 0 0x00000002) convertersRun_s)

def convertersRun_qb := nx (exec (.hkcSeqWrite 2 0 0x00000003) { convertersRun_s with hkc := { convertersRun_s.hkc with cores := [{}, { convertersRun_c1 with seq := { input := 3 } :: List.replicate 15 {} }, { en := true, trig := 2 }] } })

def convertersRun_f := nx (exec (.hkcFlush 2) convertersRun_s)

def convertersRun_h := nx (exec (.hkcFifoRead 2 0) convertersRun_s)

def convertersRun_h1 := nx (exec (.hkcFifoRead 1 0) convertersRun_s)

def convertersRun_p := nx (exec (.censusPrioWrite 8191) convertersRun_s)

def convertersRun_pf := nx (exec (.censusPrioWrite 1) convertersRun_full)

def convertersRun_k := nx (exec (.syscalCaptureDone 1 (List.replicate ((convertersRun_cap.core 1).captureLen) 100) false) convertersRun_cap)

/-- R268-R280: the reference, slots 41, 42 and 49, a conversion, the end of a pass, starts, the stop, reads and a capture. -/
theorem witness_ConvertersRun :
  svc.power.hkc = .on ∧ convertersRun_z.hkc.refEn = true ∧ convertersRun_z.hkc.refRdy = false ∧ convertersRun_rd.hkc.roundRun = true ∧ convertersRun_rd.hkc.slot < 49 ∧ 42 ≤ convertersRun_rd.hkc.slot ∧ convertersRun_r49.hkc.roundRun = true ∧ convertersRun_r49.hkc.slot = 49 ∧
    convertersRun_cap.hkc.sysRun.map SyscalRun.waits = some false ∧ (convertersRun_s.core 1).lSeq.length = 1 ∧
    convertersRun_s.hkc.cores[1]? = some convertersRun_c1 ∧ convertersRun_c1.lSeq[convertersRun_c1.pos]? = some { input := 3 } ∧ convertersRun_c1.fifo.length < 64 ∧ (convertersRun_pe.core 1).lSeq.length ≤ (convertersRun_pe.core 1).pos ∧ (convertersRun_pe.core 1).lDiag = false ∧ (convertersRun_pe.core 1).trig ≠ 0 ∧ (convertersRun_s.core 2).en = true ∧ (convertersRun_s.core 2).trig = 2 ∧ (convertersRun_s.core 2).st = .idle ∧ convertersRun_s.hkc.sysRun = none ∧ (convertersRun_dis.core 1).st = .discharge ∧ (convertersRun_dis.core 1).enWait = false ∧ (convertersRun_dw.core 1).enWait = true ∧ convertersRun_sw.syscalWaits 1 = true ∧ convertersRun_sl.syscalWaits 1 = true ∧ convertersRun_s.syscalWaits 1 = false ∧ convertersRun_c1.en = true ∧
    convertersRun_s.seqLegal 2 { (convertersRun_s.core 2) with seq := setAt (seqEntryOf 2) 0 (convertersRun_s.core 2).seq } = true ∧ convertersRun_s.hkc.prio.length < 4 ∧ 4 ≤ convertersRun_full.hkc.prio.length ∧ convertersRun_cap.hkc.sysRun.isSome = true ∧ convertersRun_cap.hkc.sys.isSome = true := by decide +kernel

/-- The same, continued. -/
theorem witness_ConvertersRun_2 :
  convertersRun_e.hkc.refEn = true ∧ convertersRun_y.hkc.roundRun = true ∧ convertersRun_t.hkc.slot = 43 ∧ convertersRun_t.hkc.zsum = 5 ∧ convertersRun_u.hkc.rounds = 0 ∧ convertersRun_u.hkc.slot = 0 ∧ (convertersRun_v.core 1).fifo.length = 1 ∧ (convertersRun_w.core 1).st = .idle ∧ (convertersRun_x.core 1).startIgn = 1 ∧ (convertersRun_x2.core 2).st = .running ∧ (convertersRun_d.core 2).st = .discharge ∧ (convertersRun_g.core 1).st = .idle ∧ (convertersRun_f.core 2).fifo = [] ∧ (convertersRun_h.core 2).fifo = [6] ∧ (convertersRun_h1.core 1).overread = 1 ∧ convertersRun_p.hkc.prio = [8191] ∧ convertersRun_pf.hkc.prioFull = true ∧ (convertersRun_qb.core 2).cfgErr = true := by decide +kernel

/-- Core 0 at the end of its round, the sensors' conditions as given. -/
def sRound (m : Mode) (c : Thm → Thm) : State :=
  let s := sMode m
  { s with hkc := { s.hkc with refEn := true, refRdy := true, roundRun := true, slot := 49, cores := { en := true, st := .running } :: s.hkc.cores.drop 1 },
           evt := { s.evt with chans := { src := 0x52, en := true } :: List.replicate 127 {} }, thm := c s.thm }

/-- Die sensors at a temperature in °C, with sensor 5 as given. -/
def rdAll (c : Int) (q : DieReading) : SlotReading := { die := (List.replicate 288 ({ t := c * 256 } : DieReading)).set 5 q }

def thermalRoundActs_one := sRound .service (fun m => { m with persist := 1 })

def thermalRoundActs_hot := nx (exec (.hkcSlotEnd (rdAll 110 { t := 28160 })) thermalRoundActs_one)

def thermalRoundActs_shut := nx (exec (.hkcSlotEnd (rdAll 40 { t := 31000 })) thermalRoundActs_one)

def thermalRoundActs_lat := sRound .safe (fun m => { m with persist := 1, safeLatch := true })

def thermalRoundActs_held := nx (exec (.hkcSlotEnd (rdAll 125 { t := 32000 })) thermalRoundActs_lat)

def thermalRoundActs_brk := nx (exec (.hkcSlotEnd (rdAll 40 { present := false })) thermalRoundActs_one)

def thermalRoundActs_der := { thermalRoundActs_one with sys := { thermalRoundActs_one.sys with mode := .derated } }

def thermalRoundActs_cool := nx (exec (.hkcSlotEnd (rdAll 40 { t := 10240 })) thermalRoundActs_der)

def thermalRoundActs_chu := sRound .churn (fun m => { m with persist := 1 })

def thermalRoundActs_ramp := nx (exec (.hkcSlotEnd (rdAll 40 { t := 31000 })) thermalRoundActs_chu)

def thermalRoundActs_two : SlotReading := { die := ((List.replicate 288 ({ t := 10240 } : DieReading)).set 5 { fault := true }).set 6 { present := false } }

def thermalRoundActs_quad := nx (exec (.hkcSlotEnd thermalRoundActs_two) thermalRoundActs_one)

/-- R284-R297: a hot round that throttles, a shutdown, one that is under way, a broken sensor and a cool round that ends DERATED. -/
theorem witness_ThermalRoundActs :
  thermalRoundActs_one.hkc.roundRun = true ∧ thermalRoundActs_one.hkc.slot = 49 ∧ thermalRoundActs_lat.hkc.roundRun = true ∧ thermalRoundActs_lat.hkc.slot = 49 ∧ thermalRoundActs_der.hkc.slot = 49 ∧ thermalRoundActs_chu.hkc.slot = 49 ∧ 1 ≤ thermalRoundActs_one.thm.persist ∧ thermalRoundActs_one.thm.die.shutClr ≤ thermalRoundActs_one.thm.die.shutSet ∧ thermalRoundActs_one.privEvaluated 17 = true ∧ (thermalRoundActs_one.privReading 17).2 = false ∧ (thermalRoundActs_one.thm.privs[17]?).map PrivS.implausible = some false ∧
    thermalRoundActs_one.thm.safeLatch = false ∧ (thermalRoundActs_one.thm.dies[5]?).map DieS.broken = some false ∧ ((rdAll 40 { present := false }).die[5]?).map DieReading.present = some false ∧ thermalRoundActs_one.thm.dDer[0]? = some 0xFFFF ∧ 0 ∈ thermalRoundActs_one.evt.takers 0x52 ∧ thermalRoundActs_one.sys.mode = .service ∧ thermalRoundActs_chu.sys.mode = .churn ∧ thermalRoundActs_lat.thm.safeLatch = true := by decide +kernel

def recorderRecords_s := { svcD with rcd := { svcD.rcd with capEn := true, capSel := 0x80000000 :: List.replicate 255 0, capNow := [0] } }

def recorderRecords_s1 := ((recorderRecords_s.toSkim).getD (0, svc)).2

def recorderRecords_sb := ((recorderRecords_s.toSkim).getD (0, svc)).1

def recorderRecords_hi := { recorderRecords_s with rcd := { recorderRecords_s.rcd with stage := [{ inst := 0, ring := 1, bytes := List.replicate (stageSize * 7 / 8 + 1) 0 }] } }

def recorderRecords_h1 := ((recorderRecords_hi.toSkim).getD (0, svc)).2

def recorderRecords_v := (recorderRecords_s.nextCapture).getD (0, 0, [])

def recorderRecords_v1 := (reach 10000 recorderRecords_v.1 recorderRecords_s).getD svc

def recorderRecords_b := { recorderRecords_s with rcd := { recorderRecords_s.rcd with stage := [{ inst := 0, ring := 1, bytes := [1, 2, 3, 4] }] } }

def recorderRecords_z := { recorderRecords_s with rcd := { recorderRecords_s.rcd with frozen := true, stage := [{ inst := 0, ring := 1, bytes := [1] }] } }

def recorderRecords_t := nx (exec .skimSnapshot recorderRecords_s)

def recorderRecords_u := nx (exec .skimSnapshot recorderRecords_hi)

def recorderRecords_c := nx (exec .captureBlock recorderRecords_s)

def recorderRecords_w := nx (exec .blockWriteDone recorderRecords_b)

def recorderRecords_l := nx (exec (.ddrChannelFail 1) recorderRecords_s)

def recorderRecords_g := nx (exec (.logRecordWrite 2 [0] 1) recorderRecords_s)

def recorderRecords_ow := { recorderRecords_s with rcd := { recorderRecords_s.rcd with logDue := [{ kind := 6, insts := [0], at_ := { sph := 3 }, body := [9] }, { kind := 8, insts := [0], at_ := { sph := 4 }, body := [7] }] } }

def recorderRecords_g1 := nx (exec (.logRecordWrite 8 [1] 1) recorderRecords_ow)

def recorderRecords_cold := { recorderRecords_s with rcd := { recorderRecords_s.rcd with on := false } }

def recorderRecords_f := nx (exec (.recCtrlFreeze true) recorderRecords_b)

def recorderRecords_r := nx (exec (.recCtrlFreeze false) recorderRecords_z)

/-- R339-R350: a snapshot below and above seven eighths of the buffer, a capture, a written block, a lost channel, a log record, and freezing. -/
theorem witness_RecorderRecords :
  recorderRecords_s.rcd.on = true ∧ recorderRecords_s.rcd.f ≠ 0 ∧ recorderRecords_s.toSkim.isSome = true ∧ recorderRecords_s1.rcd.frozen = false ∧ recorderRecords_s1.rcd.fill ≤ stageSize * 7 / 8 ∧ recorderRecords_hi.rcd.on = true ∧ recorderRecords_hi.rcd.f ≠ 0 ∧ svcD.rcd.capEn = false ∧
    recorderRecords_s.rcd.capEn = true ∧ recorderRecords_s.nextCapture = some recorderRecords_v ∧ reach 10000 recorderRecords_v.1 recorderRecords_s = some recorderRecords_v1 ∧ recorderRecords_b.rcd.stage = [{ inst := 0, ring := 1, bytes := [1, 2, 3, 4] }] ∧ (recorderRecords_b.ring 0 1).size ≠ 0 ∧
    recorderRecords_s.chOk 1 = true ∧ recorderRecords_s.chOk 0 = true ∧ 1 < recorderRecords_s.rcd.chLost.length ∧ recorderRecords_s.firmware = true ∧ (recorderRecords_ow.rcd.logDue.find? (fun q => decide (q.kind = 8))).map LogDue.insts = some [0] ∧ recorderRecords_cold.power.recorder = .on ∧ recorderRecords_s.rcd.present.getD 0 false = true ∧ (recorderRecords_s.ring 0 0).size ≠ 0 ∧ recorderRecords_b.rcd.frozen = false ∧ recorderRecords_z.rcd.frozen = true ∧ svcD.power.recorder = .on := by decide +kernel

/-- The same, continued. -/
theorem witness_RecorderRecords_2 :
  recorderRecords_t.rcd.stage.length = 1 ∧ recorderRecords_c.rcd.lastCap = some recorderRecords_v.1 ∧ (recorderRecords_w.ring 0 1).w = 4 ∧ recorderRecords_l.chOk 1 = false ∧ (recorderRecords_l.ring 0 1).size = 2 ^ 19 ∧ (recorderRecords_g.ring 0 0).w = 64 ∧ (recorderRecords_g1.ring 0 0).w = 64 ∧ recorderRecords_f.rcd.frozen = true ∧ recorderRecords_r.rcd.frozen = false := by decide +kernel

/-- A buffer more than seven eighths full when the snapshot comes (R339). -/
theorem witness_RecorderRecords_shed :
    (recorderRecords_hi.toSkim.map (fun s => (s.2.rcd.frozen, s.2.rcd.stage))) = some (false, recorderRecords_hi.rcd.stage) ∧
      stageSize * 7 / 8 < recorderRecords_hi.rcd.fill :=
  ⟨rfl, by simp [recorderRecords_hi, Rec.fill]⟩

def everyStepKeepsMemoryForm_t := nx (step { sMem with pending := [.registerWrite 0 0x2000000000 0] })

/-- A step that writes memory. -/
theorem witness_EveryStepKeepsMemoryForm :
  Safe.memory { sMem with pending := [.registerWrite 0 0x2000000000 0] } ∧
    Safe.memory everyStepKeepsMemoryForm_t ∧ everyStepKeepsMemoryForm_t.mem = [⟨0x2000000104, 9⟩] := by decide +kernel

def lifeCycleOnlyMovesOn_s := { svc with sys := { svc.sys with lc := .sealed_, keyFused := true, keyHash := 77 }, pending := [.powerOnReset] }

def lifeCycleOnlyMovesOn_r := { svc with sys := { svc.sys with lc := .returned, strap := true }, pending := [.lcsLcReqWrite 0 0x3E0D] }

def lifeCycleOnlyMovesOn_e := { svc with sys := { svc.sys with lc := .ended }, pending := [.powerOnReset] }

/-- Steps of a sealed, of a returned and of an ended device. -/
theorem witness_LifeCycleOnlyMovesOn :
  lifeCycleOnlyMovesOn_s.sys.lc = .sealed_ ∧ lifeCycleOnlyMovesOn_s.sys.keyFused = true ∧ lifeCycleOnlyMovesOn_s.sys.lc ≠ .open_ ∧ lifeCycleOnlyMovesOn_r.sys.lc = .returned ∧ lifeCycleOnlyMovesOn_e.sys.lc = .ended ∧
    (nx (step lifeCycleOnlyMovesOn_s)).sys.lc = .sealed_ ∧ (nx (step lifeCycleOnlyMovesOn_s)).sys.keyHash = 77 ∧ (nx (step lifeCycleOnlyMovesOn_e)).sys.lc = .ended ∧ (nx (step lifeCycleOnlyMovesOn_r)).sys.lc = .ended := by decide +kernel

def safeLatchHolds_s := { sRound .safe (fun m => { m with safeLatch := true }) with pending := [.thmResumeWrite 1] }

def safeLatchHolds_r := { safeLatchHolds_s with pending := [.hkcSlotEnd (rdAll 125 { t := 32000 })] }

def safeLatchHolds_l := { safeLatchHolds_s with pending := [.supplyLoss .vserdes] }

/-- The latch with a hot sensor: a write of RESUME, the end of a round, and the loss of a supply. -/
theorem witness_SafeLatchHolds :
  safeLatchHolds_s.sys.resetting ≠ some .powerOn ∧ safeLatchHolds_s.thm.safeLatch = true ∧ safeLatchHolds_s.mayResume = false ∧ safeLatchHolds_r.mayResume = false ∧ safeLatchHolds_l.mayResume = false ∧ safeLatchHolds_s.pending.head? = some (.thmResumeWrite 1) ∧ safeLatchHolds_l.pending.head? = some (.supplyLoss .vserdes) ∧
    (nx (step safeLatchHolds_s)).thm.safeLatch = true ∧ (nx (step safeLatchHolds_l)).thm.safeLatch = true ∧ (rn h0 0x41 (.thermalResume h0) safeLatchHolds_s).thm.safeLatch = true := by decide +kernel

end Sys2Proof.Tests
end

/-! PROOFS. The counters: what ticks gain, what they leave of each counter, and the wrap of WNS (R163-R165, R170). -/

namespace Sys2Proof.Machine

/-! ### Ticks as sums -/

/-- Ticks add up to nanoseconds and a fraction with nothing lost (R163). -/
theorem Time.gain_sum (t : Time) (k : Nat) : (t.gain k).1 * 2 ^ 32 + (t.gain k).2 = t.frac + k * t.inc :=
  Nat.div_add_mod' _ _

theorem Time.gain_frac_lt (t : Time) (k : Nat) : (t.gain k).2 < 2 ^ 32 := Nat.mod_lt _ (by decide)

theorem Time.one_le_ticksFor (t : Time) (d : Nat) : 1 ≤ t.ticksFor d := Nat.le_max_left _ _

/-- The number of ticks for `d` ns, rounded up, as a quotient rounded down. -/
theorem Time.ticksFor_eq {t : Time} (inc : 0 < t.inc) (frac : t.frac < 2 ^ 32) {d : Nat} (pos : 0 < d) :
    t.ticksFor d = (d * 2 ^ 32 - t.frac - 1) / t.inc + 1 := by
  rw [← Nat.add_div_right _ inc, Time.ticksFor]
  have short : d * 2 ^ 32 - t.frac + t.inc - 1 = d * 2 ^ 32 - t.frac - 1 + t.inc := by omega
  have some_tick : 1 ≤ (d * 2 ^ 32 - t.frac - 1 + t.inc) / t.inc := by
    rw [Nat.add_div_right _ inc]
    exact Nat.le_add_left 1 _
  rw [short, Nat.max_eq_right some_tick]

/-- The ticks for `d` ns gain `d` ns. -/
theorem Time.le_gain_ticksFor {t : Time} (inc : 0 < t.inc) (frac : t.frac < 2 ^ 32) {d : Nat} (pos : 0 < d) :
    d ≤ (t.gain (t.ticksFor d)).1 := by
  have up := Nat.lt_div_mul_add (a := d * 2 ^ 32 - t.frac - 1) inc
  have sum := t.gain_sum (t.ticksFor d)
  have low := t.gain_frac_lt (t.ticksFor d)
  rw [Time.ticksFor_eq inc frac pos] at sum low ⊢
  rw [Nat.add_mul] at sum
  omega

/-- One tick fewer does not gain `d` ns. -/
theorem Time.ticksFor_least {t : Time} (inc : 0 < t.inc) (frac : t.frac < 2 ^ 32) {d : Nat} (pos : 0 < d) :
    t.frac + (t.ticksFor d - 1) * t.inc < d * 2 ^ 32 := by
  have down := Nat.div_mul_le_self (d * 2 ^ 32 - t.frac - 1) t.inc
  rw [Time.ticksFor_eq inc frac pos, Nat.add_sub_cancel]
  omega

/-- The ticks for `d` ns pass `d` ns by at most one tick's gain, which is at most 256 ns. -/
theorem Time.gain_ticksFor_le {t : Time} (inc : 0 < t.inc) (small : t.inc < 2 ^ 40) (frac : t.frac < 2 ^ 32) {d : Nat} (pos : 0 < d) :
    (t.gain (t.ticksFor d)).1 ≤ d + 256 := by
  have least := Time.ticksFor_least inc frac pos
  have sum := t.gain_sum (t.ticksFor d)
  rw [Nat.sub_mul] at least
  omega

/-! ### What ticks leave of the counters -/

@[simp] theorem wrapWns_wns (s : State) : (wrapWns s).time.wns = s.time.wns % 2 ^ 32 := by
  unfold wrapWns
  split
  · rfl
  · exact (Nat.mod_eq_of_lt (by omega)).symm

/-- What a wrap of WNS leaves of the time base besides WNS and ERA_STALE. -/
theorem wrapWns_time (s : State) :
    (wrapWns s).time = { s.time with wns := (wrapWns s).time.wns, eraStale := (wrapWns s).time.eraStale } := by
  unfold wrapWns
  split <;> rfl

/-- NS_WRAP is raised, and ERA_STALE set, where WNS has carried (R164). -/
theorem wrapWns_carried {s : State} (h : 2 ^ 32 ≤ s.time.wns) :
    (wrapWns s).evt = (s.raise 0x01 none).evt ∧ (wrapWns s).time.eraStale = true := by
  unfold wrapWns
  rw [if_pos h]
  exact ⟨rfl, rfl⟩

theorem wrapWns_below {s : State} (h : s.time.wns < 2 ^ 32) : wrapWns s = s := if_neg (by omega)

@[simp] theorem eraAuto_evt (s : State) : (eraAuto s).evt = s.evt := by
  unfold eraAuto
  split <;> rfl

/-- Below 2³¹ nothing is incremented (R170). -/
theorem eraAuto_below {s : State} (h : s.time.wns < 2 ^ 31) : eraAuto s = s := if_neg fun ⟨_, high⟩ => Nat.not_lt.mpr high h

/-- What an automatic increment leaves of the time base besides ERA and its flags. -/
theorem eraAuto_time (s : State) : (eraAuto s).time =
    { s.time with era := (eraAuto s).time.era, eraStale := (eraAuto s).time.eraStale, eraAuto := (eraAuto s).time.eraAuto } := by
  unfold eraAuto
  split <;> rfl

@[simp] theorem wrapSph_evt (s : State) : (wrapSph s).evt = s.evt := by
  unfold wrapSph
  split <;> rfl

@[simp] theorem wrapSph_sph (s : State) : (wrapSph s).time.sph = s.time.sph % 1000000000 := by
  unfold wrapSph
  split
  · rfl
  · exact (Nat.mod_eq_of_lt (by omega)).symm

/-- What the top of a second leaves of the time base besides SPH and the latched counters. -/
theorem wrapSph_time (s : State) : (wrapSph s).time =
    { s.time with sph := (wrapSph s).time.sph, tosEra := (wrapSph s).time.tosEra, tosWns := (wrapSph s).time.tosWns,
                  tosStale := (wrapSph s).time.tosStale } := by
  unfold wrapSph
  split <;> rfl

@[simp] theorem capRenew_time (a b : Nat) (s : State) : (capRenew a b s).time = s.time := by
  unfold capRenew
  split <;> rfl

@[simp] theorem capRenew_evt (a b : Nat) (s : State) : (capRenew a b s).evt = s.evt := by
  unfold capRenew
  split <;> rfl

/-- A state whose counters have gained what `k` ticks gain, before any of them wraps. -/
def gained (k : Nat) (s : State) : State :=
  { s with time := { s.time with wns := s.time.wns + (s.time.gain k).1, sph := s.time.sph + (s.time.gain k).1,
                                  frac := (s.time.gain k).2 } }

theorem ticks_eq (k : Nat) (s : State) :
    ticks k s = capRenew s.time.sph (s.time.sph + (s.time.gain k).1) (wrapSph (eraAuto (wrapWns (gained k s)))) := rfl

@[simp] theorem ticks_run (k : Nat) (s : State) : (ticks k s).time.run = s.time.run := by
  rw [ticks_eq, capRenew_time, wrapSph_time, eraAuto_time, wrapWns_time]
  rfl

@[simp] theorem ticks_inc (k : Nat) (s : State) : (ticks k s).time.inc = s.time.inc := by
  rw [ticks_eq, capRenew_time, wrapSph_time, eraAuto_time, wrapWns_time]
  rfl

@[simp] theorem ticks_frac (k : Nat) (s : State) : (ticks k s).time.frac = (s.time.gain k).2 := by
  rw [ticks_eq, capRenew_time, wrapSph_time, eraAuto_time, wrapWns_time]
  rfl

@[simp] theorem ticks_wns (k : Nat) (s : State) : (ticks k s).time.wns = (s.time.wns + (s.time.gain k).1) % 2 ^ 32 := by
  rw [ticks_eq, capRenew_time, wrapSph_time, eraAuto_time, wrapWns_wns]
  rfl

@[simp] theorem ticks_sph (k : Nat) (s : State) : (ticks k s).time.sph = (s.time.sph + (s.time.gain k).1) % 1000000000 := by
  rw [ticks_eq, capRenew_time, wrapSph_sph, eraAuto_time, wrapWns_time]
  rfl

theorem ticks_evt_eq (k : Nat) (s : State) : (ticks k s).evt = (wrapWns (gained k s)).evt := by
  rw [ticks_eq, capRenew_evt, wrapSph_evt, eraAuto_evt]

/-- Ticks that carry WNS past 2³² raise NS_WRAP and set ERA_STALE (R164). -/
theorem ticks_carried {k : Nat} {s : State} (low : 2 ^ 32 ≤ s.time.wns + (s.time.gain k).1)
    (high : s.time.wns + (s.time.gain k).1 < 2 ^ 32 + 2 ^ 31) :
    (ticks k s).time.eraStale = true ∧ (ticks k s).evt = (s.raise 0x01 none).evt := by
  obtain ⟨evt, stale⟩ := wrapWns_carried (s := gained k s) low
  have wrapped : (wrapWns (gained k s)).time.wns = (s.time.wns + (s.time.gain k).1) % 2 ^ 32 := wrapWns_wns _
  refine ⟨?_, (ticks_evt_eq k s).trans evt⟩
  rw [ticks_eq, capRenew_time, wrapSph_time, eraAuto_below (by omega)]
  exact stale

/-- Ticks that keep WNS below 2³² raise nothing. -/
theorem ticks_below {k : Nat} {s : State} (h : s.time.wns + (s.time.gain k).1 < 2 ^ 32) : (ticks k s).evt = s.evt := by
  rw [ticks_evt_eq, wrapWns_below (s := gained k s) h]
  rfl

/-! ### The advance to the wrap of WNS -/

/-- The time base counts, with every counter within its bounds. -/
structure Time.Counts (t : Time) : Prop where
  run : t.run = true
  inc_pos : 0 < t.inc
  inc_lt : t.inc < 2 ^ 40
  frac_lt : t.frac < 2 ^ 32
  wns_lt : t.wns < 2 ^ 32
  sph_lt : t.sph < 1000000000

/-- Counted time since the latest wrap of WNS, in units of 2⁻³² ns. -/
def Time.counted (t : Time) : Nat := t.wns * 2 ^ 32 + t.frac

theorem ticks_counts (k : Nat) {s : State} (c : s.time.Counts) : (ticks k s).time.Counts where
  run := by rw [ticks_run, c.run]
  inc_pos := by rw [ticks_inc]; exact c.inc_pos
  inc_lt := by rw [ticks_inc]; exact c.inc_lt
  frac_lt := by rw [ticks_frac]; exact s.time.gain_frac_lt k
  wns_lt := by rw [ticks_wns]; exact Nat.mod_lt _ (by decide)
  sph_lt := by rw [ticks_sph]; exact Nat.mod_lt _ (by decide)

/-- Each tick counts INC. -/
theorem Time.counted_gain (t : Time) (k : Nat) : (t.wns + (t.gain k).1) * 2 ^ 32 + (t.gain k).2 = t.counted + k * t.inc := by
  rw [Time.counted, Nat.add_mul, Nat.add_assoc, t.gain_sum, Nat.add_assoc]

/-- Until WNS wraps, the counted time goes on with every tick. -/
theorem ticks_counted {k : Nat} {s : State} (h : s.time.wns + (s.time.gain k).1 < 2 ^ 32) :
    (ticks k s).time.counted = s.time.counted + k * s.time.inc := by
  rw [Time.counted, ticks_wns, ticks_frac, Nat.mod_eq_of_lt h, Time.counted_gain]

/-- The next bound lies ahead. -/
theorem Time.nextBound_pos {t : Time} (c : t.Counts) : 0 < t.nextBound := by
  have wns := c.wns_lt
  have sph := c.sph_lt
  unfold Time.nextBound
  dsimp only
  split <;> omega

/-- The next bound: the wrap of WNS, the top of a second, or WNS at 2³¹. -/
theorem Time.nextBound_cases (t : Time) :
    t.nextBound = 2 ^ 32 - t.wns ∨ t.nextBound = 1000000000 - t.sph ∨ (t.wns < 2 ^ 31 ∧ t.nextBound = 2 ^ 31 - t.wns) := by
  unfold Time.nextBound
  dsimp only
  split
  next h =>
    have low := h.2
    omega
  next => omega

/-- The ticks of an advance by `d` ns up to its end or the next bound. -/
def Time.leg (t : Time) (d : Nat) : Nat := t.ticksFor (min d t.nextBound)

theorem Time.leg_min_pos {t : Time} (c : t.Counts) {d : Nat} (pos : 0 < d) : 0 < min d t.nextBound :=
  Nat.lt_min.mpr ⟨pos, t.nextBound_pos c⟩

/-- A leg that ends before the advance does has come to the next bound. -/
theorem Time.nextBound_le_leg {t : Time} (c : t.Counts) {d : Nat} (short : (t.gain (t.leg d)).1 < d) :
    t.nextBound ≤ (t.gain (t.leg d)).1 := by
  have reached := Time.le_gain_ticksFor c.inc_pos c.frac_lt (Time.leg_min_pos c (Nat.zero_lt_of_lt short))
  unfold Time.leg at *
  omega

/-- The nanoseconds of an advance by `d` ns, with those of the second begun, and a second more while WNS can still come to 2³¹: every
bound that is not the wrap of WNS takes a second of them. -/
def Time.budget (t : Time) (d : Nat) : Nat := t.sph + d + if t.wns < 2 ^ 31 then 1000000000 else 0

/-- A leg that ends before WNS wraps takes its second. -/
theorem ticks_budget {s : State} (c : s.time.Counts) {d : Nat} (left : s.time.wns + d = 2 ^ 32)
    (short : (s.time.gain (s.time.leg d)).1 < d) :
    (ticks (s.time.leg d) s).time.budget (d - (s.time.gain (s.time.leg d)).1) + 1000000000 ≤ s.time.budget d := by
  have reached := Time.nextBound_le_leg c short
  have sph := c.sph_lt
  have below : s.time.wns + (s.time.gain (s.time.leg d)).1 < 2 ^ 32 := by omega
  simp only [Time.budget, ticks_sph, ticks_wns, Nat.mod_eq_of_lt below]
  generalize s.time.gain (s.time.leg d) = g at *
  obtain wrap | second | ⟨low, half⟩ := s.time.nextBound_cases
  · omega
  · split <;> split <;> omega
  · rw [if_pos low, if_neg (by omega)]
    omega

/-- From `s` to `t` the counters take `k` ticks, of which the last alone carries out of WNS's bit 31, and NS_WRAP is raised (R164). -/
structure WrapsAt (k : Nat) (s t : State) : Prop where
  pos : 1 ≤ k
  before : s.time.counted + (k - 1) * s.time.inc < 2 ^ 64
  after : s.time.counted + k * s.time.inc = 2 ^ 64 + t.time.counted
  frac : t.time.frac < 2 ^ 32
  stale : t.time.eraStale = true
  raised : t.evt = (s.raise 0x01 none).evt

/-- A leg that gains the `d` ns left to the wrap carries WNS at its last tick. -/
theorem ticks_wrapsAt {s : State} (c : s.time.Counts) {d : Nat} (left : s.time.wns + d = 2 ^ 32)
    (enough : d ≤ (s.time.gain (s.time.leg d)).1) : WrapsAt (s.time.leg d) s (ticks (s.time.leg d) s) := by
  have wns := c.wns_lt
  have pos := Time.leg_min_pos c (d := d) (by omega)
  have one : 1 ≤ s.time.leg d := s.time.one_le_ticksFor _
  have least : s.time.frac + (s.time.leg d - 1) * s.time.inc < min d s.time.nextBound * 2 ^ 32 :=
    Time.ticksFor_least c.inc_pos c.frac_lt pos
  have most : (s.time.gain (s.time.leg d)).1 ≤ min d s.time.nextBound + 256 :=
    Time.gain_ticksFor_le c.inc_pos c.inc_lt c.frac_lt pos
  have sum := s.time.counted_gain (s.time.leg d)
  obtain ⟨stale, evt⟩ := ticks_carried (k := s.time.leg d) (s := s) (by omega) (by omega)
  refine ⟨one, ?_, ?_, (ticks_counts _ c).frac_lt, stale, evt⟩
  · unfold Time.counted
    omega
  · rw [← sum, Time.counted, ticks_wns, ticks_frac]
    generalize s.time.gain (s.time.leg d) = g at *
    omega

/-- Ticks that do not wrap WNS, and then ticks that do. -/
theorem WrapsAt.after_ticks {k j : Nat} {s t : State} (h : s.time.wns + (s.time.gain k).1 < 2 ^ 32) (w : WrapsAt j (ticks k s) t) :
    WrapsAt (k + j) s t := by
  obtain ⟨pos, before, after, frac, stale, raised⟩ := w
  rw [ticks_counted h, ticks_inc] at before after
  refine ⟨by omega, ?_, ?_, frac, stale, ?_⟩
  · rw [Nat.add_sub_assoc pos, Nat.add_mul]
    omega
  · rw [Nat.add_mul]
    omega
  · rw [raised, raise_evt, raise_evt, ticks_below h]

theorem advanceFor_zero (fuel : Nat) (s : State) : advanceFor fuel 0 s = s := by
  cases fuel <;> simp [advanceFor]

theorem advanceFor_succ (fuel : Nat) {d : Nat} {s : State} (c : s.time.Counts) (pos : 0 < d) :
    advanceFor (fuel + 1) d s = advanceFor fuel (d - (s.time.gain (s.time.leg d)).1) (ticks (s.time.leg d) s) := by
  rw [advanceFor, if_neg (by simp [c.run, c.inc_pos.ne', pos.ne'])]
  rfl

/-- The advance by the nanoseconds left to 2³², leg by leg, ends at the tick that wraps WNS. -/
theorem advanceFor_wrapsAt : ∀ (fuel d : Nat) (s : State), s.time.Counts → s.time.wns + d = 2 ^ 32 →
    s.time.budget d < fuel * 1000000000 → ∃ k, WrapsAt k s (advanceFor fuel d s)
  | 0, _, _, _, _, enough => absurd enough (by omega)
  | fuel + 1, d, s, c, left, enough => by
    have wns := c.wns_lt
    rw [advanceFor_succ fuel c (by omega)]
    by_cases last : d ≤ (s.time.gain (s.time.leg d)).1
    · rw [Nat.sub_eq_zero_of_le last, advanceFor_zero]
      exact ⟨_, ticks_wrapsAt c left last⟩
    · have short := Nat.lt_of_not_le last
      have below : s.time.wns + (s.time.gain (s.time.leg d)).1 < 2 ^ 32 := by omega
      have left' : (ticks (s.time.leg d) s).time.wns + (d - (s.time.gain (s.time.leg d)).1) = 2 ^ 32 := by
        rw [ticks_wns, Nat.mod_eq_of_lt below]
        omega
      have spent := ticks_budget c left short
      obtain ⟨j, w⟩ := advanceFor_wrapsAt fuel _ _ (ticks_counts _ c) left' (by omega)
      exact ⟨_, w.after_ticks below⟩

/-- NS_WRAP's command takes the counters to the wrap of WNS. -/
theorem nsWrap_eq {s : State} (run : s.time.run = true) : nsWrap s = advanceFor 256 (2 ^ 32 - s.time.wns) s := by
  have near : ¬(s.time.run = false ∨ ((5000000000 : Nat) : Int) < s.now + (2 ^ 32 - s.time.wns : Nat) - s.now) := by
    simp only [run, Bool.true_eq_false, false_or]
    omega
  have ahead : (s.now + (2 ^ 32 - s.time.wns : Nat) - s.now).toNat = 2 ^ 32 - s.time.wns := by omega
  rw [nsWrap, reach, if_neg near, advanceTo, ahead]

theorem nsWrap_wrapsAt {s : State} (c : s.time.Counts) : ∃ k, WrapsAt k s (nsWrap s) := by
  have wns := c.wns_lt
  have sph := c.sph_lt
  rw [nsWrap_eq c.run]
  refine advanceFor_wrapsAt _ _ _ c (by omega) ?_
  unfold Time.budget
  split <;> omega

theorem exec_nsWrap (s : State) : exec .nsWrap s = .next (nsWrap s) := rfl

/-- Settles O2: the advance stops at the bounds of the other counters, and its last tick is the one that wraps WNS. -/
theorem wnsWrapRaisesNsWrap : Obligations.WnsWrapRaisesNsWrap := by
  intro s run inc_pos inc_lt frac_lt wns_lt sph_lt
  obtain ⟨k, pos, before, after, frac, stale, raised⟩ := nsWrap_wrapsAt ⟨run, inc_pos, inc_lt, frac_lt, wns_lt, sph_lt⟩
  have frame : nsWrap s = { s with time := (nsWrap s).time, rcd := (nsWrap s).rcd, evt := (nsWrap s).evt } := by
    rw [nsWrap_eq run]
    exact advanceFor_frame _ _ _
  refine ⟨nsWrap s, k, exec_nsWrap s, frame, pos, before, ?_, frac, stale, raised⟩
  rw [← Time.counted, after, Time.counted, Nat.add_assoc]

end Sys2Proof.Machine

/-! PROOFS. Arrivals at a consumer (R231, R232, R235): an arrival of its own, and what becomes of it where the block is unpowered. -/

namespace Sys2Proof.Machine

/-! ### An arrival of its own -/

/-- An occurrence leaves the way to its consumer. -/
def State.takeConOcc (o : ConOcc) (s : State) : State :=
  { s with evt := { s.evt with conIn := removeFirst (fun q => decide (q = o)) s.evt.conIn } }

/-- An occurrence on its way to an ordinary consumer, neither PLAN_GO nor the reserved one, belongs to an arrival there (R231, R232). -/
theorem consumerArrive_ordinary {x j o k : Nat} {s : State} (coming : s.evt.conIn.contains ⟨x, j, o⟩ = true) (notPlanGo : ¬ x < 8)
    (notReserved : x ≠ 47) : consumerArrive x j o k s = (s.takeConOcc ⟨x, j, o⟩).newArrival x j o k := by
  unfold consumerArrive
  rw [if_pos coming, if_neg notPlanGo, if_neg notReserved]
  rfl

/-- More than 8 ns from the latest arrival an occurrence does not belong to it (R232). -/
theorem sameArrival_apart {x : Nat} {s : State} (apart : ∀ a, (s.con x).arrAt = some a → a + 8 < s.now ∨ s.now < a) :
    s.sameArrival x = (false, s) := by
  unfold State.sameArrival
  split
  next => rfl
  next a latest => exact if_pos (apart a latest).symm

/-- Nothing is folded in where nothing more is on its way to the consumer. -/
theorem foldIn_alone {x : Nat} {s : State} (alone : ∀ q ∈ s.evt.conIn, q.x ≠ x) : ∀ k, s.foldIn x k = s
  | 0 => rfl
  | _ + 1 => if_neg (by simpa using alone)

/-- An occurrence apart from the latest arrival, and the only one on its way, makes an arrival of its own (R232). -/
theorem newArrival_apart {x j o k : Nat} {s : State} (apart : ∀ a, (s.con x).arrAt = some a → a + 8 < s.now ∨ s.now < a)
    (alone : ∀ q ∈ s.evt.conIn, q.x ≠ x) :
    s.newArrival x j o k = (s.modCon x (fun c => { c with arrAt := some s.now })).conArrive x j o := by
  unfold State.newArrival
  simp only [sameArrival_apart apart, Bool.false_eq_true, if_false]
  rw [foldIn_alone (by simpa using alone)]

/-! ### A block without power -/

/-- Only the consumers of DMA, the converter and the recorder have a block that loses its power. -/
theorem conOff_bounds {x : Nat} {s : State} (off : s.conOff x = true) : 8 ≤ x ∧ x < 45 := by
  unfold State.conOff at off
  split at off
  next dma => omega
  next =>
    split at off
    next hkc => omega
    next =>
      split at off
      next rcd => omega
      next => exact absurd off Bool.false_ne_true

/-- An arrival at an unpowered block does nothing but count as dropped (R235). -/
theorem conArrive_off {x j o : Nat} {s : State} (off : s.conOff x = true) : s.conArrive x j o = s.modCon x Con.dropOne := by
  unfold State.conArrive
  rw [off, Bool.true_or, if_pos rfl]

/-- What an arrival of its own leaves of a consumer whose block is unpowered: its time and one more drop (R235). -/
theorem consumerArrive_off {x j o k : Nat} {s : State} (coming : s.evt.conIn.contains ⟨x, j, o⟩ = true) (off : s.conOff x = true)
    (apart : ∀ a, (s.con x).arrAt = some a → a + 8 < s.now ∨ s.now < a) (alone : ∀ q ∈ (s.takeConOcc ⟨x, j, o⟩).evt.conIn, q.x ≠ x) :
    consumerArrive x j o k s =
      ((s.takeConOcc ⟨x, j, o⟩).modCon x (fun c => { c with arrAt := some s.now })).modCon x Con.dropOne := by
  obtain ⟨low, high⟩ := conOff_bounds off
  rw [consumerArrive_ordinary coming (by omega) (by omega), newArrival_apart (s := s.takeConOcc _) apart alone]
  exact conArrive_off off

/-- Settles O50: the occurrence makes an arrival of its own, and an unpowered block's arrival is counted and nothing more. -/
theorem unpoweredConsumerDrops : Obligations.UnpoweredConsumerDrops := by
  intro s x j o c k coming at_x off apart alone
  have con_x : s.con x.val = c := by simp [State.con, List.getD_eq_getElem?_getD, at_x]
  have arrives := consumerArrive_off (k := k) coming off (by rwa [con_x]) alone
  refine ⟨_, congrArg Host.Outcome.next arrives, rfl, rfl, rfl, ?_, fun y other => ?_⟩
  · exact getElem?_modAt_same (getElem?_modAt_same at_x)
  · exact (getElem?_modAt_other other).trans (getElem?_modAt_other other)

end Sys2Proof.Machine

/-! PROOFS. One step of the machine. -/

namespace Sys2Proof.Machine

/-- Settles O1: a step matches on the queue, whose front the hypothesis gives. -/
theorem stepRunsFrontCommand : Obligations.StepRunsFrontCommand := by
  unfold Obligations.StepRunsFrontCommand
  intro c cs s front
  simp only [step, front]

end Sys2Proof.Machine

/-! PROOFS. What every step keeps: the life cycle, the SAFE latch and the form of memory. -/

namespace Sys2Proof.Machine

/-! ### What a step holds -/

/-- What the invariants of every step speak of: the life cycle and its key (R322-R324), the SAFE latch and what its exit rule reads
(R297, R300), memory, and host memory as the device has written it. -/
structure Held where
  lc : LcState
  keyFused : Bool
  keyHash : Nat
  latch : Bool
  dies : List DieS
  privs : List PrivS
  persist : Nat
  mem : List Host.Cell
  outs : List (List Host.Cell)

/-- What a state holds. -/
def State.held (s : State) : Held :=
  ⟨s.sys.lc, s.sys.keyFused, s.sys.keyHash, s.thm.safeLatch, s.thm.dies, s.thm.privs, s.thm.persist, s.mem, s.hosts.map HostPort.outMem⟩

/-- The exit rule of SAFE, of what is held (R300). -/
def Held.mayResume (a : Held) : Bool :=
  a.dies.all (fun d => !d.broken && decide (a.persist ≤ d.thr.below)) && (a.privs.take 16).all (fun p => decide (a.persist ≤ p.thr.below))

/-- Nothing is lost from `a` to `b`: the life cycle does not go back, the key is as it was, a SAFE latch that is set stays set, and memory
keeps its form. With `r`, RESUME may act on the way (R300): the latch stays where the exit rule does not hold, and the readings of the
sensors are as they were. -/
structure Held.Le (a : Held) (r : Bool) (b : Held) : Prop where
  lc : a.lc.code ≤ b.lc.code
  keyFused : b.keyFused = a.keyFused
  keyHash : b.keyHash = a.keyHash
  latch : a.latch = true → (r = true → a.mayResume = false) → b.latch = true
  rule : r = true → b.mayResume = a.mayResume
  mem : Mem.wf a.mem = true → Mem.wf b.mem = true
  outs : (∀ m ∈ a.outs, Mem.wf m = true) → ∀ m ∈ b.outs, Mem.wf m = true

@[simp] theorem Held.le_refl (a : Held) (r : Bool) : a.Le r a := ⟨Nat.le_refl _, rfl, rfl, fun h _ => h, fun _ => rfl, id, id⟩

theorem Held.Le.trans {a b c : Held} {r : Bool} (x : a.Le r b) (y : b.Le r c) : a.Le r c :=
  ⟨x.lc.trans y.lc, y.keyFused.trans x.keyFused, y.keyHash.trans x.keyHash,
   fun h hr => y.latch (x.latch h hr) (fun e => (x.rule e).trans (hr e)), fun e => (y.rule e).trans (x.rule e), y.mem ∘ x.mem, y.outs ∘ x.outs⟩

@[simp] theorem Held.eta (a : Held) :
    Held.mk a.lc a.keyFused a.keyHash a.latch a.dies a.privs a.persist a.mem a.outs = a := (rfl)

/-- The fields of what a state holds, read as such. -/
theorem held_views : (∀ s : State, s.sys.lc = s.held.lc) ∧ (∀ s : State, s.sys.keyFused = s.held.keyFused) ∧
    (∀ s : State, s.sys.keyHash = s.held.keyHash) ∧ (∀ s : State, s.thm.safeLatch = s.held.latch) ∧ (∀ s : State, s.thm.dies = s.held.dies) ∧
    (∀ s : State, s.thm.privs = s.held.privs) ∧ (∀ s : State, s.thm.persist = s.held.persist) ∧ (∀ s : State, s.mem = s.held.mem) ∧
    (∀ s : State, s.hosts.map HostPort.outMem = s.held.outs) :=
  ⟨fun _ => rfl, fun _ => rfl, fun _ => rfl, fun _ => rfl, fun _ => rfl, fun _ => rfl, fun _ => rfl, fun _ => rfl, fun _ => rfl⟩

/-- What a state given by its fields holds. -/
@[simp] theorem held_mk (a b y c d e f g h i l j k m n t r u v w) :
    (State.mk a b y c d e f g h i l j k m n t r u v w).held =
      ⟨y.lc, y.keyFused, y.keyHash, t.safeLatch, t.dies, t.privs, t.persist, w, l.map HostPort.outMem⟩ := (rfl)

/-- A change of the member at a place that a view does not see there. -/
theorem map_modAt_at {α β : Type} {g : α → β} {f : α → α} : ∀ {i : Nat} {l : List α}, (∀ x, l[i]? = some x → g (f x) = g x) →
    (modAt f i l).map g = l.map g
  | _, [], _ => by simp [modAt]
  | 0, x :: xs, h => by simp [modAt, h x]
  | i + 1, x :: xs, h => by simp [modAt, map_modAt_at (l := xs) h]

/-- A change of one member that a view does not see. -/
theorem map_modAt {α β : Type} {g : α → β} {f : α → α} (h : ∀ x, g (f x) = g x) (i : Nat) (l : List α) : (modAt f i l).map g = l.map g :=
  map_modAt_at (fun x _ => h x)

/-! ### Ports: no message, notice or completion writes host memory -/

@[simp] theorem fire_outMem (v : Nat) (h : HostPort) : (h.fire v).outMem = h.outMem := by unfold HostPort.fire; split <;> rfl

@[simp] theorem msg_outMem (v : Nat) (h : HostPort) : (h.msg v).outMem = h.outMem := by
  simp [HostPort.msg, apply_ite HostPort.outMem]

@[simp] theorem putNotice_outMem (n : Notice) (h : HostPort) : (h.putNotice n).outMem = h.outMem := by simp [HostPort.putNotice]

@[simp] theorem enqueue_outMem (n : Notice) (h : HostPort) : (h.enqueue n).outMem = h.outMem := by
  simp [HostPort.enqueue, apply_ite HostPort.outMem]

@[simp] theorem notify_outMem (b : Bool) (n : Notice) (h : HostPort) : (h.notify b n).outMem = h.outMem := by
  simp [HostPort.notify, apply_ite HostPort.outMem]

@[simp] theorem flush_outMem : ∀ (k : Nat) (h : HostPort), (HostPort.flush k h).outMem = h.outMem
  | 0, _ => rfl
  | k + 1, h => by
    unfold HostPort.flush
    split
    · rfl
    · rw [flush_outMem k]; simp [HostPort.post]

@[simp] theorem completeSeq_outMem (k c st : Nat) (tag : Word) (d : Nat) (r : List Byte) (h : HostPort) :
    (h.completeSeq k c st tag d r).outMem = h.outMem := by
  unfold HostPort.completeSeq
  split <;> simp

@[simp] theorem hpComplete_outMem (c st : Nat) (tag : Word) (d : Nat) (r : List Byte) (h : HostPort) :
    (h.complete c st tag d r).outMem = h.outMem := completeSeq_outMem ..

theorem startCmd_outMem {c f : Nat} {tag : Word} {h q : HostPort} (e : h.startCmd c f tag = some q) : q.outMem = h.outMem := by
  unfold HostPort.startCmd at e
  split at e
  · cases e
  split at e
  · cases e
  split at e
  · cases e; rfl
  · cases e

/-! ### The system registers: no NVM record touches the life cycle -/

@[simp] theorem sysEnqueue_life (r : NvmRecord) (y : Sys) :
    (y.enqueue r).lc = y.lc ∧ (y.enqueue r).keyFused = y.keyFused ∧ (y.enqueue r).keyHash = y.keyHash := by
  unfold Sys.enqueue; repeat' split
  all_goals exact ⟨rfl, rfl, rfl⟩

@[simp] theorem sysTested_life (y : Sys) : y.tested.lc = y.lc ∧ y.tested.keyFused = y.keyFused ∧ y.tested.keyHash = y.keyHash := by
  unfold Sys.tested; split <;> exact ⟨rfl, rfl, rfl⟩

@[simp] theorem sysNvmWrite_life (r : NvmRecord) (y : Sys) :
    (y.nvmWrite r).lc = y.lc ∧ (y.nvmWrite r).keyFused = y.keyFused ∧ (y.nvmWrite r).keyHash = y.keyHash := by
  unfold Sys.nvmWrite
  dsimp only
  repeat' split
  all_goals simp

/-! ### Folds and choices -/

/-- A fold whose every step holds what was held . -/
@[simp] theorem foldl_held {α : Type} {f : State → α → State} (l : List α) (s : State) (h : ∀ s a, (f s a).held = s.held) :
    (l.foldl f s).held = s.held := foldl_keeps State.held f h l s

/-- A choice of two states holds what the chosen one holds. -/
@[simp] theorem held_ite {p : Prop} [Decidable p] (a b : State) : (if p then a else b).held = if p then a.held else b.held := apply_ite ..

/-- A choice loses nothing where neither side does. -/
@[simp] theorem le_ite {p : Prop} [Decidable p] {ρ : Bool} {w a b : Held} :
    w.Le ρ (if p then a else b) ↔ if p then w.Le ρ a else w.Le ρ b := by
  split <;> rfl

/-- A fold whose every step loses nothing. -/
@[simp] theorem foldl_le_of {α : Type} {ρ : Bool} {w : Held} {f : State → α → State} (l : List α) {s : State} (hs : w.Le ρ s.held)
    (h : ∀ (s : State) (a : α), s.held.Le ρ (f s a).held) : w.Le ρ (l.foldl f s).held :=
  foldl_holds (fun t => w.Le ρ t.held) f (fun t a ht => ht.trans (h t a)) l s hs

/-- The same, as a fold step by step keeps it. -/
theorem foldl_le {α : Type} {ρ : Bool} {w : Held} {f : State → α → State} (h : ∀ (s : State) (a : α), w.Le ρ s.held → w.Le ρ (f s a).held) (l : List α) {s : State}
    (hs : w.Le ρ s.held) : w.Le ρ (l.foldl f s).held := foldl_holds (fun t => w.Le ρ t.held) f h l s hs

/-! ### The shared operations -/

/-- A port changed in what host memory does not see. -/
@[simp] theorem modHost_held {p : Nat} {f : HostPort → HostPort} (h : ∀ q, (f q).outMem = q.outMem) (s : State) :
    (s.modHost p f).held = s.held := by
  simp [State.modHost, held_views, map_modAt h]

@[simp] theorem notify_held (p k : Nat) (x b : List Byte) (s : State) : (s.notify p k x b).held = s.held := modHost_held (by simp) s
@[simp] theorem complete_held (p c st : Nat) (tag : Word) (d : Nat) (r : List Byte) (s : State) :
    (s.complete p c st tag d r).held = s.held := modHost_held (by simp) s
@[simp] theorem completeSeq_held (p k c st : Nat) (tag : Word) (d : Nat) (r : List Byte) (s : State) :
    (s.completeSeq p k c st tag d r).held = s.held := modHost_held (by simp) s
@[simp] theorem statusChanged_held (s : State) : s.statusChanged.held = s.held := by
  simp [State.statusChanged, held_views, Function.comp_def]
@[simp] theorem owesLog_held (k : Nat) (l : List Nat) (b : List Byte) (s : State) : (s.owesLog k l b).held = s.held := by
  rw [owesLog_frame]; rfl
@[simp] theorem raise_held (k : Nat) (o : Option Nat) (s : State) : (s.raise k o).held = s.held := (rfl)
@[simp] theorem either_held (s : State) : s.either.2.held = s.held := (rfl)
@[simp] theorem raiseClu_held (k c : Nat) (s : State) : (s.raiseClu k c).held = s.held := by
  unfold State.raiseClu
  dsimp only
  split
  · rfl
  · simp [held_views]
@[simp] theorem nvmWrite_held (r : NvmRecord) (s : State) : (s.nvmWrite r).held = s.held := by simp [State.nvmWrite, held_views]
@[simp] theorem notifyAll_held (k : Nat) (b : List Byte) (s : State) : (s.notifyAll k b).held = s.held := by simp [State.notifyAll]
@[simp] theorem setMode_held (m : Mode) (s : State) : (s.setMode m).held = s.held := by simp [State.setMode, held_views]
@[simp] theorem showMode_held (m : Mode) (s : State) : (s.showMode m).held = s.held := by simp [State.showMode, held_views]

/-! ### Memory: what is written keeps its form -/

/-- Other memory in canonical form in place of what was held. -/
theorem le_mem {ρ : Bool} {w a : Held} {m : List Host.Cell} (h : w.Le ρ a) (keeps : Mem.wf a.mem = true → Mem.wf m = true) :
    w.Le ρ ⟨a.lc, a.keyFused, a.keyHash, a.latch, a.dies, a.privs, a.persist, m, a.outs⟩ := ⟨h.lc, h.keyFused, h.keyHash, h.latch, h.rule, keeps ∘ h.mem, h.outs⟩

@[simp] theorem le_writeN {ρ : Bool} {w a : Held} {x : Nat} {b : List Byte} (h : w.Le ρ a) :
    w.Le ρ ⟨a.lc, a.keyFused, a.keyHash, a.latch, a.dies, a.privs, a.persist, Mem.writeN a.mem x b, a.outs⟩ := le_mem h writeN_wf

@[simp] theorem le_clear {ρ : Bool} {w a : Held} {p : Nat → Bool} (h : w.Le ρ a) :
    w.Le ρ ⟨a.lc, a.keyFused, a.keyHash, a.latch, a.dies, a.privs, a.persist, Mem.clear p a.mem, a.outs⟩ := le_mem h clear_wf

@[simp] theorem cutPiece_le (m n : Nat) (s : State) {ρ : Bool} {w : Held} (h : w.Le ρ s.held) : w.Le ρ (s.cutPiece m n).held := by
  unfold State.cutPiece
  split
  · exact h
  · simp [held_views, h]

@[simp] theorem cutFree_le (m : Nat) (s : State) {ρ : Bool} {w : Held} (h : w.Le ρ s.held) : w.Le ρ (s.cutFree m).held := by
  unfold State.cutFree
  split
  · exact h
  · exact cutPiece_le _ _ _ h

@[simp] theorem dropMaster_le (m : Nat) (s : State) {ρ : Bool} {w : Held} (h : w.Le ρ s.held) : w.Le ρ (s.dropMaster m).held := by
  simp [State.dropMaster, held_views, h]

/-! ### The counters -/

@[simp] theorem ticks_held (k : Nat) (s : State) : (ticks k s).held = s.held := by rw [ticks_frame]; rfl
@[simp] theorem advanceFor_held (k d : Nat) (s : State) : (advanceFor k d s).held = s.held := by rw [advanceFor_frame]; rfl
@[simp] theorem advanceTo_held (x : Int) (s : State) : (advanceTo x s).held = s.held := advanceFor_held ..
@[simp] theorem idle_held (s : State) : (idle s).held = s.held := by simp [idle]
theorem reach_held {w : Nat} {x : Int} {s t : State} (h : reach w x s = some t) : t.held = s.held := by rw [reach_frame h]; rfl

/-! ### The recorder -/

@[simp] theorem modRing_held (i k : Nat) (f : Ring → Ring) (s : State) : (s.modRing i k f).held = s.held := (rfl)

@[simp] theorem ringPut_le (i k : Nat) (b : List Byte) (s : State) {ρ : Bool} {w : Held} (h : w.Le ρ s.held) :
    w.Le ρ (s.ringPut i k b).held := by
  rw [ringPut_frame]; exact le_mem h ringPut_wf

@[simp] theorem refreshHeader_le (i : Nat) (s : State) {ρ : Bool} {w : Held} (h : w.Le ρ s.held) : w.Le ρ (s.refreshHeader i).held := by
  rw [refreshHeader_frame]; exact le_mem h refreshHeader_wf

@[simp] theorem refreshAll_le (s : State) {ρ : Bool} {w : Held} (h : w.Le ρ s.held) : w.Le ρ s.refreshAll.held := 
  foldl_le (fun _ _ h => refreshHeader_le _ _ h) _ h

@[simp] theorem logTo_le (k : Nat) (l : List Nat) (p : Stamp) (b : List Byte) (s : State) {ρ : Bool} {w : Held} (h : w.Le ρ s.held) :
    w.Le ρ (s.logTo k l p b).held := by
  rw [logTo_frame]; exact le_mem h logTo_wf

@[simp] theorem markRings_held (l : List Nat) (s : State) : (s.markRings l).held = s.held := by simp [State.markRings]
@[simp] theorem logMark_le (l : List Nat) (v : Word) (k : Nat) (s : State) {ρ : Bool} {w : Held} (h : w.Le ρ s.held) :
    w.Le ρ (s.logMark l v k).held := by
  simp [State.logMark, h]
@[simp] theorem recQos_held (s : State) : s.recQos.held = s.held := by simp [State.recQos, held_views]
@[simp] theorem freeze_le (s : State) {ρ : Bool} {w : Held} (h : w.Le ρ s.held) : w.Le ρ s.freeze.held := by
  unfold State.freeze
  split
  · exact h
  split
  · exact h
  · exact logTo_le _ _ _ _ _ (by simp [held_views, h])
@[simp] theorem release_le (s : State) {ρ : Bool} {w : Held} (h : w.Le ρ s.held) : w.Le ρ s.release.held := by
  unfold State.release
  split
  · exact h
  split
  · exact h
  · exact logTo_le _ _ _ _ _ h
@[simp] theorem ddrChannelFail_le (ch : Nat) (s : State) {ρ : Bool} {w : Held} (h : w.Le ρ s.held) : w.Le ρ (ddrChannelFail ch s).held := by
  simp [ddrChannelFail, held_views, h]
@[simp] theorem recPieceFail_le (ch : Nat) (s : State) {ρ : Bool} {w : Held} (h : w.Le ρ s.held) : w.Le ρ (s.recPieceFail ch).held := by
  simp [State.recPieceFail, held_views, h]
@[simp] theorem gapDue_held (i k n : Nat) (s : State) : (s.gapDue i k n).held = s.held := by simp [State.gapDue, held_views]
@[simp] theorem loseBlock_held (i k : Nat) (s : State) : (s.loseBlock i k).held = s.held := by simp [State.loseBlock]
@[simp] theorem stageBlock_held (p : Stamp) (i k : Nat) (l : List (List Byte)) (s : State) : (s.stageBlock p i k l).held = s.held := (rfl)

/-! ### Clusters, cells, drives, sources -/

@[simp] theorem modClu_held (c : Nat) (f : Cluster → Cluster) (s : State) : (s.modClu c f).held = s.held := (rfl)

@[simp] theorem mapClu_held (f : Nat → Cluster → Cluster) (s : State) : (s.mapClu f).held = s.held := (rfl)

@[simp] theorem modCell_held (n : Nat) (f : Cell → Cell) (s : State) : (s.modCell n f).held = s.held := (rfl)

@[simp] theorem modSpare_held (r : Nat) (f : Spare → Spare) (s : State) : (s.modSpare r f).held = s.held := (rfl)

@[simp] theorem modIsland_held (r : Nat) (f : Island → Island) (s : State) : (s.modIsland r f).held = s.held := (rfl)

@[simp] theorem efcWrite_held (code : Nat) (s : State) : (s.efcWrite code).held = s.held := (rfl)

@[simp] theorem raiseEpoch_held (src : Nat) (insts : List Nat) (s : State) : (s.raiseEpoch src insts).held = s.held := (rfl)

@[simp] theorem eraAuto_held (s : State) : (eraAuto s).held = s.held := by
  simp [eraAuto, held_views]

@[simp] theorem wrapWns_held (s : State) : (wrapWns s).held = s.held := by
  simp [wrapWns, held_views]

@[simp] theorem wrapSph_held (s : State) : (wrapSph s).held = s.held := by
  simp [wrapSph, held_views]

@[simp] theorem capRenew_held (a b : Nat) (s : State) : (capRenew a b s).held = s.held := by
  simp [capRenew, held_views]

/-! ### Rearrangement: the operations -/

@[simp] theorem modEp_held (x : Nat) (g : Epoch → Epoch) (s : State) : (s.modEp x g).held = s.held := (rfl)

@[simp] theorem modSlotOf_held (x : Nat) (g : FabSlot → FabSlot) (s : State) : (s.modSlotOf x g).held = s.held := (rfl)

@[simp] theorem settle_held (x status detail : Nat) (result : List Byte) (s : State) : (s.settle x status detail result).held = s.held := by
  unfold State.settle
  split <;> simp [*]

@[simp] theorem postReport_le (e : Epoch) (s : State) {ρ : Bool} {w : Held} (hw : w.Le ρ s.held) : w.Le ρ (s.postReport e).held := by
  unfold State.postReport
  dsimp only
  repeat' split
  all_goals simp [*]

@[simp] theorem shadowWrite_held (x : Nat) (t : CellTgt) (s : State) : (s.shadowWrite x t).held = s.held := by
  unfold State.shadowWrite
  split <;> simp [held_views, *]

@[simp] theorem giveSlot_held (e : Epoch) (s : State) : (s.giveSlot e).held = s.held := by
  unfold State.giveSlot
  split <;> simp [held_views, *]

@[simp] theorem startEp_held (x : Nat) (s : State) : (s.startEp x).held = s.held := by
  unfold State.startEp
  repeat' split
  all_goals simp [held_views, *]

@[simp] theorem letEpochIn_held (e : Epoch) (s : State) : (s.letEpochIn e).held = s.held := by
  simp [State.letEpochIn]

@[simp] theorem wake_held (s : State) : s.wake.held = s.held := by
  unfold State.wake
  split <;> simp [held_views, *]

@[simp] theorem freeEp_held (x : Nat) (s : State) : (s.freeEp x).held = s.held := by
  simp [State.freeEp, held_views]

@[simp] theorem allocate_held (inst host : Nat) (s : State) : (s.allocate inst host).2.held = s.held := (rfl)

@[simp] theorem finishEp_le (x : Nat) (s : State) {ρ : Bool} {w : Held} (hw : w.Le ρ s.held) : w.Le ρ (s.finishEp x).held := by
  unfold State.finishEp
  split <;> simp [*]

@[simp] theorem endEp_le (x : Nat) (how : EpStatus) (s : State) {ρ : Bool} {w : Held} (hw : w.Le ρ s.held) :
    w.Le ρ (s.endEp x how).held := by
  unfold State.endEp
  split <;> simp [held_views, *]

@[simp] theorem endAll_le (p : Epoch → Bool) (how : EpStatus) (s : State) {ρ : Bool} {w : Held} (hw : w.Le ρ s.held) :
    w.Le ρ (s.endAll p how).held :=
  foldl_le (fun _ _ h => endEp_le _ _ _ h) _ hw

@[simp] theorem cancelPending_le (s : State) {ρ : Bool} {w : Held} (hw : w.Le ρ s.held) : w.Le ρ s.cancelPending.held := by
  simp [State.cancelPending, hw]

@[simp] theorem except_held (x : Nat) (q : Exc) (s : State) : (s.except x q).held = s.held := (rfl)

@[simp] theorem endHand_held (n : Nat) (s : State) : (s.endHand n).held = s.held := (rfl)

@[simp] theorem raiseDone_held (at_ : ℤ) (inst : Nat) (s : State) : (s.raiseDone at_ inst).held = s.held := (rfl)

@[simp] theorem closeEp_held (x : Nat) (how : EpStatus) (at_ : ℤ) (s : State) : (s.closeEp x how at_).held = s.held := by
  unfold State.closeEp
  split <;> simp [held_views, *]

@[simp] theorem closeDone_held (at_ : ℤ) (s : State) : (s.closeDone at_).held = s.held := by
  simp [State.closeDone]

@[simp] theorem retryMoves_held (inst : Nat) (s : State) : (s.retryMoves inst).held = s.held := (rfl)

@[simp] theorem cluChanged_held (c : Nat) (s : State) : (s.cluChanged c).held = s.held := (rfl)

@[simp] theorem settleOk_held (x : Nat) (s : State) : (s.settleOk x).held = s.held := by
  unfold State.settleOk
  split <;> simp [*]

@[simp] theorem establish_held (e : Epoch) (s : State) : (s.establish e).held = s.held := (rfl)

@[simp] theorem followOn_held (x : Nat) (s : State) : (s.followOn x).held = s.held := by
  unfold State.followOn
  split <;> simp [*]

@[simp] theorem solvedLate_held (x : Nat) (s : State) : (s.solvedLate x).held = s.held := by
  unfold State.solvedLate
  split <;> simp [*]

@[simp] theorem followAll_held (s : State) : s.followAll.held = s.held := by
  simp [State.followAll]

@[simp] theorem placeEvent_held (x : Nat) (s : State) : (s.placeEvent x).held = s.held := by
  unfold State.placeEvent
  repeat' split
  all_goals simp [*]

@[simp] theorem takeSolution_held (e : Epoch) (s : State) : (s.takeSolution e).held = s.held := by
  simp [State.takeSolution]

@[simp] theorem rewrite_held (old : List CellTgt) (e : Epoch) (s : State) : (s.rewrite old e).held = s.held := by
  simp [State.rewrite]

@[simp] theorem stepPassed_held (old new : Int) (s : State) : (s.stepPassed old new).held = s.held :=
  foldl_keeps State.held _ (fun t x => by dsimp only; split <;> simp) _ s

@[simp] theorem reply_held (h : Hdr) (code status detail : Nat) (result : List Byte) (s : State) :
    (s.reply h code status detail result).held = s.held := by
  simp [State.reply]

theorem startCmd_held {h : Hdr} {code : Nat} {s t : State} (e : s.startCmd h code = some t) : t.held = s.held := by
  obtain ⟨p, hp, rfl⟩ := Option.map_eq_some_iff.1 e
  have out := startCmd_outMem hp
  have ports : (modAt (fun _ => p) h.port.val s.hosts).map HostPort.outMem = s.hosts.map HostPort.outMem :=
    map_modAt_at (fun x hx => by rw [out]; simp [State.hport, List.getD_eq_getElem?_getD, hx])
  simp [State.modHost, held_views, ports]

/-- A command loses nothing where its own act loses nothing. -/
theorem run_le {c : CmdSpec} {h : Hdr} {act : State → State} {s : State} {ρ : Bool} {w : Held} (ha : ∀ t, w.Le ρ t.held → w.Le ρ (act t).held)
    (hw : w.Le ρ s.held) : w.Le ρ (c.run h act s).held := by
  unfold CmdSpec.run
  split
  · exact hw
  split
  · exact hw
  · rename_i turn
    rw [← startCmd_held turn] at hw
    split
    · simpa using hw
    · exact ha _ hw

/-- A command holds what was held where its own act does. -/
theorem run_held {c : CmdSpec} {h : Hdr} {act : State → State} {s : State} (ha : ∀ t, (act t).held = t.held) :
    (c.run h act s).held = s.held := by
  unfold CmdSpec.run
  split
  · rfl
  split
  · rfl
  · rename_i turn
    rw [← startCmd_held turn]
    split
    · simp
    · exact ha _

/-! ### Rearrangement, power domains and boundaries -/

@[simp] theorem singleChange_le (h : Hdr) (code inst : Nat) (c : PlanChange) (t : MailTime) (p p2 : Nat) (s : State) {ρ : Bool} {w : Held}
    (hw : w.Le ρ s.held) : w.Le ρ (singleChange h code inst c t p p2 s).held := by
  unfold singleChange
  split
  · simpa using hw
  split
  · simpa using hw
  split
  · simpa using hw
  dsimp only
  split <;> simp [hw]

@[simp] theorem openPlan_held (h : Hdr) (inst : Nat) (s : State) : (openPlan h inst s).held = s.held := by
  simp [openPlan]

@[simp] theorem addChanges_held (h : Hdr) (epoch : Nat) (changes : List PlanChange) (s : State) :
    (addChanges h epoch changes s).held = s.held := by
  unfold addChanges
  split
  · simp
  split
  · simp
  split <;> simp

@[simp] theorem commitPlan_held (h : Hdr) (epoch channel : Nat) (t : MailTime) (s : State) :
    (commitPlan h epoch channel t s).held = s.held := by
  unfold commitPlan
  split
  · simp
  split
  · simp
  split
  · simp
  split <;> simp

@[simp] theorem abortPlan_le (h : Hdr) (epoch : Nat) (s : State) {ρ : Bool} {w : Held} (hw : w.Le ρ s.held) :
    w.Le ρ (abortPlan h epoch s).held := by
  unfold abortPlan
  split
  · simpa using hw
  split <;> simp [hw]

@[simp] theorem takeItem_held (s : State) : (takeItem s).held = s.held := by
  unfold takeItem
  repeat' split
  all_goals simp [held_views, *]

@[simp] theorem moveFailed_held (e : Epoch) (s : State) : (s.moveFailed e).held = s.held := by
  unfold State.moveFailed
  split <;> simp [held_views, *]

@[simp] theorem keepStaged_held (e : Epoch) (s : State) : (s.keepStaged e).held = s.held := by simp [State.keepStaged]

@[simp] theorem solveFailed_le (e : Epoch) (q : Nat × Nat × List Byte) (s : State) {ρ : Bool} {w : Held} (hw : w.Le ρ s.held) :
    w.Le ρ (solveFailed e q s).held := by
  unfold solveFailed
  dsimp only
  split
  · simpa using hw
  split
  · exact endEp_le _ _ _ (by simpa using hw)
  · simpa using hw

@[simp] theorem solveDone_le (s : State) {ρ : Bool} {w : Held} (hw : w.Le ρ s.held) : w.Le ρ (solveDone s).held := by
  unfold solveDone
  split
  · exact hw
  dsimp only
  split
  · exact hw
  split
  · exact hw
  split <;> simp [held_views, hw]

@[simp] theorem loadCommitAt_held (i : Nat) (s : State) : (loadCommitAt i s).held = s.held := by
  unfold loadCommitAt
  split
  · rfl
  split <;> simp

@[simp] theorem sealEpoch_held (i : Nat) (s : State) : (sealEpoch i s).held = s.held := by
  unfold sealEpoch
  split
  · rfl
  split
  · rfl
  split
  · rfl
  split
  · rfl
  · simp [held_views, reach_held ‹_›]

@[simp] theorem supersede_held (n : Nat) (s : State) : (s.supersede n).held = s.held := by
  unfold State.supersede
  split <;> simp

@[simp] theorem goLive_held (e : Epoch) (t : CellTgt) (s : State) : (s.goLive e t).held = s.held := by
  unfold State.goLive
  dsimp only
  split <;> simp

@[simp] theorem commitOne_held (p : Stamp) (e : Epoch) (s : State) : (s.commitOne p e).held = s.held := by
  simp [State.commitOne, held_views]

@[simp] theorem splice_held (at_ : Int) : ∀ (k : Nat) (s : State), (splice at_ k s).held = s.held
  | 0, _ => rfl
  | k + 1, s => by
    unfold splice
    split
    · rfl
    · simp [splice_held at_ k]

@[simp] theorem commitAt_held (b : Int) (es : List Epoch) (s : State) : (commitAt b es s).held = s.held := by
  simp [commitAt, held_views]

@[simp] theorem epochCommit_held (s : State) : (epochCommit s).held = s.held := by
  unfold epochCommit
  split
  · rfl
  split
  · rfl
  · simp [reach_held ‹_›]

@[simp] theorem expireEpoch_held (i : Nat) (s : State) : (expireEpoch i s).held = s.held := by
  unfold expireEpoch
  split
  · rfl
  split
  · rfl
  split
  · rfl
  split
  · rfl
  · simp [reach_held ‹_›]

@[simp] theorem writeReport_le (i : Nat) (s : State) {ρ : Bool} {w : Held} (hw : w.Le ρ s.held) : w.Le ρ (writeReport i s).held := by
  unfold writeReport
  split
  · exact hw
  · simp [hw]

@[simp] theorem writeEpCtrl_le (i : Nat) (v : Word) (s : State) {ρ : Bool} {w : Held} (hw : w.Le ρ s.held) :
    w.Le ρ (writeEpCtrl i v s).held := by
  unfold writeEpCtrl
  dsimp only
  split
  · exact hw
  split
  · simp [held_views, hw]
  · simp [hw]

@[simp] theorem cellsChanged_held (n : Nat) (s : State) : (s.cellsChanged n).held = s.held := (rfl)

@[simp] theorem allowMove_held (inst : Nat) (s : State) : (allowMove inst s).held = s.held := by
  unfold allowMove
  dsimp only
  split
  · rfl
  split <;> simp

@[simp] theorem cluUp_held (c : Nat) (sarCal : List (List Nat)) (s : State) : (s.cluUp c sarCal).held = s.held := by
  unfold State.cluUp
  simp only [cluChanged_held, held_ite, modSpare_held, modClu_held, ite_self]

@[simp] theorem forgetEnables_held (s : State) : s.forgetEnables.held = s.held := (rfl)

@[simp] theorem setReason_held (n r : Nat) (s : State) : (s.setReason n r).held = s.held := by
  simp [State.setReason, held_views]

@[simp] theorem noteRetiring_held (c : Nat) (old : Cluster) (s : State) : (s.noteRetiring c old).held = s.held := by
  simp [State.noteRetiring]

@[simp] theorem raiseLoop_held (ev : LoopEv) (c : Nat) (s : State) : (s.raiseLoop ev c).held = s.held := by
  unfold State.raiseLoop
  split <;> simp [*]

@[simp] theorem loopEvents_held (c : Nat) (old : Cluster) (s : State) : (s.loopEvents c old).held = s.held := by
  simp [State.loopEvents]

@[simp] theorem handStep_held (d : Int) (n : Nat) (s : State) : (s.handStep d n).held = s.held := by
  unfold State.handStep
  dsimp only
  split
  · rfl
  split <;> simp

@[simp] theorem handAll_held (d : Int) (c : Nat) (s : State) : (s.handAll d c).held = s.held := by
  rw [State.handAll, closeDone_held]
  exact foldl_keeps State.held _ (fun t k => handStep_held _ _ t) _ s

@[simp] theorem failEngine_held (c : Nat) (s : State) : (s.failEngine c).held = s.held := by
  simp [State.failEngine]

@[simp] theorem stopSpare_held (r : Nat) (s : State) : (s.stopSpare r).held = s.held := by
  simp [State.stopSpare]

@[simp] theorem stopSpares_held (s : State) : s.stopSpares.held = s.held := by
  simp [State.stopSpares]

@[simp] theorem beginDown_held (c : Nat) (s : State) : (s.beginDown c).held = s.held := by simp [State.beginDown]

@[simp] theorem spareStep_held (c : Nat) (d : ℤ) (f : Finish) (s : State) : (s.spareStep c d f).held = s.held := by
  unfold State.spareStep
  dsimp only
  repeat' split
  all_goals simp [*]

@[simp] theorem recLatch_held (c : Nat) (d : ℤ) (s : State) : (s.recLatch c d).held = s.held := by
  simp [State.recLatch, held_views]

/-! ### The loops -/

@[simp] theorem cenWatch_held (c : Nat) (d : ℤ) (s : State) : (s.cenWatch c d).held = s.held := by
  unfold State.cenWatch
  dsimp only
  repeat' split
  all_goals simp [held_views, *]

@[simp] theorem boundary_held (c : Nat) (inputs : List RawInput) (sarCodes : List Nat) (s0 : State) :
    (boundary c inputs sarCodes s0).held = s0.held := by
  unfold boundary
  split
  · rfl
  dsimp only
  split
  · rfl
  · simp [reach_held ‹_›]

@[simp] theorem completePeriod_held (c corrected slack : Nat) (pads : List PadSense) (s : State) :
    (completePeriod c corrected slack pads s).held = s.held := by
  simp [completePeriod]

@[simp] theorem residueFault_held (c : Nat) (s : State) : (residueFault c s).held = s.held := by
  simp [residueFault]

@[simp] theorem loopPeriod_held (c : Nat) (chk : EngineCheck) (slack : Nat) (pads : List PadSense) (s : State) :
    (loopPeriod c chk slack pads s).held = s.held := by
  unfold loopPeriod
  split <;> simp [*]

@[simp] theorem darkDetect_held (n : Nat) (s : State) : (darkDetect n s).held = s.held := by
  simp [darkDetect]

@[simp] theorem litDetect_held (n : Nat) (s : State) : (litDetect n s).held = s.held := by
  simp [litDetect]

@[simp] theorem frozenRun_held (n : Nat) (s : State) : (frozenRun n s).held = s.held := by
  simp [frozenRun]

@[simp] theorem retestEnds_held (n : Nat) (s : State) : (retestEnds n s).held = s.held := by
  simp [retestEnds]

@[simp] theorem pendTimeout_held (n : Nat) (s : State) : (pendTimeout n s).held = s.held := by
  simp [pendTimeout]

@[simp] theorem livenessFail_held (c : Nat) (s : State) : (livenessFail c s).held = s.held := by
  simp [livenessFail]

@[simp] theorem padFault_held (n : Nat) (s : State) : (padFault n s).held = s.held := by
  simp [padFault]

@[simp] theorem queuePrio_held (n : Nat) (s : State) : (s.queuePrio n).held = s.held := by
  simp [State.queuePrio, held_views]

@[simp] theorem ocTrip_held (n : Nat) (s : State) : (ocTrip n s).held = s.held := by
  simp [ocTrip]

@[simp] theorem padCfgWrite_held (n : Nat) (v : Word) (s : State) : (padCfgWrite n v s).held = s.held := by
  simp [padCfgWrite]

@[simp] theorem breakEnd_held (n : Nat) (s0 : State) : (breakEnd n s0).held = s0.held := by
  unfold breakEnd
  split
  · rfl
  split
  · rfl
  · simp [reach_held ‹_›]

@[simp] theorem spareTested_held (r : Nat) (ok : Bool) (s : State) : (spareTested r ok s).held = s.held := by
  simp [spareTested]

@[simp] theorem clusterDown_held (c : Nat) (s : State) : (clusterDown c s).held = s.held := by
  simp [clusterDown]

@[simp] theorem retireAppend_held (kind unit : Nat) (s : State) : (retireAppend kind unit s).held = s.held := by
  simp [retireAppend, held_views]

@[simp] theorem islandInterval_held (r vhtrMv measMa : Nat) (s : State) : (islandInterval r vhtrMv measMa s).held = s.held := by
  simp [islandInterval]

@[simp] theorem budgetStep_held (s : State) : (budgetStep s).held = s.held := (rfl)

/-! ### The time base -/

@[simp] theorem setSrv_held (n : SrvState) (s : State) : (s.setSrv n).held = s.held := by
  simp [State.setSrv, held_views]

@[simp] theorem enterHoldover_held (s : State) : s.enterHoldover.held = s.held := by
  simp [State.enterHoldover]

@[simp] theorem incReload_held (s : State) : (incReload s).held = s.held := (rfl)

@[simp] theorem nsWrap_held (s : State) : (nsWrap s).held = s.held := by
  unfold nsWrap
  split
  · rfl
  · exact reach_held ‹_›

@[simp] theorem eraWrite_held (v : Word) (s : State) : (eraWrite v s).held = s.held := by
  simp [eraWrite, held_views]

@[simp] theorem reachEraAuto_held (s : State) : (reachEraAuto s).held = s.held := by
  unfold reachEraAuto
  split
  · split
    · rfl
    · exact reach_held ‹_›
  · rfl

@[simp] theorem topOfSecond_held (s : State) : (topOfSecond s).held = s.held := by
  unfold topOfSecond
  split
  · rfl
  · exact reach_held ‹_›

@[simp] theorem stepWrite_held (v : Word) (s : State) : (stepWrite v s).held = s.held := by
  simp [stepWrite, held_views]

@[simp] theorem shiftX_held (d : ℤ) (s : State) : (s.shiftX d).held = s.held := (rfl)

@[simp] theorem stepCmps_held (d : ℤ) (old new : Nat) (s : State) : (s.stepCmps d old new).held = s.held := by
  simp [State.stepCmps, held_views]

@[simp] theorem rebaseOrigin_le (s : State) {ρ : Bool} {w : Held} (hw : w.Le ρ s.held) : w.Le ρ s.rebaseOrigin.held := by
  simp [State.rebaseOrigin, held_views, hw]

@[simp] theorem stepApply_le (s : State) {ρ : Bool} {w : Held} (hw : w.Le ρ s.held) : w.Le ρ (stepApply s).held := by
  unfold stepApply
  split
  · exact hw
  split
  · exact hw
  split
  · exact hw
  · rw [← reach_held ‹_›] at hw
    simp [held_views, hw]

@[simp] theorem timeLoad_le (taiS : Nat) (s : State) {ρ : Bool} {w : Held} (hw : w.Le ρ s.held) : w.Le ρ (timeLoad taiS s).held := by
  simp [timeLoad, held_views, hw]

@[simp] theorem modCmp_held (i : Nat) (f : Cmp → Cmp) (s : State) : (s.modCmp i f).held = s.held := (rfl)

@[simp] theorem compareArm_held (i : Nat) (s : State) : (compareArm i s).held = s.held := (rfl)

@[simp] theorem compareFire_held (i : Nat) (s : State) : (compareFire i s).held = s.held := by
  unfold compareFire
  split
  · rfl
  split
  · rfl
  dsimp only
  split
  · rfl
  · simp [reach_held ‹_›]

@[simp] theorem capture_held (i : Nat) (p : Stamp) (origin : Option Nat) (s : State) : (s.capture i p origin).held = s.held := by
  unfold State.capture
  split <;> simp [held_views, *]

@[simp] theorem captureStamp_held (i : Nat) (origin : Option Nat) (s : State) : (captureStamp i origin s).held = s.held := by
  unfold captureStamp
  split <;> simp [held_views, *]

@[simp] theorem setShadow_held (m : Nat) (pair : Pair) (hi : Word) (s : State) : (s.setShadow m pair hi).held = s.held := (rfl)

@[simp] theorem captureRead_held (i : Fin 8) (m : Nat) (s : State) : (captureRead i m s).held = s.held := by
  simp [captureRead, held_views]

@[simp] theorem servoUpdate_held (v : Word) (s : State) : (servoUpdate v s).held = s.held := by
  unfold servoUpdate
  dsimp only
  repeat' split
  all_goals simp [held_views, *]

@[simp] theorem ppsFeed_held (p : Stamp) (s : State) : (s.ppsFeed p).held = s.held := by
  simp [State.ppsFeed, held_views]

@[simp] theorem ppsQualify_held (p : Stamp) (s : State) : (ppsQualify p s).held = s.held := by
  simp [ppsQualify]

@[simp] theorem ppsWait_held (s : State) : s.ppsWait.held = s.held := by
  unfold State.ppsWait
  split
  · rfl
  · rename_i x _
    cases h : reach 1000 (x + 100) s with
    | none => rfl
    | some t => exact reach_held h

@[simp] theorem ppsQualified_held (highNs : Nat) (s : State) : (ppsQualified highNs s).held = s.held := by
  unfold ppsQualified
  split <;> simp [held_views, *]

@[simp] theorem ppsOutRise_held (s : State) : (ppsOutRise s).held = s.held := by
  unfold ppsOutRise
  split
  · rfl
  · simp [held_views, reach_held ‹_›]

@[simp] theorem ppsOutFall_held (s : State) : (ppsOutFall s).held = s.held := by
  unfold ppsOutFall
  split
  · rfl
  split
  · rfl
  split
  · rfl
  · simp [held_views, reach_held ‹_›]

@[simp] theorem servoStateWrite_held (v : Word) (s : State) : (servoStateWrite v s).held = s.held := by
  unfold servoStateWrite
  split <;> simp [*]

@[simp] theorem referenceReturn_held (freq : Nat) (s : State) : (referenceReturn freq s).held = s.held := by
  simp [referenceReturn, held_views]

@[simp] theorem ftLearn_held (s : State) : (ftLearn s).held = s.held := by
  simp [ftLearn, held_views]

@[simp] theorem ftSave_held (s : State) : (ftSave s).held = s.held := by
  simp [ftSave, held_views]

@[simp] theorem driftUpdate_held (s : State) : (driftUpdate s).held = s.held := by
  simp [driftUpdate, held_views]

@[simp] theorem syntGate_held (count : Word) (s : State) : (syntGate count s).held = s.held := by
  simp [syntGate, held_views]

@[simp] theorem efcUpdate_held (s : State) : (efcUpdate s).held = s.held := by
  simp [efcUpdate]

/-! ### Network paths, the recorder's commands and the converters' operations -/

@[simp] theorem modNet_held (f : Net → Net) (s : State) : (s.modNet f).held = s.held := (rfl)

@[simp] theorem finZero_held (s : State) : s.finZero.held = s.held := by
  simp [State.finZero, held_views]

@[simp] theorem linkDown_held (p : Bool) (s : State) : (s.linkDown p).held = s.held := by
  unfold State.linkDown
  split <;> simp [*]

@[simp] theorem netDown_le (p : Bool) (s : State) {ρ : Bool} {w : Held} (hw : w.Le ρ s.held) : w.Le ρ (s.netDown p).held := by
  have down : w.Le ρ (s.modNet (Net.down p)).held := by simpa using hw
  have drop : ∀ m, w.Le ρ ((s.modNet (Net.down p)).dropMaster m).held := fun m => dropMaster_le m _ down
  have step : w.Le ρ (if (s.net.port p).pow = .off then s.modNet (Net.down p)
      else (s.modNet (Net.down p)).dropMaster (if p then 8 else 7)).held := by
    split
    · exact down
    · exact drop _
  unfold State.netDown
  dsimp only
  split
  · rw [linkDown_held]
    exact step
  · exact step

@[simp] theorem netUp_held (p : Bool) (s : State) : (s.netUp p).held = s.held := (rfl)

@[simp] theorem netStart_held (s : State) : s.netStart.held = s.held := by
  simp [State.netStart]

@[simp] theorem sendFrame_held (s : State) : s.sendFrame.held = s.held := (rfl)

@[simp] theorem hello_held (s : State) : s.hello.held = s.held := by
  unfold State.hello
  dsimp only
  repeat' split
  all_goals simp [*]

@[simp] theorem failoverFirmware_held (s : State) : s.failoverFirmware.held = s.held := by
  simp [State.failoverFirmware]

@[simp] theorem startFailover_held (cause : Nat) (auto : Bool) (origin : Option Nat) (s : State) :
    (s.startFailover cause auto origin).held = s.held := by
  simp [State.startFailover, held_views]

@[simp] theorem failTrigger_held (cause : Nat) (auto : Bool) (origin : Option Nat) (s : State) :
    (s.failTrigger cause auto origin).held = s.held := by
  simp [State.failTrigger]

@[simp] theorem standingCheck_held (s : State) : s.standingCheck.held = s.held := by
  simp [State.standingCheck]

@[simp] theorem completeFailover_held (s : State) : s.completeFailover.held = s.held := by
  simp [State.completeFailover]

@[simp] theorem pathWrite_held (v : Word) (s : State) : (s.pathWrite v).held = s.held := by
  simp [State.pathWrite]

@[simp] theorem modChan_held (ch : Nat) (f : Chan → Chan) (s : State) : (s.modChan ch f).held = s.held := (rfl)

@[simp] theorem modCon_held (x : Nat) (f : Con → Con) (s : State) : (s.modCon x f).held = s.held := (rfl)

@[simp] theorem chanOff_held (ch : Nat) (s : State) : (s.chanOff ch).held = s.held := (rfl)

@[simp] theorem forward_held (ch origin : Nat) (s : State) : (s.forward ch origin).held = s.held := by
  unfold State.forward
  dsimp only
  split
  · rw [modHost_held (by simp)]; rfl
  · rfl

@[simp] theorem trip_held (ch : Nat) (s : State) : (s.trip ch).held = s.held := (rfl)

@[simp] theorem accept_held (ch : Nat) (origin : Option Nat) (s : State) : (s.accept ch origin).held = s.held := by
  simp [State.accept]

@[simp] theorem chanCfgWrite_held (w : Writer) (ch : Nat) (v : Word) (s : State) : (s.chanCfgWrite w ch v).held = s.held := by
  simp [State.chanCfgWrite]

@[simp] theorem trippedClear_held (w : Writer) (ch : Nat) (s : State) : (s.trippedClear w ch).held = s.held := by
  simp [State.trippedClear]

@[simp] theorem evtPortReset_held (h : Nat) (s : State) : (s.evtPortReset h).held = s.held := by
  simp [State.evtPortReset]

@[simp] theorem modPin_held (n : Nat) (f : Gpio → Gpio) (s : State) : (s.modPin n f).held = s.held := (rfl)

@[simp] theorem evtApply_held (s : State) : s.evtApply.held = s.held := (rfl)

@[simp] theorem frozenOut_held (i k : Nat) (s : State) : (s.frozenOut i k).held = s.held := (rfl)

@[simp] theorem drainLatches_held (p : Nat → Bool) (s : State) : (s.drainLatches p).held = s.held := (rfl)

@[simp] theorem skimBlocks_held (b : ℤ) (s : State) : (s.skimBlocks b).held = s.held := by
  simp [State.skimBlocks, held_views]

theorem toSkim_held {s : State} {q : Int × State} (h : s.toSkim = some q) : q.2.held = s.held := by
  unfold State.toSkim at h
  split at h <;>
  · obtain ⟨t, ht, rfl⟩ := Option.map_eq_some_iff.1 h
    simp [held_views, reach_held ht]

@[simp] theorem skimSnapshot_held (s : State) : (skimSnapshot s).held = s.held := by
  unfold skimSnapshot
  split
  · rfl
  split
  · rfl
  · simp [toSkim_held ‹_›]

@[simp] theorem capBlock_held (b : ℤ) (i : Nat) (cells : List Nat) (s : State) : (s.capBlock b i cells).held = s.held := by
  simp [State.capBlock, held_views]

@[simp] theorem captureBlock_held (s : State) : (captureBlock s).held = s.held := by
  unfold captureBlock
  split
  · rfl
  split
  · rfl
  split
  · rfl
  · simp [held_views, reach_held ‹_›]

@[simp] theorem blockWriteDone_le (s : State) {ρ : Bool} {w : Held} (hw : w.Le ρ s.held) : w.Le ρ (blockWriteDone s).held := by
  unfold blockWriteDone
  split <;> simp [held_views, *]

@[simp] theorem logRecordWrite_le (kind : Nat) (insts : List Nat) (value : Word) (s : State) {ρ : Bool} {w : Held} (hw : w.Le ρ s.held) :
    w.Le ρ (logRecordWrite kind insts value s).held := by
  unfold logRecordWrite
  repeat' split
  all_goals simp [held_views, *]

@[simp] theorem modCore_held (n : Nat) (f : HkcCore → HkcCore) (s : State) : (s.modCore n f).held = s.held := (rfl)

@[simp] theorem modHkc_held (f : Hkc → Hkc) (s : State) : (s.modHkc f).held = s.held := (rfl)

@[simp] theorem hkcOvr_held (n : Nat) (s : State) : (s.hkcOvr n).held = s.held := by
  simp [State.hkcOvr]

@[simp] theorem hkcWord_held (n : Nat) (ovr mark abt : Bool) (code : ℤ) (s : State) : (s.hkcWord n ovr mark abt code).held = s.held := by
  simp [State.hkcWord]

@[simp] theorem judgeProbe_held (n : Nat) (d code : ℤ) (ovr : Bool) (s : State) : (s.judgeProbe n d code ovr).held = s.held := (rfl)

@[simp] theorem startPass_held (n : Nat) (origin : Option Nat) (s : State) : (s.startPass n origin).held = s.held := by
  simp [State.startPass]

@[simp] theorem hkcDone_held (n : Nat) (s : State) : (s.hkcDone n).held = s.held := (rfl)

@[simp] theorem contStart_held (n : Nat) (s : State) : (s.contStart n).held = s.held := by
  simp [State.contStart]

@[simp] theorem syscalBegin_held (n : Nat) (resume : Bool) (s : State) : (s.syscalBegin n resume).held = s.held := by
  simp [State.syscalBegin]

@[simp] theorem endPass_held (n : Nat) (s : State) : (s.endPass n).held = s.held := by
  simp [State.endPass]

@[simp] theorem hkcEnable_held (n : Nat) (s : State) : (s.hkcEnable n).held = s.held := by
  simp [State.hkcEnable]

@[simp] theorem startIgn_held (n : Nat) (s : State) : (s.startIgn n).held = s.held := (rfl)

@[simp] theorem startAfter_held (n : Nat) (origin : Option Nat) (s : State) : (s.startAfter n origin).held = s.held := by
  unfold State.startAfter
  split <;> simp [*]

@[simp] theorem swStart_held (n : Nat) (s : State) : (s.swStart n).held = s.held := by
  unfold State.swStart
  dsimp only
  repeat' split
  all_goals simp [*]

@[simp] theorem hkcArrive_held (n origin : Nat) (s : State) : (s.hkcArrive n origin).held = s.held := by
  unfold State.hkcArrive
  dsimp only
  repeat' split
  all_goals simp [*]

@[simp] theorem dropSyscal_held (n : Nat) (s : State) : (s.dropSyscal n).held = s.held := by
  unfold State.dropSyscal
  dsimp only
  repeat' split
  all_goals simp [*]

@[simp] theorem hkcDisable_held (n : Nat) (s : State) : (s.hkcDisable n).held = s.held := by
  simp [State.hkcDisable]

@[simp] theorem fillPlaces_held (s : State) : s.fillPlaces.held = s.held := (rfl)

@[simp] theorem heaterJudged_held (n : Nat) (s : State) : (s.heaterJudged n).held = s.held := by
  simp [State.heaterJudged]

@[simp] theorem censusTo_held (n r : Nat) (s : State) : (s.censusTo n r).held = s.held := by
  unfold State.censusTo
  split <;> simp [*]

@[simp] theorem censusDefer_held (p : Place) (s : State) : (s.censusDefer p).held = s.held := (rfl)

@[simp] theorem censusSlot_held (h vUv iNa : Nat) (ovr : Bool) (s : State) : (s.censusSlot h vUv iNa ovr).held = s.held := by
  unfold State.censusSlot
  repeat' split
  all_goals simp [held_views, *]

@[simp] theorem cenStart_held (h : Nat) (s : State) : (s.cenStart h).held = s.held := by
  unfold State.cenStart
  split <;> simp [*]

@[simp] theorem startRound_held (s : State) : s.startRound.held = s.held := by
  simp [State.startRound]

@[simp] theorem freeInt_held (s : State) : s.freeInt.2.held = s.held := (rfl)

@[simp] theorem slotResult_held (k : Nat) (raw val : Int) (ovr : Bool) (s : State) : (s.slotResult k raw val ovr).held = s.held := by
  unfold State.slotResult
  dsimp only
  split
  · simp
  split
  · split <;> simp
  split
  · split
    · simp
    · split
      · simp
      · split <;> simp
  split <;> simp

@[simp] theorem dropFrame_held (s : State) : s.dropFrame.held = s.held := by
  simp [State.dropFrame]

theorem receive_held (f : PtpFrame) {handle : State → State} (h : ∀ t, (handle t).held = t.held) (s : State) :
    (s.receive f handle).held = s.held := by
  simp [State.receive, h]

theorem receive_le (f : PtpFrame) {handle : State → State} {ρ : Bool} {w : Held} (h : ∀ t, w.Le ρ t.held → w.Le ρ (handle t).held) (s : State)
    (hw : w.Le ρ s.held) : w.Le ρ (s.receive f handle).held := by
  unfold State.receive
  split
  · exact hw
  split
  · exact h s hw
  · simpa using hw

@[simp] theorem pairUp_held (s : State) : s.pairUp.held = s.held := by
  unfold State.pairUp
  split <;> simp [*]

@[simp] theorem ptpSync_held (m seq : Nat) (twoStep : Bool) (origin : MailTime) (corr : ℤ) (s : State) :
    (ptpSync m seq twoStep origin corr s).held = s.held := by
  simp [ptpSync]

@[simp] theorem ptpFollowUp_held (m seq : Nat) (origin : MailTime) (corr : ℤ) (s : State) :
    (ptpFollowUp m seq origin corr s).held = s.held := by
  simp [ptpFollowUp]

@[simp] theorem ptpDelayReq_held (s : State) : (ptpDelayReq s).held = s.held := by
  unfold ptpDelayReq
  split <;> simp [*]

@[simp] theorem ptpDelayResp_held (m seq : Nat) (receipt : MailTime) (corr : ℤ) (s : State) :
    (ptpDelayResp m seq receipt corr s).held = s.held := by
  simp [ptpDelayResp]

@[simp] theorem select_held (s : State) : s.select.held = s.held := by
  unfold State.select
  split <;> simp [*]

@[simp] theorem rateCheck_held (s : State) : s.rateCheck.held = s.held := by
  simp [State.rateCheck, held_views]

@[simp] theorem judge_held (a : Announce) (s : State) : (s.judge a).held = s.held := by
  simp [State.judge]

@[simp] theorem ptpAnnounce_held (a : Announce) (s : State) : (ptpAnnounce a s).held = s.held := by
  unfold ptpAnnounce
  dsimp only
  repeat' split
  all_goals simp [*]

@[simp] theorem announceTimeout_held (s : State) : (announceTimeout s).held = s.held := by
  unfold announceTimeout
  split <;> simp [*]

@[simp] theorem arpRequest_held (addr : Nat) (s : State) : (arpRequest addr s).held = s.held := by
  simp [arpRequest]

@[simp] theorem linkChange_held (p up hiBer : Bool) (s : State) : (linkChange p up hiBer s).held = s.held := by
  simp [linkChange]

@[simp] theorem linkLossTrigger_held (s : State) : (linkLossTrigger s).held = s.held := by
  simp [linkLossTrigger]

@[simp] theorem netPathPowered_le (s : State) {ρ : Bool} {w : Held} (hw : w.Le ρ s.held) : w.Le ρ (netPathPowered s).held := by
  unfold netPathPowered
  dsimp only
  split
  · exact hw
  · rw [hello_held, modNet_held]
    exact netDown_le _ _ (by simpa using hw)

@[simp] theorem failingClear_held (s : State) : (failingClear s).held = s.held := by
  simp [failingClear]

@[simp] theorem failoverTimeout_held (s : State) : (failoverTimeout s).held = s.held := by
  unfold failoverTimeout
  split
  · rfl
  split
  · rfl
  · simp [reach_held ‹_›]

@[simp] theorem holddownExpire_held (s : State) : (holddownExpire s).held = s.held := by
  unfold holddownExpire
  split <;> simp [*]

@[simp] theorem snapshotWrite_held (s : State) : (snapshotWrite s).held = s.held := by
  simp [snapshotWrite]

/-! ### Thermal rounds, resets, LOAD and sweeps -/

@[simp] theorem safeEpochs_le (s : State) {ρ : Bool} {w : Held} (hw : w.Le ρ s.held) : w.Le ρ s.safeEpochs.held := by
  simp [State.safeEpochs, held_views, hw]

@[simp] theorem dropModeCmd_held (s : State) : s.dropModeCmd.held = s.held := by
  unfold State.dropModeCmd
  split
  · rfl
  · rw [foldl_held _ _ (by simp)]; rfl

/-- The latch that the SAFE sequence sets is no loss. -/
theorem le_latch {ρ : Bool} {w a : Held} (h : w.Le ρ a) : w.Le ρ { a with latch := true } :=
  ⟨h.lc, h.keyFused, h.keyHash, fun _ _ => rfl, h.rule, h.mem, h.outs⟩

@[simp] theorem enterSafe_le (cause sensor : Nat) (t : Int) (s : State) {ρ : Bool} {w : Held} (hw : w.Le ρ s.held) :
    w.Le ρ (s.enterSafe cause sensor t).held := by
  unfold State.enterSafe
  split
  · exact hw
  dsimp only
  split
  · exact le_latch hw
  · rw [held_mk]
    simp only [held_views, Held.eta, stopSpares_held]
    exact netDown_le _ _ (netDown_le _ _ (safeEpochs_le _ (by simpa [held_views] using le_latch hw)))

@[simp] theorem copyCapsule_held (s : State) : s.copyCapsule.held = s.held := by
  unfold State.copyCapsule
  split <;> simp [held_views, *]

@[simp] theorem driveOff_held (s : State) : s.driveOff.held = s.held := (rfl)

@[simp] theorem shutdownRecord_held (s0 : State) : (shutdownRecord s0).held = s0.held := by
  unfold shutdownRecord
  dsimp only
  repeat' split
  all_goals simp [held_views, *]

@[simp] theorem tailCapsule_held (s : State) : (tailCapsule s).held = s.held := by
  unfold tailCapsule
  dsimp only
  repeat' split
  all_goals simp [held_views, *]

@[simp] theorem rampDone_held (s : State) : (rampDone s).held = s.held := by
  unfold rampDone
  split <;> simp [held_views, *]

/-- What the exit rule of SAFE reads may change where no RESUME acts. -/
@[simp] theorem le_rule {w a : Held} {ds : List DieS} {ps : List PrivS} {n : Nat} (h : w.Le false a) :
    w.Le false ⟨a.lc, a.keyFused, a.keyHash, a.latch, ds, ps, n, a.mem, a.outs⟩ :=
  ⟨h.lc, h.keyFused, h.keyHash, h.latch, fun e => absurd e Bool.false_ne_true, h.mem, h.outs⟩

@[simp] theorem privRound_le (rs : List DieReading) (s : State) {w : Held} (hw : w.Le false s.held) : w.Le false (s.privRound rs).held := by
  simp [State.privRound, held_views, hw]

@[simp] theorem derateAll_held (s : State) : s.derateAll.held = s.held := (rfl)

@[simp] theorem throttleAll_held (s : State) : s.throttleAll.held = s.held := by
  simp [State.throttleAll, held_views]

@[simp] theorem railChecks_held (s : State) : s.railChecks.held = s.held := by
  simp [State.railChecks, held_views]

@[simp] theorem thermalRound_le (rs : List DieReading) (s : State) {w : Held} (hw : w.Le false s.held) :
    w.Le false (thermalRound rs s).held := by
  unfold thermalRound
  dsimp only
  rw [railChecks_held, held_mk]
  simp only [held_views, Held.eta, throttleAll_held, derateAll_held, held_ite, raise_held, ite_self]
  split
  · rw [held_mk]
    simp only [held_views, Held.eta]
    exact privRound_le _ _ (by simp [held_views, hw])
  · refine enterSafe_le _ _ _ _ ?_
    rw [held_mk]
    simp only [held_views, Held.eta]
    exact privRound_le _ _ (by simp [held_views, hw])

@[simp] theorem refEnableWrite_held (s : State) : (refEnableWrite s).held = s.held := by
  simp [refEnableWrite]

@[simp] theorem refReadySet_held (s : State) : (refReadySet s).held = s.held := by
  simp [refReadySet]

@[simp] theorem roundEnd_le (die : List DieReading) (s : State) {w : Held} (hw : w.Le false s.held) : w.Le false (roundEnd die s).held := by
  simp [roundEnd, hw]

@[simp] theorem slotEnd_le (r : SlotReading) (s : State) {w : Held} (hw : w.Le false s.held) : w.Le false (slotEnd r s).held := by
  unfold slotEnd
  simp [hw]

@[simp] theorem conversionDone_held (n : Nat) (raw : ℤ) (ovr : Bool) (s : State) : (conversionDone n raw ovr s).held = s.held := by
  unfold conversionDone
  dsimp only
  repeat' split
  all_goals simp [*]

@[simp] theorem passEnd_held (n : Nat) (probe : ℤ) (ovr : Bool) (s : State) : (passEnd n probe ovr s).held = s.held := by
  simp [passEnd]

@[simp] theorem dischargeEnd_held (n : Nat) (s : State) : (dischargeEnd n s).held = s.held := by
  simp [dischargeEnd]

@[simp] theorem hkcFlush_held (n : Nat) (s : State) : (s.hkcFlush n).held = s.held := (rfl)

@[simp] theorem fifoRead_held (n m : Nat) (s : State) : (s.fifoRead n m).held = s.held := by
  simp [State.fifoRead]

@[simp] theorem prioWrite_held (v : Word) (s : State) : (s.prioWrite v).held = s.held := by
  simp [State.prioWrite]

@[simp] theorem seqChange_held (n : Nat) (f : HkcCore → HkcCore) (s : State) : (s.seqChange n f).held = s.held := by
  simp [State.seqChange]

@[simp] theorem seqWrite_held (n e : Nat) (v : Word) (s : State) : (s.seqWrite n e v).held = s.held := by
  simp [State.seqWrite]

@[simp] theorem captureDone_held (n : Nat) (raws : List ℤ) (ovr : Bool) (s : State) : (captureDone n raws ovr s).held = s.held := by
  unfold captureDone
  split <;> simp [*]

/-- A device reset other than a power-on keeps the life cycle, the key, the latch and memory (R303, R304). -/
@[simp] theorem finishReset_le {k : ResetKind} (hk : k ≠ .powerOn) (s : State) {w : Held} (hw : w.Le false s.held) :
    w.Le false (s.finishReset k).held := by
  refine hw.trans ⟨Nat.le_refl _, rfl, rfl, fun h _ => ?_, fun e => absurd e Bool.false_ne_true, id, ?_⟩
  · have latch : s.thm.safeLatch = true := h
    show (if (decide (k ≠ .powerOn) && s.thm.safeLatch) = true then _ else ({} : Thm)).safeLatch = true
    rw [if_pos (by simp [hk, latch])]
  · show (∀ m ∈ s.hosts.map HostPort.outMem, _) → ∀ m ∈ (s.hosts.map _).map HostPort.outMem, _
    rw [List.map_map]
    exact id

@[simp] theorem beginReset_held (k : ResetKind) (s : State) : (s.beginReset k).held = s.held := by
  simp [State.beginReset, held_views]

/-- The transitions that are asked for from outside do not go back (R322). -/
theorem leaves_code {a b : LcState} (h : a.leaves b = true) : a.code ≤ b.code := by
  revert h
  cases a <;> cases b <;> decide

theorem le_lc {ρ : Bool} {w a : Held} {d : LcState} (h : w.Le ρ a) (up : a.lc.code ≤ d.code) : w.Le ρ { a with lc := d } :=
  ⟨h.lc.trans up, h.keyFused, h.keyHash, h.latch, h.rule, h.mem, h.outs⟩

@[simp] theorem lifeCycle_le (dest : LcState) (s : State) {ρ : Bool} {w : Held} (hw : w.Le ρ s.held) : w.Le ρ (s.lifeCycle dest).held := by
  unfold State.lifeCycle
  split
  · rename_i ok
    rw [beginReset_held]
    exact le_lc hw (leaves_code ok.2.1)
  · exact hw

@[simp] theorem sresetWrite_held (m : Nat) (v : Word) (s : State) : (s.sresetWrite m v).held = s.held := by
  simp [State.sresetWrite, held_views]

@[simp] theorem lcReqWrite_le (m : Nat) (v : Word) (s : State) {ρ : Bool} {w : Held} (hw : w.Le ρ s.held) :
    w.Le ρ (s.lcReqWrite m v).held := by
  unfold State.lcReqWrite
  split
  · exact hw
  · exact lifeCycle_le _ _ hw

@[simp] theorem applyTime_held (s : State) : s.applyTime.held = s.held := (rfl)

@[simp] theorem applyThrm_le (s : State) {w : Held} (hw : w.Le false s.held) : w.Le false s.applyThrm.held := by
  simp [State.applyThrm, held_views, hw]

@[simp] theorem applyHkcv_held (s : State) : s.applyHkcv.held = s.held := (rfl)

theorem map_mapIx {α β : Type} {g : α → β} {f : Nat → α → α} (h : ∀ i x, g (f i x) = g x) :
    ∀ (i : Nat) (l : List α), (mapIx f i l).map g = l.map g
  | _, [] => rfl
  | i, x :: xs => by simp [mapIx, h, map_mapIx h (i + 1) xs]

@[simp] theorem applyMaps_held (s : State) : s.applyMaps.held = s.held := by
  simp [State.applyMaps, held_views, map_mapIx]

@[simp] theorem applyPilots_held (s : State) : s.applyPilots.held = s.held := by
  simp [State.applyPilots, held_views]

@[simp] theorem rebuildOrigin_le (s : State) {ρ : Bool} {w : Held} (hw : w.Le ρ s.held) : w.Le ρ s.rebuildOrigin.held := by
  simp [State.rebuildOrigin, held_views, hw]

@[simp] theorem applySections_le (s : State) {w : Held} (hw : w.Le false s.held) : w.Le false s.applySections.held := by
  have applied : w.Le false s.applyTime.applyThrm.applyHkcv.applyMaps.applyPilots.held := by simp [hw]
  unfold State.applySections
  dsimp only
  split
  · exact applied
  · exact rebuildOrigin_le _ applied

@[simp] theorem startRows_held (why : RowWhy) (p : Nat → Bool) (s : State) : (s.startRows why p).held = s.held := (rfl)

@[simp] theorem enterService_held (why : RowWhy) (s : State) : (s.enterService why).held = s.held := by
  simp [State.enterService]

@[simp] theorem sweepDown_held (s : State) : s.sweepDown.held = s.held := by
  simp [State.sweepDown, held_views]

@[simp] theorem leaveCalibrate_held (s : State) : s.leaveCalibrate.held = s.held := by
  simp [State.leaveCalibrate, held_views]

@[simp] theorem enterCalibrate_held (w : Sweep) (s : State) : (s.enterCalibrate w).held = s.held := by
  simp [State.enterCalibrate, held_views]

@[simp] theorem newSweep_held (s : State) : s.newSweep.held = s.held := by
  simp [State.newSweep]

@[simp] theorem fileCluster_held (c : Nat) (s : State) : (s.fileCluster c).held = s.held := by
  unfold State.fileCluster
  dsimp only
  repeat' split
  all_goals simp [held_views, *]

@[simp] theorem filePorts_held (s : State) : s.filePorts.held = s.held := by
  unfold State.filePorts
  dsimp only
  repeat' split
  all_goals simp [held_views, *]

@[simp] theorem fileSweep_held (s : State) : s.fileSweep.held = s.held := by
  simp [State.fileSweep]

@[simp] theorem calDone_held (status : Nat) (s : State) : (s.calDone status).held = s.held := by
  simp [State.calDone, held_views]

@[simp] theorem forgetRetired_held (s : State) : s.forgetRetired.held = s.held := (rfl)

@[simp] theorem sysUseAtlas_life (q : Option (Nat × AtlasSlot)) (y : Sys) :
    (y.useAtlas q).lc = y.lc ∧ (y.useAtlas q).keyFused = y.keyFused ∧ (y.useAtlas q).keyHash = y.keyHash := by
  unfold Sys.useAtlas; split <;> exact ⟨rfl, rfl, rfl⟩

@[simp] theorem commitSweep_held (x : Sweep) (a : AtlasSlot) (s : State) : (s.commitSweep x a).held = s.held := by
  unfold State.commitSweep
  dsimp only
  split <;> simp [held_views]

@[simp] theorem failSweep_held (w : Sweep) (s : State) : (s.failSweep w).held = s.held := by
  simp [State.failSweep, held_views]

@[simp] theorem endSweep_held (found : List RetireEntry) (s : State) : (s.endSweep found).held = s.held := by
  unfold State.endSweep
  split
  · rfl
  · simp

@[simp] theorem continueSweep_held (e : JournalEntry) (es : List JournalEntry) (s : State) : (s.continueSweep e es).held = s.held := by
  unfold State.continueSweep
  dsimp only
  split
  · split <;> simp [held_views]
  · simp

@[simp] theorem enterAfterLoad_held (why : RowWhy) (s : State) : (s.enterAfterLoad why).held = s.held := by
  unfold State.enterAfterLoad
  split <;> simp

/-- RESUME clears the latch and loses nothing else; where the exit rule holds that is no loss (R300). -/
theorem resume_le {s : State} (ok : s.mayResume = true) {w : Held} (hw : w.Le true s.held) : w.Le true s.resume.held := by
  have keeps : s.resume.held = { s.held with latch := false } := by
    simp [State.resume, held_views]
  rw [keeps]
  refine ⟨hw.lc, hw.keyFused, hw.keyHash, fun h hr => ?_, hw.rule, hw.mem, hw.outs⟩
  have rule : s.held.mayResume = false := (hw.rule rfl).trans (hr rfl)
  exact absurd (ok.symm.trans rule) (by decide)

/-! ### Start-up and modes -/

@[simp] theorem resetN_held (lowNs : Nat) (s : State) : (resetN lowNs s).held = s.held := by
  simp [resetN]

/-- A lost supply other than VCORE and VIO holds everything (R371). -/
theorem supplyLoss_held {rail : Rail} (core : rail ≠ .vcore) (io : rail ≠ .vio) (s : State) : (supplyLoss rail s).held = s.held := by
  unfold supplyLoss
  split
  · exact absurd rfl core
  · exact absurd rfl io
  all_goals rfl

@[simp] theorem resetRampDone_le {s : State} (other : s.sys.resetting ≠ some .powerOn) {w : Held} (hw : w.Le false s.held) :
    w.Le false (resetRampDone s).held := by
  unfold resetRampDone
  split
  · exact hw
  · rename_i k at_k
    exact finishReset_le (fun e => other (e ▸ at_k)) _ hw

@[simp] theorem resetRelease_held (strap : Bool) (s : State) : (resetRelease strap s).held = s.held := by
  simp [resetRelease, held_views]

@[simp] theorem makerAuthorised_le (s : State) {ρ : Bool} {w : Held} (hw : w.Le ρ s.held) : w.Le ρ (makerAuthorised s).held := by
  simp [makerAuthorised, held_views, hw]

@[simp] theorem pllLocked_held (freq : Nat) (s : State) : (pllLocked freq s).held = s.held := by
  simp [pllLocked, held_views]

@[simp] theorem refAbsent_held (s : State) : (refAbsent s).held = s.held := by
  simp [refAbsent, held_views]

@[simp] theorem haltAt_held (cause : Nat) (s : State) : (s.haltAt cause).held = s.held := by
  simp [State.haltAt, held_views]

@[simp] theorem bootFail_held (f : BootFail) (s : State) : (s.bootFail f).held = s.held := by
  simp [State.bootFail, held_views]

@[simp] theorem sramWiped_le (ok rom : Bool) (s : State) {ρ : Bool} {w : Held} (hw : w.Le ρ s.held) : w.Le ρ (sramWiped ok rom s).held := by
  simp [sramWiped, held_views, hw]

@[simp] theorem atlasStage_held (s : State) : s.atlasStage.held = s.held := by
  simp [State.atlasStage, held_views]

@[simp] theorem applyStage_le (s : State) {w : Held} (hw : w.Le false s.held) : w.Le false s.applyStage.held := by
  simp [State.applyStage, held_views, hw]

@[simp] theorem ddrEnd_le (s : State) {w : Held} (hw : w.Le false s.held) : w.Le false s.ddrEnd.held := by
  simp [State.ddrEnd, hw]

@[simp] theorem tryImages_le (f : Flash) : ∀ (ks : List Nat) (s : State) {w : Held}, w.Le false s.held → w.Le false (tryImages f ks s).held
  | [], s, w, hw => by simpa [tryImages] using hw
  | k :: ks, s, w, hw => by
    unfold tryImages
    split
    · exact tryImages_le f ks _ (by simpa [held_views] using hw)
    · exact ddrEnd_le _ (by simpa [held_views] using hw)

@[simp] theorem imageCheck_le (flash : Option Flash) (s : State) {w : Held} (hw : w.Le false s.held) :
    w.Le false (imageCheck flash s).held := by
  unfold imageCheck
  dsimp only
  split
  · exact hw
  split
  · simpa [held_views] using hw
  split
  · simpa [held_views] using hw
  · exact tryImages_le _ _ _ (by simpa [held_views] using hw)

@[simp] theorem haltReport_held (s : State) : (haltReport s).held = s.held := by
  simp [haltReport, held_views]

@[simp] theorem ddrBad_le (c : Nat) (s : State) {w : Held} (hw : w.Le false s.held) : w.Le false (s.ddrBad c).held := by
  simp [State.ddrBad, held_views, hw]

@[simp] theorem ddrTrained_le (c : Nat) (ok : Bool) (s : State) {w : Held} (hw : w.Le false s.held) :
    w.Le false (ddrTrained c ok s).held := by
  simp [ddrTrained, held_views, hw]

@[simp] theorem dramWiped_le (c : Nat) (ok : Bool) (s : State) {w : Held} (hw : w.Le false s.held) :
    w.Le false (dramWiped c ok s).held := by
  simp [dramWiped, held_views, hw]

@[simp] theorem startRecorder_le (s : State) {ρ : Bool} {w : Held} (hw : w.Le ρ s.held) : w.Le ρ s.startRecorder.held := by
  simp [State.startRecorder, held_views, hw]

/-- The refresh of the region headers changes the recorder and memory alone. -/
theorem refreshAll_frame (s : State) : s.refreshAll = { s with rcd := s.refreshAll.rcd, mem := s.refreshAll.mem } :=
  foldl_frame (fun s (q : Rec × List Host.Cell) => { s with rcd := q.1, mem := q.2 }) (fun s => (s.rcd, s.mem)) (fun _ => rfl)
    (fun _ _ _ => rfl) _ (fun s i => refreshHeader_frame i s) _ s

theorem startRecorder_sys (s : State) : s.startRecorder.sys = s.sys := by
  unfold State.startRecorder
  dsimp only
  rw [refreshAll_frame]

/-- The end of LOAD loses nothing, but that it fuses the owner-key hash of an OPEN device that it seals (R323). -/
theorem loadEnds_cases {s : State} {w : Held} (hw : w.Le false s.held) : w.Le false (loadEnds s).held ∨
    s.sys.lc = .open_ ∧ ∃ x h, w.Le false x ∧ (loadEnds s).held = { x with lc := .sealed_, keyFused := true, keyHash := h } := by
  unfold loadEnds
  split
  · exact .inl hw
  dsimp only
  generalize at_u : (State.netStart _).statusChanged = u
  have keeps : w.Le false u.held := by
    rw [← at_u, statusChanged_held, netStart_held]
    exact startRecorder_le _ (by simpa [held_views] using hw)
  have lc : u.sys.lc = s.sys.lc := by
    have : u.held.lc = s.sys.lc := by
      rw [← at_u, statusChanged_held, netStart_held]
      simp only [State.held, startRecorder_sys]
      rfl
    exact this
  split
  · rename_i due
    have opened : u.sys.lc = .open_ := by
      simp only [State.sealDue, Bool.and_eq_true, decide_eq_true_eq] at due
      exact due.1.1
    refine .inr ⟨lc ▸ opened, u.held, u.image.idnt.ownerKeyHash, keeps, ?_⟩
    rw [beginReset_held]
    rfl
  · refine .inl ?_
    split
    · rw [setMode_held]
      exact netDown_le _ _ (netDown_le _ _ keeps)
    · rw [enterAfterLoad_held]
      exact keeps

@[simp] theorem domOff_le (d : Domain) (s : State) {ρ : Bool} {w : Held} (hw : w.Le ρ s.held) : w.Le ρ (s.domOff d).held := by
  unfold State.domOff
  split <;> simp [held_views, *]

@[simp] theorem domRise_held (d : Domain) (s : State) : (s.domRise d).held = s.held := by
  unfold State.domRise
  split <;> simp [held_views, *]

@[simp] theorem domainRequest_le (d : Domain) (on : Bool) (s : State) {ρ : Bool} {w : Held} (hw : w.Le ρ s.held) :
    w.Le ρ (domainRequest d on s).held := by
  simp [domainRequest, hw]

@[simp] theorem islandUp_held (r : Nat) (s : State) : (s.islandUp r).held = s.held := (rfl)

@[simp] theorem domainUp_held (d : Domain) (sarCal : List (List Nat)) (s : State) : (domainUp d sarCal s).held = s.held := by
  unfold domainUp
  repeat' split
  all_goals simp [held_views, *]

@[simp] theorem rowPowerUp_held (sarCal : List (List (List Nat))) (s : State) : (rowPowerUp sarCal s).held = s.held := by
  unfold rowPowerUp
  split <;> simp [held_views, *]

@[simp] theorem firmwareLost_le (s : State) {ρ : Bool} {w : Held} (hw : w.Le ρ s.held) : w.Le ρ s.firmwareLost.held := by
  have cores := foldl_le (fun t m h => dropMaster_le m t h) [0, 1, 2, 3] hw
  simpa [State.firmwareLost, held_views] using cores

@[simp] theorem restartEnter_le (s : State) {ρ : Bool} {w : Held} (hw : w.Le ρ s.held) : w.Le ρ s.restartEnter.held := by
  refine cancelPending_le _ ?_
  rw [held_mk]
  simp only [held_views, Held.eta, setMode_held]
  exact firmwareLost_le _ hw

@[simp] theorem firmwareFails_le (s : State) {ρ : Bool} {w : Held} (hw : w.Le ρ s.held) : w.Le ρ s.firmwareFails.held := by
  unfold State.firmwareFails
  split
  · exact hw
  split <;> simp [hw]

@[simp] theorem finishRestart_held (s : State) : s.finishRestart.held = s.held := by
  unfold State.finishRestart
  split <;> simp [held_views, *]

@[simp] theorem firmwareReturns_le (circuitTableOk : Bool) (s : State) {ρ : Bool} {w : Held} (hw : w.Le ρ s.held) :
    w.Le ρ (s.firmwareReturns circuitTableOk).held := by
  simp [State.firmwareReturns, held_views, hw]

@[simp] theorem darkDown_held (c : Nat) (s : State) : (s.darkDown c).held = s.held := by
  simp [State.darkDown, held_views]

@[simp] theorem darkEnter_le (m : ModeCmd) (s : State) {ρ : Bool} {w : Held} (hw : w.Le ρ s.held) : w.Le ρ (s.darkEnter m).held := by
  simp [State.darkEnter, held_views, hw]

@[simp] theorem finishMode_held (mode : Mode) (s : State) : (s.finishMode mode).held = s.held := by
  unfold State.finishMode
  split <;> simp [held_views, *]

@[simp] theorem darkExit_held (m : ModeCmd) (s : State) : (s.darkExit m).held = s.held := (rfl)

@[simp] theorem darkDone_held (s : State) : s.darkDone.held = s.held := by
  unfold State.darkDone
  dsimp only
  repeat' split
  all_goals simp [held_views, *]

@[simp] theorem darkLeft_held (s : State) : s.darkLeft.held = s.held := by
  simp [State.darkLeft, held_views]

@[simp] theorem drain_held (s : State) : s.drain.held = s.held := by
  unfold State.drain
  split <;> simp [held_views, *]

@[simp] theorem flashAbsent_held (s : State) : s.flashAbsent.held = s.held := (rfl)

@[simp] theorem flashSeen_held (f : Flash) (answers : Bool) (s : State) : (s.flashSeen f answers).held = s.held := by
  simp [State.flashSeen, held_views]

@[simp] theorem nvmTest_held (found : FlashFound) (s : State) : (s.nvmTest found).held = s.held := by
  unfold State.nvmTest
  repeat' split
  all_goals simp [*]

@[simp] theorem eraseOther_held (s : State) : s.eraseOther.held = s.held := (rfl)

@[simp] theorem activate_held (s : State) : s.activate.held = s.held := by
  simp [State.activate, held_views]

@[simp] theorem announce_held (h : Hdr) (graceMs : Nat) (s : State) : (s.announce h graceMs).held = s.held := by
  simp [State.announce, held_views]

@[simp] theorem modeSet_le (h : Hdr) (mode : Nat) (s : State) {ρ : Bool} {w : Held} (hw : w.Le ρ s.held) :
    w.Le ρ (modeSet h mode s).held := by
  unfold modeSet
  dsimp only
  split
  · simpa using hw
  split
  · split
    · split
      · simpa using hw
      · split <;> simpa using hw
    · split
      · simpa [held_views] using hw
      · simpa using hw
    all_goals simpa using hw
  split
  · split
    · exact darkEnter_le _ _ hw
    · exact darkEnter_le _ _ hw
    all_goals simpa using hw
  split
  · exact restartEnter_le _ (by simpa [held_views] using hw)
  · exact restartEnter_le _ (by simpa [held_views] using hw)
  · exact restartEnter_le _ (by simpa [held_views] using hw)
  all_goals simpa using hw

theorem thermalResume_le (h : Hdr) (s : State) {w : Held} (hw : w.Le true s.held) : w.Le true (thermalResume h s).held := by
  unfold thermalResume
  split
  · rw [reply_held]
    exact resume_le ‹_› hw
  · simpa using hw

theorem thmResume_le (v : Word) (s : State) {w : Held} (hw : w.Le true s.held) : w.Le true (thmResume v s).held := by
  unfold thmResume
  split
  · rename_i ok
    exact resume_le ok.2.2.1 hw
  · exact hw

@[simp] theorem calRequest_le (h : Hdr) (s : State) {ρ : Bool} {w : Held} (hw : w.Le ρ s.held) : w.Le ρ (calRequest h s).held := by
  simp [calRequest, held_views, hw]

theorem watchdogAt_held {ns : Nat} {s t : State} (h : s.watchdogAt ns = some t) : t.held = s.held := by
  unfold State.watchdogAt at h
  split at h
  · exact reach_held h
  · cases h; rfl

@[simp] theorem watchdogFirst_le (s : State) {ρ : Bool} {w : Held} (hw : w.Le ρ s.held) : w.Le ρ (watchdogFirst s).held := by
  unfold watchdogFirst
  split
  · exact hw
  split
  · exact hw
  · exact firmwareFails_le _ (by rwa [watchdogAt_held ‹_›])

@[simp] theorem restartFails_held (s : State) : s.restartFails.held = s.held := by
  simp [State.restartFails, held_views]

@[simp] theorem watchdogSecond_held (s : State) : (watchdogSecond s).held = s.held := by
  unfold watchdogSecond
  split
  · rfl
  split
  · rfl
  · rw [restartFails_held, watchdogAt_held ‹_›]

@[simp] theorem darkDeferred_held (c : Nat) (s : State) : (darkDeferred c s).held = s.held := by
  simp [darkDeferred, held_views]

@[simp] theorem calSweepDone_held (m : AtlasSlot) (upTo : Nat) (s : State) : (calSweepDone m upTo s).held = s.held := by
  unfold calSweepDone
  split <;> simp [held_views, *]

@[simp] theorem imageStage_held (h : Hdr) (bytes : List Byte) (len : Nat) (s : State) : (imageStage h bytes len s).held = s.held := by
  simp [imageStage, held_views]

@[simp] theorem imageStageDone_held (readBackOk : Bool) (s : State) : (imageStageDone readBackOk s).held = s.held := by
  unfold imageStageDone
  split <;> simp [held_views, *]

@[simp] theorem imageActivate_held (h : Hdr) (graceMs : Nat) (s : State) : (imageActivate h graceMs s).held = s.held := by
  simp [imageActivate]

@[simp] theorem releaseGraceEnd_held (s : State) : (releaseGraceEnd s).held = s.held := by
  simp [releaseGraceEnd]

@[simp] theorem periTake_held (o : Nat) (s : State) : (s.periTake o).held = s.held := by
  unfold State.periTake
  split <;> simp [held_views, *]

@[simp] theorem periWrite_held (o : Nat) (v : Word) (s : State) : (s.periWrite o v).held = s.held := by
  unfold State.periWrite
  split <;> simp [held_views, *]

@[simp] theorem latchPair_held (m : Nat) (p : Pair) (s : State) : (s.latchPair m p).held = s.held := by
  unfold State.latchPair
  split <;> simp [held_views, *]

@[simp] theorem clearFull_held (m : Nat) (p : Pair) (s : State) : (s.clearFull m p).held = s.held := by
  unfold State.clearFull
  split <;> simp [held_views, *]

@[simp] theorem readReg_held (m a : Nat) (s : State) : (s.readReg m a).2.held = s.held := by
  unfold State.readReg
  dsimp only
  split
  · split <;> simp
  split
  · split
    · split <;> rfl
    · rfl
  split
  · split <;> simp
  split
  · split
    · simp [held_views]
    · rfl
  · rfl

/-! ### Mailbox windows, register writes and the braid -/

@[simp] theorem eventBell_held (p : Nat) (s : State) : (s.eventBell p).held = s.held := (rfl)

@[simp] theorem tailWrite_outMem (v : Nat) (h : HostPort) : (h.tailWrite v).outMem = h.outMem := by
  unfold HostPort.tailWrite; split <;> rfl

@[simp] theorem cplHeadWrite_outMem (v : Nat) (h : HostPort) : (h.cplHeadWrite v).outMem = h.outMem := by
  unfold HostPort.cplHeadWrite; split <;> rfl

@[simp] theorem ntcHeadWrite_outMem (v : Nat) (h : HostPort) : (h.ntcHeadWrite v).outMem = h.outMem := by
  unfold HostPort.ntcHeadWrite; split <;> rfl

@[simp] theorem enableWrite_outMem (v : Word) (h : HostPort) : (h.enableWrite v).outMem = h.outMem := (rfl)

@[simp] theorem msixWrite_outMem (v o : Nat) (x : Word) (h : HostPort) : (h.msixWrite v o x).outMem = h.outMem := by
  simp [HostPort.msixWrite, apply_ite HostPort.outMem]

@[simp] theorem hpReset_outMem (h : HostPort) : h.reset.outMem = h.outMem := (rfl)

@[simp] theorem b4Fail_outMem (b : Bool) (k : Nat) (h : HostPort) : (h.b4Fail b k).outMem = h.outMem := by
  unfold HostPort.b4Fail
  simp [apply_ite HostPort.outMem]

@[simp] theorem holdEnd_outMem (v : Nat) (h : HostPort) : (h.holdEnd v).outMem = h.outMem := by
  unfold HostPort.holdEnd
  simp [apply_ite HostPort.outMem]

@[simp] theorem mbxPortWrite_held (p o : Nat) (v : Word) (s : State) : (s.mbxPortWrite p o v).held = s.held := by
  unfold State.mbxPortWrite
  dsimp only
  split <;> simp

@[simp] theorem postNext_held (p : Nat) (s : State) : (s.postNext p).held = s.held := by
  unfold State.postNext
  dsimp only
  split
  · rfl
  split <;> simp

@[simp] theorem healthCheck_held (p : Nat) (s : State) : (s.healthCheck p).held = s.held := by
  simp [State.healthCheck]

@[simp] theorem mirror_held (p : Nat) (s : State) : (s.mirror p).held = s.held := by
  simp [State.mirror]

@[simp] theorem portEpochs_le (p : Nat) (s : State) {ρ : Bool} {w : Held} (hw : w.Le ρ s.held) : w.Le ρ (s.portEpochs p).held := by
  simp [State.portEpochs, hw]

@[simp] theorem disown_held (p : Nat) (s : State) : (s.disown p).held = s.held := by
  simp [State.disown]

@[simp] theorem dropSteward_held (p : Nat) (s : State) : (s.dropSteward p).held = s.held := by
  unfold State.dropSteward
  repeat' split
  all_goals simp [held_views, *]

@[simp] theorem portReset_le (p : Nat) (s : State) {ρ : Bool} {w : Held} (hw : w.Le ρ s.held) : w.Le ρ (s.portReset p).held := by
  have dropped : w.Le ρ (s.dropMaster (9 + p)).held := dropMaster_le _ _ hw
  unfold State.portReset
  dsimp only
  rw [modHost_held hpReset_outMem, held_mk]
  simp only [held_views, Held.eta, evtPortReset_held, dropSteward_held, disown_held]
  exact portEpochs_le _ _ (by simpa [held_views] using dropped)

@[simp] theorem modDch_held (n : Nat) (f : DmaCh → DmaCh) (s : State) : (s.modDch n f).held = s.held := (rfl)

@[simp] theorem dmaBusy_held (n : Nat) (s : State) : (s.dmaBusy n).held = s.held := (rfl)

@[simp] theorem dmaStart_held (n : Nat) (origin : Option Nat) (s : State) : (s.dmaStart n origin).held = s.held := by
  simp [State.dmaStart]

@[simp] theorem dmaArrive_held (n origin : Nat) (s : State) : (s.dmaArrive n origin).held = s.held := by
  simp [State.dmaArrive]

@[simp] theorem dmaDisable_held (n : Nat) (s : State) : (s.dmaDisable n).held = s.held := (rfl)

@[simp] theorem dmaStop_held (n addr : Nat) (write : Bool) (resp : Nat) (fetching : List Nat) (s : State) :
    (s.dmaStop n addr write resp fetching).held = s.held := (rfl)

@[simp] theorem stopClear_held (s : State) : s.stopClear.held = s.held := (rfl)

@[simp] theorem periPins_held (line : Nat) (bs : List Byte) (s : State) : (s.periPins line bs).held = s.held := by
  simp [State.periPins, held_views]

@[simp] theorem cluWrite_held (m o : Nat) (v : Word) (s : State) : (s.cluWrite m o v).held = s.held := by
  unfold State.cluWrite
  dsimp only
  repeat' split
  all_goals simp [*]

@[simp] theorem dmaCtrlWrite_held (n : Nat) (v : Word) (s : State) : (s.dmaCtrlWrite n v).held = s.held := by
  simp [State.dmaCtrlWrite]

@[simp] theorem dmaWrite_held (o : Nat) (v : Word) (s : State) : (s.dmaWrite o v).held = s.held := by
  unfold State.dmaWrite
  repeat' split
  all_goals simp [*]

@[simp] theorem softFire_held (w : Writer) (ch : Nat) (s : State) : (s.softFire w ch).held = s.held := by
  simp [State.softFire]

@[simp] theorem chanWrite_held (w : Writer) (ch o : Nat) (v : Word) (s : State) : (s.chanWrite w ch o v).held = s.held := by
  unfold State.chanWrite
  repeat' split
  all_goals simp [*]

@[simp] theorem selWrite_held (x : Nat) (v : Word) (s : State) : (s.selWrite x v).held = s.held := by
  simp [State.selWrite]

@[simp] theorem evtWrite_held (sec : Bool) (o : Nat) (v : Word) (s : State) : (s.evtWrite sec o v).held = s.held := by
  unfold State.evtWrite
  repeat' split
  all_goals simp [held_views, *]

@[simp] theorem timeCtrlWrite_le (v : Word) (s : State) {ρ : Bool} {w : Held} (hw : w.Le ρ s.held) : w.Le ρ (s.timeCtrlWrite v).held := by
  simp [State.timeCtrlWrite, held_views, hw]

@[simp] theorem cmpCtrlWrite_held (i : Nat) (v : Word) (s : State) : (s.cmpCtrlWrite i v).held = s.held := by
  simp [State.cmpCtrlWrite]

@[simp] theorem capCtrlWrite_held (i : Nat) (v : Word) (s : State) : (s.capCtrlWrite i v).held = s.held := by
  simp [State.capCtrlWrite, held_views]

@[simp] theorem timeWrite_le (o : Nat) (v : Word) (s : State) {ρ : Bool} {w : Held} (hw : w.Le ρ s.held) :
    w.Le ρ (s.timeWrite o v).held := by
  unfold State.timeWrite
  repeat' split
  all_goals simp [held_views, *]

@[simp] theorem netWrite_held (o : Nat) (v : Word) (s : State) : (s.netWrite o v).held = s.held := by
  unfold State.netWrite
  split <;> simp [*]

@[simp] theorem coreCtrlWrite_held (n : Nat) (v : Word) (s : State) : (s.coreCtrlWrite n v).held = s.held := by
  simp [State.coreCtrlWrite]

@[simp] theorem hkcWrite_held (o : Nat) (v : Word) (s : State) : (s.hkcWrite o v).held = s.held := by
  unfold State.hkcWrite
  repeat' split
  all_goals simp [*]

@[simp] theorem commitAtWrite_held (i : Nat) (v : Word) (s : State) : (s.commitAtWrite i v).held = s.held := by
  unfold State.commitAtWrite
  dsimp only
  repeat' split
  all_goals simp [held_views, *]

@[simp] theorem fabWrite_le (o : Nat) (v : Word) (s : State) {ρ : Bool} {w : Held} (hw : w.Le ρ s.held) : w.Le ρ (s.fabWrite o v).held := by
  unfold State.fabWrite
  split <;> simp [*]

@[simp] theorem recWrite_le (o : Nat) (v : Word) (s : State) {ρ : Bool} {w : Held} (hw : w.Le ρ s.held) : w.Le ρ (s.recWrite o v).held := by
  unfold State.recWrite
  repeat' split
  all_goals simp [held_views, *]

@[simp] theorem lcsWrite_le (m o : Nat) (v : Word) (s : State) {ρ : Bool} {w : Held} (hw : w.Le ρ s.held) :
    w.Le ρ (s.lcsWrite m o v).held := by
  unfold State.lcsWrite
  split <;> simp [held_views, *]

@[simp] theorem efcSet_held (v : Bool) (s : State) : (s.efcSet v).held = s.held := by
  simp [State.efcSet, held_views]

@[simp] theorem drvWrite_held (o : Nat) (v : Word) (s : State) : (s.drvWrite o v).held = s.held := by
  unfold State.drvWrite
  split <;> simp [*]

@[simp] theorem mbxWrite_held (m p o : Nat) (v : Word) (s : State) : (s.mbxWrite m p o v).held = s.held := by
  unfold State.mbxWrite
  dsimp only
  split
  · rfl
  split
  · simp
  split
  · simp
  split
  · split
    · simp
    · rfl
  split <;> simp

@[simp] theorem regWrite_le (m : Nat) (sec : Bool) (a : Nat) (v : Word) (s : State) {w : Held} (hw : w.Le true s.held) :
    w.Le true (s.regWrite m sec a v).held := by
  unfold State.regWrite
  split
  · simpa using hw
  split
  · exact hw
  dsimp only
  split
  · exact hw
  split
  case h_7 =>
    split
    · exact thmResume_le _ _ hw
    · exact hw
  all_goals simp [held_views, hw]

@[simp] theorem refused_held (m : Nat) (sec : Bool) (a : Nat) (b : Bool) (k : Nat) (s : State) : (s.refused m sec a b k).held = s.held := by
  unfold State.refused
  split
  · rfl
  · simp

@[simp] theorem readWords_held (m : Nat) : ∀ (k a : Nat) (s : State), (State.readWords m k a s).2.held = s.held
  | 0, _, _ => rfl
  | k + 1, a, s => (readWords_held m k _ _).trans (readReg_held m a s)

@[simp] theorem writeWords_le (m : Nat) (sec : Bool) : ∀ (k a : Nat) (bs : List Byte) (s : State) {w : Held}, w.Le true s.held →
    w.Le true (State.writeWords m sec k a bs s).held
  | 0, _, _, _, _, hw => hw
  | k + 1, _, _, _, _, hw => writeWords_le m sec k _ _ _ (regWrite_le _ _ _ _ _ hw)

@[simp] theorem readPiece_held (m : Nat) (sec : Bool) (a len : Nat) (s : State) : (s.readPiece m sec a len).2.2.held = s.held := by
  unfold State.readPiece
  dsimp only
  split
  · simp
  split
  · rfl
  · simp

@[simp] theorem writePiece_le (m : Nat) (sec : Bool) (a : Nat) (bs : List Byte) (s : State) {w : Held} (hw : w.Le true s.held) :
    w.Le true (s.writePiece m sec a bs).2.held := by
  unfold State.writePiece
  dsimp only
  split
  · simpa using hw
  split
  · simp [held_views, hw]
  · exact writeWords_le _ _ _ _ _ _ hw

@[simp] theorem answered_held (m a resp : Nat) (data : List Byte) (s : State) : (s.answered m a resp data).held = s.held := (rfl)

@[simp] theorem arrive_held (r : BraidReq) (s : State) : (s.arrive r).held = s.held := by
  unfold State.arrive
  dsimp only
  split
  · rfl
  split
  · simp
  split <;> rfl

@[simp] theorem settled_held (t : Nat) (s : State) : (s.settled t).held = s.held := (rfl)

@[simp] theorem writeBeats_le (m : Nat) (sec : Bool) (a : Nat) (bs : List Byte) (s : State) {w : Held} (hw : w.Le true s.held) :
    w.Le true (s.writeBeats m sec a bs).2.held := by
  have piece := writePiece_le m sec a bs s hw
  unfold State.writeBeats
  dsimp only
  split
  · exact piece
  · exact piece

@[simp] theorem recJudge_le (m t : Nat) (s : State) {ρ : Bool} {w : Held} (hw : w.Le ρ s.held) : w.Le ρ (s.recJudge m t).held := by
  unfold State.recJudge
  split <;> simp [*]

@[simp] theorem grant_le (t : Nat) (ecc : Bool) (x : Waiting) (s : State) {w : Held} (hw : w.Le true s.held) :
    w.Le true (s.grant t ecc x).held := by
  unfold State.grant
  dsimp only
  split
  · split
    · exact recJudge_le _ _ _ (by simpa [held_views] using hw)
    · exact recJudge_le _ _ _ (by simpa [held_views] using hw)
  · split
    · exact recJudge_le _ _ _ (by simpa [held_views] using hw)
    · exact recJudge_le _ _ _ (by rw [answered_held]; exact writeBeats_le _ _ _ _ _ (by simpa [held_views] using hw))

@[simp] theorem ahead_le (m qos t : Nat) : ∀ (k : Nat) (s : State) {w : Held}, w.Le true s.held → w.Le true (State.ahead m qos t k s).held
  | 0, _, _, hw => hw
  | k + 1, s, w, hw => by
    unfold State.ahead
    split
    · exact hw
    split
    · exact ahead_le m qos t k _ (grant_le _ _ _ _ hw)
    · exact hw

@[simp] theorem access_le (m qos a : Nat) (s : State) {w : Held} (hw : w.Le true s.held) : w.Le true (s.access m qos a).held := by
  simp [State.access, hw]

@[simp] theorem pieceGrant_le (t : Nat) (arrivals : List BraidReq) (ecc : Bool) (s : State) {w : Held} (hw : w.Le true s.held) :
    w.Le true (pieceGrant t arrivals ecc s).held := by
  have arrived : w.Le true ((arrivals.flatMap splitReq).foldl (fun s r => s.arrive r) s).held := by simpa using hw
  unfold pieceGrant
  dsimp only
  split
  · exact arrived
  split
  · exact grant_le _ _ _ _ arrived
  · exact arrived

@[simp] theorem atomicOp_le (m a size : Nat) (kind : AtomicKind) (operand compare : Nat) (ecc : Bool) (s : State) {w : Held}
    (hw : w.Le true s.held) : w.Le true (atomicOp m a size kind operand compare ecc s).held := by
  have reached := access_le m 0 a s hw
  unfold atomicOp
  dsimp only
  split
  · exact hw
  split
  · simpa using reached
  · simpa [held_views] using le_writeN reached

@[simp] theorem masterReset_le (m beats : Nat) (s : State) {ρ : Bool} {w : Held} (hw : w.Le ρ s.held) :
    w.Le ρ (masterReset m beats s).held := by
  simp [masterReset, hw]

@[simp] theorem portReopen_held (m : Nat) (s : State) : (portReopen m s).held = s.held := (rfl)

/-! ### Accesses, the event fabric and the DMA engine -/

@[simp] theorem registerWrite_le (m a : Nat) (v : Word) (s : State) {w : Held} (hw : w.Le true s.held) :
    w.Le true (registerWrite m a v s).held := by
  simp [registerWrite, hw]

@[simp] theorem pairLowRead_le (m : Nat) (pair : Pair) (s : State) {w : Held} (hw : w.Le true s.held) :
    w.Le true (pairLowRead m pair s).held := by
  simp [pairLowRead, hw]

@[simp] theorem bar4Write_le (p offset : Nat) (v : Word) (s : State) {w : Held} (hw : w.Le true s.held) :
    w.Le true (bar4Write p offset v s).held := by
  simp [bar4Write, hw, b4Fail_outMem]

@[simp] theorem bar2Read_le (p offset len : Nat) (s : State) {w : Held} (hw : w.Le true s.held) :
    w.Le true (bar2Read p offset len s).held := by
  have reached (c : Bool) (a : Nat) (t : State) (ht : w.Le true t.held) : w.Le true (if c then t.access (9 + p) 0 a else t).held := by
    split
    · exact access_le _ _ _ _ ht
    · exact ht
  unfold bar2Read
  dsimp only
  split
  · exact hw
  · rw [answered_held, held_ite, modHost_held (by simp), ite_self]
    exact reached _ _ _ (reached _ _ _ hw)

@[simp] theorem planGo_held (slot : Nat) (s : State) : (s.planGo slot).held = s.held := by
  unfold State.planGo
  split <;> simp [*]

@[simp] theorem markBy_le (ch : Nat) (s : State) {ρ : Bool} {w : Held} (hw : w.Le ρ s.held) : w.Le ρ (s.markBy ch).held := by
  simp [State.markBy, held_views, hw]

@[simp] theorem groupEnable_held (g : Nat) (s : State) : (s.groupEnable g).held = s.held := by
  unfold State.groupEnable
  split <;> simp [held_views, *]

@[simp] theorem groupDisable_held (g : Nat) (s : State) : (s.groupDisable g).held = s.held := (rfl)

@[simp] theorem conAct_le (x ch origin : Nat) (s : State) {ρ : Bool} {w : Held} (hw : w.Le ρ s.held) :
    w.Le ρ (s.conAct x ch origin).held := by
  simp [State.conAct, held_views, hw]

@[simp] theorem conArrive_le (x j origin : Nat) (s : State) {ρ : Bool} {w : Held} (hw : w.Le ρ s.held) :
    w.Le ρ (s.conArrive x j origin).held := by
  simp [State.conArrive, hw]

@[simp] theorem foldIn_held (x : Nat) : ∀ (k : Nat) (s : State), (State.foldIn x k s).held = s.held
  | 0, _ => (rfl)
  | k + 1, s => by
    unfold State.foldIn
    split
    · rw [foldIn_held x k]; rfl
    · rfl

@[simp] theorem sameArrival_held (x : Nat) (s : State) : (s.sameArrival x).2.held = s.held := by
  unfold State.sameArrival
  repeat' split
  all_goals rfl

@[simp] theorem newArrival_le (x j origin merged : Nat) (s : State) {ρ : Bool} {w : Held} (hw : w.Le ρ s.held) :
    w.Le ρ (s.newArrival x j origin merged).held := by
  simp [State.newArrival, hw]

@[simp] theorem consumerArrive_le (x j origin merged : Nat) (s : State) {ρ : Bool} {w : Held} (hw : w.Le ρ s.held) :
    w.Le ρ (consumerArrive x j origin merged s).held := by
  simp [consumerArrive, held_views, hw]

@[simp] theorem groupNow_le (g : Nat) (s : State) {ρ : Bool} {w : Held} (hw : w.Le ρ s.held) : w.Le ρ (s.groupNow g).held :=
  foldl_le (fun _ _ h => consumerArrive_le _ _ _ _ _ h) _ hw

@[simp] theorem takeOcc_held (o : ChanOcc) (s : State) : (s.takeOcc o).held = s.held := (rfl)

@[simp] theorem groupFirst_le (g : Nat) (s : State) {ρ : Bool} {w : Held} (hw : w.Le ρ s.held) : w.Le ρ (s.groupFirst g).held :=
  groupNow_le _ _ (foldl_le (fun _ _ h => by rw [accept_held]; exact groupNow_le _ _ h) _ hw)

@[simp] theorem channelAccept_le (ch : Nat) (origin : Option Nat) (s : State) {ρ : Bool} {w : Held} (hw : w.Le ρ s.held) :
    w.Le ρ (channelAccept ch origin s).held := by
  simp [channelAccept, hw]

@[simp] theorem consumerIdle_le (x : Nat) (s : State) {ρ : Bool} {w : Held} (hw : w.Le ρ s.held) : w.Le ρ (consumerIdle x s).held := by
  simp [consumerIdle, hw]

@[simp] theorem pinCapture_held (n : Nat) (level : Bool) (s : State) : (s.pinCapture n level).held = s.held := (rfl)

@[simp] theorem pinHeld_held (n : Nat) (level : Bool) (s : State) : (s.pinHeld n level).held = s.held := by
  simp [State.pinHeld]

@[simp] theorem gpioInEdge_held (n : Nat) (level : Bool) (held : Nat) (s : State) : (gpioInEdge n level held s).held = s.held := by
  simp [gpioInEdge]

@[simp] theorem gpioPulseEnd_held (n : Nat) (s : State) : (gpioPulseEnd n s).held = s.held := by
  unfold gpioPulseEnd
  split
  · rfl
  split
  · rfl
  · simp [reach_held ‹_›]

@[simp] theorem illegal_held (n : Nat) (s : State) : (s.illegal n).held = s.held := (rfl)

@[simp] theorem fetchAt_le (n pc : Nat) (s : State) {w : Held} (hw : w.Le true s.held) : w.Le true (s.fetchAt n pc).2.2.held := by
  unfold State.fetchAt
  dsimp only
  split
  · exact hw
  · simp [hw]

theorem dmaRow_le (n op : Nat) (act : List Nat → State → State) (s : State) {w : Held}
    (h : ∀ (i : List Nat) (t : State), w.Le true t.held → w.Le true (act i t).held) (hw : w.Le true s.held) :
    w.Le true (s.dmaRow n op act).held := by
  have fetched := fetchAt_le n (s.dch n).pc s hw
  simp [State.dmaRow, hw, fetched, h _ _ fetched]

@[simp] theorem cutEnd_held (n : Nat) (s : State) : (s.cutEnd n).held = s.held := by
  simp [State.cutEnd]

@[simp] theorem mvRead_le (n : Nat) (q : Mv) (x : Nat × Nat) {w : Held} (hw : w.Le true q.s.held) : w.Le true (q.read n x).s.held := by
  unfold Mv.read
  dsimp only
  repeat' split
  all_goals simp [hw]

@[simp] theorem mvWrite_le (n : Nat) (q : Mv) (x : Nat × Nat) {w : Held} (hw : w.Le true q.s.held) : w.Le true (q.write n x).s.held := by
  unfold Mv.write
  dsimp only
  repeat' split
  all_goals simp [hw]

/-- A fold over a transfer whose every step loses nothing. -/
theorem mvFoldl_le {α : Type} {w : Held} {f : Mv → α → Mv} (h : ∀ q x, w.Le true q.s.held → w.Le true (f q x).s.held) :
    ∀ (l : List α) (q : Mv), w.Le true q.s.held → w.Le true (l.foldl f q).s.held
  | [], _, hq => hq
  | x :: l, q, hq => mvFoldl_le h l (f q x) (h q x hq)

@[simp] theorem mvReads_le (n : Nat) (l : List (Nat × Nat)) (q : Mv) {w : Held} (hw : w.Le true q.s.held) :
    w.Le true (l.foldl (Mv.read n) q).s.held := mvFoldl_le (fun q x h => mvRead_le n q x h) l q hw

@[simp] theorem mvDrain_le (n a width top : Nat) {w : Held} : ∀ (k : Nat) (q : Mv), w.Le true q.s.held →
    w.Le true (Mv.drain n a width top k q).s.held
  | 0, _, h => h
  | k + 1, q, h => by
    unfold Mv.drain
    dsimp only
    split
    · exact h
    · exact mvDrain_le n a width top k _ (mvWrite_le n q _ h)

@[simp] theorem mvPut_le (n a width : Nat) (inc : Bool) (base top : Nat) (q : Mv) {w : Held} (hw : w.Le true q.s.held) :
    w.Le true (q.put n a width inc base top).s.held := by
  unfold Mv.put
  dsimp only
  split
  · exact mvFoldl_le (fun q x h => mvWrite_le n q x h) _ q hw
  · exact mvDrain_le _ _ _ _ _ _ hw

@[simp] theorem mvClose_le (n : Nat) (done : State → Bool) (q : Mv) {w : Held} (hw : w.Le true q.s.held) :
    w.Le true (q.close n done).held := by
  unfold Mv.close
  split
  · simp [hw]
  · simp [hw]

@[simp] theorem moveBlock_le (n : Nat) (i : List Nat) (s : State) {w : Held} (hw : w.Le true s.held) : w.Le true (moveBlock n i s).held :=
  mvClose_le _ _ _ (mvFoldl_le (fun q x h => mvPut_le _ _ _ _ _ _ _ (mvRead_le n q x h)) _ _ hw)

@[simp] theorem fillBlock_le (n : Nat) (i : List Nat) (s : State) {w : Held} (hw : w.Le true s.held) : w.Le true (fillBlock n i s).held :=
  mvClose_le _ _ _ (mvPut_le _ _ _ _ _ _ _ hw)

@[simp] theorem compareBlock_le (n : Nat) (i : List Nat) (s : State) {w : Held} (hw : w.Le true s.held) :
    w.Le true (compareBlock n i s).held := by
  unfold compareBlock
  extract_lets c src dst done len q1 a q2 q3 b diffs t
  have h1 : w.Le true q1.s.held := mvReads_le n _ _ hw
  have h2 : w.Le true q2.s.held := h1
  have h3 : w.Le true q3.s.held := by
    unfold q3
    split
    · exact mvReads_le n _ q2 h2
    · exact h2
  have ht : w.Le true t.held := h3
  clear_value t q3
  split
  · exact mvClose_le _ _ _ h3
  split
  · exact ht
  · exact mvClose_le _ _ _ ht

@[simp] theorem loadEntry_le (n : Nat) (i : List Nat) (s : State) {w : Held} (hw : w.Le true s.held) :
    w.Le true (loadEntry n i s).1.s.held := by
  unfold loadEntry
  extract_lets c
  split
  · exact hw
  next a keep q bs lo len width ok _ _ =>
  have hq : w.Le true q.s.held := mvReads_le n _ _ hw
  clear_value q
  split
  · exact hq
  · exact hq

@[simp] theorem entryBlock_le (n : Nat) (i : List Nat) (addr len : Nat) (s : State) {w : Held} (hw : w.Le true s.held) :
    w.Le true (entryBlock n i addr len s).s.held := by
  unfold entryBlock
  dsimp only
  split
  · exact mvPut_le _ _ _ _ _ _ _ (mvReads_le _ _ _ hw)
  · exact mvPut_le _ _ _ _ _ _ _ (mvReads_le _ _ _ hw)

@[simp] theorem gatherBlock_le (n : Nat) (i : List Nat) (s : State) {w : Held} (hw : w.Le true s.held) :
    w.Le true (gatherBlock n i s).held := by
  unfold gatherBlock
  extract_lets all e
  have loaded : w.Le true e.1.s.held := loadEntry_le n i s hw
  clear_value e
  split
  · exact mvClose_le _ _ _ loaded
  split
  · exact loaded
  split
  · rw [cutEnd_held]; exact loaded
  · extract_lets r
    have moved : w.Le true r.s.held := entryBlock_le n i _ _ _ loaded
    clear_value r
    refine mvClose_le _ _ _ ?_
    rw [held_ite, modDch_held, ite_self]
    exact moved

@[simp] theorem dataBlock_le (n : Nat) (i : List Nat) (s : State) {w : Held} (hw : w.Le true s.held) :
    w.Le true (dataBlock n i s).held := by
  unfold dataBlock
  split
  · exact moveBlock_le _ _ _ hw
  · exact fillBlock_le _ _ _ hw
  · exact compareBlock_le _ _ _ hw
  · exact gatherBlock_le _ _ _ hw

@[simp] theorem allBlocks_le (n : Nat) (i : List Nat) {w : Held} :
    ∀ (k : Nat) (s : State), w.Le true s.held → w.Le true (allBlocks n i k s).held
  | 0, _, h => h
  | k + 1, s, h => by
    unfold allBlocks
    split
    · exact h
    · exact allBlocks_le n i k _ (dataBlock_le n i s h)

@[simp] theorem rowDone_held (n : Nat) (s : State) : (s.rowDone n).held = s.held := (rfl)

@[simp] theorem dataIns_le (n : Nat) (cut : Option Nat) (i : List Nat) (s : State) {w : Held} (hw : w.Le true s.held) :
    w.Le true (s.dataIns n cut i).held := by
  unfold State.dataIns
  dsimp only
  split
  · simp [hw]
  split
  · exact hw
  split
  · rw [rowDone_held]; exact allBlocks_le n i _ _ hw
  · exact hw

@[simp] theorem afterLoop_le (n : Nat) {w : Held} :
    ∀ (k pc d : Nat) (s : State), w.Le true s.held → w.Le true (State.afterLoop n k pc d s).2.held
  | 0, _, _, _, h => h
  | k + 1, pc, d, s, h => by
    have fetched := fetchAt_le n pc s h
    unfold State.afterLoop
    dsimp only
    split
    · exact fetched
    split
    · exact afterLoop_le n k _ _ _ fetched
    · split
      · exact fetched
      · exact afterLoop_le n k _ _ _ fetched
    · exact afterLoop_le n k _ _ _ fetched

@[simp] theorem dmaLoop_le (n : Nat) (i : List Nat) (s : State) {w : Held} (hw : w.Le true s.held) : w.Le true (dmaLoop n i s).held := by
  have skipped := afterLoop_le n (2 ^ 27) ((s.dch n).pc + 32) 0 s hw
  unfold dmaLoop
  dsimp only
  split
  · exact hw
  split
  · split
    · exact skipped
    · split
      · exact skipped
      · rw [dmaStop_held]; exact skipped
  · exact hw

@[simp] theorem dmaEndloop_held (n : Nat) (s : State) : (dmaEndloop n s).held = s.held := by
  unfold dmaEndloop
  repeat' split
  all_goals simp [*]

@[simp] theorem dmaWait_held (n : Nat) (w : List Nat) (s : State) : (dmaWait n w s).held = s.held := (rfl)

@[simp] theorem dmaWaitResume_held (n : Nat) (pins : List Byte) (s : State) : (dmaWaitResume n pins s).held = s.held := by
  unfold dmaWaitResume
  split <;> simp [*]

@[simp] theorem dmaWaitTimeout_held (n : Nat) (s : State) : (dmaWaitTimeout n s).held = s.held := by
  unfold dmaWaitTimeout
  split <;> simp [*]

@[simp] theorem dmaDone_held (n : Nat) (s : State) : (s.dmaDone n).held = s.held := (rfl)

@[simp] theorem dmaHalt_held (n : Nat) (w : List Nat) (s : State) : (dmaHalt n w s).held = s.held := by
  simp [dmaHalt]

@[simp] theorem pacedBlock_le (n : Nat) (pins : List Byte) (cut : Option Nat) (s : State) {w : Held} (hw : w.Le true s.held) :
    w.Le true (pacedBlock n pins cut s).held := by
  unfold pacedBlock
  dsimp only
  split
  · exact hw
  split
  · exact hw
  split
  · rw [periPins_held]; exact hw
  · rw [rowDone_held]; exact dataBlock_le _ _ _ (by rw [modDch_held, periPins_held]; exact hw)

@[simp] theorem dmaAccessError_held (n addr : Nat) (write : Bool) (resp : Nat) (fetching : List Nat) (s : State) :
    (dmaAccessError n addr write resp fetching s).held = s.held := by
  simp [dmaAccessError]

/-! ### The mailbox's commands -/

/-- A property of every member, of the members after one of them has changed. -/
theorem forall_modAt {α : Type} {P : α → Prop} {f : α → α} (hf : ∀ x, P x → P (f x)) : ∀ {i : Nat} {l : List α},
    (∀ x ∈ l, P x) → ∀ x ∈ modAt f i l, P x
  | _, [], _ => by simp [modAt]
  | 0, y :: l, h => by simpa [modAt] using ⟨hf y (h y (by simp)), fun x hx => h x (by simp [hx])⟩
  | i + 1, y :: l, h => by
    simpa [modAt] using ⟨h y (by simp), forall_modAt hf (i := i) (fun x hx => h x (List.mem_cons_of_mem y hx))⟩

@[simp] theorem hostOut_le (p addr : Nat) (bs : List Byte) (s : State) {ρ : Bool} {w : Held} (hw : w.Le ρ s.held) :
    w.Le ρ (s.hostOut p addr bs).held := by
  refine ⟨hw.lc, hw.keyFused, hw.keyHash, hw.latch, hw.rule, hw.mem, fun h => ?_⟩
  have before : ∀ q ∈ s.hosts, Mem.wf q.outMem = true := by simpa [State.held] using hw.outs h
  simpa [State.held, State.hostOut, State.modHost] using
    forall_modAt (P := fun q : HostPort => Mem.wf q.outMem = true) (fun _ hq => writeN_wf hq) before

@[simp] theorem outFails_held (h : Hdr) (code : Nat) (s : State) : (s.outFails h code).held = s.held := by
  simp [State.outFails]

@[simp] theorem queryPort_le (h : Hdr) (first count outAddr : Nat) (busOk : Bool) (s : State) {ρ : Bool} {w : Held} (hw : w.Le ρ s.held) :
    w.Le ρ (queryPort h first count outAddr busOk s).held := by
  simp [queryPort, hw]

@[simp] theorem health_le (h : Hdr) (outAddr outLen : Nat) (busOk : Bool) (s : State) {ρ : Bool} {w : Held} (hw : w.Le ρ s.held) :
    w.Le ρ (health h outAddr outLen busOk s).held := by
  simp [health, hw]

@[simp] theorem bindChan_held (ch vector source : Nat) (en : Bool) (s : State) : (s.bindChan ch vector source en).held = s.held := by
  simp [State.bindChan]

@[simp] theorem eventBind_held (h : Hdr) (ch vector source enable : Nat) (s : State) :
    (eventBind h ch vector source enable s).held = s.held := by
  simp [eventBind]

@[simp] theorem recMark_le (h : Hdr) (inst : Nat) (value : Word) (s : State) {ρ : Bool} {w : Held} (hw : w.Le ρ s.held) :
    w.Le ρ (recMark h inst value s).held := by
  simp [recMark, hw]

@[simp] theorem recExport_held (h : Hdr) (region src len outAddr : Nat) (s : State) :
    (recExport h region src len outAddr s).held = s.held := by
  simp [recExport, held_views]

@[simp] theorem exportDone_le (bytes : Nat) (busOk : Bool) (s : State) {ρ : Bool} {w : Held} (hw : w.Le ρ s.held) :
    w.Le ρ (exportDone bytes busOk s).held := by
  unfold exportDone
  split <;> simp [held_views, *]

@[simp] theorem syscalStart_held (h : Hdr) (core input stage : Nat) (q : Syscal) (s : State) :
    (s.syscalStart h core input stage q).held = s.held := (rfl)

@[simp] theorem syscalStore_held (h : Hdr) (x : Nat) (c0 : ℤ) (g : Nat) (s : State) : (s.syscalStore h x c0 g).held = s.held := by
  simp [State.syscalStore]

@[simp] theorem hkcSyscal_held (h : Hdr) (core input stage : Nat) (fsUv : ℤ) (s : State) :
    (hkcSyscal h core input stage fsUv s).held = s.held := by
  unfold hkcSyscal
  repeat' split
  all_goals simp [*]

@[simp] theorem netFailover_held (h : Hdr) (s : State) : (netFailover h s).held = s.held := by
  simp [netFailover]

@[simp] theorem byHost_held {p : Nat} {f : State → State} (hf : ∀ s, (f s).held = s.held) (s : State) : (s.byHost p f).held = s.held := by
  simp [State.byHost, hf]

@[simp] theorem commandTake_held (p : Nat) (s : State) : (commandTake p s).held = s.held := by
  simp [commandTake, held_views]

/-! ### A step -/

/-- The commands that end in a power-on reset (R303, R371). -/
def IsPowerOn (c : Instr) (s : State) : Prop :=
  c = .powerOnReset ∨ c = .supplyLoss .vcore ∨ c = .supplyLoss .vio ∨ s.sys.resetting = some .powerOn

/-- What a command may do to what is held: lose nothing, be a power-on reset, or seal an OPEN device with its key (R323). -/
inductive Kept (c : Instr) (s t : State) : Prop
  | keeps (r : Bool) (h : s.held.Le r t.held)
  | powerOn (h : IsPowerOn c s) (e : t = s.finishReset .powerOn)
  | seals (x : Held) (k : Nat) (opened : s.sys.lc = .open_) (h : s.held.Le false x)
      (e : t.held = { x with lc := .sealed_, keyFused := true, keyHash := k })

theorem Kept.le {c : Instr} {r : Bool} {s t u : State} (e : Host.Outcome.next u = (.next t : Host.Outcome State Fault Refusal))
    (h : s.held.Le r u.held) : Kept c s t := by
  cases e
  exact .keeps r h

theorem Kept.held {c : Instr} {s t u : State} (e : Host.Outcome.next u = (.next t : Host.Outcome State Fault Refusal))
    (h : u.held = s.held) : Kept c s t := .le (r := false) e (h ▸ Held.le_refl _ _)

theorem foldl_port {α : Type} {f : HostPort → α → HostPort} (hf : ∀ h a, (f h a).outMem = h.outMem) :
    ∀ (l : List α) (h : HostPort), (l.foldl f h).outMem = h.outMem
  | [], _ => rfl
  | a :: l, h => (foldl_port hf l (f h a)).trans (hf h a)

@[simp] theorem putEntries_outMem (es : List RawCmd) (h : HostPort) : (h.putEntries es).outMem = h.outMem := by
  unfold HostPort.putEntries
  refine foldl_port (fun q a => ?_) _ _
  rfl

theorem exec_kept {c : Instr} {s t : State} (h : exec c s = .next t) : Kept c s t := by
  cases c
  case powerOnReset =>
    cases h
    exact .powerOn (.inl rfl) rfl
  case supplyLoss rail =>
    by_cases core : rail = .vcore
    · subst core
      cases h
      exact .powerOn (.inr (.inl rfl)) rfl
    by_cases io : rail = .vio
    · subst io
      cases h
      exact .powerOn (.inr (.inr (.inl rfl))) rfl
    exact .held h (supplyLoss_held core io s)
  case deviceResetRampDone =>
    by_cases on : s.sys.resetting = some .powerOn
    · cases h
      exact .powerOn (.inr (.inr (.inr on))) (by simp [resetRampDone, on])
    · exact .le h (resetRampDone_le on (Held.le_refl _ _))
  case loadEnd =>
    cases h
    obtain kept | ⟨opened, x, k, kept, e⟩ := loadEnds_cases (Held.le_refl s.held false)
    · exact .keeps false kept
    · exact .seals x k opened kept e
  case ptapRangeStep c i =>
    cases h
    refine .keeps false ?_
    split <;> simp
  case thermalResume h' => exact .le h (run_le (fun t => thermalResume_le h' t) (Held.le_refl _ _))
  case thmResumeWrite v => exact .le h (thmResume_le v s (Held.le_refl _ _))
  case commandDoorbell p tail entries =>
    exact .held h (byHost_held (modHost_held fun q => by simp) s)
  -- commands that change nothing that is held
  case resetNReset | lcsSresetWrite | pllLock | refAbsentStart | haltUartReport | powerDomainUp | clusterRowPowerUp | clusterBoundary
       | loopPeriodDone | hPathUpdate | honlyDitherFlip | darkDetect | litDetect | frozenCodeRun | stuckRetestEnd | holdRecovery
       | pendRetireTimeout | engineLivenessFail | engineCheckpoint | fPadFault | darkTrimUpdate | heaterOcTrip | padcfgApply
       | rangeBreakEnd | sparePowered | spareLoaded | spareSelftestDone | clusterPowerDown | retireListAppend | islandInterval
       | isenseFault | budgetInterval | solverTakeItem | commitAtLoad | epochSeal | epochCommit | epochExpire | allowRetireMove
       | syscalCaptureDone | releaseGraceEnd | commandTake | completionHeadWrite | noticeHeadWrite | mbxEnableWrite | noticePost
       | eventDoorbell | mirrorRefresh | msixHoldoffEnd | hostLinkUp | incReload | nsWrap | eraWrite | eraAutoIncrement | topOfSecond
       | timeStepWrite | compareArm | compareDisarm | compareFire | captureStamp | captureSwTrigger | captureRead | ppsInQualified
       | ppsOutRise | ppsOutFall | servoUpdate | servoStateWrite | referenceReturn | ftLearn | ftTableSave | driftUpdate | announceTimeout
       | syntGateEnd | efcUpdate | ptpDelayReqSend | arpNdRequest | otherFrameRx | cleatWrite | cleatBbmRelease | linkChange
       | linkLossTrigger | failoverWrite | failingClear | failoverTimeout | holddownExpire | stormClear | linkStable | snapshotWrite
       | softwareFire | gpioInEdge | gpioPulseEnd | evtChCfgWrite | trippedClear | masterPortReopen | dmaDisable | dmaWaitResume
       | dmaWaitTimeout | dmaAccessError | dmaStopClear | refEnable | refReady | hkcConversionDone | hkcPassEnd | hkcSwStart
       | hkcCoreDisable | hkcDischargeEnd | hkcFlush | hkcFifoRead | censusPrioWrite | hkcSeqWrite | shutdownRampDone
       | shutdownRecordWrite | tailCapsuleWrite | watchdogRestartExpire | darkDeferredPowerDown | darkEntryDone | darkExitDone
       | calSweepDone | nvmTest | skimSnapshot | captureBlock | efcEnable | efcCodeWrite | resetRelease | imageStageDone =>
    exact .held h (by simp)
  -- commands that do not let RESUME act
  case lcsLcReqWrite | makerAuthorisation | sramWipeDone | loadImageCheck | ddrTrainingDone | dramWipeDone | powerDomainRequest
       | solveDone | epochReportWrite | fabEpCtrlWrite | hostPortReset | stepApply | timeLoad | netPathPowered | channelAccept
       | consumerArrive | consumerIdle | masterReset | hkcSlotEnd | firmwareReturn | firmwareFault | watchdogFirstExpire | blockWriteDone
       | ddrChannelFail | logRecordWrite | recCtrlFreeze | recExportDone =>
    exact .le (r := false) h (by simp)
  -- commands that may write a register
  case bar4Write | bar2Read | pairLowRead | braidPieceGrant | atomicOp | dmaPacedBlock | registerWrite =>
    exact .le (r := true) h (by simp)
  -- mailbox commands that change nothing that is held
  case planOpen | planAdd | planCommit | queryCell | timeGet | eventBind | recExport | hkcSyscal | netFailover | imageStage
       | imageActivate =>
    exact .held h (run_held fun t => by simp)
  -- mailbox commands that may change what is held
  case connect | disconnect | planAbort | queryPort | health | recMark | recFreeze | modeSet | calRequest =>
    exact .le (r := false) h (run_le (fun t ht => by simp [ht]) (by simp))
  case ppsInRise | referenceLoss | ftBinCommit | holdoverSpecExceeded | mtxErrRearm | watchdogKick | recCtrlCapEn | ppsInTimeout =>
    exact .held h (by simp [held_views])
  -- PTP messages
  case ptpSync | ptpFollowUp | ptpDelayResp | ptpAnnounce =>
    exact .held h (receive_held _ (fun t => by simp) _)
  -- DMA instructions
  case dmaNop | dmaMove | dmaFill | dmaCompare | dmaGather | dmaLoop | dmaEndloop | dmaWait | dmaSignal | dmaHalt =>
    exact .le h (dmaRow_le _ _ _ _ (fun i t ht => by simp [ht]) (by simp))
  case failoverTrigger =>
    exact .held h (by split <;> simp)
  case dmaStart =>
    exact .le (r := false) h (by split <;> simp)

/-- A command run on the queue's rest: what is held does not depend on the queue. -/
theorem step_kept {s t : State} (h : step s = .next t) :
    s.held.Le false t.held ∨ ∃ c cs, s.pending = c :: cs ∧ Kept c { s with pending := cs } t := by
  unfold step at h
  split at h
  · cases h
    exact .inl (by simp)
  · exact .inr ⟨_, _, ‹_›, exec_kept h⟩

theorem finishReset_outs (k : ResetKind) (s : State) : (s.finishReset k).held.outs = s.held.outs :=
  List.map_map

theorem finishReset_life (k : ResetKind) (s : State) : (s.finishReset k).sys.lc = s.sys.lc ∧
    (s.finishReset k).sys.keyFused = s.sys.keyFused ∧ (s.finishReset k).sys.keyHash = s.sys.keyHash := ⟨rfl, rfl, rfl⟩

/-! ### The invariants -/

theorem held_memory (s : State) : Safe.memory s ↔ Mem.wf s.held.mem = true ∧ ∀ m ∈ s.held.outs, Mem.wf m = true := by
  simp [Safe.memory, State.held]

theorem kept_memory {c : Instr} {s t : State} (h : Kept c s t) (safe : Safe.memory s) : Safe.memory t := by
  rw [held_memory] at safe ⊢
  cases h with
  | keeps r h => exact ⟨h.mem safe.1, h.outs safe.2⟩
  | powerOn _ e =>
    subst e
    exact ⟨safe.1, fun m hm => safe.2 m (finishReset_outs _ s ▸ hm)⟩
  | seals x k _ h e => rw [e]; exact ⟨h.mem safe.1, h.outs safe.2⟩

/-- Settles O58: every command keeps memory's form, whatever else it does. -/
theorem everyStepKeepsMemoryForm : Obligations.EveryStepKeepsMemoryForm := by
  unfold Obligations.EveryStepKeepsMemoryForm
  intro s t safe h
  obtain kept | ⟨c, cs, _, kept⟩ := step_kept h
  · exact kept_memory (c := .loadEnd) (.keeps false kept) safe
  · exact kept_memory (s := { s with pending := cs }) kept safe

/-- How the life cycle and its key may move (R322, R323). -/
theorem kept_life {c : Instr} {s t : State} (h : Kept c s t) :
    s.sys.lc.code ≤ t.sys.lc.code ∧ (s.sys.keyFused = true → t.sys.keyFused = true ∧ (s.sys.lc ≠ .open_ → t.sys.keyHash = s.sys.keyHash)) := by
  cases h with
  | keeps r h => exact ⟨h.lc, fun f => ⟨h.keyFused.trans f, fun _ => h.keyHash⟩⟩
  | powerOn _ e =>
    obtain ⟨lc, fused, hash⟩ := finishReset_life .powerOn s
    subst e
    exact ⟨lc ▸ Nat.le_refl _, fun f => ⟨fused.trans f, fun _ => hash⟩⟩
  | seals x k opened h e =>
    have lc : t.sys.lc = .sealed_ := congrArg Held.lc e
    have fused : t.sys.keyFused = true := congrArg Held.keyFused e
    exact ⟨by rw [opened, lc]; decide, fun _ => ⟨fused, fun n => absurd opened n⟩⟩

/-- Settles O59: the life cycle's code never falls, and only the sealing of an OPEN device fuses a key. -/
theorem lifeCycleOnlyMovesOn : Obligations.LifeCycleOnlyMovesOn := by
  unfold Obligations.LifeCycleOnlyMovesOn
  intro s t h
  obtain ⟨up, key⟩ : s.sys.lc.code ≤ t.sys.lc.code ∧
      (s.sys.keyFused = true → t.sys.keyFused = true ∧ (s.sys.lc ≠ .open_ → t.sys.keyHash = s.sys.keyHash)) := by
    obtain kept | ⟨c, cs, _, kept⟩ := step_kept h
    · exact kept_life (c := .loadEnd) (.keeps false kept)
    · exact kept_life (s := { s with pending := cs }) kept
  refine ⟨?_, ?_, ?_, ?_, key⟩
  all_goals
    intro at_
    rw [at_] at up
    revert up
    cases t.sys.lc <;> decide

/-- Settles O60: but for a power-on reset, only RESUME clears the latch, and only where the exit rule holds. -/
theorem safeLatchHolds : Obligations.SafeLatchHolds := by
  unfold Obligations.SafeLatchHolds
  intro s t notReset notCore notIo notRamp latch rule h
  obtain kept | ⟨c, cs, front, kept⟩ := step_kept h
  · exact kept.latch latch fun _ => rule
  cases kept with
  | keeps r kept => exact kept.latch latch fun _ => rule
  | powerOn on _ =>
    rw [front] at notReset notCore notIo
    obtain rfl | rfl | rfl | on := on
    · exact absurd rfl notReset
    · exact absurd rfl notCore
    · exact absurd rfl notIo
    · exact absurd on notRamp
  | seals x k _ kept e =>
    have : t.thm.safeLatch = x.latch := congrArg Held.latch e
    exact this.trans (kept.latch latch fun r => absurd r Bool.false_ne_true)

end Sys2Proof.Machine

/-! PROOFS. Device resets, the clock and CHURN (R303-R307). -/

namespace Sys2Proof.Machine

/-! ### What a reset leaves -/

theorem finishReset_hport (k : ResetKind) (s : State) (p : Nat) :
    (s.finishReset k).hport p = { outMem := (s.hport p).outMem, sent := (s.hport p).sent } :=
  List.getD_map s.hosts ({} : HostPort) fun h : HostPort => ({ outMem := h.outMem, sent := h.sent } : HostPort)

/-- The SAFE latch over a reset other than a power-on (R303). -/
theorem finishReset_thm {k : ResetKind} (other : k ≠ .powerOn) (s : State) : (s.finishReset k).thm =
    if s.thm.safeLatch = true then { safeLatch := true, cause := s.thm.cause, causeSensor := s.thm.causeSensor } else {} := by
  cases k with
  | powerOn => exact absurd rfl other
  | resetN | watchdog | steward | lifeCycle => rfl

theorem finishReset_sys {k : ResetKind} (other : k ≠ .powerOn) (s : State) : (s.finishReset k).sys =
    { State.reset.sys with keyFused := s.sys.keyFused, keyHash := s.sys.keyHash, lc := s.sys.lc, strap := s.sys.strap,
                           flash := s.sys.flash, uart := s.sys.uart, cause := k, held := decide (k = .resetN) } := by
  cases k with
  | powerOn => exact absurd rfl other
  | resetN | watchdog | steward | lifeCycle => rfl

theorem finishReset_power {k : ResetKind} (other : k ≠ .powerOn) (running : k ≠ .resetN) (s : State) :
    (s.finishReset k).power = { State.reset.power with braid := .on, sram := List.replicate 8 .on } := by
  cases k with
  | powerOn => exact absurd rfl other
  | resetN => exact absurd rfl running
  | watchdog | steward | lifeCycle => rfl

/-- Settles O4: every field of the state after a reset is the reset value or a kept one, as `finishReset` builds it. -/
theorem resetsComplete : Obligations.ResetsComplete := by
  unfold Obligations.ResetsComplete
  refine ⟨fun s => ⟨s.finishReset .powerOn, rfl, rfl, rfl, rfl, rfl, rfl, finishReset_hport _ s⟩, fun s k at_k other => ?_⟩
  refine ⟨s.finishReset k, by simp only [exec, execDeviceResetRampDone, resetRampDone, at_k], rfl, finishReset_sys other s, rfl,
    finishReset_hport k s, ?_, ?_, ?_, fun running => finishReset_power other running s, ?_, ?_⟩
  · intro latch
    rw [finishReset_thm other, if_pos latch]
    rfl
  · intro latch
    rw [finishReset_thm other, if_neg (by rw [latch]; exact Bool.false_ne_true)]
    rfl
  · rintro rfl
    rfl
  · rintro (rfl | rfl) <;> exact ⟨rfl, rfl⟩
  · rintro (rfl | rfl) <;> exact ⟨rfl, rfl⟩

/-! ### How a reset begins -/

/-- What the end of a substitution leaves of a cluster. -/
def Cluster.frame (k : Cluster) : DPow × Nat := (k.pow, k.cells.length)

theorem stopSpare_frame (r : Nat) (s : State) :
    s.stopSpare r = { s with clusters := (s.stopSpare r).clusters, spares := (s.stopSpare r).spares } := by
  unfold State.stopSpare
  dsimp only
  split <;> rfl

theorem stopSpareOver_frame (l : List Nat) (s : State) : l.foldl (fun s r => s.stopSpare r) s =
    { s with clusters := (l.foldl (fun s r => s.stopSpare r) s).clusters, spares := (l.foldl (fun s r => s.stopSpare r) s).spares } :=
  foldl_frame (fun s (q : List Cluster × List Spare) => { s with clusters := q.1, spares := q.2 }) (fun s => (s.clusters, s.spares))
    (fun _ => rfl) (fun _ _ _ => rfl) _ (fun s r => stopSpare_frame r s) l s

theorem stopSpares_frame (s : State) : s.stopSpares = { s with clusters := s.stopSpares.clusters, spares := s.stopSpares.spares } := by
  unfold State.stopSpares
  exact stopSpareOver_frame _ s

theorem stopSpare_clusters (r : Nat) (s : State) : (s.stopSpare r).clusters.map Cluster.frame = s.clusters.map Cluster.frame := by
  unfold State.stopSpare
  dsimp only
  split
  · exact map_modAt (fun k => by simp [Cluster.frame]) _ _
  · rfl

theorem stopSpares_clusters (s : State) : s.stopSpares.clusters.map Cluster.frame = s.clusters.map Cluster.frame := by
  unfold State.stopSpares
  exact foldl_keeps (fun s => s.clusters.map Cluster.frame) _ (fun s r => stopSpare_clusters r s) _ s

theorem stopSpares_clu (s : State) (c : Nat) : (s.stopSpares.clu c).frame = (s.clu c).frame := by
  have at_c := congrArg (fun l => l.getD c (Cluster.frame {})) (stopSpares_clusters s)
  rw [List.getD_map, List.getD_map] at at_c
  exact at_c

/-- The heaters ramp to zero, and the F pads are at zero drive from the start (R304). -/
theorem fastDown_on {k : Cluster} (on : k.pow = .on) {n : Nat} (h : n < k.cells.length) :
    k.fastDown.pdown = true ∧ (k.fastDown.cell n).uf = 0 ∧ (k.fastDown.cell n).fParked = true := by
  unfold Cluster.fastDown
  rw [if_neg (not_not_intro on)]
  refine ⟨rfl, ?_⟩
  simp [Cluster.cell, List.getD_eq_getElem?_getD, h]

/-- A cluster beyond the last one has no ramp. -/
theorem fastDown_default : Cluster.fastDown {} = {} := by
  unfold Cluster.fastDown
  exact if_pos DPow.noConfusion

/-- A cluster after a change of every cluster that leaves those beyond the last one. -/
theorem clu_map {f : Cluster → Cluster} (l : List Cluster) (beyond : f {} = {}) (c : Nat) : (l.map f).getD c {} = f (l.getD c {}) := by
  have at_c := List.getD_map (n := c) l ({} : Cluster) f
  rwa [beyond] at at_c

/-- The state of a reset's ramp, with these clusters and spares. -/
def State.inRamp (k : ResetKind) (cs : List Cluster) (ps : List Spare) (s : State) : State :=
  { s with clusters := cs, spares := ps, sys := { s.sys with resetting := some k } }

/-- The clusters that run ramp their heaters to zero, with the F pads at zero drive (R304). -/
def rampFrom (l m : List Cluster) : Prop := ∀ c n, (l.getD c {}).pow = .on → n < (l.getD c {}).cells.length →
  (m.getD c {}).pdown = true ∧ ((m.getD c {}).cell n).uf = 0 ∧ ((m.getD c {}).cell n).fParked = true

theorem stopSpares_ramp (s : State) : rampFrom s.clusters (s.stopSpares.clusters.map Cluster.fastDown) := by
  intro c n on h
  obtain ⟨pow, len⟩ := Prod.mk.inj (stopSpares_clu s c)
  rw [clu_map _ fastDown_default]
  exact fastDown_on (pow.trans on) (h.trans_eq len.symm)

/-- A reset that begins (R304). -/
theorem beginReset_ramp {k : ResetKind} {s : State} (up : s.sys.held = false) (no : s.sys.resetting = none)
    (going : s.sys.halt = 0 ∨ k = .resetN) : ∃ cs ps, s.beginReset k = s.inRamp k cs ps ∧ rampFrom s.clusters cs := by
  have serves : ¬(s.sys.held = true ∨ s.sys.halt ≠ 0 ∧ k ≠ .resetN) := by
    rintro (h | ⟨h, h'⟩)
    · simp [up] at h
    · exact going.elim h h'
  refine ⟨_, s.stopSpares.spares, ?_, stopSpares_ramp s⟩
  have frame := stopSpares_frame s
  unfold State.beginReset State.inRamp
  rw [if_neg serves, no, if_neg (by simp)]
  generalize s.stopSpares = u at frame ⊢
  rw [frame]

/-- A transition of the life cycle that LCSTRAP allows begins its reset (R322, R324). -/
theorem lifeCycle_ramp {s : State} {d : LcState} (allowed : s.sys.lc.leaves d = true) (strap : s.sys.strap = true)
    (up : s.sys.held = false) (no : s.sys.resetting = none) (going : s.sys.halt = 0) : ∃ cs ps, s.lifeCycle d =
      ({ s with sys := { s.sys with lc := d, flash := if d = .open_ then s.sys.flash else s.sys.flash.map eraseFlash } } : State).inRamp
        .lifeCycle cs ps := by
  unfold State.lifeCycle
  rw [if_pos ⟨strap, allowed, no, up, going⟩]
  obtain ⟨cs, ps, e, _⟩ := beginReset_ramp (k := .lifeCycle) (s := { s with sys :=
    { s.sys with lc := d, flash := if d = .open_ then s.sys.flash else s.sys.flash.map eraseFlash } }) up no (.inl going)
  exact ⟨cs, ps, e⟩

/-- What `LCS_SRESET` asks of a write that resets (R337). -/
theorem sresetKey_iff (v : Word) (s : State) :
    (decide (v.toNat % 65536 = 0xA5C3) && (bit v.toNat 16 || s.fab.circuits.isEmpty) && decide (s.sys.halt = 0)) = true ↔
      (v.toNat % 65536 = 0xA5C3 ∧ (v.toNat / 65536 % 2 = 1 ∨ s.fab.circuits = [])) ∧ s.sys.halt = 0 := by
  simp [bit]

theorem sresetWrite_ok {s : State} {m : Nat} {v : Word} (may : s.rwsWriter m = true) (on : s.power.periph = .on)
    (key : v.toNat % 65536 = 0xA5C3 ∧ (v.toNat / 65536 % 2 = 1 ∨ s.fab.circuits = [])) (going : s.sys.halt = 0) : s.sresetWrite m v =
      ({ s with sys := { s.sys with srForce := decide (v.toNat / 65536 % 2 = 1), srRefused := false } } : State).beginReset .steward := by
  unfold State.sresetWrite
  rw [if_neg (by simp [may, on])]
  dsimp only
  have force : bit v.toNat 16 = decide (v.toNat / 65536 % 2 = 1) := rfl
  simp only [(sresetKey_iff v s).2 ⟨key, going⟩, if_true, Bool.not_true]
  rw [force]

theorem sresetWrite_refused {s : State} {m : Nat} {v : Word} (may : s.rwsWriter m = true) (on : s.power.periph = .on)
    (bad : ¬(v.toNat % 65536 = 0xA5C3 ∧ (v.toNat / 65536 % 2 = 1 ∨ s.fab.circuits = [])) ∨ s.sys.halt ≠ 0) :
    s.sresetWrite m v = { s with sys := { s.sys with srRefused := true } } := by
  have no := Bool.eq_false_iff.2 fun ok => bad.elim (fun h => h ((sresetKey_iff v s).1 ok).1) (fun h => h ((sresetKey_iff v s).1 ok).2)
  unfold State.sresetWrite
  rw [if_neg (by simp [may, on])]
  dsimp only
  simp only [no, Bool.false_eq_true, if_false, Bool.not_false]

/-- Settles O5: each command reaches `beginReset` with nothing that keeps the reset back, which begins the ramp. -/
theorem deviceResetsBegin : Obligations.DeviceResetsBegin := by
  unfold Obligations.DeviceResetsBegin
  refine ⟨fun s no up => ⟨fun lowNs long => ?_, fun lowNs short => ?_⟩, fun s no up going => ⟨?_, ?_, ?_, ?_⟩, ?_, ?_⟩
  · obtain ⟨cs, ps, e, ramp⟩ := beginReset_ramp (k := .resetN) up no (.inr rfl)
    have begun : resetN lowNs s = s.beginReset .resetN := by
      unfold resetN
      rw [if_neg (by omega), if_pos long]
    exact ⟨_, congrArg Host.Outcome.next (begun.trans e), rfl, rfl, ramp⟩
  · simp [exec, execResetNReset, resetN, short]
  · intro m v may on key free
    obtain ⟨cs, ps, e, ramp⟩ := beginReset_ramp (k := .steward)
      (s := { s with sys := { s.sys with srForce := decide (v.toNat / 65536 % 2 = 1), srRefused := false } }) up no (.inl going)
    exact ⟨_, congrArg Host.Outcome.next ((sresetWrite_ok may on ⟨key, free⟩ going).trans e), rfl, rfl, ramp⟩
  · intro strap lc
    have allowed : s.sys.lc.leaves .returned = true := by obtain h | h := lc <;> rw [h] <;> rfl
    have notMaker : s.sys.lc ≠ .maker := by obtain h | h := lc <;> rw [h] <;> exact LcState.noConfusion
    obtain ⟨cs, ps, e⟩ := lifeCycle_ramp allowed strap up no going
    have made : makerAuthorised s = s.lifeCycle .returned := by rw [makerAuthorised, if_neg notMaker]
    exact ⟨_, congrArg Host.Outcome.next (made.trans e), rfl, rfl⟩
  · intro strap lc
    obtain ⟨cs, ps, e⟩ := lifeCycle_ramp (d := .open_) (by rw [lc]; rfl) strap up no going
    have made : makerAuthorised s = s.lifeCycle .open_ := by rw [makerAuthorised, if_pos lc]
    exact ⟨_, congrArg Host.Outcome.next (made.trans e), rfl, rfl⟩
  · intro m v strap lc may on key
    have allowed : s.sys.lc.leaves .ended = true := by obtain h | h | h := lc <;> rw [h] <;> rfl
    obtain ⟨cs, ps, e⟩ := lifeCycle_ramp allowed strap up no going
    have asked : s.lcReqWrite m.val v = s.lifeCycle .ended := by rw [State.lcReqWrite, if_neg (by simp [may, on, key])]
    exact ⟨_, congrArg Host.Outcome.next (asked.trans e), rfl, rfl⟩
  · intro s m v may on bad
    exact congrArg Host.Outcome.next (sresetWrite_refused may on bad)
  · intro s halted
    simp [exec, execMakerAuthorisation, makerAuthorised, State.lifeCycle, halted]

/-! ### CHURN -/

/-- A byte after a fill of zero (R307). -/
theorem read_clear (p : Nat → Bool) (a : Nat) : ∀ m : List Host.Cell, Mem.read (Mem.clear p m) a = if p a = true then 0 else Mem.read m a
  | [] => by simp [Mem.clear, Mem.read, Mem.blank]
  | c :: m => by
    have ih := read_clear p a m
    unfold Mem.clear at ih ⊢
    by_cases here : c.1 = a
    · subst here
      by_cases gone : p c.1 = true
      · simp [gone] at ih ⊢
        exact ih
      · simp [gone, Mem.read]
    · by_cases gone : p c.1 = true
      · simpa [gone, Mem.read, here] using ih
      · simpa [gone, Mem.read, here] using ih

/-- A change of mode, with what it leaves to the ports and to the log (R211, R312). -/
theorem setMode_eq (m : Mode) (s : State) : ∃ ho ld, s.setMode m =
    { s with sys := { s.sys with mode := m }, hosts := ho, rcd := { s.rcd with logDue := ld } } :=
  ⟨_, _, setMode_frame m s⟩

/-- What a failed check records (R309, R336). -/
theorem bootFail_eq (f : BootFail) (s : State) :
    ∃ t o r, s.bootFail f = { s with sys := { s.sys with bootTag := t, bootOfs := o, bootRule := r } } := by
  unfold State.bootFail
  split <;> exact ⟨_, _, _, rfl⟩

/-- A halt (R309). -/
theorem haltAt_eq (cause : Nat) (s : State) : ∃ ho ld, s.haltAt cause =
    { s with sys := { s.sys with mode := .load, halt := cause }, hosts := ho, rcd := { s.rcd with logDue := ld },
             power := { s.power with periph := .on, pcie := List.replicate 4 .on } } := by
  obtain ⟨ho, ld, e⟩ := setMode_eq .load s
  exact ⟨ho, ld, by rw [State.haltAt, e]⟩

/-- A halt at the first failed check. -/
theorem failHalt_eq (f : BootFail) (cause : Nat) (s : State) : ∃ t o r ho ld, (s.bootFail f).haltAt cause =
    { s with sys := { s.sys with mode := .load, halt := cause, bootTag := t, bootOfs := o, bootRule := r }, hosts := ho,
             rcd := { s.rcd with logDue := ld }, power := { s.power with periph := .on, pcie := List.replicate 4 .on } } := by
  obtain ⟨t, o, r, e⟩ := bootFail_eq f s
  obtain ⟨ho, ld, h⟩ := haltAt_eq cause (s.bootFail f)
  exact ⟨t, o, r, ho, ld, by rw [h, e]⟩

/-- A supply other than VCORE and VIO is lost: every pad parks (R371). -/
theorem parkAll_cell {k : Cluster} {n : Nat} (h : n < k.cells.length) : (k.parkAll.cell n).parked = true ∧ (k.parkAll.cell n).fParked = true ∧
    (k.parkAll.cell n).uh = 0 ∧ (k.parkAll.cell n).uf = 0 := by
  simp [Cluster.parkAll, Cluster.cell, List.getD_eq_getElem?_getD, h, parkPads]

/-- Whether a cluster is there or is one beyond the last, its pads are parked. -/
theorem parkAll_clu {l : List Cluster} {c n : Nat} (h : n < (l.getD c {}).cells.length) :
    (((l.map Cluster.parkAll).getD c {}).cell n).parked = true ∧ (((l.map Cluster.parkAll).getD c {}).cell n).fParked = true ∧
      (((l.map Cluster.parkAll).getD c {}).cell n).uh = 0 ∧ (((l.map Cluster.parkAll).getD c {}).cell n).uf = 0 := by
  have beyond : Cluster.parkAll {} = {} := rfl
  rw [clu_map _ beyond]
  exact parkAll_cell h

/-- The SRAM fill that ends well, before the checks that follow it (R307). -/
def State.sramFilled (s : State) : State :=
  { s with mem := Mem.clear inSram s.mem, sys := { s.sys with sramOk := true, wdtAt := s.now },
           power := { s.power with periph := .on, pcie := List.replicate 4 .on } }

theorem sramFilled_read (s : State) (a : Nat) : Mem.read s.sramFilled.mem a =
    if 0x2000000000 ≤ a ∧ a < 0x2002000000 then 0 else Mem.read s.mem a := by
  rw [State.sramFilled, read_clear]
  simp [inSram]

theorem sramFails {s : State} (churn : s.sys.mode = .churn) (up : s.sys.held = false) (no : s.sys.resetting = none) (first : s.sys.sramOk = false)
    (rom : Bool) : sramWiped false rom s = (s.bootFail ⟨0, 0, 307⟩).haltAt 1 := by
  unfold sramWiped
  rw [if_neg (by simp [churn, up, no, first]), if_pos rfl]

theorem sramEnds {s : State} (churn : s.sys.mode = .churn) (up : s.sys.held = false) (no : s.sys.resetting = none) (first : s.sys.sramOk = false)
    (rom : Bool) : sramWiped true rom s =
      if s.sys.lc = .returned ∨ s.sys.lc = .ended then s.sramFilled
      else if rom = false then (s.sramFilled.bootFail ⟨0, 0, 336⟩).haltAt 4
      else { s.sramFilled.setMode .load with sys := { (s.sramFilled.setMode .load).sys with stage := 1 },
                                             power := { (s.sramFilled.setMode .load).power with cores := List.replicate 4 .on, hkc := .on } } := by
  unfold sramWiped
  rw [if_neg (by simp [churn, up, no, first]), if_neg (by simp)]
  rfl

/-- What the fill of SRAM leaves, whatever follows it. -/
theorem sramEnds_filled {s : State} (churn : s.sys.mode = .churn) (up : s.sys.held = false) (no : s.sys.resetting = none)
    (first : s.sys.sramOk = false) (rom : Bool) : (sramWiped true rom s).sys.sramOk = true ∧ (sramWiped true rom s).power.periph = .on ∧
      (sramWiped true rom s).mem = s.sramFilled.mem := by
  obtain ⟨t, o, r, ho, ld, halts⟩ := failHalt_eq ⟨0, 0, 336⟩ 4 s.sramFilled
  obtain ⟨ho', ld', loads⟩ := setMode_eq .load s.sramFilled
  rw [sramEnds churn up no first, halts, loads]
  split
  · exact ⟨rfl, rfl, rfl⟩
  split
  · exact ⟨rfl, rfl, rfl⟩
  · exact ⟨rfl, rfl, rfl⟩

/-- Settles O6: the SRAM fill's end is one of three states, each written out by `sramEnds`. -/
theorem startUpClockAndSram : Obligations.StartUpClockAndSram := by
  unfold Obligations.StartUpClockAndSram
  refine ⟨fun s strap held => ?_, fun s rail core io => ?_, fun s freq up unlocked stopped => ?_, fun s stopped load => ?_,
    fun s churn up no first => ⟨fun rom => ?_, fun rom => ?_⟩⟩
  · have released : resetRelease strap s = { s with sys := { s.sys with held := false, strap := strap, supplyOut := false },
                                                     power := { s.power with braid := .on, sram := List.replicate 8 .on } } := by
      rw [resetRelease, if_neg (by simp [held])]
    exact ⟨_, congrArg Host.Outcome.next released, rfl, rfl, rfl⟩
  · have lost : supplyLoss rail s = { s with clusters := s.clusters.map Cluster.parkAll, sys := { s.sys with supplyOut := true } } := by
      cases rail with
      | vcore => exact absurd rfl core
      | vio => exact absurd rfl io
      | vana | vhtr | vneg | vddq | vserdes => rfl
    exact ⟨_, congrArg Host.Outcome.next lost, rfl, rfl, fun c n h => parkAll_clu h⟩
  · refine congrArg Host.Outcome.next ?_
    rw [pllLocked, if_neg (by simp [up, unlocked]), if_neg (by simp [stopped])]
  · refine congrArg Host.Outcome.next ?_
    rw [refAbsent, if_neg (by simp [stopped, load])]
  · obtain ⟨ok, on, filled⟩ := sramEnds_filled churn up no first rom
    refine ⟨_, rfl, ok, on, fun a lo hi => ?_, fun a out => ?_, fun nr ne at_rom => ?_, fun nr ne at_rom => ?_, fun gone => ?_⟩
    · exact (congrArg (Mem.read · a) filled).trans ((sramFilled_read s a).trans (if_pos ⟨lo, hi⟩))
    · exact (congrArg (Mem.read · a) filled).trans ((sramFilled_read s a).trans (if_neg (by omega)))
    · obtain ⟨ho, ld, loads⟩ := setMode_eq .load s.sramFilled
      dsimp only
      rw [sramEnds churn up no first, if_neg (by simp [nr, ne]), if_neg (by simp [at_rom]), loads]
      exact ⟨rfl, rfl, rfl, rfl, rfl⟩
    · obtain ⟨t, o, r, ho, ld, halts⟩ := failHalt_eq ⟨0, 0, 336⟩ 4 s.sramFilled
      dsimp only
      rw [sramEnds churn up no first, if_neg (by simp [nr, ne]), if_pos at_rom, halts]
      exact ⟨rfl, rfl, rfl⟩
    · dsimp only
      rw [sramEnds churn up no first, if_pos gone]
      exact ⟨churn, rfl⟩
  · obtain ⟨t, o, r, ho, ld, halts⟩ := failHalt_eq ⟨0, 0, 307⟩ 1 s
    exact ⟨_, congrArg Host.Outcome.next ((sramFails churn up no first rom).trans halts), rfl, rfl, rfl, rfl⟩

end Sys2Proof.Machine

/-! PROOFS. LOAD: the image check, DRAM, and the mode that LOAD ends in (R306-R332). -/

namespace Sys2Proof.Machine

/-! ### The image check -/

/-- The flash that the image check meets is taken (R333). -/
def State.flashTaken (fl : Option Flash) (s : State) : State :=
  { s with sys := { s.sys with flash := fl, present := fl.isSome, absent := fl.isNone, answers := fl.isSome,
                               idJedec := match fl with | none => 0 | some f => f.jedec,
                               idSfdp := match fl with | none => [] | some f => f.sfdp } }

theorem imageCheck_eq {s : State} (load : s.sys.mode = .load) (stage : s.sys.stage = 1) (fw : s.firmware = true) (run : s.time.run = true)
    (flash : Option Flash) : imageCheck flash s =
      if s.sys.lc = .maker then ((s.flashTaken ((flash.orElse (fun _ => s.sys.flash)).filter Flash.signed)).bootFail ⟨0, 0, 322⟩).haltAt 2
      else match (flash.orElse (fun _ => s.sys.flash)).filter Flash.signed with
        | none => ((s.flashTaken ((flash.orElse (fun _ => s.sys.flash)).filter Flash.signed)).bootFail ⟨0, 0, 321⟩).haltAt 2
        | some f => tryImages f (slotOrder (slotGen f.slotA) (slotGen f.slotB)) (s.flashTaken ((flash.orElse (fun _ => s.sys.flash)).filter Flash.signed)) := by
  unfold imageCheck
  rw [if_neg (by simp [load, stage, fw, run])]
  rfl

/-- A flash that answers, in a device that may run its image: the slots are tried in the order of their generations. -/
theorem imageCheck_tries {s : State} {f : Flash} (load : s.sys.mode = .load) (stage : s.sys.stage = 1) (fw : s.firmware = true)
    (run : s.time.run = true) (signed : f.signed = true) (lc : s.sys.lc ≠ .maker) : imageCheck (some f) s =
      tryImages f (slotOrder (slotGen f.slotA) (slotGen f.slotB)) (s.flashTaken (some f)) := by
  have found : ((some f).orElse (fun _ => s.sys.flash)).filter Flash.signed = some f := by simp [Option.filter, signed]
  rw [imageCheck_eq load stage fw run, if_neg lc, found]

/-- The check of a slot reads the life cycle, the fused key and the reference alone. -/
theorem trySlot_sys (f : Flash) (k : Nat) (s : State) {y : Sys} (lc : y.lc = s.sys.lc) (key : y.keyHash = s.sys.keyHash) :
    ({ s with sys := y } : State).trySlot f k = s.trySlot f k := by
  simp only [State.trySlot, lc, key]

/-- The image in a slot runs, and the domains that it needs are switched on (R306). -/
def State.imageRuns (k : Nat) (b : List Byte) (s : State) : State :=
  { s with sys := { s.sys with img := some { bytes := b, image := imageOf b }, imgSlot := k, genImg := (readHdr b).generation, stage := 2,
                               ddrOk := [false, false], ddrTrained := [false, false],
                               ddrDone := [!((imageOf b).dram.getD 0 {}).fitted, !((imageOf b).dram.getD 1 {}).fitted] },
           power := { s.power with ddr := [if ((imageOf b).dram.getD 0 {}).fitted then .on else .off,
                                           if ((imageOf b).dram.getD 1 {}).fitted then .on else .off],
                                   recorder := .on, dma := .on, solver := .on } }

theorem tryImages_good {f : Flash} {k : Nat} {ks : List Nat} {b : List Byte} {s : State} (good : s.trySlot f k = .inr b) :
    tryImages f (k :: ks) s = (s.imageRuns k b).ddrEnd := by
  rw [tryImages, good]
  rfl

/-- A slot that fails its check is marked, and the failure recorded where it is the first (R309, R336). -/
def State.slotFails (k : Nat) (e : BootFail) (s : State) : State :=
  ({ s with sys := { s.sys with imgFail := setAt true k s.sys.imgFail } } : State).bootFail e

theorem tryImages_bad {f : Flash} {k : Nat} {ks : List Nat} {e : BootFail} {s : State} (bad : s.trySlot f k = .inl e) :
    tryImages f (k :: ks) s = tryImages f ks (s.slotFails k e) := by
  rw [tryImages, bad]
  rfl

theorem slotFails_eq (k : Nat) (e : BootFail) (s : State) : ∃ t o r, s.slotFails k e =
    { s with sys := { s.sys with imgFail := setAt true k s.sys.imgFail, bootTag := t, bootOfs := o, bootRule := r } } ∧
      (s.sys.bootRule = 0 → t = e.tag ∧ o = e.ofs ∧ r = e.rule) ∧
      (s.sys.bootRule ≠ 0 → t = s.sys.bootTag ∧ o = s.sys.bootOfs ∧ r = s.sys.bootRule) := by
  unfold State.slotFails State.bootFail
  split
  · rename_i recorded
    exact ⟨_, _, _, rfl, fun first => absurd first recorded, fun _ => ⟨rfl, rfl, rfl⟩⟩
  · rename_i first
    exact ⟨_, _, _, rfl, fun _ => ⟨rfl, rfl, rfl⟩, fun recorded => absurd recorded first⟩

/-- Both slots fail: start-up halts, with the first failure recorded (R309). -/
theorem tryImages_both {f : Flash} {k1 k2 : Nat} {e1 e2 : BootFail} {s : State} (bad1 : s.trySlot f k1 = .inl e1)
    (bad2 : s.trySlot f k2 = .inl e2) : ∃ t, tryImages f [k1, k2] s = t ∧ t.sys.halt = 2 ∧ t.sys.mode = .load ∧
      t.sys.imgFail = setAt true k2 (setAt true k1 s.sys.imgFail) ∧ t.sys.img = s.sys.img ∧
      (s.sys.bootRule = 0 → e1.rule ≠ 0 → t.sys.bootTag = e1.tag ∧ t.sys.bootOfs = e1.ofs ∧ t.sys.bootRule = e1.rule) := by
  obtain ⟨t1, o1, r1, fails1, first1, _⟩ := slotFails_eq k1 e1 s
  obtain ⟨t2, o2, r2, fails2, _, kept2⟩ := slotFails_eq k2 e2 (s.slotFails k1 e1)
  obtain ⟨ho, ld, halts⟩ := haltAt_eq 2 ((s.slotFails k1 e1).slotFails k2 e2)
  have bad2' : (s.slotFails k1 e1).trySlot f k2 = .inl e2 := by
    rw [fails1]
    exact (trySlot_sys f k2 s rfl rfl).trans bad2
  refine ⟨_, rfl, ?_⟩
  rw [tryImages_bad bad1, tryImages_bad bad2', tryImages, halts, fails2]
  rw [fails1] at kept2 ⊢
  refine ⟨rfl, rfl, rfl, rfl, fun first rule => ?_⟩
  obtain ⟨rfl, rfl, rfl⟩ := first1 first
  exact kept2 rule

/-- A channel that the image fits holds DRAM start-up open. -/
theorem ddrEnd_imageRuns {k : Nat} {b : List Byte} {s : State} (load : s.sys.mode = .load)
    (fits : ((imageOf b).dram.getD 0 {}).fitted = true ∨ ((imageOf b).dram.getD 1 {}).fitted = true) :
    (s.imageRuns k b).ddrEnd = s.imageRuns k b := by
  unfold State.ddrEnd
  rw [if_neg (by simp [State.imageRuns, load]), if_neg ?_, if_neg ?_, if_neg (by simp [State.imageRuns])]
  · rintro ⟨-, zero, one⟩
    obtain h | h := fits <;> simp [State.ddrPast, State.imageRuns] at zero one <;> simp_all
  · rintro ⟨done, -⟩
    obtain h | h := fits <;> simp [State.imageRuns] at done <;> simp_all

/-- An image that fits no channel halts start-up (R307). -/
theorem ddrEnd_unfit {k : Nat} {b : List Byte} {s : State} (load : s.sys.mode = .load)
    (none0 : ((imageOf b).dram.getD 0 {}).fitted = false) (none1 : ((imageOf b).dram.getD 1 {}).fitted = false) :
    (s.imageRuns k b).ddrEnd = ((s.imageRuns k b).bootFail ⟨0, 0, 307⟩).haltAt 3 := by
  unfold State.ddrEnd
  rw [if_neg (by simp [State.imageRuns, load]), if_pos]
  simp only [State.imageRuns, none0, none1]
  exact ⟨rfl, rfl⟩

/-- An erased or missing slot has no generation, so the other one is tried first (R326). -/
theorem slotOrder_alone {f : Flash} {k : Nat} (hk : k ≤ 1) (there : slotErased (f.image k) = false) (gone : f.image (1 - k) = none) :
    slotOrder (slotGen f.slotA) (slotGen f.slotB) = [k, 1 - k] := by
  have gen (q : Option ImageSlot) (h : slotErased q = false) : ∃ w, slotGen q = some w := by
    cases q with
    | none => exact Bool.noConfusion h
    | some q => exact ⟨genOf q, by simp [slotGen, h]⟩
  have last : slotGen (none : Option ImageSlot) = none := rfl
  obtain rfl | rfl : k = 0 ∨ k = 1 := by omega
  · obtain ⟨w, hw⟩ := gen f.slotA there
    have noB : f.slotB = none := gone
    rw [hw, noB, last]
    rfl
  · obtain ⟨w, hw⟩ := gen f.slotB there
    have noA : f.slotA = none := gone
    rw [hw, noA, last]
    rfl

/-- Settles O7: LOAD tries the slots in order; what each outcome leaves is `imageRuns` or a halt. -/
theorem imageCheckChoosesSlot : Obligations.ImageCheckChoosesSlot := by
  unfold Obligations.ImageCheckChoosesSlot
  refine ⟨?_, ?_, ?_, ?_, ?_, ?_, ?_⟩
  · intro s f k ks b load stage fw run signed lc order good fits
    have good' : (s.flashTaken (some f)).trySlot f k = .inr b := (trySlot_sys f k s rfl rfl).trans good
    have runs : imageCheck (some f) s = (s.flashTaken (some f)).imageRuns k b := by
      rw [imageCheck_tries load stage fw run signed lc, order, tryImages_good good', ddrEnd_imageRuns (s := s.flashTaken (some f)) load fits]
    exact ⟨_, congrArg Host.Outcome.next runs, rfl, rfl, rfl, rfl, rfl, rfl, rfl, rfl, rfl, rfl, rfl, rfl, rfl, rfl⟩
  · intro s f k1 k2 e b load stage fw run signed lc order bad good fits
    obtain ⟨t, o, r, fails, _, _⟩ := slotFails_eq k1 e (s.flashTaken (some f))
    have bad' : (s.flashTaken (some f)).trySlot f k1 = .inl e := (trySlot_sys f k1 s rfl rfl).trans bad
    have good' : ((s.flashTaken (some f)).slotFails k1 e).trySlot f k2 = .inr b := by
      rw [fails]
      exact (trySlot_sys f k2 s rfl rfl).trans good
    have runs : imageCheck (some f) s = ((s.flashTaken (some f)).slotFails k1 e).imageRuns k2 b := by
      rw [imageCheck_tries load stage fw run signed lc, order, tryImages_bad bad', tryImages_good good', ddrEnd_imageRuns (by rw [fails]; exact load) fits]
    rw [fails] at runs
    exact ⟨_, congrArg Host.Outcome.next runs, rfl, rfl, rfl, rfl, rfl, rfl⟩
  · intro s f k ks b load stage fw run signed lc order good none0 none1
    obtain ⟨t, o, r, ho, ld, halts⟩ := failHalt_eq ⟨0, 0, 307⟩ 3 ((s.flashTaken (some f)).imageRuns k b)
    have good' : (s.flashTaken (some f)).trySlot f k = .inr b := (trySlot_sys f k s rfl rfl).trans good
    have stops := imageCheck_tries load stage fw run signed lc
    rw [order, tryImages_good good', ddrEnd_unfit (s := s.flashTaken (some f)) load none0 none1, halts] at stops
    exact ⟨_, congrArg Host.Outcome.next stops, rfl, rfl, rfl⟩
  · intro s f k1 k2 e1 e2 load stage fw run signed lc order bad1 bad2
    obtain ⟨t, both, halt, mode, marked, img, boot⟩ := tryImages_both (s := s.flashTaken (some f))
      ((trySlot_sys f k1 s rfl rfl).trans bad1) ((trySlot_sys f k2 s rfl rfl).trans bad2)
    have checks : imageCheck (some f) s = t := by rw [imageCheck_tries load stage fw run signed lc, order, both]
    exact ⟨t, congrArg Host.Outcome.next checks, halt, mode, marked, img, boot⟩
  · intro s f k e load stage fw run signed lc hk there gone bad
    have none' : s.trySlot f (1 - k) = .inl ⟨0, 0, 321⟩ := by rw [State.trySlot, gone]
    obtain ⟨t, both, halt, mode, marked, img, boot⟩ := tryImages_both (s := s.flashTaken (some f))
      ((trySlot_sys f k s rfl rfl).trans bad) ((trySlot_sys f (1 - k) s rfl rfl).trans none')
    have checks : imageCheck (some f) s = t := by
      rw [imageCheck_tries load stage fw run signed lc, slotOrder_alone hk there gone, both]
    exact ⟨t, congrArg Host.Outcome.next checks, halt, mode, marked, img, boot⟩
  · intro s f load stage fw run why
    have halts (r : Nat) (fl : Option Flash) : ∃ t, ((s.flashTaken fl).bootFail ⟨0, 0, r⟩).haltAt 2 = t ∧ t.sys.halt = 2 ∧ t.sys.mode = .load ∧
        t.sys.absent = fl.isNone ∧ t.sys.img = s.sys.img := by
      obtain ⟨_, _, _, _, _, e⟩ := failHalt_eq ⟨0, 0, r⟩ 2 (s.flashTaken fl)
      exact ⟨_, e, rfl, rfl, rfl, rfl⟩
    have checks := imageCheck_eq load stage fw run f
    by_cases maker : s.sys.lc = .maker
    · rw [if_pos maker] at checks
      obtain ⟨t, e, left⟩ := halts 322 ((f.orElse (fun _ => s.sys.flash)).filter Flash.signed)
      exact ⟨t, congrArg Host.Outcome.next (checks.trans e), left⟩
    · have absent := why.resolve_left maker
      rw [if_neg maker, absent] at checks
      obtain ⟨t, e, left⟩ := halts 321 none
      exact ⟨t, congrArg Host.Outcome.next (checks.trans e), by rwa [absent]⟩
  · intro s halted
    have reports : haltReport s = { s with sys := { s.sys with uart := s.sys.uart ++ [(s.sys.stage, s.sys.halt, s.sys.bootTag, s.sys.bootOfs, s.sys.bootRule)] } } :=
      if_neg halted
    exact ⟨_, congrArg Host.Outcome.next reports, rfl, rfl⟩

/-! ### DRAM start-up (R307) -/

/-- What DRAM start-up reads and leaves of the system registers. -/
def Sys.dram (y : Sys) : Mode × Nat × List Bool × List Bool × List Bool × List Bool :=
  (y.mode, y.halt, y.ddrFail, y.ddrDone, y.ddrOk, y.ddrTrained)

theorem dram_iff {y z : Sys} : y.dram = z.dram ↔ y.mode = z.mode ∧ y.halt = z.halt ∧ y.ddrFail = z.ddrFail ∧ y.ddrDone = z.ddrDone ∧
    y.ddrOk = z.ddrOk ∧ y.ddrTrained = z.ddrTrained := by
  simp only [Sys.dram, Prod.mk.injEq]

theorem useAtlas_dram (q : Option (Nat × AtlasSlot)) (y : Sys) : (y.useAtlas q).dram = y.dram := by
  cases q <;> rfl

theorem useAtlas_atlas (q : Option (Nat × AtlasSlot)) (y : Sys) : (y.useAtlas q).atlas = q.map (·.2) := by
  cases q <;> rfl

theorem refreshAll_sys (s : State) : s.refreshAll.sys = s.sys := by rw [refreshAll_frame]

theorem setSrv_sys (n : SrvState) (s : State) : (s.setSrv n).sys = s.sys := by rw [setSrv_frame]

theorem rebuildOrigin_sys (s : State) : s.rebuildOrigin.sys = s.sys := by
  unfold State.rebuildOrigin
  extract_lets t now top o u
  have kept : u.sys = s.sys := refreshAll_sys _
  split
  · exact (setSrv_sys .acquire u).trans kept
  · exact kept

/-- The sections change none of the system registers but what they say of the coefficients and the pilots (R306). -/
theorem applySections_sys (s : State) : ∃ bad pi, s.applySections.sys = { s.sys with coefBad := bad, pilots := pi } := by
  unfold State.applySections
  dsimp only
  split
  · exact ⟨_, _, rfl⟩
  · exact ⟨_, _, rebuildOrigin_sys _⟩

theorem applyStage_sys (s : State) : s.applyStage.sys.dram = s.sys.dram ∧ s.applyStage.sys.stage = 4 := by
  obtain ⟨bad, pi, e⟩ := applySections_sys { s with sys := { s.sys with stage := 4 } }
  rw [State.applyStage, e]
  exact ⟨rfl, rfl⟩

theorem atlasStage_dram (s : State) : s.atlasStage.sys.dram = s.sys.dram := useAtlas_dram _ s.sys

theorem atlasStage_atlas (s : State) : s.atlasStage.sys.atlas = (s.sys.flash.bind (chooseAtlas s.image.fabm)).map (·.2) := by
  refine (useAtlas_atlas _ s.sys).trans ?_
  cases s.sys.flash <;> rfl

/-- Start-up goes on: no channel's end has left DRAM without a good one. -/
def State.dramGoes (s : State) : Prop := ¬(s.sys.ddrDone.all id = true ∧ s.sys.ddrOk.any id = false)

theorem ddrEnd_goes {s : State} (load : s.sys.mode = .load) (stage : 2 ≤ s.sys.stage) (goes : s.dramGoes) : s.ddrEnd =
    if s.sys.stage = 2 ∧ s.ddrPast 0 = true ∧ s.ddrPast 1 = true then (if s.sys.ddrDone.all id then s.atlasStage.applyStage else s.atlasStage)
    else if s.sys.stage = 3 then s.applyStage else s := by
  unfold State.ddrEnd
  rw [if_neg (by simp [load]; omega), if_neg goes]

theorem ddrEnd_dram {s : State} (load : s.sys.mode = .load) (stage : 2 ≤ s.sys.stage) (goes : s.dramGoes) : s.ddrEnd.sys.dram = s.sys.dram := by
  rw [ddrEnd_goes load stage goes]
  split
  · split
    · exact (applyStage_sys _).1.trans (atlasStage_dram s)
    · exact atlasStage_dram s
  split
  · exact (applyStage_sys s).1
  · rfl

/-- Without a good channel at the end start-up halts (R307). -/
theorem ddrEnd_halts {s : State} (load : s.sys.mode = .load) (stage : 2 ≤ s.sys.stage) (bad : ¬s.dramGoes) :
    s.ddrEnd.sys.ddrFail = s.sys.ddrFail ∧ s.ddrEnd.sys.halt = 3 ∧ s.ddrEnd.sys.mode = .load := by
  obtain ⟨_, _, _, _, _, e⟩ := failHalt_eq ⟨0, 0, 307⟩ 3 s
  unfold State.ddrEnd
  rw [if_neg (by simp [load]; omega), if_pos (not_not.1 bad), e]
  exact ⟨rfl, rfl, rfl⟩

/-- Both channels of the two. -/
theorem ddrPast_both {c d : Fin 2} (other : c ≠ d) (s : State) : s.ddrPast 0 = true ∧ s.ddrPast 1 = true ↔ s.ddrPast c.val = true ∧ s.ddrPast d.val = true := by
  fin_cases c <;> fin_cases d
  · exact absurd rfl other
  · rfl
  · exact and_comm
  · exact absurd rfl other

theorem ddrEnd_waits {s : State} {c d : Fin 2} (other : c ≠ d) (load : s.sys.mode = .load) (goes : s.dramGoes)
    (stage : s.sys.stage = 2 ∧ s.ddrPast d.val = false ∨ s.sys.stage = 4) : s.ddrEnd = s := by
  rw [ddrEnd_goes load (by omega) goes, if_neg ?_, if_neg (by omega)]
  rintro ⟨two, past⟩
  obtain ⟨-, away⟩ | four := stage
  · rw [ddrPast_both other, away] at past
    exact Bool.noConfusion past.2
  · omega

/-- A list of two, at its two places. -/
theorem two_all {l : List Bool} (len : l.length = 2) {c d : Fin 2} (other : c ≠ d) (e : Bool) :
    l.all id = (l.getD c.val e && l.getD d.val e) := by
  obtain ⟨x, y, rfl⟩ := List.length_eq_two.1 len
  fin_cases c <;> fin_cases d
  · exact absurd rfl other
  · simp
  · simp [Bool.and_comm]
  · exact absurd rfl other

theorem two_any {l : List Bool} (len : l.length = 2) {c : Fin 2} {e : Bool} (at_c : l.getD c.val e = true) : l.any id = true := by
  obtain ⟨x, y, rfl⟩ := List.length_eq_two.1 len
  fin_cases c <;> simp_all

theorem getD_setAt_same {l : List Bool} (len : l.length = 2) (c : Fin 2) (a e : Bool) : (setAt a c.val l).getD c.val e = a := by
  obtain ⟨x, y, rfl⟩ := List.length_eq_two.1 len
  fin_cases c <;> rfl

/-- A channel is marked failed, before start-up looks at what is left (R307). -/
def State.ddrMarked (c : Nat) (s : State) : State :=
  { s with sys := { s.sys with ddrFail := setAt true c s.sys.ddrFail, ddrDone := setAt true c s.sys.ddrDone } }

theorem ddrBad_eq (c : Nat) (s : State) : s.ddrBad c = (s.ddrMarked c).ddrEnd := rfl

/-- A channel's wipe ends well, before start-up looks at what is left (R307). -/
def State.ddrFilled (c : Nat) (s : State) : State :=
  { s with mem := Mem.clear (inDdr c) s.mem,
           sys := { s.sys with ddrOk := setAt true c s.sys.ddrOk, ddrDone := setAt true c s.sys.ddrDone } }

theorem ddrWaits_true {s : State} {c : Nat} (stage : 2 ≤ s.sys.stage) (fw : s.firmware = true) (halt : s.sys.halt = 0)
    (on : s.power.ddr.getD c .off = .on) (open_ : s.sys.ddrDone.getD c true = false) : s.ddrWaits c = true := by
  simp only [State.ddrWaits, stage, fw, halt, on, open_, decide_true, Bool.not_false, Bool.and_true]

/-- The failing end of a step that a channel's start-up waits for. -/
theorem ddrStep_fails {s : State} {c : Fin 2} {i : Instr} (waits : s.ddrWaits c.val = true) (len : s.sys.ddrTrained.length = 2)
    (step : (s.sys.ddrTrained.getD c.val false = false ∧ i = .ddrTrainingDone c false) ∨
      (s.sys.ddrTrained.getD c.val false = true ∧ i = .dramWipeDone c false)) : exec i s = .next (s.ddrBad c.val) := by
  have at_c (e : Bool) : s.sys.ddrTrained.getD c.val e = s.sys.ddrTrained.getD c.val false := by
    obtain ⟨x, y, h⟩ := List.length_eq_two.1 len
    rw [h]
    fin_cases c <;> rfl
  obtain ⟨untrained, rfl⟩ | ⟨trained, rfl⟩ := step
  · refine congrArg Host.Outcome.next ?_
    rw [ddrTrained, if_neg (by rw [waits, at_c, untrained]; simp), if_neg Bool.false_ne_true]
  · refine congrArg Host.Outcome.next ?_
    rw [dramWiped, if_neg (by rw [waits, trained]; simp), if_neg Bool.false_ne_true]

/-- A channel is trained, before start-up looks at what is left (R307). -/
def State.ddrReady (c : Nat) (s : State) : State :=
  { s with sys := { s.sys with ddrTrained := setAt true c s.sys.ddrTrained } }

theorem training_ok {s : State} {c : Fin 2} (waits : s.ddrWaits c.val = true) (len : s.sys.ddrTrained.length = 2)
    (untrained : s.sys.ddrTrained.getD c.val false = false) : ddrTrained c.val true s =
      (s.ddrReady c.val).ddrEnd := by
  have at_c : s.sys.ddrTrained.getD c.val true = false := by
    obtain ⟨x, y, h⟩ := List.length_eq_two.1 len
    rw [h] at untrained ⊢
    fin_cases c <;> simpa using untrained
  rw [ddrTrained, if_neg (by rw [waits, at_c]; simp), if_pos rfl]
  rfl

theorem wipe_ok {s : State} {c : Nat} (waits : s.ddrWaits c = true) (trained : s.sys.ddrTrained.getD c false = true) :
    dramWiped c true s = (s.ddrFilled c).ddrEnd := by
  rw [dramWiped, if_neg (by rw [waits, trained]; simp), if_pos rfl]
  rfl

/-- Settles O8: each step's end is `ddrEnd` on the channel's new marks, which passes a stage, halts or leaves them. -/
theorem ddrChannelsCome : Obligations.DdrChannelsCome := by
  unfold Obligations.DdrChannelsCome
  intro s c d other load stage fw halt on lenDone lenTrained lenOk lenFail open_
  have two : 2 ≤ s.sys.stage := by omega
  have waits := ddrWaits_true two fw halt on open_
  have doneC (a e : Bool) := getD_setAt_same lenDone c a e
  have doneD (a e : Bool) : (setAt a c.val s.sys.ddrDone).getD d.val e = s.sys.ddrDone.getD d.val e :=
    getD_modAt_other (fun h => other (Fin.ext h.symm))
  have allMarked : (setAt true c.val s.sys.ddrDone).all id = s.sys.ddrDone.getD d.val true := by
    rw [two_all (by simp [setAt, lenDone]) other true, doneC, doneD, Bool.true_and]
  have goesOpen {y : Sys} (kept : y.ddrDone = s.sys.ddrDone) : ({ s with sys := y } : State).dramGoes := by
    rintro ⟨all, -⟩
    have : s.sys.ddrDone.all id = false := by rw [two_all lenDone other true, open_, Bool.false_and]
    rw [show ({ s with sys := y } : State).sys.ddrDone = s.sys.ddrDone from kept, this] at all
    exact Bool.noConfusion all
  have trainedD : (setAt true c.val s.sys.ddrTrained).getD d.val false = s.sys.ddrTrained.getD d.val false :=
    getD_modAt_other (fun h => other (Fin.ext h.symm))
  have filled : (s.ddrFilled c.val).dramGoes := fun bad =>
    Bool.noConfusion (bad.2.symm.trans (two_any (c := c) (e := true) (by simp [State.ddrFilled, setAt, lenOk]) (getD_setAt_same lenOk c true true)))
  refine ⟨fun untrained => ⟨fun place => ?_, fun at_two pastD => ?_⟩, fun i step => ⟨fun rest => ?_, fun ended none => ?_⟩,
    fun trained => ⟨fun place => ?_, fun at_three => ?_⟩⟩
  · have waiting : (s.ddrReady c.val).ddrEnd = _ :=
      ddrEnd_waits (s := s.ddrReady c.val) other load (goesOpen rfl)
        (by simpa only [State.ddrPast, State.ddrReady, trainedD] using place)
    exact congrArg Host.Outcome.next ((training_ok waits lenTrained untrained).trans waiting)
  · have passes : (s.ddrReady c.val).ddrEnd = (s.ddrReady c.val).atlasStage := by
      have pastC : (s.ddrReady c.val).ddrPast c.val = true := by
        simp only [State.ddrPast, State.ddrReady, getD_setAt_same lenTrained, Bool.or_true]
      have pastD' : (s.ddrReady c.val).ddrPast d.val = true := by simpa only [State.ddrPast, State.ddrReady, trainedD] using pastD
      rw [ddrEnd_goes (s := s.ddrReady c.val) load two (goesOpen rfl), if_pos ⟨at_two, (ddrPast_both other _).2 ⟨pastC, pastD'⟩⟩, if_neg]
      rw [show (s.ddrReady c.val).sys.ddrDone = s.sys.ddrDone from rfl, two_all lenDone other true, open_, Bool.false_and]
      exact Bool.false_ne_true
    refine ⟨_, congrArg Host.Outcome.next ((training_ok waits lenTrained untrained).trans passes), rfl, rfl, ?_⟩
    obtain ⟨-, stops, -, done, -, trained⟩ := dram_iff.1 (atlasStage_dram (s.ddrReady c.val))
    exact ⟨trained, done, stops.trans halt, atlasStage_atlas (s.ddrReady c.val)⟩
  · have goes : (s.ddrMarked c.val).dramGoes := by
      rintro ⟨all, bad⟩
      obtain away | ok := rest
      · exact Bool.noConfusion (all.symm.trans (allMarked.trans away))
      · exact Bool.noConfusion (bad.symm.trans (two_any lenOk ok))
    obtain ⟨mode, stops, fail, done, -⟩ := dram_iff.1 (ddrEnd_dram (s := s.ddrMarked c.val) load two goes)
    exact ⟨_, ddrStep_fails waits lenTrained step, fail, done, stops.trans halt, mode.trans load⟩
  · have bad : ¬(s.ddrMarked c.val).dramGoes := by
      refine not_not.2 ⟨allMarked.trans ended, ?_⟩
      show s.sys.ddrOk.any id = false
      rw [none]
      rfl
    exact ⟨_, ddrStep_fails waits lenTrained step, ddrEnd_halts (s := s.ddrMarked c.val) load two bad⟩
  · have waiting : (s.ddrFilled c.val).ddrEnd = s.ddrFilled c.val :=
      ddrEnd_waits (s := s.ddrFilled c.val) other load filled (by simpa only [State.ddrPast, State.ddrFilled, doneD] using place)
    refine ⟨_, congrArg Host.Outcome.next ((wipe_ok waits trained).trans waiting), rfl, fun a => ?_⟩
    refine (read_clear _ a _).trans ?_
    simp only [inDdr, Bool.and_eq_true, decide_eq_true_eq]
  · have applies : (s.ddrFilled c.val).ddrEnd = (s.ddrFilled c.val).applyStage := by
      rw [ddrEnd_goes (s := s.ddrFilled c.val) load two filled, if_neg (fun h => absurd (at_three.symm.trans h.1) (by decide)), if_pos (show (s.ddrFilled c.val).sys.stage = 3 from at_three)]
    obtain ⟨dram, four⟩ := applyStage_sys (s.ddrFilled c.val)
    obtain ⟨mode, stops, -, done, ok, -⟩ := dram_iff.1 dram
    exact ⟨_, congrArg Host.Outcome.next ((wipe_ok waits trained).trans applies), four, stops.trans halt, mode.trans load, ok, done⟩

/-! ### The end of LOAD (R306, R311) -/

/-- What the choice of the mode after LOAD leaves alone: the recorder's and the event fabric's start. -/
def State.started (s : State) : Bool × Bool := (s.rcd.on, s.evt.applied)

theorem setMode_started (m : Mode) (s : State) : (s.setMode m).started = s.started := by
  obtain ⟨ho, ld, e⟩ := setMode_eq m s
  rw [e]
  rfl

theorem refreshHeader_on (i : Nat) (s : State) : (s.refreshHeader i).rcd.on = s.rcd.on := by
  unfold State.refreshHeader
  split <;> rfl

theorem refreshAll_on (s : State) : s.refreshAll.rcd.on = s.rcd.on := by
  unfold State.refreshAll
  exact foldl_keeps (fun s => s.rcd.on) _ (fun s i => refreshHeader_on i s) _ s

theorem startRecorder_frame (s : State) : s.startRecorder = { s with rcd := s.startRecorder.rcd, mem := s.startRecorder.mem } := by
  unfold State.startRecorder
  dsimp only
  rw [refreshAll_frame]

theorem startRecorder_on (s : State) : s.startRecorder.rcd.on = true := by
  unfold State.startRecorder
  dsimp only
  rw [refreshAll_on]

theorem netStart_frame (s : State) : s.netStart = { s with net := s.netStart.net } := by
  unfold State.netStart
  dsimp only
  split <;> rfl

/-- The end of LOAD before the mode is chosen (R306). -/
def State.loadClosing (s : State) : State :=
  let u := (((({ s with sys := { s.sys with stage := 5, ready := true, sealIgnored := s.sealDue && !s.sys.strap } } : State).evtApply).startRecorder).netStart).statusChanged
  { u with thm := { u.thm with learn := 0 } }

theorem netStart_sys (s : State) : s.netStart.sys = s.sys := by rw [netStart_frame]
theorem netStart_thm (s : State) : s.netStart.thm = s.thm := by rw [netStart_frame]
theorem netStart_rcd (s : State) : s.netStart.rcd = s.rcd := by rw [netStart_frame]
theorem netStart_evt (s : State) : s.netStart.evt = s.evt := by rw [netStart_frame]
theorem startRecorder_thm (s : State) : s.startRecorder.thm = s.thm := by rw [startRecorder_frame]
theorem startRecorder_evt (s : State) : s.startRecorder.evt = s.evt := by rw [startRecorder_frame]
theorem evtApply_sys (s : State) : s.evtApply.sys = s.sys := rfl
theorem evtApply_thm (s : State) : s.evtApply.thm = s.thm := rfl
theorem evtApply_applied (s : State) : s.evtApply.evt.applied = true := rfl

theorem loadClosing_sys (s : State) : s.loadClosing.sys = { s.sys with stage := 5, ready := true, sealIgnored := s.sealDue && !s.sys.strap } := by
  unfold State.loadClosing
  simp only [statusChanged_sys, netStart_sys, startRecorder_sys, evtApply_sys]

theorem loadClosing_latch (s : State) : s.loadClosing.thm.safeLatch = s.thm.safeLatch := by
  unfold State.loadClosing
  simp only [statusChanged_thm, netStart_thm, startRecorder_thm, evtApply_thm]

theorem loadClosing_started (s : State) : s.loadClosing.started = (true, true) := by
  unfold State.started State.loadClosing
  simp only [statusChanged_rcd, statusChanged_evt, netStart_rcd, netStart_evt, startRecorder_on, startRecorder_evt, evtApply_applied]

theorem loadEnds_eq {s : State} (done : s.loadDone = true) : loadEnds s =
    if s.sealDue && s.sys.strap then
      ({ s.loadClosing with sys := { s.loadClosing.sys with lc := .sealed_, keyFused := true, keyHash := s.image.idnt.ownerKeyHash } } : State).beginReset .lifeCycle
    else if s.thm.safeLatch then ((s.loadClosing.netDown false).netDown true).setMode .safe else s.loadClosing.enterAfterLoad .start := by
  have due : s.loadClosing.sealDue = s.sealDue := by simp only [State.sealDue, State.image, loadClosing_sys]
  have strap : s.loadClosing.sys.strap = s.sys.strap := by rw [loadClosing_sys]
  have image : s.loadClosing.image = s.image := by simp only [State.image, loadClosing_sys]
  have body : loadEnds s = if s.loadClosing.sealDue && s.loadClosing.sys.strap then
        ({ s.loadClosing with sys := { s.loadClosing.sys with lc := .sealed_, keyFused := true, keyHash := s.loadClosing.image.idnt.ownerKeyHash } } : State).beginReset .lifeCycle
      else if s.loadClosing.thm.safeLatch then ((s.loadClosing.netDown false).netDown true).setMode .safe else s.loadClosing.enterAfterLoad .start := by
    unfold loadEnds State.loadClosing
    rw [if_neg (by simp [done])]
  rw [body, due, strap, image, loadClosing_latch]

/-! ### The mode after LOAD (R311, R331, R332) -/

/-- What a change of the flash's records leaves of the system registers. -/
def Sys.modes (y : Sys) : Mode × Bool × LcState × Option Sweep × Bool := (y.mode, y.ready, y.lc, y.sweep, y.calResumed)

theorem modes_iff {y : Sys} {m : Mode} {r : Bool} {l : LcState} {w : Option Sweep} {c : Bool} :
    y.modes = (m, r, l, w, c) ↔ y.mode = m ∧ y.ready = r ∧ y.lc = l ∧ y.sweep = w ∧ y.calResumed = c := by
  simp only [Sys.modes, Prod.mk.injEq]

theorem sysEnqueue_modes (r : NvmRecord) (y : Sys) : (y.enqueue r).modes = y.modes := by
  unfold Sys.enqueue
  repeat' split
  all_goals rfl

theorem sysTested_modes (y : Sys) : y.tested.modes = y.modes := by
  unfold Sys.tested
  split <;> rfl

theorem sysNvmWrite_modes (r : NvmRecord) (y : Sys) : (y.nvmWrite r).modes = y.modes := by
  unfold Sys.nvmWrite
  dsimp only
  split
  · rw [sysEnqueue_modes, sysTested_modes]
  split
  · rw [sysEnqueue_modes, sysTested_modes]
  · exact sysTested_modes y

theorem sweepDown_frame (s : State) : s.sweepDown = { s with clusters := s.sweepDown.clusters, spares := s.sweepDown.spares } := by
  have frame := stopSpares_frame s
  unfold State.sweepDown State.forgetEnables
  generalize s.stopSpares = u at frame ⊢
  rw [frame]

theorem enterService_sys (why : RowWhy) (s : State) : (s.enterService why).sys.modes = ({ s.sys with mode := .service } : Sys).modes := by
  obtain ⟨ho, ld, e⟩ := setMode_eq .service s
  unfold State.enterService State.startRows
  rw [e]
  rfl

theorem enterService_started (why : RowWhy) (s : State) : (s.enterService why).started = s.started := setMode_started .service s

theorem enterCalibrate_eq (w : Sweep) (s : State) : ∃ cs ps ho ld rows, s.enterCalibrate w =
    { s with sys := { s.sys with mode := .calibrate, sweep := some { w with paused := s.thm.anyThr }, calResumed := w.resumed, darkWait := [],
                                 waitOut := [], rowsLeft := rows, rowWhy := .start },
             clusters := cs, spares := ps, hosts := ho, rcd := { s.rcd with logDue := ld } } := by
  obtain ⟨ho, ld, e⟩ := setMode_eq .calibrate s
  unfold State.enterCalibrate State.startRows
  rw [sweepDown_frame, e]
  exact ⟨_, _, _, _, _, rfl⟩

/-- A new sweep (R331). -/
theorem newSweep_sys (s : State) : ∃ w, s.newSweep.sys.modes = (.calibrate, s.sys.ready, s.sys.lc, some w, false) ∧
    w.gen = s.nextGen ∧ (s.sys.atlas = none → w.slot = 0) ∧ w.resumed = false ∧ w.filed = [] := by
  obtain ⟨cs, ps, ho, ld, rows, e⟩ := enterCalibrate_eq { gen := s.nextGen, slot := if s.sys.atlas.isSome then 1 - s.sys.atlSlot else 0 } s
  refine ⟨{ gen := s.nextGen, slot := if s.sys.atlas.isSome then 1 - s.sys.atlSlot else 0, paused := s.thm.anyThr }, ?_, rfl,
    fun none => by simp [none], rfl, rfl⟩
  unfold State.newSweep State.nvmWrite
  dsimp only
  rw [sysNvmWrite_modes, sysNvmWrite_modes, e]
  rfl

theorem newSweep_started (s : State) : s.newSweep.started = s.started := by
  obtain ⟨cs, ps, ho, ld, rows, e⟩ := enterCalibrate_eq { gen := s.nextGen, slot := if s.sys.atlas.isSome then 1 - s.sys.atlSlot else 0 } s
  unfold State.newSweep State.nvmWrite State.started
  dsimp only
  rw [e]

/-- What a sweep keeps of its slot reads the image and the flash alone. -/
theorem keepBlocks_congr (es : List JournalEntry) (w : Sweep) {s u : State} (img : s.sys.img = u.sys.img) (flash : s.sys.flash = u.sys.flash) :
    s.keepBlocks es w = u.keepBlocks es w := by
  unfold State.keepBlocks State.calClusters State.calCells State.calTaps State.tapBound State.cellInsts State.entry State.image
  rw [img, flash]

theorem keepBlocks_start (es : List JournalEntry) (g : Word) (k : Nat) (s : State) :
    (s.keepBlocks es { gen := g, slot := k, resumed := true }).gen = g ∧ (s.keepBlocks es { gen := g, slot := k, resumed := true }).slot = k ∧
      (s.keepBlocks es { gen := g, slot := k, resumed := true }).resumed = true := by
  unfold State.keepBlocks
  split <;> exact ⟨rfl, rfl, rfl⟩

/-- What a path's going off leaves, and its pins (R195). -/
def State.offLeaves (s : State) : Sys × Bool × Bool × Bool × Bool × Bool × Bool :=
  (s.sys, s.rcd.on, s.evt.applied, s.net.aTxen, s.net.bTxen, s.net.aTxdis, s.net.bTxdis)

theorem cutFree_leaves (m : Nat) (s : State) : (s.cutFree m).offLeaves = s.offLeaves := by
  unfold State.cutFree State.cutPiece
  split
  · rfl
  · dsimp only
    split <;> rfl

theorem dropMaster_leaves (m : Nat) (s : State) : (s.dropMaster m).offLeaves = s.offLeaves := cutFree_leaves m s

theorem enterHoldover_leaves (s : State) : s.enterHoldover.offLeaves = s.offLeaves := by
  rw [enterHoldover_frame]
  rfl

theorem finZero_leaves (s : State) : s.finZero.offLeaves = s.offLeaves := by
  unfold State.finZero
  dsimp only
  split <;> rfl

theorem linkDown_leaves (p : Bool) (s : State) : (s.linkDown p).offLeaves = s.offLeaves := by
  unfold State.linkDown
  extract_lets u
  split
  · rw [enterHoldover_leaves, finZero_leaves]
    rfl
  · rfl

theorem netDown_leaves (p : Bool) (s : State) : (s.netDown p).offLeaves = (s.modNet (Net.down p)).offLeaves := by
  unfold State.netDown
  dsimp only
  repeat' split
  all_goals simp only [linkDown_leaves, dropMaster_leaves]

/-- Both paths off: neither TXEN bit is set, so both TXDIS pins are high (R195). -/
theorem netDown_both (s : State) : ((s.netDown false).netDown true).offLeaves = (s.sys, s.rcd.on, s.evt.applied, false, false, true, true) := by
  have first := netDown_leaves false s
  rw [netDown_leaves]
  simp only [State.offLeaves, Prod.mk.injEq] at first ⊢
  obtain ⟨sys, on, applied, aTxen, -, -, -⟩ := first
  refine ⟨sys, on, applied, aTxen, rfl, ?_, rfl⟩
  have off : (s.netDown false).net.aTxen = false := aTxen
  simp [State.modNet, Net.down, Net.cleat, Net.setTxen, Net.modPort, off]

/-- Settles O9: the mode after LOAD is that of the first rule that holds, and what it enters is written out by its lemma. -/
theorem loadEndsInItsMode : Obligations.LoadEndsInItsMode := by
  unfold Obligations.LoadEndsInItsMode
  intro s done
  have unsealed (h : s.sealDue = false ∨ s.sys.strap = false) : loadEnds s =
      if s.thm.safeLatch then ((s.loadClosing.netDown false).netDown true).setMode .safe else s.loadClosing.enterAfterLoad .start := by
    rw [loadEnds_eq done, if_neg]
    obtain h | h := h <;> simp [h]
  have sweepOf : s.loadClosing.openSweep = s.openSweep := by simp only [State.openSweep, loadClosing_sys]
  have atlasOf : s.loadClosing.sys.atlas = s.sys.atlas := by rw [loadClosing_sys]
  have genOf_ : s.loadClosing.nextGen = s.nextGen := by simp only [State.nextGen, loadClosing_sys]
  have imageOf_ : s.loadClosing.image = s.image := by simp only [State.image, loadClosing_sys]
  have slotOf : s.loadClosing.sys.atlSlot = s.sys.atlSlot := by rw [loadClosing_sys]
  have keepsOf (es : List JournalEntry) (w : Sweep) : s.loadClosing.keepBlocks es w = s.keepBlocks es w :=
    keepBlocks_congr es w (by rw [loadClosing_sys]) (by rw [loadClosing_sys])
  have started : s.loadClosing.rcd.on = true ∧ s.loadClosing.evt.applied = true := Prod.mk.inj (loadClosing_started s)
  refine ⟨fun open_ latch => ?_, fun open_ latch noSweep atlas => ?_, fun open_ latch noSweep atlas => ?_, fun e es open_ latch cont may => ?_,
    fun e es open_ latch cont resume gen free part => ?_, fun due strap no up => ?_⟩
  · obtain ⟨ho, ld, e⟩ := setMode_eq .safe ((s.loadClosing.netDown false).netDown true)
    obtain ⟨sys, on, applied, -, -, aTxdis, bTxdis⟩ := by simpa only [State.offLeaves, Prod.mk.injEq] using netDown_both s.loadClosing
    have ends := unsealed open_
    rw [if_pos latch, e] at ends
    rw [loadClosing_sys] at sys
    exact ⟨_, congrArg Host.Outcome.next ends, rfl, by rw [sys], by rw [sys], by rw [sys], on.trans started.1, applied.trans started.2, aTxdis, bTxdis⟩
  · obtain ⟨mode, ready, lc, -, -⟩ := modes_iff.1 (enterService_sys .start s.loadClosing)
    have ends := unsealed open_
    rw [if_neg (by simp [latch]), State.enterAfterLoad, sweepOf, noSweep, atlasOf, if_neg (by simp [Option.isSome_iff_ne_none.1 atlas])] at ends
    have kept := enterService_started .start s.loadClosing
    exact ⟨_, congrArg Host.Outcome.next ends, mode, by rw [ready, loadClosing_sys], (Prod.mk.inj kept).1.trans started.1, by rw [lc, loadClosing_sys]⟩
  · obtain ⟨w, modes, gen, slot, resumed, filed⟩ := newSweep_sys s.loadClosing
    obtain ⟨mode, ready, lc, sweep, -⟩ := modes_iff.1 modes
    have ends := unsealed open_
    rw [if_neg (by simp [latch]), State.enterAfterLoad, sweepOf, noSweep, atlasOf, if_pos (by simp [atlas])] at ends
    exact ⟨_, w, congrArg Host.Outcome.next ends, mode, by rw [ready, loadClosing_sys], (Prod.mk.inj (newSweep_started _)).1.trans started.1,
      by rw [lc, loadClosing_sys], sweep, by rw [gen, State.nextGen, atlasOf, atlas]; rfl, slot (atlasOf.trans atlas), resumed, filed⟩
  · obtain ⟨w, modes, gen, -, resumed, filed⟩ := newSweep_sys s.loadClosing
    obtain ⟨mode, ready, -, sweep, -⟩ := modes_iff.1 modes
    have ends := unsealed open_
    rw [if_neg (by simp [latch]), State.enterAfterLoad, sweepOf, cont] at ends
    have restarts : s.loadClosing.continueSweep e es = s.loadClosing.newSweep := by
      unfold State.continueSweep
      dsimp only
      rw [imageOf_, genOf_, atlasOf, slotOf, if_neg may]
    exact ⟨_, w, congrArg Host.Outcome.next (ends.trans restarts), mode, by rw [ready, loadClosing_sys], sweep, by rw [gen, genOf_], resumed, filed⟩
  · obtain ⟨cs, ps, ho, ld, rows, enters⟩ := enterCalibrate_eq (s.keepBlocks es { gen := e.gen, slot := e.slot, resumed := true }) s.loadClosing
    obtain ⟨genW, slotW, resumedW⟩ := keepBlocks_start es e.gen e.slot s
    have ends := unsealed open_
    rw [if_neg (by simp [latch]), State.enterAfterLoad, sweepOf, cont] at ends
    have resumes : s.loadClosing.continueSweep e es =
        s.loadClosing.enterCalibrate (s.keepBlocks es { gen := e.gen, slot := e.slot, resumed := true }) := by
      unfold State.continueSweep
      dsimp only
      rw [imageOf_, genOf_, atlasOf, slotOf, keepsOf, if_pos ⟨resume, gen, free⟩, if_neg fun h => Bool.false_ne_true (part.symm.trans h.1)]
    exact ⟨_, _, congrArg Host.Outcome.next ((ends.trans resumes).trans enters), rfl, resumedW, rfl, genW, slotW, resumedW, rfl⟩
  · have seals := loadEnds_eq done
    have halt : s.sys.halt = 0 := by
      simp only [State.loadDone, Bool.and_eq_true, decide_eq_true_eq] at done
      exact done.1.1.2
    rw [due, strap, if_pos (by rfl)] at seals
    obtain ⟨cs, ps, ramps, -⟩ := beginReset_ramp (k := .lifeCycle) (s := { s.loadClosing with sys :=
        { s.loadClosing.sys with lc := .sealed_, keyFused := true, keyHash := s.image.idnt.ownerKeyHash } })
      (by rw [loadClosing_sys]; exact up) (by rw [loadClosing_sys]; exact no) (.inl (by rw [loadClosing_sys]; exact halt))
    refine ⟨_, congrArg Host.Outcome.next (seals.trans ramps), ?_, rfl, rfl, rfl, rfl, ?_⟩
    · show s.loadClosing.sys.ready = true
      rw [loadClosing_sys]
    · show s.loadClosing.sys.flash = s.sys.flash
      rw [loadClosing_sys]

end Sys2Proof.Machine

/-! PROOFS. Power domains (R15-R17, R24, R306). -/

namespace Sys2Proof.Machine

/-! ### Requests -/

theorem request_on {s : State} {d : Domain} (fw : s.firmware = true) (off : s.domPow d = .off) (needs : s.domNeeds d = true) :
    domainRequest d true s = s.domRise d := by
  rw [domainRequest, if_neg (by simp [fw]), if_pos rfl, if_pos ⟨off, needs⟩]

theorem request_on_refused {s : State} {d : Domain} (fw : s.firmware = true) (needs : s.domNeeds d = false) : domainRequest d true s = s := by
  rw [domainRequest, if_neg (by simp [fw]), if_pos rfl, if_neg (by simp [needs])]

theorem request_off {s : State} {d : Domain} (fw : s.firmware = true) (on : s.domPow d = .on) (free : s.offBreaks d = false) :
    domainRequest d false s = s.domOff d := by
  rw [domainRequest, if_neg (by simp [fw]), if_neg (by simp), if_neg (by simp [on, free])]

theorem request_off_refused {s : State} {d : Domain} (fw : s.firmware = true) (breaks : s.offBreaks d = true) : domainRequest d false s = s := by
  rw [domainRequest, if_neg (by simp [fw]), if_neg (by simp), if_pos (.inr breaks)]

theorem up_rising {s : State} {d : Domain} (rising : s.domPow d = .rising) (cal : List (List Nat)) : domainUp d cal s =
    match d with
    | .cluster c => s.cluUp c.val cal
    | .island r => s.islandUp r.val
    | .net p => s.netUp (decide (p.val = 1))
    | .spare r => s.modSpare r.val (fun p => { p with pow := .on })
    | .core _ | .sram _ | .pcie _ | .ddr _ | .hkc | .recorder | .dma | .solver | .periph | .braid =>
      { s with power := s.power.put d .on } := by
  unfold domainUp
  rw [if_neg (by simp [rising])]
  cases d <;> rfl

/-- A domain whose power is a field of its own. -/
abbrev IsSingle (d : Domain) : Prop := d = .hkc ∨ d = .recorder ∨ d = .dma ∨ d = .solver ∨ d = .periph ∨ d = .braid

theorem single_put {d : Domain} (h : IsSingle d) (p : DPow) (s : State) : ({ s with power := s.power.put d p } : State).domPow d = p := by
  obtain rfl | rfl | rfl | rfl | rfl | rfl := h <;> rfl

theorem single_rise {d : Domain} (h : IsSingle d) (s : State) : s.domRise d = { s with power := s.power.put d .rising } := by
  obtain rfl | rfl | rfl | rfl | rfl | rfl := h <;> rfl

theorem single_off {d : Domain} (h : IsSingle d) (s : State) : s.domOff d = { s with power := s.power.put d .off } := by
  obtain rfl | rfl | rfl | rfl | rfl | rfl := h <;> rfl

theorem single_up {d : Domain} (h : IsSingle d) {s : State} (rising : s.domPow d = .rising) (cal : List (List Nat)) :
    domainUp d cal s = { s with power := s.power.put d .on } := by
  rw [up_rising rising]
  obtain rfl | rfl | rfl | rfl | rfl | rfl := h <;> rfl

/-- A changed place of a list that is there, with a default. -/
theorem getD_modAt {α : Type} {f : α → α} {l : List α} {i : Nat} (h : i < l.length) (e : α) : (modAt f i l).getD i e = f (l.getD i e) :=
  (getD_modAt_same (List.getElem?_eq_getElem h)).trans (by rw [List.getD_eq_getElem _ _ h])

/-- A place of a list that is there takes what is put there. -/
theorem getD_setAt {α : Type} {l : List α} {i : Nat} (h : i < l.length) (a e : α) : (setAt a i l).getD i e = a := getD_modAt h e

/-- A cluster that is not off is there. -/
theorem clu_there {s : State} {c : Nat} (up : (s.clu c).pow ≠ .off) : c < s.clusters.length := by
  by_contra beyond
  apply up
  rw [State.clu, List.getD_eq_default _ _ (by omega)]

/-! ### Clusters -/

theorem modClu_at {s : State} {c : Nat} (there : c < s.clusters.length) (f : Cluster → Cluster) : (s.modClu c f).clu c = f (s.clu c) :=
  getD_modAt there _

theorem modClu_away {s : State} {c q : Nat} (other : q ≠ c) (f : Cluster → Cluster) : (s.modClu c f).clu q = s.clu q :=
  getD_modAt_other other

/-- Clusters that begin to power up (R17). -/
def State.riseAll (l : List Nat) (s : State) : State := l.foldl (fun s q => s.modClu q (fun k => { k with pow := .rising })) s

theorem riseAll_frame (l : List Nat) (s : State) : s.riseAll l = { s with clusters := (s.riseAll l).clusters } :=
  foldl_frame (fun s cs => { s with clusters := cs }) State.clusters (fun _ => rfl) (fun _ _ _ => rfl) _ (fun _ _ => rfl) l s

theorem riseAll_keeps {c : Nat} (l : List Nat) (s : State) (rising : (s.clu c).pow = .rising) : ((s.riseAll l).clu c).pow = .rising := by
  refine foldl_holds (fun s => (s.clu c).pow = .rising) _ (fun s q h => ?_) l s rising
  by_cases here : c = q
  · subst here
    rw [modClu_at (clu_there (by rw [h]; exact DPow.noConfusion))]
  · rw [modClu_away here]
    exact h

theorem riseAll_first {s : State} {c : Nat} (there : c < s.clusters.length) (l : List Nat) : ((s.riseAll (c :: l)).clu c).pow = .rising :=
  riseAll_keeps l _ (by rw [modClu_at there])

/-- What a cluster's power-up changes (R17, R98). -/
theorem cluUp_frame (c : Nat) (cal : List (List Nat)) (s : State) : s.cluUp c cal =
    { s with clusters := (s.cluUp c cal).clusters, spares := (s.cluUp c cal).spares,
             fab := { s.fab with retireRetry := s.fab.retireRetry.filter (fun q => !s.inCluster c q.1),
                                 retireSingly := s.fab.retireSingly.filter (fun i => !s.inCluster c i) } } := by
  unfold State.cluUp State.cluChanged
  dsimp only
  split <;> rfl

theorem cluUp_clusters (c : Nat) (cal : List (List Nat)) (s : State) : ∃ f : Cluster → Cluster, (s.cluUp c cal).clusters = modAt f c s.clusters ∧
    ∀ k, (f k).pow = .on ∧ (f k).everOn = true ∧ (f k).allow = 0xFFFFFFFF ∧ (f k).derate = 0xFFFF := by
  unfold State.cluUp State.cluChanged
  dsimp only
  split
  · exact ⟨_, rfl, fun _ => ⟨rfl, rfl, rfl, rfl⟩⟩
  · exact ⟨_, rfl, fun _ => ⟨rfl, rfl, rfl, rfl⟩⟩

/-! ### Islands and rows -/

theorem islandUp_clu (r c : Nat) (s : State) : (s.islandUp r).clu c = if c / 16 = r then { s.clu c with iAcc := 0 } else s.clu c := by
  have at_c : (s.islandUp r).clu c = ((s.clusters[c]?).map (fun k => if c / 16 = r then { k with iAcc := 0 } else k)).getD {} := by
    simp only [State.islandUp, State.clu, modIsland_clusters, mapClu_clusters, List.getD_eq_getElem?_getD, getElem?_mapIx, Nat.zero_add]
  rw [at_c, State.clu, List.getD_eq_getElem?_getD]
  cases s.clusters[c]? with
  | none => split <;> rfl
  | some k => split <;> rfl

theorem islandUp_length (r : Nat) (s : State) : (s.islandUp r).clusters.length = s.clusters.length := by
  simp [State.islandUp]

/-- The clusters of a row that come up. -/
def State.cluUps (cal : Nat → List (List Nat)) (l : List Nat) (s : State) : State := l.foldl (fun s c => s.cluUp c (cal c)) s

theorem cluUps_frame (cal : Nat → List (List Nat)) (l : List Nat) (s : State) : s.cluUps cal l =
    { s with clusters := (s.cluUps cal l).clusters, spares := (s.cluUps cal l).spares, fab := (s.cluUps cal l).fab } :=
  foldl_frame (fun s (q : List Cluster × List Spare × Fab) => { s with clusters := q.1, spares := q.2.1, fab := q.2.2 })
    (fun s => (s.clusters, s.spares, s.fab)) (fun _ => rfl) (fun _ _ _ => rfl) _ (fun s c => by rw [cluUp_frame]) l s

theorem cluUp_at {s : State} {c : Nat} (there : c < s.clusters.length) (cal : List (List Nat)) : ((s.cluUp c cal).clu c).pow = .on := by
  obtain ⟨f, e, on⟩ := cluUp_clusters c cal s
  rw [State.clu, e, getD_modAt there]
  exact (on _).1

theorem cluUp_away {s : State} {c q : Nat} (other : q ≠ c) (cal : List (List Nat)) : (s.cluUp c cal).clu q = s.clu q := by
  obtain ⟨f, e, -⟩ := cluUp_clusters c cal s
  rw [State.clu, e, getD_modAt_other other, State.clu]

theorem cluUps_away (cal : Nat → List (List Nat)) {q : Nat} : ∀ (l : List Nat) (s : State), q ∉ l → (s.cluUps cal l).clu q = s.clu q
  | [], _, _ => rfl
  | c :: l, s, h => by
    simp only [List.mem_cons, not_or] at h
    exact (cluUps_away cal l (s.cluUp c (cal c)) h.2).trans (cluUp_away h.1 _)

theorem cluUps_at (cal : Nat → List (List Nat)) {q : Nat} (l : List Nat) (s : State) (h : q ∈ l) (there : q < s.clusters.length) :
    ((s.cluUps cal l).clu q).pow = .on := by
  induction l generalizing s with
  | nil => simp at h
  | cons c l ih =>
    have long : q < (s.cluUp c (cal c)).clusters.length := by
      obtain ⟨f, e, -⟩ := cluUp_clusters c (cal c) s
      rwa [e, length_modAt]
    by_cases later : q ∈ l
    · exact ih _ later long
    · obtain rfl : q = c := (List.mem_cons.1 h).resolve_right later
      have away := cluUps_away cal l (s.cluUp q (cal q)) later
      exact (congrArg Cluster.pow away).trans (cluUp_at there _)

/-! ### Ramps and paths -/

theorem beginDown_pdown {s : State} {c : Nat} (on : (s.clu c).pow = .on) : ((s.beginDown c).clu c).pdown = true := by
  have ramps (u : State) (h : (u.clu c).pow = .on) : (((u.modClu c Cluster.beginDown).cluChanged c).clu c).pdown = true := by
    show ((u.modClu c Cluster.beginDown).clu c).pdown = true
    rw [modClu_at (clu_there (by rw [h]; exact DPow.noConfusion)), Cluster.beginDown]
    split
    · rename_i already
      exact already.resolve_left (not_not_intro h)
    · split <;> rfl
  unfold State.beginDown
  dsimp only
  refine ramps _ ?_
  split
  · have kept := congrArg (fun l => (l.getD c (Cluster.frame {})).1) (stopSpare_clusters (c / 16) s)
    rw [List.getD_map, List.getD_map] at kept
    exact kept.trans on
  · exact on

/-- The power of a path's ports. -/
def State.ports (s : State) : DPow × DPow := (s.net.a.pow, s.net.b.pow)

theorem linkDown_ports (p : Bool) (s : State) : (s.linkDown p).ports = s.ports := by
  have zero (u : State) : u.finZero.ports = u.ports := by
    unfold State.finZero
    dsimp only
    split <;> rfl
  unfold State.linkDown
  extract_lets u
  split
  · rw [enterHoldover_frame]
    exact zero _
  · rfl

theorem dropMaster_ports (m : Nat) (s : State) : (s.dropMaster m).ports = s.ports := by
  unfold State.dropMaster State.cutFree State.cutPiece
  dsimp only
  repeat' split
  all_goals rfl

theorem netDown_ports (p : Bool) (s : State) : (s.netDown p).ports = (s.modNet (Net.down p)).ports := by
  unfold State.netDown
  dsimp only
  repeat' split
  all_goals simp only [linkDown_ports, dropMaster_ports]

/-! ### Every domain -/

theorem sprPow_off {p : Spare} (h : sprPow p = .off) (q : DPow) : sprPow { p with pow := q } = q := by
  unfold sprPow at h ⊢
  cases st : p.st with
  | off => rfl
  | powering =>
    rw [st] at h
    dsimp only at h
    split at h <;> exact DPow.noConfusion h
  | loading | selftest | active | failed => simp [st] at h

theorem sprPow_rising {p : Spare} (h : sprPow p = .rising) : sprPow { p with pow := .on } = .on := by
  unfold sprPow at h ⊢
  cases st : p.st with
  | off | powering => rfl
  | loading | selftest | active | failed => simp [st] at h

/-- A domain that is off begins to power up (R17). -/
theorem domRise_rising {s : State} {d : Domain} (sized : Safe.sized s) (off : s.domPow d = .off) : (s.domRise d).domPow d = .rising ∧
    s.domRise d = { s with power := (s.domRise d).power, clusters := (s.domRise d).clusters, islands := (s.domRise d).islands,
                           spares := (s.domRise d).spares, net := (s.domRise d).net } := by
  obtain ⟨lenC, lenS, lenI, lenCore, lenSram, lenPcie, lenDdr⟩ := sized
  cases d with
  | cluster c =>
    have rises : s.domRise (.cluster c) = s.riseAll (c.val :: s.tapsWith c.val) := rfl
    refine ⟨riseAll_first (by omega) _, ?_⟩
    rw [rises, riseAll_frame]
  | spare r =>
    have at_r : (s.domRise (.spare r)).spare r.val = { s.spare r.val with pow := .rising } := getD_modAt (by omega) _
    exact ⟨(congrArg sprPow at_r).trans (sprPow_off off .rising), rfl⟩
  | island r => exact ⟨congrArg Island.pow (getD_modAt (f := fun i : Island => { i with pow := .rising }) (by omega) _), rfl⟩
  | net p => fin_cases p <;> exact ⟨rfl, rfl⟩
  | core i => exact ⟨getD_setAt (by omega) _ _, rfl⟩
  | sram i => exact ⟨getD_setAt (by omega) _ _, rfl⟩
  | pcie i => exact ⟨getD_setAt (by omega) _ _, rfl⟩
  | ddr i => exact ⟨getD_setAt (by omega) _ _, rfl⟩
  | hkc | recorder | dma | solver | periph | braid => exact ⟨rfl, rfl⟩

/-- A domain's power-up completes (R17). -/
theorem domainUp_on {s : State} {d : Domain} (sized : Safe.sized s) (rising : s.domPow d = .rising) (cal : List (List Nat)) :
    (domainUp d cal s).domPow d = .on ∧
      domainUp d cal s = { s with power := (domainUp d cal s).power, clusters := (domainUp d cal s).clusters, islands := (domainUp d cal s).islands,
                                  spares := (domainUp d cal s).spares, net := (domainUp d cal s).net, fab := (domainUp d cal s).fab } := by
  obtain ⟨lenC, lenS, lenI, lenCore, lenSram, lenPcie, lenDdr⟩ := sized
  rw [up_rising rising]
  cases d with
  | cluster c =>
    refine ⟨cluUp_at (by omega) cal, ?_⟩
    dsimp only
    rw [cluUp_frame]
  | spare r =>
    have at_r : (s.modSpare r.val (fun p => { p with pow := .on })).spare r.val = { s.spare r.val with pow := .on } := getD_modAt (by omega) _
    exact ⟨(congrArg sprPow at_r).trans (sprPow_rising rising), rfl⟩
  | island r =>
    exact ⟨congrArg Island.pow (getD_modAt (l := s.islands) (f := fun i : Island => { i with pow := .on, predFrom := s.now }) (by omega) _), rfl⟩
  | net p => fin_cases p <;> exact ⟨rfl, rfl⟩
  | core i => exact ⟨getD_setAt (by omega) _ _, rfl⟩
  | sram i => exact ⟨getD_setAt (by omega) _ _, rfl⟩
  | pcie i => exact ⟨getD_setAt (by omega) _ _, rfl⟩
  | ddr i => exact ⟨getD_setAt (by omega) _ _, rfl⟩
  | hkc | recorder | dma | solver | periph | braid => exact ⟨rfl, rfl⟩

/-- A cluster's ramp begins where no need of R16 keeps it on. -/
theorem clusterDown_begins {s : State} {c : Fin 256} (fw : s.firmware = true) (free : s.offBreaks (.cluster c) = false) :
    clusterDown c.val s = s.beginDown c.val := by
  simp only [State.offBreaks, Bool.or_eq_false_iff] at free
  obtain ⟨⟨⟨circuits, names⟩, pending⟩, taps⟩ := free
  rw [clusterDown, if_neg (by simp only [fw, names, pending, taps, circuits]; simp)]

/-- A domain is off, or a cluster on its ramp (R100). -/
def GoesOff (t : State) : Domain → Prop
  | .cluster c => (t.clu c.val).pdown = true
  | d => t.domPow d = .off

/-- A domain that is on goes off, a cluster by its ramp (R16, R100). -/
theorem domOff_off {s : State} {d : Domain} (sized : Safe.sized s) (fw : s.firmware = true) (free : s.offBreaks d = false) (on : s.domPow d = .on) :
    GoesOff (s.domOff d) d := by
  obtain ⟨lenC, lenS, lenI, lenCore, lenSram, lenPcie, lenDdr⟩ := sized
  cases d with
  | cluster c =>
    have ramps : s.domOff (.cluster c) = s.beginDown c.val := clusterDown_begins fw free
    rw [ramps]
    exact beginDown_pdown on
  | spare r =>
    have at_r : (s.domOff (.spare r)).spare r.val = { s.spare r.val with st := .off, pow := .off } := getD_modAt (by omega) _
    exact (congrArg sprPow at_r)
  | island r => exact congrArg Island.pow (getD_modAt (f := Island.off) (by omega) _)
  | net p =>
    have ports := netDown_ports (decide (p.val = 1)) s
    fin_cases p
    · exact (Prod.mk.inj ports).1
    · exact (Prod.mk.inj ports).2
  | core i => exact getD_setAt (by omega) _ _
  | sram i => exact getD_setAt (by omega) _ _
  | pcie i => exact getD_setAt (by omega) _ _
  | ddr i => exact getD_setAt (by omega) _ _
  | hkc | recorder | dma | solver | periph | braid => rfl

/-- A tile row comes up (R306). -/
theorem rowPowerUp_eq {s : State} {r : Nat} {rs : List Nat} (left : s.sys.rowsLeft = r :: rs) (fw : s.firmware = true)
    (braid : s.power.braid = .on) (settled : s.rowRamps r = false) (cal : List (List (List Nat))) : rowPowerUp cal s =
      let u := (if (s.island r).pow = .on then s else s.islandUp r).cluUps (fun c => cal.getD (c % 16) []) (s.rowClusters r)
      { u with sys := { u.sys with rowsLeft := rs } } := by
  unfold rowPowerUp
  rw [left]
  dsimp only
  rw [if_neg (by simp [fw, braid, settled])]
  rfl

/-- The island of a row is on before its clusters come up (R16, R306). -/
theorem rowIsland (s : State) {r : Nat} (there : r < s.islands.length) : ∃ v : State, v = (if (s.island r).pow = .on then s else s.islandUp r) ∧
    v = { s with clusters := v.clusters, islands := v.islands } ∧ s.clusters.length = v.clusters.length ∧ (v.island r).pow = .on ∧
    ∀ c, v.clu c = if (s.island r).pow ≠ .on ∧ c / 16 = r then { s.clu c with iAcc := 0 } else s.clu c := by
  by_cases on : (s.island r).pow = .on
  · exact ⟨s, (if_pos on).symm, rfl, rfl, on, fun c => by rw [if_neg (fun h => h.1 on)]⟩
  · refine ⟨s.islandUp r, (if_neg on).symm, rfl, (islandUp_length r s).symm, ?_, fun c => by simp only [islandUp_clu, on, ne_eq, not_false_eq_true, true_and]⟩
    exact congrArg Island.pow (getD_modAt (l := s.islands) (f := fun i : Island => { i with pow := .on, predFrom := s.now }) there _)

/-- Settles O10: a request or a power-up of a domain, kind by kind, and a row as the fold of its clusters. -/
theorem powerDomainsSwitch : Obligations.PowerDomainsSwitch := by
  unfold Obligations.PowerDomainsSwitch
  refine ⟨?_, ?_, ?_, ?_, ?_, ?_, ?_, ?_, ?_, ?_⟩
  · intro s d fw single off needs
    refine ⟨_, congrArg Host.Outcome.next ((request_on fw off needs).trans (single_rise single s)), rfl, single_put single _ s, fun cal => ?_⟩
    exact ⟨_, congrArg Host.Outcome.next (single_up single (single_put single _ s) cal), rfl, single_put single _ _⟩
  · intro s d sized fw off needs
    obtain ⟨rising, frame⟩ := domRise_rising sized off
    exact ⟨_, congrArg Host.Outcome.next (request_on fw off needs), rising, frame⟩
  · intro s d cal sized rising
    obtain ⟨on, frame⟩ := domainUp_on sized rising cal
    exact ⟨_, rfl, on, frame⟩
  · intro s d fw needs
    exact congrArg Host.Outcome.next (request_on_refused fw needs)
  · intro s c k fw at_c off needs
    have off' : s.domPow (.cluster c) = .off := by
      show (s.clusters.getD c.val {}).pow = .off
      rw [List.getD_eq_getElem?_getD, at_c]
      exact off
    have there : c.val < s.clusters.length := (List.getElem?_eq_some_iff.1 at_c).1
    exact ⟨_, congrArg Host.Outcome.next (request_on fw off' needs), riseAll_frame _ s, riseAll_first there _⟩
  · intro s c cal rising
    have there := clu_there (s := s) (c := c.val) (by rw [show (s.clu c.val).pow = .rising from rising]; exact DPow.noConfusion)
    obtain ⟨f, e, new⟩ := cluUp_clusters c.val cal s
    have at_c : (s.cluUp c.val cal).clu c.val = f (s.clu c.val) := by rw [State.clu, e, getD_modAt there, State.clu]
    obtain ⟨on, ever, allow, derate⟩ := new (s.clu c.val)
    refine ⟨_, congrArg Host.Outcome.next (up_rising rising cal), cluUp_frame _ _ _, ?_, ?_, ?_, ?_⟩
    · exact (congrArg Cluster.pow at_c).trans on
    · exact (congrArg Cluster.everOn at_c).trans ever
    · exact (congrArg Cluster.allow at_c).trans allow
    · exact (congrArg Cluster.derate at_c).trans derate
  · intro s d fw breaks
    exact congrArg Host.Outcome.next (request_off_refused fw breaks)
  · intro s d fw free single on
    exact ⟨_, congrArg Host.Outcome.next ((request_off fw on free).trans (single_off single s)), rfl, single_put single _ s⟩
  · intro s d sized fw free on
    have off := domOff_off sized fw free on
    refine ⟨_, congrArg Host.Outcome.next (request_off fw on free), ?_⟩
    cases d <;> exact off
  · intro s r rs i cal left fw at_r braid settled
    have island : s.island r = i := by rw [State.island, List.getD_eq_getElem?_getD, at_r]; rfl
    have there : r < s.islands.length := (List.getElem?_eq_some_iff.1 at_r).1
    have up := rowPowerUp_eq left fw braid settled cal
    obtain ⟨v, at_v, frame, len, on, clus⟩ := rowIsland s there
    rw [← at_v] at up
    rw [cluUps_frame] at up
    refine ⟨_, congrArg Host.Outcome.next up, ?_, ?_, ?_, fun c long mem => ?_, fun c out => ?_⟩
    · rw [frame]
    · rw [frame]
    · exact on
    · exact cluUps_at _ _ v mem (len ▸ long)
    · exact (cluUps_away _ _ v out).trans (by rw [clus, island])

end Sys2Proof.Machine

/-! PROOFS. Cells under their engines: the transitions of the loop states (O13), and the ends of STUCK and HOLD and the H path (O14). -/

namespace Sys2Proof.Machine

/-! ### One cell -/

/-- What stands at a place, with a default. -/
theorem getD_of_some {α : Type} {l : List α} {i : Nat} {x : α} (h : l[i]? = some x) (d : α) : l.getD i d = x := by
  rw [List.getD_eq_getElem?_getD, h]; rfl

theorem lt_of_some {α : Type} {l : List α} {i : Nat} {x : α} (h : l[i]? = some x) : i < l.length := (List.getElem?_eq_some_iff.1 h).1

theorem modCell_away {s : State} {n m : Nat} (other : m ≠ n) (f : Cell → Cell) : (s.modCell n f).cell m = s.cell m := by
  show ((s.modClu (n / 32) (Cluster.modCell (n % 32) f)).clu (m / 32)).cell (m % 32) = _
  by_cases same : m / 32 = n / 32
  · have place : m % 32 ≠ n % 32 := by omega
    rw [same, State.clu, State.cell, same, State.clu, modClu_clusters, List.getD_eq_getElem?_getD, getElem?_modAt, if_pos rfl,
      List.getD_eq_getElem?_getD]
    cases s.clusters[n / 32]? with
    | none => rfl
    | some k => exact getD_modAt_other place
  · rw [modClu_away same]; rfl

theorem modCell_at {s : State} {n : Nat} (clu : n / 32 < s.clusters.length) (there : n % 32 < (s.clu (n / 32)).cells.length) (f : Cell → Cell) :
    (s.modCell n f).cell n = f (s.cell n) := by
  show ((s.modClu (n / 32) (Cluster.modCell (n % 32) f)).clu (n / 32)).cell (n % 32) = _
  rw [modClu_at clu]
  exact getD_modAt there _

/-- A change of a cluster that leaves its cells leaves every cell. -/
theorem modClu_cell {f : Cluster → Cluster} (same : ∀ k, (f k).cells = k.cells) (s : State) (c m : Nat) : (s.modClu c f).cell m = s.cell m := by
  show ((modAt f c s.clusters).getD (m / 32) {}).cell (m % 32) = (s.clusters.getD (m / 32) {}).cell (m % 32)
  rw [List.getD_eq_getElem?_getD, List.getD_eq_getElem?_getD, getElem?_modAt]
  split
  · cases s.clusters[m / 32]? with
    | none => rfl
    | some k => exact congrArg (fun l => l.getD (m % 32) {}) (same k)
  · rfl

/-- The newest engine state follows its change. -/
@[simp] theorem engNow_modNow (f : Eng → Eng) (c : Cell) : (Cell.modNow f c).engNow = f c.engNow := by
  unfold Cell.modNow Cell.engNow
  cases c.out <;> rfl

@[simp] theorem engNow_modEng (f : Eng → Eng) (c : Cell) : (Cell.modEng f c).engNow = f c.engNow := by
  unfold Cell.modEng Cell.engNow
  cases c.out <;> rfl

/-- A change of the engine's state leaves the applied codes. -/
theorem modNow_codes (f : Eng → Eng) (c : Cell) : (Cell.modNow f c).uf = c.uf ∧ (Cell.modNow f c).uh = c.uh := by
  unfold Cell.modNow
  cases c.out <;> exact ⟨rfl, rfl⟩

/-- What an engine computes is there. -/
theorem engineRuns_there {s : State} {n : Nat} (runs : s.engineRuns n = true) :
    n / 32 < s.clusters.length ∧ n % 32 < (s.clu (n / 32)).cells.length := by
  simp only [State.engineRuns, Bool.and_eq_true, decide_eq_true_eq] at runs
  obtain ⟨⟨on, -⟩, comp⟩ := runs
  refine ⟨clu_there (by rw [on]; exact DPow.noConfusion), ?_⟩
  by_contra beyond
  rw [State.cell, Cluster.cell, List.getD_eq_default _ _ (by omega)] at comp
  exact absurd comp (by decide)

theorem tests_runs {s : State} {n : Nat} (tests : s.tests n = true) : s.engineRuns n = true := (Bool.and_eq_true _ _ ▸ tests).1

/-! ### What a transition raises -/

theorem raiseLoop_cell (ev : LoopEv) (c m : Nat) (s : State) : (s.raiseLoop ev c).cell m = s.cell m := by
  cases ev with
  | none => rfl
  | dark => exact modClu_cell (f := fun k => { k with owedDark := true }) (fun _ => rfl) s c m
  | stuck => exact modClu_cell (f := fun k => { k with owedStuck := true }) (fun _ => rfl) s c m
  | limit => exact modClu_cell (f := fun k => { k with owedLimit := true }) (fun _ => rfl) s c m

theorem raiseLoop_frame (ev : LoopEv) (c : Nat) (s : State) : s.raiseLoop ev c = { s with clusters := (s.raiseLoop ev c).clusters } := by
  cases ev <;> rfl

/-- A change of a cell, and the event that it owes to the next boundary (R75). -/
def State.cellMoves (n : Nat) (f : Eng → Eng) (ev : LoopEv) (s : State) : State := (s.modCell n (Cell.modNow f)).raiseLoop ev (n / 32)

section
variable (s : State) (n : Nat) (f : Eng → Eng) (ev : LoopEv)

theorem cellMoves_frame : s.cellMoves n f ev = { s with clusters := (s.cellMoves n f ev).clusters } := by
  rw [State.cellMoves, raiseLoop_frame]; rfl

variable {s n}

theorem cellMoves_at (runs : s.engineRuns n = true) : (s.cellMoves n f ev).cell n = Cell.modNow f (s.cell n) := by
  rw [State.cellMoves, raiseLoop_cell, modCell_at (engineRuns_there runs).1 (engineRuns_there runs).2]

theorem cellMoves_eng (runs : s.engineRuns n = true) : ((s.cellMoves n f ev).cell n).engNow = f (s.cell n).engNow := by
  rw [cellMoves_at f ev runs, engNow_modNow]

theorem cellMoves_codes (runs : s.engineRuns n = true) :
    ((s.cellMoves n f ev).cell n).uf = (s.cell n).uf ∧ ((s.cellMoves n f ev).cell n).uh = (s.cell n).uh := by
  rw [cellMoves_at f ev runs]; exact modNow_codes f _

theorem cellMoves_away {m : Nat} (other : m ≠ n) : (s.cellMoves n f ev).cell m = s.cell m := by
  rw [State.cellMoves, raiseLoop_cell, modCell_away other]

/-- The event is owed by the cluster. -/
theorem cellMoves_owes (runs : s.engineRuns n = true) :
    (ev = .dark → ((s.cellMoves n f ev).clu (n / 32)).owedDark = true) ∧
    (ev = .stuck → ((s.cellMoves n f ev).clu (n / 32)).owedStuck = true) ∧
    (ev = .limit → ((s.cellMoves n f ev).clu (n / 32)).owedLimit = true) := by
  have there : n / 32 < (s.modCell n (Cell.modNow f)).clusters.length := by
    rw [modCell_clusters, length_modAt]; exact (engineRuns_there runs).1
  refine ⟨?_, ?_, ?_⟩ <;> rintro rfl <;> exact congrArg _ (modClu_at there _)
end

/-! ### Firmware's notes of what became of cells -/

theorem setReason_frame (n r : Nat) (s : State) : s.setReason n r = { s with sys := (s.setReason n r).sys } := by
  unfold State.setReason; split <;> rfl

theorem noted_frame (n r : Nat) (s : State) : ((s.setReason n r).cellsChanged n) =
    { s with sys := ((s.setReason n r).cellsChanged n).sys, fab := ((s.setReason n r).cellsChanged n).fab } := by
  rw [setReason_frame]; rfl

theorem noteRetiring_frame (c : Nat) (old : Cluster) (s : State) : s.noteRetiring c old =
    { s with sys := (s.noteRetiring c old).sys, fab := (s.noteRetiring c old).fab } := by
  unfold State.noteRetiring
  generalize List.range 32 = cells
  exact foldl_frame (fun (s : State) (a : Sys × Fab) => { s with sys := a.1, fab := a.2 }) (fun s => (s.sys, s.fab)) (fun _ => rfl)
    (fun _ _ _ => rfl) _ (fun s k => by
      dsimp only
      split
      · exact noted_frame _ _ s
      · split
        · exact noted_frame _ _ s
        · rfl) cells s

theorem noteRetiring_clusters (c : Nat) (old : Cluster) (s : State) : (s.noteRetiring c old).clusters = s.clusters := by
  rw [noteRetiring_frame]

theorem noteRetiring_cell (c m : Nat) (old : Cluster) (s : State) : (s.noteRetiring c old).cell m = s.cell m := by
  rw [State.cell, State.clu, noteRetiring_clusters, State.cell, State.clu]

theorem noteRetiring_clu (c d : Nat) (old : Cluster) (s : State) : (s.noteRetiring c old).clu d = s.clu d := by
  rw [State.clu, noteRetiring_clusters, State.clu]

/-! ### Loop states -/

/-- A change of state to another one keeps the state before it. -/
theorem goto_st (st : LState) (e : Eng) : (goto st e).st = st := by
  unfold goto; split
  · assumption
  · rfl

theorem goto_cause (st : LState) (e : Eng) : (goto st e).cause = e.cause ∧ (goto st e).pendRetire = e.pendRetire ∧
    (goto st e).win = e.win ∧ (goto st e).beforeStuck = e.beforeStuck ∧ (goto st e).darkEntries = e.darkEntries := by
  unfold goto; split <;> exact ⟨rfl, rfl, rfl, rfl, rfl⟩

theorem goto_prev {st : LState} {e : Eng} (other : e.st ≠ st) : (goto st e).prev = e.st := by rw [goto, if_neg other]

theorem resume_st (e : Eng) : (resume e).st = (if e.pSet = e.pGoal then .track else .hitch) := goto_st _ _

theorem resume_win (e : Eng) : (resume e).win = [] := (goto_cause _ _).2.2.1

theorem enterDark_st (e : Eng) : (enterDark e).st = .dark := goto_st _ _

theorem enterStuck_stuck {cls : ClassRec} {e : Eng} (few : e.stuckEpis < 16) :
    (enterStuck cls e).st = .stuck ∧ (enterStuck cls e).beforeStuck = e.st := by
  rw [enterStuck]
  dsimp only
  rw [if_neg (by omega)]
  exact ⟨goto_st _ _, (goto_cause _ _).2.2.2.1⟩

theorem enterStuck_hold {cls : ClassRec} {e : Eng} (many : 16 ≤ e.stuckEpis) :
    (enterStuck cls e).st = .hold ∧ (enterStuck cls e).cause = .fault ∧
      (enterStuck cls e).pendRetire = (e.pendRetire || decide (cls.retireN ≠ 0)) := by
  rw [enterStuck]
  dsimp only
  rw [if_pos many]
  exact ⟨goto_st _ _, (goto_cause _ _).1, (goto_cause _ _).2.1⟩

/-! ### The dark, lit and frozen tests -/

theorem darkDetect_eq {s : State} {n : Nat} (tests : s.tests n = true) (cl : closed (s.cell n).engNow = true) (run : 8 ≤ (s.cell n).engNow.darkRun)
    (out : parked (s.cell n).engNow = false) (live : frozenCode (s.cls n) (s.cell n).engNow = false) :
    darkDetect n s = s.cellMoves n enterDark .dark := by
  rw [darkDetect]
  rw [if_pos (by simp [tests, darkCond, cl, run, out, live])]
  rfl

theorem litDetect_eq {s : State} {n : Nat} (tests : s.tests n = true) (dark : (s.cell n).engNow.st = .dark) (run : 4 ≤ (s.cell n).engNow.litRun)
    (live : frozenCode (s.cls n) (s.cell n).engNow = false) : litDetect n s = s.cellMoves n resume .none := by
  rw [litDetect]
  rw [if_pos (by simp [tests, dark, run, live])]
  rfl

/-- What the frozen-feedback test makes of an engine's state (R79, R81). -/
def frozenEng (cls : ClassRec) (e : Eng) : Eng := enterStuck cls { e with fault := e.fault ||| 0x04 }

theorem frozenEng_stuck {cls : ClassRec} {e : Eng} (few : e.stuckEpis < 16) :
    (frozenEng cls e).st = .stuck ∧ (frozenEng cls e).beforeStuck = e.st :=
  enterStuck_stuck (e := { e with fault := e.fault ||| 0x04 }) few

theorem frozenEng_hold {cls : ClassRec} {e : Eng} (many : 16 ≤ e.stuckEpis) :
    (frozenEng cls e).st = .hold ∧ (frozenEng cls e).cause = .fault ∧
      (frozenEng cls e).pendRetire = (e.pendRetire || decide (cls.retireN ≠ 0)) :=
  enterStuck_hold (e := { e with fault := e.fault ||| 0x04 }) many

theorem frozenRun_eq {s : State} {n : Nat} (tests : s.tests n = true) (frozen : frozenCode (s.cls n) (s.cell n).engNow = true) :
    frozenRun n s = (s.cellMoves n (frozenEng (s.cls n)) .stuck).noteRetiring (n / 32) (s.clu (n / 32)) := by
  rw [frozenRun]
  dsimp only
  rw [if_pos (by simp [tests, frozen])]
  rfl

theorem closed_lit {e : Eng} (cl : closed e = true) : e.st ≠ .dark := by
  rintro st
  simp [closed, st] at cl

/-- Settles O13: each test that holds moves the cell's engine state, and owes its event to the next boundary. -/
theorem darkLitFrozenTransitions : Obligations.DarkLitFrozenTransitions := by
  unfold Obligations.DarkLitFrozenTransitions
  rintro s n e tests rfl
  have runs := tests_runs tests
  have frozenAt (frozen : frozenCode (s.cls n.val) (s.cell n.val).engNow = true) :
      ((frozenRun n.val s).cell n.val).engNow = frozenEng (s.cls n.val) (s.cell n.val).engNow := by
    rw [frozenRun_eq tests frozen, noteRetiring_cell, cellMoves_eng _ _ runs]
  refine ⟨?_, ?_, ?_, ?_⟩
  · intro cl run out live
    have eng := cellMoves_eng enterDark .dark runs
    refine ⟨_, congrArg Host.Outcome.next (darkDetect_eq tests cl run out live), cellMoves_frame s n.val enterDark .dark,
      (cellMoves_owes enterDark .dark runs).1 rfl, ?_, ?_, ?_, (cellMoves_codes enterDark .dark runs).1, (cellMoves_codes enterDark .dark runs).2,
      fun m other => cellMoves_away enterDark .dark other⟩
    · rw [eng, enterDark_st]
    · rw [eng]; exact goto_prev (closed_lit cl)
    · rw [eng]; rfl
  · intro dark run live
    have eng := cellMoves_eng resume .none runs
    refine ⟨_, congrArg Host.Outcome.next (litDetect_eq tests dark run live), cellMoves_frame s n.val resume .none, ?_, ?_,
      fun m other => cellMoves_away resume .none other⟩
    · rw [eng, resume_st]
    · rw [eng, resume_win]
  · intro frozen few
    refine ⟨_, rfl, ?_, ?_, ?_, ?_⟩
    · rw [frozenRun_eq tests frozen, noteRetiring_clu]
      exact (cellMoves_owes (frozenEng (s.cls n.val)) .stuck runs).2.1 rfl
    · rw [frozenAt frozen]; exact (frozenEng_stuck few).1
    · rw [frozenAt frozen]; exact (frozenEng_stuck few).2
    · rw [frozenRun_eq tests frozen, noteRetiring_cell]
      exact (cellMoves_codes (frozenEng (s.cls n.val)) .stuck runs).1
  · intro frozen many
    obtain ⟨hold, fault, pend⟩ := frozenEng_hold (cls := s.cls n.val) many
    refine ⟨_, rfl, ?_, ?_, ?_⟩
    · rw [frozenAt frozen]; exact hold
    · rw [frozenAt frozen]; exact fault
    · rw [frozenAt frozen, pend]; simp

/-! ### The H path and the dither -/

theorem hUpdate_phase {c : Ctx} {e : Eng} (due : e.hDue = true) (cand : e.noCand = false) (both : e.honly = false) (phase : e.winner = .phase)
    (some_ : 0 < e.barN) (valid : 2 * e.barInvalid ≤ e.barN) (out : (e.taken.getD {}).state ≠ .park) :
    ∃ h, hUpdate c e = { (moveTrim h e) with hDue := false, phiI := e.phiI - etaH c.atl * (h - e.hTrim), barPrev := e.barSum / e.barN } := by
  unfold hUpdate
  dsimp only
  rw [if_neg (by rw [due]; exact Bool.noConfusion), if_neg (by rw [cand]; exact Bool.noConfusion), if_neg (by rw [both]; exact Bool.noConfusion),
    if_neg (by rintro (a | a | a | a)
               · exact a phase
               · omega
               · exact out a
               · omega)]
  exact ⟨_, rfl⟩

theorem ditherFlip_flips {c : Ctx} {e : Eng} (due : e.flipDue = true) :
    (ditherFlip c e).flipDue = false ∧ (ditherFlip c e).dithN = 0 ∧ (ditherFlip c e).dithNeg = !e.dithNeg := by
  unfold ditherFlip
  dsimp only
  rw [if_neg (by rw [due]; exact Bool.noConfusion)]
  split
  · exact ⟨rfl, rfl, rfl⟩
  · split <;> exact ⟨rfl, rfl, rfl⟩

theorem hPath_eq {s : State} {n : Fin 8192} (runs : s.engineRuns n.val = true) :
    exec (.hPathUpdate n) s = .next (s.cellMoves n.val (hUpdate (s.ctx n.val)) .none) := by
  show Host.Outcome.next (if s.engineRuns n.val then _ else _) = _
  rw [if_pos runs]
  rfl

theorem ditherFlips_eq {s : State} {n : Fin 8192} (runs : s.engineRuns n.val = true) :
    exec (.honlyDitherFlip n) s = .next (s.cellMoves n.val (ditherFlip (s.ctx n.val)) .none) := by
  show Host.Outcome.next (if s.engineRuns n.val then _ else _) = _
  rw [if_pos runs]
  rfl

/-! ### The ends of STUCK and HOLD -/

theorem retestOk_iff (e : Eng) : retestOk e = true ↔ e.rerun = false ∧ e.chgMb = true ∧ e.chgMx = true := by
  simp [retestOk, and_assoc]

theorem stuckEnd_st (e : Eng) : (stuckEnd e).st = (if e.rerun = false ∧ e.chgMb = true ∧ e.chgMx = true then e.beforeStuck else .hold) := by
  rw [stuckEnd]
  split
  · rename_i ok
    rw [if_pos ((retestOk_iff e).1 ok)]
    cases before : e.beforeStuck with
    | dark => exact enterDark_st e
    | limit => exact goto_st _ _
    | off | hitch | track | hold | stuck | retired => exact goto_st _ _
  · rename_i bad
    rw [if_neg (fun ok => bad ((retestOk_iff e).2 ok))]
    exact goto_st _ _

theorem stuckEvent_ok {e : Eng} (ok : retestOk e = true) :
    (e.beforeStuck = .dark → stuckEvent e = .dark) ∧ (e.beforeStuck = .limit → stuckEvent e = .limit) := by
  rw [stuckEvent, if_pos ok]
  exact ⟨fun before => by rw [before], fun before => by rw [before]⟩

theorem retestEnds_eq {s : State} {n : Nat} (tests : s.tests n = true) (stuck : (s.cell n).engNow.st = .stuck)
    (past : (s.cls n).stuckK ≤ (s.cell n).engNow.retest) : retestEnds n s = s.cellMoves n stuckEnd (stuckEvent (s.cell n).engNow) := by
  rw [retestEnds]
  rw [if_pos (by simp [tests, stuck, past])]
  rfl

/-- What the recovery from HOLD makes of an engine's state (R76, R81). -/
def recoveredEng (e : Eng) : Eng := { (resume e) with stuckEpis := sat8 e.stuckEpis, recRun := 0 }

theorem holdRecovery_eq {s : State} {n : Fin 8192} (tests : s.tests n.val = true) (held : heldFault (s.cell n.val).engNow = true)
    (past : 1024 ≤ (s.cell n.val).engNow.recRun) : exec (.holdRecovery n) s = .next (s.cellMoves n.val recoveredEng .none) := by
  show Host.Outcome.next (if (s.tests n.val && heldFault (s.cell n.val).engNow && decide (1024 ≤ (s.cell n.val).engNow.recRun)) then _ else _) = _
  rw [if_pos (by simp [tests, held, past])]
  rfl

theorem heldFault_hold {e : Eng} (held : heldFault e = true) : e.st = .hold := by
  simp only [heldFault, Bool.and_eq_true, decide_eq_true_eq] at held
  exact held.1.1

/-- A cell of which firmware notes that it retires or becomes heater-only (R85). -/
def State.cellNoted (n r : Nat) (f : Cell → Cell) (s : State) : State := ((s.modCell n f).setReason n r).cellsChanged n

theorem cellNoted_frame (n r : Nat) (f : Cell → Cell) (s : State) : s.cellNoted n r f =
    { s with clusters := (s.cellNoted n r f).clusters, sys := (s.cellNoted n r f).sys, fab := (s.cellNoted n r f).fab } := by
  rw [State.cellNoted, noted_frame]; rfl

theorem cellNoted_clusters (n r : Nat) (f : Cell → Cell) (s : State) : (s.cellNoted n r f).clusters = (s.modCell n f).clusters := by
  rw [State.cellNoted, noted_frame]

theorem cellNoted_cell (n r m : Nat) (f : Cell → Cell) (s : State) : (s.cellNoted n r f).cell m = (s.modCell n f).cell m := by
  rw [State.cell, State.clu, cellNoted_clusters, State.cell, State.clu]

theorem cellNoted_at {s : State} {n r : Nat} {f : Cell → Cell} (runs : s.engineRuns n = true) : (s.cellNoted n r f).cell n = f (s.cell n) := by
  rw [cellNoted_cell, modCell_at (engineRuns_there runs).1 (engineRuns_there runs).2]

theorem cellNoted_away {s : State} {n r m : Nat} {f : Cell → Cell} (other : m ≠ n) : (s.cellNoted n r f).cell m = s.cell m := by
  rw [cellNoted_cell, modCell_away other]

/-- A cell with a retirement pending (R85). -/
def pendingCell : Cell → Cell := Cell.modEng (fun e => { e with pendRetire := true })

theorem pendTimeout_eq {s : State} {n : Nat} (tests : s.tests n = true) (held : heldFault (s.cell n).engNow = true) (auto : (s.cls n).retireN ≠ 0)
    (past : (s.cls n).retireN * 1000000 ≤ s.runNs n) : pendTimeout n s = s.cellNoted n 1 pendingCell := by
  rw [pendTimeout]
  rw [if_pos (by simp [tests, held, auto, past])]
  rfl

/-- Settles O14: each end and each update of the H path is a move of the cell's engine state. -/
theorem stuckHoldAndHPath : Obligations.StuckHoldAndHPath := by
  unfold Obligations.StuckHoldAndHPath
  refine ⟨?_, ?_, ?_⟩
  · intro s n runs due both cand phase some_ valid out
    obtain ⟨h, eq⟩ := hUpdate_phase (c := s.ctx n.val) due cand both phase some_ valid out
    have eng := cellMoves_eng (hUpdate (s.ctx n.val)) .none runs
    refine ⟨_, hPath_eq runs, cellMoves_frame s n.val _ .none, fun m other => cellMoves_away _ .none other, ?_, ?_, ?_⟩
    · rw [eng, eq]
    · rw [eng, eq]
    · rw [eng, eq]
      show (s.cell n.val).engNow.phiI - etaH (s.ctx n.val).atl * (h - (s.cell n.val).engNow.hTrim) + etaH (s.ctx n.val).atl * h = _
      ring
  · intro s n runs due
    have eng := cellMoves_eng (ditherFlip (s.ctx n.val)) .none runs
    obtain ⟨flip, dith, neg⟩ := ditherFlip_flips (c := s.ctx n.val) due
    refine ⟨_, ditherFlips_eq runs, cellMoves_frame s n.val _ .none, fun m other => cellMoves_away _ .none other, ?_, ?_, ?_⟩
    · rw [eng, flip]
    · rw [eng, dith]
    · rw [eng, neg]
  · rintro s n e tests rfl
    have runs := tests_runs tests
    refine ⟨?_, ?_, ?_⟩
    · intro stuck past
      refine ⟨_, congrArg Host.Outcome.next (retestEnds_eq tests stuck past), cellMoves_frame s n.val stuckEnd _, ?_, ?_,
        fun m other => cellMoves_away stuckEnd _ other⟩
      · intro once mb mx
        obtain ⟨dark, limit⟩ := stuckEvent_ok ((retestOk_iff _).2 ⟨once, mb, mx⟩)
        have owes := cellMoves_owes stuckEnd (stuckEvent (s.cell n.val).engNow) runs
        exact ⟨fun before => owes.1 (dark before), fun before => owes.2.2 (limit before)⟩
      · rw [cellMoves_eng stuckEnd _ runs, stuckEnd_st]
    · intro held past
      have eng := cellMoves_eng recoveredEng .none runs
      refine ⟨_, holdRecovery_eq tests held past, cellMoves_frame s n.val recoveredEng .none, ?_, ?_, fun m other => cellMoves_away _ .none other⟩
      · rw [eng]; exact resume_st _
      · rw [eng]; rfl
    · intro held auto past
      have eng : ((s.cellNoted n.val 1 pendingCell).cell n.val).engNow = { (s.cell n.val).engNow with pendRetire := true } := by
        rw [cellNoted_at runs]; exact engNow_modEng _ _
      refine ⟨_, congrArg Host.Outcome.next (pendTimeout_eq tests held auto past), cellNoted_frame n.val 1 pendingCell s, ?_, ?_,
        fun m other => cellNoted_away other⟩
      · rw [eng]
      · rw [eng]; show (s.cell n.val).engNow.st = .hold; exact heldFault_hold held

end Sys2Proof.Machine

/-! PROOFS. Engines, their failures and their spares (O15). -/

namespace Sys2Proof.Machine

/-! ### Spares -/

theorem modSpare_at {s : State} {r : Nat} (there : r < s.spares.length) (f : Spare → Spare) : (s.modSpare r f).spare r = f (s.spare r) :=
  getD_modAt there _

/-- A spare that is not off is there. -/
theorem spare_there {s : State} {r : Nat} (up : (s.spare r).st ≠ .off) : r < s.spares.length := by
  by_contra beyond
  apply up
  rw [State.spare, List.getD_eq_default _ _ (by omega)]

/-! ### A failed engine -/

theorem failEngine_frame (c : Nat) (s : State) : s.failEngine c = { s with clusters := (s.failEngine c).clusters, spares := (s.failEngine c).spares } := by
  unfold State.failEngine
  dsimp only
  split
  · rfl
  · split
    · rfl
    · split <;> rfl

/-- A native engine that fails leaves its cells in HOLD, without an engine. -/
theorem failEngine_native {s : State} {c : Nat} (there : c < s.clusters.length) (native : (s.clu c).source = .native) :
    ∃ cause ramp, (s.failEngine c).clu c = { (({ s.clu c with failed := true } : Cluster).holdAll cause) with islandRamp := ramp } := by
  have marked (u : State) (clusters : u.clusters = s.clusters) :
      c < (u.modClu c (fun k => { k with failed := true })).clusters.length ∧
        (u.modClu c (fun k => { k with failed := true })).clu c = { s.clu c with failed := true } := by
    constructor
    · rw [modClu_clusters, length_modAt, clusters]; exact there
    · rw [modClu_at (clusters ▸ there), State.clu, clusters, State.clu]
  unfold State.failEngine
  dsimp only
  rw [if_neg (by rw [native]; exact EngSource.noConfusion)]
  obtain ⟨at_, mark⟩ := marked (s.modSpare (c / 16) (fun q => { q with failmap := setAt true (c % 16) q.failmap })) rfl
  split
  · exact ⟨.sparing, true, by rw [modClu_at at_, mark]⟩
  · split
    · refine ⟨.sparing, (s.clu c).islandRamp, ?_⟩
      show (State.modClu c (Cluster.holdAll .sparing) _).clu c = _
      rw [modClu_at at_, mark]
      rfl
    · refine ⟨.noEngine, (s.clu c).islandRamp, ?_⟩
      rw [modClu_at at_, mark]
      rfl

/-- A free spare of the row is powered for it. -/
theorem failEngine_calls {s : State} {c : Nat} (native : (s.clu c).source = .native) (stays : (s.clu c).pdown = false)
    (there : c / 16 < s.spares.length) (free : (s.spare (c / 16)).st = .off) (good : (s.spare (c / 16)).spareFailed = false) :
    ((s.failEngine c).spare (c / 16)).st = .powering ∧ ((s.failEngine c).spare (c / 16)).cluster = c := by
  unfold State.failEngine
  dsimp only
  rw [if_neg (by rw [native]; exact EngSource.noConfusion), if_neg (by rw [stays]; exact Bool.noConfusion), if_pos ⟨free, good⟩, modSpare_at]
  · exact ⟨rfl, rfl⟩
  · show c / 16 < (modAt _ _ s.spares).length
    rw [length_modAt]; exact there

theorem livenessFail_eq {s : State} {c : Nat} (on : (s.clu c).pow = .on) (served : (s.clu c).source ≠ .none) (misses : 8 ≤ (s.clu c).consecMiss)
    (slack : s.rowHasSlack c = true) : livenessFail c s = (s.modClu c (fun k => { k with liveness := true })).failEngine c := by
  rw [livenessFail]
  rw [if_pos ⟨on, served, misses, slack⟩]

/-- A failed engine of a cluster that a self-check has marked. -/
theorem failMarked_frame (c : Nat) (f : Cluster → Cluster) (s : State) : (s.modClu c f).failEngine c =
    { s with clusters := ((s.modClu c f).failEngine c).clusters, spares := ((s.modClu c f).failEngine c).spares } := by
  rw [failEngine_frame]; rfl

/-! ### Substitution -/

theorem tested_ok {s : State} {r : Nat} (test : (s.spare r).st = .selftest) :
    spareTested r true s = s.modSpare r (fun q => { q with st := .active, switched := true, firstAt := none }) := by
  rw [spareTested, if_neg (not_not_intro test), if_pos rfl]

theorem tested_bad {s : State} {r : Nat} (test : (s.spare r).st = .selftest) : spareTested r false s =
    (s.modSpare r (fun q => { q with st := .failed, spareFailed := true })).modClu (s.spare r).cluster (Cluster.holdAll .noEngine) := by
  rw [spareTested, if_neg (not_not_intro test), if_neg Bool.noConfusion]

/-- Settles O15, by what a failure and each step of a substitution leave of the cluster and of the spare. -/
theorem engineSubstitution : Obligations.EngineSubstitution := by
  unfold Obligations.EngineSubstitution
  refine ⟨?_, ?_, ?_, ?_, ?_⟩
  · intro s c k at_c on native misses slack
    have clu : s.clu c.val = k := getD_of_some at_c _
    have there : c.val < s.clusters.length := lt_of_some at_c
    subst clu
    have marked := modClu_at there (fun k => { k with liveness := true })
    have there' : c.val < (s.modClu c.val (fun k => { k with liveness := true })).clusters.length := by
      rw [modClu_clusters, length_modAt]; exact there
    obtain ⟨cause, ramp, fails⟩ := failEngine_native there' (by rw [marked]; exact native)
    refine ⟨_, congrArg Host.Outcome.next (livenessFail_eq on (by rw [native]; exact EngSource.noConfusion) misses slack),
      failMarked_frame _ _ s, ?_, ?_, ?_, ?_⟩
    · rw [fails, marked]; rfl
    · rw [fails, marked]; rfl
    · rw [fails]; rfl
    · intro p at_r off good stays
      have spare : s.spare (c.val / 16) = p := getD_of_some at_r _
      subst spare
      exact failEngine_calls (s := s.modClu c.val _) (by rw [marked]; exact native) (by rw [marked]; exact stays) (lt_of_some at_r)
        off good
  · intro s c due
    have there : c.val < s.clusters.length := by
      by_contra beyond
      rw [State.clu, List.getD_eq_default _ _ (by omega)] at due
      exact Bool.noConfusion due
    have at_c := modClu_at there (fun k => { k with ckpt := some (k.cells.map checkpointOf), ckptDue := false })
    refine ⟨s.modClu c.val (fun k => { k with ckpt := some (k.cells.map checkpointOf), ckptDue := false }), ?_, rfl, ?_, ?_, ?_⟩
    · show Host.Outcome.next (if (s.clu c.val).ckptDue then _ else _) = _
      rw [if_pos due]
    · rw [at_c]
    · rw [at_c]; rfl
    · rw [at_c]
  · intro s r st
    refine ⟨s.modSpare r.val (fun q => { q with st := .loading }), ?_, rfl, ?_⟩
    · show Host.Outcome.next (if (s.spare r.val).st = .powering then _ else _) = _
      rw [if_pos st]
    · rw [modSpare_at (spare_there (by rw [st]; exact SprState.noConfusion))]
  · intro s r st
    refine ⟨s.modSpare r.val (fun q => { q with st := .selftest }), ?_, rfl, ?_⟩
    · show Host.Outcome.next (if (s.spare r.val).st = .loading then _ else _) = _
      rw [if_pos st]
    · rw [modSpare_at (spare_there (by rw [st]; exact SprState.noConfusion))]
  · intro s r st
    have there : r.val < s.spares.length := spare_there (by rw [st]; exact SprState.noConfusion)
    constructor
    · exact ⟨_, congrArg Host.Outcome.next (tested_ok st), rfl, modSpare_at there _⟩
    · refine ⟨_, congrArg Host.Outcome.next (tested_bad st), rfl, modSpare_at there _, ?_⟩
      intro clu
      rw [modClu_at (s := s.modSpare r.val _) clu]
      rfl

end Sys2Proof.Machine

/-! PROOFS. An engine's period (O12). -/

namespace Sys2Proof.Machine

/-! ### What a period leaves -/

/-- What every change of a cluster keeps of it, no cluster loses. -/
theorem modClu_view {β : Type} (v : Cluster → β) {f : Cluster → Cluster} (same : ∀ k, v (f k) = v k) (s : State) (c d : Nat) :
    v ((s.modClu c f).clu d) = v (s.clu d) := by
  show v ((modAt f c s.clusters).getD d {}) = v (s.clusters.getD d {})
  rw [List.getD_eq_getElem?_getD, List.getD_eq_getElem?_getD, getElem?_modAt]
  split
  · cases s.clusters[d]? with
    | none => rfl
    | some k => exact same k
  · rfl

/-- A cluster but for the loop events that it owes. -/
def Cluster.unowed (k : Cluster) : Cluster := { k with owedDark := false, owedStuck := false, owedLimit := false }

theorem raiseLoop_unowed (ev : LoopEv) (c d : Nat) (s : State) : ((s.raiseLoop ev c).clu d).unowed = (s.clu d).unowed := by
  cases ev with
  | none => rfl
  | dark => exact modClu_view Cluster.unowed (f := fun k => { k with owedDark := true }) (fun _ => rfl) s c d
  | stuck => exact modClu_view Cluster.unowed (f := fun k => { k with owedStuck := true }) (fun _ => rfl) s c d
  | limit => exact modClu_view Cluster.unowed (f := fun k => { k with owedLimit := true }) (fun _ => rfl) s c d

theorem raiseLoop_away {c d : Nat} (other : d ≠ c) (ev : LoopEv) (s : State) : (s.raiseLoop ev c).clu d = s.clu d := by
  cases ev with
  | none => rfl
  | dark => exact modClu_away other _
  | stuck => exact modClu_away other _
  | limit => exact modClu_away other _

/-- The events of a period's cells, owed to the next boundary. -/
def State.raiseLoops (c : Nat) (outs : List (Eng × LoopEv)) (s : State) : State := outs.foldl (fun s q => s.raiseLoop q.2 c) s

theorem raiseLoops_frame (c : Nat) (outs : List (Eng × LoopEv)) (s : State) :
    s.raiseLoops c outs = { s with clusters := (s.raiseLoops c outs).clusters } :=
  foldl_frame (fun s cs => { s with clusters := cs }) State.clusters (fun _ => rfl) (fun _ _ _ => rfl) _ (fun _ _ => raiseLoop_frame _ _ _) outs s

theorem raiseLoops_unowed (c d : Nat) (outs : List (Eng × LoopEv)) (s : State) :
    ((s.raiseLoops c outs).clu d).unowed = (s.clu d).unowed :=
  foldl_keeps (fun u => (u.clu d).unowed) (fun s (q : Eng × LoopEv) => s.raiseLoop q.2 c) (fun u q => raiseLoop_unowed q.2 c d u) outs s

theorem raiseLoops_away {c d : Nat} (other : d ≠ c) (outs : List (Eng × LoopEv)) (s : State) : (s.raiseLoops c outs).clu d = s.clu d :=
  foldl_keeps (fun u => u.clu d) (fun s (q : Eng × LoopEv) => s.raiseLoop q.2 c) (fun u q => raiseLoop_away other q.2 u) outs s

/-! ### A completed period -/

/-- A cluster whose period has been computed: its cells' results, Σ m_k and s_c wait for the boundary (R50, R59, R90, R95). -/
def Cluster.completed (cells : List Cell) (total sc : Rat) (corrected slack : Nat) (k : Cluster) : Cluster :=
  { k with cells := cells, demandOut := total, bscaleOut := sc, done := true, slack := min 0xFFFF slack,
           slacks := (min 0xFFFF slack :: k.slacks).take 1024, periods := k.periods + 1,
           ckptDue := decide ((k.periods + 1) % 64 = 0), eccCnt := satAdd 0xFFFF k.eccCnt corrected,
           sinceRes := k.sinceRes.map (· + 1) }

/-- s_c of the period of a cluster. -/
def State.periodScale (s : State) (c : Nat) : Rat := scaleOf (s.clu c).latAllow (demandOf (s.firstPass c))

/-- The results of the second pass over a cluster. -/
def State.periodOuts (s : State) (c : Nat) : List (Eng × LoopEv) := s.secondPass c (s.periodScale c) (s.firstPass c)

/-- The cells of a cluster with their results, which wait for the boundary. -/
def State.resultCells (s : State) (c : Nat) (pads : List PadSense) : List Cell :=
  mapIx (fun i q => padCheck (pads.find? (fun p => p.cell.val = i)) { q with out := ((s.periodOuts c)[i]?).map (·.1) }) 0 (s.clu c).cells

/-- A cluster whose period is computed, before its cells' events are raised. -/
def State.withResults (c corrected slack : Nat) (pads : List PadSense) (s : State) : State :=
  s.modClu c (Cluster.completed (s.resultCells c pads) (demandOf (s.firstPass c)) (s.periodScale c) corrected slack)

theorem completePeriod_eq (c corrected slack : Nat) (pads : List PadSense) (s : State) : completePeriod c corrected slack pads s =
    ((s.withResults c corrected slack pads).raiseLoops c (s.periodOuts c)).noteRetiring c (s.clu c) := (rfl)

theorem completePeriod_frame (c corrected slack : Nat) (pads : List PadSense) (s : State) : completePeriod c corrected slack pads s =
    { s with clusters := (completePeriod c corrected slack pads s).clusters, fab := (completePeriod c corrected slack pads s).fab,
             sys := (completePeriod c corrected slack pads s).sys } := by
  have raised (u : State) : (u.raiseLoops c (s.periodOuts c)).noteRetiring c (s.clu c) =
      { u with clusters := ((u.raiseLoops c (s.periodOuts c)).noteRetiring c (s.clu c)).clusters,
               fab := ((u.raiseLoops c (s.periodOuts c)).noteRetiring c (s.clu c)).fab,
               sys := ((u.raiseLoops c (s.periodOuts c)).noteRetiring c (s.clu c)).sys } := by
    rw [noteRetiring_frame, raiseLoops_frame]
  rw [completePeriod_eq]
  exact raised (s.withResults c corrected slack pads)

/-- Every cell has a result of the second pass. -/
theorem periodOuts_length (s : State) (c : Nat) : (s.periodOuts c).length = (s.clu c).cells.length := by
  rw [State.periodOuts, State.secondPass, length_mapIx, State.firstPass, length_mapIx]

/-- The pad check leaves the codes and the results. -/
theorem padCheck_keeps (p : Option PadSense) (c : Cell) : (padCheck p c).out = c.out ∧ (padCheck p c).uf = c.uf ∧ (padCheck p c).uh = c.uh := by
  unfold padCheck
  cases p <;> exact ⟨rfl, rfl, rfl⟩

theorem resultCells_at {s : State} {c i : Nat} {q : Cell} (pads : List PadSense) (at_i : (s.clu c).cells[i]? = some q) :
    ((s.resultCells c pads).getD i {}).out.isSome = true ∧ ((s.resultCells c pads).getD i {}).uf = q.uf ∧
      ((s.resultCells c pads).getD i {}).uh = q.uh := by
  have there : i < (s.periodOuts c).length := by rw [periodOuts_length]; exact lt_of_some at_i
  have result : (s.resultCells c pads)[i]? =
      some (padCheck (pads.find? (fun p => p.cell.val = i)) { q with out := ((s.periodOuts c)[i]?).map (·.1) }) := by
    rw [State.resultCells, getElem?_mapIx, at_i, Nat.zero_add]; rfl
  obtain ⟨out, uf, uh⟩ := padCheck_keeps (pads.find? (fun p => p.cell.val = i)) { q with out := ((s.periodOuts c)[i]?).map (·.1) }
  rw [getD_of_some result]
  refine ⟨?_, uf, uh⟩
  rw [out, List.getElem?_eq_getElem there]; rfl

/-- s_c × Σ m_k stays within the allowance (R59). -/
theorem scaleOf_within (allow : Nat) {total : Rat} (pos : 0 ≤ total) : scaleOf allow total * total ≤ max (allow : Rat) 0 := by
  rw [scaleOf]
  split
  · rename_i none_
    rw [le_antisymm none_ pos, mul_zero]
    exact le_max_right _ _
  · rename_i some_
    have some_ : 0 < total := not_le.1 some_
    calc min 1 ((allow : Rat) / total) * total ≤ (allow : Rat) / total * total := mul_le_mul_of_nonneg_right (min_le_right _ _) pos
      _ = allow := div_mul_cancel₀ _ (ne_of_gt some_)
      _ ≤ max (allow : Rat) 0 := le_max_left _ _

/-- The cluster after its period: the results, but for the loop events it owes. -/
theorem completePeriod_unowed {s : State} {c : Nat} (there : c < s.clusters.length) (corrected slack : Nat) (pads : List PadSense) :
    ((completePeriod c corrected slack pads s).clu c).unowed =
      ((s.clu c).completed (s.resultCells c pads) (demandOf (s.firstPass c)) (s.periodScale c) corrected slack).unowed := by
  rw [completePeriod_eq, noteRetiring_clu, raiseLoops_unowed, State.withResults, modClu_at there]

theorem completePeriod_away {s : State} {c d : Nat} (other : d ≠ c) (corrected slack : Nat) (pads : List PadSense) :
    (completePeriod c corrected slack pads s).clu d = s.clu d := by
  rw [completePeriod_eq, noteRetiring_clu, raiseLoops_away other, State.withResults, modClu_away other]

/-- What O12 says of a completed period. -/
theorem completePeriod_completes {s : State} {c : Nat} {k : Cluster} (at_c : s.clusters[c]? = some k) (corrected slack : Nat) (pads : List PadSense) :
    let t := completePeriod c corrected slack pads s
    (t.clu c).done = true ∧ (t.clu c).periods = k.periods + 1 ∧ (t.clu c).slack = min 0xFFFF slack ∧
      (0 ≤ (t.clu c).demandOut → (t.clu c).bscaleOut * (t.clu c).demandOut ≤ max ((k.latAllow : Nat) : Rat) 0) ∧
      (∀ i q, k.cells[i]? = some q → ((t.clu c).cell i).out.isSome = true ∧ ((t.clu c).cell i).uf = q.uf ∧ ((t.clu c).cell i).uh = q.uh) := by
  have clu : s.clu c = k := getD_of_some at_c _
  subst clu
  have result := completePeriod_unowed (lt_of_some at_c) corrected slack pads
  generalize completePeriod c corrected slack pads s = t at result ⊢
  have demand : (t.clu c).demandOut = demandOf (s.firstPass c) := congrArg Cluster.demandOut result
  have scale : (t.clu c).bscaleOut = s.periodScale c := congrArg Cluster.bscaleOut result
  have cells : (t.clu c).cells = s.resultCells c pads := congrArg Cluster.cells result
  refine ⟨congrArg Cluster.done result, congrArg Cluster.periods result, congrArg Cluster.slack result, ?_, ?_⟩
  · rw [demand, scale]
    exact scaleOf_within _
  · intro i q at_i
    rw [Cluster.cell, cells]
    exact resultCells_at pads at_i

/-! ### The self-checks -/

/-- What an engine's period is, where one is due. -/
def periodResult (c : Nat) (slack : Nat) (pads : List PadSense) (s : State) : EngineCheck → State
  | .clean => completePeriod c 0 slack pads s
  | .corrected n => completePeriod c n slack pads s
  | .residue => residueFault c s
  | .eccUe => (s.modClu c (fun k => { k with eccUe := true })).failEngine c

theorem loopPeriod_due {s : State} {c : Nat} (on : (s.clu c).pow = .on) (began : (s.clu c).lastB ≠ none) (undone : (s.clu c).done = false)
    (kept : (s.clu c).discarded = false) (runs : (s.clu c).skipping = false) (served : (s.clu c).source ≠ .none) (cells : s.hasCells c = true)
    (chk : EngineCheck) (slack : Nat) (pads : List PadSense) : loopPeriod c chk slack pads s = periodResult c slack pads s chk := by
  unfold loopPeriod
  dsimp only
  rw [if_neg (by simp [on, began, undone, kept, runs, served, cells])]
  cases chk <;> rfl

theorem residueFault_first {s : State} {c : Nat} (first : (s.clu c).sinceRes = none) :
    residueFault c s = s.modClu c (fun k => { k with residue := true, discarded := true, sinceRes := some 0 }) := by
  rw [residueFault]
  rw [first]
  exact if_neg Bool.noConfusion

/-- Settles O12: a period that completes leaves its results to the boundary; each self-check has its own outcome. -/
theorem enginePeriodCompletes : Obligations.EnginePeriodCompletes := by
  unfold Obligations.EnginePeriodCompletes
  intro s c k slack pads at_c on began undone kept runs served cells
  have clu : s.clu c.val = k := getD_of_some at_c _
  have there := lt_of_some at_c
  have due (chk : EngineCheck) : exec (.loopPeriodDone c chk slack pads) s = .next (periodResult c.val slack pads s chk) := by
    subst clu
    exact congrArg Host.Outcome.next (loopPeriod_due on began undone kept runs served cells chk slack pads)
  refine ⟨?_, ?_, ?_⟩
  · intro chk good
    have completes : ∃ n, periodResult c.val slack pads s chk = completePeriod c.val n slack pads s := by
      rcases good with rfl | ⟨n, rfl⟩
      · exact ⟨0, rfl⟩
      · exact ⟨n, rfl⟩
    obtain ⟨n, eq⟩ := completes
    obtain ⟨done, periods, slack', within, results⟩ := completePeriod_completes at_c n slack pads
    exact ⟨_, (due chk).trans (congrArg _ eq), completePeriod_frame c.val n slack pads s, done, periods, slack', within, results,
      fun d other => completePeriod_away other n slack pads⟩
  · intro first
    subst clu
    refine ⟨_, (due .residue).trans (congrArg _ (residueFault_first first)), rfl, modClu_at there _⟩
  · intro native
    subst clu
    have marked := modClu_at there (fun k => { k with eccUe := true })
    obtain ⟨cause, ramp, fails⟩ := failEngine_native (s := s.modClu c.val (fun k => { k with eccUe := true }))
      (by rw [modClu_clusters, length_modAt]; exact there) (by rw [marked]; exact native)
    refine ⟨_, due .eccUe, failMarked_frame _ _ s, ?_, ?_, ?_⟩
    · rw [periodResult, fails, marked]; rfl
    · rw [periodResult, fails, marked]; rfl
    · rw [periodResult, fails]; rfl

end Sys2Proof.Machine

/-! PROOFS. Pads and port-end taps (O16). -/

namespace Sys2Proof.Machine

/-! ### Bits of a register word -/

/-- A bit of a word's number is the word's bit. -/
theorem bit_toNat {w : Nat} (v : BitVec w) (i : Nat) : bit v.toNat i = v.getLsbD i := by
  rw [BitVec.getLsbD, Nat.testBit_eq_decide_div_mod_eq, bit]

/-! ### A pad condition of an F pad -/

/-- A cell whose F pad has failed is heater-only (R82, R113). -/
def failedPad (cls : ClassRec) (c : Cell) : Cell := Cell.modEng (makeHonly cls) { c with fPadFault := true }

theorem padFault_eq {s : State} {n : Nat} (runs : s.engineRuns n = true) (past : 16 ≤ (s.cell n).padRun) (once : (s.cell n).fPadFault = false) :
    padFault n s = s.cellNoted n 4 (failedPad (s.cls n)) := by
  rw [padFault]
  rw [if_pos (by simp [runs, past, once])]
  rfl

/-! ### Over-current -/

/-- The latest trips of a heater: this one, and those of the 1,024 periods before (R110). -/
def State.tripsNow (s : State) (n : Nat) : List Nat :=
  ((s.clu (n / 32)).bIx :: (s.cell n).trips).filter (fun b => decide ((s.clu (n / 32)).bIx < b + 1024))

/-- A heater after an over-current (R110). -/
def tripped (trips : List Nat) (c : Cell) : Cell :=
  let park := decide (4 ≤ trips.length)
  { c with hOff := true, hOc := true, trips := if park then [] else trips, hParked := park, uh := if park then 0 else c.uh,
           qErr1 := if park then 0 else c.qErr1, qErr2 := if park then 0 else c.qErr2 }

/-- Firmware has the heater measured next (R271). -/
def State.measuredNext (n : Nat) (s : State) : State := if s.firmware then s.queuePrio n else s

theorem measuredNext_frame (n : Nat) (s : State) : s.measuredNext n = { s with hkc := (s.measuredNext n).hkc } := by
  unfold State.measuredNext State.queuePrio
  split
  · split <;> rfl
  · rfl

/-- The machine at an over-current, before firmware's measurement. -/
def State.trips (n : Nat) (s : State) : State :=
  ((s.modClu (n / 32) (Cluster.modTo s.now)).modCell n (tripped (s.tripsNow n))).modIsland (n / 512) (fun i => { i with hocCnt := sat32 i.hocCnt })

theorem ocTrip_eq {s : State} {n : Nat} (on : (s.clu (n / 32)).pow = .on) (driven : (s.cell n).parked = false) (free : (s.cell n).hParked = false)
    (running : (s.cell n).hOff = false) : ocTrip n s = (s.trips n).measuredNext n := by
  rw [ocTrip]
  dsimp only
  rw [if_neg (by simp [on, driven, free, running])]
  rfl

theorem measuredNext_cell (n m : Nat) (s : State) : (s.measuredNext n).cell m = s.cell m := by
  rw [measuredNext_frame]; rfl

theorem trips_cell (n m : Nat) (s : State) : (s.trips n).cell m =
    ((s.modClu (n / 32) (Cluster.modTo s.now)).modCell n (tripped (s.tripsNow n))).cell m := (rfl)

/-- The modulators of a cluster's heaters, run to an instant (R116). -/
theorem modTo_cell {k : Cluster} {i : Nat} {q : Cell} (x : Int) (at_i : k.cells[i]? = some q) :
    (k.modTo x).cell i = (Cell.modTo k.latV x q).1 := by
  refine getD_of_some ?_ _
  rw [Cluster.modTo]
  simp [at_i]

theorem modTo_length (x : Int) (k : Cluster) : (k.modTo x).cells.length = k.cells.length := by
  simp [Cluster.modTo]

theorem trips_frame (n : Nat) (s : State) : s.trips n = { s with clusters := (s.trips n).clusters, islands := (s.trips n).islands } := (rfl)

/-! ### Range changes, trims and taps -/

/-- The fields of a `CLU_CELL_PADCFG` word (R130). -/
theorem padCfgOf_toNat (v : Word) :
    padCfgOf v.toNat = ⟨v.getLsbD 11, v.toNat / 512 % 4, v.getLsbD 8, v.toNat / 64 % 4, v.toNat % 4⟩ := by
  simp [padCfgOf, bit_toNat, bits]

theorem padcfgApply_eq {s : State} {n : Fin 8192} {v : Word} (on : s.cluOn (n.val / 32) = true) : exec (.padcfgApply n v) s =
    .next (s.modCell n.val (fun c => { c with apply := (c.apply || bit v.toNat 12), cfg := padCfgOf v.toNat })) := by
  show Host.Outcome.next (if s.cluOn (n.val / 32) then _ else _) = _
  rw [if_pos on]

/-- A cell at the end of its range change's break (R114). -/
def brokenOff (supplyOut : Bool) (c : Cell) : Cell :=
  let c := { c with brk := false, cfgNow := c.cfg, uf := 0, uh := 0 }
  { c with parked := mustPark c || !c.everOut || supplyOut, fParked := mustPark c || !c.everOut || supplyOut }

theorem breakEnd_eq {s s1 : State} {n : Nat} (brk : (s.cell n).brk = true) (there : reach 4000000000 ((s.cell n).brkAt + 2000) s = some s1) :
    breakEnd n s = s1.modCell n (brokenOff s1.sys.supplyOut) := by
  rw [breakEnd, if_neg (by rw [brk]; exact Bool.noConfusion), there]
  rfl

/-- A cell that differs from a reset one is there. -/
theorem cell_there {s : State} {n : Nat} (some_ : s.cell n ≠ {}) : n / 32 < s.clusters.length ∧ n % 32 < (s.clu (n / 32)).cells.length := by
  constructor <;> by_contra beyond <;> apply some_
  · rw [State.cell, State.clu, List.getD_eq_default _ _ (by omega), Cluster.cell]
    simp only [List.getD_eq_getElem?_getD, List.getElem?_replicate]
    split <;> rfl
  · rw [State.cell, Cluster.cell, List.getD_eq_default _ _ (by omega)]

/-- A dark trim moves by at most one code, and stays within its range (R123). -/
theorem trimStep_bounds (sum : Rat) (n : Nat) {trim : Int} (lo : -8 ≤ trim) (hi : trim ≤ 8) :
    trim - 1 ≤ trimStep sum n trim ∧ trimStep sum n trim ≤ trim + 1 ∧ -8 ≤ trimStep sum n trim ∧ trimStep sum n trim ≤ 8 := by
  unfold trimStep
  split
  · omega
  · dsimp only
    split
    · unfold clampI; omega
    · split
      · unfold clampI; omega
      · omega

theorem trimStep_up {sum : Rat} {n : Nat} {trim : Int} (bright : 1 ≤ sum / n) (lo : -8 ≤ trim) : trimStep sum n trim = min 8 (trim + 1) := by
  have some_ : n ≠ 0 := by
    rintro rfl
    rw [Nat.cast_zero, div_zero] at bright
    exact absurd bright (by norm_num)
  rw [trimStep, if_neg some_]
  dsimp only
  rw [if_pos bright, clampI]
  omega

theorem darkTrim_dark {c : Cell} (dark : c.eng.st = .dark) (full : 1024 ≤ c.dkN) : (darkTrim c).dkN = 0 ∧
    (darkTrim c).trimMb = trimStep c.dkSumMb c.dkCntMb c.trimMb := by
  rw [darkTrim, if_pos ⟨dark, full⟩]
  exact ⟨rfl, rfl⟩

theorem ptapRangeStep_eq {s : State} {c : Fin 256} {x : Fin 4} {b : Int} (began : (s.clu c.val).lastB = some b) : exec (.ptapRangeStep c x) s =
    .next (s.modClu c.val (fun k => { k with ptap := modAt (tapStep k.ptapCfg x.val b) x.val k.ptap })) := by
  show Host.Outcome.next (match (s.clu c.val).lastB with | none => _ | some b => _) = _
  rw [began]

theorem tapStep_up {cfg : Word} {x : Nat} {b : Int} {p : PTap} (auto : tapAuto cfg x = true) (high : 2 ≤ p.orRun) (room : p.now < 3) :
    tapStep cfg x b p = { p with now := p.now + 1, orRun := 0, lowRun := 0, stepAt := some b } := by
  rw [tapStep, if_pos auto, if_pos ⟨high, room⟩]

theorem tapStep_down {cfg : Word} {x : Nat} {b : Int} {p : PTap} (auto : tapAuto cfg x = true) (few : p.orRun < 2) (low : 1024 ≤ p.lowRun)
    (room : 0 < p.now) : tapStep cfg x b p = { p with now := p.now - 1, orRun := 0, lowRun := 0, stepAt := some b } := by
  rw [tapStep, if_pos auto, if_neg (by omega), if_pos ⟨low, room⟩]

/-- A cluster that has had a boundary is there. -/
theorem began_there {s : State} {c : Nat} {b : Int} (began : (s.clu c).lastB = some b) : c < s.clusters.length := by
  by_contra beyond
  rw [State.clu, List.getD_eq_default _ _ (by omega)] at began
  exact nomatch began

/-- Settles O16, each clause by what the pad, cell or tap is after its command. -/
theorem padsAndTaps : Obligations.PadsAndTaps := by
  unfold Obligations.PadsAndTaps
  refine ⟨?_, ?_, ?_, ?_, ?_, ?_⟩
  · intro s n runs past once
    refine ⟨_, congrArg Host.Outcome.next (padFault_eq runs past once), cellNoted_frame n.val 4 _ s, ?_, ?_, fun m other => cellNoted_away other⟩
    · rw [cellNoted_at runs]; rfl
    · rw [cellNoted_at runs, failedPad, engNow_modEng]; rfl
  · intro s n c on at_n driven free running
    have cell : s.cell n.val = c := getD_of_some at_n _
    subst cell
    have up : (s.clu (n.val / 32)).pow = .on := of_decide_eq_true on
    have clu := clu_there (up.trans_ne DPow.noConfusion)
    have run := modClu_at clu (Cluster.modTo s.now)
    have at_cell : ((s.trips n.val).measuredNext n.val).cell n.val =
        tripped (s.tripsNow n.val) (Cell.modTo (s.clu (n.val / 32)).latV s.now (s.cell n.val)).1 := by
      rw [measuredNext_cell, trips_cell, modCell_at]
      · rw [State.cell, run, modTo_cell s.now at_n]
      · rw [modClu_clusters, length_modAt]; exact clu
      · rw [run, modTo_length]; exact lt_of_some at_n
    refine ⟨_, congrArg Host.Outcome.next (ocTrip_eq up driven free running), ?_, ?_, ?_, ?_, ?_, ?_⟩
    · rw [at_cell]; rfl
    · rw [at_cell]; rfl
    · rw [at_cell]; exact decide_eq_true_iff
    · intro m other
      rw [measuredNext_cell, trips_cell, modCell_away (by rintro rfl; exact other rfl), State.cell, modClu_away other]
      rfl
    · intro m other same there
      rw [same] at there ⊢
      have at_m : s.cell m = (s.clu (n.val / 32)).cells[m % 32] := by
        rw [State.cell, same]; exact List.getD_eq_getElem _ _ there
      rw [measuredNext_cell, trips_cell, modCell_away other, State.cell, same, run, modTo_cell s.now (List.getElem?_eq_getElem there), at_m]
    · rw [measuredNext_frame, trips_frame]
  · intro s n v c on at_n
    have cell : s.cell n.val = c := getD_of_some at_n _
    subst cell
    have up : (s.clu (n.val / 32)).pow = .on := of_decide_eq_true on
    refine ⟨_, padcfgApply_eq on, rfl, ?_, fun m other => modCell_away other _⟩
    rw [modCell_at (clu_there (up.trans_ne DPow.noConfusion)) (lt_of_some at_n), padCfgOf_toNat, bit_toNat]
  · intro s s1 n brk there
    have same : s1.clusters = s.clusters := by rw [reach_frame there]
    have cells (m : Nat) : s1.cell m = s.cell m := by rw [State.cell, State.clu, same, State.cell, State.clu]
    have at_n := cell_there (s := s1) (n := n.val) (by rw [cells]; rintro reset; rw [reset] at brk; exact Bool.noConfusion brk)
    refine ⟨_, congrArg Host.Outcome.next (breakEnd_eq brk there), ?_, ?_, fun m other => (modCell_away other _).trans (cells m)⟩
    · rw [modCell_at at_n.1 at_n.2]; rfl
    · rw [modCell_at at_n.1 at_n.2, cells]; rfl
  · rintro s n c rfl dark full lo hi
    have at_n := cell_there (s := s) (n := n.val) (by rintro reset; rw [reset] at dark; exact LState.noConfusion dark)
    obtain ⟨anew, trim⟩ := darkTrim_dark dark full
    obtain ⟨down, up, least, most⟩ := trimStep_bounds (s.cell n.val).dkSumMb (s.cell n.val).dkCntMb lo hi
    refine ⟨s.modCell n.val darkTrim, rfl, rfl, ?_⟩
    rw [modCell_at at_n.1 at_n.2, anew, trim]
    exact ⟨rfl, down, up, least, most, fun bright => trimStep_up bright lo, fun m other => modCell_away other _⟩
  · intro s c x b p began at_x auto
    have moved := modClu_at (began_there began) (fun k => { k with ptap := modAt (tapStep k.ptapCfg x.val b) x.val k.ptap })
    have at_x' := getElem?_modAt_same (f := tapStep (s.clu c.val).ptapCfg x.val b) at_x
    have auto' : tapAuto (s.clu c.val).ptapCfg x.val = true := (bit_toNat _ _).trans auto
    refine ⟨_, ptapRangeStep_eq began, rfl, ?_, ?_⟩
    · intro high room
      rw [moved]; exact at_x'.trans (by rw [tapStep_up auto' high room])
    · intro few low room
      rw [moved]; exact at_x'.trans (by rw [tapStep_down auto' few low room])

end Sys2Proof.Machine

/-! PROOFS. Power-down of a cluster, the retirement list, the drive islands and the heater budget (O17). -/

namespace Sys2Proof.Machine

/-! ### The beginning of a cluster's ramp -/

/-- A cluster whose substitution goes no further (R100). -/
def Cluster.unserved (k : Cluster) : Cluster :=
  { k with source := .none, done := false, cells := k.cells.map (fun c => { c with out := none }) }

/-- A spare whose substitution goes no further (R100). -/
def Spare.stopped (p : Spare) : Spare := { p with st := .off, switched := false, firstAt := none }

theorem beginDown_sparing {s : State} {c : Nat} (busy : (s.spare (c / 16)).busy = true) (its : (s.spare (c / 16)).cluster = c) :
    s.beginDown c = (((s.modClu c Cluster.unserved).modSpare (c / 16) Spare.stopped).modClu c Cluster.beginDown).cluChanged c := by
  have stops : s.stopSpare (c / 16) = (s.modClu c Cluster.unserved).modSpare (c / 16) Spare.stopped := by
    rw [State.stopSpare, if_pos busy, its]
    rfl
  rw [State.beginDown, if_pos (by simp [busy, its]), stops]

theorem beginDown_alone {s : State} {c : Nat} (free : (s.spare (c / 16)).busy = false ∨ (s.spare (c / 16)).cluster ≠ c) :
    s.beginDown c = (s.modClu c Cluster.beginDown).cluChanged c := by
  rw [State.beginDown, if_neg]
  rintro both
  rw [Bool.and_eq_true, decide_eq_true_eq] at both
  rcases free with idle | other
  · rw [idle] at both; exact Bool.noConfusion both.1
  · exact other both.2

theorem cluster_beginDown {k : Cluster} (on : k.pow = .on) (stays : k.pdown = false) : k.beginDown.pdown = true ∧ k.beginDown.pow = .on ∧
    (k.source = .none → k.beginDown.islandRamp = true) ∧ k.beginDown.source = k.source := by
  have ramps : ¬(k.pow ≠ .on ∨ k.pdown = true) := by simp [on, stays]
  unfold Cluster.beginDown
  rw [if_neg ramps]
  split
  · exact ⟨rfl, on, fun _ => rfl, rfl⟩
  · rename_i served
    exact ⟨rfl, on, fun none => absurd none served, rfl⟩

theorem beginDown_frame (c : Nat) (s : State) : s.beginDown c =
    { s with clusters := (s.beginDown c).clusters, spares := (s.beginDown c).spares, fab := (s.beginDown c).fab } := by
  by_cases sparing : (s.spare (c / 16)).busy = true ∧ (s.spare (c / 16)).cluster = c
  · rw [beginDown_sparing sparing.1 sparing.2]; rfl
  · have free : (s.spare (c / 16)).busy = false ∨ (s.spare (c / 16)).cluster ≠ c := by
      rw [← Bool.not_eq_true]; exact not_and_or.1 sparing
    rw [beginDown_alone free]; rfl

theorem beginDown_away {c d : Nat} (other : d ≠ c) (s : State) : (s.beginDown c).clu d = s.clu d := by
  by_cases sparing : (s.spare (c / 16)).busy = true ∧ (s.spare (c / 16)).cluster = c
  · rw [beginDown_sparing sparing.1 sparing.2]
    exact (modClu_away (s := (s.modClu c Cluster.unserved).modSpare (c / 16) Spare.stopped) other Cluster.beginDown).trans
      (modClu_away other Cluster.unserved)
  · have free : (s.spare (c / 16)).busy = false ∨ (s.spare (c / 16)).cluster ≠ c := by
      rw [← Bool.not_eq_true]; exact not_and_or.1 sparing
    rw [beginDown_alone free]
    exact modClu_away other _

theorem beginDown_pow {s : State} {c : Nat} (on : (s.clu c).pow = .on) (stays : (s.clu c).pdown = false) : ((s.beginDown c).clu c).pow = .on := by
  have there := clu_there (on.trans_ne DPow.noConfusion)
  by_cases sparing : (s.spare (c / 16)).busy = true ∧ (s.spare (c / 16)).cluster = c
  · rw [beginDown_sparing sparing.1 sparing.2]
    show (State.clu (State.modClu c Cluster.beginDown (s.modClu c Cluster.unserved)) c).pow = .on
    rw [modClu_at (by rw [modClu_clusters, length_modAt]; exact there), modClu_at there]
    exact (cluster_beginDown (k := (s.clu c).unserved) on stays).2.1
  · have free : (s.spare (c / 16)).busy = false ∨ (s.spare (c / 16)).cluster ≠ c := by
      rw [← Bool.not_eq_true]; exact not_and_or.1 sparing
    rw [beginDown_alone free]
    show ((s.modClu c Cluster.beginDown).clu c).pow = .on
    rw [modClu_at there]
    exact (cluster_beginDown on stays).2.1

/-- A substitution for the cluster goes no further, and the drive island ramps its heaters (R99, R100). -/
theorem beginDown_stops {s : State} {c : Nat} (on : (s.clu c).pow = .on) (stays : (s.clu c).pdown = false)
    (busy : (s.spare (c / 16)).busy = true) (its : (s.spare (c / 16)).cluster = c) (there : c / 16 < s.spares.length) :
    ((s.beginDown c).spare (c / 16)).st = .off ∧ ((s.beginDown c).spare (c / 16)).switched = false ∧
      ((s.beginDown c).clu c).source = .none ∧ ((s.beginDown c).clu c).islandRamp = true := by
  have clu := clu_there (on.trans_ne DPow.noConfusion)
  have spare : (s.beginDown c).spare (c / 16) = (s.spare (c / 16)).stopped := by
    rw [beginDown_sparing busy its]
    exact modSpare_at (s := s.modClu c Cluster.unserved) there Spare.stopped
  have at_c : (s.beginDown c).clu c = (s.clu c).unserved.beginDown := by
    rw [beginDown_sparing busy its]
    show State.clu (State.modClu c Cluster.beginDown (s.modClu c Cluster.unserved)) c = _
    rw [modClu_at (by rw [modClu_clusters, length_modAt]; exact clu), modClu_at clu]
  obtain ⟨-, -, ramp, source⟩ := cluster_beginDown (k := (s.clu c).unserved) on stays
  rw [spare, at_c]
  exact ⟨rfl, rfl, source, ramp rfl⟩

/-- What a cluster's power-down waits for (R24, R100, R152). -/
def State.downWaits (s : State) (c : Nat) : Prop :=
  s.openNames c = true ∨ s.pendingIn c = true ∨ s.tapsNeeded c = true ∨ ∃ i, i < 32 ∧ s.circuitThrough (32 * c + i) = true

theorem clusterDown_waits {s : State} {c : Nat} (waits : s.downWaits c) : clusterDown c s = s := by
  rw [clusterDown, if_pos]
  rcases waits with names | holds | taps | ⟨i, place, through⟩
  · exact .inr (.inl names)
  · exact .inr (.inr (.inl holds))
  · exact .inr (.inr (.inr (.inl taps)))
  · exact .inr (.inr (.inr (.inr (List.any_eq_true.2 ⟨i, List.mem_range.2 place, through⟩))))

theorem clusterDown_goes {s : State} {c : Nat} (fw : s.firmware = true) (free : ¬s.downWaits c) : clusterDown c s = s.beginDown c := by
  rw [clusterDown, if_neg]
  rintro (none | names | holds | taps | through)
  · rw [fw] at none; exact Bool.noConfusion none
  · exact free (.inl names)
  · exact free (.inr (.inl holds))
  · exact free (.inr (.inr (.inl taps)))
  · obtain ⟨i, place, through⟩ := List.any_eq_true.1 through
    exact free (.inr (.inr (.inr ⟨i, List.mem_range.1 place, through⟩)))

/-! ### The retirement list -/

theorem sysEnqueue_frame (r : NvmRecord) (y : Sys) : y.enqueue r = { y with queue := (y.enqueue r).queue, dropped := (y.enqueue r).dropped } := by
  unfold Sys.enqueue
  repeat' split
  all_goals rfl

theorem sysTested_frame (y : Sys) : y.tested = { y with absent := y.tested.absent, present := y.tested.present } := by
  unfold Sys.tested
  split <;> rfl

/-- A record to the NVM changes the flash, or the queue of what waits for it, and what the test of the flash finds (R333-R335). -/
theorem sysNvmWrite_frame (r : NvmRecord) (y : Sys) : y.nvmWrite r =
    { y with absent := (y.nvmWrite r).absent, present := (y.nvmWrite r).present, queue := (y.nvmWrite r).queue,
             dropped := (y.nvmWrite r).dropped, flash := (y.nvmWrite r).flash } := by
  unfold Sys.nvmWrite
  dsimp only
  split
  · rw [sysEnqueue_frame, sysTested_frame]
  split
  · rw [sysEnqueue_frame, sysTested_frame]
  · rw [sysTested_frame]

/-- The entry of a unit in the retirement list (R86). -/
def State.retireEntry (s : State) (kind unit : Nat) : RetireEntry :=
  ({ unit := unit, kind := kind, reason := s.retireReason kind unit, taiS := (mailOf s.tai).1 } : RetireEntry).sealCrc

/-- The list with the entry, in RAM. -/
def State.retireListed (kind unit : Nat) (s : State) : State :=
  { s with sys := { s.sys with retire := s.sys.retire ++ [s.retireEntry kind unit], retireFull := s.sys.retireFull || decide (1024 ≤ s.sys.retire.length) } }

theorem sealCrc_ok (e : RetireEntry) : e.sealCrc.crcOk = true := decide_eq_true (by rfl)

theorem retireAppend_full {s : State} {kind unit : Nat} (fw : s.firmware = true) (due : s.retireDue kind unit = true)
    (full : 1024 ≤ s.sys.retire.length) : retireAppend kind unit s = s.retireListed kind unit := by
  rw [retireAppend, if_neg (by simp [fw, due])]
  dsimp only
  rw [if_pos (decide_eq_true full)]
  rfl

theorem retireAppend_room {s : State} {kind unit : Nat} (fw : s.firmware = true) (due : s.retireDue kind unit = true)
    (room : ¬1024 ≤ s.sys.retire.length) :
    retireAppend kind unit s = (s.retireListed kind unit).nvmWrite (.retire (s.retireEntry kind unit)) := by
  rw [retireAppend, if_neg (by simp [fw, due])]
  dsimp only
  rw [if_neg (by simpa using room)]
  rfl

/-- The list takes the entry, full or not. -/
theorem retireAppend_lists {s : State} {kind unit : Nat} (fw : s.firmware = true) (due : s.retireDue kind unit = true) :
    retireAppend kind unit s = { s with sys := (retireAppend kind unit s).sys } ∧
      (retireAppend kind unit s).sys.retire = s.sys.retire ++ [s.retireEntry kind unit] := by
  by_cases full : 1024 ≤ s.sys.retire.length
  · rw [retireAppend_full fw due full]
    exact ⟨rfl, rfl⟩
  · rw [retireAppend_room fw due full]
    refine ⟨rfl, ?_⟩
    rw [State.nvmWrite]
    dsimp only
    rw [sysNvmWrite_frame]
    rfl

/-! ### Drive islands -/

theorem modIsland_at {s : State} {r : Nat} (there : r < s.islands.length) (f : Island → Island) : (s.modIsland r f).island r = f (s.island r) :=
  getD_modAt there _

theorem modIsland_away {s : State} {r q : Nat} (other : q ≠ r) (f : Island → Island) : (s.modIsland r f).island q = s.island q :=
  getD_modAt_other other

/-- An island that is not off is there. -/
theorem island_there {s : State} {r : Nat} (up : (s.island r).pow ≠ .off) : r < s.islands.length := by
  by_contra beyond
  apply up
  rw [State.island, List.getD_eq_default _ _ (by omega)]

/-- A cluster of a row whose interval ends starts its sum anew (R116). -/
def freshSum (r : Nat) (x : Int) (c : Nat) (k : Cluster) : Cluster := if c / 16 = r then { (k.modTo x) with iAcc := 0 } else k

/-- I_pred of the interval of a row that ends now. -/
def State.rowPred (s : State) (r : Nat) : Rat :=
  predOf s.now (s.island r) (((s.clusters.drop (16 * r)).take 16).map (Cluster.modTo s.now))

theorem islandInterval_eq {s : State} {r : Nat} (on : (s.island r).pow = .on) (v a : Nat) : islandInterval r v a s =
    (s.mapClu (freshSum r s.now)).modIsland r (islandMeasure v a (s.rowPred r) s.now) := by
  rw [islandInterval, if_neg (not_not_intro on)]
  rfl

theorem clampR_bounds {lo hi : Rat} (x : Rat) (order : lo ≤ hi) : lo ≤ clampR lo hi x ∧ clampR lo hi x ≤ hi :=
  ⟨le_max_left _ _, max_le order (min_le_left _ _)⟩

theorem islandMeasure_low {p : Rat} (low : p < 200) (v a : Nat) (x : Int) (i : Island) :
    (islandMeasure v a p x i).kappa = i.kappa ∧ (islandMeasure v a p x i).badRun = i.badRun := by
  have judged : decide (200 ≤ p) = false := decide_eq_false (not_le.2 low)
  unfold islandMeasure
  simp only [judged, Bool.false_and, Bool.false_eq_true, if_false, and_self]

theorem islandMeasure_kappa {p : Rat} (high : 200 ≤ p) (v a : Nat) (x : Int) {i : Island} (good : i.isenseFault = false) :
    9 / 10 ≤ (islandMeasure v a p x i).kappa ∧ (islandMeasure v a p x i).kappa ≤ 11 / 10 := by
  have judged : (decide (200 ≤ p) && !i.isenseFault) = true := by simp [high, good]
  unfold islandMeasure
  simp only [judged, if_true]
  exact clampR_bounds _ (by norm_num)

theorem isenseFault_eq {s : State} {r : Fin 16} (on : (s.island r.val).pow = .on) (run : 64 ≤ (s.island r.val).badRun) :
    exec (.isenseFault r) s = .next (s.modIsland r.val (fun i => { i with isenseFault := true })) := by
  show Host.Outcome.next (if (s.island r.val).pow = .on ∧ 64 ≤ (s.island r.val).badRun then _ else _) = _
  rw [if_pos ⟨on, run⟩]

/-! ### The budget -/

theorem budgetInterval_eq {s : State} (run : s.time.run = true) : exec .budgetInterval s = .next (budgetStep s) := by
  show Host.Outcome.next (if s.time.run then _ else _) = _
  rw [if_pos run]

theorem grants_current (iLim pLim : Nat) (h : List (Rat × Rat)) : 0 ≤ (grants iLim pLim h).1 ∧ (grants iLim pLim h).1 ≤ 44000 :=
  ⟨le_max_left _ _, max_le (by norm_num) (min_le_left _ _)⟩

/-- Settles O17, each clause by what the step leaves of the cluster, the list, the island or the allowances. -/
theorem powerDownRetireAndBudget : Obligations.PowerDownRetireAndBudget := by
  unfold Obligations.PowerDownRetireAndBudget
  refine ⟨?_, ?_, ?_, ?_, ?_, ?_, ?_⟩
  · intro s c k at_c on stays fw names pending taps through
    have clu : s.clu c.val = k := getD_of_some at_c _
    subst clu
    have free : ¬s.downWaits c.val := by
      rintro (a | a | a | ⟨i, place, a⟩)
      · rw [names] at a; exact Bool.noConfusion a
      · rw [pending] at a; exact Bool.noConfusion a
      · rw [taps] at a; exact Bool.noConfusion a
      · rw [through i place] at a; exact Bool.noConfusion a
    refine ⟨_, congrArg Host.Outcome.next (clusterDown_goes fw free), beginDown_frame c.val s, beginDown_pdown on, beginDown_pow on stays,
      fun d other => beginDown_away other s, fun busy there => beginDown_stops on stays busy.1 busy.2 there, ?_⟩
    intro idle
    rw [beginDown_alone idle]
    rfl
  · intro s c i place through
    exact congrArg Host.Outcome.next (clusterDown_waits (.inr (.inr (.inr ⟨i, place, through⟩))))
  · rintro s c (names | pending | taps)
    · exact congrArg Host.Outcome.next (clusterDown_waits (.inl names))
    · exact congrArg Host.Outcome.next (clusterDown_waits (.inr (.inl pending)))
    · exact congrArg Host.Outcome.next (clusterDown_waits (.inr (.inr (.inl taps))))
  · intro s kind unit fw due
    obtain ⟨frame, list⟩ := retireAppend_lists fw due
    refine ⟨_, rfl, frame, ⟨s.retireEntry kind unit, list, sealCrc_ok _, rfl, rfl, rfl, rfl⟩, ?_⟩
    intro full
    rw [retireAppend_full fw due full]
    refine ⟨?_, rfl, rfl⟩
    show (s.sys.retireFull || decide (1024 ≤ s.sys.retire.length)) = true
    rw [decide_eq_true full, Bool.or_true]
  · rintro s r v a p on rfl
    have there := island_there (on.trans_ne DPow.noConfusion)
    have at_r := modIsland_at (s := s.mapClu (freshSum r.val s.now)) there (islandMeasure v a (s.rowPred r.val) s.now)
    refine ⟨_, congrArg Host.Outcome.next (islandInterval_eq on v a), rfl, ?_, ?_, ?_, ?_, ?_, ?_, ?_, ?_⟩
    · intro c k at_c
      show (mapIx (freshSum r.val s.now) 0 s.clusters)[c]? = _
      rw [getElem?_mapIx, at_c, Nat.zero_add]
      rfl
    · rw [at_r]; rfl
    · rw [at_r]; rfl
    · rw [at_r]; rfl
    · rw [at_r]; rfl
    · intro low
      rw [at_r]
      exact islandMeasure_low low v a s.now (s.island r.val)
    · intro high good
      rw [at_r]
      exact islandMeasure_kappa high v a s.now good
    · intro q other
      rw [modIsland_away other]
      rfl
  · intro s r on run
    exact ⟨_, isenseFault_eq on run, rfl, modIsland_at (island_there (on.trans_ne DPow.noConfusion)) _⟩
  · intro s run
    obtain ⟨pos, most⟩ := grants_current s.thm.iLim s.thm.pLim (s.budgetNext.hist.getD [])
    refine ⟨_, budgetInterval_eq run, rfl, rfl, pos, most, min_le_right _ _, min_le_left _ _, _, ?_, rfl⟩
    intro c k at_c
    show (s.clusters.map _)[c]? = _
    rw [List.getElem?_map, at_c]
    rfl

end Sys2Proof.Machine

/-! PROOFS. A sample boundary (O11). -/

namespace Sys2Proof.Machine

/-! ### A bit added to a map -/

/-- A bit that is added to a number in which it is clear leaves the others. -/
theorem testBit_addBit {m c : Nat} (clear : bit m c = false) (i : Nat) : (m + 2 ^ c).testBit i = (decide (i = c) || m.testBit i) := by
  have even : m / 2 ^ c % 2 = 0 := by
    have := of_decide_eq_false clear
    omega
  have up : (m + 2 ^ c) / 2 ^ c = m / 2 ^ c + 1 := Nat.add_div_right m (Nat.two_pow_pos c)
  rcases Nat.lt_trichotomy i c with low | rfl | high
  · rw [Nat.add_comm, Nat.testBit_two_pow_add_gt low, decide_eq_false (by omega), Bool.false_or]
  · rw [Nat.testBit_eq_decide_div_mod_eq, up]
    simp only [decide_true, Bool.true_or, decide_eq_true_eq]
    omega
  · obtain ⟨d, rfl⟩ := Nat.exists_eq_add_of_lt high
    have halves (x : Nat) : x / 2 ^ (c + d + 1) = x / 2 ^ c / 2 / 2 ^ d := by
      rw [Nat.div_div_eq_div_mul, Nat.div_div_eq_div_mul]
      congr 1
      ring
    have same : (m / 2 ^ c + 1) / 2 = m / 2 ^ c / 2 := by omega
    have apart : decide (c + d + 1 = c) = false := decide_eq_false (by omega)
    rw [apart, Bool.false_or, Nat.testBit_eq_decide_div_mod_eq, halves, up, same, Nat.testBit_eq_decide_div_mod_eq, halves]

/-! ### What the raising of an event leaves -/

/-- The event fabric with more raised: no map bit and no occurrence is lost, and the channels are the same. -/
structure Evt.Grows (a b : Evt) : Prop where
  chans : b.chans = a.chans
  places : b.cluMap.length = a.cluMap.length
  map : ∀ x i, (a.cluMap.getD x 0).testBit i = true → (b.cluMap.getD x 0).testBit i = true
  occ : ∀ o ∈ a.chanIn, o ∈ b.chanIn

theorem Evt.Grows.refl (a : Evt) : a.Grows a := ⟨rfl, rfl, fun _ _ h => h, fun _ h => h⟩

theorem Evt.Grows.trans {a b c : Evt} (f : a.Grows b) (g : b.Grows c) : a.Grows c :=
  ⟨g.chans.trans f.chans, g.places.trans f.places, fun x i h => g.map x i (f.map x i h), fun o h => g.occ o (f.occ o h)⟩

theorem Evt.Grows.takers {a b : Evt} (g : a.Grows b) (src : Nat) : b.takers src = a.takers src := by
  rw [Evt.takers, g.chans, Evt.takers]

/-- More occurrences on their way. -/
theorem grows_occ (a : Evt) (more : List ChanOcc) : a.Grows { a with chanIn := a.chanIn ++ more } :=
  ⟨rfl, rfl, fun _ _ h => h, fun _ h => List.mem_append_left _ h⟩

/-- The map of a cluster's source with the cluster's bit. -/
def State.marked (k c : Nat) (s : State) : State :=
  { s with evt := { s.evt with cluMap := modAt (fun m => if bit m c then m else m + 2 ^ c) k s.evt.cluMap } }

/-- The raising of a cluster's source as a new occurrence (R224). -/
def State.raiseNew (k : Nat) (s : State) : State := ({ s with evt := { s.evt with cluAt := setAt (some s.now) k s.evt.cluAt } } : State).raise (0x40 + k) none

/-- A raising forms a new occurrence, or is one with the one before it. -/
theorem raiseClu_cases (k c : Nat) (s : State) : (∃ x, s.evt.cluAt.getD k none = some x ∧
      (s.raiseClu k c = s.marked k c ∨ s.raiseClu k c = (s.marked k c).either.2 ∨ s.raiseClu k c = (s.marked k c).either.2.raiseNew k)) ∨
    s.raiseClu k c = (s.marked k c).raiseNew k := by
  unfold State.raiseClu
  dsimp only
  cases first : s.evt.cluAt.getD k none with
  | none => exact .inr rfl
  | some x =>
    dsimp only
    split
    · exact .inl ⟨x, rfl, .inl rfl⟩
    · split
      · split
        · exact .inl ⟨x, rfl, .inr (.inl rfl)⟩
        · exact .inl ⟨x, rfl, .inr (.inr rfl)⟩
      · exact .inr rfl

theorem marked_bit (m c i : Nat) (h : m.testBit i = true) : (if bit m c then m else m + 2 ^ c).testBit i = true := by
  split
  · exact h
  · rename_i clear
    rw [testBit_addBit (Bool.not_eq_true _ ▸ clear), h, Bool.or_true]

theorem marked_own (m c : Nat) : (if bit m c then m else m + 2 ^ c).testBit c = true := by
  split
  · rename_i set
    rw [Nat.testBit_eq_decide_div_mod_eq]; exact set
  · rename_i clear
    rw [testBit_addBit (Bool.not_eq_true _ ▸ clear), decide_eq_true rfl, Bool.true_or]

theorem marked_grows (k c : Nat) (s : State) : s.evt.Grows (s.marked k c).evt := by
  refine ⟨rfl, length_modAt _ _ _, fun x i h => ?_, fun _ h => h⟩
  show ((modAt _ k s.evt.cluMap).getD x 0).testBit i = true
  rw [List.getD_eq_getElem?_getD, getElem?_modAt]
  rw [List.getD_eq_getElem?_getD] at h
  split
  · cases at_x : s.evt.cluMap[x]? with
    | none => rw [at_x] at h; exact h
    | some m => rw [at_x] at h; exact marked_bit m c i h
  · exact h

theorem raiseNew_grows (k : Nat) (s : State) : s.evt.Grows (s.raiseNew k).evt :=
  ⟨rfl, rfl, fun _ _ h => h, fun _ h => List.mem_append_left _ h⟩

/-- What the raising of a cluster's source leaves of the event fabric. -/
structure Raised (k c : Nat) (a b : Evt) : Prop where
  grows : a.Grows b
  own : k < a.cluMap.length → (b.cluMap.getD k 0).testBit c = true
  others : ∀ x, x ≠ k → b.cluAt.getD x none = a.cluAt.getD x none
  occurs : a.cluAt.getD k none = none → ∀ ch ∈ a.takers (0x40 + k), (⟨ch, none⟩ : ChanOcc) ∈ b.chanIn

theorem raiseNew_others {k x : Nat} (other : x ≠ k) (s : State) : (s.raiseNew k).evt.cluAt.getD x none = s.evt.cluAt.getD x none :=
  getD_modAt_other other

theorem raiseNew_occurs (k : Nat) (s : State) : ∀ ch ∈ s.evt.takers (0x40 + k), (⟨ch, none⟩ : ChanOcc) ∈ (s.raiseNew k).evt.chanIn :=
  fun ch takes => List.mem_append_right _ (List.mem_map.2 ⟨ch, takes, rfl⟩)

theorem marked_own_at {k : Nat} {s : State} (there : k < s.evt.cluMap.length) (c : Nat) : ((s.marked k c).evt.cluMap.getD k 0).testBit c = true := by
  show ((modAt _ k s.evt.cluMap).getD k 0).testBit c = true
  rw [getD_modAt there]
  exact marked_own _ c

theorem raiseClu_raised (k c : Nat) (s : State) : Raised k c s.evt (s.raiseClu k c).evt := by
  have mark := marked_grows k c s
  have own (b : Evt) (later : (s.marked k c).evt.Grows b) (there : k < s.evt.cluMap.length) : (b.cluMap.getD k 0).testBit c = true :=
    later.map k c (marked_own_at there c)
  rcases raiseClu_cases k c s with ⟨x, first, eq | eq | eq⟩ | eq
  · rw [eq]
    exact ⟨mark, own _ (.refl _), fun _ _ => rfl, fun none => absurd (first.symm.trans none) (by simp)⟩
  · rw [eq]
    exact ⟨mark, own _ (.refl _), fun _ _ => rfl, fun none => absurd (first.symm.trans none) (by simp)⟩
  · rw [eq]
    have new := raiseNew_grows k (s.marked k c).either.2
    exact ⟨mark.trans new, own _ new, fun x other => raiseNew_others other _, fun none => absurd (first.symm.trans none) (by simp)⟩
  · rw [eq]
    have new := raiseNew_grows k (s.marked k c)
    refine ⟨mark.trans new, own _ new, fun x other => raiseNew_others other _, fun _ ch takes => raiseNew_occurs k _ ch ?_⟩
    rw [mark.takers]; exact takes

theorem raiseClu_frame (k c : Nat) (s : State) : s.raiseClu k c = { s with evt := (s.raiseClu k c).evt, freeIx := (s.raiseClu k c).freeIx } := by
  rcases raiseClu_cases k c s with ⟨x, first, eq | eq | eq⟩ | eq <;> rw [eq] <;> rfl

/-! ### What a boundary leaves of a cluster's cells -/

/-- What a cell drives, and what stands in the way of it: the codes in force, its park, its range change and the results that wait. -/
def Cell.drive (c : Cell) : (Nat × Nat × Bool) × (Bool × Bool × Bool × Bool) × Option Eng :=
  ((c.uf, c.uh, c.parked), (c.brk, c.rangeBusy, c.apply, c.hParked), c.out)

theorem drive_modTo (v : Nat) (x : Int) (c : Cell) : (Cell.modTo v x c).1.drive = c.drive := by
  unfold Cell.modTo
  dsimp only
  split
  · rfl
  · split <;> rfl

theorem drive_deliver (e : ClEnv) (ce : CellEnv) (b x : Nat × Bool) (c : Cell) : (deliverCell e ce b x c).drive = c.drive := by
  unfold deliverCell
  dsimp only
  split <;> rfl

theorem drive_heaterLimit (v : Nat) (c : Cell) : (heaterLimit v c).drive = c.drive := by
  unfold heaterLimit
  split <;> rfl

theorem drive_map {f : Cell → Cell} (same : ∀ c, (f c).drive = c.drive) (l : List Cell) : (l.map f).map Cell.drive = l.map Cell.drive := by
  rw [List.map_map]
  exact List.map_congr_left (fun c _ => same c)

theorem drive_modClu_modTo (x : Int) (k : Cluster) : (k.modTo x).cells.map Cell.drive = k.cells.map Cell.drive := by
  rw [Cluster.modTo]
  dsimp only
  rw [List.map_map, List.map_map]
  exact List.map_congr_left (fun c _ => drive_modTo k.latV x c)

theorem drive_front (e : ClEnv) (inputs : List RawInput) (sarCodes : List Nat) (k : Cluster) :
    (frontBoundary e inputs sarCodes k).cells.map Cell.drive = k.cells.map Cell.drive := by
  unfold frontBoundary
  dsimp only
  refine map_mapIx (fun i c => ?_) 0 k.cells
  show Cell.drive (if _ then _ else _) = _
  split
  · exact drive_deliver _ _ _ _ _
  · rfl

theorem drive_stage (c : Nat) (ts : List (CellTgt × Nat)) (k : Cluster) : (k.stage c ts).cells.map Cell.drive = k.cells.map Cell.drive := by
  unfold Cluster.stage
  dsimp only
  refine map_mapIx (fun i q => ?_) 0 k.cells
  rfl

theorem drive_latch (env : ClEnv) (k : Cluster) : (k.latchAll env).cells.map Cell.drive = k.cells.map Cell.drive := by
  unfold Cluster.latchAll
  dsimp only
  refine map_mapIx (fun i q => ?_) 0 k.cells
  rfl

/-! ### The stages of a boundary -/

/-- A cluster with what a boundary captures and delivers. -/
def Cluster.fronted (env : ClEnv) (sph : Nat) (inputs : List RawInput) (sarCodes : List Nat) (k0 : Cluster) : Cluster :=
  if k0.lastB = none then
    { frontBoundary env inputs sarCodes (k0.modTo env.d) with
      cells := (frontBoundary env inputs sarCodes (k0.modTo env.d)).cells.map (fun q => { q with acc := pilotLoad sph q }) }
  else frontBoundary env inputs sarCodes (k0.modTo env.d)

/-- A cluster with the codes in force from a boundary on. -/
def Cluster.driven (env : ClEnv) (f : Finish) (k : Cluster) : Cluster :=
  ({ k with cells := k.cells.map (rangeEnd env.d) } : Cluster).outputs f env.pNs

/-- A cluster that a range change and the heater's limit have met. -/
def Cluster.ranged (env : ClEnv) (k : Cluster) : Cluster := { k with cells := k.cells.map (fun q => heaterLimit env.v (rangeBegin env q)) }

/-- A cluster with everything that it latches at a boundary. -/
def Cluster.latched (env : ClEnv) (c : Nat) (skips : Bool) (skipN : Nat) (ts : List (CellTgt × Nat)) (k : Cluster) : Cluster :=
  (((k.stage c ts).throttle skips skipN).latchAll env).parkCold

/-- A cluster whose period begins at a boundary (R10, R11). -/
def Cluster.begun (d : Int) (k : Cluster) : Cluster :=
  { k with bIx := k.bIx + 1, lastB := some d, done := false, discarded := false, owedDark := false, owedStuck := false, owedLimit := false }

theorem atBoundary_eq (env : ClEnv) (c sph : Nat) (inputs : List RawInput) (sarCodes : List Nat) (used skips : Bool) (skipN : Nat)
    (ts : List (CellTgt × Nat)) (k0 : Cluster) : k0.atBoundary env c sph inputs sarCodes used skips skipN ts =
      let k := k0.fronted env sph inputs sarCodes
      ((((((k.driven env (k.finish used)).ranged env).latched env c skips skipN ts).begun env.d).downStep, k.finish used)) := by
  unfold Cluster.atBoundary Cluster.fronted
  dsimp only
  split <;> rfl

/-- What a boundary reads of a cluster before its outputs. -/
def Cluster.head (k : Cluster) : (Option Int × Bool × Bool × EngSource × Bool) × (Nat × Bool × Bool × Bool) × (Nat × Nat) :=
  ((k.lastB, k.skipping, k.discarded, k.source, k.done), (k.bIx, k.pdown, k.fast, k.islandRamp), (k.consecMiss, k.missCnt))

theorem fronted_head (env : ClEnv) (sph : Nat) (inputs : List RawInput) (sarCodes : List Nat) (k : Cluster) :
    (k.fronted env sph inputs sarCodes).head = k.head := by
  unfold Cluster.fronted
  split <;> rfl

theorem fronted_drive (env : ClEnv) (sph : Nat) (inputs : List RawInput) (sarCodes : List Nat) (k : Cluster) :
    (k.fronted env sph inputs sarCodes).cells.map Cell.drive = k.cells.map Cell.drive := by
  unfold Cluster.fronted
  split
  · exact (drive_map (f := fun q => { q with acc := pilotLoad sph q }) (fun _ => rfl) _).trans ((drive_front _ _ _ _).trans (drive_modClu_modTo _ _))
  · exact (drive_front _ _ _ _).trans (drive_modClu_modTo _ _)

/-- What the outputs of a boundary leave of a cluster: what they count, and what they drive. -/
def Cluster.tail (k : Cluster) : (Nat × Bool) × (Nat × Nat) × List ((Nat × Nat × Bool) × (Bool × Bool × Bool × Bool) × Option Eng) :=
  ((k.bIx, k.pdown), (k.consecMiss, k.missCnt), k.cells.map Cell.drive)

theorem latched_tail (env : ClEnv) (c : Nat) (skips : Bool) (skipN : Nat) (ts : List (CellTgt × Nat)) {k : Cluster} (stays : k.pdown = false) :
    (k.latched env c skips skipN ts).tail = k.tail := by
  have warm : k.latched env c skips skipN ts = ((k.stage c ts).throttle skips skipN).latchAll env := by
    rw [Cluster.latched, Cluster.parkCold, if_neg]
    show ¬k.pdown = true
    rw [stays]; exact Bool.noConfusion
  have cells : (((k.stage c ts).throttle skips skipN).latchAll env).cells.map Cell.drive = k.cells.map Cell.drive :=
    (drive_latch env ((k.stage c ts).throttle skips skipN)).trans (drive_stage c ts k)
  rw [warm, Cluster.tail, cells]
  rfl

theorem begun_stays (d : Int) {k : Cluster} (stays : k.pdown = false) : (k.begun d).downStep = k.begun d := by
  rw [Cluster.downStep, if_pos (show (k.begun d).pdown = false from stays)]

/-! ### The outputs -/

theorem drive_at {l m : List Cell} {i : Nat} {q : Cell} (same : l.map Cell.drive = m.map Cell.drive) (at_i : m[i]? = some q) :
    ∃ q', l[i]? = some q' ∧ q'.drive = q.drive := by
  have drives : (l.map Cell.drive)[i]? = some q.drive := by rw [same, List.getElem?_map, at_i]; rfl
  rw [List.getElem?_map, Option.map_eq_some_iff] at drives
  exact drives

theorem fronted_finish (env : ClEnv) (sph : Nat) (inputs : List RawInput) (sarCodes : List Nat) (k : Cluster) (used : Bool) :
    (k.fronted env sph inputs sarCodes).finish used = k.finish used := by
  unfold Cluster.fronted
  split <;> rfl

theorem finish_done {k : Cluster} (began : k.lastB ≠ none) (runs : k.skipping = false) (kept : k.discarded = false) (served : k.source ≠ .none)
    (done : k.done = true) : k.finish true = .done := by
  rw [Cluster.finish, if_neg (by simp [began]), if_neg (by simp [runs]), if_neg (by simp [kept]), if_neg served, if_pos done]

theorem finish_miss {k : Cluster} (began : k.lastB ≠ none) (runs : k.skipping = false) (served : k.source ≠ .none)
    (undone : k.done = false) : k.finish true = .miss := by
  rw [Cluster.finish, if_neg (by simp [began]), if_neg (by simp [runs])]
  split
  · rfl
  · rw [if_neg (by simp [undone])]

/-- A cell whose results take effect. -/
def appliedCell (c : Cell) : Cell := { (applyOut c) with lateTake := false }

/-- A cell that holds its codes through a missed period (R11, R88). -/
def heldCell (commit : Bool) (c : Cell) : Cell := { c with out := none, hOff := false, lateTake := c.lateTake || (commit && c.staged.isSome) }

/-- With no ramp of a reset or of the drive island, the outputs of a completed period are applied. -/
theorem driven_done {env : ClEnv} {k : Cluster} (fast : k.fast = false) (ramp : k.islandRamp = false) :
    (k.driven env .done).cells = (k.cells.map (rangeEnd env.d)).map appliedCell ∧ (k.driven env .done).consecMiss = 0 ∧
      (k.driven env .done).missCnt = k.missCnt := by
  unfold Cluster.driven Cluster.outputs
  dsimp only
  rw [fast, ramp]
  exact ⟨rfl, rfl, rfl⟩

/-- With no ramp of a reset or of the drive island, a miss holds every cell. -/
theorem driven_miss {env : ClEnv} {k : Cluster} (fast : k.fast = false) (ramp : k.islandRamp = false) :
    (k.driven env .miss).cells = (k.cells.map (rangeEnd env.d)).map (heldCell k.commitPeriod) ∧
      (k.driven env .miss).consecMiss = sat8 k.consecMiss ∧ (k.driven env .miss).missCnt = sat32 k.missCnt := by
  unfold Cluster.driven Cluster.outputs
  dsimp only
  rw [fast, ramp]
  exact ⟨rfl, rfl, rfl⟩

theorem driven_keeps (env : ClEnv) (f : Finish) (k : Cluster) : (k.driven env f).bIx = k.bIx ∧ (k.driven env f).pdown = k.pdown := by
  cases f <;> exact ⟨rfl, rfl⟩

/-- No range change is on its way and none is asked for. -/
theorem rangeEnd_idle (d : Int) {c : Cell} (idle : c.rangeBusy = false) : rangeEnd d c = c := by
  rw [rangeEnd, if_neg (by simp [idle])]

theorem rangeBegin_idle (env : ClEnv) {c : Cell} (unasked : c.apply = false) : rangeBegin env c = c := by
  rw [rangeBegin, if_neg (by simp [unasked])]

/-- A cell at a boundary, from the outputs of a period to its heater's limit. -/
def Cell.atEnd (env : ClEnv) (out : Cell → Cell) (c : Cell) : Cell := heaterLimit env.v (rangeBegin env (out (rangeEnd env.d c)))

/-- The results of a computed cell are the codes that it drives. -/
theorem atEnd_applied (env : ClEnv) {c : Cell} {e : Eng} (out : c.out = some e) (on : e.st ≠ .off) (good : e.st ≠ .retired) (made : c.brk = false)
    (idle : c.rangeBusy = false) (unasked : c.apply = false) (free : c.hParked = false) :
    (c.atEnd env appliedCell).uf = e.uF ∧ (c.atEnd env appliedCell).uh = e.uH ∧ (c.atEnd env appliedCell).parked = false := by
  have pads : mustPark { c with eng := e, out := none, hOff := false } = false := by
    unfold mustPark
    dsimp only
    rw [made]
    cases st : e.st with
    | off => exact absurd st on
    | retired => exact absurd st good
    | hitch | track | hold | dark | stuck | limit => rfl
  have applied : appliedCell c = { c with eng := e, out := none, hOff := false, uf := e.uF, uh := e.uH, pilotE := e.pilotE, parked := false,
                                          fParked := false, everOut := true, lateTake := false } := by
    unfold appliedCell applyOut
    rw [out]
    dsimp only
    rw [pads, free]
    rfl
  have drives : (c.atEnd env appliedCell).drive = (appliedCell c).drive := by
    rw [Cell.atEnd, drive_heaterLimit, rangeEnd_idle env.d idle, rangeBegin_idle env (by rw [applied]; exact unasked)]
  have codes : ((c.atEnd env appliedCell).uf, (c.atEnd env appliedCell).uh, (c.atEnd env appliedCell).parked) = (e.uF, e.uH, false) := by
    refine (congrArg Prod.fst drives).trans ?_
    rw [applied]; rfl
  simpa only [Prod.mk.injEq] using codes

/-- A missed period holds the codes. -/
theorem atEnd_held (env : ClEnv) (commit : Bool) {c : Cell} (idle : c.rangeBusy = false) (unasked : c.apply = false) :
    (c.atEnd env (heldCell commit)).uf = c.uf ∧ (c.atEnd env (heldCell commit)).uh = c.uh := by
  have drives : (c.atEnd env (heldCell commit)).drive = (heldCell commit c).drive := by
    rw [Cell.atEnd, drive_heaterLimit, rangeEnd_idle env.d idle, rangeBegin_idle env (show (heldCell commit c).apply = false from unasked)]
  have codes : ((c.atEnd env (heldCell commit)).uf, (c.atEnd env (heldCell commit)).uh, (c.atEnd env (heldCell commit)).parked) = (c.uf, c.uh, c.parked) :=
    congrArg Prod.fst drives
  simp only [Prod.mk.injEq] at codes
  exact ⟨codes.1, codes.2.1⟩

theorem ranged_cells (env : ClEnv) (k : Cluster) {out : Cell → Cell} {l : List Cell} (cells : k.cells = (l.map (rangeEnd env.d)).map out) :
    (k.ranged env).cells = l.map (Cell.atEnd env out) := by
  unfold Cluster.ranged
  dsimp only
  rw [cells, List.map_map, List.map_map]
  rfl

/-! ### The cluster at a boundary -/

/-- What a boundary leaves of a cluster, but for the run of misses. -/
def Cluster.stands (k : Cluster) : (Option Int × Nat × Bool) × (Bool × Bool × Bool) × Nat ×
    List ((Nat × Nat × Bool) × (Bool × Bool × Bool × Bool) × Option Eng) :=
  ((k.lastB, k.bIx, k.done), (k.owedDark, k.owedStuck, k.owedLimit), k.missCnt, k.cells.map Cell.drive)

/-- A cluster at a boundary: its period begins, with what its outputs left. -/
theorem atBoundary_begins (env : ClEnv) (c sph : Nat) (inputs : List RawInput) (sarCodes : List Nat) (used skips : Bool) (skipN : Nat)
    (ts : List (CellTgt × Nat)) {k0 : Cluster} (stays : k0.pdown = false) :
    (k0.atBoundary env c sph inputs sarCodes used skips skipN ts).2 = k0.finish used ∧
    ∃ k : Cluster, (k0.atBoundary env c sph inputs sarCodes used skips skipN ts).1 = k.begun env.d ∧
      k.tail = (((k0.fronted env sph inputs sarCodes).driven env (k0.finish used)).ranged env).tail := by
  have stays' : (((k0.fronted env sph inputs sarCodes).driven env (k0.finish used)).ranged env).pdown = false := by
    show ((k0.fronted env sph inputs sarCodes).driven env (k0.finish used)).pdown = false
    rw [(driven_keeps _ _ _).2]
    exact (congrArg (fun h => h.2.1.2.1) (fronted_head env sph inputs sarCodes k0)).trans stays
  have tail := latched_tail env c skips skipN ts stays'
  have stays'' : ((((k0.fronted env sph inputs sarCodes).driven env (k0.finish used)).ranged env).latched env c skips skipN ts).pdown = false :=
    (congrArg (fun h => h.1.2) tail).trans stays'
  rw [atBoundary_eq]
  dsimp only
  rw [fronted_finish]
  exact ⟨rfl, _, begun_stays env.d stays'', tail⟩

/-! ### After the cluster's boundary -/

/-- What follows a cluster's boundary: events on their way, ends of hand-overs, the recorder's and the census's latches. The cluster keeps
what the boundary left of it, and the spares theirs. -/
structure Follows (c : Nat) (a b : State) : Prop where
  evt : a.evt.Grows b.evt
  stands : (b.clu c).stands = (a.clu c).stands
  misses : (b.clu c).consecMiss = (a.clu c).consecMiss
  spares : b.spares = a.spares

theorem Follows.refl (c : Nat) (a : State) : Follows c a a := ⟨.refl _, rfl, rfl, rfl⟩

theorem Follows.trans {c : Nat} {a b d : State} (f : Follows c a b) (g : Follows c b d) : Follows c a d :=
  ⟨f.evt.trans g.evt, g.stands.trans f.stands, g.misses.trans f.misses, g.spares.trans f.spares⟩

/-- A fold of steps that follow follows. -/
theorem follows_foldl {α : Type} {c : Nat} (f : State → α → State) (one : ∀ s a, Follows c s (f s a)) (l : List α) (s : State) :
    Follows c s (l.foldl f s) :=
  foldl_holds (Follows c s) f (fun u a so => so.trans (one u a)) l s (.refl c s)

theorem follows_fab {c : Nat} (s : State) (f : Fab) : Follows c s { s with fab := f } := ⟨.refl _, rfl, rfl, rfl⟩

theorem follows_modClu {c : Nat} {f : Cluster → Cluster} (stands : ∀ k, (f k).stands = k.stands) (misses : ∀ k, (f k).consecMiss = k.consecMiss)
    (s : State) (d : Nat) : Follows c s (s.modClu d f) :=
  ⟨.refl _, modClu_view Cluster.stands stands s d c, modClu_view Cluster.consecMiss misses s d c, rfl⟩

theorem follows_modCell {c : Nat} {f : Cell → Cell} (same : ∀ q, (f q).drive = q.drive) (s : State) (n : Nat) : Follows c s (s.modCell n f) := by
  refine follows_modClu (f := Cluster.modCell (n % 32) f) (fun k => ?_) (fun _ => rfl) s _
  rw [Cluster.stands, Cluster.modCell, Cluster.stands]
  dsimp only
  rw [map_modAt same]

theorem follows_endHand {c : Nat} (n : Nat) (s : State) : Follows c s (s.endHand n) := by
  refine follows_modCell (fun q => ?_) s n
  rfl

theorem follows_except {c : Nat} (x : Nat) (q : Exc) (s : State) : Follows c s (s.except x q) := ⟨.refl _, rfl, rfl, rfl⟩

theorem follows_closeEp {c : Nat} (x : Nat) (how : EpStatus) (at_ : Int) (s : State) : Follows c s (s.closeEp x how at_) := by
  unfold State.closeEp
  split
  · exact .refl c s
  · rename_i e _
    dsimp only
    have hands : Follows c s ((s.unfinished e).foldl (fun s n => (s.except x { cell := n, kind := 7 }).endHand n) s) :=
      follows_foldl _ (fun u n => (follows_except x _ u).trans (follows_endHand n _)) _ s
    have done (u : State) : Follows c u (u.raiseDone at_ e.inst) := ⟨grows_occ _ _, rfl, rfl, rfl⟩
    refine hands.trans ?_
    split
    · exact Follows.trans (follows_fab _ _) (done _)
    · exact Follows.trans (follows_fab _ _) (done _)

theorem follows_handStep {c : Nat} (d : Int) (n : Nat) (s : State) : Follows c s (s.handStep d n) := by
  unfold State.handStep
  dsimp only
  split
  · exact .refl c s
  · rename_i x _
    split
    · split
      · refine follows_modCell (fun q => ?_) s n
        rfl
      · exact .refl c s
    · refine follows_modCell (fun q => ?_) s n
      rfl
    · exact Follows.trans (follows_foldl (fun s (q : Nat × Nat) => s.except x { cell := n, kind := q.1, dur := q.2 })
        (fun u q => follows_except x _ u) _ s) (follows_endHand n _)

theorem follows_handAll {c : Nat} (d : Int) (e : Nat) (s : State) : Follows c s (s.handAll d e) := by
  unfold State.handAll State.closeDone
  generalize List.range 32 = cells
  exact Follows.trans (follows_foldl (fun s k => s.handStep d (32 * e + k)) (fun u k => follows_handStep d (32 * e + k) u) cells s)
    (follows_foldl (fun s (e : Epoch) => s.closeEp e.ext .done _) (fun u e => follows_closeEp e.ext .done _ u) _ _)

theorem follows_rcd {c : Nat} (s : State) (r : Rec) : Follows c s { s with rcd := r } := ⟨.refl _, rfl, rfl, rfl⟩

theorem follows_recLatch {c : Nat} (d : Int) (e : Nat) (s : State) : Follows c s (s.recLatch e d) := by
  have latched (l : Option (Int × List (List Byte))) : Follows c s (s.modClu e (fun k => { k with latch := l })) := by
    refine follows_modClu (fun k => ?_) (fun k => ?_) s e <;> rfl
  unfold State.recLatch
  dsimp only
  split
  · split
    · exact Follows.trans (latched _) (follows_rcd _ _)
    · exact latched _
  · exact .refl c s

theorem follows_cenWatch {c : Nat} (d : Int) (e : Nat) (s : State) : Follows c s (s.cenWatch e d) := by
  unfold State.cenWatch
  dsimp only
  split
  · exact .refl c s
  · split
    · exact .refl c s
    · split
      · exact .refl c s
      · exact ⟨.refl _, rfl, rfl, rfl⟩

theorem follows_raiseClu {c : Nat} (k e : Nat) (s : State) : Follows c s (s.raiseClu k e) := by
  refine ⟨(raiseClu_raised k e s).grows, ?_, ?_, ?_⟩ <;> rw [raiseClu_frame] <;> rfl

/-- The spare's progress at a boundary: the cluster keeps what the boundary left of it, and the run of misses goes on or ends. -/
theorem spareStep_follows (c : Nat) (d : Int) (f : Finish) (s : State) : s.evt.Grows (s.spareStep c d f).evt ∧
    ((s.spareStep c d f).clu c).stands = (s.clu c).stands ∧
    (((s.spareStep c d f).clu c).consecMiss = (s.clu c).consecMiss ∨ ((s.spareStep c d f).clu c).consecMiss = 0) ∧
    ((s.spare (c / 16)).switched = false → s.spareStep c d f = s) := by
  unfold State.spareStep
  dsimp only
  split
  · exact ⟨.refl _, rfl, .inl rfl, fun _ => rfl⟩
  · rename_i switched
    have on : ¬(s.spare (c / 16)).switched = false := fun off => switched (.inl off)
    split
    · refine ⟨.refl _, ?_, ?_, fun off => absurd off on⟩
      · refine modClu_view Cluster.stands (fun k => ?_) _ c c
        rfl
      by_cases there : c < s.clusters.length
      · exact .inr (congrArg Cluster.consecMiss (modClu_at (s := s.modSpare (c / 16) _) there _))
      · refine .inl (congrArg Cluster.consecMiss ?_)
        show (modAt _ c s.clusters).getD c {} = s.clusters.getD c {}
        rw [List.getD_eq_default _ _ (by rw [length_modAt]; omega), List.getD_eq_default _ _ (by omega)]
    · split
      · have raised (u : State) (evt : u.evt = s.evt) (clusters : u.clusters = s.clusters) : s.evt.Grows (u.raiseClu 4 c).evt ∧
            (u.raiseClu 4 c).clu c = s.clu c := by
          refine ⟨evt ▸ (raiseClu_raised 4 c u).grows, ?_⟩
          rw [raiseClu_frame, State.clu, clusters, State.clu]
        obtain ⟨grows, same⟩ := raised (s.modSpare (c / 16) _) rfl rfl
        exact ⟨grows, congrArg Cluster.stands same, .inl (congrArg Cluster.consecMiss same), fun off => absurd off on⟩
      · exact ⟨.refl _, rfl, .inl rfl, fun _ => rfl⟩

/-! ### The loop events -/

/-- A cluster's source is raised where it is owed. -/
def State.raiseIf (owed : Bool) (k c : Nat) (s : State) : State := if owed then s.raiseClu k c else s

theorem loopEvents_eq (c : Nat) (old : Cluster) (s : State) :
    s.loopEvents c old = ((s.raiseIf old.owedDark 0 c).raiseIf old.owedStuck 1 c).raiseIf old.owedLimit 2 c := (rfl)

theorem follows_raiseIf {d : Nat} (owed : Bool) (k c : Nat) (s : State) : Follows d s (s.raiseIf owed k c) := by
  unfold State.raiseIf
  split
  · exact follows_raiseClu k c s
  · exact .refl d s

/-- What an event of source `x` that a cluster raises shows: the cluster's bit of the source's map and, as the first of its
occurrence, an occurrence for each channel that takes it (R224). -/
def Shows (x c : Nat) (a b : Evt) : Prop :=
  (x < a.cluMap.length → (b.cluMap.getD x 0).testBit c = true) ∧
  (a.cluAt.getD x none = none → ∀ ch ∈ a.takers (0x40 + x), (⟨ch, none⟩ : ChanOcc) ∈ b.chanIn)

/-- Raisings of other sources come before. -/
def Before (x : Nat) (a b : Evt) : Prop := a.Grows b ∧ b.cluAt.getD x none = a.cluAt.getD x none

theorem before_raiseIf {x k : Nat} (other : x ≠ k) {a : Evt} {s : State} (so : Before x a s.evt) (owed : Bool) (c : Nat) :
    Before x a (s.raiseIf owed k c).evt := by
  unfold State.raiseIf
  split
  · exact ⟨so.1.trans (raiseClu_raised k c s).grows, ((raiseClu_raised k c s).others x other).trans so.2⟩
  · exact so

theorem shows_of {x c : Nat} {a : Evt} {s : State} {b : Evt} (before : Before x a s.evt) (after : (s.raiseClu x c).evt.Grows b) : Shows x c a b := by
  obtain ⟨grows, same⟩ := before
  have raised := raiseClu_raised x c s
  constructor
  · intro there
    exact after.map x c (raised.own (by rw [grows.places]; exact there))
  · intro none ch takes
    exact after.occ _ (raised.occurs (same.trans none) ch (by rw [grows.takers]; exact takes))

/-- Each loop event that a cluster owes shows after the boundary's events. -/
theorem loopEvents_show {a : Evt} {s : State} (before : ∀ x, x ≠ 3 → Before x a s.evt) (c : Nat) (old : Cluster) {b : Evt}
    (after : (s.loopEvents c old).evt.Grows b) (x : Nat) (owed : Bool)
    (listed : (x, owed) ∈ [(0, old.owedDark), (1, old.owedStuck), (2, old.owedLimit)]) (owes : owed = true) : Shows x c a b := by
  rw [loopEvents_eq] at after
  have last (u : State) : u.evt.Grows (u.raiseIf old.owedLimit 2 c).evt := (follows_raiseIf (d := c) _ 2 c u).evt
  have mid (u : State) : u.evt.Grows (u.raiseIf old.owedStuck 1 c).evt := (follows_raiseIf (d := c) _ 1 c u).evt
  simp only [List.mem_cons, Prod.mk.injEq, List.not_mem_nil, or_false] at listed
  rcases listed with ⟨rfl, rfl⟩ | ⟨rfl, rfl⟩ | ⟨rfl, rfl⟩
  · have raise : s.raiseIf old.owedDark 0 c = s.raiseClu 0 c := if_pos owes
    rw [raise] at after
    exact shows_of (before 0 (by decide)) ((mid _).trans ((last _).trans after))
  · have raise (u : State) : u.raiseIf old.owedStuck 1 c = u.raiseClu 1 c := if_pos owes
    rw [raise] at after
    exact shows_of (before_raiseIf (by decide) (before 1 (by decide)) _ c) ((last _).trans after)
  · have raise (u : State) : u.raiseIf old.owedLimit 2 c = u.raiseClu 2 c := if_pos owes
    rw [raise] at after
    exact shows_of (before_raiseIf (by decide) (before_raiseIf (by decide) (before 2 (by decide)) _ c) _ c) after

/-! ### The boundary -/

/-- The cluster at its boundary, and how its period came out, in the machine that has reached the instant. -/
def State.cluAtBoundary (s : State) (c : Nat) (d : Int) (inputs : List RawInput) (sarCodes : List Nat) : Cluster × Finish :=
  (s.clu c).atBoundary (s.clEnv c d) c (s.stampAt d).sph inputs sarCodes (s.hasCells c) (s.thm.skips c) s.thm.skipN
    (s.presented d (s.clEnv c d).pNs)

/-- The machine with the cluster and the events of a boundary. -/
def State.withBoundary (c : Nat) (r : Cluster × Finish) (old : Cluster) (s : State) : State :=
  ((s.modClu c (fun _ => r.1)).raiseIf (decide (r.2 = .miss)) 3 c).loopEvents c old

theorem boundary_eq {s s1 : State} {c : Nat} (on : (s.clu c).pow = .on) (there : reach 4000000000 (s.nextBoundary c) s = some s1)
    (supplied : s1.sys.supplyOut = false) (inputs : List RawInput) (sarCodes : List Nat) : boundary c inputs sarCodes s =
      ((((s1.withBoundary c (s1.cluAtBoundary c (s.nextBoundary c) inputs sarCodes) (s.clu c)).handAll (s.nextBoundary c) c).spareStep c
        (s.nextBoundary c) (s1.cluAtBoundary c (s.nextBoundary c) inputs sarCodes).2).recLatch c (s.nextBoundary c)).cenWatch c (s.nextBoundary c) := by
  unfold boundary
  rw [if_neg (not_not_intro on)]
  dsimp only
  rw [there]
  dsimp only
  rw [supplied]
  have raises (f : Finish) (u : State) : (if f = .miss then u.raiseClu 3 c else u) = u.raiseIf (decide (f = .miss)) 3 c := by
    unfold State.raiseIf
    split
    · rename_i miss; rw [if_pos (decide_eq_true miss)]
    · rename_i other; rw [decide_eq_false other]; rfl
  rw [raises]
  rfl

/-- What a boundary leaves of its cluster and of the event fabric. -/
structure AtBoundary (c : Nat) (k : Cluster) (d : Int) (s1 t : State) (env : ClEnv) (front : Cluster) : Prop where
  stands : ∃ q : Cluster, (t.clu c).stands = (q.begun d).stands ∧ q.tail = ((front.driven env (k.finish (s1.hasCells c))).ranged env).tail ∧
    ((t.clu c).consecMiss = q.consecMiss ∨ (t.clu c).consecMiss = 0) ∧ ((s1.spare (c / 16)).switched = false → (t.clu c).consecMiss = q.consecMiss)
  shows : ∀ (x : Nat) (owed : Bool), (x, owed) ∈ [(0, k.owedDark), (1, k.owedStuck), (2, k.owedLimit)] → owed = true → Shows x c s1.evt t.evt

theorem boundary_leaves {s s1 : State} {c : Nat} {k : Cluster} (at_c : s.clusters[c]? = some k) (on : k.pow = .on)
    (there : reach 4000000000 (s.nextBoundary c) s = some s1) (stays : k.pdown = false) (supplied : s.sys.supplyOut = false)
    (inputs : List RawInput) (sarCodes : List Nat) :
    AtBoundary c k (s.nextBoundary c) s1 (boundary c inputs sarCodes s) (s1.clEnv c (s.nextBoundary c))
      (k.fronted (s1.clEnv c (s.nextBoundary c)) (s1.stampAt (s.nextBoundary c)).sph inputs sarCodes) := by
  have old : s.clu c = k := getD_of_some at_c _
  have frame := reach_frame there
  have clu1 : s1.clu c = k := by rw [State.clu, frame]; exact old
  have there1 : c < s1.clusters.length := by rw [frame]; exact lt_of_some at_c
  have eq := boundary_eq (old ▸ on) there (by rw [frame]; exact supplied) inputs sarCodes
  rw [old] at eq
  obtain ⟨ends, q, begins, tail⟩ := atBoundary_begins (s1.clEnv c (s.nextBoundary c)) c (s1.stampAt (s.nextBoundary c)).sph inputs sarCodes
    (s1.hasCells c) (s1.thm.skips c) s1.thm.skipN (s1.presented (s.nextBoundary c) (s1.clEnv c (s.nextBoundary c)).pNs) stays
  generalize s.nextBoundary c = d at eq begins tail ends ⊢
  have begins' : (s1.cluAtBoundary c d inputs sarCodes).1 = q.begun d := by rw [State.cluAtBoundary, clu1]; exact begins
  generalize s1.cluAtBoundary c d inputs sarCodes = r at eq begins'
  have first : (s1.modClu c (fun _ => r.1)).clu c = q.begun d := (modClu_at there1 _).trans begins'
  have raised := follows_raiseIf (d := c) (decide (r.2 = .miss)) 3 c (s1.modClu c (fun _ => r.1))
  have events : Follows c (s1.modClu c (fun _ => r.1)) (s1.withBoundary c r k) := by
    rw [State.withBoundary, loopEvents_eq]
    exact ((raised.trans (follows_raiseIf _ 0 c _)).trans (follows_raiseIf _ 1 c _)).trans (follows_raiseIf _ 2 c _)
  have hands := follows_handAll (c := c) d c (s1.withBoundary c r k)
  obtain ⟨sGrows, sStands, sMisses, sIdle⟩ := spareStep_follows c d r.2 ((s1.withBoundary c r k).handAll d c)
  have ends' := (follows_recLatch (c := c) d c (((s1.withBoundary c r k).handAll d c).spareStep c d r.2)).trans (follows_cenWatch d c _)
  rw [← eq] at ends'
  refine ⟨⟨q, ?_, tail, ?_, ?_⟩, ?_⟩
  · rw [ends'.stands, sStands, hands.stands, events.stands, first]
  · rw [ends'.misses]
    refine sMisses.imp_left (fun same => ?_)
    rw [same, hands.misses, events.misses, first]
    rfl
  · intro idle
    rw [ends'.misses, sIdle (by rw [State.spare, hands.spares, events.spares]; exact idle), hands.misses, events.misses, first]
    rfl
  · refine loopEvents_show (s := (s1.modClu c (fun _ => r.1)).raiseIf (decide (r.2 = .miss)) 3 c) (fun x other => ?_) c k ?_
    · exact before_raiseIf other (s := s1.modClu c (fun _ => r.1)) ⟨.refl _, rfl⟩ _ c
    · exact hands.evt.trans (sGrows.trans ends'.evt)

theorem drive_iff (a b : Cell) : a.drive = b.drive ↔ (a.uf = b.uf ∧ a.uh = b.uh ∧ a.parked = b.parked) ∧
    (a.brk = b.brk ∧ a.rangeBusy = b.rangeBusy ∧ a.apply = b.apply ∧ a.hParked = b.hParked) ∧ a.out = b.out := by
  simp only [Cell.drive, Prod.mk.injEq]

section
variable {c : Nat} {k : Cluster} {d : Int} {s1 t : State} {env : ClEnv} {sph : Nat} {inputs : List RawInput} {sarCodes : List Nat}

/-- A cell after a boundary drives what its outputs, its range change and its heater's limit make of it. -/
theorem atBoundary_cell (so : AtBoundary c k d s1 t env (k.fronted env sph inputs sarCodes)) {f : Finish} (ends : k.finish (s1.hasCells c) = f)
    {out : Cell → Cell} (cells : ((k.fronted env sph inputs sarCodes).driven env f).cells =
      ((k.fronted env sph inputs sarCodes).cells.map (rangeEnd env.d)).map out) {i : Nat} {q : Cell} (at_i : k.cells[i]? = some q) :
    ∃ q' : Cell, q'.drive = q.drive ∧ ((t.clu c).cell i).drive = (q'.atEnd env out).drive := by
  obtain ⟨b, stands, tail, -, -⟩ := so.stands
  obtain ⟨q', at_i', drives⟩ := drive_at (fronted_drive env sph inputs sarCodes k) at_i
  have same : (t.clu c).cells.map Cell.drive = (((k.fronted env sph inputs sarCodes).driven env f).ranged env).cells.map Cell.drive :=
    (congrArg (fun v => v.2.2.2) stands).trans ((congrArg (fun v => v.2.2) tail).trans (by rw [ends]; rfl))
  obtain ⟨u, at_u, drive_u⟩ := drive_at same (q := q'.atEnd env out) (by rw [ranged_cells env _ cells, List.getElem?_map, at_i']; rfl)
  exact ⟨q', drives, by rw [Cluster.cell, getD_of_some at_u]; exact drive_u⟩

/-- The counts of misses after a boundary. -/
theorem atBoundary_counts (so : AtBoundary c k d s1 t env (k.fronted env sph inputs sarCodes)) {f : Finish} (ends : k.finish (s1.hasCells c) = f) :
    (t.clu c).missCnt = ((k.fronted env sph inputs sarCodes).driven env f).missCnt ∧
    ((t.clu c).consecMiss = ((k.fronted env sph inputs sarCodes).driven env f).consecMiss ∨ (t.clu c).consecMiss = 0) ∧
    ((s1.spare (c / 16)).switched = false → (t.clu c).consecMiss = ((k.fronted env sph inputs sarCodes).driven env f).consecMiss) := by
  obtain ⟨b, stands, tail, misses, idle⟩ := so.stands
  rw [ends] at tail
  have count : b.consecMiss = ((k.fronted env sph inputs sarCodes).driven env f).consecMiss := congrArg (fun v => v.2.1.1) tail
  rw [count] at misses idle
  exact ⟨(congrArg (fun v => v.2.2.1) stands).trans (congrArg (fun v => v.2.1.2) tail), misses, idle⟩
end

/-- Settles O11: the cluster at its boundary, and what follows leaves of it. -/
theorem boundaryAppliesOutputs : Obligations.BoundaryAppliesOutputs := by
  unfold Obligations.BoundaryAppliesOutputs
  intro s s1 c k inputs diff at_c on there stays fast ramp supplied
  have so := boundary_leaves at_c on there stays supplied inputs diff
  have used : s1.hasCells c.val = s.hasCells c.val := by rw [reach_frame there]; rfl
  have spares : s1.spare (c.val / 16) = s.spare (c.val / 16) := by rw [reach_frame there]; rfl
  refine ⟨_, rfl, ?_⟩
  generalize boundary c.val inputs diff s = t at so ⊢
  generalize s1.clEnv c.val (s.nextBoundary c.val) = env at so
  generalize (s1.stampAt (s.nextBoundary c.val)).sph = sph at so
  obtain ⟨b, stands, tail, -, -⟩ := so.stands
  have head := fronted_head env sph inputs diff k
  have fast' : (k.fronted env sph inputs diff).fast = false := (congrArg (fun h => h.2.1.2.2.1) head).trans fast
  have ramp' : (k.fronted env sph inputs diff).islandRamp = false := (congrArg (fun h => h.2.1.2.2.2) head).trans ramp
  have index : b.bIx = k.bIx := ((congrArg (fun v => v.1.1) tail).trans (driven_keeps _ _ _).1).trans (congrArg (fun h => h.2.1.1) head)
  refine ⟨congrArg (fun v => v.1.1) stands, ?_, congrArg (fun v => v.1.2.2) stands, congrArg (fun v => v.2.1.1) stands,
    congrArg (fun v => v.2.1.2.1) stands, congrArg (fun v => v.2.1.2.2) stands, so.shows, ?_, ?_⟩
  · exact (congrArg (fun v => v.1.2.1) stands).trans (congrArg (· + 1) index)
  · intro began cells runs kept served done
    have ends : k.finish (s1.hasCells c.val) = .done := by rw [used, cells]; exact finish_done began runs kept served done
    obtain ⟨out, consec, count⟩ := driven_done (env := env) fast' ramp'
    obtain ⟨misses, run, -⟩ := atBoundary_counts so ends
    refine ⟨run.elim (fun same => same.trans consec) id, misses.trans (count.trans (congrArg (fun h => h.2.2.2) head)), ?_⟩
    intro i q e at_i out_q on_q good made idle unasked free
    obtain ⟨q', drives, cell⟩ := atBoundary_cell so ends out at_i
    obtain ⟨-, ⟨brk, busy, ask, park⟩, result⟩ := (drive_iff q' q).1 drives
    obtain ⟨uf, uh, parked⟩ := atEnd_applied env (result.trans out_q) on_q good (brk.trans made) (busy.trans idle) (ask.trans unasked)
      (park.trans free)
    obtain ⟨⟨uf', uh', parked'⟩, -⟩ := (drive_iff _ _).1 cell
    exact ⟨uf'.trans uf, uh'.trans uh, parked'.trans parked⟩
  · intro began cells runs served undone idle_s
    have ends : k.finish (s1.hasCells c.val) = .miss := by rw [used, cells]; exact finish_miss began runs served undone
    obtain ⟨out, consec, count⟩ := driven_miss (env := env) fast' ramp'
    obtain ⟨misses, -, run⟩ := atBoundary_counts so ends
    have head2 := congrArg (fun h => h.2.2) head
    refine ⟨(run (by rw [spares]; exact idle_s)).trans (consec.trans (congrArg (fun h => sat8 h.1) head2)),
      misses.trans (count.trans (congrArg (fun h => sat32 h.2) head2)), ?_⟩
    intro i q at_i made idle unasked
    obtain ⟨q', drives, cell⟩ := atBoundary_cell so ends out at_i
    obtain ⟨⟨uf0, uh0, -⟩, ⟨-, busy, ask, -⟩, -⟩ := (drive_iff q' q).1 drives
    obtain ⟨uf, uh⟩ := atEnd_held env (k.fronted env sph inputs diff).commitPeriod (busy.trans idle) (ask.trans unasked)
    obtain ⟨⟨uf', uh', -⟩, -⟩ := (drive_iff _ _).1 cell
    exact ⟨uf'.trans (uf.trans uf0), uh'.trans (uh.trans uh0)⟩

end Sys2Proof.Machine

/-! PROOFS. Completions in ring order (O18), and the head of a mailbox command. -/

namespace Sys2Proof.Machine

/-! ### Host ports -/

theorem modHost_at {s : State} {p : Nat} (there : p < s.hosts.length) (f : HostPort → HostPort) : (s.modHost p f).hport p = f (s.hport p) :=
  getD_modAt there _

theorem modHost_away {s : State} {p r : Nat} (other : r ≠ p) (f : HostPort → HostPort) : (s.modHost p f).hport r = s.hport r :=
  getD_modAt_other other

/-- A message changes what has been sent, what is held back and what is pending alone. -/
theorem msg_frame (v : Nat) (h : HostPort) : h.msg v =
    { h with held0 := (h.msg v).held0, held1 := (h.msg v).held1, hold0 := (h.msg v).hold0, hold1 := (h.msg v).hold1, pba := (h.msg v).pba,
             sent := (h.msg v).sent } := by
  have fires (v : Nat) : h.fire v = { h with pba := (h.fire v).pba, sent := (h.fire v).sent } := by
    unfold HostPort.fire
    split <;> rfl
  unfold HostPort.msg
  split
  · rfl
  split
  · split
    · rfl
    · rw [fires]
  split
  · split
    · rfl
    · rw [fires]
  · rw [fires]

/-! ### Ring order -/

/-- Commands that wait alone do not hold back a completion behind them. -/
theorem readyCpl_behind {pre : List Taken} (alone : ∀ u ∈ pre, u.answer = none ∧ u.begun = true ∧ waitsAlone u.cmd = true) (bs : List Byte)
    {a : Taken} (answered : a.answer = some bs) (post : List Taken) : readyCpl (pre ++ a :: post) = some (bs, pre ++ post) := by
  induction pre with
  | nil => rw [List.nil_append, readyCpl, answered]; rfl
  | cons u pre ih =>
    obtain ⟨none_, begun, waits⟩ := alone u List.mem_cons_self
    rw [List.cons_append, readyCpl, none_]
    dsimp only
    rw [begun, waits, ih (fun u mem => alone u (List.mem_cons_of_mem _ mem))]
    rfl

/-- An earlier command that does not wait alone holds it back. -/
theorem readyCpl_held {pre : List Taken} (unanswered : ∀ u ∈ pre, u.answer = none) (holds : ∃ u ∈ pre, u.begun = false ∨ waitsAlone u.cmd = false)
    (rest : List Taken) : readyCpl (pre ++ rest) = none := by
  induction pre with
  | nil => obtain ⟨u, mem, -⟩ := holds; exact absurd mem List.not_mem_nil
  | cons u pre ih =>
    rw [List.cons_append, readyCpl, unanswered u List.mem_cons_self]
    dsimp only
    split
    · rename_i alone
      rw [Bool.and_eq_true] at alone
      obtain ⟨w, mem, stops⟩ := holds
      rcases List.mem_cons.1 mem with rfl | mem
      · rw [alone.1, alone.2] at stops; simp at stops
      · rw [ih (fun u mem => unanswered u (List.mem_cons_of_mem _ mem)) ⟨w, mem, stops⟩]
        rfl
    · rfl

/-- With nothing answered nothing is posted. -/
theorem readyCpl_none : ∀ {l : List Taken}, (∀ u ∈ l, u.answer = none) → readyCpl l = none
  | [], _ => rfl
  | u :: l, unanswered => by
    rw [readyCpl, unanswered u List.mem_cons_self]
    dsimp only
    rw [readyCpl_none (fun u mem => unanswered u (List.mem_cons_of_mem _ mem))]
    split <;> rfl

theorem flush_stops {h : HostPort} (idle : readyCpl h.taken = none) (n : Nat) : h.flush n = h := by
  cases n with
  | zero => rfl
  | succ n => rw [HostPort.flush, idle]

/-- One completion is ready, and none behind it. -/
theorem flush_posts {h : HostPort} {bs : List Byte} {rest : List Taken} (ready : readyCpl h.taken = some (bs, rest))
    (last : ∀ u ∈ rest, u.answer = none) (n : Nat) : h.flush (n + 1) = HostPort.post bs { h with taken := rest } := by
  rw [HostPort.flush, ready]
  refine flush_stops ?_ n
  rw [HostPort.post, msg_frame]
  exact readyCpl_none last

/-- The place of the command that completes. -/
theorem findIdx?_middle {α : Type} {p : α → Bool} {pre post : List α} {a : α} (before : ∀ u ∈ pre, p u = false) (here : p a = true) :
    (pre ++ a :: post).findIdx? p = some pre.length := by
  induction pre with
  | nil => rw [List.nil_append, List.findIdx?_cons, here]; rfl
  | cons u pre ih =>
    rw [List.cons_append, List.findIdx?_cons, before u List.mem_cons_self, ih (fun u mem => before u (List.mem_cons_of_mem _ mem))]
    rfl

theorem modAt_middle {α : Type} (f : α → α) (pre post : List α) (a : α) : modAt f pre.length (pre ++ a :: post) = pre ++ f a :: post := by
  induction pre with
  | nil => rfl
  | cons u pre ih => rw [List.cons_append, List.length_cons, modAt, ih]; rfl

/-- A command that completes: its answer stands in the ring order, and what this lets be posted is posted. -/
theorem completeSeq_answers {q : HostPort} {pre post : List Taken} {c : RawCmd} {k : Nat} (taken : q.taken = pre ++ ⟨c, true, none, k⟩ :: post)
    (own : ∀ u ∈ pre, u.seq ≠ k) (status detail : Nat) (res : List Byte) : q.completeSeq k c.code status c.tag detail res =
      HostPort.flush (pre.length + post.length + 1)
        { q with taken := pre ++ ⟨c, true, some (cplBytes c.code status c.tag detail res), k⟩ :: post } := by
  rw [HostPort.completeSeq, taken, findIdx?_middle]
  · dsimp only
    rw [modAt_middle, List.length_append, List.length_cons, ← Nat.add_assoc]
  · intro u mem
    simp [own u mem]
  · simp

/-- The command that has begun last is the one after which none has begun. -/
theorem turn_last {q : HostPort} {pre post : List Taken} {c : RawCmd} {k : Nat} (taken : q.taken = pre ++ ⟨c, true, none, k⟩ :: post)
    (later : ∀ u ∈ post, u.begun = false) : q.turn = k := by
  have none_ : post.filter (fun t => t.begun && t.answer.isNone) = [] := List.filter_eq_nil_iff.2 (fun u mem => by simp [later u mem])
  rw [HostPort.turn, taken, List.filter_append, List.filter_cons, none_]
  simp

/-- A posted completion: its entry and its tail. -/
theorem post_fields (bs : List Byte) (h : HostPort) : (HostPort.post bs h).taken = h.taken ∧ (HostPort.post bs h).cplTail = (h.cplTail + 1) % 65536 ∧
    (HostPort.post bs h).cplRing = setAt bs (h.cplTail % 64) h.cplRing ∧ (HostPort.post bs h).cplHead = h.cplHead ∧
    (HostPort.post bs h).cmdHead = h.cmdHead ∧ (HostPort.post bs h).outMem = h.outMem := by
  rw [HostPort.post, msg_frame]
  exact ⟨rfl, rfl, rfl, rfl, rfl, rfl⟩

/-- Settles O18: the answer's place in ring order decides whether it is posted. -/
theorem completionIsPosted : Obligations.CompletionIsPosted := by
  unfold Obligations.CompletionIsPosted
  rintro s p q _ status detail k _ res at_p ring c pre post taken rfl rfl unanswered own
  have there := lt_of_some at_p
  have port : s.hport p.val = q := getD_of_some at_p _
  have at_t : (s.completeSeq p.val k c.code status c.tag detail res).hport p.val = q.completeSeq k c.code status c.tag detail res := by
    rw [State.completeSeq, modHost_at there, port]
  refine ⟨?_, rfl, fun r other => modHost_away other _, ?_, ?_⟩
  · intro later
    have turn := turn_last taken later
    have same : modAt (HostPort.complete c.code status c.tag detail res) p.val s.hosts =
        modAt (HostPort.completeSeq k c.code status c.tag detail res) p.val s.hosts := by
      refine List.ext_getElem? (fun i => ?_)
      rw [getElem?_modAt, getElem?_modAt]
      split
      · rename_i here
        rw [← here, at_p, Option.map_some, Option.map_some, HostPort.complete, turn]
      · rfl
    rw [State.complete, State.modHost, same]
    rfl
  · intro holds
    rw [at_t, completeSeq_answers taken own, flush_stops]
    exact readyCpl_held (fun u mem => unanswered u (List.mem_append_left _ mem)) holds _
  · intro alone
    have ready := readyCpl_behind (fun u mem => ⟨unanswered u (List.mem_append_left _ mem), (alone u mem).1, (alone u mem).2⟩)
      (cplBytes c.code status c.tag detail res) (a := ⟨c, true, some (cplBytes c.code status c.tag detail res), k⟩) rfl post
    rw [at_t, completeSeq_answers taken own,
      flush_posts (h := { q with taken := pre ++ ⟨c, true, some (cplBytes c.code status c.tag detail res), k⟩ :: post }) ready unanswered]
    obtain ⟨list, tail, entries, head, cmd, mem⟩ := post_fields (cplBytes c.code status c.tag detail res) { q with taken := pre ++ post }
    refine ⟨list, tail, ?_, head, cmd, mem, ?_⟩
    · rw [entries]
      exact getD_setAt (by rw [ring]; omega) _ _
    · intro i other
      rw [entries]
      exact getD_modAt_other other

end Sys2Proof.Machine

/-! PROOFS. Epochs, their slots and the commands that make plans (O19-O22). -/

namespace Sys2Proof.Machine

/-! ### The checks of a command -/

/-- A command that meets R212 passes its checks. -/
theorem check_passes {c : CmdSpec} {h : Hdr} {s : State} (flags : h.flags < 8) (form : h.badByte = none) (any : c.steward = false)
    (owners : ∀ o ∈ c.owners, o = some h.port.val) (modes : c.modes s.sys.mode = true) (free : c.noRelease = true → s.sys.release = false)
    (range : c.range = none) : c.check h s = none := by
  have own : c.owners.any (fun o => match o with | none => false | some q => decide (q ≠ h.port.val)) = false := by
    rw [List.any_eq_false]
    intro o mem
    rw [owners o mem]
    simp
  have released : ¬(c.noRelease = true ∧ s.sys.release = true) := fun both => by simp [free both.1] at both
  rw [check_form flags form, if_neg (by rw [any]; simp)]
  refine (if_neg (fun yes => Bool.noConfusion (own.symm.trans yes))).trans ?_
  rw [if_neg (by rw [modes]; exact Bool.noConfusion), if_neg released, range]

/-- A command on an object of another host is refused. -/
theorem check_foreign {c : CmdSpec} {h : Hdr} {s : State} {o : Nat} (flags : h.flags < 8) (form : h.badByte = none) (any : c.steward = false)
    (names : some o ∈ c.owners) (foreign : o ≠ h.port.val) : c.check h s = some (stNotOwner, 0) := by
  rw [check_form flags form, if_neg (by rw [any]; simp), if_pos]
  exact List.any_eq_true.2 ⟨some o, names, decide_eq_true foreign⟩

section
variable {h : Hdr} {code : Nat} {s s1 : State}

theorem turn_frame (turn : Safe.turn h code s s1) : s1 = { s with hosts := s1.hosts } := (startCmd_frame turn.2).1

/-- A command whose turn it is and that passes its checks acts. -/
theorem turn_runs (turn : Safe.turn h code s s1) {c : CmdSpec} (its : c.code = code) {act : State → State} (ok : c.check h s1 = none) :
    c.run h act s = act s1 := run_passes turn.1.1 (its ▸ turn.2) ok

/-- A command whose turn it is and that fails a check completes with its status. -/
theorem turn_fails (turn : Safe.turn h code s s1) {c : CmdSpec} (its : c.code = code) {act : State → State} {st d : Nat}
    (bad : c.check h s1 = some (st, d)) : c.run h act s = s1.complete h.port.val code st h.tag d [] := by
  rw [run_fails turn.1.1 (its ▸ turn.2) bad, its]

theorem turn_sys (turn : Safe.turn h code s s1) : s1.sys = s.sys := by rw [turn_frame turn]

theorem turn_fab (turn : Safe.turn h code s s1) : s1.fab = s.fab := by rw [turn_frame turn]

theorem turn_firmware (turn : Safe.turn h code s s1) : s1.firmware = true := by
  have both := turn.1.1
  rw [State.serves, Bool.and_eq_true] at both
  rw [turn_frame turn]
  exact both.2
end

/-- The command that has begun last completes by its number. -/
theorem complete_turn (p code status : Nat) (tag : Word) (detail : Nat) (res : List Byte) (s : State) :
    s.complete p code status tag detail res = s.completeSeq p (s.turn p) code status tag detail res := by
  have same : modAt (HostPort.complete code status tag detail res) p s.hosts = modAt (HostPort.completeSeq (s.turn p) code status tag detail res) p s.hosts := by
    refine List.ext_getElem? (fun i => ?_)
    rw [getElem?_modAt, getElem?_modAt]
    split
    · rename_i here
      subst here
      cases at_p : s.hosts[p]? with
      | none => rfl
      | some q => rw [Option.map_some, Option.map_some, HostPort.complete, State.turn, State.hport, getD_of_some at_p]
    · rfl
  rw [State.complete, State.modHost, same]
  rfl

/-! ### Epochs by their EPOCH_EXT -/

/-- The one element that satisfies a test is found. -/
theorem find?_only {α : Type} {p : α → Bool} {l : List α} {a : α} (mem : a ∈ l) (here : p a = true) (only : ∀ b ∈ l, p b = true → b = a) :
    l.find? p = some a := by
  cases found : l.find? p with
  | none => exact absurd here (by simpa using List.find?_eq_none.1 found a mem)
  | some b => rw [only b (List.mem_of_find?_eq_some found) (List.find?_some found)]

/-- A change of the epoch with an EPOCH_EXT. -/
def onExt (x : Nat) (g : Epoch → Epoch) (e : Epoch) : Epoch := if e.ext = x then g e else e

theorem onExt_ext {x : Nat} {g : Epoch → Epoch} (same : ∀ e, (g e).ext = e.ext) (e : Epoch) : (onExt x g e).ext = e.ext := by
  unfold onExt
  split
  · exact same e
  · rfl

theorem modEp_heldEps (x : Nat) (g : Epoch → Epoch) (s : State) : (s.modEp x g).fab.held = s.fab.held.map (onExt x g) := by
  show (s.fab.slots.map _).filterMap FabSlot.ep = (s.fab.slots.filterMap FabSlot.ep).map _
  rw [List.filterMap_map, List.map_filterMap]
  rfl

theorem modEp_epochs (x : Nat) (g : Epoch → Epoch) (s : State) : (s.modEp x g).fab.epochs = s.fab.epochs.map (onExt x g) := by
  rw [Fab.epochs, modEp_heldEps, Fab.epochs, List.map_append]
  rfl

theorem modEp_byExt {g : Epoch → Epoch} (same : ∀ e, (g e).ext = e.ext) (x y : Nat) (s : State) :
    (s.modEp x g).fab.byExt y = (s.fab.byExt y).map (onExt x g) := by
  rw [Fab.byExt, modEp_epochs, Fab.byExt, List.find?_map]
  have test : ((fun e : Epoch => decide (e.ext = y)) ∘ onExt x g) = fun e => decide (e.ext = y) := by
    funext e
    rw [Function.comp_apply, onExt_ext same]
  rw [test]

theorem byExt_ext {f : Fab} {x : Nat} {e : Epoch} (found : f.byExt x = some e) : e.ext = x :=
  of_decide_eq_true (p := e.ext = x) (List.find?_some (p := fun e : Epoch => decide (e.ext = x)) found)

theorem modEp_byExt_same {g : Epoch → Epoch} (same : ∀ e, (g e).ext = e.ext) (x : Nat) (s : State) :
    (s.modEp x g).fab.byExt x = (s.fab.byExt x).map g := by
  rw [modEp_byExt same]
  cases found : s.fab.byExt x with
  | none => rfl
  | some e => exact congrArg some (if_pos (byExt_ext found))

theorem modEp_slotEp (x : Nat) (g : Epoch → Epoch) (s : State) (i : Nat) : (s.modEp x g).slotEp i = (s.slotEp i).map (onExt x g) := by
  rw [State.slotEp, State.slotEp]
  show (match (s.fab.slots.map _)[i]? with | none => none | some (q : FabSlot) => q.ep) = _
  rw [List.getElem?_map]
  cases s.fab.slots[i]? with
  | none => rfl
  | some q => rfl

/-- The EPOCH_EXTs in use. -/
def State.exts (s : State) : List Nat := s.fab.epochs.map Epoch.ext

theorem modEp_exts {g : Epoch → Epoch} (same : ∀ e, (g e).ext = e.ext) (x : Nat) (s : State) : (s.modEp x g).exts = s.exts := by
  rw [State.exts, modEp_epochs, State.exts, List.map_map]
  exact List.map_congr_left (fun e _ => onExt_ext same e)

theorem byExt_none {s : State} {x : Nat} : s.fab.byExt x = none ↔ x ∉ s.exts := by
  rw [Fab.byExt, List.find?_eq_none, State.exts, List.mem_map]
  simp

/-! ### A slot for an epoch -/

/-- The first FREE slot takes the epoch. -/
theorem giveSlot_slot {s : State} {e : Epoch} {i : Nat} (free : s.fab.slots.findIdx? (fun q => q.ep.isNone) = some i) :
    s.giveSlot e = { s with fab := { s.fab with slots := modAt (takeSlot e) i s.fab.slots } } := by
  rw [State.giveSlot, free]

theorem findIdx?_there {α : Type} {p : α → Bool} {l : List α} {i : Nat} (found : l.findIdx? p = some i) : ∃ a, l[i]? = some a ∧ p a = true := by
  obtain ⟨there, here, -⟩ := List.findIdx?_eq_some_iff_getElem.1 found
  exact ⟨l[i], List.getElem?_eq_getElem there, here⟩

theorem giveSlot_slotEp {s : State} {e : Epoch} {i : Nat} (free : s.fab.slots.findIdx? (fun q => q.ep.isNone) = some i) :
    (s.giveSlot e).slotEp i = some e := by
  obtain ⟨q, at_i, -⟩ := findIdx?_there free
  rw [giveSlot_slot free, State.slotEp]
  dsimp only
  rw [getElem?_modAt_same at_i]
  rfl

/-- The epochs of a machine in which an epoch has been given a place: it, and those that were there. -/
theorem mem_modAt {α : Type} {f : α → α} {i : Nat} {l : List α} {b : α} (mem : b ∈ modAt f i l) : b ∈ l ∨ ∃ a, l[i]? = some a ∧ b = f a := by
  obtain ⟨j, there⟩ := List.mem_iff_getElem?.1 mem
  rw [getElem?_modAt] at there
  split at there
  · rename_i here
    subst here
    obtain ⟨a, at_i, eq⟩ := Option.map_eq_some_iff.1 there
    exact .inr ⟨a, at_i, eq.symm⟩
  · exact .inl (List.mem_of_getElem? there)

theorem giveSlot_epochs {s : State} {e f : Epoch} (mem : f ∈ (s.giveSlot e).fab.epochs) : f = e ∨ f ∈ s.fab.epochs := by
  unfold State.giveSlot at mem
  split at mem
  · rcases List.mem_append.1 mem with held | waits
    · obtain ⟨q, at_q, ep⟩ := List.mem_filterMap.1 held
      rcases mem_modAt at_q with old | ⟨a, -, rfl⟩
      · exact .inr (List.mem_append_left _ (List.mem_filterMap.2 ⟨q, old, ep⟩))
      · exact .inl (Option.some.inj ep).symm
    · exact .inr (List.mem_append_right _ waits)
  · rcases List.mem_append.1 mem with held | waits
    · exact .inr (List.mem_append_left _ held)
    · rcases List.mem_append.1 waits with old | new
      · exact .inr (List.mem_append_right _ old)
      · exact .inl (List.mem_singleton.1 new)

theorem slotEp_held {s : State} {i : Nat} {e : Epoch} (slot : s.slotEp i = some e) : e ∈ s.fab.held := by
  rw [State.slotEp] at slot
  split at slot
  · cases slot
  · rename_i q at_i
    exact List.mem_filterMap.2 ⟨q, List.mem_of_getElem? at_i, slot⟩

/-- An epoch with a new EPOCH_EXT in the first FREE slot. -/
theorem giveSlot_byExt {s : State} {e : Epoch} {i : Nat} (free : s.fab.slots.findIdx? (fun q => q.ep.isNone) = some i)
    (fresh : ∀ f ∈ s.fab.epochs, f.ext ≠ e.ext) : (s.giveSlot e).fab.byExt e.ext = some e ∧ (s.giveSlot e).fab.inSlot e.ext = true := by
  have held := slotEp_held (giveSlot_slotEp (e := e) free)
  refine ⟨find?_only (List.mem_append_left _ held) (decide_eq_true rfl) (fun f mem its => ?_), List.any_eq_true.2 ⟨e, held, decide_eq_true rfl⟩⟩
  rcases giveSlot_epochs mem with eq | old
  · exact eq
  · exact absurd (of_decide_eq_true its) (fresh f old)

/-- An epoch with a new EPOCH_EXT that finds a FREE slot starts in it. -/
theorem letEpochIn_slot {s : State} {e : Epoch} {i : Nat} (free : s.fab.slots.findIdx? (fun q => q.ep.isNone) = some i)
    (fresh : ∀ f ∈ s.fab.epochs, f.ext ≠ e.ext) : s.letEpochIn e = (s.giveSlot e).startEp e.ext := by
  rw [State.letEpochIn, if_pos (giveSlot_byExt free fresh).2]

/-- A committed plan joins the solver's queue. -/
theorem startEp_queued {s : State} {x : Nat} {e : Epoch} (found : s.fab.byExt x = some e) (stage : e.stage = .queued) :
    s.startEp x = { s with fab := { s.fab with queue := s.fab.queue ++ [{ host := e.host, ext := x }] } } := by
  rw [State.startEp, found]
  dsimp only
  rw [stage]

/-- A plan that opens completes with its number. -/
theorem startEp_opens {s : State} {x : Nat} {e : Epoch} (found : s.fab.byExt x = some e) (stage : e.stage = .open_) (owed : e.owed = true) :
    s.startEp x = (s.completeSeq e.host e.seq e.code 0 e.tag 0 (leBytes 2 e.num)).modEp x (fun e => { e with owed := false }) := by
  rw [State.startEp, found]
  dsimp only
  rw [stage]
  dsimp only
  rw [State.settle, found]
  dsimp only
  rw [owed, if_pos rfl]

end Sys2Proof.Machine

/-! PROOFS. The commands that make, fill, commit and end plans (O19-O22). -/

namespace Sys2Proof.Machine

/-! ### What a command's turn keeps -/

section
variable {h : Hdr} {code : Nat} {s s1 : State}

theorem turn_placeFree (turn : Safe.turn h code s s1) (inst : Nat) : s1.placeFree inst = s.placeFree inst := by rw [turn_frame turn]; rfl

theorem turn_form (turn : Safe.turn h code s s1) : h.flags < 8 ∧ h.badByte = none := turn.1.2

end

/-! ### PLAN_OPEN -/

/-- The epoch of a plan that PLAN_OPEN opens (R143). -/
def State.openedEpoch (s : State) (h : Hdr) (inst : Nat) : Epoch :=
  { (s.allocate inst h.port.val).1 with code := 0x0003, tag := h.tag, seq := s.turn h.port.val, owed := true }

theorem openPlan_full {h : Hdr} {inst : Nat} {s : State} (full : s.placeFree inst = false) :
    openPlan h inst s = s.complete h.port.val 0x0003 0x0006 h.tag 0 [] := by
  rw [openPlan, if_pos full]
  rfl

theorem openPlan_opens {h : Hdr} {inst : Nat} {s : State} (free : s.placeFree inst = true) :
    openPlan h inst s = (s.allocate inst h.port.val).2.letEpochIn (s.openedEpoch h inst) := by
  rw [openPlan, if_neg (by rw [free]; exact Bool.noConfusion)]
  rfl

/-- The machine whose slot `i` holds an epoch, allocated anew. -/
def State.withEpoch (inst host i : Nat) (e : Epoch) (s : State) : State :=
  { (s.allocate inst host).2 with fab := { (s.allocate inst host).2.fab with slots := modAt (takeSlot e) i s.fab.slots } }

section
variable {s : State} {inst host i : Nat} {e : Epoch}

theorem withEpoch_given (free : s.fab.slots.findIdx? (fun q => q.ep.isNone) = some i) :
    (s.allocate inst host).2.giveSlot e = s.withEpoch inst host i e := giveSlot_slot free

theorem withEpoch_byExt (free : s.fab.slots.findIdx? (fun q => q.ep.isNone) = some i) (fresh : ∀ f ∈ s.fab.epochs, f.ext ≠ e.ext) :
    (s.withEpoch inst host i e).fab.byExt e.ext = some e := by
  rw [← withEpoch_given free]
  exact (giveSlot_byExt (s := (s.allocate inst host).2) free fresh).1

theorem withEpoch_slotEp (free : s.fab.slots.findIdx? (fun q => q.ep.isNone) = some i) : (s.withEpoch inst host i e).slotEp i = some e := by
  rw [← withEpoch_given free]
  exact giveSlot_slotEp free

theorem withEpoch_starts (free : s.fab.slots.findIdx? (fun q => q.ep.isNone) = some i) (fresh : ∀ f ∈ s.fab.epochs, f.ext ≠ e.ext) :
    (s.allocate inst host).2.letEpochIn e = (s.withEpoch inst host i e).startEp e.ext := by
  rw [letEpochIn_slot (s := (s.allocate inst host).2) free fresh, withEpoch_given free]
end

/-- A plan that opens: its slot holds the epoch, and the command completes with its number. -/
theorem openPlan_slot {h : Hdr} {inst i : Nat} {s : State} (free : s.placeFree inst = true)
    (slot : s.fab.slots.findIdx? (fun q => q.ep.isNone) = some i) (fresh : ∀ e ∈ s.fab.epochs, e.ext ≠ (s.fab.ext + 1) % 2 ^ 48) :
    openPlan h inst s = ((s.withEpoch inst h.port.val i (s.openedEpoch h inst)).completeSeq h.port.val (s.turn h.port.val) 0x0003 0 h.tag 0
      (leBytes 2 (s.fab.lastNum % 65535 + 1))).modEp ((s.fab.ext + 1) % 2 ^ 48) (fun e => { e with owed := false }) := by
  rw [openPlan_opens free, withEpoch_starts slot fresh, startEp_opens (withEpoch_byExt slot fresh) rfl rfl]
  rfl

/-- Settles O19: the checks pass and the plan has its slot, or the refusal is the command's whole effect. -/
theorem planOpens : Obligations.PlanOpens := by
  unfold Obligations.PlanOpens
  intro s s1 h inst turn
  obtain ⟨flags, form⟩ := turn_form turn
  refine ⟨?_, ?_⟩
  · intro own mode release known
    have runs : exec (.planOpen h inst) s = .next (openPlan h inst s1) := by
      refine congrArg Host.Outcome.next (turn_runs turn rfl (check_passes flags form rfl ?_ ?_ ?_ ?_))
      · intro o mem
        rw [List.mem_singleton.1 mem]
        exact own
      · rw [turn_sys turn]; exact mode
      · intro _; rw [turn_sys turn]; exact release
      · exact if_pos known
    refine ⟨?_, ?_⟩
    · intro i free slot fresh
      have fab := turn_fab turn
      have opens := openPlan_slot (h := h) (s := s1) (inst := inst) (i := i) (by rw [turn_placeFree turn]; exact free) (by rw [fab]; exact slot)
        (by rw [fab]; exact fresh)
      refine ⟨_, { s1.openedEpoch h inst with owed := false }, runs.trans (congrArg _ opens), ?_, ?_, ?_, ?_, rfl, rfl, rfl, rfl, rfl, ?_, ?_, ?_⟩
      · rw [turn_frame turn]; rfl
      · rw [modEp_slotEp]
        refine (congrArg (Option.map _) (withEpoch_slotEp (s := s1) (i := i) (by rw [fab]; exact slot))).trans ?_
        exact congrArg some (if_pos rfl)
      · rw [← fab]; rfl
      · rfl
      · rw [← fab]; rfl
      · rw [← fab]; rfl
      · rw [complete_turn]; rfl
    · intro full
      exact runs.trans (congrArg _ (openPlan_full (by rw [turn_placeFree turn]; exact full)))
  · intro o own foreign
    refine congrArg Host.Outcome.next (turn_fails turn rfl (check_foreign flags form rfl ?_ foreign))
    exact List.mem_singleton.2 own.symm

/-! ### Work on the epochs that leaves the fabric as it is -/

/-- What a cell serves: its live target, its codes and its engine's state. -/
def Cell.core (c : Cell) : Target × (Nat × Nat) × (Eng × Option Eng) := (c.live, (c.uf, c.uh), (c.eng, c.out))

/-- No cell serves anything else, and the latest committed epoch is the same. -/
structure Stays (s t : State) : Prop where
  core : ∀ n, (t.cell n).core = (s.cell n).core
  committed : t.fab.lastCommitted = s.fab.lastCommitted

theorem Stays.refl (s : State) : Stays s s := ⟨fun _ => rfl, rfl⟩

theorem Stays.trans {s t u : State} (f : Stays s t) (g : Stays t u) : Stays s u :=
  ⟨fun n => (g.core n).trans (f.core n), g.committed.trans f.committed⟩

theorem Stays.live {s t : State} (f : Stays s t) (n : Nat) : (t.cell n).live = (s.cell n).live := congrArg Prod.fst (f.core n)

theorem stays_of {s t : State} (clusters : t.clusters = s.clusters) (committed : t.fab.lastCommitted = s.fab.lastCommitted) : Stays s t :=
  ⟨fun n => by rw [State.cell, State.clu, clusters, State.cell, State.clu], committed⟩

/-- No cell serves anything else, no circuit changes, and no EPOCH_EXT is new. -/
structure Works (s t : State) : Prop extends Stays s t where
  circuits : t.fab.circuits = s.fab.circuits
  exts : ∀ x ∈ t.exts, x ∈ s.exts

theorem Works.refl (s : State) : Works s s := ⟨.refl s, rfl, fun _ h => h⟩

theorem Works.trans {s t u : State} (f : Works s t) (g : Works t u) : Works s u :=
  ⟨f.toStays.trans g.toStays, g.circuits.trans f.circuits, fun x mem => f.exts x (g.exts x mem)⟩

theorem works_foldl {α : Type} (f : State → α → State) (one : ∀ s a, Works s (f s a)) (l : List α) (s : State) : Works s (l.foldl f s) :=
  foldl_holds (Works s) f (fun u a so => so.trans (one u a)) l s (.refl s)

theorem stays_foldl {α : Type} (f : State → α → State) (one : ∀ s a, Stays s (f s a)) (l : List α) (s : State) : Stays s (l.foldl f s) :=
  foldl_holds (Stays s) f (fun u a so => so.trans (one u a)) l s (.refl s)

/-- Work that leaves the clusters, the circuits and the epochs' places. -/
theorem works_of {s t : State} (clusters : t.clusters = s.clusters) (committed : t.fab.lastCommitted = s.fab.lastCommitted)
    (circuits : t.fab.circuits = s.fab.circuits) (slots : t.fab.slots = s.fab.slots) (waits : t.fab.slotWait = s.fab.slotWait) : Works s t := by
  refine ⟨stays_of clusters committed, circuits, fun x mem => ?_⟩
  rw [State.exts, Fab.epochs, Fab.held, slots, waits] at mem
  exact mem

theorem works_modEp {g : Epoch → Epoch} (same : ∀ e, (g e).ext = e.ext) (x : Nat) (s : State) : Works s (s.modEp x g) :=
  ⟨stays_of rfl rfl, rfl, fun y mem => by rwa [modEp_exts same] at mem⟩

theorem modSlotOf_heldEps {g : FabSlot → FabSlot} (same : ∀ q, (g q).ep = q.ep) (x : Nat) (s : State) :
    (s.modSlotOf x g).fab.held = s.fab.held := by
  show (s.fab.slots.map _).filterMap FabSlot.ep = s.fab.slots.filterMap FabSlot.ep
  rw [List.filterMap_map]
  refine List.filterMap_congr (fun q _ => ?_)
  show FabSlot.ep (match q.ep with | some e => if e.ext = x then g q else q | none => q) = q.ep
  split
  · split
    · exact same q
    · rfl
  · rfl

theorem works_modSlotOf {g : FabSlot → FabSlot} (same : ∀ q, (g q).ep = q.ep) (x : Nat) (s : State) : Works s (s.modSlotOf x g) := by
  refine ⟨stays_of rfl rfl, rfl, fun y mem => ?_⟩
  rw [State.exts, Fab.epochs, modSlotOf_heldEps same] at mem
  exact mem

theorem works_modCell {f : Cell → Cell} (same : ∀ c, (f c).core = c.core) (n : Nat) (s : State) : Works s (s.modCell n f) := by
  have at_place (u : State) (m : Nat) : (u.cell m).core = ((u.clu (m / 32)).cells.map Cell.core).getD (m % 32) ({} : Cell).core :=
    (List.getD_map (u.clu (m / 32)).cells ({} : Cell) Cell.core).symm
  have cores (c : Nat) : ((s.modCell n f).clu c).cells.map Cell.core = (s.clu c).cells.map Cell.core :=
    modClu_view (fun k => k.cells.map Cell.core) (fun k => map_modAt same (n % 32) k.cells) s (n / 32) c
  exact ⟨⟨fun m => by rw [at_place, cores, at_place], rfl⟩, rfl, fun _ mem => mem⟩

theorem writeNext_core (live : List Nat) (num : Nat) (t : CellTgt) (c : Cell) : (writeNext live num t c).core = c.core := by
  unfold writeNext
  dsimp only
  split
  · rfl
  · split <;> rfl

theorem works_settle (x status detail : Nat) (res : List Byte) (s : State) : Works s (s.settle x status detail res) := by
  unfold State.settle
  split
  · exact .refl s
  · rename_i e _
    split
    · have done : Works s (s.completeSeq e.host e.seq e.code status e.tag detail res) := works_of rfl rfl rfl rfl rfl
      refine done.trans (works_modEp ?_ x _)
      intro _; rfl
    · exact .refl s

theorem works_shadowWrite (x : Nat) (t : CellTgt) (s : State) : Works s (s.shadowWrite x t) := by
  unfold State.shadowWrite
  split
  · exact .refl s
  · split
    · exact works_modCell (writeNext_core _ _ t) t.cell s
    · dsimp only
      refine Works.trans ((works_modEp ?_ x s).trans (works_modSlotOf ?_ x _)) (works_of rfl rfl rfl rfl rfl)
      · intro _; rfl
      · intro _; rfl

theorem works_startEp (x : Nat) (s : State) : Works s (s.startEp x) := by
  unfold State.startEp
  split
  · exact .refl s
  · split
    · exact works_settle x _ _ _ s
    · exact works_of rfl rfl rfl rfl rfl
    · dsimp only
      refine Works.trans (works_modEp ?_ x s) (works_foldl (fun s t => s.shadowWrite x t) (fun u t => works_shadowWrite x t u) _ _)
      intro _; rfl

theorem giveSlot_keeps (e : Epoch) (s : State) : Stays s (s.giveSlot e) ∧ (s.giveSlot e).fab.circuits = s.fab.circuits ∧
    ∀ x ∈ (s.giveSlot e).exts, x = e.ext ∨ x ∈ s.exts := by
  refine ⟨?_, ?_, fun x mem => ?_⟩
  · unfold State.giveSlot
    split <;> exact stays_of rfl rfl
  · unfold State.giveSlot
    split <;> rfl
  · obtain ⟨f, there, rfl⟩ := List.mem_map.1 mem
    exact (giveSlot_epochs there).imp (congrArg Epoch.ext) (fun old => List.mem_map.2 ⟨f, old, rfl⟩)

/-- An epoch that takes its place works, and its own EPOCH_EXT alone may be new. -/
theorem letEpochIn_keeps (e : Epoch) (s : State) : Stays s (s.letEpochIn e) ∧ (s.letEpochIn e).fab.circuits = s.fab.circuits ∧
    ∀ x ∈ (s.letEpochIn e).exts, x = e.ext ∨ x ∈ s.exts := by
  obtain ⟨stays, circuits, exts⟩ := giveSlot_keeps e s
  have starts : Works (s.giveSlot e) (s.letEpochIn e) := by
    unfold State.letEpochIn
    dsimp only
    split
    · exact works_startEp e.ext _
    · exact .refl _
  exact ⟨stays.trans starts.toStays, starts.circuits.trans circuits, fun x mem => exts x (starts.exts x mem)⟩

theorem works_wake (s : State) : Works s s.wake := by
  unfold State.wake
  split
  · exact .refl s
  · rename_i e rest waits
    split
    · obtain ⟨stays, circuits, exts⟩ := letEpochIn_keeps e ({ s with fab := { s.fab with slotWait := rest } } : State)
      have first : Stays s ({ s with fab := { s.fab with slotWait := rest } } : State) := stays_of rfl rfl
      refine ⟨first.trans stays, circuits, fun x mem => ?_⟩
      rw [State.exts, Fab.epochs, waits, List.map_append, List.map_cons]
      rcases exts x mem with rfl | old
      · exact List.mem_append_right _ List.mem_cons_self
      · rw [State.exts, Fab.epochs, List.map_append] at old
        exact (List.mem_append.1 old).elim (List.mem_append_left _) (fun w => List.mem_append_right _ (List.mem_cons_of_mem _ w))
    · exact .refl s

theorem works_postReport (e : Epoch) (s : State) : Works s (s.postReport e) := by
  have logs : Works s (s.logTo 1 [e.inst] s.stamp e.report) := by
    rw [logTo_frame]
    exact works_of rfl rfl rfl rfl rfl
  unfold State.postReport
  dsimp only
  split
  · exact logs
  · exact logs.trans (works_of rfl rfl rfl rfl rfl)

/-- A freed slot: no epoch with the EPOCH_EXT is left. -/
theorem freeEp_frees (x : Nat) (s : State) : Works s (s.freeEp x) ∧ x ∉ (s.freeEp x).exts := by
  have frees : ∀ u : State, Stays s u → u.fab.circuits = s.fab.circuits → (∀ e ∈ u.fab.epochs, e ∈ s.fab.epochs ∧ e.ext ≠ x) →
      Works s u.wake ∧ x ∉ u.wake.exts := by
    intro u stays circuits epochs
    have woken := works_wake u
    refine ⟨⟨stays.trans woken.toStays, woken.circuits.trans circuits, fun y mem => ?_⟩, fun mem => ?_⟩
    · obtain ⟨e, there, rfl⟩ := List.mem_map.1 (woken.exts y mem)
      exact List.mem_map.2 ⟨e, (epochs e there).1, rfl⟩
    · obtain ⟨e, there, its⟩ := List.mem_map.1 (woken.exts x mem)
      exact (epochs e there).2 its
  refine frees _ (stays_of rfl rfl) rfl (fun e mem => ?_)
  rcases List.mem_append.1 mem with held | waits
  · obtain ⟨q', at_q, ep⟩ := List.mem_filterMap.1 held
    obtain ⟨q, old, rfl⟩ := List.mem_map.1 at_q
    have kept : q.ep = some e ∧ e.ext ≠ x := by
      cases slot : q.ep with
      | none => rw [slot] at ep; exact absurd (slot.symm.trans ep) (by simp)
      | some f =>
        rw [slot] at ep
        dsimp only at ep
        split at ep
        · exact absurd ep (by simp)
        · rename_i other
          obtain rfl : f = e := Option.some.inj (slot.symm.trans ep)
          exact ⟨rfl, other⟩
    exact ⟨List.mem_append_left _ (List.mem_filterMap.2 ⟨q, old, kept.1⟩), kept.2⟩
  · obtain ⟨old, other⟩ := List.mem_filter.1 waits
    exact ⟨List.mem_append_right _ old, by simpa using other⟩

theorem finishEp_frees {x : Nat} {e : Epoch} {s : State} (found : s.fab.byExt x = some e) : Works s (s.finishEp x) ∧ x ∉ (s.finishEp x).exts := by
  rw [State.finishEp, found]
  obtain ⟨works, gone⟩ := freeEp_frees x ((s.settle x (if e.status = .aborted then 0x0012 else 0x0013) 0 []).postReport e)
  exact ⟨((works_settle x _ _ _ s).trans (works_postReport e _)).trans works, gone⟩

/-- An epoch that ends before its seal is gone, while firmware runs (R153, R157). -/
theorem endEp_ends {x : Nat} {how : EpStatus} {e : Epoch} {s : State} (found : s.fab.byExt x = some e) (placed : e.placed = true)
    (fw : s.firmware = true) : Works s (s.endEp x how) ∧ x ∉ (s.endEp x how).exts := by
  have closes : ∀ u : State, Works s u → u.fab.byExt x = some { e with st := .closed, status := how } →
      Works s (u.finishEp x) ∧ x ∉ (u.finishEp x).exts := by
    intro u works closed
    obtain ⟨finishes, gone⟩ := finishEp_frees closed
    exact ⟨works.trans finishes, gone⟩
  unfold State.endEp
  rw [found]
  dsimp only
  rw [if_neg (by rw [placed]; exact Bool.noConfusion)]
  refine (if_pos (c := s.firmware = true) fw).symm ▸ closes _ ?_ ?_
  · exact (works_modEp (g := fun e => { e with st := .closed, status := how }) (fun _ => rfl) x s).trans (works_of rfl rfl rfl rfl rfl)
  · have closed := modEp_byExt_same (g := fun e => { e with st := .closed, status := how }) (fun _ => rfl) x s
    rw [found] at closed
    exact closed

/-! ### PLAN_ADD and PLAN_ABORT -/

/-- What R216 and R212 ask of the entry of a change. -/
def EntryOk (c : PlanChange) : Prop :=
  c.reserved = 0 ∧ 1 ≤ c.kind ∧ c.kind ≤ 3 ∧ (c.kind ≠ 1 → c.port2 = 0) ∧ c.ratio ≤ 0x8000 ∧ (c.kind ≠ 3 → c.ratio = 0)

theorem entryReserved_none : ∀ (o : Nat) {cs : List PlanChange}, (∀ c ∈ cs, EntryOk c) → entryReserved o cs = none
  | _, [], _ => rfl
  | o, c :: cs, ok => by
    rw [entryReserved, if_neg (not_not_intro (ok c List.mem_cons_self).1)]
    exact entryReserved_none (o + 8) (fun d mem => ok d (List.mem_cons_of_mem _ mem))

theorem entryRange_none : ∀ (o : Nat) {cs : List PlanChange}, (∀ c ∈ cs, EntryOk c) → entryRange o cs = none
  | _, [], _ => rfl
  | o, c :: cs, ok => by
    obtain ⟨-, kind, kind', port2, ratio, ratio'⟩ := ok c List.mem_cons_self
    rw [entryRange, if_neg (by omega), if_neg (fun both => both.2 (port2 both.1)), if_neg]
    · exact entryRange_none (o + 8) (fun d mem => ok d (List.mem_cons_of_mem _ mem))
    · rintro (high | ⟨other, some_⟩)
      · omega
      · exact some_ (ratio' other)

theorem turn_changeBad {h : Hdr} {code : Nat} {s s1 : State} (turn : Safe.turn h code s s1) (inst p p2 : Nat) (c : PlanChange) :
    s1.changeBad inst p p2 c = s.changeBad inst p p2 c := by
  rw [turn_frame turn]; rfl

theorem turn_entriesBad {h : Hdr} {code : Nat} {s s1 : State} (turn : Safe.turn h code s s1) (inst : Nat) :
    ∀ (o : Nat) (cs : List PlanChange), s1.entriesBad inst o cs = s.entriesBad inst o cs
  | _, [] => rfl
  | o, c :: cs => by rw [State.entriesBad, turn_changeBad turn, turn_entriesBad turn inst (o + 8) cs, State.entriesBad]

theorem addChanges_adds {h : Hdr} {num : Nat} {cs : List PlanChange} {s : State} {e : Epoch} (found : s.fab.byNum num = some e)
    (opened : e.isOpenPlan = true) (mapped : s.entriesBad e.inst 0x10 cs = none) (room : e.changes.length + cs.length ≤ 1024) :
    addChanges h num cs s = (s.modEp e.ext (fun e => { e with changes := e.changes ++ cs })).complete h.port.val 0x0004 0 h.tag 0
      (leBytes 2 (e.changes.length + cs.length)) := by
  rw [addChanges, found]
  dsimp only
  rw [if_neg (by rw [opened]; exact Bool.noConfusion), mapped]
  dsimp only
  rw [if_neg (by omega)]
  rfl

theorem abortPlan_ends {h : Hdr} {num : Nat} {s : State} {e : Epoch} (found : s.fab.byNum num = some e) (waits : e.waits = true) :
    abortPlan h num s = (s.endEp e.ext .aborted).complete h.port.val 0x0006 0 h.tag 0 [] := by
  rw [abortPlan, found]
  dsimp only
  rw [if_pos waits]
  rfl

theorem abortPlan_late {h : Hdr} {num : Nat} {s : State} {e : Epoch} (found : s.fab.byNum num = some e) (past : e.waits = false) :
    abortPlan h num s = s.complete h.port.val 0x0006 0x000F h.tag 0 [] := by
  rw [abortPlan, found]
  dsimp only
  rw [if_neg (by rw [past]; exact Bool.noConfusion)]
  rfl

theorem waits_placed {e : Epoch} (st : e.st = .pending ∨ e.st = .armed) : e.waits = true ∧ e.placed = true := by
  unfold Epoch.waits Epoch.placed
  rcases st with st | st <;> rw [st] <;> exact ⟨rfl, rfl⟩

/-- Settles O20: the checks of each command, and then its own act. -/
theorem planAddAndAbort : Obligations.PlanAddAndAbort := by
  unfold Obligations.PlanAddAndAbort
  intro s s1 h num code e turn mode found own
  obtain ⟨flags, form⟩ := turn_form turn
  have fab := turn_fab turn
  have found1 : s1.fab.byNum num = some e := by rw [fab]; exact found
  have mode1 : inService s1.sys.mode = true := by rw [turn_sys turn]; exact mode
  have owner : s.ownerEpoch num = some h.port.val := by rw [State.ownerEpoch, found]; exact own
  have aborts : code = 0x0006 → exec (.planAbort h num) s = .next (abortPlan h num s1) := by
    rintro rfl
    refine congrArg Host.Outcome.next (turn_runs turn rfl (check_passes flags form rfl ?_ mode1 (fun no => nomatch no) rfl))
    intro o mem
    rw [List.mem_singleton.1 mem, owner]
  refine ⟨?_, ?_, ?_⟩
  · rintro cs rfl some_ few pending opened entries mapped room
    have ok : ∀ c ∈ cs, EntryOk c := fun c mem => by
      obtain ⟨reserved, kind, kind', port2, ratio, ratio', -, -⟩ := entries c mem
      exact ⟨reserved, kind, kind', port2, ratio, ratio'⟩
    have bad : (h.badByte.orElse (fun _ => entryReserved 0x10 cs)) = none := by rw [form, entryReserved_none _ ok]; rfl
    have turn' : Safe.turn { h with badByte := h.badByte.orElse (fun _ => entryReserved 0x10 cs) } 0x0004 s s1 :=
      ⟨⟨turn.1.1, flags, bad⟩, turn.2⟩
    have adds := addChanges_adds (h := h) found1 (show e.isOpenPlan = true by simp [Epoch.isOpenPlan, pending, opened])
      ((turn_entriesBad turn _ _ _).trans mapped) room
    have runs : exec (.planAdd h num cs) s = .next (addChanges h num cs s1) := by
      refine congrArg Host.Outcome.next (turn_runs turn' rfl (check_passes flags bad rfl ?_ mode1 (fun no => nomatch no) ?_))
      · intro o mem
        rcases List.mem_cons.1 mem with rfl | mem
        · exact owner
        · obtain ⟨c, at_c, its⟩ := List.mem_flatMap.1 mem
          obtain ⟨-, -, -, -, -, -, port, port2⟩ := entries c at_c
          rcases List.mem_cons.1 its with rfl | second
          · exact port
          · split at second
            · rename_i connects
              rw [List.mem_singleton.1 second]
              exact port2 connects
            · exact absurd second List.not_mem_nil
      · refine (if_neg ?_).trans (entryRange_none _ ok)
        rintro (none | many)
        · exact some_ (List.length_eq_zero_iff.1 none)
        · omega
    refine ⟨_, runs.trans (congrArg _ adds), ?_, ?_, rfl⟩
    · rw [turn_frame turn]; rfl
    · rw [← fab]
      exact modEp_byExt_same (g := fun e => { e with changes := e.changes ++ cs }) (fun _ => rfl) e.ext s1
  · intro code6 st there
    obtain ⟨waits, placed⟩ := waits_placed st
    obtain ⟨works, gone⟩ := endEp_ends (how := .aborted) (s := s1) (by rw [fab]; exact there) placed (turn_firmware turn)
    refine ⟨_, (aborts code6).trans (congrArg _ (abortPlan_ends found1 waits)), byExt_none.2 gone, ?_, ?_⟩
    · intro n
      exact (works.live n).trans (by rw [turn_frame turn]; rfl)
    · exact works.circuits.trans (congrArg _ fab)
  · intro code6 st
    have past : e.waits = false := by
      unfold Epoch.waits
      rcases st with st | st <;> rw [st]
    exact (aborts code6).trans (congrArg _ (abortPlan_late found1 past))

/-! ### CONNECT and DISCONNECT -/

section
variable {h : Hdr} {code inst : Nat} {c : PlanChange} {time : MailTime} {p p2 : Nat} {s : State}

theorem singleChange_noPlace (good : s.changeBad inst p p2 c = none) (full : s.placeFree inst = false) :
    singleChange h code inst c time p p2 s = s.complete h.port.val code 0x0006 h.tag 0 [] := by
  rw [singleChange, good]
  dsimp only
  rw [if_pos full]
  rfl

theorem singleChange_busy (good : s.changeBad inst p p2 c = none) (free : s.placeFree inst = true)
    (busy : s.fab.armedInst inst = true ∨ s.fab.queueRoom h.port.val = false) :
    singleChange h code inst c time p p2 s = s.complete h.port.val code 0x0005 h.tag 0 [] := by
  rw [singleChange, good]
  dsimp only
  rw [if_neg (by rw [free]; exact Bool.noConfusion), if_pos busy]
  rfl

theorem singleChange_queues {b : Option Int} (good : s.changeBad inst p p2 c = none) (free : s.placeFree inst = true)
    (unarmed : s.fab.armedInst inst = false) (room : s.fab.queueRoom h.port.val = true)
    (checks : (s.allocate inst h.port.val).2.commitCheck (Safe.singleEpoch s h code inst c time) h.port.val (some time) = .inr b) :
    singleChange h code inst c time p p2 s =
      (s.allocate inst h.port.val).2.letEpochIn { Safe.singleEpoch s h code inst c time with b := b } := by
  rw [singleChange, good]
  dsimp only
  rw [if_neg (by rw [free]; exact Bool.noConfusion), if_neg (by simp [unarmed, room])]
  split
  · rename_i q refused
    exact nomatch checks.symm.trans refused
  · rename_i b' accepts
    obtain rfl : b = b' := Sum.inr.inj (checks.symm.trans accepts)
    rfl
end

/-- What O21 says of a command that is a plan of one change, in the state in which it has begun. -/
theorem singleChange_settles {h : Hdr} {code inst : Nat} {c : PlanChange} {time : MailTime} {p2 : Nat} {s s1 : State} {cmd : Instr}
    (turn : Safe.turn h code s s1) (runs : exec cmd s = .next (singleChange h code inst c time 0x0A p2 s1)) (good : s.changeBad inst 0x0A p2 c = none) :
    (s.placeFree inst = false → exec cmd s = .next (s1.complete h.port.val code 0x0006 h.tag 0 [])) ∧
    (s.placeFree inst = true → s.fab.armedInst inst = true ∨ s.fab.queueRoom h.port.val = false →
      exec cmd s = .next (s1.complete h.port.val code 0x0005 h.tag 0 [])) ∧
    (∀ (i : Nat) (b : Option Int), s.placeFree inst = true → s.fab.armedInst inst = false → s.fab.queueRoom h.port.val = true →
      (s1.allocate inst h.port.val).2.commitCheck (Safe.singleEpoch s1 h code inst c time) h.port.val (some time) = .inr b →
      s.fab.slots.findIdx? (fun q => q.ep.isNone) = some i → (∀ e ∈ s.fab.epochs, e.ext ≠ (s.fab.ext + 1) % 2 ^ 48) →
      ∃ t, exec cmd s = .next t ∧ t = { s1 with fab := t.fab } ∧ t.slotEp i = some { Safe.singleEpoch s1 h code inst c time with b := b } ∧
        t.fab.queue = s.fab.queue ++ [⟨h.port.val, (s.fab.ext + 1) % 2 ^ 48⟩] ∧ t.fab.circuits = s.fab.circuits ∧
        t.fab.lastNum = s.fab.lastNum % 65535 + 1) := by
  have fab := turn_fab turn
  have good1 : s1.changeBad inst 0x0A p2 c = none := (turn_changeBad turn _ _ _ _).trans good
  rw [runs, ← turn_placeFree turn, ← fab]
  refine ⟨fun full => congrArg _ (singleChange_noPlace good1 full), fun free busy => congrArg _ (singleChange_busy good1 free busy), ?_⟩
  intro i b free unarmed room checks slot fresh
  have queues := singleChange_queues good1 free unarmed room checks
  rw [withEpoch_starts slot fresh, startEp_queued (withEpoch_byExt slot fresh) rfl] at queues
  exact ⟨_, congrArg _ queues, rfl, withEpoch_slotEp (inst := inst) (host := h.port.val) slot, rfl, rfl, rfl⟩

/-- Settles O21: both commands are plans of one change. -/
theorem connectAndDisconnectQueue : Obligations.ConnectAndDisconnectQueue := by
  unfold Obligations.ConnectAndDisconnectQueue
  intro s s1 h inst code time turn own mode release known ns cmd c p2 command good
  obtain ⟨flags, form⟩ := turn_form turn
  have mode1 : inService s1.sys.mode = true := by rw [turn_sys turn]; exact mode
  have range : (s.badInst inst).orElse (fun _ => badNs time 0x10) = none := by
    rw [State.badInst, if_pos known]
    exact if_neg (by omega)
  rcases command with ⟨inp, out, ownIn, ownOut, rfl, rfl, rfl, rfl⟩ | ⟨port, ownPort, rfl, rfl, rfl, rfl⟩
  · refine singleChange_settles turn (congrArg Host.Outcome.next (turn_runs turn rfl
      (check_passes flags form rfl ?_ mode1 (fun _ => by rw [turn_sys turn]; exact release) range))) good
    intro o mem
    simp only [List.mem_cons, List.not_mem_nil, or_false] at mem
    rcases mem with rfl | rfl | rfl
    · exact own
    · exact ownIn
    · exact ownOut
  · refine singleChange_settles turn (congrArg Host.Outcome.next (turn_runs turn rfl
      (check_passes flags form rfl ?_ mode1 (fun no => nomatch no) range))) good
    intro o mem
    simp only [List.mem_cons, List.not_mem_nil, or_false] at mem
    rcases mem with rfl | rfl
    · exact own
    · exact ownPort

/-! ### PLAN_COMMIT -/

/-- A plan that PLAN_COMMIT has committed (R134-R136, R145-R147). -/
def State.committed (s : State) (h : Hdr) (channel : Nat) (t : MailTime) (b : Option Int) (e : Epoch) : Epoch :=
  { e with stage := .queued, code := 0x0005, tag := h.tag, seq := s.turn h.port.val, acceptMoves := accMoves h, owed := true,
           event := onEvent h, st := if onEvent h then .armed else .pending,
           channel := if onEvent h then channel else 0, b := b, loaded := false, goAt := none,
           reqS := if onEvent h then 0 else t.s, reqNs := if onEvent h then 0 else t.ns, pE := s.pA e.inst }

theorem commitPlan_none {h : Hdr} {num channel : Nat} {t : MailTime} {s : State} {e : Epoch} (found : s.fab.byNum num = some e)
    (past : e.isOpenPlan = false) : commitPlan h num channel t s = s.complete h.port.val 0x0005 0x0010 h.tag 0 [] := by
  rw [commitPlan, found]
  dsimp only
  rw [if_pos past]
  rfl

theorem commitPlan_queues {h : Hdr} {num channel : Nat} {t : MailTime} {s : State} {e : Epoch} {b : Option Int} (found : s.fab.byNum num = some e)
    (opened : e.isOpenPlan = true) (unarmed : s.fab.armedInst e.inst = false) (room : s.fab.queueRoom h.port.val = true)
    (checks : s.commitCheck e h.port.val (if onEvent h then none else some t) = .inr b) :
    commitPlan h num channel t s = (s.modEp e.ext (s.committed h channel t b)).startEp e.ext := by
  rw [commitPlan, found]
  dsimp only
  rw [if_neg (by rw [opened]; exact Bool.noConfusion), if_neg (by simp [unarmed, room]), checks]
  rfl

/-- Settles O22: the checks of the command, then the plan's, and the place in the solver's queue. -/
theorem planCommitQueues : Obligations.PlanCommitQueues := by
  unfold Obligations.PlanCommitQueues
  intro s s1 h num channel time e turn mode release found there own pending event timed
  obtain ⟨flags, form⟩ := turn_form turn
  have fab := turn_fab turn
  have found1 : s1.fab.byNum num = some e := by rw [fab]; exact found
  have runs : exec (.planCommit h num channel time) s = .next (commitPlan h num channel time s1) := by
    refine congrArg Host.Outcome.next (turn_runs turn rfl (check_passes flags form rfl ?_ ?_ ?_ ?_))
    · intro o mem
      rcases List.mem_cons.1 mem with rfl | chan
      · rw [State.ownerEpoch, found]; exact own
      · split at chan
        · rename_i on
          rw [List.mem_singleton.1 chan]
          exact (event on).2
        · exact absurd chan List.not_mem_nil
    · rw [turn_sys turn]; exact mode
    · intro _; rw [turn_sys turn]; exact release
    · dsimp only
      split
      · rename_i on
        exact if_neg (by have := (event on).1; omega)
      · rename_i off
        exact if_neg (by have := timed (by simpa using off); omega)
  refine ⟨?_, ?_⟩
  · intro stage
    exact runs.trans (congrArg _ (commitPlan_none found1 (by simp [Epoch.isOpenPlan, pending, stage])))
  · intro b stage unarmed room checks
    have queues := commitPlan_queues (channel := channel) found1 (by simp [Epoch.isOpenPlan, pending, stage]) (by rw [fab]; exact unarmed)
      (by rw [fab]; exact room) checks
    have committed := modEp_byExt_same (g := s1.committed h channel time b) (fun _ => rfl) e.ext s1
    rw [show s1.fab.byExt e.ext = some e by rw [fab]; exact there] at committed
    rw [startEp_queued committed rfl] at queues
    refine ⟨_, s1.committed h channel time b e, runs.trans (congrArg _ queues), rfl, committed, rfl, rfl, rfl, rfl, ?_, rfl, ?_, ?_⟩
    · exact fun on => if_pos on
    · rw [← fab]; rfl
    · rw [← fab]; rfl

end Sys2Proof.Machine

/-! PROOFS. The solver's turns and solutions (O23). -/

namespace Sys2Proof.Machine

/-! ### The solver's turns -/

theorem removeFirst_middle {α : Type} {p : α → Bool} {pre post : List α} {a : α} (before : ∀ u ∈ pre, p u = false) (here : p a = true) :
    removeFirst p (pre ++ a :: post) = pre ++ post := by
  induction pre with
  | nil => rw [List.nil_append, removeFirst, if_pos here]; rfl
  | cons u pre ih =>
    rw [List.cons_append, removeFirst, if_neg (by rw [before u List.mem_cons_self]; exact Bool.noConfusion),
      ih (fun u mem => before u (List.mem_cons_of_mem _ mem))]
    rfl

theorem find?_middle {α : Type} {p : α → Bool} {pre post : List α} {a : α} (before : ∀ u ∈ pre, p u = false) (here : p a = true) :
    (pre ++ a :: post).find? p = some a := by
  have none_ : pre.find? p = none := List.find?_eq_none.2 (fun u mem => by rw [before u mem]; exact Bool.noConfusion)
  rw [List.find?_append, none_, List.find?_cons, here]
  rfl

/-- The first host of the rotation that has an item (R136). -/
theorem nextHost_is {queue : List SolveItem} {last k : Nat} (lo : 1 ≤ k) (hi : k ≤ 4) (has : queue.any (fun q => q.host = (last + k) % 4) = true)
    (skipped : ∀ j, 1 ≤ j → j < k → queue.any (fun q => q.host = (last + j) % 4) = false) :
    nextHost queue last = some ((last + k) % 4) := by
  have shape : ([1, 2, 3, 4] : List Nat) = (List.range' 1 (k - 1)) ++ k :: List.range' (k + 1) (4 - k) := by
    obtain rfl | rfl | rfl | rfl : k = 1 ∨ k = 2 ∨ k = 3 ∨ k = 4 := by omega
    all_goals rfl
  rw [nextHost, shape, List.map_append, List.map_cons]
  refine find?_middle (fun u mem => ?_) has
  obtain ⟨j, place, rfl⟩ := List.mem_map.1 mem
  obtain ⟨low, high⟩ := List.mem_range'_1.1 place
  exact skipped j low (by omega)

theorem takeItem_again {s : State} {x : Nat} {rest : List Nat} (idle : s.fab.busy = none) (again : s.fab.resolves = x :: rest) :
    takeItem s = { s with fab := { s.fab with busy := some (x, true), resolves := rest } } := by
  rw [takeItem, idle]
  dsimp only
  rw [again]

theorem takeItem_first {s : State} {q : SolveItem} {pre post : List SolveItem} (idle : s.fab.busy = none) (none_ : s.fab.resolves = [])
    (next : nextHost s.fab.queue s.fab.lastHost = some q.host) (queue : s.fab.queue = pre ++ q :: post) (other : q ∉ pre)
    (hosts : ∀ r ∈ pre, r.host ≠ q.host) :
    takeItem s = { s with fab := { s.fab with busy := some (q.ext, false), lastHost := q.host, queue := pre ++ post } } := by
  have oldest : s.fab.queue.find? (fun r => r.host = q.host) = some q := by
    rw [queue]
    exact find?_middle (fun u mem => decide_eq_false (hosts u mem)) (decide_eq_true rfl)
  have left : removeFirst (fun r => decide (r = q)) s.fab.queue = pre ++ post := by
    rw [queue]
    exact removeFirst_middle (fun u mem => decide_eq_false (fun same => other (same ▸ mem))) (decide_eq_true rfl)
  rw [takeItem, idle]
  dsimp only
  rw [none_]
  dsimp only
  rw [next]
  dsimp only
  rw [oldest]
  dsimp only
  rw [left]

/-! ### The solution's targets in their NEXT slots -/

/-- A target written to the NEXT block of its cell, of the epochs `live` (R149). -/
def State.writeTarget (live : List Nat) (num : Nat) (s : State) (t : CellTgt) : State := s.modCell t.cell (writeNext live num t)

section
variable (live : List Nat) (num : Nat)

theorem writeTargets_frame (ts : List CellTgt) (s : State) :
    ts.foldl (State.writeTarget live num) s = { s with clusters := (ts.foldl (State.writeTarget live num) s).clusters } :=
  foldl_frame (fun s cs => { s with clusters := cs }) State.clusters (fun _ => rfl) (fun _ _ _ => rfl) _ (fun _ _ => rfl) ts s

theorem writeTargets_away {n : Nat} (ts : List CellTgt) (other : n ∉ ts.map CellTgt.cell) (s : State) :
    (ts.foldl (State.writeTarget live num) s).cell n = s.cell n := by
  induction ts generalizing s with
  | nil => rfl
  | cons t ts ih =>
    rw [List.map_cons, List.mem_cons, not_or] at other
    exact (ih other.2 _).trans (modCell_away other.1 _)

theorem modCell_places (n c : Nat) (f : Cell → Cell) (s : State) :
    (s.modCell n f).clusters.length = s.clusters.length ∧ ((s.modCell n f).clu c).cells.length = (s.clu c).cells.length :=
  ⟨by rw [modCell_clusters, length_modAt],
    modClu_view (fun k => k.cells.length) (f := Cluster.modCell (n % 32) f) (fun k => length_modAt f (n % 32) k.cells) s (n / 32) c⟩

theorem writeTargets_at {ts : List CellTgt} (apart : (ts.map CellTgt.cell).Nodup) {g : CellTgt} (mem : g ∈ ts) {s : State}
    (clu : g.cell / 32 < s.clusters.length) (there : g.cell % 32 < (s.clu (g.cell / 32)).cells.length) :
    (ts.foldl (State.writeTarget live num) s).cell g.cell = writeNext live num g (s.cell g.cell) := by
  induction ts generalizing s with
  | nil => exact absurd mem List.not_mem_nil
  | cons t ts ih =>
    rw [List.map_cons, List.nodup_cons] at apart
    rcases List.mem_cons.1 mem with rfl | mem
    · exact (writeTargets_away live num ts apart.1 _).trans (modCell_at clu there _)
    · have other : g.cell ≠ t.cell := fun same => apart.1 (same ▸ List.mem_map_of_mem mem)
      obtain ⟨clusters, cells⟩ := modCell_places t.cell (g.cell / 32) (writeNext live num t) s
      refine (ih apart.2 mem (s := s.writeTarget live num t) (clusters ▸ clu) (cells ▸ there)).trans ?_
      rw [State.writeTarget, modCell_away other]

/-- While an epoch waits, the solver's shadow writes go to the NEXT slots. -/
theorem shadowWrites_waiting {x : Nat} {e : Epoch} {s : State} (found : s.fab.byExt x = some e) (waits : e.waits = true) (ts : List CellTgt) :
    ts.foldl (fun s t => s.shadowWrite x t) s = ts.foldl (State.writeTarget s.fab.liveNums e.num) s := by
  have all (u : State) (fab : u.fab = s.fab) : ∀ ts : List CellTgt,
      ts.foldl (fun s t => s.shadowWrite x t) u = ts.foldl (State.writeTarget s.fab.liveNums e.num) u := by
    intro ts
    induction ts generalizing u with
    | nil => rfl
    | cons t ts ih =>
      have one : u.shadowWrite x t = u.writeTarget s.fab.liveNums e.num t := by
        rw [State.shadowWrite, fab, found]
        dsimp only
        rw [if_pos waits]
        rfl
      rw [List.foldl_cons, List.foldl_cons, one]
      exact ih _ fab
  exact all s rfl ts
end

theorem mem_setAt {α : Type} {l : List α} {i : Nat} (there : i < l.length) (a : α) : a ∈ setAt a i l :=
  List.mem_of_getElem? (getElem?_modAt_same (List.getElem?_eq_getElem there))

/-- A NEXT slot that is free, or tagged so, takes the target. -/
theorem writeNext_takes (live : List Nat) {num : Nat} (t : CellTgt) {c : Cell} (room : ∃ p ∈ c.next, p.valid = false ∨ p.epoch = num) :
    (⟨true, num, t.st, t.ratio⟩ : NextSlot) ∈ (writeNext live num t c).next := by
  unfold writeNext
  dsimp only
  split
  · rename_i i tagged
    obtain ⟨q, there, -⟩ := findIdx?_there tagged
    exact mem_setAt (lt_of_some there) _
  · rename_i untagged
    split
    · rename_i i free
      obtain ⟨q, there, -⟩ := findIdx?_there free
      exact mem_setAt (lt_of_some there) _
    · rename_i full
      obtain ⟨p, mem, fits⟩ := room
      have unfree := List.findIdx?_eq_none_iff.1 full p mem
      have other := List.findIdx?_eq_none_iff.1 untagged p mem
      rw [Bool.or_eq_false_iff, Bool.not_eq_false'] at unfree
      rcases fits with invalid | its
      · exact absurd (unfree.1.symm.trans invalid) (by simp)
      · rw [unfree.1, Bool.true_and, decide_eq_false_iff_not] at other
        exact absurd its other

/-! ### The end of a solve -/

theorem solvedLate_early {s : State} {x : Nat} {e : Epoch} (found : s.fab.byExt x = some e) (early : e.atB = false) : s.solvedLate x = s := by
  rw [State.solvedLate, found]
  dsimp only
  rw [if_pos early]

/-- A completion owed for an epoch leaves the epochs but for what is owed, and the clusters. -/
theorem settle_epochs (x status detail : Nat) (res : List Byte) (s : State) : (s.settle x status detail res).clusters = s.clusters ∧
    (s.settle x status detail res).fab.busy = s.fab.busy ∧
    ∃ owed : Epoch → Bool, (s.settle x status detail res).fab.byExt x = (s.fab.byExt x).map (fun e => { e with owed := owed e }) := by
  unfold State.settle
  split
  · rename_i none
    exact ⟨rfl, rfl, Epoch.owed, by rw [none]; rfl⟩
  · rename_i e found
    split
    · exact ⟨rfl, rfl, fun _ => false, modEp_byExt_same (g := fun e => { e with owed := false }) (fun _ => rfl) x
        (s.completeSeq e.host e.seq e.code status e.tag detail res)⟩
    · exact ⟨rfl, rfl, Epoch.owed, by rw [found]; rfl⟩

theorem settleOk_epochs (x : Nat) (s : State) : (s.settleOk x).clusters = s.clusters ∧ (s.settleOk x).fab.busy = s.fab.busy ∧
    ∃ owed : Epoch → Bool, (s.settleOk x).fab.byExt x = (s.fab.byExt x).map (fun e => { e with owed := owed e }) := by
  unfold State.settleOk
  split
  · rename_i none
    exact ⟨rfl, rfl, Epoch.owed, by rw [none]; rfl⟩
  · exact settle_epochs x 0 0 _ s

theorem works_settleOk (x : Nat) (s : State) : Works s (s.settleOk x) := by
  unfold State.settleOk
  split
  · exact .refl s
  · exact works_settle x 0 0 _ s

/-- An epoch put in its own place. -/
theorem modEp_put {x : Nat} {e' e : Epoch} {s : State} (its : e'.ext = x) (found : s.fab.byExt x = some e) :
    (s.modEp x (fun _ => e')).fab.byExt x = some e' := by
  have test : ((fun f : Epoch => decide (f.ext = x)) ∘ onExt x (fun _ => e')) = fun f => decide (f.ext = x) := by
    funext f
    rw [Function.comp_apply, onExt]
    split
    · rename_i here
      rw [its, here]
    · rfl
  rw [Fab.byExt, modEp_epochs, List.find?_map, test]
  refine (congrArg (Option.map (onExt x (fun _ => e'))) found).trans ?_
  exact congrArg some (if_pos (byExt_ext found))

/-- A solution of an epoch that waits: the epoch, placed, takes it before its targets are written. -/
theorem takeSolution_waits {s : State} {x : Nat} {e e' : Epoch} (found : s.fab.byExt x = some e) (its : e'.ext = x) (unevent : e'.event = false) :
    ∃ (u : State) (b : Option Int), u.clusters = s.clusters ∧ u.fab.busy = s.fab.busy ∧ u.fab.circuits = s.fab.circuits ∧
      u.fab.byExt x = some { e' with b := b } ∧
      s.takeSolution e' = ((e'.targets.foldl (fun s t => s.shadowWrite x t) u).settleOk x).solvedLate x := by
  subst its
  have put := modEp_put rfl found (e' := e')
  unfold State.takeSolution
  dsimp only
  by_cases unplaced : e'.b.isNone = true
  · have placed := modEp_byExt_same (g := fun q => { q with b := some ((s.modEp e'.ext (fun _ => e')).earliest e'.inst e'.pE
      ((s.modEp e'.ext (fun _ => e')).tai + 2 * e'.pE + 500) e'.ext) }) (fun _ => rfl) e'.ext (s.modEp e'.ext (fun _ => e'))
    rw [put] at placed
    rw [if_neg (by rw [unevent]; exact Bool.noConfusion), if_pos ⟨unevent, unplaced⟩]
    refine ⟨_, _, ?_, ?_, ?_, placed, rfl⟩ <;> rfl
  · rw [if_neg (by rw [unevent]; exact Bool.noConfusion), if_neg (fun both => unplaced both.2)]
    refine ⟨_, e'.b, ?_, ?_, ?_, put, rfl⟩ <;> rfl

theorem solveDone_solved {s : State} {x : Nat} {e e' : Epoch} (busy : s.fab.busy = some (x, false)) (found : s.fab.byExt x = some e)
    (open_ : e.status = .none) (solved : ({ s with fab := { s.fab with busy := none } } : State).solve false e = .inr e') :
    solveDone s = ({ s with fab := { s.fab with busy := none } } : State).takeSolution e' := by
  rw [solveDone, busy]
  dsimp only
  rw [show Fab.byExt { s.fab with busy := none } x = some e from found]
  dsimp only
  rw [if_neg (fun both => both.1 open_), solved]
  rfl

/-- Settles O23: whose turn it is, and where a solution's targets stand. -/
theorem solverServesAndWrites : Obligations.SolverServesAndWrites := by
  unfold Obligations.SolverServesAndWrites
  refine ⟨?_, ?_, ?_⟩
  · intro s x rest idle again
    exact ⟨_, congrArg Host.Outcome.next (takeItem_again idle again), rfl, rfl⟩
  · intro s k pre post q idle none_ lo hi queue host other hosts skipped
    have next : nextHost s.fab.queue s.fab.lastHost = some q.host := by
      rw [host]
      refine nextHost_is lo hi (List.any_eq_true.2 ⟨q, by rw [queue]; exact List.mem_append_right _ List.mem_cons_self, decide_eq_true host⟩) ?_
      intro j low high
      rw [List.any_eq_false]
      intro r mem
      simpa using skipped j low high r mem
    exact ⟨_, congrArg Host.Outcome.next (takeItem_first idle none_ next queue other hosts), rfl, rfl⟩
  · intro s x e e' busy found open_ solved its pending unevent early apart
    have waits : ∀ b, ({ e' with b := b } : Epoch).waits = true := fun b => (waits_placed (e := { e' with b := b }) (.inl pending)).1
    obtain ⟨u, b, clusters, idle, circuits, taken, eq⟩ :=
      takeSolution_waits (s := { s with fab := { s.fab with busy := none } }) found its unevent
    rw [shadowWrites_waiting taken (waits b)] at eq
    have frame := writeTargets_frame u.fab.liveNums e'.num e'.targets u
    have away := fun n other => writeTargets_away u.fab.liveNums e'.num (n := n) e'.targets other u
    have wrote := fun g mem clu there => writeTargets_at u.fab.liveNums e'.num apart (g := g) mem (s := u) clu there
    have core : Works u (e'.targets.foldl (State.writeTarget u.fab.liveNums e'.num) u) :=
      works_foldl _ (fun v t => works_modCell (writeNext_core _ _ t) t.cell v) e'.targets u
    generalize e'.targets.foldl (State.writeTarget u.fab.liveNums e'.num) u = w at eq frame away wrote core
    have taken' : w.fab.byExt x = some { e' with b := b } := by rw [frame]; exact taken
    obtain ⟨sameClu, sameBusy, owed, settled⟩ := settleOk_epochs x w
    rw [taken'] at settled
    rw [solvedLate_early settled early] at eq
    have cells (n : Nat) : ((w.settleOk x).cell n) = w.cell n := by rw [State.cell, State.clu, sameClu, State.cell, State.clu]
    have old (n : Nat) : u.cell n = s.cell n := by rw [State.cell, State.clu, clusters, State.cell, State.clu]
    refine ⟨w.settleOk x, congrArg Host.Outcome.next ((solveDone_solved busy found open_ solved).trans eq), ?_, ?_, ?_, ?_, ?_⟩
    · rw [sameBusy, frame]; exact idle
    · rw [(works_settleOk x w).circuits, core.circuits, circuits]
    · intro n
      rw [cells, core.live, old]
    · intro n other
      rw [cells, away n other, old]
    · intro g mem clu there room
      have at_clu (c : Nat) : u.clu c = s.clu c := by rw [State.clu, clusters, State.clu]
      rw [cells, wrote g mem (by rw [clusters]; exact clu) (by rw [at_clu]; exact there), old]
      exact writeNext_takes _ g room

end Sys2Proof.Machine

/-! PROOFS. Loading, seals, commits, closures and reports (O24, O26), and firmware's own plans (O27). -/

namespace Sys2Proof.Machine

/-! ### Slots -/

theorem slotEp_iff {s : State} {i : Nat} {e : Epoch} : s.slotEp i = some e ↔ ∃ q, s.fab.slots[i]? = some q ∧ q.ep = some e := by
  rw [State.slotEp]
  cases s.fab.slots[i]? with
  | none => simp
  | some q => simp

/-- A change of the slot that holds an epoch. -/
def onSlot (x : Nat) (g : FabSlot → FabSlot) (q : FabSlot) : FabSlot :=
  match q.ep with | some e => if e.ext = x then g q else q | none => q

theorem modSlotOf_slots (x : Nat) (g : FabSlot → FabSlot) (s : State) : (s.modSlotOf x g).fab.slots = s.fab.slots.map (onSlot x g) := (rfl)

theorem onSlot_here {x : Nat} {g : FabSlot → FabSlot} {q : FabSlot} {e : Epoch} (holds : q.ep = some e) (its : e.ext = x) : onSlot x g q = g q := by
  rw [onSlot, holds]
  exact if_pos its

theorem modEp_slotEp_own {s : State} {i : Nat} {e : Epoch} (slot : s.slotEp i = some e) (g : Epoch → Epoch) :
    (s.modEp e.ext g).slotEp i = some (g e) := by
  rw [modEp_slotEp, slot]
  exact congrArg some (if_pos rfl)

theorem modSlotOf_own {s : State} {i : Nat} {e : Epoch} (slot : s.slotEp i = some e) (g : FabSlot → FabSlot) :
    ∃ q, q.ep = some e ∧ (s.modSlotOf e.ext g).fab.slots[i]? = some (g q) := by
  obtain ⟨q, there, holds⟩ := slotEp_iff.1 slot
  refine ⟨q, holds, ?_⟩
  rw [modSlotOf_slots, List.getElem?_map, there]
  exact congrArg some (onSlot_here holds rfl)

/-! ### Loading and sealing -/

theorem loadCommitAt_loads {s : State} {i : Nat} {e : Epoch} {b : Int} (slot : s.slotEp i = some e) (placed : e.b = some b) (waits : e.waits = true)
    (unloaded : e.loaded = false) (fw : s.firmware = true) (lo : 16 ≤ s.time.xOf b - s.now) (hi : s.time.xOf b - s.now ≤ 2000000000) :
    loadCommitAt i s = (s.modEp e.ext (fun e => { e with loaded := true })).modSlotOf e.ext
      (fun q => { q with commitAt := BitVec.ofInt 32 (s.time.xOf b) }) := by
  rw [loadCommitAt, slot]
  dsimp only
  rw [placed]
  dsimp only
  rw [if_pos ⟨waits, unloaded, fw, lo, hi⟩]

theorem settle_frame (x status detail : Nat) (res : List Byte) (s : State) : s.settle x status detail res =
    { s with fab := { s.fab with slots := (s.settle x status detail res).fab.slots, slotWait := (s.settle x status detail res).fab.slotWait },
             hosts := (s.settle x status detail res).hosts } := by
  unfold State.settle
  split
  · rfl
  · split <;> rfl

theorem settle_slotEp (x status detail : Nat) (res : List Byte) (s : State) (i : Nat) : ∃ owed : Epoch → Bool,
    (s.settle x status detail res).slotEp i = (s.slotEp i).map (fun e => { e with owed := owed e }) := by
  have same : s.slotEp i = (s.slotEp i).map (fun e => { e with owed := Epoch.owed e }) := by
    cases s.slotEp i <;> rfl
  unfold State.settle
  split
  · exact ⟨Epoch.owed, same⟩
  · rename_i e _
    split
    · refine ⟨fun f => if f.ext = x then false else f.owed, (modEp_slotEp x _ _ i).trans ?_⟩
      show (s.slotEp i).map _ = _
      congr 1
      funext f
      unfold onExt
      by_cases here : f.ext = x
      · simp only [if_pos here]
      · simp only [if_neg here]
    · exact ⟨Epoch.owed, same⟩

theorem settleOk_slotEp (x : Nat) (s : State) (i : Nat) : ∃ owed : Epoch → Bool,
    (s.settleOk x).slotEp i = (s.slotEp i).map (fun e => { e with owed := owed e }) := by
  unfold State.settleOk
  split
  · refine ⟨Epoch.owed, ?_⟩
    cases s.slotEp i <;> rfl
  · exact settle_slotEp x 0 0 _ s i

theorem settleOk_frame (x : Nat) (s : State) : s.settleOk x =
    { s with fab := { s.fab with slots := (s.settleOk x).fab.slots, slotWait := (s.settleOk x).fab.slotWait }, hosts := (s.settleOk x).hosts } := by
  unfold State.settleOk
  split
  · rfl
  · rw [settle_frame]

/-- An epoch at its seal (R150). -/
def State.sealedAt (e : Epoch) (b : Int) (s : State) : State :=
  { s.modEp e.ext (fun q => { q with st := .sealedE, staged := s.tagged e.inst e.num, sealAt := some (b - 2 * e.pE) }) with
    fab := { (s.modEp e.ext (fun q => { q with st := .sealedE, staged := s.tagged e.inst e.num, sealAt := some (b - 2 * e.pE) })).fab with
      lastSealed := e.num } }

theorem sealEpoch_seals {s s1 : State} {i : Nat} {e : Epoch} {b : Int} (slot : s.slotEp i = some e) (placed : e.b = some b) (waits : e.waits = true)
    (loaded : e.loaded = true) (there : reach 4000000000 (s.time.xOf (b - 2 * e.pE)) s = some s1) :
    sealEpoch i s = if e.event then (s1.sealedAt e b).settleOk e.ext else s1.sealedAt e b := by
  rw [sealEpoch, slot]
  dsimp only
  rw [placed]
  dsimp only
  rw [if_neg (by simp [waits, loaded]), there]
  rfl

/-- What O24 says of a seal. -/
theorem sealedAt_says {s1 : State} {i : Nat} {e : Epoch} {b : Int} (slot : s1.slotEp i = some e) (t : State)
    (eq : t = if e.event then (s1.sealedAt e b).settleOk e.ext else s1.sealedAt e b) : ∃ q, t.slotEp i = some q ∧ q.st = .sealedE ∧
      q.sealAt = some (b - 2 * e.pE) ∧ q.staged = s1.tagged e.inst e.num ∧ t.fab.lastSealed = e.num ∧ t.clusters = s1.clusters ∧
      t.fab.circuits = s1.fab.circuits := by
  have sealed_ : (s1.sealedAt e b).slotEp i = some { e with st := .sealedE, staged := s1.tagged e.inst e.num, sealAt := some (b - 2 * e.pE) } :=
    modEp_slotEp_own slot _
  subst eq
  split
  · obtain ⟨owed, after⟩ := settleOk_slotEp e.ext (s1.sealedAt e b) i
    rw [sealed_] at after
    refine ⟨_, after, rfl, rfl, rfl, ?_, ?_, ?_⟩ <;> rw [settleOk_frame] <;> rfl
  · exact ⟨_, sealed_, rfl, rfl, rfl, rfl, rfl, rfl⟩

/-! ### What stays at a commit -/

theorem works_except (x : Nat) (q : Exc) (s : State) : Works s (s.except x q) := by
  refine works_modEp ?_ x s
  intro _; rfl

theorem works_endHand (n : Nat) (s : State) : Works s (s.endHand n) := by
  refine works_modCell ?_ n s
  intro _; rfl

theorem works_raiseDone (at_ : Int) (inst : Nat) (s : State) : Works s (s.raiseDone at_ inst) := works_of rfl rfl rfl rfl rfl

theorem works_supersede (n : Nat) (s : State) : Works s (s.supersede n) := by
  unfold State.supersede
  split
  · exact .refl s
  · rename_i x _
    refine ((works_except x _ s).trans (works_modEp ?_ x _)).trans (works_endHand n _)
    intro _; rfl

/-- µs from an epoch's opening to an instant (R160). -/
def Epoch.closedAfter (e : Epoch) (at_ : Int) : Nat := match e.openAt with | none => 0 | some b => ((at_ - b) / 1000).toNat

/-- An epoch as its closure leaves it. -/
def Epoch.closedAs (how : EpStatus) (us undone : Nat) (e : Epoch) : Epoch := { e with st := .closed, status := how, closeUs := us, undone := undone }

/-- The hand-overs of cells end, each entered as UNDONE (R155). -/
def State.handsEnded (x : Nat) (ns : List Nat) (s : State) : State := ns.foldl (fun s n => (s.except x { cell := n, kind := 7 }).endHand n) s

/-- An epoch that closes before its occurrence is raised. -/
def State.closedOff (x : Nat) (how : EpStatus) (at_ : Int) (e : Epoch) (s : State) : State :=
  (s.handsEnded x (s.unfinished e)).modEp x (Epoch.closedAs how (e.closedAfter at_) (s.unfinished e).length)

theorem closeEp_closes {x : Nat} {how : EpStatus} {at_ : Int} {e : Epoch} {s : State} (found : s.fab.byExt x = some e) :
    s.closeEp x how at_ = { s.closedOff x how at_ e with
      evt := (s.closeEp x how at_).evt,
      fab := { (s.closedOff x how at_ e).fab with
        lastClosed := (s.closeEp x how at_).fab.lastClosed, spliceCnt := (s.closeEp x how at_).fab.spliceCnt,
        doneAt := (s.closeEp x how at_).fab.doneAt } } := by
  rw [State.closeEp, found]
  dsimp only
  split <;> rfl

theorem works_handsEnded (x : Nat) (ns : List Nat) (s : State) : Works s (s.handsEnded x ns) :=
  works_foldl _ (fun u n => (works_except x _ u).trans (works_endHand n _)) _ s

theorem works_closeEp (x : Nat) (how : EpStatus) (at_ : Int) (s : State) : Works s (s.closeEp x how at_) := by
  cases found : s.fab.byExt x with
  | none => rw [State.closeEp, found]; exact .refl s
  | some e =>
    have closed : Works s (s.closedOff x how at_ e) := (works_handsEnded x _ s).trans
      (works_modEp (g := Epoch.closedAs how (e.closedAfter at_) (s.unfinished e).length) (fun _ => rfl) x _)
    rw [closeEp_closes found]
    exact closed.trans (works_of rfl rfl rfl rfl rfl)

theorem works_closeDone (at_ : Int) (s : State) : Works s (s.closeDone at_) :=
  works_foldl (fun s (e : Epoch) => s.closeEp e.ext .done at_) (fun u e => works_closeEp e.ext .done at_ u) _ s

theorem works_splice (at_ : Int) : ∀ (k : Nat) (s : State), Works s (splice at_ k s)
  | 0, s => .refl s
  | k + 1, s => by
    rw [splice]
    split
    · exact .refl s
    · exact (works_closeEp _ .spliced at_ s).trans (works_splice at_ k _)

theorem stays_followOn (x : Nat) (s : State) : Stays s (s.followOn x) := by
  have unCarry (u : State) : Stays u (u.modEp x (fun e => { e with carry := false })) := stays_of rfl rfl
  unfold State.followOn
  split
  · exact .refl s
  · split
    · split
      · rename_i e _ _ _
        have est : Stays s (s.establish e) := stays_of rfl rfl
        exact est.trans (unCarry _)
      · exact .refl s
    · rename_i e _ _
      have first (n : Nat) : Stays s ((s.allocate e.inst e.host).2.modEp x (fun e => { e with follow := n, carry := false, missed := [] })) :=
        stays_of rfl rfl
      exact (first _).trans (letEpochIn_keeps _ _).1

theorem stays_followAll (s : State) : Stays s s.followAll :=
  stays_foldl (fun s x => s.followOn x) (fun u x => stays_followOn x u) _ s

/-! ### Targets that become live -/

/-- Targets that become live at a commit: their cells serve them and nothing else changes in what the cells serve (R77, R152). -/
structure GoLive (ts : List CellTgt) (s t : State) : Prop where
  rest : ∀ n, (t.cell n).core.2 = (s.cell n).core.2
  away : ∀ n, n ∉ ts.map CellTgt.cell → (t.cell n).live = (s.cell n).live
  serves : ∀ g ∈ ts, (s.cell g.cell).engNow.st ≠ .off → (s.cell g.cell).engNow.st ≠ .retired →
    (t.cell g.cell).live.state = g.st ∧ (t.cell g.cell).live.ratio = g.ratio

theorem engNow_core {a b : Cell} (same : a.core.2 = b.core.2) : a.engNow = b.engNow := by
  have outs : a.out = b.out := congrArg (fun v => v.2.2) same
  have engs : a.eng = b.eng := congrArg (fun v => v.2.1) same
  rw [Cell.engNow, Cell.engNow, outs, engs]

theorem GoLive.before {ts : List CellTgt} {s u t : State} (stays : Stays s u) (go : GoLive ts u t) : GoLive ts s t := by
  refine ⟨fun n => (go.rest n).trans (congrArg Prod.snd (stays.core n)), fun n out => (go.away n out).trans (stays.live n), fun g mem on good => ?_⟩
  have eng := engNow_core (congrArg Prod.snd (stays.core g.cell))
  exact go.serves g mem (by rw [eng]; exact on) (by rw [eng]; exact good)

theorem GoLive.after {ts : List CellTgt} {s u t : State} (go : GoLive ts s u) (stays : Stays u t) : GoLive ts s t :=
  ⟨fun n => (congrArg Prod.snd (stays.core n)).trans (go.rest n), fun n out => (stays.live n).trans (go.away n out),
    fun g mem on good => by rw [stays.live]; exact go.serves g mem on good⟩

theorem GoLive.same {ts : List CellTgt} {s u t : State} (go : GoLive ts s u) (clusters : t.clusters = u.clusters) : GoLive ts s t := by
  have cells (n : Nat) : t.cell n = u.cell n := by rw [State.cell, State.clu, clusters, State.cell, State.clu]
  exact ⟨fun n => by rw [cells]; exact go.rest n, fun n out => by rw [cells]; exact go.away n out,
    fun g mem on good => by rw [cells]; exact go.serves g mem on good⟩

/-- A change of a cell's live target and hand-over. -/
theorem modCell_lives {s : State} {t : CellTgt} {f : Cell → Cell} (rest : ∀ c, (f c).core.2 = c.core.2)
    (serves : ∀ c, (f c).live.state = t.st ∧ (f c).live.ratio = t.ratio) : GoLive [t] s (s.modCell t.cell f) := by
  refine ⟨fun n => ?_, fun n other => ?_, fun g mem on _ => ?_⟩
  · have at_place (u : State) (m : Nat) : (u.cell m).core.2 =
        ((u.clu (m / 32)).cells.map (fun c => c.core.2)).getD (m % 32) ({} : Cell).core.2 :=
      (List.getD_map (u.clu (m / 32)).cells ({} : Cell) (fun c => c.core.2)).symm
    have rests (c : Nat) : ((s.modCell t.cell f).clu c).cells.map (fun c => c.core.2) = (s.clu c).cells.map (fun c => c.core.2) :=
      modClu_view (fun k => k.cells.map (fun c => c.core.2)) (fun k => map_modAt rest (t.cell % 32) k.cells) s (t.cell / 32) c
    rw [at_place, rests, at_place]
  · rw [modCell_away (fun same => other (by rw [same]; exact List.mem_singleton.2 rfl))]
  · obtain rfl := List.mem_singleton.1 mem
    have there := cell_there (s := s) (n := g.cell) (fun reset => on (by rw [reset]; rfl))
    rw [modCell_at there.1 there.2]
    exact serves _

theorem goLive_goes (e : Epoch) (t : CellTgt) (s : State) :
    GoLive [t] s (s.goLive e t) ∧ (s.goLive e t).fab.lastCommitted = s.fab.lastCommitted := by
  have lives (h : Cell → Option Nat) : GoLive [t] s
      (s.modCell t.cell (fun c => { c with live := { state := t.st, ratio := t.ratio, epoch := e.num }, handover := h c })) :=
    modCell_lives (f := fun c => { c with live := { state := t.st, ratio := t.ratio, epoch := e.num }, handover := h c })
      (fun _ => rfl) (fun _ => ⟨rfl, rfl⟩)
  have counts (u : State) : Stays u (u.modEp e.ext (fun e => { e with cells := e.cells + 1 })) := stays_of rfl rfl
  have hands (u : State) : Stays u (u.modCell t.cell (fun c => { c with handover := some e.ext })) :=
    (works_modCell (f := fun c => { c with handover := some e.ext }) (fun _ => rfl) t.cell u).toStays
  have none_ (st : (s.cell t.cell).engNow.st = .off ∨ (s.cell t.cell).engNow.st = .retired) : GoLive [t] s (s.except e.ext { cell := t.cell, kind := 3 }) := by
    refine ⟨fun _ => rfl, fun _ _ => rfl, fun g mem on good => ?_⟩
    obtain rfl := List.mem_singleton.1 mem
    exact st.elim (fun off => absurd off on) (fun ret => absurd ret good)
  unfold State.goLive
  dsimp only
  split
  · rename_i off
    exact ⟨none_ (.inl off), rfl⟩
  · rename_i ret
    exact ⟨none_ (.inr ret), rfl⟩
  · have held := (lives Cell.handover).after (counts _)
    split
    · exact ⟨held.after (works_except e.ext _ _).toStays, rfl⟩
    · exact ⟨held.after (hands _), rfl⟩
  all_goals exact ⟨(lives (fun _ => some e.ext)).after (counts _), rfl⟩

/-- Every one of several targets of different cells becomes live. -/
theorem goLives_go (e : Epoch) : ∀ {ts : List CellTgt} (_ : (ts.map CellTgt.cell).Nodup) (s : State),
    GoLive ts s (ts.foldl (fun s t => s.goLive e t) s) ∧ (ts.foldl (fun s t => s.goLive e t) s).fab.lastCommitted = s.fab.lastCommitted
  | [], _, s => ⟨⟨fun _ => rfl, fun _ _ => rfl, fun _ mem => absurd mem List.not_mem_nil⟩, rfl⟩
  | t :: ts, apart, s => by
    rw [List.map_cons, List.nodup_cons] at apart
    obtain ⟨one, kept⟩ := goLive_goes e t s
    obtain ⟨more, kept'⟩ := goLives_go e apart.2 (s.goLive e t)
    refine ⟨⟨fun n => (more.rest n).trans (one.rest n), fun n out => ?_, fun g mem on good => ?_⟩, kept'.trans kept⟩
    · rw [List.map_cons, List.mem_cons, not_or] at out
      exact (more.away n out.2).trans (one.away n (fun mem => out.1 (List.mem_singleton.1 mem)))
    · rcases List.mem_cons.1 mem with rfl | mem
      · have served := one.serves g (List.mem_singleton.2 rfl) on good
        rw [List.foldl_cons, more.away g.cell apart.1]
        exact served
      · have eng := engNow_core (one.rest g.cell)
        exact more.serves g mem (by rw [eng]; exact on) (by rw [eng]; exact good)

/-- One epoch commits: its staged targets are live, and it is the latest committed. -/
theorem commitOne_commits (p : Stamp) {e : Epoch} (apart : (e.staged.map CellTgt.cell).Nodup) (s : State) :
    GoLive e.staged s (s.commitOne p e) ∧ (s.commitOne p e).fab.lastCommitted = e.num := by
  have sub : (s.realChanges e).Sublist e.staged := List.filter_sublist
  obtain ⟨lives, -⟩ := goLives_go e (apart.sublist (sub.map CellTgt.cell)) s
  have all : GoLive e.staged s ((s.realChanges e).foldl (fun s t => s.goLive e t) s) := by
    refine ⟨lives.rest, fun n out => lives.away n (fun mem => out ((sub.map CellTgt.cell).subset mem)), fun g mem on good => ?_⟩
    by_cases real : g ∈ s.realChanges e
    · exact lives.serves g real on good
    · have stands : (s.cell g.cell).live.state = g.st ∧ (s.cell g.cell).live.ratio = g.ratio := by
        by_contra unlike
        exact real (List.mem_filter.2 ⟨mem, by simpa [-not_and, not_and_or] using unlike⟩)
      have out : g.cell ∉ (s.realChanges e).map CellTgt.cell := by
        intro mem'
        obtain ⟨g', real', same⟩ := List.mem_map.1 mem'
        exact real ((List.inj_on_of_nodup_map apart (sub.subset real') mem same) ▸ real')
      rw [lives.away g.cell out]
      exact stands
  refine ⟨all.same ?_, rfl⟩
  unfold State.commitOne
  generalize (s.realChanges e).foldl (fun s t => s.goLive e t) s = u
  dsimp only
  split <;> rfl

/-! ### The commit of a boundary -/

theorem works_supersedes (ts : List CellTgt) (s : State) : Works s (ts.foldl (fun s t => s.supersede t.cell) s) :=
  works_foldl (fun s (t : CellTgt) => s.supersede t.cell) (fun u t => works_supersede t.cell u) ts s

/-- One epoch commits at a boundary: nothing else becomes live, and no later epoch commits. -/
theorem commitAt_commits (b : Int) {e : Epoch} (apart : (e.staged.map CellTgt.cell).Nodup) (s : State) :
    GoLive e.staged s (commitAt b [e] s) ∧ (commitAt b [e] s).fab.lastCommitted = e.num := by
  rw [commitAt]
  dsimp only
  have first := ((works_supersedes ([e].flatMap s.realChanges) s).trans (works_closeDone b _)).toStays
  generalize ([e].flatMap s.realChanges).foldl (fun s t => s.supersede t.cell) s = s0 at first ⊢
  generalize s0.closeDone b = s1 at first ⊢
  have second := first.trans (works_splice b ((s1.fab.held.filter (fun e => e.st = .openE)).length + [e].length - 4) s1).toStays
  generalize splice b ((s1.fab.held.filter (fun e => e.st = .openE)).length + [e].length - 4) s1 = s2 at second ⊢
  obtain ⟨go, latest⟩ := commitOne_commits s.stamp apart s2
  have gone := go.before second
  rw [List.foldl_cons, List.foldl_nil]
  generalize s2.commitOne s.stamp e = s3 at gone latest ⊢
  have raised (q : Option (Int × Nat)) :
      Stays s3 ((({ s3 with fab := { s3.fab with lastBoundary := q } } : State).raiseEpoch 0x30 ([e].map Epoch.inst)).closeDone b) := by
    refine Stays.trans ?_ (works_closeDone b _).toStays
    exact stays_of rfl rfl
  have closed := raised (some (b, ([e].map s2.countPeriod).foldl max 0))
  split
  · have last := closed.trans (stays_followAll _)
    exact ⟨gone.after last, last.committed.trans latest⟩
  · exact ⟨gone.after closed, closed.committed.trans latest⟩

theorem epochCommit_commits {s s1 : State} {b : Int} (next : s.fab.nextCommit = some b) (there : reach 4000000000 (s.time.xOf b) s = some s1) :
    epochCommit s = commitAt b (s1.fab.held.filter (fun e => e.st = .sealedE && e.b = some b)) s1 := by
  rw [epochCommit, next]
  dsimp only
  rw [there]

/-- Settles O24: the commit's other work leaves what cells serve; the staged targets' own rule says which of them become live. -/
theorem epochLoadsSealsAndCommits : Obligations.EpochLoadsSealsAndCommits := by
  unfold Obligations.EpochLoadsSealsAndCommits
  refine ⟨?_, ?_, ?_⟩
  · intro s i e b slot placed st unloaded fw lo hi
    have loaded : (s.modEp e.ext (fun e => { e with loaded := true })).slotEp i = some { e with loaded := true } := modEp_slotEp_own slot _
    obtain ⟨q, holds, there⟩ := modSlotOf_own loaded (fun q => { q with commitAt := BitVec.ofInt 32 (s.time.xOf b) })
    exact ⟨_, _, congrArg Host.Outcome.next (loadCommitAt_loads slot placed (waits_placed st).1 unloaded fw lo hi), rfl,
      slotEp_iff.2 ⟨_, there, holds⟩, there, rfl⟩
  · intro s s1 i e b slot placed st loaded there
    have same : s1 = _ := reach_frame there
    have slot' : s1.slotEp i = some e := by rw [same]; exact slot
    obtain ⟨q, at_, st', sealed_, staged, latest, clusters, circuits⟩ :=
      sealedAt_says slot' _ (sealEpoch_seals slot placed (waits_placed st).1 loaded there)
    refine ⟨_, q, rfl, at_, st', sealed_, staged, latest, clusters.trans ?_, circuits.trans ?_⟩
    all_goals rw [same]
  · intro s s1 b e next there only apart
    have same : s1 = _ := reach_frame there
    obtain ⟨go, latest⟩ := commitAt_commits b apart s1
    have reached : Stays s s1 := by rw [same]; exact stays_of rfl rfl
    have gone := go.before reached
    have done : epochCommit s = commitAt b [e] s1 := by rw [epochCommit_commits next there, only]
    refine ⟨_, congrArg Host.Outcome.next done, latest, gone.serves, gone.away, fun n => ?_⟩
    have ints := congrArg Prod.fst (gone.rest n)
    exact ⟨congrArg Prod.fst ints, congrArg Prod.snd ints⟩

end Sys2Proof.Machine

/-! PROOFS. Epochs that expire and their reports (O26), and firmware's own epochs (O27). -/

namespace Sys2Proof.Machine

/-! ### Expiry -/

theorem endHand_handover {s : State} {n m y : Nat} (held : ((s.endHand n).cell m).handover = some y) : m ≠ n ∧ (s.cell m).handover = some y := by
  by_cases same : m = n
  · subst same
    exfalso
    have some_ : (s.endHand m).cell m ≠ {} := fun reset => by rw [reset] at held; cases held
    obtain ⟨clu, there⟩ := cell_there some_
    obtain ⟨places, lengths⟩ := modCell_places m (m / 32) (fun c => { c with handover := none, hoDelayed := false, hoTrackAt := none }) s
    rw [State.endHand] at held clu there
    rw [places] at clu
    rw [lengths] at there
    rw [modCell_at clu there] at held
    cases held
  · rw [State.endHand, modCell_away same] at held
    exact ⟨same, held⟩

theorem handsEnded_handover {x m y : Nat} : ∀ (ns : List Nat) {s : State}, ((s.handsEnded x ns).cell m).handover = some y →
    m ∉ ns ∧ (s.cell m).handover = some y
  | [], _, held => ⟨List.not_mem_nil, held⟩
  | n :: ns, s, held => by
    obtain ⟨out, before⟩ := handsEnded_handover ns (s := (s.except x { cell := n, kind := 7 }).endHand n) held
    obtain ⟨other, first⟩ := endHand_handover before
    exact ⟨fun mem => (List.mem_cons.1 mem).elim other out, first⟩

/-- The entry of a cell that is unfinished (R155). -/
def undoneExc (n : Nat) : Exc := { cell := n, kind := 7 }

theorem handsEnded_slotEp : ∀ (ns : List Nat) {s : State} {i : Nat} {e : Epoch}, s.slotEp i = some e →
    (s.handsEnded e.ext ns).slotEp i = some { e with excs := e.excs ++ ns.map undoneExc }
  | [], s, i, e, slot => by
    rw [List.map_nil, List.append_nil]
    exact slot
  | n :: ns, s, i, e, slot => by
    have first : ((s.except e.ext (undoneExc n)).endHand n).slotEp i = some { e with excs := e.excs ++ [undoneExc n] } := modEp_slotEp_own slot _
    have rest := handsEnded_slotEp ns first
    rw [List.append_assoc] at rest
    exact rest

theorem handsEnded_sys (x : Nat) (ns : List Nat) (s : State) : (s.handsEnded x ns).sys = s.sys :=
  foldl_keeps State.sys (fun s n => (s.except x (undoneExc n)).endHand n) (fun _ _ => rfl) ns s

/-- An epoch that closes: its slot holds it with the exceptions of its unfinished cells, and no cell's hand-over of it goes on. -/
theorem closedOff_says {s : State} {i : Nat} {e : Epoch} (slot : s.slotEp i = some e) (how : EpStatus) (at_ : Int) :
    (s.closedOff e.ext how at_ e).slotEp i = some (({ e with excs := e.excs ++ (s.unfinished e).map undoneExc } : Epoch).closedAs how
      (e.closedAfter at_) (s.unfinished e).length) ∧
    ∀ q : Epoch, q.ext = e.ext → q.inst = e.inst → (s.closedOff e.ext how at_ e).unfinished q = [] := by
  refine ⟨modEp_slotEp_own (handsEnded_slotEp _ slot) _, fun q ext inst => ?_⟩
  rw [State.unfinished, List.filter_eq_nil_iff]
  intro n mem
  have cells : (s.closedOff e.ext how at_ e).cellsOf q.inst = s.cellsOf e.inst := by
    rw [inst]
    show sortNat _ = sortNat _
    rw [State.image, State.image, show (s.closedOff e.ext how at_ e).sys = s.sys from handsEnded_sys _ _ _]
  rw [cells] at mem
  rw [decide_eq_true_eq, ext]
  intro held
  obtain ⟨out, before⟩ := handsEnded_handover (s.unfinished e) (s := s) held
  exact out (List.mem_filter.2 ⟨mem, decide_eq_true before⟩)

theorem expireEpoch_expires {s s1 : State} {i : Nat} {e : Epoch} {b : Int} (slot : s.slotEp i = some e) (opened : e.openAt = some b) (st : e.st = .openE)
    (left : (s.unfinished e).isEmpty = false) (there : reach 4000000000 (s.time.xOf (b + 1000000000)) s = some s1) :
    expireEpoch i s = s1.closeEp e.ext .expired (max s1.tai (b + 1000000000)) := by
  rw [expireEpoch, slot]
  dsimp only
  rw [opened]
  dsimp only
  rw [if_neg (by rw [st, left]; simp), there]

/-! ### The report -/

theorem writeReport_finishes {s : State} {i : Nat} {e : Epoch} (slot : s.slotEp i = some e) (st : e.st = .closed) (fw : s.firmware = true)
    (known : s.solving e = false) : writeReport i s = s.finishEp e.ext := by
  rw [writeReport, slot]
  exact if_pos ⟨st, fw, known⟩

theorem settle_idle {s : State} {x status detail : Nat} {res : List Byte} {e : Epoch} (found : s.fab.byExt x = some e) (paid : e.owed = false) :
    s.settle x status detail res = s := by
  rw [State.settle, found]
  dsimp only
  rw [paid]
  rfl

theorem wake_idle {s : State} (none_ : s.fab.slotWait = []) : s.wake = s := by
  rw [State.wake, none_]

/-- A slot whose epoch is dropped. -/
def dropEp (x : Nat) (q : FabSlot) : FabSlot :=
  match q.ep with
  | some e => if e.ext = x then { q with ep := none, ctrl := BitVec.ofNat 32 (q.ctrlWord % 2 ^ 29) } else q
  | none => q

theorem freeEp_idle {s : State} (x : Nat) (none_ : s.fab.slotWait = []) : s.freeEp x = { s with fab := { s.fab with
    slots := s.fab.slots.map (dropEp x), slotWait := [], queue := s.fab.queue.filter (fun q => q.ext ≠ x),
    resolves := s.fab.resolves.filter (· ≠ x) } } := by
  rw [State.freeEp]
  refine (wake_idle ?_).trans ?_
  · show s.fab.slotWait.filter _ = []
    rw [none_, List.filter_nil]
  · rw [none_, List.filter_nil]
    rfl

theorem freeEp_slotEp {s : State} {i : Nat} {e : Epoch} (none_ : s.fab.slotWait = []) (slot : s.slotEp i = some e) :
    (s.freeEp e.ext).slotEp i = none := by
  obtain ⟨q, there, holds⟩ := slotEp_iff.1 slot
  rw [freeEp_idle e.ext none_, State.slotEp]
  dsimp only
  rw [List.getElem?_map, there]
  dsimp only [Option.map]
  rw [dropEp, holds]
  dsimp only
  rw [if_pos rfl]

theorem postReport_owned {s : State} {e : Epoch} {p : Nat} (owned : s.owner e.inst = some p) :
    s.postReport e = { s with hosts := (s.notify p 1 [] e.report).hosts, rcd := (s.logTo 1 [e.inst] s.stamp e.report).rcd,
                              mem := (s.logTo 1 [e.inst] s.stamp e.report).mem } := by
  have owns : (s.logTo 1 [e.inst] s.stamp e.report).owner e.inst = some p := by
    rw [logTo_frame]
    exact owned
  rw [State.postReport, owns]
  dsimp only
  rw [logTo_frame]
  rfl

/-- Settles O26: what closing an epoch and freeing its slot leave. -/
theorem epochsExpireAndReport : Obligations.EpochsExpireAndReport := by
  unfold Obligations.EpochsExpireAndReport
  refine ⟨?_, ?_, ?_⟩
  · intro s s1 i e b slot opened st left there found
    have same : s1 = _ := reach_frame there
    have slot' : s1.slotEp i = some e := by rw [same]; exact slot
    have undone : s1.unfinished e = s.unfinished e := by rw [same]; rfl
    have works := works_closeEp e.ext .expired (max s1.tai (b + 1000000000)) s1
    obtain ⟨holds, ended⟩ := closedOff_says slot' .expired (max s1.tai (b + 1000000000))
    have closes := closeEp_closes (how := .expired) (at_ := max s1.tai (b + 1000000000)) found
    refine ⟨_, _, congrArg Host.Outcome.next (expireEpoch_expires slot opened st left there), (congrArg (·.slotEp i.val) closes).trans holds, rfl, rfl, ?_, ?_, ?_, ?_, ?_, ?_⟩
    · show 1000000 ≤ e.closedAfter _
      rw [Epoch.closedAfter, opened]
      dsimp only
      omega
    · rw [← undone]; rfl
    · rw [← undone]; rfl
    · rw [closes]; exact ended _ rfl rfl
    · rw [works.circuits, same]
    · intro n
      rw [works.live, same]; rfl
  · intro s i e p slot st fw known found paid none_ owned
    have finishes : s.finishEp e.ext = (s.postReport e).freeEp e.ext := by
      rw [State.finishEp, found]
      dsimp only
      rw [settle_idle found paid]
    obtain ⟨works, gone⟩ := finishEp_frees found
    have posted := postReport_owned (s := s) owned
    have waits : (s.postReport e).fab.slotWait = [] := by rw [posted]; exact none_
    have slot' : (s.postReport e).slotEp i = some e := by rw [posted]; exact slot
    have frees := freeEp_idle e.ext waits
    refine ⟨_, congrArg Host.Outcome.next ((writeReport_finishes slot st fw known).trans finishes), freeEp_slotEp waits slot', ?_, ?_, ?_, ?_, ?_, ?_⟩
    · rw [← finishes]; exact byExt_none.2 gone
    · rw [frees, posted]
    · rw [frees, posted]
    · rw [frees, posted]
    · rw [frees, posted]
    · rw [frees, posted]
  · intro s i e slot st fw known found
    obtain ⟨works, gone⟩ := finishEp_frees found
    exact ⟨_, congrArg Host.Outcome.next (writeReport_finishes slot st fw known), byExt_none.2 gone, works.live, works.circuits⟩

/-! ### Firmware's writes of `FAB_EP_CTRL` -/

/-- The epoch of a write of `FAB_EP_CTRL` into a FREE slot (R160, R231). -/
def State.epochOfCtrl (s : State) (v : Word) : Epoch :=
  { ext := (s.fab.ext + 1) % 2 ^ 48, host := (s.owner (bits v.toNat 27 26)).getD 0, stage := PlanStage.solved,
    st := if bits v.toNat 31 29 = 1 then .pending else .armed, event := bit v.toNat 28 && s.goOk (bits v.toNat 27 26) (bits v.toNat 22 16),
    inst := bits v.toNat 27 26, pE := periodOf (bits v.toNat 25 24), channel := bits v.toNat 22 16, num := bits v.toNat 15 0 }

theorem writeEpCtrl_off {s : State} (off : s.power.solver ≠ .on) (i : Nat) (v : Word) : writeEpCtrl i v s = s := by
  rw [writeEpCtrl]
  exact if_pos off

theorem writeEpCtrl_takes {s : State} {i : Nat} {v : Word} (on : s.power.solver = .on) (free : s.slotEp i = none)
    (st : bits v.toNat 31 29 = 1 ∨ bits v.toNat 31 29 = 2) : writeEpCtrl i v s =
      { s with fab := { s.fab with
        ext := (s.fab.ext + 1) % 2 ^ 48,
        slots := modAt (takeSlot (s.epochOfCtrl v)) i (modAt (fun q => { q with ctrl := v &&& 0x1F7FFFFF }) i s.fab.slots) } } := by
  rw [writeEpCtrl]
  dsimp only
  rw [if_neg (not_not.2 on), free]
  dsimp only
  rw [if_pos st]
  rfl

theorem writeEpCtrl_ends {s : State} {i : Nat} {v : Word} {e : Epoch} (on : s.power.solver = .on) (slot : s.slotEp i = some e)
    (st : bits v.toNat 31 29 = 0) (waits : e.waits = true) : writeEpCtrl i v s = s.endEp e.ext .aborted := by
  rw [writeEpCtrl]
  dsimp only
  rw [if_neg (not_not.2 on), slot]
  exact if_pos ⟨st, waits⟩

theorem periodOf_mod (n : Nat) : periodOf (n % 4) = [500, 1000, 2000, 4000].getD (n % 4) 0 := by
  have lt : n % 4 < 4 := Nat.mod_lt _ (by decide)
  interval_cases n % 4 <;> rfl

theorem stateBits (v : Word) : bits v.toNat 31 29 = v.toNat / 2 ^ 29 := by
  have lt := v.isLt
  rw [bits]
  omega

/-! ### Firmware's own plans -/

/-- The changes that move circuits (R139). -/
def movesOf (cs : List Circuit) : List PlanChange :=
  cs.flatMap (fun c => [{ kind := 2, port := c.inp }, { kind := 1, port := c.inp, port2 := c.out }])

/-- Firmware's plan of R139. -/
def State.moveEpoch (s : State) (inst host : Nat) : Epoch :=
  { (s.allocate inst host).1 with stage := .queued, changes := movesOf (s.moveNext inst), acceptMoves := true }

theorem allowMove_plans {s : State} {inst h i : Nat} (serves : s.serves = true) (mode : inService s.sys.mode = true) (allow : s.policy inst = 0)
    (some_ : s.moveNext inst ≠ []) (place : s.placeFree inst = true) (unarmed : s.fab.armedInst inst = false) (owned : s.owner inst = some h)
    (free : s.fab.slots.findIdx? (fun q => q.ep.isNone) = some i) (fresh : ∀ e ∈ s.fab.epochs, e.ext ≠ (s.fab.ext + 1) % 2 ^ 48) :
    allowMove inst s = (s.withEpoch inst h i (s.moveEpoch inst h)).startEp (s.moveEpoch inst h).ext := by
  rw [allowMove]
  rw [if_neg (by simp [serves, mode, allow, some_, place, unarmed]), owned]
  exact withEpoch_starts free fresh

theorem moveNext_sub {s : State} {inst : Nat} {c : Circuit} (mem : c ∈ s.moveNext inst) : c ∈ s.toMove inst := by
  rw [State.moveNext] at mem
  split at mem
  · exact (List.mem_filter.1 (List.mem_of_mem_take mem)).1
  · exact (List.mem_filter.1 mem).1

theorem mem_toMove {s : State} {inst : Nat} {c : Circuit} :
    c ∈ s.toMove inst ↔ (c ∈ s.fab.circuits ∧ c.inst = inst) ∧ ∃ p ∈ c.path, (s.cell p.cell).engNow.pendRetire = true := by
  rw [State.toMove, List.mem_filter, State.circuitsOf, List.mem_filter, decide_eq_true_eq, List.any_eq_true]

theorem mem_moveNext {s : State} {inst : Nat} {c : Circuit} (jointly : inst ∉ s.fab.retireSingly) (mem : c ∈ s.toMove inst)
    (first : (inst, c.inp) ∉ s.fab.retireRetry) : c ∈ s.moveNext inst := by
  rw [State.moveNext]
  rw [if_neg (by rw [List.contains_iff_mem]; exact jointly)]
  exact List.mem_filter.2 ⟨mem, by simpa using first⟩

/-- Settles O27: a write of the slot's register and a plan of R139 each take the slot with their epoch. -/
theorem firmwarePlans : Obligations.FirmwarePlans := by
  unfold Obligations.FirmwarePlans
  refine ⟨?_, ?_, ?_, ?_⟩
  · intro s i v off
    exact congrArg Host.Outcome.next (writeEpCtrl_off off i.val v)
  · intro s i v on there free st
    rw [← stateBits] at st
    have taken : (writeEpCtrl i.val v s).slotEp i.val = some (s.epochOfCtrl v) := by
      rw [writeEpCtrl_takes on free st, State.slotEp]
      dsimp only
      rw [getElem?_modAt_same (getElem?_modAt_same (List.getElem?_eq_getElem there))]
      rfl
    refine ⟨_, _, rfl, ?_, taken, ?_, ?_, ?_, ?_, ?_, ?_⟩
    · rw [writeEpCtrl_takes on free st]
    · rw [← stateBits]; rfl
    · show bits v.toNat 15 0 = _
      rw [bits, Nat.pow_zero, Nat.div_one]
      rfl
    · rfl
    · show (bit v.toNat 28 && _) = _
      rw [bit_toNat]; rfl
    · rfl
    · exact periodOf_mod _
  · intro s i v e on slot st zero fw found
    rw [← stateBits] at zero
    obtain ⟨waits, placed⟩ := waits_placed st
    obtain ⟨works, gone⟩ := endEp_ends (how := .aborted) found placed fw
    exact ⟨_, congrArg Host.Outcome.next (writeEpCtrl_ends on slot zero waits), byExt_none.2 gone, works.circuits⟩
  · intro s inst h i serves mode allow some_ place unarmed owned free fresh
    have plans := allowMove_plans serves mode allow some_ place unarmed owned free fresh
    have given := withEpoch_byExt (inst := inst.val) (host := h) (e := s.moveEpoch inst.val h) free fresh
    rw [startEp_queued given rfl] at plans
    refine ⟨_, s.moveEpoch inst.val h, congrArg Host.Outcome.next plans, rfl, withEpoch_slotEp (inst := inst.val) (host := h) free, rfl, rfl, rfl, ?_, ?_, rfl⟩
    · intro c mem
      obtain ⟨⟨there, its⟩, passes⟩ := mem_toMove.1 (moveNext_sub mem)
      exact ⟨there, its, passes⟩
    · intro jointly c there its first passes
      exact mem_moveNext jointly (mem_toMove.2 ⟨⟨there, its⟩, passes⟩) first

end Sys2Proof.Machine

/-! PROOFS. The mailbox's queries (O28) and EVENT_BIND (O29). -/

namespace Sys2Proof.Machine

/-! ### What a completion and a notice leave of a port -/

/-- What a port's host has received by writes, and its errors (R209, R216). -/
def HostPort.io (h : HostPort) : List Host.Cell × Word := (h.outMem, h.err)

theorem post_io (bs : List Byte) (h : HostPort) : (HostPort.post bs h).io = h.io := by
  rw [HostPort.post, msg_frame]
  rfl

theorem flush_io : ∀ (k : Nat) (h : HostPort), (HostPort.flush k h).io = h.io
  | 0, _ => rfl
  | k + 1, h => by
    rw [HostPort.flush]
    split
    · rfl
    · exact (flush_io k _).trans (post_io _ _)

theorem completeSeq_io (k code status : Nat) (tag : Word) (d : Nat) (res : List Byte) (h : HostPort) :
    (h.completeSeq k code status tag d res).io = h.io := by
  rw [HostPort.completeSeq]
  split
  · rfl
  · exact flush_io _ _

theorem startCmd_io {code flags : Nat} {tag : Word} {h q : HostPort} (starts : h.startCmd code flags tag = some q) : q.io = h.io := by
  rw [HostPort.startCmd] at starts
  split at starts
  · cases starts
  split at starts
  · cases starts
  split at starts
  · cases starts; rfl
  · cases starts

/-- A view that a change of ports keeps stands at every port. -/
theorem modHost_view {β : Type} (v : HostPort → β) {f : HostPort → HostPort} (same : ∀ h, v (f h) = v h) (p r : Nat) (s : State) :
    v ((s.modHost p f).hport r) = v (s.hport r) := by
  by_cases here : r = p
  · subst here
    by_cases there : r < s.hosts.length
    · rw [modHost_at there, same]
    · rw [State.hport, State.hport, modHost_hosts, List.getD_eq_default _ _ (by rw [length_modAt]; omega), List.getD_eq_default _ _ (by omega)]
  · rw [modHost_away here]

theorem complete_io (p code status : Nat) (tag : Word) (d : Nat) (res : List Byte) (s : State) (r : Nat) :
    ((s.complete p code status tag d res).hport r).io = (s.hport r).io :=
  modHost_view HostPort.io (fun h => completeSeq_io h.turn code status tag d res h) p r s

theorem completeSeq_port_io (p k code status : Nat) (tag : Word) (d : Nat) (res : List Byte) (s : State) (r : Nat) :
    ((s.completeSeq p k code status tag d res).hport r).io = (s.hport r).io :=
  modHost_view HostPort.io (completeSeq_io k code status tag d res) p r s

theorem complete_away {p r : Nat} (other : r ≠ p) (code status : Nat) (tag : Word) (d : Nat) (res : List Byte) (s : State) :
    (s.complete p code status tag d res).hport r = s.hport r := modHost_away other _

section
variable {h : Hdr} {code : Nat} {s s1 : State}

/-- The port of a command that begins: its other registers are as they were. -/
theorem turn_port (turn : Safe.turn h code s s1) {q : HostPort} (port : s.hosts[h.port.val]? = some q) :
    ∃ q1, s1.hosts[h.port.val]? = some q1 ∧ q1.io = q.io := by
  obtain ⟨q1, starts, rfl⟩ := Option.map_eq_some_iff.1 turn.2
  refine ⟨q1, getElem?_modAt_same port, ?_⟩
  rw [State.hport, getD_of_some port] at starts
  exact startCmd_io starts

theorem turn_away (turn : Safe.turn h code s s1) {p : Nat} (other : p ≠ h.port.val) : s1.hport p = s.hport p := by
  rw [State.hport, State.hport, List.getD_eq_getElem?_getD, (startCmd_frame turn.2).2 p other, List.getD_eq_getElem?_getD]
end

/-! ### Bytes in host memory -/

theorem readN_of_reads : ∀ {n : Nat} {m : List Host.Cell} {a : Nat} {bs : List Byte}, bs.length = n →
    (∀ (i : Nat) (lt : i < bs.length), Mem.read m (a + i) = bs[i]) → Mem.readN m n a = bs
  | 0, _, _, bs, len, _ => (List.length_eq_zero_iff.1 len).symm
  | n + 1, m, a, b :: bs, len, reads => by
    rw [Mem.readN, readN_of_reads (bs := bs) (by simpa using len) (fun i lt => ?_)]
    · rw [show Mem.read m a = b from reads 0 (Nat.succ_pos _)]
    · rw [Nat.add_assoc, Nat.add_comm 1 i]
      exact reads (i + 1) (Nat.succ_lt_succ lt)

/-- Written bytes read back. -/
theorem readN_writeN {m : List Host.Cell} (form : Mem.wf m = true) (a : Nat) (bs : List Byte) : Mem.readN (Mem.writeN m a bs) bs.length a = bs :=
  readN_of_reads rfl (fun _ lt => read_writeN_same form lt)

/-- A port whose host memory takes bytes. -/
theorem hostOut_outMem {s : State} {p : Nat} {q : HostPort} (port : s.hosts[p]? = some q) (a : Nat) (bs : List Byte) :
    ((s.hostOut p a bs).hport p).outMem = Mem.writeN q.outMem a bs := by
  rw [State.hostOut, modHost_at (lt_of_some port), State.hport, getD_of_some port]

/-- A port whose host refuses a write. -/
theorem refused_io {s : State} {p : Nat} {q : HostPort} (port : s.hosts[p]? = some q) :
    ((s.modHost p (fun q => { q with err := q.err ||| 32 })).hport p).io = (q.outMem, q.err ||| 32) := by
  rw [modHost_at (lt_of_some port), State.hport, getD_of_some port]
  rfl

theorem length_flatMap_const {α β : Type} {f : α → List β} {k : Nat} : ∀ (l : List α), (∀ a ∈ l, (f a).length = k) → (l.flatMap f).length = k * l.length
  | [], _ => rfl
  | a :: l, each => by
    rw [List.flatMap_cons, List.length_append, each a List.mem_cons_self, length_flatMap_const l (fun b mem => each b (List.mem_cons_of_mem _ mem)),
      List.length_cons]
    ring

theorem portBytes_length (s : State) (host id : Nat) : (s.portBytes host id).length = 8 := by
  rw [State.portBytes]
  dsimp only
  split
  · simp
  · simp

theorem mailBytes_length (t : Int) : (mailBytes t).length = 12 := by
  simp [mailBytes]

theorem healthHeader_length (s : State) (p written total : Nat) : (s.healthHeader p written total).length = 64 := by
  simp [State.healthHeader, mailBytes_length]

theorem hEntry_length (e : HEntry) : e.bytes.length = 8 := by
  simp [HEntry.bytes]

/-! ### HEALTH -/

theorem healthCheck_frame (p : Nat) (s : State) :
    s.healthCheck p = { s with hosts := (s.healthCheck p).hosts, rcd := { s.rcd with logDue := (s.healthCheck p).rcd.logDue } } := by
  unfold State.healthCheck
  dsimp only
  split
  · rw [owesLog_frame]; rfl
  · rfl

theorem owesLog_hport (k : Nat) (is : List Nat) (b : List Byte) (s : State) (r : Nat) : (s.owesLog k is b).hport r = s.hport r := by
  rw [owesLog_frame]; rfl

theorem healthCheck_outMem (p : Nat) (s : State) (r : Nat) : ((s.healthCheck p).hport r).outMem = (s.hport r).outMem := by
  have seen (es : List HEntry) (g : HostPort → Nat) :
      ((s.modHost p (fun h => { h with seen := es, health := g h })).hport r).outMem = (s.hport r).outMem :=
    modHost_view HostPort.outMem (f := fun h => { h with seen := es, health := g h }) (fun _ => rfl) p r s
  unfold State.healthCheck
  dsimp only
  split
  · rw [owesLog_hport]
    exact (modHost_view HostPort.outMem (notify_outMem _ _) p r _).trans (seen _ _)
  · exact seen _ _

theorem healthCheck_hosts_length (p : Nat) (s : State) : (s.healthCheck p).hosts.length = s.hosts.length := by
  unfold State.healthCheck
  dsimp only
  split
  · rw [owesLog_frame]
    simp [State.notify]
  · simp

theorem turn_inAny {h : Hdr} {code : Nat} {s s1 : State} (turn : Safe.turn h code s s1) (mode : inAny s.sys.mode = true) : inAny s1.sys.mode = true := by
  rw [turn_sys turn]; exact mode

/-- Settles O28: a query completes with what the machine holds, and host memory takes its bytes alone. -/
theorem queriesAnswer : Obligations.QueriesAnswer := by
  unfold Obligations.QueriesAnswer
  refine ⟨?_, ?_, ?_, ?_⟩
  · intro s s1 h q first count outAddr outLen memory turn mode port some_ lo hi aligned room
    obtain ⟨flags, form⟩ := turn_form turn
    obtain ⟨q1, port1, io⟩ := turn_port turn port
    have out : q1.outMem = q.outMem := congrArg Prod.fst io
    have runs (busOk : Bool) : exec (.queryPort h first count outAddr outLen busOk) s = .next (queryPort h first count outAddr busOk s1) := by
      refine congrArg Host.Outcome.next (turn_runs turn rfl (check_passes flags form rfl (by simp) (turn_inAny turn mode) (by simp) ?_))
      rw [queryPortRange, if_neg (by omega), if_neg (by omega), badOut, if_neg (by omega), if_neg (by omega)]
    refine ⟨?_, ?_⟩
    · have wf : Mem.wf q.outMem = true := memory.2 q (List.mem_of_getElem? port)
      generalize written : (List.range count).flatMap (fun k => s1.portBytes h.port.val (first + k)) = bs
      have len : bs.length = 8 * count := by
        rw [← written, length_flatMap_const _ (fun k _ => portBytes_length s1 h.port.val (first + k)), List.length_range]
      have mem : (((s1.hostOut h.port.val outAddr bs).complete h.port.val 0x0010 0 h.tag 0 (leBytes 2 count)).hport h.port.val).outMem =
          Mem.writeN q.outMem outAddr bs := by
        rw [← out, ← hostOut_outMem port1]
        exact congrArg Prod.fst (complete_io ..)
      refine ⟨_, (runs true).trans ?_, rfl, ?_, ?_, ?_⟩
      · rw [← written]; rfl
      · rw [mem, ← len]
        exact readN_writeN wf outAddr bs
      · intro a out
        rw [mem]
        exact read_writeN_other (by omega)
      · intro p other
        rw [complete_away other, State.hostOut, modHost_away other, turn_away turn other]
    · have io' := (complete_io h.port.val 0x0010 0x0014 h.tag 0 [] _ h.port.val).trans (refused_io port1)
      refine ⟨_, s1.modHost h.port.val (fun q => { q with err := q.err ||| 32 }), runs false, ?_, rfl, rfl, ?_, ?_⟩
      · rw [modHost_hosts, port1]
        exact getElem?_modAt_same port1
      · exact (congrArg Prod.snd io').trans (congrArg (· ||| 32) (congrArg Prod.snd io))
      · rw [← out]
        exact congrArg Prod.fst io'
  · intro s s1 h n turn mode known
    obtain ⟨flags, form⟩ := turn_form turn
    refine ⟨fun used own => ?_, fun unused => ?_⟩
    · refine congrArg Host.Outcome.next (turn_runs turn rfl (check_passes flags form rfl ?_ (turn_inAny turn mode) (by simp) ?_))
      · intro o mem
        rw [List.mem_singleton.1 mem, State.ownerCell, if_neg (by omega), if_neg used]
        exact own
      · exact if_neg (by omega)
    · refine congrArg Host.Outcome.next (turn_fails turn rfl (check_foreign (o := 9) flags form rfl ?_ (by omega)))
      rw [List.mem_singleton, State.ownerCell, if_neg (by omega), if_pos unused]
  · intro s s1 s2 h q outAddr outLen k es memory turn mode port aligned room check entries fits
    obtain ⟨flags, form⟩ := turn_form turn
    obtain ⟨q1, port1, io⟩ := turn_port turn port
    have runs (busOk : Bool) : exec (.health h outAddr outLen busOk) s = .next (health h outAddr outLen busOk s1) := by
      refine congrArg Host.Outcome.next (turn_runs turn rfl (check_passes flags form rfl (by simp) (turn_inAny turn mode) (by simp) ?_))
      rw [badOut, if_neg (by omega), if_neg (by omega)]
    obtain ⟨q2, port2⟩ : ∃ q2, s2.hosts[h.port.val]? = some q2 := by
      refine ⟨_, List.getElem?_eq_getElem ?_⟩
      rw [check, healthCheck_hosts_length]
      exact lt_of_some port1
    have out : q2.outMem = q.outMem := by
      refine Eq.trans ?_ (congrArg Prod.fst io)
      have both := healthCheck_outMem h.port.val s1 h.port.val
      rw [← check, State.hport, getD_of_some port2, State.hport, getD_of_some port1] at both
      exact both
    have frame : s2 = { s with hosts := s2.hosts, rcd := { s.rcd with logDue := s2.rcd.logDue } } := by
      have one := healthCheck_frame h.port.val s1
      rw [← check] at one
      rw [one, turn_frame turn]
    refine ⟨?_, ?_⟩
    · have wf : Mem.wf q.outMem = true := memory.2 q (List.mem_of_getElem? port)
      generalize written : s2.healthHeader h.port.val k es.length ++ (es.take k).flatMap HEntry.bytes = bs
      have len : bs.length = 64 + 8 * k := by
        rw [← written, List.length_append, healthHeader_length, length_flatMap_const _ (fun e _ => hEntry_length e), List.length_take]
        omega
      have mem (res : List Byte) : (((s2.hostOut h.port.val outAddr bs).complete h.port.val 0x0012 0 h.tag 0 res).hport h.port.val).outMem =
          Mem.writeN q.outMem outAddr bs := by
        rw [← out, ← hostOut_outMem port2]
        exact congrArg Prod.fst (complete_io ..)
      refine ⟨_, (runs true).trans ?_, ?_, ?_, ?_, rfl⟩
      · rw [health, if_pos rfl, ← check, ← entries]
        dsimp only
        rw [← fits, written]
        rfl
      · rw [frame]; rfl
      · rw [mem, ← len]
        exact readN_writeN wf outAddr bs
      · intro a out
        rw [mem]
        exact read_writeN_other (by omega)
    · have io' := (complete_io h.port.val 0x0012 0x0014 h.tag 0 [] _ h.port.val).trans (refused_io port2)
      refine ⟨s2.outFails h 0x0012, (runs false).trans ?_, ?_, ?_, ?_⟩
      · rw [health, ← check]
        rfl
      · rw [frame]; rfl
      · rw [show s2.hport h.port.val = q2 from getD_of_some port2 _]
        exact congrArg Prod.snd io'
      · rw [← out]
        exact congrArg Prod.fst io'
  · intro s s1 h turn mode
    obtain ⟨flags, form⟩ := turn_form turn
    exact congrArg Host.Outcome.next (turn_runs turn rfl (check_passes flags form rfl (by simp) (turn_inAny turn mode) (by simp) rfl))

/-! ### EVENT_BIND -/

theorem bindRange_none {ch vector source enable : Nat} (chan : ch < 128) (vec : vector = 0 ∨ (8 ≤ vector ∧ vector ≤ 31)) (src : source ≤ 255)
    (en : enable ≤ 1) : bindRange ch vector source enable = none := by
  rw [bindRange, if_neg (by omega), if_neg (by omega), if_neg (by omega), if_neg (by omega)]

/-- A channel that EVENT_BIND has bound. -/
theorem bindChan_binds {s : State} {ch : Nat} {c : Chan} (at_ : s.evt.chans[ch]? = some c) (vector source : Nat) (en : Bool) :
    (s.bindChan ch vector source en).evt.chans[ch]? =
      some { c with src := source, vector := vector, reCnt := 0, winEnd := 0, en := en } ∧
    (∀ d, d ≠ ch → (s.bindChan ch vector source en).evt.chans[d]? = s.evt.chans[d]?) ∧
    (en = true → (s.bindChan ch vector source en).evt.cons = s.evt.cons) ∧
    s.bindChan ch vector source en = { s with evt := (s.bindChan ch vector source en).evt } := by
  have bound := getElem?_modAt_same (f := fun c : Chan => { c with src := source, vector := vector, reCnt := 0, winEnd := 0 }) at_
  cases en with
  | true => exact ⟨getElem?_modAt_same bound, fun d other => (getElem?_modAt_other other).trans (getElem?_modAt_other other), fun _ => rfl, rfl⟩
  | false => exact ⟨getElem?_modAt_same bound, fun d other => (getElem?_modAt_other other).trans (getElem?_modAt_other other), fun no => Bool.noConfusion no, rfl⟩

/-- Settles O29: the checks in their order, then the channel's fields together. -/
theorem eventBindBinds : Obligations.EventBindBinds := by
  unfold Obligations.EventBindBinds
  intro s s1 h ch vector source enable c turn mode at_ chan vec src en
  obtain ⟨flags, form⟩ := turn_form turn
  have names : s.ownerChan ch = some c.owner := by rw [State.ownerChan, at_]
  have runs (own : c.owner = h.port.val) : exec (.eventBind h ch vector source enable) s = .next (eventBind h ch vector source enable s1) := by
    refine congrArg Host.Outcome.next (turn_runs turn rfl (check_passes flags form rfl ?_ (turn_inAny turn mode) (by simp) (bindRange_none chan vec src en)))
    intro o mem
    rw [List.mem_singleton.1 mem, names, own]
  have frame := turn_frame turn
  have at1 : s1.evt.chans[ch]? = some c := by rw [frame]; exact at_
  have its : s1.chan ch = c := getD_of_some at1 _
  have stew : s1.steward = s.steward := by rw [frame]; rfl
  have pins : s1.pinOwner = s.pinOwner := by rw [frame]; rfl
  refine ⟨fun own ok untripped => ?_, fun own bad => ?_, fun own ok on tripped => ?_, fun foreign => ?_⟩
  · obtain ⟨here, others, cons, rest⟩ := bindChan_binds at1 vector source (decide (enable = 1))
    have binds : eventBind h ch vector source enable s1 =
        (s1.bindChan ch vector source (decide (enable = 1))).complete h.port.val 0x0020 0 h.tag 0 [] := by
      rw [eventBind, its, stew, pins, if_neg (by rw [ok]; exact Bool.noConfusion), if_neg]
      · rfl
      · exact fun both => Bool.noConfusion ((untripped both.1).symm.trans both.2)
    refine ⟨_, (runs own).trans (congrArg _ binds), ?_, here, ?_, ?_, ?_⟩
    · rw [rest, frame]; rfl
    · intro d other
      refine (others d other).trans ?_
      rw [frame]
    · intro on
      refine (cons (decide_eq_true on)).trans ?_
      rw [frame]
    · rw [rest]; rfl
  · refine (runs own).trans (congrArg _ ?_)
    rw [eventBind, its, stew, pins, if_pos bad]
    rfl
  · refine (runs own).trans (congrArg _ ?_)
    rw [eventBind, its, stew, pins, if_neg (by rw [ok]; exact Bool.noConfusion), if_pos ⟨on, tripped⟩]
    rfl
  · exact congrArg Host.Outcome.next (turn_fails turn rfl (check_foreign flags form rfl (List.mem_singleton.2 names.symm) foreign))

end Sys2Proof.Machine

/-! PROOFS. The recorder's commands (O30). -/

namespace Sys2Proof.Machine

/-! ### Rings -/

/-- The ring at a place, where the recorder has one. -/
def State.ringAt (s : State) (i k : Nat) : Option Ring := (s.rcd.rings.getD i [])[k]?

theorem ring_of_at {s : State} {i k : Nat} {r : Ring} (there : s.ringAt i k = some r) : s.ring i k = r := getD_of_some there _

theorem modRing_ringAt (i k : Nat) (f : Ring → Ring) (s : State) (j l : Nat) :
    (s.modRing i k f).ringAt j l = if j = i ∧ l = k then (s.ringAt j l).map f else s.ringAt j l := by
  show ((modAt (modAt f k) i s.rcd.rings).getD j [])[l]? = _
  by_cases here : j = i
  · subst here
    by_cases there : j < s.rcd.rings.length
    · rw [getD_modAt there, getElem?_modAt]
      by_cases its : l = k
      · rw [if_pos its.symm, if_pos ⟨rfl, its⟩]; rfl
      · rw [if_neg (Ne.symm its), if_neg (fun both => its both.2)]; rfl
    · have out : s.ringAt j l = none := by rw [State.ringAt, List.getD_eq_default _ _ (by omega)]; rfl
      rw [List.getD_eq_default _ _ (by rw [length_modAt]; omega), out]
      split <;> rfl
  · rw [getD_modAt_other here, if_neg (fun both => here both.1)]; rfl

theorem ring_eq (s : State) (i k : Nat) : s.ring i k = (s.ringAt i k).getD {} := List.getD_eq_getElem?_getD ..

theorem modRing_ring_away {i k j l : Nat} (other : ¬(j = i ∧ l = k)) (f : Ring → Ring) (s : State) : (s.modRing i k f).ring j l = s.ring j l := by
  rw [ring_eq, modRing_ringAt, if_neg other, ring_eq]

theorem modRing_ring_at {i k : Nat} {s : State} {r : Ring} (there : s.ringAt i k = some r) (f : Ring → Ring) : (s.modRing i k f).ring i k = f r := by
  rw [ring_eq, modRing_ringAt, if_pos ⟨rfl, rfl⟩, there]
  rfl

/-! ### The log -/

/-- One record into one log (R347). -/
def State.logOne (bs : List Byte) (s : State) (i : Nat) : State :=
  if s.rcd.on && s.rcd.present.getD i false then (s.ringPut i 0 bs).refreshHeader i else s

theorem logTo_eq (kind : Nat) (insts : List Nat) (p : Stamp) (body : List Byte) (s : State) :
    s.logTo kind insts p body = insts.foldl (State.logOne (logBytes kind p (s.time.taiOf p.x) body)) s := (rfl)

theorem refreshHeader_rings (i : Nat) (s : State) : (s.refreshHeader i).rcd = { s.rcd with hdrSeq := (s.refreshHeader i).rcd.hdrSeq } := by
  unfold State.refreshHeader
  split <;> rfl

theorem ringPut_rings (i k : Nat) (bs : List Byte) (s : State) : (s.ringPut i k bs).rcd = { s.rcd with rings := (s.ringPut i k bs).rcd.rings } := by
  unfold State.ringPut
  split <;> rfl

theorem logOne_rcd (bs : List Byte) (s : State) (i : Nat) :
    (s.logOne bs i).rcd = { s.rcd with rings := (s.logOne bs i).rcd.rings, hdrSeq := (s.logOne bs i).rcd.hdrSeq } := by
  unfold State.logOne
  split
  · rw [refreshHeader_rings, ringPut_rings]
  · rfl

/-- Log records change rings and header counts alone. -/
theorem logTo_rcd (kind : Nat) (insts : List Nat) (p : Stamp) (body : List Byte) (s : State) :
    (s.logTo kind insts p body).rcd = { s.rcd with rings := (s.logTo kind insts p body).rcd.rings, hdrSeq := (s.logTo kind insts p body).rcd.hdrSeq } := by
  rw [logTo_eq]
  generalize logBytes kind p (s.time.taiOf p.x) body = bs
  induction insts generalizing s with
  | nil => rfl
  | cons i insts ih =>
    rw [List.foldl_cons, ih, logOne_rcd]

/-- A log record reaches the log that it names alone. -/
theorem logOne_ringAt {i j l : Nat} (other : ¬(j = i ∧ l = 0)) (bs : List Byte) (s : State) : (s.logOne bs i).ringAt j l = s.ringAt j l := by
  unfold State.logOne
  split
  · rw [State.ringAt, refreshHeader_rings, State.ringPut]
    split
    · rfl
    · exact (modRing_ringAt i 0 _ _ j l).trans (if_neg other)
  · rfl

theorem logTo_ringAt {j l : Nat} {insts : List Nat} (other : j ∉ insts ∨ l ≠ 0) (kind : Nat) (p : Stamp) (body : List Byte) (s : State) :
    (s.logTo kind insts p body).ringAt j l = s.ringAt j l := by
  rw [logTo_eq]
  generalize logBytes kind p (s.time.taiOf p.x) body = bs
  induction insts generalizing s with
  | nil => rfl
  | cons i insts ih =>
    rw [List.foldl_cons, ih (other.imp_left (fun out mem => out (List.mem_cons_of_mem _ mem)))]
    refine logOne_ringAt (fun both => ?_) bs s
    exact other.elim (fun out => out (both.1 ▸ List.mem_cons_self)) (fun no => no both.2)

theorem logBytes_length {kind : Nat} (small : kind ≠ 1) (p : Stamp) (tai : Int) (body : List Byte) : (logBytes kind p tai body).length = 64 := by
  simp [logBytes, small, mailBytes_length]

/-- A record moves its log on. -/
theorem logTo_moves {s : State} {i kind : Nat} (on : s.rcd.on = true) (here : s.rcd.present.getD i false = true) (size : (s.ring i 0).size ≠ 0)
    (small : kind ≠ 1) (p : Stamp) (body : List Byte) : ((s.logTo kind [i] p body).ring i 0).w = (s.ring i 0).w + 64 := by
  rw [logTo_eq, List.foldl_cons, List.foldl_nil, State.logOne, if_pos (by rw [on, here]; rfl), State.ring, refreshHeader_rings, State.ringPut,
    if_neg size]
  show (State.ring (State.modRing i 0 _ _) i 0).w = _
  cases there : s.ringAt i 0 with
  | none =>
    rw [ring_eq, there] at size
    exact absurd rfl size
  | some r =>
    refine (congrArg Ring.w (modRing_ring_at there _)).trans ?_
    rw [logBytes_length small, ring_of_at there]

/-! ### Marks -/

/-- The next Skim and capture blocks of a log are marked (R348). -/
def State.markRing (s : State) (i : Nat) : State :=
  (s.modRing i 1 (fun r => { r with marked := true })).modRing i 2 (fun r => { r with marked := true })

theorem logMark_one (i : Nat) (v : Word) (issuer : Nat) (s : State) :
    s.logMark [i] v issuer = (s.logTo 2 [i] s.stamp (leBytes 4 v.toNat ++ leBytes 1 issuer)).markRing i := (rfl)

theorem markRing_marks {s : State} {i k : Nat} {r : Ring} (kind : k = 1 ∨ k = 2) (there : s.ringAt i k = some r) : ((s.markRing i).ring i k).marked = true := by
  rw [State.markRing]
  rcases kind with rfl | rfl
  · rw [modRing_ring_away (by simp), modRing_ring_at there]
  · rw [modRing_ring_at (r := r) (by rw [modRing_ringAt, if_neg (by simp)]; exact there)]

theorem markRing_log (i j : Nat) (s : State) : (s.markRing i).ring j 0 = s.ring j 0 := by
  rw [State.markRing, modRing_ring_away (by simp), modRing_ring_away (by simp)]

/-! ### Freeze and release -/

theorem recQos_rcd (s : State) : s.recQos = { s with rcd := { s.rcd with qosHigh := s.recQos.rcd.qosHigh } } := by
  unfold State.recQos
  dsimp only
  split
  · rfl
  · split <;> rfl

/-- Blocks given back change rings alone. -/
theorem giveBacks_frame (bs : List Block) (s : State) :
    ∃ l, bs.foldl (fun s b => s.modRing b.inst b.ring b.giveBack) s = { s with rcd := { s.rcd with rings := l } } := by
  induction bs generalizing s with
  | nil => exact ⟨_, rfl⟩
  | cons b bs ih =>
    obtain ⟨l, rest⟩ := ih (s.modRing b.inst b.ring b.giveBack)
    exact ⟨l, rest⟩

theorem freeze_freezes {s : State} (open_ : s.rcd.frozen = false) (on : s.rcd.on = true) : s.freeze.rcd.frozen = true ∧
    s.freeze.rcd.stage = s.rcd.stage.take 1 ∧ s.freeze = { s with rcd := s.freeze.rcd, mem := s.freeze.mem } := by
  rw [State.freeze, if_neg (by rw [open_]; exact Bool.noConfusion), if_neg (by rw [on]; exact Bool.noConfusion)]
  dsimp only
  obtain ⟨l, given⟩ := giveBacks_frame (s.rcd.stage.drop 1) s
  rw [given]
  refine ⟨by rw [logTo_rcd, recQos_rcd], by rw [logTo_rcd, recQos_rcd], ?_⟩
  rw [logTo_frame, recQos_rcd]

/-- The rings after a release: a gap in each Skim and capture ring (R348). -/
def gapRings (l : List Ring) : List Ring := mapIx (fun k r => if k = 0 then r else { r with gap := true }) 0 l

theorem gapRings_at {l : List Ring} {k : Nat} {r : Ring} (there : l[k]? = some r) (kind : k ≠ 0) : (gapRings l)[k]? = some { r with gap := true } := by
  rw [gapRings, getElem?_mapIx, there, Option.map_some, Nat.zero_add, if_neg kind]

theorem release_releases {s : State} (frozen : s.rcd.frozen = true) (on : s.rcd.on = true) : s.release.rcd.frozen = false ∧
    s.release.rcd.stage = s.rcd.stage ∧ s.release = { s with rcd := s.release.rcd, mem := s.release.mem } ∧
    ∀ i k r, (k = 1 ∨ k = 2) → s.ringAt i k = some r → (s.release.ring i k).gap = true := by
  rw [State.release, if_neg (by rw [frozen]; exact Bool.noConfusion), if_neg (by rw [on]; exact Bool.noConfusion)]
  refine ⟨by rw [logTo_rcd], by rw [logTo_rcd], by rw [logTo_frame], fun i k r kind there => ?_⟩
  have gaps : (({ s with rcd := { s.rcd with frozen := false, rings := s.rcd.rings.map gapRings } } : State).ringAt i k) =
      some { r with gap := true } := by
    rw [State.ringAt] at there ⊢
    show ((s.rcd.rings.map gapRings).getD i (gapRings []))[k]? = _
    rw [List.getD_map]
    exact gapRings_at there (by omega)
  have after := (logTo_ringAt (j := i) (l := k) (insts := allInsts) (.inr (by omega)) 4
    ({ s with rcd := { s.rcd with frozen := false, rings := s.rcd.rings.map gapRings } } : State).stamp []
    ({ s with rcd := { s.rcd with frozen := false, rings := s.rcd.rings.map gapRings } } : State)).trans gaps
  exact congrArg Ring.gap (ring_of_at after)

/-! ### The steward's commands -/

/-- A command of the steward that meets R212 passes its checks. -/
theorem check_granted {c : CmdSpec} {h : Hdr} {s : State} (flags : h.flags < 8) (form : h.badByte = none) (granted : h.port.val = s.steward)
    (owners : ∀ o ∈ c.owners, o = some h.port.val) (modes : c.modes s.sys.mode = true) (free : c.noRelease = true → s.sys.release = false)
    (range : c.range = none) : c.check h s = none := by
  have passes := check_passes (c := { c with steward := false }) flags form rfl owners modes free range
  rw [check_form flags form] at passes ⊢
  rw [if_neg (fun both => both.2 granted)]
  exact (if_neg (fun both => nomatch both.1)).symm.trans passes

theorem turn_steward {h : Hdr} {code : Nat} {s s1 : State} (turn : Safe.turn h code s s1) : s1.steward = s.steward := by rw [turn_frame turn]; rfl

/-! ### Exporting -/

/-- What an EXPORT begins (R349). -/
def State.exportOf (s : State) (h : Hdr) (inst k p len outAddr : Nat) : ExportRun :=
  { port := h.port.val, tag := h.tag, seq := s.turn h.port.val, inst := inst, ring := k, src := p, len := len, outAddr := outAddr,
    bytes := (List.range len).map (fun j => s.ringByte inst k (p + j)) }

theorem recExport_begins {h : Hdr} {inst k p len outAddr : Nat} {s : State} (small : p < 2 ^ 62) (idle : s.sys.exportRun = none)
    (valid : (s.ring inst k).oldest ≤ p) (fits : p + len ≤ (s.ring inst k).w) : recExport h inst (k * 2 ^ 62 + p) len outAddr s =
      { s with sys := { s.sys with exportRun := some (s.exportOf h inst k p len outAddr) } } := by
  have ring_ : (k * 2 ^ 62 + p) / 2 ^ 62 = k := by omega
  have ptr : (k * 2 ^ 62 + p) % 2 ^ 62 = p := by omega
  rw [recExport, ring_, ptr, idle]
  rw [if_neg (by simp), if_neg (by omega), if_neg (by omega)]
  rfl

/-- Settles O30: each command's act, and the one completion that it owes. -/
theorem recorderCommands : Obligations.RecorderCommands := by
  unfold Obligations.RecorderCommands
  refine ⟨?_, ?_, ?_, ?_, ?_⟩
  · intro s s1 h inst v turn mode own known one
    obtain ⟨flags, form⟩ := turn_form turn
    have runs : exec (.recMark h inst v) s = .next (recMark h inst v s1) := by
      refine congrArg Host.Outcome.next (turn_runs turn rfl (check_passes flags form rfl ?_ (turn_inAny turn mode) (by simp) ?_))
      · intro o mem
        rw [if_neg one] at mem
        rw [List.mem_singleton.1 mem]
        exact own
      · exact (if_neg one).trans (if_pos known)
    have marks : recMark h inst v s1 = ((s1.logTo 2 [inst] s1.stamp (leBytes 4 v.toNat ++ leBytes 1 h.port.val)).markRing inst).complete h.port.val
        0x0030 0 h.tag 0 (mailBytes s1.tai ++ leBytes 4 s1.time.era ++ leBytes 4 s1.time.wns) := by
      rw [recMark]
      rw [if_neg one, logMark_one]
      rfl
    have frame := turn_frame turn
    have logged (k : Nat) (other : k ≠ 0) : (s1.logTo 2 [inst] s1.stamp (leBytes 4 v.toNat ++ leBytes 1 h.port.val)).ringAt inst k = s.ringAt inst k := by
      rw [logTo_ringAt (.inr other), frame]; rfl
    refine ⟨_, runs.trans (congrArg _ marks), ?_, ?_, ?_, ?_, ?_⟩
    · rw [logTo_frame, frame]; rfl
    · intro k r kind there
      exact markRing_marks kind ((logged k (by omega)).trans there)
    · intro on here size
      have moves := logTo_moves (s := s1) (i := inst) (kind := 2) (by rw [frame]; exact on) (by rw [frame]; exact here) (by rw [frame]; exact size)
        (by decide) s1.stamp (leBytes 4 v.toNat ++ leBytes 1 h.port.val)
      refine (congrArg Ring.w (markRing_log inst inst _)).trans (moves.trans ?_)
      rw [frame]; rfl
    · intro i other
      refine (markRing_log inst i _).trans ?_
      rw [ring_eq, logTo_ringAt (.inl (by simpa using other)), frame, ring_eq]; rfl
    · rw [logTo_frame, frame]; rfl
  · intro s s1 h turn mode granted on
    obtain ⟨flags, form⟩ := turn_form turn
    have frame := turn_frame turn
    have on1 : s1.rcd.on = true := by rw [frame]; exact on
    have runs (action : Nat) (two : action ≤ 1) : exec (.recFreeze h action) s =
        .next ((if action = 1 then s1.freeze else s1.release).complete h.port.val 0x0031 0 h.tag 0 []) := by
      refine congrArg Host.Outcome.next (turn_runs turn rfl (check_granted flags form ?_ (by simp) (turn_inAny turn mode) (by simp) ?_))
      · rw [turn_steward turn]; exact granted
      · exact if_neg (by omega)
    refine ⟨fun open_ => ?_, fun frozen => ?_⟩
    · obtain ⟨freezes, stage, rest⟩ := freeze_freezes (s := s1) (by rw [frame]; exact open_) on1
      refine ⟨_, runs 1 (by decide), ?_, freezes, ?_, ?_⟩
      · rw [if_pos rfl, rest, frame]; rfl
      · refine stage.trans ?_
        rw [frame]
      · rw [if_pos rfl, rest]; rfl
    · obtain ⟨releases, stage, rest, gaps⟩ := release_releases (s := s1) (by rw [frame]; exact frozen) on1
      refine ⟨_, runs 0 (by decide), ?_, releases, ?_, ?_, ?_⟩
      · rw [if_neg (by decide), rest, frame]; rfl
      · refine stage.trans ?_
        rw [frame]
      · rw [if_neg (by decide), rest]; rfl
      · intro i k r kind there
        exact gaps i k r kind (by rw [frame]; exact there)
  · intro s s1 h inst k p len outAddr turn mode granted own lo kind small aligned idle valid fits
    obtain ⟨flags, form⟩ := turn_form turn
    have frame := turn_frame turn
    have runs : exec (.recExport h inst (k * 2 ^ 62 + p) len outAddr) s = .next (recExport h inst (k * 2 ^ 62 + p) len outAddr s1) := by
      refine congrArg Host.Outcome.next (turn_runs turn rfl (check_granted flags form ?_ ?_ (turn_inAny turn mode) (by simp) ?_))
      · rw [turn_steward turn]; exact granted
      · intro o mem
        rw [List.mem_singleton.1 mem]
        exact own
      · rw [if_neg (by omega), if_neg (by omega), if_neg (by omega)]
    have begins := recExport_begins (h := h) (outAddr := outAddr) (s := s1) small (by rw [turn_sys turn]; exact idle) (by rw [frame]; exact valid)
      (by rw [frame]; exact fits)
    refine ⟨_, runs.trans (congrArg _ begins), rfl, ?_, _, rfl, rfl, rfl, rfl, rfl, rfl, rfl, rfl, rfl, ?_⟩
    · rw [turn_sys turn]
    · rw [frame]; rfl
  · intro s r q n memory run fw port whole le early
    have wf : Mem.wf q.outMem = true := memory.2 q (List.mem_of_getElem? port)
    have len : (r.bytes.take n).length = n := by rw [List.length_take]; omega
    have ends : exportDone n true s = ((({ s with sys := { s.sys with exportRun := none } } : State).hostOut r.port r.outAddr (r.bytes.take n))).completeSeq
        r.port r.seq 0x0032 0 r.tag 0 (leBytes 8 n) := by
      rw [exportDone, run]
      dsimp only
      rw [if_neg]
      · rfl
      · rintro (no | no | ⟨-, lt, kept⟩)
        · rw [fw] at no; cases no
        · omega
        · have past_ := early lt; omega
    have mem : (((({ s with sys := { s.sys with exportRun := none } } : State).hostOut r.port r.outAddr (r.bytes.take n)).completeSeq
        r.port r.seq 0x0032 0 r.tag 0 (leBytes 8 n)).hport r.port).outMem = Mem.writeN q.outMem r.outAddr (r.bytes.take n) := by
      rw [← hostOut_outMem (s := ({ s with sys := { s.sys with exportRun := none } } : State)) port]
      exact congrArg Prod.fst (completeSeq_port_io ..)
    refine ⟨_, congrArg Host.Outcome.next ends, rfl, rfl, ?_, ?_, rfl⟩
    · rw [mem]
      exact (congrArg (fun k => Mem.readN _ k _) len.symm).trans (readN_writeN wf _ _)
    · intro a out
      rw [mem]
      exact read_writeN_other (by omega)
  · intro s r q n run fw port le
    have ends : exportDone n false s = ((({ s with sys := { s.sys with exportRun := none } } : State).hostOut r.port r.outAddr (r.bytes.take n)).modHost r.port
        (fun q => { q with err := q.err ||| 32 })).completeSeq r.port r.seq 0x0032 0x0014 r.tag 0 [] := by
      rw [exportDone, run]
      dsimp only
      rw [if_neg]
      · rfl
      · rintro (no | no | ⟨no, -⟩)
        · rw [fw] at no; cases no
        · omega
        · cases no
    have written : (({ s with sys := { s.sys with exportRun := none } } : State).hostOut r.port r.outAddr (r.bytes.take n)).hosts[r.port]? =
        some { q with outMem := Mem.writeN q.outMem r.outAddr (r.bytes.take n) } := getElem?_modAt_same port
    refine ⟨_, (({ s with sys := { s.sys with exportRun := none } } : State).hostOut r.port r.outAddr (r.bytes.take n)).modHost r.port
      (fun q => { q with err := q.err ||| 32 }), congrArg Host.Outcome.next ends, rfl, rfl, ?_, rfl, getElem?_modAt_same written⟩
    exact congrArg Prod.snd ((completeSeq_port_io ..).trans (refused_io written))

end Sys2Proof.Machine

/-! PROOFS. What the ends of epochs leave alone, and the shared parts of the mode commands (O31, O32). -/

namespace Sys2Proof.Machine

/-! ### The work of rearrangement leaves every other unit alone -/

/-- No unit but FAB, the hosts, the recorder, the event fabric, the clusters' cells and the log's memory changes, and no cluster's power. -/
structure Quiet (s t : State) : Prop where
  frame : t = { s with fab := t.fab, hosts := t.hosts, rcd := t.rcd, mem := t.mem, evt := t.evt, clusters := t.clusters }
  power : ∀ c, (t.clu c).pow = (s.clu c).pow ∧ (t.clu c).pdown = (s.clu c).pdown

theorem Quiet.refl (s : State) : Quiet s s := ⟨rfl, fun _ => ⟨rfl, rfl⟩⟩

theorem Quiet.trans {s t u : State} (f : Quiet s t) (g : Quiet t u) : Quiet s u :=
  ⟨g.frame.trans (by rw [f.frame]), fun c => ⟨(g.power c).1.trans (f.power c).1, (g.power c).2.trans (f.power c).2⟩⟩

theorem Quiet.sys {s t : State} (f : Quiet s t) : t.sys = s.sys := by rw [f.frame]

theorem quiet_foldl {α : Type} (f : State → α → State) (one : ∀ s a, Quiet s (f s a)) (l : List α) (s : State) : Quiet s (l.foldl f s) :=
  foldl_holds (Quiet s) f (fun u a q => q.trans (one u a)) l s (.refl s)

theorem quiet_of {s t : State} (frame : t = { s with fab := t.fab, hosts := t.hosts, rcd := t.rcd, mem := t.mem, evt := t.evt })
    : Quiet s t :=
  ⟨frame.trans (by rw [frame]), fun c => by rw [frame]; exact ⟨rfl, rfl⟩⟩

theorem quiet_modEp (x : Nat) (g : Epoch → Epoch) (s : State) : Quiet s (s.modEp x g) := quiet_of rfl

theorem quiet_modCell (n : Nat) (f : Cell → Cell) (s : State) : Quiet s (s.modCell n f) :=
  ⟨rfl, fun c => ⟨modClu_view Cluster.pow (f := Cluster.modCell (n % 32) f) (fun _ => rfl) s (n / 32) c,
    modClu_view Cluster.pdown (f := Cluster.modCell (n % 32) f) (fun _ => rfl) s (n / 32) c⟩⟩

theorem quiet_settle (x status detail : Nat) (res : List Byte) (s : State) : Quiet s (s.settle x status detail res) := by
  refine quiet_of ?_
  rw [settle_frame]

theorem quiet_postReport (e : Epoch) (s : State) : Quiet s (s.postReport e) := by
  have logs : Quiet s (s.logTo 1 [e.inst] s.stamp e.report) := by
    rw [logTo_frame]
    exact quiet_of rfl
  unfold State.postReport
  dsimp only
  split
  · exact logs
  · exact logs.trans (quiet_of rfl)

theorem quiet_shadowWrite (x : Nat) (t : CellTgt) (s : State) : Quiet s (s.shadowWrite x t) := by
  unfold State.shadowWrite
  split
  · exact .refl s
  · split
    · exact quiet_modCell _ _ s
    · exact quiet_of rfl

theorem quiet_startEp (x : Nat) (s : State) : Quiet s (s.startEp x) := by
  unfold State.startEp
  split
  · exact .refl s
  · split
    · exact quiet_settle _ _ _ _ s
    · exact quiet_of rfl
    · exact (quiet_modEp x _ s).trans (quiet_foldl (fun s t => s.shadowWrite x t) (fun u t => quiet_shadowWrite x t u) _ _)

theorem quiet_letEpochIn (e : Epoch) (s : State) : Quiet s (s.letEpochIn e) := by
  have gives : Quiet s (s.giveSlot e) := by
    unfold State.giveSlot
    split <;> exact quiet_of rfl
  unfold State.letEpochIn
  dsimp only
  split
  · exact gives.trans (quiet_startEp _ _)
  · exact gives

theorem quiet_freeEp (x : Nat) (s : State) : Quiet s (s.freeEp x) := by
  have wakes (u : State) : Quiet u u.wake := by
    unfold State.wake
    split
    · exact .refl u
    · rename_i e rest _
      have first : Quiet u ({ u with fab := { u.fab with slotWait := rest } } : State) := quiet_of rfl
      split
      · exact first.trans (quiet_letEpochIn _ _)
      · exact .refl u
  exact Quiet.trans (quiet_of rfl) (wakes _)

theorem quiet_finishEp (x : Nat) (s : State) : Quiet s (s.finishEp x) := by
  unfold State.finishEp
  split
  · exact .refl s
  · exact ((quiet_settle _ _ _ _ s).trans (quiet_postReport _ _)).trans (quiet_freeEp x _)

/-- An epoch that has ended, with its report to be written (R157). -/
def State.epClosed (x : Nat) (how : EpStatus) (again : List Nat) (s : State) : State :=
  { s.modEp x (fun e => { e with st := .closed, status := how }) with
    fab := { (s.modEp x (fun e => { e with st := .closed, status := how })).fab with
      queue := s.fab.queue.filter (fun q => q.ext ≠ x), resolves := again } }

/-- An epoch ends not at all, or is closed, with its report where firmware runs. -/
theorem endEp_cases (x : Nat) (how : EpStatus) (s : State) : s.endEp x how = s ∨
    ∃ again, s.endEp x how = if s.firmware then (s.epClosed x how again).finishEp x else s.epClosed x how again := by
  unfold State.endEp
  split
  · exact .inl rfl
  · split
    · exact .inl rfl
    · exact .inr ⟨_, rfl⟩

theorem quiet_endEp (x : Nat) (how : EpStatus) (s : State) : Quiet s (s.endEp x how) := by
  obtain none_ | ⟨again, ends⟩ := endEp_cases x how s
  · rw [none_]; exact .refl s
  · have closes : Quiet s (s.epClosed x how again) := quiet_of rfl
    rw [ends]
    split
    · exact closes.trans (quiet_finishEp x _)
    · exact closes

theorem quiet_endAll (p : Epoch → Bool) (how : EpStatus) (s : State) : Quiet s (s.endAll p how) :=
  quiet_foldl (fun s x => s.endEp x how) (fun u x => quiet_endEp x how u) _ s

theorem quiet_closeEp (x : Nat) (how : EpStatus) (at_ : Int) (s : State) : Quiet s (s.closeEp x how at_) := by
  cases found : s.fab.byExt x with
  | none => rw [State.closeEp, found]; exact .refl s
  | some e =>
    have hands (ns : List Nat) : Quiet s (s.handsEnded x ns) :=
      quiet_foldl _ (fun u n => (quiet_modEp x _ u).trans (quiet_modCell n _ _)) ns s
    have closed : Quiet s (s.closedOff x how at_ e) := (hands _).trans (quiet_modEp x _ _)
    rw [closeEp_closes found]
    exact closed.trans (quiet_of rfl)

/-! ### The same work moves no circuit -/

theorem works_finishEp (x : Nat) (s : State) : Works s (s.finishEp x) := by
  cases found : s.fab.byExt x with
  | none => rw [State.finishEp, found]; exact .refl s
  | some e => exact (finishEp_frees found).1

theorem works_endEp (x : Nat) (how : EpStatus) (s : State) : Works s (s.endEp x how) := by
  obtain none_ | ⟨again, ends⟩ := endEp_cases x how s
  · rw [none_]; exact .refl s
  · have closes : Works s (s.epClosed x how again) :=
      (works_modEp (g := fun e => { e with st := .closed, status := how }) (fun _ => rfl) x s).trans (works_of rfl rfl rfl rfl rfl)
    rw [ends]
    split
    · exact closes.trans (works_finishEp x _)
    · exact closes

theorem works_endAll (p : Epoch → Bool) (how : EpStatus) (s : State) : Works s (s.endAll p how) :=
  works_foldl (fun s x => s.endEp x how) (fun u x => works_endEp x how u) _ s

/-- While firmware is absent an epoch ends in FAB alone: its report waits (R157). -/
theorem endEp_absent {s : State} (away : s.firmware = false) (x : Nat) (how : EpStatus) : s.endEp x how = { s with fab := (s.endEp x how).fab } := by
  obtain none_ | ⟨again, ends⟩ := endEp_cases x how s
  · rw [none_]
  · rw [ends, if_neg (by rw [away]; exact Bool.noConfusion)]
    rfl

theorem endAll_absent {s : State} (away : s.firmware = false) (p : Epoch → Bool) (how : EpStatus) : s.endAll p how = { s with fab := (s.endAll p how).fab } := by
  unfold State.endAll
  generalize (s.fab.epochs.filter p).map Epoch.ext = xs
  induction xs generalizing s with
  | nil => rfl
  | cons x xs ih =>
    have one := endEp_absent away x how
    rw [List.foldl_cons, ih (by rw [one]; exact away), one]

/-! ### RESTART -/

/-- A master whose port closes: the braid, its own shadows and, where a piece of its is on its way, memory and the free values. -/
theorem dropMaster_frame (m : Nat) (s : State) : s.dropMaster m =
    { s with braid := (s.dropMaster m).braid, shadows := (s.dropMaster m).shadows, mem := (s.dropMaster m).mem, freeIx := (s.dropMaster m).freeIx } := by
  have cuts : s.cutFree m = { s with braid := (s.cutFree m).braid, mem := (s.cutFree m).mem, freeIx := (s.cutFree m).freeIx } := by
    unfold State.cutFree State.cutPiece
    split
    · rfl
    · dsimp only
      split <;> rfl
  unfold State.dropMaster
  dsimp only
  rw [cuts]

/-- A master with no piece on its way leaves memory alone, and the other masters' pieces where they are. -/
theorem dropMaster_idle {m : Nat} {s : State} (idle : s.braid.granted.getD m none = none) :
    (s.dropMaster m).mem = s.mem ∧ (s.dropMaster m).braid.granted = s.braid.granted := by
  have cuts : s.cutFree m = s := by rw [State.cutFree, idle]
  unfold State.dropMaster
  rw [cuts]
  exact ⟨rfl, rfl⟩

/-- Masters that close one after the other. -/
theorem dropMasters_frame (ms : List Nat) (s : State) : ms.foldl (fun s m => s.dropMaster m) s =
    { s with braid := (ms.foldl (fun s m => s.dropMaster m) s).braid, shadows := (ms.foldl (fun s m => s.dropMaster m) s).shadows,
             mem := (ms.foldl (fun s m => s.dropMaster m) s).mem, freeIx := (ms.foldl (fun s m => s.dropMaster m) s).freeIx } := by
  induction ms generalizing s with
  | nil => rfl
  | cons m ms ih => rw [List.foldl_cons, ih, dropMaster_frame]

theorem dropMasters_idle {ms : List Nat} {s : State} (idle : ∀ m ∈ ms, s.braid.granted.getD m none = none) :
    (ms.foldl (fun s m => s.dropMaster m) s).mem = s.mem := by
  induction ms generalizing s with
  | nil => rfl
  | cons m ms ih =>
    obtain ⟨mem, granted⟩ := dropMaster_idle (idle m List.mem_cons_self)
    rw [List.foldl_cons, ih (fun n there => by rw [granted]; exact idle n (List.mem_cons_of_mem _ there)), mem]

/-- Firmware is lost (R316). -/
theorem firmwareLost_frame (s : State) : s.firmwareLost =
    { s with sys := { s.sys with paused := true, restarts := sat16 s.sys.restarts, wdtAt := s.now }, hosts := s.firmwareLost.hosts,
             braid := s.firmwareLost.braid, shadows := s.firmwareLost.shadows, mem := s.firmwareLost.mem, freeIx := s.firmwareLost.freeIx } := by
  unfold State.firmwareLost
  dsimp only
  rw [dropMasters_frame]
  rfl

theorem firmwareLost_mem {s : State} (idle : ∀ m, m < 4 → s.braid.granted.getD m none = none) : s.firmwareLost.mem = s.mem :=
  dropMasters_idle (ms := [0, 1, 2, 3]) (fun m there => idle m (by simp at there; omega))

/-- RESTART is entered (R316): what it leaves. -/
theorem restartEnter_enters (s : State) : s.restartEnter = { s.firmwareLost with
      sys := { s.firmwareLost.sys with mode := .restart, before := s.sys.mode },
      hosts := s.restartEnter.hosts, rcd := s.restartEnter.rcd, fab := s.restartEnter.fab } ∧
    s.restartEnter.fab.circuits = s.fab.circuits := by
  obtain ⟨ho, ld, sets⟩ := setMode_eq .restart s.firmwareLost
  have away : (({ (s.firmwareLost.setMode .restart) with sys := { (s.firmwareLost.setMode .restart).sys with before := s.sys.mode } } : State)).firmware =
      false := by
    rw [sets, State.firmware]
    simp
  have ends := endAll_absent away Epoch.waits .cancelled
  have works := works_endAll Epoch.waits .cancelled
    ({ (s.firmwareLost.setMode .restart) with sys := { (s.firmwareLost.setMode .restart).sys with before := s.sys.mode } } : State)
  have enters : s.restartEnter = State.endAll Epoch.waits .cancelled
      ({ (s.firmwareLost.setMode .restart) with sys := { (s.firmwareLost.setMode .restart).sys with before := s.sys.mode } } : State) := rfl
  refine ⟨?_, ?_⟩
  · rw [enters, ends, sets]
  · rw [enters, works.circuits, sets]
    show s.firmwareLost.fab.circuits = _
    rw [firmwareLost_frame]

end Sys2Proof.Machine

/-! PROOFS. MODE_SET (O31), and THERMAL_RESUME, THM_CTRL.RESUME and CAL_REQUEST (O32). -/

namespace Sys2Proof.Machine

/-! ### Clusters on their ramp down -/

theorem stopSpare_pow (r : Nat) (s : State) (c : Nat) : ((s.stopSpare r).clu c).pow = (s.clu c).pow := by
  unfold State.stopSpare
  dsimp only
  split
  · exact modClu_view Cluster.pow (f := Cluster.unserved) (fun _ => rfl) s (s.spare r).cluster c
  · rfl

theorem stopSpares_pow (s : State) (c : Nat) : (s.stopSpares.clu c).pow = (s.clu c).pow :=
  foldl_keeps (fun s => (s.clu c).pow) (fun s r => s.stopSpare r) (fun s r => stopSpare_pow r s c) (List.range 16) s

/-- A cluster on its ramp down, or off (R100, R315). -/
def Cluster.downed (k : Cluster) : Cluster := if k.pow = .on then k.beginDown else offCluster k

/-- A cluster that forgets its enables (R315). -/
def Cluster.forgetting (k : Cluster) : Cluster := { k with everOn := false, kept := [] }

theorem downed_on {k : Cluster} (on : k.pow = .on) : k.downed.pow = .on ∧ k.downed.pdown = true := by
  rw [Cluster.downed, if_pos on, Cluster.beginDown]
  split
  · rename_i already
    exact ⟨on, already.resolve_left (not_not_intro on)⟩
  · split
    · exact ⟨on, rfl⟩
    · exact ⟨on, rfl⟩

theorem downed_off {k : Cluster} (off : k.pow ≠ .on) : k.downed.pow = .off := by
  rw [Cluster.downed, if_neg off, offCluster]
  split
  · rename_i already
    exact already
  · rfl

theorem offCluster_blank : Cluster.downed {} = {} := by
  rw [Cluster.downed, if_neg DPow.noConfusion, offCluster]
  exact if_pos rfl

theorem sweepDown_clu (s : State) (c : Nat) : s.sweepDown.clu c = (s.stopSpares.clu c).downed.forgetting := by
  have maps : s.sweepDown.clusters = (s.stopSpares.clusters.map Cluster.downed).map Cluster.forgetting := by
    unfold State.sweepDown
    generalize s.stopSpares = u
    rfl
  rw [State.clu, maps, clu_map (f := Cluster.forgetting) _ rfl, clu_map (f := Cluster.downed) _ offCluster_blank, State.clu]

/-- The sweep down of every cluster. -/
theorem sweepDown_ramps (s : State) : Safe.rampsDown s s.sweepDown := by
  intro c
  have pow := stopSpares_pow s c
  rw [sweepDown_clu]
  generalize s.stopSpares.clu c = k at pow
  refine ⟨fun on => ?_, fun off => ?_⟩
  · exact downed_on (pow.trans on)
  · exact downed_off (pow.trans_ne off)

/-- A sweep down that began with other units changed. -/
theorem rampsDown_of {s u t : State} (before : ∀ c, (u.clu c).pow = (s.clu c).pow) (ramps : Safe.rampsDown u t) : Safe.rampsDown s t :=
  fun c => ⟨fun on => (ramps c).1 ((before c).trans on), fun off => (ramps c).2 ((before c).trans_ne off)⟩

theorem rampsDown_clusters {s u t : State} (ramps : Safe.rampsDown s u) (same : t.clusters = u.clusters) : Safe.rampsDown s t := by
  intro c
  have its : t.clu c = u.clu c := by rw [State.clu, same, State.clu]
  rw [its]
  exact ramps c

/-! ### SERVICE out of CALIBRATE -/

theorem usedCluster_of {s t : State} (img : t.sys.img = s.sys.img) : t.usedCluster = s.usedCluster := by
  funext c
  unfold State.usedCluster State.cellInsts State.tapInsts State.image
  rw [img]

/-- After a sweep down every cluster in use waits for its row. -/
theorem swept_waits (s : State) (c : Nat) : (!s.sweepDown.cluOn c || (s.sweepDown.clu c).pdown) = true := by
  obtain ⟨on, off⟩ := sweepDown_ramps s c
  by_cases pow : (s.clu c).pow = .on
  · rw [(on pow).2, Bool.or_true]
  · rw [State.cluOn, off pow]
    rfl

theorem leaveCalibrate_leaves (s : State) : ∃ ho ld, s.leaveCalibrate =
    { s with sys := { s.sys with sweep := none, mode := .service, rowsLeft := rowsOf s.usedCluster, rowWhy := .start },
             clusters := ({ s with sys := { s.sys with sweep := none } } : State).sweepDown.clusters,
             spares := ({ s with sys := { s.sys with sweep := none } } : State).sweepDown.spares, hosts := ho, rcd := { s.rcd with logDue := ld } } := by
  have frame := sweepDown_frame ({ s with sys := { s.sys with sweep := none } } : State)
  have waits := swept_waits ({ s with sys := { s.sys with sweep := none } } : State)
  unfold State.leaveCalibrate State.enterService
  dsimp only
  generalize ({ s with sys := { s.sys with sweep := none } } : State).sweepDown = u at frame waits ⊢
  obtain ⟨ho, ld, sets⟩ := setMode_eq .service u
  refine ⟨ho, ld, ?_⟩
  have rows : (fun c => u.usedCluster c && (!u.cluOn c || (u.clu c).pdown)) = s.usedCluster := by
    funext c
    have used := congrFun (usedCluster_of (s := s) (t := u) (by rw [frame])) c
    rw [used, waits c, Bool.and_true]
  rw [State.startRows, rows, sets, frame]

/-! ### Entry to CALIBRATE -/

theorem enterCalibrate_enters (w : Sweep) (s : State) : Safe.rampsDown s (s.enterCalibrate w) ∧
    (s.enterCalibrate w).sys.rowsLeft = rowsOf s.usedCluster ∧ (s.enterCalibrate w).sys.mode = .calibrate ∧
    (s.enterCalibrate w).sys.sweep = some { w with paused := s.thm.anyThr } ∧ (s.enterCalibrate w).fab = s.fab ∧ (s.enterCalibrate w).thm = s.thm := by
  obtain ⟨ho, ld, sets⟩ := setMode_eq .calibrate s
  have frame := sweepDown_frame (s.setMode .calibrate)
  have ramps := sweepDown_ramps (s.setMode .calibrate)
  unfold State.enterCalibrate State.startRows
  generalize (s.setMode .calibrate).sweepDown = u at frame ramps ⊢
  refine ⟨rampsDown_clusters (rampsDown_of (fun c => ?_) ramps) rfl, ?_, ?_, ?_, ?_, ?_⟩
  · rw [sets]; rfl
  · refine congrArg rowsOf (usedCluster_of ?_)
    show u.sys.img = _
    rw [frame, sets]
  · show u.sys.mode = _
    rw [frame, sets]
  · show some _ = some _
    rw [frame, sets]
  · show u.fab = _
    rw [frame, sets]
  · show u.thm = _
    rw [frame, sets]

/-- A new sweep enters CALIBRATE with two records to the NVM (R331). -/
theorem newSweep_eq (s : State) : ∃ w a b, s.newSweep = ((s.enterCalibrate w).nvmWrite a).nvmWrite b := by
  rw [State.newSweep]
  exact ⟨_, _, _, rfl⟩

theorem newSweep_enters (s : State) : Safe.rampsDown s s.newSweep ∧ s.newSweep.sys.rowsLeft = rowsOf s.usedCluster ∧
    s.newSweep.sys.mode = .calibrate ∧ s.newSweep.sys.sweep.isSome = true ∧ s.newSweep.fab = s.fab ∧ s.newSweep.thm = s.thm := by
  obtain ⟨w, a, b, new⟩ := newSweep_eq s
  obtain ⟨ramps, rows, mode, sweep, fab, thm⟩ := enterCalibrate_enters w s
  generalize s.enterCalibrate w = u at new ramps rows mode sweep fab thm
  rw [new, State.nvmWrite, State.nvmWrite]
  refine ⟨rampsDown_clusters ramps rfl, ?_, ?_, ?_, fab, thm⟩ <;> dsimp only <;> rw [sysNvmWrite_frame, sysNvmWrite_frame]
  · exact rows
  · exact mode
  · exact congrArg Option.isSome sweep

/-! ### Entry to DARK -/

theorem beginDown_keeps_pow (c : Nat) (s : State) (d : Nat) : ((s.beginDown c).clu d).pow = (s.clu d).pow := by
  have ramps (u : State) : ((u.modClu c Cluster.beginDown).clu d).pow = (u.clu d).pow := by
    refine modClu_view Cluster.pow (fun k => ?_) u c d
    unfold Cluster.beginDown
    split
    · rfl
    · split <;> rfl
  unfold State.beginDown
  dsimp only
  split
  · exact (ramps _).trans (stopSpare_pow _ s d)
  · exact ramps s

theorem beginDown_circuits (c : Nat) (s : State) : (s.beginDown c).fab.circuits = s.fab.circuits := by
  unfold State.beginDown
  dsimp only
  split
  · show (s.stopSpare (c / 16)).fab.circuits = _
    rw [stopSpare_frame]
  · rfl

/-- What a cluster's way down for DARK leaves of the mode. -/
def Sys.dark (y : Sys) : Mode × Bool × Option ModeCmd := (y.mode, y.darkEntering, y.modeCmd)

/-- Clusters switched off for DARK: their power goes at the end of their ramps, and no other cluster changes. -/
theorem darkDowns_leave (cs : List Nat) (s : State) : (cs.foldl (fun s c => s.darkDown c) s).fab.circuits = s.fab.circuits ∧
    (cs.foldl (fun s c => s.darkDown c) s).sys.dark = s.sys.dark ∧ (∀ d, ((cs.foldl (fun s c => s.darkDown c) s).clu d).pow = (s.clu d).pow) ∧
    ∀ d, d ∉ cs → (cs.foldl (fun s c => s.darkDown c) s).clu d = s.clu d := by
  induction cs generalizing s with
  | nil => exact ⟨rfl, rfl, fun _ => rfl, fun _ _ => rfl⟩
  | cons c cs ih =>
    obtain ⟨circuits, dark, pow, away⟩ := ih (s.darkDown c)
    refine ⟨circuits.trans (beginDown_circuits c s), dark.trans ?_, fun d => (pow d).trans (beginDown_keeps_pow c s d), fun d out => ?_⟩
    · show (s.beginDown c).sys.dark = _
      rw [beginDown_frame]
    · rw [List.mem_cons, not_or] at out
      exact (away d out.2).trans (beginDown_away out.1 s)

/-- DARK is shown, and nothing but what waits for it goes down (R312, R314). -/
theorem darkEnter_enters (m : ModeCmd) (s : State) : (s.darkEnter m).sys.dark = (.dark, true, some m) ∧
    (s.darkEnter m).fab.circuits = s.fab.circuits ∧ (∀ c, ((s.darkEnter m).clu c).pow = (s.clu c).pow) ∧
    ∀ c i, i < 32 → s.circuitThrough (32 * c + i) = true → ((s.darkEnter m).clu c).pdown = (s.clu c).pdown := by
  have quiet := quiet_endAll Epoch.waits .cancelled s
  have works := works_endAll Epoch.waits .cancelled s
  unfold State.darkEnter
  rw [show s.cancelPending = s.endAll Epoch.waits .cancelled from rfl]
  generalize s.endAll Epoch.waits .cancelled = u at quiet works ⊢
  have shown := showMode_frame .dark u
  generalize u.showMode .dark = v at shown ⊢
  have clu (c : Nat) : v.clu c = u.clu c := by rw [shown]; rfl
  have through (n : Nat) : v.circuitThrough n = s.circuitThrough n := by
    have circuits : v.fab.circuits = s.fab.circuits := by rw [shown]; exact works.circuits
    have img : v.sys.img = s.sys.img := by rw [shown, ← quiet.sys]
    unfold State.circuitThrough State.entry State.image
    rw [circuits, img]
  have stays (c i : Nat) (small : i < 32) (passes : s.circuitThrough (32 * c + i) = true) (l : List Nat)
      (sub : ∀ d ∈ l, v.darkMay d = true) : c ∉ l := by
    intro mem
    have may := sub c mem
    rw [State.darkMay, Bool.and_eq_true, List.all_eq_true] at may
    have none_ := may.2 i (List.mem_range.2 small)
    rw [Bool.and_eq_true, through, passes] at none_
    exact Bool.noConfusion none_.1
  have cand (d : Nat) (mem : d ∈ ((List.range 256).filter (fun c => v.cluOn c && v.darkMay c)).filter (fun c => !v.openNames c)) : v.darkMay d = true := by
    have both := (List.mem_filter.1 (List.mem_filter.1 mem).1).2
    rw [Bool.and_eq_true] at both
    exact both.2
  obtain ⟨circuits, dark, pow, away⟩ := darkDowns_leave (((List.range 256).filter (fun c => v.cluOn c && v.darkMay c)).filter (fun c => !v.openNames c))
    ({ v with sys := { v.sys with
      darkFrom := s.sys.mode, darkEntering := true, modeCmd := some m, waitOut := [],
      darkWait := ((List.range 256).filter (fun c => v.cluOn c && v.darkMay c)).filter v.openNames } } : State)
  refine ⟨dark.trans ?_, circuits.trans ?_, fun c => (pow c).trans ?_, fun c i small passes => (congrArg Cluster.pdown (away c ?_)).trans ?_⟩
  · show (v.sys.mode, true, some m) = _
    rw [shown]
  · show v.fab.circuits = _
    rw [shown]; exact works.circuits
  · show (v.clu c).pow = _
    rw [clu]; exact (quiet.power c).1
  · exact stays c i small passes _ cand
  · show (v.clu c).pdown = _
    rw [clu]; exact (quiet.power c).2

/-! ### The way out of DARK -/

/-- The clusters that leaving DARK powers (R24, R314). -/
def State.darkRows (s : State) (off : List Nat) : List Nat := off ++ (List.range 256).filter (fun q => !off.contains q && s.tapsDue off q)

theorem darkExit_exits (m : ModeCmd) (s : State) : s.darkExit m =
    { s with sys := { s.sys with darkExiting := true, modeCmd := some m, waitOut := s.darkRows s.sys.waitOut,
                                 rowsLeft := rowsOf (fun c => (s.darkRows s.sys.waitOut).contains c), rowWhy := .darkExit } } := (rfl)

theorem mem_darkRows {s : State} {off : List Nat} {c : Nat} (small : c < 256) :
    (s.darkRows off).contains c = true ↔ off.contains c = true ∨ s.tapsDue off c = true := by
  simp only [State.darkRows, List.contains_iff_mem, List.mem_append, List.mem_filter, List.mem_range, small, true_and, Bool.and_eq_true,
    Bool.not_eq_true']
  by_cases off_ : c ∈ off
  · simp [off_]
  · simp [off_]

/-! ### MODE_SET -/

/-- The command as MODE_SET keeps it until it completes (R312). -/
def State.modeCmdOf (s : State) (h : Hdr) : ModeCmd := { port := h.port.val, tag := h.tag, code := 0x0040, seq := s.turn h.port.val }

theorem awake_match {α : Type} (m : Mode) (a b : α) : m = .service ∨ m = .derated ∨ m = .dark →
    (match m with | .service | .derated | .dark => a | .churn | .load | .calibrate | .safe | .restart => b) = a := by
  rintro (rfl | rfl | rfl) <;> rfl

section
variable {h : Hdr} {s : State}

theorem modeSet_holds (m : Nat) (its : m = s.sys.mode.code) : modeSet h m s = s.complete h.port.val 0x0040 0 h.tag 0 (leBytes 1 m) := by
  rw [modeSet]
  exact if_pos its

theorem modeSet_restart (mode : s.sys.mode = .service ∨ s.sys.mode = .derated ∨ s.sys.mode = .dark) :
    modeSet h 7 s = ({ s with sys := { s.sys with restartCmd := some (s.modeCmdOf h) } } : State).restartEnter := by
  have other : ¬7 = s.sys.mode.code := by
    rcases mode with mode | mode | mode <;> rw [mode] <;> decide
  rw [modeSet]
  dsimp only
  rw [if_neg other, if_neg (by decide), if_neg (by decide)]
  exact awake_match _ _ _ mode

theorem modeSet_dark (mode : s.sys.mode = .service ∨ s.sys.mode = .derated) : modeSet h 4 s = s.darkEnter (s.modeCmdOf h) := by
  have other : ¬4 = s.sys.mode.code := by
    rcases mode with mode | mode <;> rw [mode] <;> decide
  rw [modeSet]
  dsimp only
  rw [if_neg other, if_neg (by decide), if_pos rfl]
  rcases mode with mode | mode
  · rw [mode]; rfl
  · rw [mode]; rfl

theorem modeSet_exit (mode : s.sys.mode = .dark) (entered : s.sys.darkEntering = false) (stays : s.sys.darkExiting = false) :
    modeSet h 3 s = s.darkExit (s.modeCmdOf h) := by
  rw [modeSet, mode]
  dsimp only
  rw [if_neg (by decide), if_pos rfl, entered, stays]
  rfl

theorem modeSet_waits (mode : s.sys.mode = .dark) (moves : s.sys.darkEntering = true ∨ s.sys.darkExiting = true) :
    modeSet h 3 s = { s with sys := { s.sys with darkNext := s.sys.darkNext ++ [s.modeCmdOf h] } } := by
  rw [modeSet, mode]
  dsimp only
  rw [if_neg (by decide), if_pos rfl, if_pos (by rw [Bool.or_eq_true]; exact moves)]
  rfl

theorem modeSet_leaves (mode : s.sys.mode = .calibrate) (atlas : s.sys.atlas.isSome = true) :
    ∃ y, modeSet h 3 s = ({ s with sys := y } : State).leaveCalibrate.complete h.port.val 0x0040 0 h.tag 0 (leBytes 1 3) ∧
      y.atlas = s.sys.atlas ∧ y.img = s.sys.img := by
  have used : ¬s.sys.atlas.isNone = true := by
    rw [← Option.not_isSome, atlas]; exact Bool.noConfusion
  rw [modeSet, mode]
  dsimp only
  rw [if_neg (by decide), if_pos rfl, if_neg used]
  cases s.sys.sweep with
  | none => exact ⟨s.sys, rfl, rfl, rfl⟩
  | some w =>
    refine ⟨_, rfl, ?_, ?_⟩
    all_goals rw [sysNvmWrite_frame]

theorem modeSet_bad {m : Nat} (bad : (m = 3 ∧ s.sys.mode = .calibrate ∧ s.sys.atlas = none) ∨ (m = 3 ∧ s.sys.mode = .derated) ∨
    ((m = 4 ∨ m = 7) ∧ s.sys.mode = .calibrate) ∨ ((m = 3 ∨ m = 4 ∨ m = 7) ∧ s.sys.mode = .safe)) :
    modeSet h m s = s.complete h.port.val 0x0040 0x0004 h.tag 0 [] := by
  rw [modeSet]
  rcases bad with ⟨rfl, mode, none_⟩ | ⟨rfl, mode⟩ | ⟨rfl | rfl, mode⟩ | ⟨rfl | rfl | rfl, mode⟩
  · rw [mode, none_]; rfl
  all_goals rw [mode]; rfl
end

/-- Settles O31: the mode in force and the mode named decide the transition, each written out by its lemma. -/
theorem modeSetMoves : Obligations.ModeSetMoves := by
  unfold Obligations.ModeSetMoves
  refine ⟨?_, fun s h m absent => congrArg Host.Outcome.next (run_unserved absent)⟩
  intro s s1 h turn any granted
  obtain ⟨flags, form⟩ := turn_form turn
  have frame := turn_frame turn
  have sys := turn_sys turn
  have fab := turn_fab turn
  have runs (m : Nat) (known : m = 3 ∨ m = 4 ∨ m = 7) : exec (.modeSet h m) s = .next (modeSet h m s1) := by
    refine congrArg Host.Outcome.next (turn_runs turn rfl (check_granted flags form ?_ (by simp) (turn_inAny turn any) (by simp) (if_pos known)))
    rw [turn_steward turn]; exact granted
  have bad (m : Nat) (known : m = 3 ∨ m = 4 ∨ m = 7) (no : (m = 3 ∧ s.sys.mode = .calibrate ∧ s.sys.atlas = none) ∨ (m = 3 ∧ s.sys.mode = .derated) ∨
      ((m = 4 ∨ m = 7) ∧ s.sys.mode = .calibrate) ∨ ((m = 3 ∨ m = 4 ∨ m = 7) ∧ s.sys.mode = .safe)) :
      exec (.modeSet h m) s = .next (s1.complete h.port.val 0x0040 0x0004 h.tag 0 []) :=
    (runs m known).trans (congrArg _ (modeSet_bad (by rw [sys]; exact no)))
  refine ⟨?_, ?_, ?_, ?_, ?_, ?_, ?_, ?_, ?_, ?_⟩
  · intro m known holds
    exact (runs m known).trans (congrArg _ (modeSet_holds m (by rw [sys]; exact holds)))
  · intro mode
    obtain ⟨enters, circuits⟩ := restartEnter_enters ({ s1 with sys := { s1.sys with restartCmd := some (s1.modeCmdOf h) } } : State)
    have lost := firmwareLost_frame ({ s1 with sys := { s1.sys with restartCmd := some (s1.modeCmdOf h) } } : State)
    refine ⟨_, (runs 7 (by decide)).trans (congrArg _ (modeSet_restart (by rw [sys]; exact mode))), ?_, ?_, ?_, ?_, ?_, ?_, ?_⟩
    · rw [enters]
    · rw [enters, lost]
    · rw [enters, ← sys]
    · rw [enters, lost]; rfl
    · rw [enters, lost, frame]
    · rw [circuits, ← fab]
    · intro idle
      rw [enters]
      refine (firmwareLost_mem (fun m small => ?_)).trans ?_
      · show s1.braid.granted.getD m none = none
        rw [frame]
        exact idle m small
      · rw [frame]
  · intro mode entered stays
    obtain ⟨dark, circuits, pow, pdown⟩ := darkEnter_enters (s1.modeCmdOf h) s1
    have clu (c : Nat) : s1.clu c = s.clu c := by rw [frame]; rfl
    refine ⟨_, (runs 4 (by decide)).trans (congrArg _ (modeSet_dark (by rw [sys]; exact mode))), congrArg Prod.fst dark,
      congrArg (fun d => d.2.1) dark, congrArg (fun d => d.2.2) dark, ?_, ?_, ?_⟩
    · rw [circuits, fab]
    · intro c
      rw [pow, clu]
    · intro c i small passes
      rw [pdown c i small (by rw [frame]; exact passes), clu]
  · intro mode entered stays
    have exits := modeSet_exit (h := h) (s := s1) (by rw [sys]; exact mode) (by rw [sys]; exact entered) (by rw [sys]; exact stays)
    rw [darkExit_exits] at exits
    refine ⟨_, (runs 3 (by decide)).trans (congrArg _ exits), rfl, ?_, rfl, rfl, fun c small => ?_, rfl⟩
    · rw [sys]; exact mode
    · refine (mem_darkRows small).trans ?_
      rw [frame]; rfl
  · intro mode moves
    refine (runs 3 (by decide)).trans (congrArg _ ((modeSet_waits (by rw [sys]; exact mode) (by rw [sys]; exact moves)).trans ?_))
    rw [sys]; rfl
  · intro mode atlas
    obtain ⟨y, leaves, same, img⟩ := modeSet_leaves (h := h) (s := s1) (by rw [sys]; exact mode) (by rw [sys]; exact atlas)
    obtain ⟨ho, ld, left⟩ := leaveCalibrate_leaves ({ s1 with sys := y } : State)
    have ramps := sweepDown_ramps ({ ({ s1 with sys := y } : State) with sys := { ({ s1 with sys := y } : State).sys with sweep := none } } : State)
    rw [left] at leaves
    refine ⟨_, (runs 3 (by decide)).trans (congrArg _ leaves), rfl, rfl, ?_, ?_, ?_⟩
    · exact same.trans (by rw [sys])
    · have same (c : Nat) : (s1.clu c).pow = (s.clu c).pow := by rw [frame]; rfl
      generalize State.sweepDown _ = u at ramps ⊢
      exact rampsDown_clusters (rampsDown_of same ramps) rfl
    · refine congrArg rowsOf (usedCluster_of ?_)
      rw [← sys]; exact img
  · intro mode none_
    exact bad 3 (by decide) (.inl ⟨rfl, mode, none_⟩)
  · intro m no
    refine bad m (by omega) ?_
    rcases no with ⟨three, mode⟩ | ⟨other, mode⟩
    · exact .inr (.inl ⟨three, mode⟩)
    · exact .inr (.inr (.inl ⟨other, mode⟩))
  · intro m not3 not4 not7
    refine congrArg Host.Outcome.next (turn_fails turn rfl ?_)
    rw [check_form flags form, if_neg (fun both => both.2 (by rw [turn_steward turn]; exact granted)), if_neg (by simp),
      if_neg (fun no => Bool.noConfusion (no.symm.trans (turn_inAny turn any))), if_neg (by simp)]
    dsimp only
    rw [if_neg (by omega)]
    rfl
  · intro mode m known
    exact bad m known (.inr (.inr (.inr ⟨known, mode⟩)))

end Sys2Proof.Machine

/-! PROOFS. THERMAL_RESUME, THM_CTRL.RESUME and CAL_REQUEST (O32). -/

namespace Sys2Proof.Machine

/-! ### SAFE is left -/

theorem mayResume_iff {s : State} : s.mayResume = true ↔ (∀ d ∈ s.thm.dies, d.broken = false ∧ s.thm.persist ≤ d.thr.below) ∧
    ∀ p ∈ s.thm.privs.take 16, s.thm.persist ≤ p.thr.below := by
  simp only [State.mayResume, Bool.and_eq_true, List.all_eq_true, Bool.not_eq_true', decide_eq_true_eq]

/-- The machine as SAFE is left, before the mode that follows is chosen (R300). -/
def State.unlatched (s : State) : State := ({ s with thm := { s.thm with safeLatch := false } } : State).driveOff

theorem resume_safe {s : State} (safe : s.sys.mode = .safe) : s.resume = s.unlatched.enterAfterLoad .resume := by
  rw [State.resume]
  exact if_pos safe

theorem resume_unlatches (s : State) : s.resume.thm.safeLatch = false := by
  by_cases safe : s.sys.mode = .safe
  · rw [resume_safe safe]
    exact congrArg Held.latch (enterAfterLoad_held .resume s.unlatched)
  · rw [State.resume]
    dsimp only
    rw [if_neg safe]

theorem resume_service {s : State} (safe : s.sys.mode = .safe) (closed : s.openSweep = none) (atlas : s.sys.atlas.isSome = true) :
    s.resume.sys.mode = .service := by
  have used : ¬s.unlatched.sys.atlas.isNone = true := by
    rw [← Option.not_isSome]
    show ¬(!s.sys.atlas.isSome) = true
    rw [atlas]; exact Bool.noConfusion
  rw [resume_safe safe, State.enterAfterLoad, show s.unlatched.openSweep = none from closed]
  dsimp only
  rw [if_neg used]
  exact congrArg Prod.fst (enterService_sys .resume s.unlatched)

theorem resume_calibrate {s : State} (safe : s.sys.mode = .safe) (closed : s.openSweep = none) (none_ : s.sys.atlas = none) :
    s.resume.sys.mode = .calibrate := by
  have unused : s.unlatched.sys.atlas.isNone = true := by
    show s.sys.atlas.isNone = true
    rw [none_]; rfl
  rw [resume_safe safe, State.enterAfterLoad, show s.unlatched.openSweep = none from closed]
  dsimp only
  rw [if_pos unused]
  exact (newSweep_enters s.unlatched).2.2.1

/-! ### CAL_REQUEST -/

/-- Mode commands that end leave the hosts their completions and nothing else (R312). -/
theorem dropModeCmd_frame (s : State) : s.dropModeCmd =
    { s with sys := { s.sys with modeCmd := s.dropModeCmd.sys.modeCmd, darkNext := s.dropModeCmd.sys.darkNext }, hosts := s.dropModeCmd.hosts } := by
  have posts (ms : List ModeCmd) (u : State) : ∃ ho, ms.foldl (fun (s : State) (m : ModeCmd) => s.completeSeq m.port m.seq m.code stBadMode m.tag 0 []) u =
      { u with hosts := ho } := by
    induction ms generalizing u with
    | nil => exact ⟨_, rfl⟩
    | cons m ms ih =>
      obtain ⟨ho, rest⟩ := ih (u.completeSeq m.port m.seq m.code stBadMode m.tag 0 [])
      exact ⟨ho, rest⟩
  unfold State.dropModeCmd
  split
  · rfl
  · obtain ⟨ho, posted⟩ := posts (s.sys.modeCmd.toList ++ s.sys.darkNext) { s with sys := { s.sys with modeCmd := none, darkNext := [] } }
    rw [posted]

/-- Every epoch of the device has ended, and no circuit is left (R157, R298, R315). -/
theorem safeEpochs_ends (s : State) : Quiet s s.safeEpochs ∧ s.safeEpochs.fab.circuits = [] := by
  unfold State.safeEpochs
  dsimp only
  have first := quiet_endAll Epoch.placed .cancelled s
  generalize s.endAll Epoch.placed .cancelled = u at first ⊢
  have second := quiet_foldl (fun (s : State) (e : Epoch) => s.closeEp e.ext .cancelled s.tai) (fun v e => quiet_closeEp e.ext .cancelled v.tai v)
    (u.fab.held.filter (fun e => decide (e.st = .openE))) u
  generalize (u.fab.held.filter (fun e => decide (e.st = .openE))).foldl (fun (s : State) (e : Epoch) => s.closeEp e.ext .cancelled s.tai) u = v at second ⊢
  exact ⟨(first.trans second).trans (quiet_of rfl), rfl⟩

theorem calRequest_refused {h : Hdr} {s : State} (live : s.fab.circuits ≠ []) : calRequest h s = s.complete h.port.val 0x0042 0x0015 h.tag 0 [] := by
  rw [calRequest, if_pos (by simp [live])]
  rfl

theorem calRequest_enters {h : Hdr} {s : State} (none_ : s.fab.circuits = []) : (calRequest h s).sys.mode = .calibrate ∧
    (calRequest h s).sys.sweep.isSome = true ∧ (calRequest h s).sys.calAsked = true ∧ (calRequest h s).fab.circuits = [] ∧
    Safe.rampsDown s (calRequest h s) ∧ (calRequest h s).sys.rowsLeft = rowsOf s.usedCluster := by
  have dropped := dropModeCmd_frame s
  rw [calRequest, if_neg (by simp [none_])]
  dsimp only
  generalize s.dropModeCmd = u at dropped ⊢
  obtain ⟨quiet, ended⟩ := safeEpochs_ends ({ u with sys := { u.sys with darkEntering := false, darkExiting := false } } : State)
  generalize ({ u with sys := { u.sys with darkEntering := false, darkExiting := false } } : State).safeEpochs = v at quiet ended ⊢
  obtain ⟨ramps, rows, mode, sweep, fab, -⟩ := newSweep_enters v
  generalize v.newSweep = w at ramps rows mode sweep fab ⊢
  refine ⟨mode, sweep, rfl, (congrArg Fab.circuits fab).trans ended, rampsDown_clusters (rampsDown_of (fun c => ?_) ramps) rfl,
    rows.trans (congrArg rowsOf (usedCluster_of ?_))⟩
  · refine (quiet.power c).1.trans ?_
    rw [dropped]; rfl
  · rw [quiet.sys, dropped]

/-- Settles O32: the exit rule, and what leaving SAFE and entering CALIBRATE make of the machine. -/
theorem resumeAndCalibrate : Obligations.ResumeAndCalibrate := by
  unfold Obligations.ResumeAndCalibrate
  refine ⟨fun s => mayResume_iff, ?_, ?_, ?_⟩
  · intro s s1 h turn granted safe
    obtain ⟨flags, form⟩ := turn_form turn
    have frame := turn_frame turn
    have sys := turn_sys turn
    have safe1 : s1.sys.mode = .safe := by rw [sys]; exact safe
    have may : s1.mayResume = s.mayResume := by rw [frame]; rfl
    have sweeps : s1.openSweep = s.openSweep := by rw [frame]; rfl
    have runs : exec (.thermalResume h) s = .next (thermalResume h s1) := by
      refine congrArg Host.Outcome.next (turn_runs turn rfl (check_granted flags form ?_ (by simp) ?_ (by simp) rfl))
      · rw [turn_steward turn]; exact granted
      · exact decide_eq_true safe1
    refine ⟨fun no => ?_, fun yes => ⟨_, runs.trans (congrArg _ (if_pos (may.trans yes))), rfl, resume_unlatches s1, ?_, ?_⟩⟩
    · exact runs.trans (congrArg _ (if_neg (fun yes => Bool.noConfusion ((may.trans no).symm.trans yes))))
    · intro closed atlas
      exact resume_service safe1 (sweeps.trans closed) (by rw [sys]; exact atlas)
    · intro closed none_
      exact resume_calibrate safe1 (sweeps.trans closed) (by rw [sys]; exact none_)
  · intro s v asks latch fw
    have asked : bit v.toNat 0 = true := (bit_toNat v 0).trans asks
    refine ⟨fun no => ?_, fun yes => ⟨_, congrArg Host.Outcome.next (if_pos ⟨asked, latch, yes, fw⟩), resume_unlatches s, ?_, ?_⟩⟩
    · exact congrArg Host.Outcome.next (if_neg (fun all => Bool.noConfusion (no.symm.trans all.2.2.1)))
    · exact fun safe closed atlas => resume_service safe closed atlas
    · exact fun safe closed none_ => resume_calibrate safe closed none_
  · intro s s1 h turn granted mode
    obtain ⟨flags, form⟩ := turn_form turn
    have frame := turn_frame turn
    have runs : exec (.calRequest h) s = .next (calRequest h s1) := by
      refine congrArg Host.Outcome.next (turn_runs turn rfl (check_granted flags form ?_ (by simp) ?_ (by simp) rfl))
      · rw [turn_steward turn]; exact granted
      · rw [turn_sys turn]
        simpa using mode
    refine ⟨fun live => runs.trans (congrArg _ (calRequest_refused (by rw [frame]; exact live))), fun none_ => ?_⟩
    obtain ⟨cal, sweep, asked, circuits, ramps, rows⟩ := calRequest_enters (h := h) (s := s1) (by rw [frame]; exact none_)
    refine ⟨_, runs, cal, sweep, asked, circuits, rampsDown_of (fun c => ?_) ramps, rows.trans (congrArg rowsOf (usedCluster_of ?_))⟩
    · rw [frame]; rfl
    · rw [frame]

end Sys2Proof.Machine

/-! PROOFS. The cleat, a failover's beginning and its completion (O33's failover command, O47, O48). -/

namespace Sys2Proof.Machine

/-! ### The cleat (R195) -/

theorem cleat_txen (n : Net) (p : Bool) : n.cleat.txen p = n.txen p := by
  cases p <;> rfl

theorem cleat_port (n : Net) (p : Bool) : n.cleat.port p = n.port p := by
  cases p <;> rfl

/-- A pin whose TXEN bit is clear is high. -/
theorem cleat_mutes {n : Net} {p : Bool} (clear : n.txen p = false) : n.cleat.txdis p = true := by
  cases p
  · have off : n.aTxen = false := clear
    show (!(n.aTxen && _ && _ && _)) = true
    rw [off]; rfl
  · have off : n.bTxen = false := clear
    show (!(n.bTxen && _ && _ && _ && _)) = true
    rw [off]; rfl

theorem cleat_aLow {n : Net} : n.cleat.aTxdis = false ↔ ((n.aTxen = true ∧ n.a.pow = .on) ∧ n.bTxdis = true) ∧ n.bHigh50 = true := by
  show (!(n.aTxen && decide (n.a.pow = .on) && n.bTxdis && n.bHigh50)) = false ↔ _
  simp only [Bool.not_eq_false', Bool.and_eq_true, decide_eq_true_eq]

theorem cleat_bLow {n : Net} : n.cleat.bTxdis = false ↔ (((n.bTxen = true ∧ n.b.pow = .on) ∧ n.aTxdis = true) ∧ n.aHigh50 = true) ∧
    n.cleat.aTxdis = true := by
  show (!(n.bTxen && decide (n.b.pow = .on) && n.aTxdis && n.aHigh50 && !(n.aTxen && decide (n.a.pow = .on) && n.bTxdis && n.bHigh50))) = false ↔
    _ ∧ (!(n.aTxen && decide (n.a.pow = .on) && n.bTxdis && n.bHigh50)) = true
  simp only [Bool.not_eq_false', Bool.and_eq_true, decide_eq_true_eq]

/-- Never are both pins low (R195). -/
theorem cleat_one (n : Net) : n.cleat.aTxdis = true ∨ n.cleat.bTxdis = true := by
  rw [or_iff_not_imp_right, Bool.not_eq_true]
  exact fun low => (cleat_bLow.1 low).2

/-! ### Frames of the active path -/

/-- What sending frames changes of the network's registers (R193, R199, R201). -/
def Net.unsent (n : Net) : Net :=
  { n with helloDue := false, arpSent := 0, grantReqs := 0, a := { n.a with sendEnd := 0 }, b := { n.b with sendEnd := 0 } }

theorem sendFrame_net (s : State) : s.sendFrame.net.unsent = s.net.unsent := by
  unfold State.sendFrame State.modNet Net.modPort
  dsimp only
  split <;> rfl

/-- A greeting sends a frame at most. -/
theorem hello_net (s : State) : s.hello.net.unsent = s.net.unsent := by
  unfold State.hello
  split
  · rfl
  · dsimp only
    split
    · exact sendFrame_net _
    · rfl

theorem hello_idle {s : State} (said : s.net.helloDue = false) : s.hello = s := by
  rw [State.hello]
  exact if_pos (.inl said)

/-! ### What firmware does at a failover -/

theorem finZero_frame (s : State) : s.finZero = { s with net := { s.net with gatesOk := 0 }, time := s.finZero.time } ∧
    s.finZero.time.srv = s.time.srv := by
  unfold State.finZero
  dsimp only
  split <;> exact ⟨rfl, rfl⟩

theorem enterHoldover_locked {s : State} (fw : s.firmware = true) (locked : s.time.srv = .locked) : s.enterHoldover.time.srv = .holdover := by
  rw [State.enterHoldover, if_pos ⟨fw, .inr locked⟩, setSrv_srv]

/-- FIN at zero and HOLDOVER: the time base, what is told to hosts and log, and the count of gates. -/
theorem loseTime_frame (s : State) : s.finZero.enterHoldover = { s with
    net := { s.net with gatesOk := 0 }, time := s.finZero.enterHoldover.time, hosts := s.finZero.enterHoldover.hosts,
    rcd := { s.rcd with logDue := s.finZero.enterHoldover.rcd.logDue } } := by
  have zero := (finZero_frame s).1
  rw [enterHoldover_frame]
  generalize s.finZero = u at zero ⊢
  rw [zero]

theorem loseTime_locked {s : State} (fw : s.firmware = true) (locked : s.time.srv = .locked) : s.finZero.enterHoldover.time.srv = .holdover := by
  obtain ⟨frame, srv⟩ := finZero_frame s
  refine enterHoldover_locked ?_ (srv.trans locked)
  rw [frame]; exact fw

/-- The registers that the restored snapshot, the exchanges and the power-up of the new path do not touch. -/
def Net.path (n : Net) : Bool × Bool × Nat × Bool × Bool × Nat × Nat × Bool × Bool × Bool × Bool :=
  (n.active, n.failing, n.cause, n.aTxen, n.bTxen, n.foAt, n.failovers, n.storm, n.standing, n.standbyFitted, n.holddown)

theorem restore_path (n : Net) : n.restore.path = n.path := by
  unfold Net.restore
  split <;> rfl

/-- The network's registers after firmware's steps of a failover (R199, R200). -/
def Net.taken (up : Bool) (before : SrvState) (n : Net) : Net :=
  let m := Net.restore { n with gatesOk := 0, syncs := [], delays := [], qualified := 0, srvBefore := before, fwDue := false }
  Net.cleat (if up then Net.powerUp m.active m else m)

theorem powerUp_path (p : Bool) (n : Net) : (n.powerUp p).path = n.path := by
  unfold Net.powerUp Net.modPort
  split <;> rfl

theorem taken_path (up : Bool) (before : SrvState) (n : Net) : (n.taken up before).path = n.path := by
  unfold Net.taken
  dsimp only
  refine Eq.trans (b := Net.path (if up then _ else _)) rfl ?_
  split
  · exact (powerUp_path _ _).trans (restore_path _)
  · exact restore_path _

theorem failoverFirmware_absent {s : State} (away : s.firmware = false) : s.failoverFirmware = { s with net := { s.net with fwDue := true } } := by
  rw [State.failoverFirmware]
  exact if_pos away

theorem failoverFirmware_present {s : State} (fw : s.firmware = true) : ∃ up, s.failoverFirmware = { s with
    net := s.net.taken up s.time.srv, time := s.finZero.enterHoldover.time, hosts := s.finZero.enterHoldover.hosts,
    rcd := { s.rcd with logDue := s.finZero.enterHoldover.rcd.logDue } } := by
  have lost := loseTime_frame s
  rw [State.failoverFirmware, if_neg (by rw [fw]; exact Bool.noConfusion)]
  dsimp only
  generalize s.finZero.enterHoldover = u at lost ⊢
  refine ⟨decide (s.power.braid = .on) && decide (s.power.periph = .on), ?_⟩
  rw [lost]
  rfl

/-! ### A trigger -/

/-- The network's registers at an accepted trigger (R195, R199, R201). -/
def State.switched (cause : Nat) (auto : Bool) (s : State) : Net :=
  let old := s.net.active
  let recent := match s.net.doneAt with | none => false | some x => decide (s.now - x < 60000000000)
  let cut := decide (s.now < (s.net.port old).sendEnd)
  let n := { s.net with active := !old, failing := true, cause := cause, foAt := s.time.wns, foEra := s.time.era, trigX := s.now,
                        atStale := s.time.eraStale, isRepeat := auto && recent, failovers := sat16 s.net.failovers,
                        standing := false, helloDue := true }
  ((n.setTxen old false).modPort old (fun q => { q with txAbort := if cut then sat32 q.txAbort else q.txAbort, sendEnd := 0 })).cleat

theorem startFailover_eq (cause : Nat) (auto : Bool) (origin : Option Nat) (s : State) :
    s.startFailover cause auto origin = (({ s with net := s.switched cause auto } : State).raise 0xB2 origin).failoverFirmware := (rfl)

theorem failTrigger_accepted {s : State} {cause : Nat} {auto : Bool} {origin : Option Nat} (ok : s.net.accepts auto = true) :
    s.failTrigger cause auto origin = s.startFailover cause auto origin := by
  rw [State.failTrigger]
  exact if_pos ok

theorem failTrigger_refused {s : State} {cause : Nat} {auto : Bool} {origin : Option Nat} (no : s.net.accepts auto = false) :
    s.failTrigger cause auto origin = { s with net := { s.net with ignored := sat16 s.net.ignored } } := by
  rw [State.failTrigger]
  exact if_neg (fun ok => Bool.noConfusion (no.symm.trans ok))

/-- What an accepted trigger sets of the path's registers. -/
theorem switched_path (cause : Nat) (auto : Bool) (s : State) : (s.switched cause auto).path =
    (!s.net.active, true, cause, s.net.active && s.net.aTxen, !s.net.active && s.net.bTxen, s.time.wns, sat16 s.net.failovers, s.net.storm, false,
      s.net.standbyFitted, s.net.holddown) := by
  unfold State.switched Net.setTxen Net.modPort
  cases s.net.active <;> rfl

theorem switched_snaps (cause : Nat) (auto : Bool) (s : State) : (s.switched cause auto).snaps = s.net.snaps := by
  unfold State.switched Net.setTxen Net.modPort
  cases s.net.active <;> rfl

/-- What a failover leaves of the path's registers, whether firmware runs or not. -/
theorem startFailover_path (cause : Nat) (auto : Bool) (origin : Option Nat) (s : State) :
    (s.startFailover cause auto origin).net.path = (s.switched cause auto).path := by
  rw [startFailover_eq]
  cases fw : s.firmware with
  | false => rw [failoverFirmware_absent (s := ({ s with net := s.switched cause auto } : State).raise 0xB2 origin) fw]; rfl
  | true =>
    obtain ⟨up, eq⟩ := failoverFirmware_present (s := ({ s with net := s.switched cause auto } : State).raise 0xB2 origin) fw
    rw [eq]
    exact taken_path up _ _

/-- A failover changes the network, the time base, the event fabric's queue, and what the hosts and the log are told. -/
theorem startFailover_frame (cause : Nat) (auto : Bool) (origin : Option Nat) (s : State) : s.startFailover cause auto origin = { s with
    net := (s.startFailover cause auto origin).net, time := (s.startFailover cause auto origin).time,
    hosts := (s.startFailover cause auto origin).hosts, rcd := { s.rcd with logDue := (s.startFailover cause auto origin).rcd.logDue },
    evt := (s.startFailover cause auto origin).evt } := by
  rw [startFailover_eq]
  cases fw : s.firmware with
  | false => rw [failoverFirmware_absent (s := ({ s with net := s.switched cause auto } : State).raise 0xB2 origin) fw]; rfl
  | true =>
    obtain ⟨up, eq⟩ := failoverFirmware_present (s := ({ s with net := s.switched cause auto } : State).raise 0xB2 origin) fw
    rw [eq]; rfl

/-- The path that a failover leaves is muted. -/
theorem switched_mutes (cause : Nat) (auto : Bool) (s : State) : (s.switched cause auto).txdis s.net.active = true := by
  unfold State.switched
  refine cleat_mutes ?_
  unfold Net.setTxen Net.modPort Net.txen
  cases s.net.active <;> rfl

theorem txen_of_path {m n : Net} (same : m.path = n.path) (p : Bool) : m.txen p = n.txen p := by
  cases p
  · exact congrArg (fun q => q.2.2.2.1) same
  · exact congrArg (fun q => q.2.2.2.2.1) same

/-- A path muted before firmware's steps is muted after them. -/
theorem taken_mutes {n : Net} {p : Bool} (clear : n.txen p = false) (up : Bool) (before : SrvState) : (n.taken up before).txdis p = true := by
  have kept := taken_path up before n
  unfold Net.taken at kept ⊢
  dsimp only at kept ⊢
  refine cleat_mutes ?_
  rw [← cleat_txen, txen_of_path kept, clear]

theorem startFailover_mutes (cause : Nat) (auto : Bool) (origin : Option Nat) (s : State) :
    (s.startFailover cause auto origin).net.txdis s.net.active = true ∧ (s.startFailover cause auto origin).net.txen s.net.active = false := by
  have clear : (s.switched cause auto).txen s.net.active = false := by
    have path := switched_path cause auto s
    generalize s.switched cause auto = n at path ⊢
    cases active : s.net.active
    · have a : n.aTxen = (s.net.active && s.net.aTxen) := congrArg (fun q => q.2.2.2.1) path
      rw [active] at a; exact a
    · have b : n.bTxen = (!s.net.active && s.net.bTxen) := congrArg (fun q => q.2.2.2.2.1) path
      rw [active] at b; exact b
  refine ⟨?_, (txen_of_path (startFailover_path cause auto origin s) _).trans clear⟩
  rw [startFailover_eq]
  cases fw : s.firmware with
  | false =>
    rw [failoverFirmware_absent (s := ({ s with net := s.switched cause auto } : State).raise 0xB2 origin) fw]
    exact switched_mutes cause auto s
  | true =>
    obtain ⟨up, eq⟩ := failoverFirmware_present (s := ({ s with net := s.switched cause auto } : State).raise 0xB2 origin) fw
    rw [eq]
    exact taken_mutes clear up _

/-- What firmware restores from a snapshot, and the exchanges that it discards. -/
def Net.kept (n : Net) : (List Announce × List Grant × List Nat × PortDs × List Byte × SrvState × Option Rat) × List SyncEx × List DelayEx :=
  ((n.foreign, n.grants, n.neigh, n.portDs, n.filter, n.srvBefore, n.pathDelay), n.syncs, n.delays)

theorem powerUp_kept (p : Bool) (n : Net) : (n.powerUp p).kept = n.kept := by
  unfold Net.powerUp Net.modPort
  split <;> rfl

theorem newest_of_snaps {m n : Net} (same : m.snaps = n.snaps) : m.newest = n.newest := by
  have copies (i : Nat) : m.copy i = n.copy i := by rw [Net.copy, Net.copy, same]
  rw [Net.newest, Net.newest, copies, copies]

theorem taken_restores {n : Net} {i : Nat} {q : Snap} (newest : n.newest = some (i, q)) (up : Bool) (before : SrvState) :
    (n.taken up before).kept.1 = (q.foreign, q.grants, q.neigh, q.portDs, q.filter, q.srvBefore, if n.active then q.mpdB else q.mpdA) := by
  have restored : (Net.restore { n with gatesOk := 0, syncs := [], delays := [], qualified := 0, srvBefore := before, fwDue := false }).kept.1 =
      (q.foreign, q.grants, q.neigh, q.portDs, q.filter, q.srvBefore, if n.active then q.mpdB else q.mpdA) := by
    have same : ({ n with gatesOk := 0, syncs := [], delays := [], qualified := 0, srvBefore := before, fwDue := false } : Net).newest = some (i, q) :=
      (newest_of_snaps rfl).trans newest
    rw [Net.restore, same]
    rfl
  unfold Net.taken
  dsimp only
  generalize Net.restore _ = m at restored ⊢
  refine Eq.trans (b := (Net.kept (if up then m.powerUp m.active else m)).1) rfl ?_
  split
  · exact (congrArg Prod.fst (powerUp_kept _ _)).trans restored
  · exact restored

theorem taken_discards (up : Bool) (before : SrvState) (n : Net) : (n.taken up before).kept.2 = ([], []) := by
  have restored : (Net.restore { n with gatesOk := 0, syncs := [], delays := [], qualified := 0, srvBefore := before, fwDue := false }).kept.2 = ([], []) := by
    unfold Net.restore
    split <;> rfl
  unfold Net.taken
  dsimp only
  generalize Net.restore _ = m at restored ⊢
  refine Eq.trans (b := (Net.kept (if up then m.powerUp m.active else m)).2) rfl ?_
  split
  · exact (congrArg Prod.snd (powerUp_kept _ _)).trans restored
  · exact restored

/-- Firmware's steps at a failover: exchanges discarded, HOLDOVER, the snapshot restored. -/
theorem startFailover_present {s : State} (fw : s.firmware = true) (cause : Nat) (auto : Bool) (origin : Option Nat) :
    (s.startFailover cause auto origin).net.kept.2 = ([], []) ∧
    (s.time.srv = .locked → (s.startFailover cause auto origin).time.srv = .holdover) ∧
    ∀ i q, s.net.newest = some (i, q) → (s.startFailover cause auto origin).net.kept.1 =
      (q.foreign, q.grants, q.neigh, q.portDs, q.filter, q.srvBefore, if s.net.active then q.mpdA else q.mpdB) := by
  obtain ⟨up, eq⟩ := failoverFirmware_present (s := ({ s with net := s.switched cause auto } : State).raise 0xB2 origin) fw
  have locks := loseTime_locked (s := ({ s with net := s.switched cause auto } : State).raise 0xB2 origin) fw
  rw [startFailover_eq, eq]
  refine ⟨taken_discards up _ _, locks, fun i q newest => ?_⟩
  have same : (s.switched cause auto).newest = some (i, q) := (newest_of_snaps (switched_snaps cause auto s)).trans newest
  have active : (s.switched cause auto).active = !s.net.active := congrArg Prod.fst (switched_path cause auto s)
  refine (taken_restores (n := s.switched cause auto) same up _).trans ?_
  rw [active]
  cases s.net.active <;> rfl

theorem startFailover_absent {s : State} (away : s.firmware = false) (cause : Nat) (auto : Bool) (origin : Option Nat) :
    (s.startFailover cause auto origin).net.fwDue = true ∧ (s.startFailover cause auto origin).time = s.time := by
  rw [startFailover_eq, failoverFirmware_absent (s := ({ s with net := s.switched cause auto } : State).raise 0xB2 origin) away]
  exact ⟨rfl, rfl⟩

/-- What every failover shows at once. -/
theorem startFailover_shows (cause : Nat) (auto : Bool) (origin : Option Nat) (s : State) :
    (s.startFailover cause auto origin).net.active = !s.net.active ∧ (s.startFailover cause auto origin).net.failing = true ∧
    (s.startFailover cause auto origin).net.cause = cause ∧ (s.startFailover cause auto origin).net.foAt = s.time.wns ∧
    (s.startFailover cause auto origin).net.failovers = sat16 s.net.failovers ∧ (s.startFailover cause auto origin).net.storm = s.net.storm ∧
    (s.startFailover cause auto origin).net.standing = false := by
  have path := (startFailover_path cause auto origin s).trans (switched_path cause auto s)
  simp only [Net.path, Prod.mk.injEq] at path
  obtain ⟨active, failing, its, -, -, foAt, count, storm, standing, -, -⟩ := path
  exact ⟨active, failing, its, foAt, count, storm, standing⟩

/-! ### The cleat's commands -/

theorem hello_keeps {β : Type} (v : Net → β) (reads : ∀ n, v n.unsent = v n) (s : State) : v s.hello.net = v s.net := by
  rw [← reads, hello_net, reads]

theorem cleatWrite_refused {v : Word} {n : Net} (both : bit v.toNat 0 = true ∧ bit v.toNat 1 = true) : n.cleatWrite v = { n with refused := true } := by
  rw [Net.cleatWrite]
  rw [if_pos both]
  split <;> rfl

theorem cleatWrite_sets {v : Word} {n : Net} (one : ¬(bit v.toNat 0 = true ∧ bit v.toNat 1 = true)) : ∃ r, n.cleatWrite v =
    Net.cleat { n with refused := r, aTxen := bit v.toNat 0, bTxen := bit v.toNat 1 } := by
  rw [Net.cleatWrite]
  rw [if_neg one]
  split
  · exact ⟨false, rfl⟩
  · exact ⟨n.refused, rfl⟩

/-- The pins, and what decides them. -/
def Net.pins (n : Net) : Bool × Bool × Bool × Bool := (n.aTxdis, n.bTxdis, n.aTxen, n.bTxen)

end Sys2Proof.Machine

/-! PROOFS. The cleat's and the links' commands and the triggers (O47), and a failover's run (O48). -/

namespace Sys2Proof.Machine

/-! ### Writes of the cleat -/

/-- A machine whose network registers alone change, and which then greets where a greeting is due. -/
theorem hello_of (n : Net) (s : State) : ({ s with net := n } : State).hello = { s with
    net := ({ s with net := n } : State).hello.net, freeIx := ({ s with net := n } : State).hello.freeIx } := by
  rw [hello_frame]

theorem hello_free {n : Net} {s : State} (said : n.helloDue = false) : ({ s with net := n } : State).hello.freeIx = s.freeIx :=
  (congrArg State.freeIx (hello_idle (s := { s with net := n }) said)).trans rfl

/-- What the cleat shows after a write or a release, and after the greeting that may follow (R195). -/
theorem cleat_shows (n : Net) (s : State) : (({ s with net := n.cleat } : State).hello.net.aTxdis = true ∨
      ({ s with net := n.cleat } : State).hello.net.bTxdis = true) ∧
    (({ s with net := n.cleat } : State).hello.net.aTxdis = false ↔ ((n.aTxen = true ∧ n.a.pow = .on) ∧ n.bTxdis = true) ∧ n.bHigh50 = true) ∧
    (({ s with net := n.cleat } : State).hello.net.bTxdis = false → ((n.bTxen = true ∧ n.b.pow = .on) ∧ n.aTxdis = true) ∧ n.aHigh50 = true) ∧
    ({ s with net := n.cleat } : State).hello.net.aTxen = n.aTxen ∧ ({ s with net := n.cleat } : State).hello.net.bTxen = n.bTxen := by
  have keeps := hello_keeps Net.pins (fun _ => rfl) ({ s with net := n.cleat } : State)
  simp only [Net.pins, Prod.mk.injEq] at keeps
  obtain ⟨aTxdis, bTxdis, aTxen, bTxen⟩ := keeps
  rw [aTxdis, bTxdis, aTxen, bTxen]
  exact ⟨cleat_one n, cleat_aLow, fun low => (cleat_bLow.1 low).1, rfl, rfl⟩

/-! ### Links -/

theorem port_modPort (p : Bool) (f : NetPort → NetPort) (n : Net) : (n.modPort p f).port p = f (n.port p) := by
  cases p <;> rfl

theorem port_modPort_other (p : Bool) (f : NetPort → NetPort) (n : Net) : (n.modPort p f).port (!p) = n.port (!p) := by
  cases p <;> rfl

theorem active_modPort (p : Bool) (f : NetPort → NetPort) (n : Net) : (n.modPort p f).active = n.active := by
  cases p <;> rfl

/-- The link state of a powered port (R203). -/
def NetPort.linked (up hiBer : Bool) (q : NetPort) : NetPort :=
  { q with rxLock := up, hiBer := hiBer && !q.rate, link := up && !(hiBer && !q.rate),
           linkDn := if q.link && !(up && !(hiBer && !q.rate)) then sat32 q.linkDn else q.linkDn }

/-- The link of a port, the ports' other registers but for what is being sent, and the active path. -/
def Net.links (n : Net) : NetPort × NetPort × Bool := ({ n.a with sendEnd := 0 }, { n.b with sendEnd := 0 }, n.active)

theorem linkChange_eq {s : State} {p : Bool} (on : (s.net.port p).pow = .on) (up hiBer : Bool) : linkChange p up hiBer s =
    if (s.net.port p).link = (up && !(hiBer && !(s.net.port p).rate)) then s.modNet (Net.modPort p (NetPort.linked up hiBer))
    else if (up && !(hiBer && !(s.net.port p).rate)) = false then (s.modNet (Net.modPort p (NetPort.linked up hiBer))).linkDown p
    else if p ≠ s.net.active then (s.modNet (Net.modPort p (NetPort.linked up hiBer))).raise (if p then 0xB1 else 0xB0) none
    else (((s.modNet (Net.modPort p (NetPort.linked up hiBer))).raise (if p then 0xB1 else 0xB0) none).modNet
      (fun n => { n with standing := false })).hello := by
  have same : s.modNet (Net.modPort p (fun q => { q with
      rxLock := up, hiBer := hiBer && !(s.net.port p).rate, link := up && !(hiBer && !(s.net.port p).rate),
      linkDn := if q.link && !(up && !(hiBer && !(s.net.port p).rate)) then sat32 q.linkDn else q.linkDn })) = s.modNet (Net.modPort p (NetPort.linked up hiBer)) := by
    cases p <;> rfl
  rw [linkChange]
  dsimp only
  rw [if_neg (not_not.2 on), same]
  split
  · rfl
  · split
    · rfl
    · have active : ((s.modNet (Net.modPort p (NetPort.linked up hiBer))).raise (if p then 0xB1 else 0xB0) none).net.active = s.net.active :=
        active_modPort p _ s.net
      rw [active]

/-- A lost link: its event, and on the active path FIN at zero and HOLDOVER. -/
theorem linkDown_says (p : Bool) (s : State) : (s.linkDown p).evt = (s.raise (if p then 0xB1 else 0xB0) none).evt ∧
    (s.linkDown p).net.a = s.net.a ∧ (s.linkDown p).net.b = s.net.b ∧ (s.linkDown p).net.active = s.net.active ∧
    (p ≠ s.net.active → (s.linkDown p).time = s.time) ∧
    (p = s.net.active → s.firmware = true → s.time.srv = .locked → (s.linkDown p).time.srv = .holdover) := by
  rw [State.linkDown]
  generalize (if p then 0xB1 else 0xB0) = src
  split
  · rename_i here
    have lost := loseTime_frame ((s.raise src none).modNet (fun n => { n with qualified := 0 }))
    have locks (fw : s.firmware = true) (locked : s.time.srv = .locked) :=
      loseTime_locked (s := (s.raise src none).modNet (fun n => { n with qualified := 0 })) fw locked
    refine ⟨?_, ?_, ?_, ?_, fun other => absurd here other, fun _ => locks⟩
    all_goals rw [lost]; rfl
  · rename_i away
    exact ⟨rfl, rfl, rfl, rfl, fun _ => rfl, fun its => absurd its away⟩

theorem port_links {m n : Net} (a : m.a = n.a) (b : m.b = n.b) (p : Bool) : m.port p = n.port p := by
  cases p
  · exact a
  · exact b

/-- A port's registers but for what it is sending. -/
def NetPort.still (q : NetPort) : NetPort := { q with sendEnd := 0 }

theorem sendFrame_port (s : State) (p : Bool) : (s.sendFrame.net.port p).still = (s.net.port p).still ∧
    (p ≠ s.net.active → s.sendFrame.net.port p = s.net.port p) := by
  unfold State.sendFrame State.modNet Net.modPort Net.port
  dsimp only
  cases s.net.active <;> cases p <;> simp [NetPort.still]

theorem hello_port (s : State) (p : Bool) : (s.hello.net.port p).still = (s.net.port p).still ∧
    (p ≠ s.net.active → s.hello.net.port p = s.net.port p) := by
  unfold State.hello
  split
  · exact ⟨rfl, fun _ => rfl⟩
  · dsimp only
    split
    · exact sendFrame_port _ p
    · exact ⟨rfl, fun _ => rfl⟩

/-- A change of link: what stands in the ports afterwards, whatever follows from it. -/
theorem linkChange_says {s : State} {p : Bool} (on : (s.net.port p).pow = .on) (up hiBer : Bool) :
    ((linkChange p up hiBer s).net.port p).still = ((s.net.port p).linked up hiBer).still ∧
    (linkChange p up hiBer s).net.port (!p) = s.net.port (!p) ∧ (linkChange p up hiBer s).net.active = s.net.active ∧
    (p ≠ s.net.active → (linkChange p up hiBer s).time = s.time) ∧
    ((s.net.port p).link = ((s.net.port p).linked up hiBer).link → linkChange p up hiBer s = { s with net := (linkChange p up hiBer s).net }) ∧
    ((s.net.port p).link ≠ ((s.net.port p).linked up hiBer).link → (linkChange p up hiBer s).evt = (s.raise (if p then 0xB1 else 0xB0) none).evt) ∧
    (p = s.net.active → (s.net.port p).link = true → ((s.net.port p).linked up hiBer).link = false → s.firmware = true → s.time.srv = .locked →
      (linkChange p up hiBer s).time.srv = .holdover) := by
  have its : (s.modNet (Net.modPort p (NetPort.linked up hiBer))).net.port p = (s.net.port p).linked up hiBer := port_modPort p _ s.net
  have others : (s.modNet (Net.modPort p (NetPort.linked up hiBer))).net.port (!p) = s.net.port (!p) := port_modPort_other p _ s.net
  have active : (s.modNet (Net.modPort p (NetPort.linked up hiBer))).net.active = s.net.active := active_modPort p _ s.net
  have eq := linkChange_eq on up hiBer
  rw [show (up && !(hiBer && !(s.net.port p).rate)) = ((s.net.port p).linked up hiBer).link from rfl] at eq
  by_cases same : (s.net.port p).link = ((s.net.port p).linked up hiBer).link
  · rw [if_pos same] at eq
    rw [eq]
    exact ⟨congrArg NetPort.still its, others, active, fun _ => rfl, fun _ => rfl, fun no => absurd same no,
      fun _ was lost => Bool.noConfusion (was.symm.trans (same.trans lost))⟩
  rw [if_neg same] at eq
  by_cases lost : ((s.net.port p).linked up hiBer).link = false
  · rw [if_pos lost] at eq
    obtain ⟨evt, a, b, path, away, locks⟩ := linkDown_says p (s.modNet (Net.modPort p (NetPort.linked up hiBer)))
    rw [eq]
    exact ⟨congrArg NetPort.still ((port_links a b p).trans its), (port_links a b (!p)).trans others, path.trans active,
      fun other => away (by rw [active]; exact other), fun yes => absurd yes same, fun _ => evt, fun here _ _ fw locked => locks (by rw [active]; exact here) fw locked⟩
  rw [if_neg lost] at eq
  by_cases here : p = s.net.active
  · rw [if_neg (not_not.2 here)] at eq
    have greets := hello_port (((s.modNet (Net.modPort p (NetPort.linked up hiBer))).raise (if p then 0xB1 else 0xB0) none).modNet
      (fun n => { n with standing := false }))
    have frame := hello_frame (((s.modNet (Net.modPort p (NetPort.linked up hiBer))).raise (if p then 0xB1 else 0xB0) none).modNet
      (fun n => { n with standing := false }))
    have path := hello_keeps Net.active (fun _ => rfl) (((s.modNet (Net.modPort p (NetPort.linked up hiBer))).raise (if p then 0xB1 else 0xB0) none).modNet
      (fun n => { n with standing := false }))
    rw [← eq] at greets frame path
    refine ⟨(greets p).1.trans (congrArg NetPort.still its), ((greets (!p)).2 ?_).trans others, path.trans active, fun other => absurd here other,
      fun yes => absurd yes same, fun _ => ?_, fun _ _ no => absurd no lost⟩
    · show (!p) ≠ (s.modNet (Net.modPort p (NetPort.linked up hiBer))).net.active
      rw [active, here]
      cases s.net.active <;> decide
    · rw [frame]; rfl
  · rw [if_pos here] at eq
    rw [eq]
    exact ⟨congrArg NetPort.still its, others, active, fun _ => rfl, fun yes => absurd yes same, fun _ => rfl, fun yes => absurd yes here⟩

/-! ### Triggers -/

theorem linkLossTrigger_fires {s : State} (auto : s.net.autoLink = true) (lost : s.linkLost = true) : linkLossTrigger s =
    if s.net.accepts true then s.startFailover 1 true none else (s.failTrigger 1 true none).modNet (fun n => { n with standing := true }) := by
  rw [linkLossTrigger, if_neg (by simp [auto, lost])]

theorem linkLossTrigger_idle {s : State} (idle : s.net.autoLink = false ∨ s.linkLost = false) : linkLossTrigger s = s := by
  rw [linkLossTrigger]
  exact if_pos idle

/-- The code of a cause of a failover (R203). -/
def causeCode : FailCause → Nat
  | .link => 1
  | .firmware => 2
  | .event => 3

theorem failoverTrigger_is (cause : FailCause) (s : State) :
    exec (.failoverTrigger cause) s = .next (s.failTrigger (causeCode cause) (decide (cause = .link)) none) := by
  cases cause <;> rfl

theorem standingCheck_idle {s : State} (idle : s.net.standing = false) : s.standingCheck = s := by
  rw [State.standingCheck]
  exact if_neg (fun all => Bool.noConfusion (idle.symm.trans all.1))

/-- `NETA_PATH`'s fields as written (R203). -/
def Net.pathPut (w : Nat) (n : Net) : Net :=
  { n with storm := n.storm && !bit w 7, standbyFitted := bit w 1, active := if n.aTxen || n.bTxen then n.active else bit w 0,
           helloDue := n.helloDue || decide ((if n.aTxen || n.bTxen then n.active else bit w 0) ≠ n.active) }

theorem pathWrite_eq {s : State} {v : Word} (running : bit v.toNat 3 = false) : s.pathWrite v =
    (if bit v.toNat 2 then (s.modNet (Net.pathPut v.toNat)).hello.failTrigger 2 false none else (s.modNet (Net.pathPut v.toNat)).hello).standingCheck := by
  rw [State.pathWrite, running]
  rfl

/-- Settles O47: the cleat's rule on both pins, a change of link, and what every accepted trigger does. -/
theorem cleatAndTriggers : Obligations.CleatAndTriggers := by
  unfold Obligations.CleatAndTriggers
  refine ⟨?_, ?_, ?_, ?_, ?_, ?_, ?_⟩
  · intro s v b0 b1
    have refuses : s.modNet (Net.cleatWrite v) = { s with net := { s.net with refused := true } } :=
      congrArg (fun n => ({ s with net := n } : State)) (cleatWrite_refused ⟨(bit_toNat v 0).trans b0, (bit_toNat v 1).trans b1⟩)
    have runs : exec (.cleatWrite v) s = .next ({ s with net := { s.net with refused := true } } : State).hello := by
      rw [← refuses]; rfl
    have keeps := hello_keeps Net.pins (fun _ => rfl) ({ s with net := { s.net with refused := true } } : State)
    simp only [Net.pins, Prod.mk.injEq] at keeps
    obtain ⟨aTxdis, bTxdis, aTxen, bTxen⟩ := keeps
    exact ⟨_, runs, hello_of _ s, hello_keeps Net.refused (fun _ => rfl) _, aTxen, bTxen, aTxdis, bTxdis, fun said => hello_idle said⟩
  · rintro s c (⟨v, rfl, one⟩ | rfl)
    · obtain ⟨r, sets⟩ := cleatWrite_sets (v := v) (n := s.net) (by rw [bit_toNat, bit_toNat]; exact one)
      have runs : exec (.cleatWrite v) s = .next ({ s with net := s.net.cleatWrite v } : State).hello := rfl
      rw [sets] at runs
      obtain ⟨safe, aLow, bLow, aTxen, bTxen⟩ := cleat_shows { s.net with refused := r, aTxen := bit v.toNat 0, bTxen := bit v.toNat 1 } s
      refine ⟨_, runs, hello_of _ s, fun said => hello_free said, safe, fun low => ?_, fun low => ?_, ?_, fun no => nomatch no⟩
      · obtain ⟨⟨⟨en, on⟩, high⟩, -⟩ := aLow.1 low
        exact ⟨aTxen.trans en, on, high⟩
      · obtain ⟨⟨⟨en, on⟩, high⟩, -⟩ := bLow low
        exact ⟨bTxen.trans en, on, high⟩
      · rintro w ⟨rfl⟩
        exact ⟨aTxen.trans (bit_toNat v 0), bTxen.trans (bit_toNat v 1), fun low => (aLow.1 low).2, fun low => (bLow low).2⟩
    · have runs : exec .cleatBbmRelease s = .next ({ s with net := Net.cleat { s.net with aHigh50 := s.net.aTxdis, bHigh50 := s.net.bTxdis } } : State).hello := rfl
      obtain ⟨safe, aLow, bLow, aTxen, bTxen⟩ := cleat_shows { s.net with aHigh50 := s.net.aTxdis, bHigh50 := s.net.bTxdis } s
      refine ⟨_, runs, hello_of _ s, fun said => hello_free said, safe, fun low => ?_, fun low => ?_, (fun v no => nomatch no), fun _ => ⟨aTxen, bTxen, ?_⟩⟩
      · obtain ⟨⟨⟨en, on⟩, high⟩, -⟩ := aLow.1 low
        exact ⟨aTxen.trans en, on, high⟩
      · obtain ⟨⟨⟨en, on⟩, high⟩, -⟩ := bLow low
        exact ⟨bTxen.trans en, on, high⟩
      · exact fun en on high => aLow.2 ⟨⟨⟨en, on⟩, high⟩, high⟩
  · intro s p up ber q pb which its on
    subst which its
    obtain ⟨port, other, active, time, same, evt, locks⟩ := linkChange_says on up ber
    have link : ((linkChange (decide (p.val = 1)) up ber s).net.port (decide (p.val = 1))).link =
        ((s.net.port (decide (p.val = 1))).linked up ber).link :=
      (congrArg NetPort.link port : (NetPort.still _).link = (NetPort.still _).link)
    have linkDn : ((linkChange (decide (p.val = 1)) up ber s).net.port (decide (p.val = 1))).linkDn =
        ((s.net.port (decide (p.val = 1))).linked up ber).linkDn :=
      (congrArg NetPort.linkDn port : (NetPort.still _).linkDn = (NetPort.still _).linkDn)
    refine ⟨_, rfl, link, fun was lost => ?_, fun eq => same (eq.trans link), fun ne => (evt (fun eq => ne (eq.trans link.symm))).trans rfl, time,
      fun here was lost => locks here was (link.symm.trans lost), active, other⟩
    rw [linkDn, NetPort.linked]
    dsimp only
    rw [was, show (up && !(ber && !(s.net.port (decide (p.val = 1))).rate)) = false from link.symm.trans lost]
    rfl
  · intro s auto lost
    have fires := linkLossTrigger_fires auto lost
    refine ⟨fun ok => ?_, fun no => ?_⟩
    · rw [if_pos ok] at fires
      obtain ⟨active, failing, its, -⟩ := startFailover_shows 1 true none s
      exact ⟨_, congrArg Host.Outcome.next fires, active, failing, its⟩
    · rw [if_neg (fun ok => Bool.noConfusion (no.symm.trans ok)), failTrigger_refused no] at fires
      exact congrArg Host.Outcome.next fires
  · intro s idle
    exact congrArg Host.Outcome.next (linkLossTrigger_idle idle)
  · intro s cause
    refine ⟨fun ok => ?_, fun no => (failoverTrigger_is cause s).trans (congrArg _ (failTrigger_refused no))⟩
    obtain ⟨active, failing, its, foAt, count, -, -⟩ := startFailover_shows (causeCode cause) (decide (cause = .link)) none s
    obtain ⟨muted, clear⟩ := startFailover_mutes (causeCode cause) (decide (cause = .link)) none s
    have frame := startFailover_frame (causeCode cause) (decide (cause = .link)) none s
    refine ⟨_, (failoverTrigger_is cause s).trans (congrArg _ (failTrigger_accepted ok)), active, failing, ?_, muted, clear, foAt, count, ?_, ?_, ?_,
      fun i q fw newest => ?_, fun fw => ?_, fun away => startFailover_absent away (causeCode cause) (decide (cause = .link)) none⟩
    · rw [its]; cases cause <;> rfl
    · rw [frame]
    · rw [frame]
    · rw [frame]
    · have kept := (startFailover_present fw (causeCode cause) (decide (cause = .link)) none).2.2 i q newest
      simp only [Net.kept, Prod.mk.injEq] at kept
      obtain ⟨foreign, grants, neigh, ds, filter, srv, delay⟩ := kept
      exact ⟨foreign, grants, neigh, ds, filter, srv, delay⟩
    · obtain ⟨gone, locks, -⟩ := startFailover_present fw (causeCode cause) (decide (cause = .link)) none
      simp only [Net.kept, Prod.mk.injEq] at gone
      exact ⟨gone.1, gone.2, locks⟩
  · intro s v b3 idle
    have writes := pathWrite_eq (s := s) ((bit_toNat v 3).trans b3)
    have keeps := hello_keeps (fun n => (n.standbyFitted, n.storm, n.active, n.standing, n.failing)) (fun _ => rfl) (s.modNet (Net.pathPut v.toNat))
    simp only [Prod.mk.injEq] at keeps
    obtain ⟨fitted, storm, active, standing, failing⟩ := keeps
    refine ⟨fun b2 => ?_, fun b2 b1 still held => ?_⟩
    · rw [if_neg (by rw [bit_toNat, b2]; exact Bool.noConfusion), standingCheck_idle (standing.trans idle)] at writes
      refine ⟨_, congrArg Host.Outcome.next writes, hello_of _ s, fun said held => ?_, fitted.trans (bit_toNat v 1), storm.trans ?_, active.trans ?_⟩
      · rw [hello_idle]
        · rfl
        · show (s.net.helloDue || decide ((if s.net.aTxen || s.net.bTxen then s.net.active else bit v.toNat 0) ≠ s.net.active)) = false
          rw [said, if_pos (by rw [Bool.or_eq_true]; exact held)]
          simp
      · show (s.net.storm && !bit v.toNat 7) = _
        rw [bit_toNat]
      · show (if s.net.aTxen || s.net.bTxen then s.net.active else bit v.toNat 0) = _
        rw [bit_toNat]
        simp only [Bool.or_eq_true]
    · have path : (s.modNet (Net.pathPut v.toNat)).net.active = s.net.active := if_pos (by rw [Bool.or_eq_true]; exact held)
      have ok : (s.modNet (Net.pathPut v.toNat)).hello.net.accepts false = true := by
        have stays : (s.modNet (Net.pathPut v.toNat)).hello.net.failing = false := failing.trans still
        have there : (s.modNet (Net.pathPut v.toNat)).hello.net.standbyFitted = true := fitted.trans ((bit_toNat v 1).trans b1)
        rw [Net.accepts, stays, there]
        rfl
      obtain ⟨path', failing', its, -, -, -, still'⟩ := startFailover_shows 2 false none (s.modNet (Net.pathPut v.toNat)).hello
      rw [if_pos ((bit_toNat v 2).trans b2), failTrigger_accepted ok, standingCheck_idle still'] at writes
      refine ⟨_, congrArg Host.Outcome.next writes, path'.trans ?_, failing', its⟩
      rw [active, path]

end Sys2Proof.Machine

/-! PROOFS. A failover from power-up to completion, and the snapshot (O48); the steward's calibration and failover commands (O33). -/

namespace Sys2Proof.Machine

/-! ### The new path comes up -/

theorem down_active (p : Bool) (n : Net) : (n.down p).active = n.active := by
  unfold Net.down Net.setTxen Net.modPort
  cases p <;> rfl

/-- The other path's domain goes off while the active one stays: its master closes, and its link's loss is an event. -/
theorem netDown_other {s : State} {p : Bool} (other : p ≠ s.net.active) : (s.netDown p).net = s.net.down p ∧
    s.netDown p = { s with net := (s.netDown p).net, braid := (s.netDown p).braid, shadows := (s.netDown p).shadows,
                           mem := (s.netDown p).mem, freeIx := (s.netDown p).freeIx, evt := (s.netDown p).evt } ∧
    (s.braid.granted.getD (if p = true then 8 else 7) none = none → (s.netDown p).mem = s.mem) := by
  have closed : ∃ u, (if (s.net.port p).pow = .off then s.modNet (Net.down p) else (s.modNet (Net.down p)).dropMaster (if p then 8 else 7)) = u ∧
      u.net = s.net.down p ∧ u = { s with net := u.net, braid := u.braid, shadows := u.shadows, mem := u.mem, freeIx := u.freeIx } ∧
      (s.braid.granted.getD (if p = true then 8 else 7) none = none → u.mem = s.mem) := by
    split
    · exact ⟨_, rfl, rfl, rfl, fun _ => rfl⟩
    · have drops := dropMaster_frame (if p then 8 else 7) (s.modNet (Net.down p))
      refine ⟨_, rfl, ?_, ?_, fun idle => (dropMaster_idle (m := if p then 8 else 7) (s := s.modNet (Net.down p)) idle).1⟩
      · rw [drops]; rfl
      · rw [drops]; rfl
  obtain ⟨u, its, net, frame, mem⟩ := closed
  have path : u.net.active = s.net.active := by rw [net]; exact down_active p s.net
  have lost : u.linkDown p = u.raise (if p then 0xB1 else 0xB0) none := by
    rw [State.linkDown]
    exact if_neg (fun its => other (its.trans path))
  rw [State.netDown]
  rw [its, lost]
  split
  · exact ⟨net, by rw [frame]; rfl, mem⟩
  · exact ⟨net, by rw [frame], mem⟩

/-- A path whose domain has gone off: no power, no transmitter. -/
theorem down_off (p : Bool) (n : Net) : ((n.down p).port p).pow = .off ∧ (n.down p).txen p = false ∧ (n.down p).port (!p) = n.port (!p) := by
  cases p <;> exact ⟨rfl, rfl, rfl⟩

/-- A path whose transmitter alone is released (R195). -/
theorem release_alone (p : Bool) (n : Net) : (n.release p).txen p = true ∧ (n.release p).txen (!p) = false ∧ (n.release p).txdis (!p) = true ∧
    (∀ q, (n.release p).port q = n.port q) ∧ (n.release p).active = n.active := by
  cases p
  · have clear : ({ n with aTxen := true, bTxen := false } : Net).txen true = false := rfl
    exact ⟨rfl, rfl, cleat_mutes clear, fun q => by cases q <;> rfl, rfl⟩
  · have clear : ({ n with aTxen := false, bTxen := true } : Net).txen false = false := rfl
    exact ⟨rfl, rfl, cleat_mutes clear, fun q => by cases q <;> rfl, rfl⟩

theorem netUp_path (p : Bool) (s : State) : (s.netUp p).net.active = s.net.active ∧ ((s.netUp p).net.port p).pow = .on := by
  cases p <;> exact ⟨rfl, rfl⟩

theorem activePort_eq (s : State) : s.activePort = s.net.port s.net.active := (rfl)

theorem netPathPowered_eq {s : State} (fw : s.firmware = true) (up : s.activePort.pow = .rising ∨ (s.activePort.pow = .on ∧ s.net.failing = true)) :
    ∃ u : State, netPathPowered s = (((u.netDown (!s.net.active)).modNet (Net.release s.net.active))).hello ∧ u = { s with net := u.net } ∧
      u.net.active = s.net.active ∧ (u.net.port s.net.active).pow = .on := by
  refine ⟨if s.activePort.pow = .rising then s.netUp s.net.active else s, ?_, ?_, ?_, ?_⟩
  · rw [netPathPowered]
    rw [if_neg]
    rintro (no | ⟨notRising, no | no⟩)
    · exact Bool.noConfusion (no.symm.trans fw)
    · exact up.elim notRising (fun both => no both.1)
    · exact up.elim notRising (fun both => Bool.noConfusion (no.symm.trans both.2))
  · split <;> rfl
  · split
    · exact (netUp_path _ s).1
    · rfl
  · split
    · exact (netUp_path _ s).2
    · rename_i notRising
      exact (up.resolve_left notRising).1

/-! ### Completion -/

/-- Repeats in a row after a completion (R198). -/
def Net.repeated (n : Net) : Nat := if n.isRepeat then n.repeats + 1 else 0

theorem completeFailover_completes {s : State} (runs : s.net.failing = true) : ∃ ho, s.completeFailover = { s with
    net := { s.net with failing := false, doneAt := some s.now, holddown := true, repeats := s.net.repeated, isRepeat := false,
                        storm := s.net.storm || decide (4 ≤ s.net.repeated) }, hosts := ho } := by
  rw [State.completeFailover, if_neg (by rw [runs]; exact Bool.noConfusion)]
  dsimp only
  by_cases storms : decide (4 ≤ s.net.repeated) = true
  · exact ⟨_, if_pos storms⟩
  · exact ⟨_, if_neg storms⟩

/-! ### The snapshot -/

/-- The snapshot of the active path's state (R200). -/
def State.snapOf (seq : Nat) (s : State) : Snap :=
  Snap.sealCrc { seq := seq, port := s.net.active, rate := s.activePort.rate, taiS := (mailOf s.tai).1, portDs := s.net.portDs,
                 parent := s.net.foreign.find? (fun a => s.net.sel = some a.master), foreign := s.net.foreign, grants := s.net.grants,
                 srvBefore := s.time.srv, lastTheta := s.net.lastTheta, ofsFilter := s.net.ofsFilter, lockRun := s.time.lockRun,
                 overRun := s.time.overRun, mpdA := s.net.mpdA, mpdB := s.net.mpdB, filter := s.net.filter, neigh := s.net.neigh }

/-- The copy that a snapshot takes, and its number (R200). -/
def Net.snapPlace (n : Net) : Nat × Nat :=
  match n.newest with
  | none => (0, 0)
  | some q => (1 - q.1, (q.2.seq + 1) % 2 ^ 32)

theorem snapshotWrite_writes {s : State} (fw : s.firmware = true) (due : s.hears = true ∨ s.net.snapDue = true) : snapshotWrite s =
    { s with net := { s.net with snaps := setAt (some (s.snapOf s.net.snapPlace.2)) s.net.snapPlace.1 s.net.snaps, snapDue := false } } := by
  rw [snapshotWrite, if_neg]
  · unfold Net.snapPlace
    dsimp only
    cases s.net.newest <;> rfl
  · rintro (no | ⟨deaf, still⟩)
    · exact Bool.noConfusion (no.symm.trans fw)
    · exact due.elim (fun yes => Bool.noConfusion (deaf.symm.trans yes)) (fun yes => Bool.noConfusion (still.symm.trans yes))

/-- A copy as it is read, of a list of copies. -/
def readCopy (l : List (Option Snap)) (i : Nat) : Option Snap := (l.getD i none).filter (fun q => decide (q.format = 1) && decide (q.crc = crc32c q.bytes))

/-- The newer of two copies (R200). -/
def newerCopy : Option Snap → Option Snap → Option (Nat × Snap)
  | none, none => none
  | some a, none => some (0, a)
  | none, some b => some (1, b)
  | some a, some b => if 1 ≤ (b.seq + 2 ^ 32 - a.seq) % 2 ^ 32 ∧ (b.seq + 2 ^ 32 - a.seq) % 2 ^ 32 < 2 ^ 31 then some (1, b) else some (0, a)

theorem newest_eq (n : Net) : n.newest = newerCopy (readCopy n.snaps 0) (readCopy n.snaps 1) := by
  rw [Net.newest, Net.copy, Net.copy]
  show _ = newerCopy (readCopy n.snaps 0) (readCopy n.snaps 1)
  unfold readCopy
  cases (n.snaps.getD 0 none).filter (fun q => decide (q.format = 1) && decide (q.crc = crc32c q.bytes)) <;>
    cases (n.snaps.getD 1 none).filter (fun q => decide (q.format = 1) && decide (q.crc = crc32c q.bytes)) <;> rfl

theorem snapOf_valid (seq : Nat) (s : State) : (some (s.snapOf seq)).filter (fun q => decide (q.format = 1) && decide (q.crc = crc32c q.bytes)) =
    some (s.snapOf seq) := by
  rw [Option.filter_some, if_pos]
  rw [Bool.and_eq_true, decide_eq_true_eq, decide_eq_true_eq]
  exact ⟨rfl, rfl⟩

theorem readCopy_seq {l : List (Option Snap)} {i : Nat} {q : Snap} (valid : readCopy l i = some q) : l[i]? = some (some q) := by
  have held : l.getD i none = some q := by
    rw [readCopy, Option.filter_eq_some_iff] at valid
    exact valid.1
  rw [List.getD_eq_getElem?_getD] at held
  cases there : l[i]? with
  | none => rw [there] at held; cases held
  | some r => rw [there] at held; exact congrArg some held

/-- Of two copies the one that follows the other is the newer (R200). -/
theorem newerCopy_next {a b : Snap} (small : a.seq < 2 ^ 32) (next : b.seq = (a.seq + 1) % 2 ^ 32) :
    newerCopy (some a) (some b) = some (1, b) ∧ newerCopy (some b) (some a) = some (0, b) := by
  refine ⟨?_, ?_⟩
  · exact if_pos (by omega)
  · exact if_neg (by omega)

/-- A new copy is the newest. -/
theorem snapPlace_newest {s : State} (two : s.net.snaps.length = 2) (small : ∀ (i : Nat) (q : Snap), s.net.snaps[i]? = some (some q) → q.seq < 2 ^ 32) :
    newerCopy (readCopy (setAt (some (s.snapOf s.net.snapPlace.2)) s.net.snapPlace.1 s.net.snaps) 0)
      (readCopy (setAt (some (s.snapOf s.net.snapPlace.2)) s.net.snapPlace.1 s.net.snaps) 1) = some (s.net.snapPlace.1, s.snapOf s.net.snapPlace.2) := by
  obtain ⟨a, b, both⟩ := List.length_eq_two.1 two
  have first (seq : Nat) : readCopy (setAt (some (s.snapOf seq)) 0 s.net.snaps) 0 = some (s.snapOf seq) ∧
      readCopy (setAt (some (s.snapOf seq)) 0 s.net.snaps) 1 = readCopy s.net.snaps 1 := by
    rw [both]
    exact ⟨snapOf_valid seq s, rfl⟩
  have second (seq : Nat) : readCopy (setAt (some (s.snapOf seq)) 1 s.net.snaps) 1 = some (s.snapOf seq) ∧
      readCopy (setAt (some (s.snapOf seq)) 1 s.net.snaps) 0 = readCopy s.net.snaps 0 := by
    rw [both]
    exact ⟨snapOf_valid seq s, rfl⟩
  have newest := newest_eq s.net
  have seqs (i : Nat) (q : Snap) (valid : readCopy s.net.snaps i = some q) : q.seq < 2 ^ 32 := small i q (readCopy_seq valid)
  unfold Net.snapPlace
  rw [newest]
  cases c0 : readCopy s.net.snaps 0 with
  | none =>
    cases c1 : readCopy s.net.snaps 1 with
    | none =>
      dsimp only [newerCopy]
      rw [(first 0).1, (first 0).2, c1]
    | some b =>
      dsimp only [newerCopy]
      rw [(first _).1, (first _).2, c1]
      exact (newerCopy_next (seqs 1 b c1) rfl).2
  | some a =>
    cases c1 : readCopy s.net.snaps 1 with
    | none =>
      dsimp only [newerCopy]
      rw [(second _).1, (second _).2, c0]
      exact (newerCopy_next (seqs 0 a c0) rfl).1
    | some b =>
      by_cases later : 1 ≤ (b.seq + 2 ^ 32 - a.seq) % 2 ^ 32 ∧ (b.seq + 2 ^ 32 - a.seq) % 2 ^ 32 < 2 ^ 31
      · rw [show newerCopy (some a) (some b) = some (1, b) from if_pos later]
        dsimp only
        rw [(first _).1, (first _).2, c1]
        exact (newerCopy_next (seqs 1 b c1) rfl).2
      · rw [show newerCopy (some a) (some b) = some (0, a) from if_neg later]
        dsimp only
        rw [(second _).1, (second _).2, c0]
        exact (newerCopy_next (seqs 0 a c0) rfl).1

/-! ### The run of a failover -/

/-- Settles O48: what comes up, what completes and what the newest copy holds. -/
theorem failoverRuns : Obligations.FailoverRuns := by
  unfold Obligations.FailoverRuns
  refine ⟨?_, ?_, ?_, ?_, ?_, ?_, ?_⟩
  · intro s up fw
    obtain ⟨u, eq, only, path, on⟩ := netPathPowered_eq fw up
    have other : (!s.net.active) ≠ u.net.active := by
      rw [path]
      cases s.net.active <;> decide
    obtain ⟨net, frame, mem⟩ := netDown_other other
    obtain ⟨off, -, kept⟩ := down_off (!s.net.active) u.net
    rw [Bool.not_not] at kept
    have downPath : (u.netDown (!s.net.active)).net.active = s.net.active := by
      rw [net, down_active, path]
    obtain ⟨set_, clear, muted, ports, relPath⟩ := release_alone s.net.active (u.netDown (!s.net.active)).net
    have greets := hello_frame ((u.netDown (!s.net.active)).modNet (Net.release s.net.active))
    have keeps := hello_keeps (fun n => (n.active, n.aTxen, n.bTxen, n.aTxdis, n.bTxdis, n.a.pow, n.b.pow)) (fun _ => rfl)
      ((u.netDown (!s.net.active)).modNet (Net.release s.net.active))
    rw [← eq] at greets keeps
    simp only [Prod.mk.injEq] at keeps
    obtain ⟨active, aTxen, bTxen, aTxdis, bTxdis, aPow, bPow⟩ := keeps
    have txen (p : Bool) : (netPathPowered s).net.txen p = ((u.netDown (!s.net.active)).net.release s.net.active).txen p := by
      cases p
      · exact aTxen
      · exact bTxen
    have txdis (p : Bool) : (netPathPowered s).net.txdis p = ((u.netDown (!s.net.active)).net.release s.net.active).txdis p := by
      cases p
      · exact aTxdis
      · exact bTxdis
    have pow (p : Bool) : ((netPathPowered s).net.port p).pow = (((u.netDown (!s.net.active)).net.release s.net.active).port p).pow := by
      cases p
      · exact aPow
      · exact bPow
    have here : (netPathPowered s).net.active = s.net.active := active.trans (relPath.trans downPath)
    refine ⟨_, rfl, ?_, fun idle => ?_, ?_, here, ?_, (txen _).trans set_, (txen _).trans clear, (txdis _).trans muted⟩
    · rw [greets, State.modNet, frame, only]
    · rw [greets]
      refine (mem ?_).trans (by rw [only])
      rw [only]
      cases path : s.net.active
      · rw [path] at idle; exact idle
      · rw [path] at idle; exact idle
    · rw [activePort_eq, here, pow, ports, net, kept]
      exact on
    · rw [pow, ports, net]
      exact off
  · intro s runs fw hears
    have greets := hello_frame s
    have failing := hello_keeps (fun n => (n.failing, n.active)) (fun _ => rfl) s
    simp only [Prod.mk.injEq] at failing
    obtain ⟨ho, completes⟩ := completeFailover_completes (s := s.hello) (failing.1.trans runs)
    have clears : failingClear s = s.hello.completeFailover := by
      rw [failingClear, if_neg]
      rintro (no | no | no)
      · exact Bool.noConfusion (no.symm.trans runs)
      · exact Bool.noConfusion (no.symm.trans fw)
      · exact Bool.noConfusion (no.symm.trans hears)
    refine ⟨_, congrArg Host.Outcome.next (clears.trans completes), ?_, rfl, rfl, ?_, failing.2⟩
    · rw [greets]
    · rw [greets]; rfl
  · intro s s1 runs fw lost there
    have same : s1 = _ := reach_frame there
    have net : s1.net = s.net := by rw [same]
    obtain ⟨ho, completes⟩ := completeFailover_completes (s := s1) (by rw [net]; exact runs)
    have times : failoverTimeout s = s1.completeFailover := by
      rw [failoverTimeout, if_neg, there]
      rintro (no | no | no)
      · exact Bool.noConfusion (no.symm.trans runs)
      · exact Bool.noConfusion (no.symm.trans fw)
      · exact Bool.noConfusion (lost.symm.trans no)
    refine ⟨_, congrArg Host.Outcome.next (times.trans completes), rfl, rfl, rfl, rfl, fun again => ?_, fun first => ?_⟩
    · have reps : s1.net.repeated = s.net.repeats + 1 := by rw [net, Net.repeated, again]; rfl
      refine ⟨reps, fun three => ?_⟩
      show (s1.net.storm || decide (4 ≤ s1.net.repeated)) = true
      rw [reps, decide_eq_true (by omega), Bool.or_true]
    · have reps : s1.net.repeated = 0 := by rw [net, Net.repeated, first]; rfl
      refine ⟨reps, ?_⟩
      show (s1.net.storm || decide (4 ≤ s1.net.repeated)) = s.net.storm
      rw [reps, net]
      exact Bool.or_false _
  · intro s x done holds idle
    have frame := advanceFor_frame 1024 (x + (s.net.holddownS : Int) * 1000000000 - s.now).toNat s
    have expires : holddownExpire s = (((advanceFor 1024 (x + (s.net.holddownS : Int) * 1000000000 - s.now).toNat s).modNet
        (fun n => { n with holddown := false })).standingCheck) := by
      rw [holddownExpire, done]
      dsimp only
      rw [if_neg (by rw [holds]; exact Bool.noConfusion)]
    generalize advanceFor 1024 (x + (s.net.holddownS : Int) * 1000000000 - s.now).toNat s = u at frame expires
    rw [standingCheck_idle (by rw [frame]; exact idle)] at expires
    refine ⟨_, congrArg Host.Outcome.next expires, ?_, ?_, ?_, ?_⟩
    all_goals rw [frame]; rfl
  · intro s idle
    exact congrArg Host.Outcome.next (standingCheck_idle idle)
  · intro s hears
    exact congrArg Host.Outcome.next (if_pos hears)
  · intro s fw due two small
    have writes := snapshotWrite_writes fw due
    refine ⟨_, s.net.snapPlace.1, s.snapOf s.net.snapPlace.2, congrArg Host.Outcome.next writes, rfl,
      (newest_eq _).trans (snapPlace_newest two small), rfl, rfl, rfl, rfl, rfl, rfl, rfl, rfl, rfl, rfl, rfl, rfl, rfl, rfl, rfl, fun j other => ?_⟩
    exact getElem?_modAt_other other

/-! ### The steward's commands (R197, R278) -/

theorem netFailover_refused {h : Hdr} {s : State} {status : Nat} (no : (s.net.standbyFitted = false ∧ status = 0x0007) ∨
    (s.net.standbyFitted = true ∧ s.net.failing = true ∧ status = 0x0005)) : netFailover h s =
    ({ s with net := { s.net with ignored := sat16 s.net.ignored } } : State).complete h.port.val 0x0044 status h.tag 0 [] := by
  have refused : s.net.accepts false = false := by
    rw [Net.accepts]
    rcases no with ⟨none_, -⟩ | ⟨-, runs, -⟩
    · rw [none_]; rfl
    · rw [runs, Bool.not_true, Bool.and_false, Bool.false_and]
  rw [netFailover, failTrigger_refused refused]
  rcases no with ⟨none_, rfl⟩ | ⟨there, runs, rfl⟩
  · rw [if_pos none_]; rfl
  · rw [if_neg (by rw [there]; exact Bool.noConfusion), if_pos runs]; rfl

theorem netFailover_accepted {h : Hdr} {s : State} (there : s.net.standbyFitted = true) (free : s.net.failing = false) : netFailover h s =
    ((s.modNet (fun n => { n with storm := false })).startFailover 2 false none).complete h.port.val 0x0044 0 h.tag 0 (leBytes 1 (b2n (!s.net.active))) := by
  have ok : (s.modNet (fun n => { n with storm := false })).net.accepts false = true := by
    show (s.net.standbyFitted && !s.net.failing && (!false || _)) = true
    rw [there, free]
    rfl
  have active : ((s.modNet (fun n => { n with storm := false })).startFailover 2 false none).net.active = !s.net.active :=
    (startFailover_shows 2 false none (s.modNet (fun n => { n with storm := false }))).1
  rw [netFailover, if_neg (by rw [there]; exact Bool.noConfusion), if_neg (by rw [free]; exact Bool.noConfusion), failTrigger_accepted ok]
  dsimp only
  rw [active]
  rfl

end Sys2Proof.Machine

/-! PROOFS. HKC_SYSCAL and NET_FAILOVER (R197, R278). -/

namespace Sys2Proof.Machine

theorem turn_inAwake {h : Hdr} {code : Nat} {s s1 : State} (turn : Safe.turn h code s s1) (mode : inAwake s.sys.mode = true) :
    inAwake s1.sys.mode = true := by rw [turn_sys turn]; exact mode

theorem core_of_at {s : State} {n : Nat} {c : HkcCore} (at_ : s.hkc.cores[n]? = some c) : s.core n = c := getD_of_some at_ _

section
variable {h : Hdr} {s s1 : State}

/-- A converter command of the steward whose fields are in range acts. -/
theorem hkcSyscal_runs {core input stage : Nat} {fs : Int} (turn : Safe.turn h 0x0043 s s1) (granted : h.port.val = s.steward)
    (mode : inAwake s.sys.mode = true) (range : s.syscalRange core input stage fs = none) :
    exec (.hkcSyscal h core input stage fs) s = .next (hkcSyscal h core input stage fs s1) := by
  obtain ⟨flags, form⟩ := turn_form turn
  exact congrArg Host.Outcome.next (turn_runs turn rfl (check_granted flags form ((turn_steward turn).symm ▸ granted) (by simp)
    (turn_inAwake turn mode) (by simp) range))

theorem netFailover_runs (turn : Safe.turn h 0x0044 s s1) (granted : h.port.val = s.steward) (mode : inAwake s.sys.mode = true) :
    exec (.netFailover h) s = .next (netFailover h s1) := by
  obtain ⟨flags, form⟩ := turn_form turn
  exact congrArg Host.Outcome.next (turn_runs turn rfl (check_granted flags form ((turn_steward turn).symm ▸ granted) (by simp)
    (turn_inAwake turn mode) (by simp) rfl))

variable {core input : Nat} {c : HkcCore} {g : Nat}

/-- The fields of HKC_SYSCAL in range: a gain that no STEP 1 takes out of it (R278). -/
theorem syscalRange_ok {stage : Nat} {fs : Int} (user : core = 1 ∨ core = 2) (low : input ≤ 15) (three : stage ≤ 2) (at_ : s.hkc.cores[core]? = some c)
    (gain : c.gainOf input = some g) (full : stage = 1 → 2097152 ≤ syscalE1 g fs ∧ syscalE1 g fs ≤ 8388607) :
    s.syscalRange core input stage fs = none := by
  rw [State.syscalRange, if_neg (by omega), if_neg (by omega), if_neg (by omega)]
  by_cases one : stage = 1
  · obtain ⟨least, most⟩ := full one
    rw [if_pos one, core_of_at at_, gain]
    exact if_neg (by omega)
  · exact if_neg one

/-- A capture's start suspends a core that does not run, and lets a running one finish its conversion (R278). -/
theorem syscalStart_starts (stage : Nat) (q : Syscal) (at_ : s.hkc.cores[core]? = some c) : ∃ t, s.syscalStart h core input stage q = t ∧
    t = { s with hkc := t.hkc } ∧ t.hkc.sys = some q ∧ (c.st = .running → t.core core = c) ∧ (c.st ≠ .running → t.core core = { c with st := .syscal }) ∧
    t.hkc.sysRun = some { port := h.port.val, tag := h.tag, seq := s.turn h.port.val, core := core, input := input, step := stage,
                          resume := decide (c.st = .running), waits := decide (c.st = .running) } := by
  have its := core_of_at at_
  have moved (f : HkcCore → HkcCore) (k : Hkc → Hkc) (same : (k s.hkc).cores = s.hkc.cores) : ((s.modHkc k).modCore core f).core core = f c := by
    refine core_of_at ?_
    show (modAt f core (k s.hkc).cores)[core]? = _
    rw [same]
    exact getElem?_modAt_same at_
  refine ⟨_, rfl, rfl, rfl, fun runs => ?_, fun still => ?_, ?_⟩
  · refine (moved _ _ rfl).trans ?_
    rw [its, if_pos (decide_eq_true runs)]
  · refine (moved _ _ rfl).trans ?_
    rw [its, if_neg (by rw [decide_eq_true_eq]; exact still)]
  · show some _ = _
    rw [its]
end

/-- Settles O33: a system calibration step begins, is refused or stores its coefficients; a failover command is refused or accepted. -/
theorem syscalAndFailoverCommands : Obligations.SyscalAndFailoverCommands := by
  unfold Obligations.SyscalAndFailoverCommands
  refine ⟨fun s s1 h core input c g turn granted mode user low at_ en gain => ?_, fun s s1 h turn granted mode => ?_⟩
  · have frame := turn_frame turn
    have hkc : s1.hkc = s.hkc := by rw [frame]
    have at1 : s1.hkc.cores[core]? = some c := by rw [hkc]; exact at_
    have its := core_of_at at1
    refine ⟨fun busy => ?_, fun free => ?_, fun q fs free held isCore isInput zero least most => ?_, fun fs free none_ least most => ?_,
      fun q fs c0 gain2 x free held isCore isInput coef place there => ?_⟩
    · rw [hkcSyscal_runs turn granted mode (syscalRange_ok user low (by omega) at_ gain (by omega)), hkcSyscal]
      rw [if_pos (by rw [hkc]; exact busy)]
      rfl
    · obtain ⟨t, starts, shows⟩ := syscalStart_starts (h := h) (input := input) 0 { core := core, input := input } at1
      refine ⟨t, ?_, shows⟩
      rw [hkcSyscal_runs turn granted mode (syscalRange_ok user low (by omega) at_ gain (by omega)), hkcSyscal,
        if_neg (by rw [hkc, free]; exact Bool.noConfusion), its, gain]
      dsimp only
      rw [if_neg (by rw [en]; exact Bool.noConfusion)]
      exact congrArg Host.Outcome.next starts
    · obtain ⟨t, starts, frame_, sys, -, -, run⟩ := syscalStart_starts (h := h) (input := input) 1 { q with e1 := syscalE1 g fs, cf := none } at1
      refine ⟨t, ?_, frame_, sys, run⟩
      have zeroes : ¬ q.cz.isNone = true := by cases z : q.cz with
        | none => rw [z] at zero; cases zero
        | some => exact Bool.noConfusion
      have holds : s1.syscalOf core input = some q := by
        rw [State.syscalOf, hkc, held]
        exact if_pos ⟨isCore, isInput⟩
      rw [hkcSyscal_runs turn granted mode (syscalRange_ok user low (by omega) at_ gain (fun _ => ⟨least, most⟩)), hkcSyscal,
        if_neg (by rw [hkc, free]; exact Bool.noConfusion), its, gain]
      dsimp only
      rw [if_neg (by rw [en]; exact Bool.noConfusion), holds]
      dsimp only
      rw [if_neg zeroes]
      exact congrArg Host.Outcome.next starts
    · have holds : s1.syscalOf core input = none := by rw [State.syscalOf, hkc, none_]
      rw [hkcSyscal_runs turn granted mode (syscalRange_ok user low (by omega) at_ gain (fun _ => ⟨least, most⟩)), hkcSyscal,
        if_neg (by rw [hkc, free]; exact Bool.noConfusion), its, gain]
      dsimp only
      rw [if_neg (by rw [en]; exact Bool.noConfusion), holds]
      rfl
    · have holds : s1.syscalOf core input = some q := by
        rw [State.syscalOf, hkc, held]
        exact if_pos ⟨isCore, isInput⟩
      have coef1 : s1.syscalCoef q = some (c0, gain2) := by rw [frame]; exact coef
      have stores : exec (.hkcSyscal h core input 2 fs) s = .next (s1.syscalStore h x c0 gain2) := by
        rw [hkcSyscal_runs turn granted mode (syscalRange_ok user low (by omega) at_ gain (by omega)), hkcSyscal,
          if_neg (by rw [hkc, free]; exact Bool.noConfusion), its, gain]
        dsimp only
        rw [if_neg (by rw [en]; exact Bool.noConfusion), holds]
        dsimp only
        rw [coef1, ← place]
        rfl
      refine ⟨_, stores, ?_, ?_, ?_, fun y other => ?_, ?_, ?_⟩
      · rw [frame]; rfl
      · rw [← hkc]; rfl
      · exact getElem?_modAt_same (List.getElem?_eq_getElem (hkc ▸ there))
      · refine (getElem?_modAt_other other).trans ?_
        rw [hkc]
      · rw [← turn_sys turn]; rfl
      · rw [← turn_sys turn]; rfl
  · have frame := turn_frame turn
    have net : s1.net = s.net := by rw [frame]
    refine ⟨fun absent => ?_, fun there runs => ?_, fun there free => ?_⟩
    · rw [netFailover_runs turn granted mode, netFailover_refused (Or.inl ⟨by rw [net]; exact absent, rfl⟩), net]
    · rw [netFailover_runs turn granted mode, netFailover_refused (Or.inr ⟨by rw [net]; exact there, by rw [net]; exact runs, rfl⟩), net]
    · obtain ⟨active, failing, -, -, -, storm, -⟩ := startFailover_shows 2 false none (s1.modNet (fun n => { n with storm := false }))
      have kept := startFailover_frame 2 false none (s1.modNet (fun n => { n with storm := false }))
      rw [netFailover_runs turn granted mode, netFailover_accepted (by rw [net]; exact there) (by rw [net]; exact free)]
      generalize (s1.modNet (fun n => { n with storm := false })).startFailover 2 false none = u at active failing storm kept ⊢
      refine ⟨_, u, rfl, ?_, storm, failing, ?_, ?_, ?_⟩
      · rw [net]
      · refine active.trans ?_
        rw [← net]; rfl
      · show u.fab = _
        rw [kept, ← turn_fab turn]; rfl
      · show u.mem = _
        rw [kept, frame]; rfl

end Sys2Proof.Machine

/-! PROOFS. Images are staged and activated (O34). -/

namespace Sys2Proof.Machine

/-- What runs with the firmware (R210): no reset, no halt, no absence. -/
theorem firmware_parts {s : State} (fw : s.firmware = true) : s.sys.mode ≠ .churn ∧ s.sys.mode ≠ .restart ∧ s.sys.paused = false ∧ s.sys.halt = 0 ∧
    s.sys.resetting = none ∧ s.sys.held = false := by
  simp only [State.firmware, Bool.and_eq_true, Bool.not_eq_true', Option.isNone_iff_eq_none, decide_eq_true_eq] at fw
  obtain ⟨⟨⟨⟨⟨churn, restart⟩, paused⟩, halt⟩, reset⟩, held⟩ := fw
  exact ⟨churn, restart, paused, halt, reset, held⟩

/-! ### The slots -/

theorem image_set (slot : Nat) (i : Option ImageSlot) (f : Flash) : (flashSetImage slot i f).image slot = i := by
  unfold flashSetImage Flash.image
  by_cases zero : slot = 0
  · rw [if_pos zero, if_pos zero]
  · rw [if_neg zero, if_neg zero]

theorem image_set_other {slot : Nat} (two : slot ≤ 1) (i : Option ImageSlot) (f : Flash) : (flashSetImage (1 - slot) i f).image slot = f.image slot := by
  unfold flashSetImage Flash.image
  by_cases zero : slot = 0
  · rw [if_pos zero, if_neg (by omega), if_pos zero]
  · rw [if_neg zero, if_pos (by omega), if_neg zero]

/-! ### IMAGE_STAGE -/

/-- The staging that a command begins (R325, R327). -/
def State.stageOf (s : State) (h : Hdr) (bytes : List Byte) (len : Nat) : StageRun :=
  { port := h.port.val, tag := h.tag, seq := s.turn h.port.val, bytes := bytes.take (min len 0x7F0000) }

/-- A staging begins with the slot not running erased, while the flash answers (R327). -/
theorem imageStage_begins {h : Hdr} {bytes : List Byte} {len : Nat} {s : State} (free : s.sys.stageRun = none) : ∃ y, imageStage h bytes len s = { s with
    sys := y } ∧ y.staged = none ∧ y.stageRun = some (s.stageOf h bytes len) ∧
    (s.sys.wouldQueue = false → y.flash = s.sys.flash.map (flashSetImage (1 - s.sys.imgSlot) none)) := by
  unfold imageStage State.stageOf
  rw [free, if_neg (by simp)]
  dsimp only
  cases waits : s.sys.wouldQueue with
  | true =>
    rw [if_pos rfl]
    exact ⟨_, rfl, rfl, rfl, nofun⟩
  | false =>
    rw [if_neg Bool.noConfusion]
    exact ⟨_, rfl, rfl, rfl, fun _ => rfl⟩

/-- The end of a staging, while the flash answers (R327). -/
theorem imageStageDone_ends {s : State} {r : StageRun} (run : s.sys.stageRun = some r) (fw : s.firmware = true) (answers : s.sys.wouldQueue = false)
    {readBack ok : Bool} (verdict : s.stagedOk readBack r.bytes = ok) : imageStageDone readBack s =
    (({ s with sys := { s.sys with
        stageRun := none, flash := s.sys.flash.map (flashSetImage (1 - s.sys.imgSlot) (some { bytes := r.bytes })),
        staged := if ok then some (1 - s.sys.imgSlot) else none } } : State)).completeSeq r.port r.seq 0x0048 (if ok then 0 else 0x0016) r.tag 0
      (if ok then leBytes 1 (1 - s.sys.imgSlot) else []) := by
  rw [imageStageDone, run]
  dsimp only
  rw [if_neg (by rw [fw]; exact Bool.noConfusion), if_neg (by rw [answers]; exact Bool.noConfusion), verdict]
  cases ok <;> rfl

/-- A staged image is no good where one of R327's checks fails. -/
theorem stagedOk_false {s : State} {readBack : Bool} {bytes : List Byte} (bad : readBack = false ∨ newerGen (readHdr bytes).generation s.sys.genImg = false ∨
    (checkSlot false (if s.sys.lc = .sealed_ then some s.sys.keyHash else none) (if s.time.refValid then some s.time.refFreq else none)
      { bytes := bytes }).isSome = true) : s.stagedOk readBack bytes = false := by
  unfold State.stagedOk
  dsimp only
  rcases bad with no | no | no
  · rw [no, Bool.false_and, Bool.false_and]
  · rw [no, Bool.and_false, Bool.false_and]
  · rw [← Option.not_isSome, no, Bool.not_true, Bool.and_false]

/-! ### IMAGE_ACTIVATE -/

/-- The activation begins the steward reset, with the staged slot's ACT word programmed where the flash answers (R220, R328). -/
theorem activate_begins {s : State} (fw : s.firmware = true) : ∃ cs ps, s.activate =
    ({ s with sys := { s.sys with flash := match s.sys.staged with
        | none => s.sys.flash
        | some k => if s.sys.wouldQueue then s.sys.flash else s.sys.flash.map (programAct k) } } : State).inRamp .steward cs ps := by
  obtain ⟨-, -, -, halt, reset, held⟩ := firmware_parts fw
  obtain ⟨cs, ps, begins, -⟩ := beginReset_ramp (k := .steward) (s := ({ s with sys := { s.sys with flash := match s.sys.staged with
        | none => s.sys.flash
        | some k => if s.sys.wouldQueue then s.sys.flash else s.sys.flash.map (programAct k) } } : State)) held reset (Or.inl halt)
  exact ⟨cs, ps, begins⟩

/-- A release is announced to hosts, and waits for its grace (R220). -/
theorem announce_frame (h : Hdr) (ms : Nat) (s : State) : s.announce h ms = { s with
    sys := { s.sys with release := true, grace := some { port := h.port.val, tag := h.tag } }, hosts := (s.announce h ms).hosts } := by
  unfold State.announce
  dsimp only
  obtain ⟨l, told⟩ : ∃ l, (([0, 1, 2, 3] : List Nat).filter (fun p => decide (0 < s.circuitsOfHost p))).foldl (fun (u : State) (p : Nat) =>
      u.notify p 5 (leBytes 2 ms ++ leBytes 1 (min 255 (u.circuitsOfHost p))) []) s = { s with hosts := l } := by
    generalize ([0, 1, 2, 3] : List Nat).filter (fun p => decide (0 < s.circuitsOfHost p)) = ports
    induction ports generalizing s with
    | nil => exact ⟨_, rfl⟩
    | cons p rest ih =>
      obtain ⟨l, eq⟩ := ih (s.notify p 5 (leBytes 2 ms ++ leBytes 1 (min 255 (s.circuitsOfHost p))) [])
      exact ⟨l, eq⟩
  rw [told]
  rfl

section
variable {h : Hdr} {s s1 : State}

theorem imageActivate_runs {ms : Nat} (turn : Safe.turn h 0x0049 s s1) (granted : h.port.val = s.steward) (mode : inAny s.sys.mode = true)
    (range : ms ≤ 10000) : exec (.imageActivate h ms) s = .next (imageActivate h ms s1) := by
  obtain ⟨flags, form⟩ := turn_form turn
  exact congrArg Host.Outcome.next (turn_runs turn rfl (check_granted flags form ((turn_steward turn).symm ▸ granted) (by simp)
    (turn_inAny turn mode) (by simp) (if_neg (by omega))))

theorem imageStage_runs {bytes : List Byte} {a len : Nat} (turn : Safe.turn h 0x0048 s s1) (granted : h.port.val = s.steward)
    (mode : inAny s.sys.mode = true) (range : a < 2 ^ 64) : exec (.imageStage h bytes a len) s = .next (imageStage h bytes len s1) := by
  obtain ⟨flags, form⟩ := turn_form turn
  exact congrArg Host.Outcome.next (turn_runs turn rfl (check_granted flags form ((turn_steward turn).symm ▸ granted) (by simp)
    (turn_inAny turn mode) (by simp) (if_neg (by omega))))
end

/-- Settles O34: an image is staged into the slot not running, checked, and activated at once, refused or after an announced grace. -/
theorem imagesStageAndActivate : Obligations.ImagesStageAndActivate := by
  unfold Obligations.ImagesStageAndActivate
  refine ⟨?_, ?_, ?_, ?_⟩
  · intro s s1 h bytes a len turn mode granted range free
    have sys := turn_sys turn
    obtain ⟨y, begins, staged, run, flash⟩ := imageStage_begins (h := h) (bytes := bytes) (len := len) (s := s1) (by rw [sys]; exact free)
    refine ⟨_, _, (imageStage_runs turn granted mode range).trans (congrArg _ begins), rfl, staged, run, rfl, rfl, rfl, ?_, fun f there answers => ?_⟩
    · exact (congrArg (bytes.take ·) (Nat.min_comm _ _)).trans List.take_take.symm
    · rw [sys] at flash
      rw [there] at flash
      exact ⟨_, flash answers, image_set _ _ _, fun two => image_set_other two _ _⟩
  · intro s r ok run fw answers
    refine ⟨fun bad => ?_, fun read newer good => ?_⟩
    · exact ⟨_, congrArg Host.Outcome.next (imageStageDone_ends run fw answers (stagedOk_false bad)), rfl, rfl, rfl, rfl⟩
    · have verdict : s.stagedOk ok r.bytes = true := by
        unfold State.stagedOk
        dsimp only
        rw [read, newer, good]
        rfl
      refine ⟨_, congrArg Host.Outcome.next (imageStageDone_ends run fw answers verdict), rfl, rfl, fun f there => ?_, rfl⟩
      exact ⟨_, congrArg (Option.map _) there, image_set _ _ _⟩
  · intro s s1 h ms k turn mode granted range idle
    have sys := turn_sys turn
    have fab := turn_fab turn
    have waits : ¬ s1.sys.grace.isSome = true := by rw [sys, idle]; exact Bool.noConfusion
    have staged_ (its : s.sys.staged = some k) : ¬ s1.sys.staged.isNone = true := by rw [sys, its]; exact Bool.noConfusion
    have live (some_ : s.fab.circuits ≠ []) : ¬ s1.fab.circuits.isEmpty = true := by rw [fab, List.isEmpty_iff]; exact some_
    refine ⟨fun none_ => ?_, fun its none_ => ?_, fun its some_ polite => ?_, fun its some_ force => ?_⟩
    · rw [imageActivate_runs turn granted mode range, imageActivate, if_neg waits, if_pos (by rw [sys, none_]; rfl)]
      rfl
    · obtain ⟨cs, ps, begins⟩ := activate_begins (turn_firmware turn)
      refine ⟨s1.activate, ?_, by rw [begins]; rfl, fun f q there answers two image => ?_⟩
      · rw [imageActivate_runs turn granted mode range, imageActivate, if_neg waits, if_neg (staged_ its), if_pos (by rw [fab, none_]; rfl)]
      · rw [begins]
        refine ⟨programAct k f, ?_, (image_set _ _ _).trans (by rw [image]; rfl)⟩
        show (match s1.sys.staged with
          | none => s1.sys.flash
          | some k => if s1.sys.wouldQueue then s1.sys.flash else s1.sys.flash.map (programAct k)) = _
        rw [sys, its]
        dsimp only
        rw [answers, there]
        rfl
    · rw [imageActivate_runs turn granted mode range, imageActivate, if_neg waits, if_neg (staged_ its), if_neg (live some_),
        if_neg (by rw [polite]; exact Bool.noConfusion), fab]
      rfl
    · have announced := announce_frame h ms s1
      refine ⟨s1.announce h ms, ?_, ?_, ?_, ?_, ?_⟩
      · rw [imageActivate_runs turn granted mode range, imageActivate, if_neg waits, if_neg (staged_ its), if_neg (live some_), if_pos force]
      · rw [announced, turn_frame turn]
      · rw [announced]
      · rw [announced]
        exact (firmware_parts (turn_firmware turn)).2.2.2.2.1
      · rw [announced]
  · intro s waits fw
    obtain ⟨cs, ps, begins⟩ := activate_begins fw
    refine ⟨_, congrArg Host.Outcome.next ((if_pos (by rw [waits, fw]; rfl)).trans begins), rfl, rfl, rfl⟩

end Sys2Proof.Machine

/-! PROOFS. Firmware's absence and return (O38). -/

namespace Sys2Proof.Machine

/-- CALIBRATE, with the spare engine of row 0 on its way to replace a failed one. -/
def calibrateSparing : State :=
  { State.reset with sys := { State.reset.sys with mode := .calibrate, halt := 0, held := false, resetting := none, paused := false },
                     spares := setAt { st := .loading } 0 State.reset.spares }

theorem calibrateSparing_firmware : calibrateSparing.firmware = true := rfl

/-- The reset that a fault in CALIBRATE begins stops the substitution (log 133). -/
theorem calibrateSparing_stops : calibrateSparing.firmwareFails.spare 0 ≠ calibrateSparing.spare 0 := by
  have stops : (calibrateSparing.firmwareFails.spare 0).st = .off := by decide +kernel
  intro same
  rw [same] at stops
  cases stops

/-- Refutes O38: a firmware fault in CALIBRATE begins the watchdog reset, whose ramp turns off a spare engine that is being substituted
(log 133), so the spares are not as they were. -/
theorem not_firmwareFailsAndReturns : ¬ Obligations.FirmwareFailsAndReturns := by
  unfold Obligations.FirmwareFailsAndReturns
  rintro ⟨faults, -⟩
  obtain ⟨-, resets, -⟩ := faults calibrateSparing calibrateSparing_firmware
  obtain ⟨t, fails, frame, -⟩ := resets (.inr rfl)
  have its : calibrateSparing.firmwareFails = t := Host.Outcome.next.inj fails
  refine calibrateSparing_stops ?_
  rw [its, frame]
  rfl

end Sys2Proof.Machine

/-! PROOFS. The transitions of DARK, and the calibration sweep (O39). -/

namespace Sys2Proof.Machine

/-! ### DARK -/

theorem darkDeferred_downs {s : State} {c : Nat} (fw : s.firmware = true) (waits : s.sys.darkWait.contains c = true) (closed : s.openNames c = false)
    (may : s.darkMay c = true) : darkDeferred c s = s.darkDown c := by
  rw [darkDeferred, if_neg, if_pos may]
  rw [fw, waits, closed]
  rintro (no | no | no) <;> cases no

theorem finishMode_frame (m : Mode) (s : State) : s.finishMode m =
    { s with sys := { s.sys with modeCmd := none }, hosts := (s.finishMode m).hosts } := by
  unfold State.finishMode
  cases none_ : s.sys.modeCmd with
  | none =>
    dsimp only
    rw [← none_]
  | some q => rfl

/-- Notices do not look at the entry to DARK. -/
theorem notifyAll_entered (k : Nat) (b : List Byte) (s : State) : ({ s with sys := { s.sys with darkEntering := false } } : State).notifyAll k b =
    { s.notifyAll k b with sys := { s.sys with darkEntering := false } } := by
  have told : (List.range 4).foldl (fun (u : State) p => u.notify p k b []) ({ s with sys := { s.sys with darkEntering := false } } : State) =
      { (List.range 4).foldl (fun (u : State) p => u.notify p k b []) s with sys := { s.sys with darkEntering := false } } := rfl
  unfold State.notifyAll
  rw [told, notices_frame k b _ s]
  generalize ((List.range 4).foldl (fun (u : State) p => u.notify p k b []) s).hosts = ho
  unfold State.owesLog
  cases s.rcd.on <;> rfl

/-- Owed completions change the ports alone. -/
theorem completions_frame (f : ModeCmd → State → State) (one : ∀ q u, f q u = { u with hosts := (f q u).hosts }) (l : List ModeCmd) (s : State) :
    l.foldl (fun (s : State) (q : ModeCmd) => f q s) s = { s with hosts := (l.foldl (fun (s : State) (q : ModeCmd) => f q s) s).hosts } := by
  induction l generalizing s with
  | nil => rfl
  | cons q l ih => rw [List.foldl_cons, ih, one]

theorem darkLeft_frame (s : State) : ∃ ho ld, s.darkLeft = { s with
    sys := { s.sys with darkExiting := false, waitOut := [], darkNext := [], mode := if s.thm.anyThr then .derated else .service, modeCmd := none },
    hosts := ho, rcd := { s.rcd with logDue := ld } } := by
  unfold State.darkLeft
  dsimp only
  generalize (if s.thm.anyThr = true then Mode.derated else Mode.service) = m
  obtain ⟨ho, ld, sets⟩ := setMode_eq m ({ s with sys := { s.sys with darkExiting := false, waitOut := [], darkNext := [] } } : State)
  rw [completions_frame (fun q s => s.completeSeq q.port q.seq q.code stOk q.tag 0 (leBytes 1 m.code)) (fun _ _ => rfl), finishMode_frame, sets]
  exact ⟨_, ld, rfl⟩

/-! ### The NVM while it answers -/

theorem wouldQueue_false {y : Sys} : y.wouldQueue = false ↔ y.flash.isSome = true ∧ y.absent = false ∧ y.foreign = false ∧ y.answers = true := by
  rw [Sys.wouldQueue, Bool.or_eq_false_iff, Bool.or_eq_false_iff, Bool.or_eq_false_iff, Option.isNone_eq_false_iff, Bool.not_eq_false', and_assoc, and_assoc]

theorem tested_answers {y : Sys} (answers : y.wouldQueue = false) : y.tested = y := by
  obtain ⟨there, -, -, ok⟩ := wouldQueue_false.1 answers
  rw [Sys.tested, ok, if_neg]
  cases held : y.flash with
  | none => rw [held] at there; cases there
  | some f => exact Bool.noConfusion

/-- A record is written while the flash answers (R333). -/
theorem nvmWrite_answers {y : Sys} {f : Flash} (held : y.flash = some f) (answers : y.wouldQueue = false) (r : NvmRecord) :
    y.nvmWrite r = { y with flash := some (flashPut y.atlSlot r f) } := by
  rw [Sys.nvmWrite, tested_answers answers, held]
  exact if_neg (by rw [answers]; exact Bool.noConfusion)

theorem nvmWrite_stays {y : Sys} (answers : y.wouldQueue = false) (r : NvmRecord) : (y.nvmWrite r).wouldQueue = false := by
  obtain ⟨there, -⟩ := wouldQueue_false.1 answers
  obtain ⟨f, held⟩ := Option.isSome_iff_exists.1 there
  rw [nvmWrite_answers held answers]
  rw [wouldQueue_false] at answers ⊢
  exact ⟨rfl, answers.2⟩

/-! ### What a sweep has measured is filed -/

/-- A sweep less what it has filed. -/
def Sweep.unfiled (w : Sweep) : Sweep := { w with filed := [], portsFiled := false }

/-- The filing of a sweep: only the NVM's own state and what the sweep has filed move (R331). -/
structure Files (s t : State) : Prop where
  frame : t = { s with sys := { s.sys with
    absent := t.sys.absent, present := t.sys.present, queue := t.sys.queue, dropped := t.sys.dropped, flash := t.sys.flash, sweep := t.sys.sweep } }
  sweep : t.sys.sweep.map Sweep.unfiled = s.sys.sweep.map Sweep.unfiled
  answers : s.sys.wouldQueue = false → t.sys.wouldQueue = false
  grows : ∀ w u c, s.sys.sweep = some w → t.sys.sweep = some u → c ∈ w.filed → c ∈ u.filed

theorem Files.refl (s : State) : Files s s :=
  ⟨rfl, rfl, id, fun w u c held same mem => by rw [held] at same; cases same; exact mem⟩

theorem Files.trans {s t u : State} (f : Files s t) (g : Files t u) : Files s u := by
  refine ⟨g.frame.trans (by rw [f.frame]), g.sweep.trans f.sweep, fun ok => g.answers (f.answers ok), fun w v c held last mem => ?_⟩
  cases mid : t.sys.sweep with
  | none =>
    have none_ := f.sweep
    rw [mid, held] at none_
    cases none_
  | some x => exact g.grows x v c mid last (f.grows w x c held mid mem)

theorem files_tested (s : State) : Files s { s with sys := s.sys.tested } := by
  have frame := sysTested_frame s.sys
  refine ⟨by rw [frame], by rw [frame], fun ok => ?_, fun w u c held same mem => ?_⟩
  · rw [tested_answers ok]; exact ok
  · rw [frame] at same
    cases held.symm.trans same
    exact mem

theorem files_nvmWrite (r : NvmRecord) (s : State) : Files s (s.nvmWrite r) := by
  have frame := sysNvmWrite_frame r s.sys
  refine ⟨?_, ?_, fun ok => nvmWrite_stays ok r, fun w u c held same mem => ?_⟩
  · rw [State.nvmWrite]
    generalize s.sys.nvmWrite r = y at frame
    rw [frame]
  · rw [State.nvmWrite, frame]
  · have its : (s.sys.nvmWrite r).sweep = s.sys.sweep := by rw [frame]
    cases held.symm.trans (its.symm.trans same)
    exact mem

/-- A sweep with more of it filed. -/
theorem files_put {s : State} {w v : Sweep} (held : s.sys.sweep = some w) (same : v.unfiled = w.unfiled) (more : ∀ c ∈ w.filed, c ∈ v.filed) :
    Files s { s with sys := { s.sys with sweep := some v } } := by
  refine ⟨rfl, ?_, id, fun w' u c its last mem => ?_⟩
  · rw [held]; exact congrArg some same
  · cases held.symm.trans its
    cases last
    exact more c mem

theorem files_sweep {s t : State} (f : Files s t) {w : Sweep} (held : s.sys.sweep = some w) :
    ∃ u, t.sys.sweep = some u ∧ u.unfiled = w.unfiled ∧ ∀ c ∈ w.filed, c ∈ u.filed := by
  have sweep := f.sweep
  rw [held] at sweep
  cases its : t.sys.sweep with
  | none => rw [its] at sweep; cases sweep
  | some u => rw [its] at sweep; exact ⟨u, rfl, Option.some.inj sweep, fun c mem => f.grows w u c held its mem⟩

/-- Two records written, and the sweep with more of it filed. -/
theorem files_unit {s : State} {w v : Sweep} (held : s.sys.sweep = some w) (same : v.unfiled = w.unfiled) (more : ∀ c ∈ w.filed, c ∈ v.filed)
    (r q : NvmRecord) : Files s { (s.nvmWrite r).nvmWrite q with sys := { ((s.nvmWrite r).nvmWrite q).sys with sweep := some v } } := by
  refine ((files_nvmWrite r s).trans (files_nvmWrite q _)).trans (files_put (w := w) ?_ same more)
  show ((s.sys.nvmWrite r).nvmWrite q).sweep = _
  rw [sysNvmWrite_frame q, sysNvmWrite_frame r]
  exact held

/-- A cluster is filed, once it has been measured, while the flash answers (R331). -/
theorem fileCluster_files (c : Nat) (s : State) : Files s (s.fileCluster c) ∧
    (s.sys.wouldQueue = false → ∀ w u, s.sys.sweep = some w → (s.fileCluster c).sys.sweep = some u → c < w.done → c ∈ u.filed) := by
  have tested := files_tested s
  unfold State.fileCluster
  dsimp only
  cases held : s.sys.tested.sweep with
  | none =>
    refine ⟨tested, fun ok w u its => ?_⟩
    rw [tested_answers ok, its] at held
    cases held
  | some w =>
    dsimp only
    split
    · rename_i skip
      refine ⟨tested, fun ok v u its last low => ?_⟩
      rw [tested_answers ok] at held skip last
      cases held.symm.trans its
      cases held.symm.trans last
      rw [ok, Bool.false_or, Bool.or_eq_true, decide_eq_true_eq, List.contains_iff_mem] at skip
      exact skip.resolve_right (by omega)
    · refine ⟨tested.trans (files_unit (w := w) (v := { w with filed := w.filed ++ [c] }) held rfl (fun d mem => List.mem_append_left _ mem) _ _),
        fun ok v u its last low => ?_⟩
      cases last
      exact List.mem_append_right _ List.mem_cons_self

theorem filePorts_files (s : State) : Files s s.filePorts := by
  have tested := files_tested s
  unfold State.filePorts
  dsimp only
  cases held : s.sys.tested.sweep with
  | none => exact tested
  | some w =>
    dsimp only
    split
    · exact tested
    · exact tested.trans (files_unit (w := w) (v := { w with portsFiled := true }) held rfl (fun d mem => mem) _ _)

/-- Clusters filed in turn: each that has been measured, while the flash answers. -/
theorem fileClusters_files (cs : List Nat) (s : State) : Files s (cs.foldl (fun s c => s.fileCluster c) s) ∧
    (s.sys.wouldQueue = false → ∀ w u, s.sys.sweep = some w → (cs.foldl (fun s c => s.fileCluster c) s).sys.sweep = some u →
      ∀ c ∈ cs, c < w.done → c ∈ u.filed) := by
  induction cs generalizing s with
  | nil => exact ⟨.refl s, fun _ _ _ _ _ c mem => nomatch mem⟩
  | cons d cs ih =>
    obtain ⟨one, files⟩ := fileCluster_files d s
    obtain ⟨rest, later⟩ := ih (s.fileCluster d)
    refine ⟨one.trans rest, fun ok w u held last c mem low => ?_⟩
    obtain ⟨v, mid, same, -⟩ := files_sweep one held
    rcases List.mem_cons.1 mem with rfl | mem
    · exact rest.grows v u c mid last (files ok w v held mid low)
    · have done : v.unfiled.done = w.unfiled.done := congrArg Sweep.done same
      exact later (one.answers ok) v u mid last c mem (low.trans_eq done.symm)

theorem fileSweep_files (s : State) : Files s s.fileSweep ∧ (s.sys.wouldQueue = false → ∀ w u, s.sys.sweep = some w → s.fileSweep.sys.sweep = some u →
    ∀ c ∈ s.calClusters, c < w.done → c ∈ u.filed) := by
  obtain ⟨clusters, filed⟩ := fileClusters_files s.calClusters s
  have ports := filePorts_files (s.calClusters.foldl (fun s c => s.fileCluster c) s)
  refine ⟨clusters.trans ports, fun ok w u held last c mem low => ?_⟩
  obtain ⟨v, mid, -, -⟩ := files_sweep clusters held
  exact ports.grows v u c mid last (filed ok w v held mid c mem low)

theorem mem_calClusters {s : State} {c : Nat} : c ∈ s.calClusters ↔ c < 256 ∧ s.cellInsts c ≠ [] := by
  rw [State.calClusters, List.mem_filter, List.mem_range, Bool.not_eq_true', List.isEmpty_eq_false_iff]

/-! ### The end of a sweep -/

/-- What a commit leaves in the NVM, with the new atlas in use (R331). -/
def Sys.committed (w : Sweep) (a : AtlasSlot) (note : JournalEntry) (y : Sys) : Sys :=
  ((if y.tested.wouldQueue then y.tested.nvmWrite (.atlas w.slot a) else (y.tested.nvmWrite (.list w.slot a.retire)).nvmWrite (.header w.slot a)).nvmWrite
    (.journal note)).useAtlas (some (w.slot, a))

theorem commitSweep_eq (w : Sweep) (a : AtlasSlot) (s : State) : s.commitSweep w a =
    ((({ s with sys := s.sys.committed w a (s.note w 4 0 0) } : State).forgetRetired).calDone stOk).leaveCalibrate := by
  unfold State.commitSweep Sys.committed
  dsimp only
  split <;> rfl

theorem committed_uses (w : Sweep) (a : AtlasSlot) (note : JournalEntry) (y : Sys) : (y.committed w a note).atlas = some a ∧
    (y.committed w a note).atlSlot = w.slot ∧ (y.committed w a note).genAtl = a.generation ∧ (y.committed w a note).retire = a.retire :=
  ⟨rfl, rfl, rfl, rfl⟩

theorem atlas_set (slot : Nat) (a : Option AtlasSlot) (f : Flash) : (flashSetAtlas slot a f).atlas slot = a := by
  unfold flashSetAtlas Flash.atlas
  by_cases zero : slot = 0
  · rw [if_pos zero, if_pos zero]
  · rw [if_neg zero, if_neg zero]

theorem atlas_putJournal (e : JournalEntry) (slot : Nat) (f : Flash) : (f.putJournal e).atlas slot = f.atlas slot := by
  unfold Flash.putJournal
  split <;> rfl

/-- A commit's header goes into the slot last, with the list just written (R331). -/
theorem committed_flash {w : Sweep} {a : AtlasSlot} {note : JournalEntry} {y : Sys} (answers : y.wouldQueue = false) :
    ∃ f q, (y.committed w a note).flash = some f ∧ f.atlas w.slot = some q ∧ q.headed = a.headed ∧ q.generation = a.generation ∧
      q.hdrCrc = a.hdrCrc ∧ q.retire = a.retire := by
  obtain ⟨there, -⟩ := wouldQueue_false.1 answers
  obtain ⟨f, held⟩ := Option.isSome_iff_exists.1 there
  have lists := nvmWrite_stays answers (.list w.slot a.retire)
  have heads := nvmWrite_stays lists (.header w.slot a)
  rw [Sys.committed, tested_answers answers, if_neg (by rw [answers]; exact Bool.noConfusion)]
  rw [nvmWrite_answers held answers] at lists heads ⊢
  rw [nvmWrite_answers rfl lists] at heads ⊢
  rw [nvmWrite_answers rfl heads]
  refine ⟨_, _, rfl, (atlas_putJournal _ _ _).trans (atlas_set _ _ _), rfl, rfl, rfl, ?_⟩
  show (flashDraft w.slot (flashSetAtlas w.slot (some { flashDraft w.slot f with retire := a.retire }) f)).retire = _
  rw [flashDraft, atlas_set]
  rfl

theorem calDone_frame (status : Nat) (s : State) : s.calDone status =
    { s with sys := { s.sys with calAsked := false }, hosts := (s.calDone status).hosts } := by
  unfold State.calDone
  cases asked : s.sys.calAsked with
  | true => rfl
  | false =>
    rw [if_neg Bool.noConfusion, ← asked]

/-- A cluster whose cells forget the old list (R87). -/
def Cluster.unretired (k : Cluster) : Cluster :=
  { k with cells := k.cells.map (fun c => { c with eng := { c.eng with st := if c.eng.st = .retired then .off else c.eng.st, honly := false } }) }

theorem unretired_blank : Cluster.unretired {} = {} := rfl

theorem forgetRetired_clu (s : State) (c : Nat) : s.forgetRetired.clu c = (s.clu c).unretired := clu_map s.clusters unretired_blank c

/-- A commit enters SERVICE with every running cluster on its ramp down (R315). -/
theorem commitSweep_commits (w : Sweep) (a : AtlasSlot) (s : State) : Safe.rampsDown s (s.commitSweep w a) ∧
    (s.commitSweep w a).sys.mode = .service ∧ (s.commitSweep w a).sys.sweep = none ∧ (s.commitSweep w a).fab = s.fab ∧
    (s.commitSweep w a).sys.atlas = some a ∧ (s.commitSweep w a).sys.atlSlot = w.slot ∧ (s.commitSweep w a).sys.genAtl = a.generation ∧
    (s.commitSweep w a).sys.retire = a.retire ∧ (s.commitSweep w a).sys.flash = (s.sys.committed w a (s.note w 4 0 0)).flash := by
  obtain ⟨atlas, slot, gen, list⟩ := committed_uses w a (s.note w 4 0 0) s.sys
  rw [commitSweep_eq]
  generalize s.sys.committed w a (s.note w 4 0 0) = y at atlas slot gen list
  have pow (c : Nat) : ((({ s with sys := y } : State).forgetRetired).clu c).pow = (s.clu c).pow := by
    rw [forgetRetired_clu]
    rfl
  have kept : ({ s with sys := y } : State).forgetRetired = { s with
      sys := { y with reasons := [] }, clusters := ({ s with sys := y } : State).forgetRetired.clusters } := rfl
  generalize ({ s with sys := y } : State).forgetRetired = u at pow kept
  have done := calDone_frame stOk u
  generalize u.calDone stOk = v at done
  obtain ⟨ho, ld, leaves⟩ := leaveCalibrate_leaves v
  have ramps := sweepDown_ramps ({ v with sys := { v.sys with sweep := none } } : State)
  generalize ({ v with sys := { v.sys with sweep := none } } : State).sweepDown = x at ramps leaves
  refine ⟨rampsDown_of (u := ({ v with sys := { v.sys with sweep := none } } : State)) (fun c => ?_) (rampsDown_clusters ramps (by rw [leaves])),
    by rw [leaves], by rw [leaves], ?_, ?_, ?_, ?_, ?_, ?_⟩
  · refine Eq.trans ?_ (pow c)
    rw [done]
    rfl
  all_goals rw [leaves, done, kept]
  · exact atlas
  · exact slot
  · exact gen
  · exact list

/-- A sweep that fails leaves the atlas as it was, and the mode (log 106). -/
theorem failSweep_fails (w : Sweep) (s : State) : (s.failSweep w).sys.sweep = none ∧ (s.failSweep w).sys.atlas = s.sys.atlas ∧
    (s.failSweep w).sys.mode = s.sys.mode ∧ (s.failSweep w).clusters = s.clusters := by
  have frame := sysNvmWrite_frame (.journal (s.note w 5 0 0)) s.sys
  unfold State.failSweep State.nvmWrite
  generalize s.sys.nvmWrite (.journal (s.note w 5 0 0)) = y at frame
  dsimp only
  rw [calDone_frame, frame]
  exact ⟨rfl, rfl, rfl, rfl⟩

/-! ### What a sweep takes -/

theorem mem_sweepTake {s : State} {m : AtlasSlot} {n : Nat} {w : Sweep} {q : Nat × AtlasCell} : q ∈ (s.sweepTake m n w).made.cells ↔
    q ∈ w.made.cells ∨ ∃ r, (q.1, r) ∈ m.cells ∧ w.done ≤ q.1 / 32 ∧ q.1 / 32 < n ∧ (s.entry q.1).role ≠ 0 ∧ q.2 = s.sweptCell q.1 r := by
  rw [State.sweepTake, List.mem_append, List.mem_map]
  refine or_congr Iff.rfl ⟨?_, ?_⟩
  · rintro ⟨⟨k, r⟩, mem, rfl⟩
    simp only [List.mem_filter, Bool.and_eq_true, decide_eq_true_eq] at mem
    obtain ⟨mem, ⟨due, low⟩, role⟩ := mem
    exact ⟨r, mem, due, low, role, rfl⟩
  · rintro ⟨r, mem, due, low, role, its⟩
    refine ⟨(q.1, r), ?_, Prod.ext rfl its.symm⟩
    simp only [List.mem_filter, Bool.and_eq_true, decide_eq_true_eq]
    exact ⟨mem, ⟨due, low⟩, role⟩

/-- The sweep's own view of the image, the time and the list in use does not change as it is filed. -/
theorem files_swept {s t : State} (f : Files s t) {w u : Sweep} (same : u.unfiled = w.unfiled) (found : List RetireEntry) :
    t.sweptAtlas u found = s.sweptAtlas w found ∧ t.image = s.image ∧ t.sweptBad = s.sweptBad := by
  have made : u.unfiled.made = w.unfiled.made := congrArg Sweep.made same
  have gen : u.unfiled.gen = w.unfiled.gen := congrArg Sweep.gen same
  refine ⟨?_, ?_, ?_⟩
  · unfold State.sweptAtlas
    rw [show u.made = w.made from made, show u.gen = w.gen from gen, f.frame]
    rfl
  · rw [f.frame]; rfl
  · rw [f.frame]; rfl

/-- A sweep's report, taken and filed (R331). -/
theorem calSweepDone_files {s : State} {m : AtlasSlot} {n : Nat} {w : Sweep} (held : s.sys.sweep = some w) (mode : s.sys.mode = .calibrate)
    (fw : s.firmware = true) (cool : s.thm.anyThr = false) : ∃ u x : State, ∃ v, Files u x ∧ u = { s with sys := { s.sys with sweep := some (s.sweepTake m n w) } } ∧
      x.sys.sweep = some v ∧ v.unfiled = (s.sweepTake m n w).unfiled ∧
      (s.sys.wouldQueue = false → ∀ c ∈ s.calClusters, c < (s.sweepTake m n w).done → c ∈ v.filed) ∧
      calSweepDone m n s = if 258 ≤ n then x.endSweep m.retire else x := by
  obtain ⟨files, filed⟩ := fileSweep_files ({ s with sys := { s.sys with sweep := some (s.sweepTake m n w) } } : State)
  obtain ⟨v, its, same, -⟩ := files_sweep files (w := s.sweepTake m n w) rfl
  refine ⟨_, _, v, files, rfl, its, same, fun ok c mem low => filed ok _ v rfl its c mem low, ?_⟩
  rw [calSweepDone, held]
  exact if_neg (by rw [mode, fw, cool]; rintro (no | no | no) <;> exact absurd no (by decide))

/-- The end of a sweep that has been filed: a commit, or a failure where too many cells are retired (R319, R331). -/
theorem endSweep_ends {s x : State} {w v : Sweep} {a : AtlasSlot} {found : List RetireEntry} (files : Files ({ s with sys := { s.sys with sweep := some w } } : State) x)
    (its : x.sys.sweep = some v) (same : v.unfiled = w.unfiled) (isA : a = s.sweptAtlas w found) :
    x.endSweep found = if s.image.atls.maxRetire < s.sweptBad a then x.failSweep v else x.commitSweep v a := by
  obtain ⟨atlas, image, bad⟩ := files_swept files same found
  have isA' : x.sweptAtlas v found = a := atlas.trans isA.symm
  rw [State.endSweep, its]
  dsimp only
  rw [isA', image, bad]
  rfl

/-- Settles O39: DARK is entered and left, and a sweep is held back, filed and brought to its end. -/
theorem darkAndSweepEnd : Obligations.DarkAndSweepEnd := by
  unfold Obligations.DarkAndSweepEnd
  refine ⟨?_, ?_, ?_, ?_⟩
  · intro s c k fw waits closed may at_ on
    have its : s.clu c.val = k := getD_of_some at_ _
    have frame := beginDown_frame c.val s
    have down := beginDown_pdown (s := s) (c := c.val) (by rw [its]; exact on)
    have circuits := beginDown_circuits c.val s
    have away (d : Nat) (other : d ≠ c.val) := beginDown_away other s
    refine ⟨_, congrArg Host.Outcome.next (darkDeferred_downs fw waits closed may), ?_, ?_, ?_, ?_, ?_, fun d other => ?_⟩
    all_goals unfold State.darkDown
    all_goals generalize s.beginDown c.val = u at frame down circuits away
    · rw [frame]
    · exact down
    · exact circuits
    · rw [← Bool.not_eq_true, List.contains_iff_mem, List.mem_filter]
      rintro ⟨-, other⟩
      exact of_decide_eq_true other rfl
    · rw [frame]
    · exact away d other
  · intro s m fw reached cmd none_ low
    have frame := notifyAll_frame 3 (leBytes 1 s.sys.darkFrom.code ++ leBytes 1 4) s
    have done : s.darkDone = (({ s.notifyAll 3 (leBytes 1 s.sys.darkFrom.code ++ leBytes 1 4) with
        sys := { s.sys with darkEntering := false, modeCmd := none } } : State)).completeSeq m.port m.seq m.code 0 m.tag 0 (leBytes 1 4) := by
      have told := notifyAll_entered 3 (leBytes 1 s.sys.darkFrom.code ++ leBytes 1 4) s
      unfold State.darkDone
      dsimp only
      show (match (((({ s with sys := { s.sys with darkEntering := false } } : State)).notifyAll 3 (leBytes 1 s.sys.darkFrom.code ++ leBytes 1 4)).finishMode
        .dark).sys.darkNext with
        | [] => (((({ s with sys := { s.sys with darkEntering := false } } : State)).notifyAll 3 (leBytes 1 s.sys.darkFrom.code ++ leBytes 1 4)).finishMode .dark)
        | q :: qs => _) = _
      rw [told, State.finishMode]
      dsimp only
      rw [cmd]
      dsimp only
      split
      · rfl
      · rename_i due
        cases none_.symm.trans due
    refine ⟨_, congrArg Host.Outcome.next ((if_pos (by rw [fw, reached]; rfl)).trans done), ?_, rfl, rfl⟩
    rw [frame]
    rfl
  · intro s fw leaving rows out
    obtain ⟨ho, ld, leaves⟩ := darkLeft_frame s
    refine ⟨_, congrArg Host.Outcome.next ((if_pos (by rw [fw, leaving, rows, out]; rfl)).trans leaves), rfl, rfl, rfl, rfl, rfl⟩
  · intro s m a w n held mode fw isA
    refine ⟨fun hot => ?_, fun cool early => ?_, fun cool last few => ?_, fun cool last many => ?_⟩
    · refine congrArg Host.Outcome.next ?_
      show calSweepDone m n s = s
      rw [calSweepDone, held]
      exact if_pos (Or.inr (Or.inr hot))
    · obtain ⟨u, x, v, files, isU, its, same, filed, takes⟩ := calSweepDone_files (m := m) (n := n) held mode fw cool
      have view {β : Type} (f : Sweep → β) (reads : ∀ q : Sweep, f q.unfiled = f q) : f v = f (s.sweepTake m n w) :=
        (reads v).symm.trans ((congrArg f same).trans (reads _))
      refine ⟨x, v, congrArg Host.Outcome.next (takes.trans (if_neg (by omega))), ?_, its, ?_, ?_, ?_, ?_, ?_, fun q => ?_, fun ok c low cells done => ?_⟩
      · rw [files.frame, isU]
      · rw [files.frame, isU]; exact mode
      · rw [files.frame, isU]
      · exact view Sweep.gen (fun _ => rfl)
      · exact view Sweep.slot (fun _ => rfl)
      · exact view Sweep.done (fun _ => rfl)
      · rw [view Sweep.made (fun _ => rfl)]
        exact mem_sweepTake
      · exact filed ok c (mem_calClusters.2 ⟨low, cells⟩) (done.trans_eq (view Sweep.done (fun _ => rfl)))
    · obtain ⟨u, x, v, files, isU, its, same, filed, takes⟩ := calSweepDone_files (m := m) (n := n) held mode fw cool
      subst isU
      have ends := endSweep_ends (found := m.retire) files its same isA
      rw [if_neg (by omega)] at ends
      obtain ⟨ramps, service, none_, fab, atlas, slot, gen, list, flash⟩ := commitSweep_commits v a x
      have slots : v.unfiled.slot = (s.sweepTake m n w).unfiled.slot := congrArg Sweep.slot same
      refine ⟨_, congrArg Host.Outcome.next ((takes.trans (if_pos last)).trans ends), service, none_, atlas, slot.trans slots, gen.trans ?_, list,
        rampsDown_of (fun c => ?_) ramps, ?_, fun ok => ?_⟩
      · rw [isA]; rfl
      · rw [files.frame]; rfl
      · rw [fab, files.frame]
      · obtain ⟨f, q, put, at_, headed, generation, crc, retire⟩ := committed_flash (w := v) (a := a) (note := x.note v 4 0 0) (files.answers ok)
        refine ⟨f, q, flash.trans put, ?_, headed.trans ?_, generation.trans ?_, crc, retire⟩
        · exact (congrArg f.atlas slots.symm).trans at_
        · rw [isA]; rfl
        · rw [isA]; rfl
    · obtain ⟨u, x, v, files, isU, its, same, filed, takes⟩ := calSweepDone_files (m := m) (n := n) held mode fw cool
      subst isU
      have ends := endSweep_ends (found := m.retire) files its same isA
      rw [if_pos many] at ends
      obtain ⟨none_, atlas, stays, clusters⟩ := failSweep_fails v x
      refine ⟨_, congrArg Host.Outcome.next ((takes.trans (if_pos last)).trans ends), none_, atlas.trans ?_, stays.trans ?_, clusters.trans ?_⟩
      · rw [files.frame]
      · rw [files.frame]; exact mode
      · rw [files.frame]

end Sys2Proof.Machine

/-! PROOFS. The NVM's periodic tests, and what a shutdown leaves in it (O40). -/

namespace Sys2Proof.Machine

/-! ### Records leave the image slots alone -/

theorem setAtlas_slots (slot : Nat) (a : Option AtlasSlot) (f : Flash) : (flashSetAtlas slot a f).slotA = f.slotA ∧ (flashSetAtlas slot a f).slotB = f.slotB := by
  unfold flashSetAtlas
  split <;> exact ⟨rfl, rfl⟩

theorem flashPut_slots (k : Nat) (r : NvmRecord) (f : Flash) : (flashPut k r f).slotA = f.slotA ∧ (flashPut k r f).slotB = f.slotB := by
  cases r with
  | journal e =>
    show (f.putJournal e).slotA = _ ∧ (f.putJournal e).slotB = _
    unfold Flash.putJournal
    split <;> exact ⟨rfl, rfl⟩
  | coef | shutdown => exact ⟨rfl, rfl⟩
  | retire | eraseAtlas | cells | ports | list | header | atlas => exact setAtlas_slots _ _ f

theorem flashPuts_slots (k : Nat) (l : List NvmRecord) (f : Flash) : (l.foldl (fun f r => flashPut k r f) f).slotA = f.slotA ∧
    (l.foldl (fun f r => flashPut k r f) f).slotB = f.slotB := by
  induction l generalizing f with
  | nil => exact ⟨rfl, rfl⟩
  | cons r l ih =>
    obtain ⟨a, b⟩ := flashPut_slots k r f
    exact ⟨(ih _).1.trans a, (ih _).2.trans b⟩

/-- The queue drains in order, with the latest copy of the frequency table last (R334, R335). -/
theorem drain_drains {s : State} {f : Flash} (held : s.sys.flash = some f) : ∃ g, s.drain =
    { s with sys := { s.sys with flash := some g, queue := [], ftCopy := none } } ∧ g.slotA = f.slotA ∧ g.slotB = f.slotB ∧
    (s.sys.ftCopy = none → g = s.sys.queue.foldl (fun f r => flashPut s.sys.atlSlot r f) f) := by
  obtain ⟨slotA, slotB⟩ := flashPuts_slots s.sys.atlSlot s.sys.queue f
  rw [State.drain, held]
  dsimp only
  cases copy : s.sys.ftCopy with
  | none => exact ⟨_, rfl, slotA, slotB, fun _ => rfl⟩
  | some l => exact ⟨_, rfl, slotA, slotB, nofun⟩

/-! ### What a test finds -/

/-- The NVM answers (R333). -/
def State.seen (s : State) : State := { s with sys := { s.sys with absent := false, present := true, answers := true } }

/-- Whether it answers until the next test (R333). -/
def State.answering (answers : Bool) (s : State) : State := { s with sys := { s.sys with answers := answers } }

theorem flashSeen_signed {s : State} {f : Flash} {answers : Bool} (signed : f.signed = true) : s.flashSeen f answers = State.answering answers
    (if s.sameFlash f = true then State.drain { s.seen with sys := { s.seen.sys with flash := some f, foreign := false } }
     else if (slotErased f.slotA && slotErased f.slotB) = true then State.drain { s.seen with sys := { s.seen.sys with
       flash := some (s.blankFlash f), foreign := false, replaced := true, staged := none, imgSlot := 0, atlSlot := 0, idJedec := f.jedec,
       idSfdp := f.sfdp } }
     else { s.seen with sys := { s.seen.sys with foreign := true } }) := by
  rw [State.flashSeen, if_neg (by rw [signed]; exact Bool.noConfusion)]
  rfl

/-- The flash that LOAD found, or one like it, answers again: the queue drains to it (R333, R334). -/
theorem flashSeen_same {s : State} {f : Flash} {answers : Bool} (signed : f.signed = true) (same : s.sameFlash f = true) : ∃ g,
    s.flashSeen f answers = { s with sys := { s.sys with
      absent := false, present := true, answers := answers, foreign := false, flash := some g, queue := [], ftCopy := none } } ∧
    g.slotA = f.slotA ∧ g.slotB = f.slotB ∧ (s.sys.ftCopy = none → g = s.sys.queue.foldl (fun f r => flashPut s.sys.atlSlot r f) f) := by
  obtain ⟨g, drains, slots⟩ := drain_drains (s := { s.seen with sys := { s.seen.sys with flash := some f, foreign := false } }) rfl
  refine ⟨g, ?_, slots⟩
  rw [flashSeen_signed signed, if_pos same, drains]
  rfl

/-- A blank replacement takes the running image and what waits (R335). -/
theorem flashSeen_blank {s : State} {f : Flash} {answers : Bool} (signed : f.signed = true) (other : s.sameFlash f = false)
    (blank : slotErased f.slotA = true ∧ slotErased f.slotB = true) : ∃ g, s.flashSeen f answers = { s with sys := { s.sys with
      absent := false, present := true, answers := answers, foreign := false, replaced := true, staged := none, imgSlot := 0, atlSlot := 0,
      idJedec := f.jedec, idSfdp := f.sfdp, flash := some g, queue := [], ftCopy := none } } ∧
    g.slotA = s.sys.img.map (fun q => { bytes := q.bytes, act := 0 }) := by
  obtain ⟨g, drains, slotA, -⟩ := drain_drains (s := { s.seen with sys := { s.seen.sys with
    flash := some (s.blankFlash f), foreign := false, replaced := true, staged := none, imgSlot := 0, atlSlot := 0, idJedec := f.jedec,
    idSfdp := f.sfdp } }) rfl
  refine ⟨g, ?_, slotA⟩
  rw [flashSeen_signed signed, if_neg (by rw [other]; exact Bool.noConfusion), if_pos (by rw [blank.1, blank.2]; rfl), drains]
  rfl

theorem flashSeen_foreign {s : State} {f : Flash} {answers : Bool} (signed : f.signed = true) (other : s.sameFlash f = false)
    (used : slotErased f.slotA = false ∨ slotErased f.slotB = false) : s.flashSeen f answers =
    { s with sys := { s.sys with absent := false, present := true, foreign := true, answers := answers } } := by
  rw [flashSeen_signed signed, if_neg (by rw [other]; exact Bool.noConfusion), if_neg]
  · rfl
  · rw [Bool.and_eq_true]
    rintro ⟨a, b⟩
    exact used.elim (fun no => Bool.noConfusion (no.symm.trans a)) (fun no => Bool.noConfusion (no.symm.trans b))

theorem sameFlash_is {s : State} {f : Flash} (same : s.sameFlash f = true) : f.jedec = s.sys.idJedec ∧ f.sfdp = s.sys.idSfdp ∧
    ∃ q, s.sys.img = some q ∧ ∀ o, o < 64 → f.byteAt (0x800000 * s.sys.imgSlot + o) = q.bytes.getD o 0xFF := by
  simp only [State.sameFlash, Bool.and_eq_true, decide_eq_true_eq] at same
  obtain ⟨⟨jedec, sfdp⟩, header⟩ := same
  refine ⟨jedec, sfdp, ?_⟩
  cases img : s.sys.img with
  | none => rw [img] at header; cases header
  | some q =>
    rw [img] at header
    have maps := of_decide_eq_true header
    rw [Flash.header, List.map_inj_left] at maps
    exact ⟨q, rfl, fun o low => maps o (List.mem_range.2 low)⟩

/-! ### The shutdown's record and capsule -/

theorem words16_length (l : List Int) (n : Nat) : (words16 l n).length = 2 * n := by
  rw [words16, length_flatMap_const (k := 2) _ (fun i _ => length_leBytes _ _), List.length_range]

theorem shutdownBytes_length (q : Shutdown) (queued : Bool) (capsule : Option (List (Nat × Nat × List Byte))) :
    (shutdownBytes q queued capsule).length = 512 := by
  unfold shutdownBytes
  dsimp only
  simp only [List.length_append, length_leBytes, words16_length]
  rw [length_flatMap_const (k := 4), List.length_range]
  · have none_ : (List.replicate 12 (0 : Byte)).length = 12 := List.length_replicate
    repeat' split
    all_goals simp only [none_, List.length_append, length_leBytes]
  · intro i _
    split
    · exact length_leBytes _ _
    · rw [List.length_append, length_leBytes, length_leBytes]

/-- A record that waits joins the queue, where it has room (R334). -/
theorem nvmWrite_waits {y : Sys} (waits : y.wouldQueue = true) (room : y.queue.length < 64) (r : NvmRecord) :
    (y.nvmWrite r).flash = y.flash ∧ r ∈ (y.nvmWrite r).queue := by
  have frame := sysTested_frame y
  have still : y.tested.wouldQueue = true := by
    unfold Sys.tested
    split
    · rw [Sys.wouldQueue, Bool.or_true, Bool.true_or, Bool.true_or]
    · exact waits
  have joins : y.nvmWrite r = y.tested.enqueue r := by
    unfold Sys.nvmWrite
    dsimp only
    split
    · rfl
    · exact if_pos still
  rw [joins, Sys.enqueue, frame, if_pos room]
  exact ⟨rfl, List.mem_append_right _ List.mem_cons_self⟩

theorem rotate_at {α : Type} (a : α) {i : Nat} {l : List α} (le : i ≤ l.length) : (rotate a i l)[i]? = some a ∧
    ∀ j, j ≠ i → (rotate a i l)[j]? = l[j]? := by
  unfold rotate
  by_cases there : i < l.length
  · rw [if_pos there]
    exact ⟨getElem?_modAt_same (List.getElem?_eq_getElem there), fun j other => getElem?_modAt_other other⟩
  · have last : i = l.length := by omega
    rw [if_neg there, last]
    refine ⟨List.getElem?_concat_length, fun j other => ?_⟩
    by_cases low : j < l.length
    · exact List.getElem?_append_left low
    · have short : (l ++ [a]).length ≤ j := by rw [List.length_append, List.length_singleton]; omega
      rw [List.getElem?_eq_none short, List.getElem?_eq_none (Nat.not_lt.1 low)]

theorem rotate_length {α : Type} {a : α} {i n : Nat} {l : List α} (low : i < n) (le : i ≤ l.length) (most : l.length ≤ n) : (rotate a i l).length ≤ n := by
  unfold rotate
  split
  · rw [setAt, length_modAt]; exact most
  · rw [List.length_append, List.length_singleton]; omega

/-! ### The ramp's end -/

theorem driveOff_clu (s : State) (c : Nat) : s.driveOff.clu c = (offCluster (s.clu c)).forgetting := by
  have maps : s.driveOff.clusters = (s.clusters.map offCluster).map Cluster.forgetting := rfl
  rw [State.clu, maps, clu_map (f := Cluster.forgetting) _ rfl, clu_map (f := offCluster) _ rfl, State.clu]

theorem offCluster_off (k : Cluster) : (offCluster k).pow = .off := by
  unfold offCluster
  split
  · assumption
  · rfl

/-- A cell of a cluster that goes off is parked with its heater at zero (R298). -/
theorem offCluster_parks {k : Cluster} (up : k.pow ≠ .off) (i : Nat) :
    ((offCluster k).cells.getD i {}).parked = true ∧ ((offCluster k).cells.getD i {}).uh = 0 := by
  rw [offCluster, if_neg up]
  show ((k.cells.map offCell).getD i {}).parked = true ∧ ((k.cells.map offCell).getD i {}).uh = 0
  by_cases there : i < k.cells.length
  · rw [List.getD_eq_getElem _ _ (by rw [List.length_map]; exact there), List.getElem_map]
    exact ⟨rfl, rfl⟩
  · rw [List.getD_eq_default _ _ (by rw [List.length_map]; omega)]
    exact ⟨rfl, rfl⟩

theorem driveOff_island (s : State) (r : Nat) : (s.driveOff.island r).pow = .off := by
  show ((s.islands.map Island.off).getD r {}).pow = .off
  by_cases there : r < s.islands.length
  · rw [List.getD_eq_getElem _ _ (by rw [List.length_map]; exact there), List.getElem_map]
    rfl
  · rw [List.getD_eq_default _ _ (by rw [List.length_map]; omega)]

theorem copyCapsule_frame (s : State) : s.copyCapsule = { s with thm := { s.thm with capsule := s.copyCapsule.thm.capsule } } := by
  unfold State.copyCapsule
  split
  · rfl
  · split <;> rfl

/-- The two latest Skim snapshots are copied where no record has been written (R297, R298). -/
theorem copyCapsule_copies {s : State} {q : Shutdown} (shut : s.thm.shut = some q) (fw : s.firmware = true) (late : q.early = false)
    (unwritten : q.written = false) (none_ : s.thm.capsule = none) (some_ : s.rcd.snaps ≠ []) : s.copyCapsule.thm.capsule = some s.rcd.snaps := by
  rw [State.copyCapsule, shut]
  dsimp only
  rw [if_neg]
  rw [fw, late, unwritten, none_]
  rintro (no | no | no | no | no)
  · cases no
  · cases no
  · cases no
  · cases no
  · exact some_ no

theorem rampDone_ends {s : State} {q : Shutdown} (shut : s.thm.shut = some q) (late : q.early = false) (mode : s.sys.mode = .safe)
    (ramps : q.rampDone = false) : rampDone s =
    (({ s with thm := { s.thm with shut := some { q with rampDone := true } } } : State).driveOff).copyCapsule := by
  rw [rampDone, shut]
  refine if_neg ?_
  rw [late, mode, ramps]
  rintro (no | no | no)
  · cases no
  · cases no
  · exact no rfl

/-! ### The record and the capsules -/

/-- The shutdown record as it is written (R299). -/
def State.shutRecord (s : State) (q : Shutdown) : List Byte := shutdownBytes q s.sys.wouldQueue s.copyCapsule.thm.capsule

theorem shutdownRecord_writes {s : State} {q : Shutdown} (shut : s.thm.shut = some q) (fw : s.firmware = true) (unwritten : q.written = false) :
    shutdownRecord s = ({ s with thm := { s.copyCapsule.thm with shut := some { q with written := true } } } : State).nvmWrite
      (.shutdown (s.shutRecord q)) := by
  have frame := copyCapsule_frame s
  unfold State.shutRecord shutdownRecord
  dsimp only
  generalize s.copyCapsule = u at frame ⊢
  have its : u.thm.shut = some q := by rw [frame]; exact shut
  rw [its]
  dsimp only
  rw [if_neg, frame]
  rw [frame, unwritten]
  rintro (no | no)
  · exact Bool.noConfusion (fw.symm.trans no)
  · cases no

theorem shutdownRecord_written {s : State} {q : Shutdown} (shut : s.thm.shut = some q) (written : q.written = true) : shutdownRecord s = s := by
  have its : s.copyCapsule.thm.shut = some q := by rw [copyCapsule_frame]; exact shut
  unfold shutdownRecord
  dsimp only
  rw [its]
  exact if_pos (Or.inr written)

/-- A capsule is written while the flash answers: the one that waits longest, else this shutdown's (R298, log 99). -/
theorem tailCapsule_first {s : State} {f : Flash} {c : List (Nat × Nat × List Byte)} {cs : List (List (Nat × Nat × List Byte))}
    (waits : s.thm.waitCaps = c :: cs) (held : s.sys.flash = some f) (fw : s.firmware = true) (answers : s.sys.wouldQueue = false) :
    tailCapsule s = { s with sys := { s.sys with flash := some (putCapsule c f) }, thm := { s.thm with waitCaps := cs } } := by
  unfold tailCapsule
  rw [if_pos fw, tested_answers answers]
  dsimp only
  rw [held]
  dsimp only
  rw [if_neg (fun no => no.elim (fun a => Bool.noConfusion (fw.symm.trans a)) (fun b => Bool.noConfusion (answers.symm.trans b))), waits]

theorem tailCapsule_own {s : State} {f : Flash} {q : Shutdown} {c : List (Nat × Nat × List Byte)} (none_ : s.thm.waitCaps = []) (its : s.thm.capsule = some c)
    (shut : s.thm.shut = some q) (written : q.written = true) (held : s.sys.flash = some f) (fw : s.firmware = true)
    (answers : s.sys.wouldQueue = false) : tailCapsule s = { s with
      sys := { s.sys with flash := some (putCapsule c f) },
      thm := { s.thm with capsule := none, shut := s.thm.shut.map (fun q => { q with capsuleWritten := true }) } } := by
  unfold tailCapsule
  rw [if_pos fw, tested_answers answers]
  dsimp only
  rw [held]
  dsimp only
  rw [if_neg (fun no => no.elim (fun a => Bool.noConfusion (fw.symm.trans a)) (fun b => Bool.noConfusion (answers.symm.trans b))), none_, its, shut]
  refine if_neg ?_
  show ¬ (!q.written) = true
  rw [written]
  exact Bool.noConfusion

/-- Settles O40: what each test of the NVM makes of it, and what a shutdown's end, record and capsules leave. -/
theorem nvmAndShutdownRecords : Obligations.NvmAndShutdownRecords := by
  unfold Obligations.NvmAndShutdownRecords
  refine ⟨fun s fw ready => ?_, ?_, ?_, ?_, ?_⟩
  · have tests (o : FlashFound) : exec (.nvmTest o) s = .next (s.nvmTest o) := congrArg Host.Outcome.next (if_pos (by rw [fw, ready]; rfl))
    refine ⟨tests _, fun f a unsigned => ?_, fun f a o its signed same => ?_, fun f same => sameFlash_is same, fun f a signed other used => ?_,
      fun f a signed other blankA blankB => ?_⟩
    · exact (tests _).trans (congrArg _ (if_pos unsigned))
    · obtain ⟨g, sees, slotA, slotB, drains⟩ := flashSeen_same (answers := a) signed same
      refine ⟨_, g, (tests o).trans (congrArg _ (Eq.trans ?_ sees)), rfl, rfl, rfl, rfl, rfl, rfl, slotA, slotB, drains⟩
      rcases its with ⟨rfl, held⟩ | rfl
      · rw [State.nvmTest, held]
      · rfl
    · exact (tests _).trans (congrArg _ (flashSeen_foreign signed other used))
    · obtain ⟨g, sees, slotA⟩ := flashSeen_blank (answers := a) signed other ⟨blankA, blankB⟩
      exact ⟨_, g, (tests _).trans (congrArg _ sees), rfl, rfl, rfl, rfl, rfl, rfl, rfl, rfl, rfl, slotA⟩
  · intro s q shut late mode ramps
    have ends := rampDone_ends shut late mode ramps
    have kept := copyCapsule_frame (({ s with thm := { s.thm with shut := some { q with rampDone := true } } } : State).driveOff)
    have clu (c : Nat) := driveOff_clu ({ s with thm := { s.thm with shut := some { q with rampDone := true } } } : State) c
    have island (r : Nat) := driveOff_island ({ s with thm := { s.thm with shut := some { q with rampDone := true } } } : State) r
    refine ⟨_, congrArg Host.Outcome.next ends, fun c => ?_, fun r => ?_, fun n up => ?_, ?_, ?_, fun fw unwritten none_ some_ => ?_⟩
    · rw [kept]
      exact (congrArg Cluster.pow (clu c)).trans (offCluster_off (s.clu c))
    · rw [kept]
      exact island r
    · rw [kept]
      have off := offCluster_parks up (n % 32)
      have parked := congrArg (fun k : Cluster => k.cells.getD (n % 32) {}) (clu (n / 32))
      exact ⟨(congrArg Cell.parked parked).trans off.1, (congrArg Cell.uh parked).trans off.2⟩
    · rw [kept]; rfl
    · rw [kept]; rfl
    · exact copyCapsule_copies (s := ({ s with thm := { s.thm with shut := some { q with rampDone := true } } } : State).driveOff) rfl fw late unwritten
        none_ some_
  · intro s q shut fw
    refine ⟨fun written => congrArg Host.Outcome.next (shutdownRecord_written shut written), fun unwritten waits room => ?_, fun unwritten f held answers => ?_⟩
    · have joins := nvmWrite_waits waits room (.shutdown (s.shutRecord q))
      exact ⟨_, s.shutRecord q, congrArg Host.Outcome.next (shutdownRecord_writes shut fw unwritten), rfl, joins.1, joins.2, shutdownBytes_length _ _ _, rfl⟩
    · have writes := nvmWrite_answers held answers (.shutdown (s.shutRecord q))
      exact ⟨_, _, s.shutRecord q, congrArg Host.Outcome.next (shutdownRecord_writes shut fw unwritten), congrArg Sys.flash writes,
        shutdownBytes_length _ _ _, rfl, rfl⟩
  · intro s q c f shut written its none_ held fw answers
    refine ⟨_, putCapsule c f, congrArg Host.Outcome.next (tailCapsule_own none_ its shut written held fw answers), rfl, rfl, rfl, fun low le most => ?_⟩
    obtain ⟨here, away⟩ := rotate_at (c.flatMap (fun q => q.2.2)) le
    exact ⟨here, rfl, rotate_length low le most, away⟩
  · intro s c cs f waits held fw answers
    exact ⟨_, putCapsule c f, congrArg Host.Outcome.next (tailCapsule_first waits held fw answers), rfl, rfl,
      fun le => (rotate_at (c.flatMap (fun q : Nat × Nat × List Byte => q.2.2)) le).1⟩

end Sys2Proof.Machine

/-! PROOFS. PTP messages and other frames (O46). -/

namespace Sys2Proof.Machine

/-! ### Received frames -/

theorem receive_ours {s : State} {f : PtpFrame} {handle : State → State} (hears : s.hears = true) (ours : s.ours f = true) :
    s.receive f handle = handle s := by
  rw [State.receive, if_neg (by rw [hears]; exact Bool.noConfusion), if_pos ours]

theorem receive_other {s : State} {f : PtpFrame} {handle : State → State} (hears : s.hears = true) (other : s.ours f = false) :
    s.receive f handle = s.dropFrame := by
  rw [State.receive, if_neg (by rw [hears]; exact Bool.noConfusion), if_neg (by rw [other]; exact Bool.noConfusion)]

theorem ours_not {s : State} {f : PtpFrame} (other : f.domain ≠ s.net.portDs.domain ∨ f.udp ≠ s.net.portDs.udp ∨ f.vid ≠ s.net.portDs.vid) :
    s.ours f = false := by
  rw [State.ours, ← Bool.not_eq_true]
  simp only [Bool.and_eq_true, decide_eq_true_eq]
  rintro ⟨⟨⟨-, domain⟩, udp⟩, vid⟩
  rcases other with no | no | no
  · exact no domain
  · exact no udp
  · exact no vid

theorem hears_on {s : State} (hears : s.hears = true) : s.activePort.pow = .on := by
  rw [State.hears, Bool.and_eq_true, decide_eq_true_eq] at hears
  exact hears.1

/-- The network with a frame dropped at the active path (R193). -/
def Net.dropped (n : Net) : Net := n.modPort n.active (fun q => { q with rxDrop := sat32 q.rxDrop })

theorem dropFrame_drops {s : State} (on : s.activePort.pow = .on) : s.dropFrame = { s with net := s.net.dropped } := by
  rw [State.dropFrame, if_pos (decide_eq_true on)]
  rfl

/-- A dropped frame counts, and changes nothing else (R193). -/
theorem dropped_counts (s : State) : (({ s with net := s.net.dropped } : State)).activePort = { s.activePort with rxDrop := sat32 s.activePort.rxDrop } ∧
    s.net.dropped.sel = s.net.sel ∧ s.net.dropped.foreign = s.net.foreign ∧ s.net.dropped.syncs = s.net.syncs ∧ s.net.dropped.delays = s.net.delays ∧
    s.net.dropped.arpSent = s.net.arpSent := by
  have counted : s.net.dropped.port s.net.dropped.active = { s.net.port s.net.active with rxDrop := sat32 (s.net.port s.net.active).rxDrop } := by
    rw [Net.dropped, active_modPort, port_modPort]
  refine ⟨counted, ?_⟩
  unfold Net.dropped Net.modPort
  split <;> exact ⟨rfl, rfl, rfl, rfl, rfl⟩

/-! ### Exchanges -/

theorem follows_of {s : State} {m : Nat} (fw : s.firmware = true) (hears : s.hears = true) (sel : s.net.sel = some m) : s.follows m = true := by
  rw [State.follows, fw, hears, sel, decide_eq_true rfl]
  rfl

theorem pairUp_waits {s : State} (none_ : s.net.delays = []) : s.pairUp = s := by
  rw [State.pairUp, none_]
  cases s.net.syncs.find? (fun q => q.tx.isSome) <;> rfl

/-- The network once a pair is complete (R189). -/
def Net.paired (path : Bool) (del : Rat) (n : Net) : Net :=
  { n with syncs := [], delays := [], mpdA := if path then n.mpdA else some del, mpdB := if path then some del else n.mpdB, pathDelay := some del }

/-- A pair of one path and master is complete: its offset feeds the servo, where PTP is the phase source (R189). -/
theorem pairUp_pairs {s : State} {q : SyncEx} {d : DelayEx} {t1 t4 : Rat} (syncs : s.net.syncs = [q]) (delays : s.net.delays = [d]) (tx : q.tx = some t1)
    (rx : d.rx = some t4) (path : q.path = d.path) (master : q.master = d.master) : ∃ del, s.pairUp =
    if s.image.time.source = 1 ∧ -(2 ^ 31) ≤ viewInt (pairTheta t1 q.rx d.tx t4 * 256) ∧ viewInt (pairTheta t1 q.rx d.tx t4 * 256) < 2 ^ 31 then
      servoUpdate (BitVec.ofInt 32 (viewInt (pairTheta t1 q.rx d.tx t4 * 256))) { s with net := s.net.paired q.path del }
    else { s with net := s.net.paired q.path del } := by
  have first : ([q].find? (fun q => q.tx.isSome)) = some q := by rw [List.find?_cons_of_pos]; rw [tx]; rfl
  have second : ([d].find? (fun d => d.rx.isSome)) = some d := by rw [List.find?_cons_of_pos]; rw [rx]; rfl
  refine ⟨pairDelay t1 q.rx d.tx t4, ?_⟩
  rw [State.pairUp, syncs, delays, first, second]
  dsimp only
  rw [if_neg (fun no => no.elim (fun a => a path) (fun b => b master)), tx, rx]
  rfl

/-! ### Masters -/

/-- The table, and where unicast the grants, with an Announce in it (R188). -/
def State.listed (a : Announce) (s : State) : State :=
  let u := s.modNet (fun n => { n with foreign := foreignPut s.foreignMax a n.foreign })
  if s.net.portDs.profile = 2 then u.modNet (Net.heard a) else u

theorem listed_net (a : Announce) (s : State) : s.listed a = { s with net := (s.listed a).net } ∧
    (s.listed a).net.foreign = foreignPut s.foreignMax a s.net.foreign ∧ (s.listed a).net.sel = s.net.sel ∧
    (s.listed a).net.portDs = s.net.portDs ∧ (s.listed a).net.kiRate = s.net.kiRate ∧
    (s.listed a).net.grants = if s.net.portDs.profile = 2 then grantPut (grantOf a) s.net.grants else s.net.grants := by
  unfold State.listed
  dsimp only
  split <;> exact ⟨rfl, rfl, rfl, rfl, rfl, rfl⟩

theorem judge_frame (a : Announce) (s : State) : s.judge a = { s with
    net := { s.net with qualified := (s.judge a).net.qualified }, time := (s.judge a).time, hosts := (s.judge a).hosts,
    rcd := { s.rcd with logDue := (s.judge a).rcd.logDue } } := by
  unfold State.judge
  split
  · rw [enterHoldover_frame]
    rfl
  · rfl

theorem judge_idle {a : Announce} {s : State} (ok : s.net.sel ≠ some a.master) : s.judge a = s := if_neg (fun both => ok both.1)

/-- A selection changes the network alone, and the table not at all (R188). -/
theorem select_selects (s : State) : s.select = { s with net := s.select.net } ∧ s.select.net.foreign = s.net.foreign ∧
    ∀ b, bestMaster (s.net.foreign.filter s.accepts) = some b → s.select.net.sel = some b.master := by
  unfold State.select
  cases best : bestMaster (s.net.foreign.filter s.accepts) with
  | none => exact ⟨rfl, rfl, nofun⟩
  | some a =>
    dsimp only
    split
    · rename_i already
      exact ⟨rfl, rfl, fun b its => Option.some.inj its ▸ already⟩
    · exact ⟨rfl, rfl, fun b its => Option.some.inj its ▸ rfl⟩

theorem rateCheck_frame (s : State) : s.rateCheck = { s with
    net := { s.net with kiRate := s.rateCheck.net.kiRate }, time := { s.time with ki := s.rateCheck.time.ki } } := by
  unfold State.rateCheck
  split <;> rfl

/-- The state after the table, the judgement, the selection and the rate (R181, R188). -/
def State.announced (a : Announce) (s : State) : State := (((s.listed a).judge a).select).rateCheck

/-- An Announce of the selected, acceptable master counts for its qualification (R180). -/
def State.qualify (a : Announce) (s : State) : State :=
  if s.net.sel ≠ some a.master ∨ s.accepts a = false then s
  else
    let s := s.modNet (fun n => { n with qualified := n.qualified + 1 })
    if 4 ≤ s.net.qualified ∧ s.image.time.source = 1 ∧ (s.time.srv = .holdover ∨ (s.time.srv = .freerun ∧ s.time.refLost = false))
    then s.setSrv s.net.srvBefore.resume else s

theorem ptpAnnounce_eq {a : Announce} {s : State} (fw : s.firmware = true) : ptpAnnounce a s = (s.announced a).qualify a := by
  rw [ptpAnnounce, if_neg (by rw [fw]; exact Bool.noConfusion)]
  rfl

theorem qualify_net (a : Announce) (s : State) : (s.qualify a).net = { s.net with qualified := (s.qualify a).net.qualified } := by
  unfold State.qualify
  dsimp only
  split
  · rfl
  · split
    · rw [setSrv_frame]; rfl
    · rfl

/-- The best acceptable master of the table is selected (R188). -/
theorem announced_selects (a : Announce) (s : State) : (s.announced a).net.foreign = foreignPut s.foreignMax a s.net.foreign ∧
    ∀ b, bestMaster ((foreignPut s.foreignMax a s.net.foreign).filter s.accepts) = some b → (s.announced a).net.sel = some b.master := by
  obtain ⟨listed, foreign, -⟩ := listed_net a s
  have judged := judge_frame a (s.listed a)
  obtain ⟨-, kept, best⟩ := select_selects ((s.listed a).judge a)
  have table : ((s.listed a).judge a).net.foreign = foreignPut s.foreignMax a s.net.foreign := by rw [judged]; exact foreign
  have accepts : ((s.listed a).judge a).accepts = s.accepts := by rw [judged, listed]; rfl
  rw [table, accepts] at best
  unfold State.announced
  rw [rateCheck_frame]
  exact ⟨kept.trans table, best⟩

/-- The network with another master selected (R188). -/
def Net.selecting (a : Announce) (n : Net) : Net := { n with sel := some a.master, qualified := 0, syncs := [], delays := [], snapDue := true }

theorem rateCheck_still {s : State} (other : s.image.time.source ≠ 1) : s.rateCheck = s := if_pos (Or.inr (Or.inr other))

theorem rateCheck_scales {s : State} (sel : s.net.sel ≠ none) (differs : s.syncRate ≠ s.net.kiRate) (source : s.image.time.source = 1) : s.rateCheck =
    { s with time := { s.time with ki := s.scaledKi s.syncRate }, net := { s.net with kiRate := s.syncRate } } := by
  rw [State.rateCheck, if_neg (fun no => no.elim sel (fun no => no.elim differs (fun no => no source)))]
  rfl

/-- The update rate is that of the selected master's grant (R181, R188). -/
theorem syncRate_granted {s : State} {a : Announce} (unicast : s.net.portDs.profile = 2) (table : s.net.foreign = [a]) (sel : s.net.sel = some a.master)
    (grants : s.net.grants = [grantOf a]) : s.syncRate = a.syncRate := by
  have found : [a].find? (fun b => decide (some a.master = some b.master)) = some a := List.find?_cons_of_pos (decide_eq_true rfl)
  have granted : [grantOf a].find? (fun g => decide (some g.addr = some a.addr)) = some (grantOf a) := List.find?_cons_of_pos (decide_eq_true rfl)
  rw [State.syncRate, if_neg (not_not_intro unicast), table, sel, found, grants]
  dsimp only
  rw [Option.map_some, granted]
  rfl

/-- The first master of an empty table is selected, with the grant that brings its messages, and KI scaled to its rate (R181, R188). -/
theorem announced_first {a : Announce} {s : State} (empty : s.net.foreign = []) (none_ : s.net.sel = none) (ok : s.accepts a = true) : ∃ n ki,
    s.announced a = { s with net := n, time := { s.time with ki := ki } } ∧ n.foreign = [a] ∧ n.sel = some a.master ∧ n.qualified = 0 ∧
      (s.net.portDs.profile = 2 → s.image.time.source = 1 → s.net.grants = [] → a.syncRate ≠ s.net.kiRate →
        ki = s.scaledKi a.syncRate ∧ n.kiRate = a.syncRate ∧ n.grants = [grantOf a]) ∧
      (s.image.time.source ≠ 1 → ki = s.time.ki) := by
  obtain ⟨listed, foreign, sel, ds, rate, grants⟩ := listed_net a s
  have one : foreignPut s.foreignMax a [] = [a] := by
    rw [foreignPut, if_neg (by rw [List.any_nil]; exact Bool.noConfusion), if_pos]
    · rfl
    · unfold State.foreignMax
      split <;> decide
  rw [empty, one] at foreign
  rw [none_] at sel
  have announced : s.announced a = ({ s with net := (s.listed a).net.selecting a } : State).rateCheck := by
    have accepts : (s.listed a).accepts = s.accepts := by rw [listed]; rfl
    have chosen : bestMaster ((s.listed a).net.foreign.filter (s.listed a).accepts) = some a := by
      rw [foreign, accepts, List.filter_cons_of_pos ok]
      rfl
    have selects : (s.listed a).select = ({ s with net := (s.listed a).net.selecting a } : State) := by
      rw [State.select, chosen]
      refine (if_neg (by rw [sel]; exact nofun)).trans ?_
      rw [State.modNet, listed]
      rfl
    rw [State.announced, judge_idle (by rw [sel]; exact nofun), selects]
  generalize (s.listed a).net = n at announced foreign sel ds rate grants
  have frame := rateCheck_frame ({ s with net := n.selecting a } : State)
  refine ⟨_, _, announced.trans frame, foreign, rfl, rfl, fun unicast source bare differs => ?_, fun other => ?_⟩
  · rw [if_pos unicast, bare] at grants
    have its : ({ s with net := n.selecting a } : State).syncRate = a.syncRate :=
      syncRate_granted (s := { s with net := n.selecting a }) ((congrArg PortDs.profile ds).trans unicast) foreign rfl grants
    have scales := rateCheck_scales (s := { s with net := n.selecting a }) nofun (by rw [its]; exact fun same => differs (same.trans rate)) source
    rw [its] at scales
    rw [scales]
    exact ⟨rfl, rfl, grants⟩
  · rw [rateCheck_still (s := { s with net := n.selecting a }) other]

/-- A master just selected is not yet qualified (R180). -/
theorem qualify_first {a : Announce} {s : State} (sel : s.net.sel = some a.master) (ok : s.accepts a = true) (none_ : s.net.qualified = 0) :
    s.qualify a = { s with net := { s.net with qualified := 1 } } := by
  have qualifies : s.modNet (fun n => { n with qualified := n.qualified + 1 }) = { s with net := { s.net with qualified := 1 } } := by
    rw [State.modNet, none_]
  rw [State.qualify, if_neg (fun no => no.elim (fun no => no sel) (fun no => Bool.noConfusion (ok.symm.trans no))), qualifies]
  exact if_neg (fun no => absurd (no.1 : 4 ≤ 1) (by decide))

/-! ### Frames sent -/

theorem sendFrame_frame (s : State) : s.sendFrame = { s with net := s.sendFrame.net, freeIx := s.freeIx + 1 } := rfl

theorem sendFrame_keeps {β : Type} (v : Net → β) (reads : ∀ n, v n.unsent = v n) (s : State) : v s.sendFrame.net = v s.net := by
  rw [← reads, sendFrame_net, reads]

theorem sendFrame_arp (s : State) : s.sendFrame.net.arpSent = s.net.arpSent ∧ s.sendFrame.net.active = s.net.active := by
  unfold State.sendFrame State.modNet Net.modPort
  dsimp only
  split <;> exact ⟨rfl, rfl⟩

/-- Settles O46: PTP messages of the selected master feed the servo, Announces select a master, and other frames are dropped or answered. -/
theorem ptpFeedsTheServo : Obligations.PtpFeedsTheServo := by
  unfold Obligations.PtpFeedsTheServo
  refine ⟨?_, ?_, ?_, ?_, ?_, ?_, ?_, ?_, ?_, ?_, ?_⟩
  · intro s f m seq o corr two fw hears ours sel none_
    refine congrArg Host.Outcome.next ((receive_ours hears ours).trans ((if_pos (follows_of fw hears sel)).trans ?_))
    exact pairUp_waits none_
  · intro s f m seq o corr q fw hears ours sel none_ one master its path waits
    refine congrArg Host.Outcome.next ((receive_ours hears ours).trans ((if_pos (follows_of fw hears sel)).trans (Eq.trans (pairUp_waits none_) ?_)))
    rw [State.modNet, one, List.map_singleton, if_pos ⟨master, its, path, by rw [waits]; rfl⟩]
  · intro s m fw speaks sel
    have sends : ptpDelayReq s = ({ s with net := { s.net with
        delays := [{ path := s.net.active, master := m, seq := s.net.delaySeq, tx := s.txTime }],
        delaySeq := (s.net.delaySeq + 1) % 65536 } } : State).sendFrame := by
      rw [ptpDelayReq, sel]
      exact if_pos ⟨fw, speaks⟩
    exact ⟨_, congrArg Host.Outcome.next sends, rfl, sendFrame_keeps Net.delaySeq (fun _ => rfl) _, sendFrame_keeps Net.delays (fun _ => rfl) _,
      sendFrame_keeps Net.syncs (fun _ => rfl) _⟩
  · intro s f m seq o corr q d t1 th fw hears ours sel syncs tx path master delays dm ds dp waits isTh
    have answers : ptpDelayResp m seq o corr s = ({ s with net := { s.net with
        delays := [{ d with rx := some ((mailTai o : Rat) - corrNs corr) }] } } : State).pairUp := by
      rw [ptpDelayResp, if_pos (follows_of fw hears sel)]
      dsimp only
      rw [State.modNet, delays, List.map_singleton, if_pos ⟨dm, ds, dp, by rw [waits]; rfl⟩]
    obtain ⟨del, pairs⟩ := pairUp_pairs (s := ({ s with net := { s.net with delays := [{ d with rx := some ((mailTai o : Rat) - corrNs corr) }] } } : State))
      (d := { d with rx := some ((mailTai o : Rat) - corrNs corr) }) syncs rfl tx rfl (path.trans dp.symm) (master.trans dm.symm)
    have isTheta : viewInt (pairTheta t1 q.rx d.tx ((mailTai o : Rat) - corrNs corr) * 256) = th := isTh.symm
    rw [isTheta] at pairs
    have acts {t : State} (its : State.pairUp _ = t) : exec (.ptpDelayResp f m seq o corr) s = .next t :=
      congrArg Host.Outcome.next ((receive_ours hears ours).trans (answers.trans its))
    by_cases feed : s.image.time.source = 1 ∧ -(2 ^ 31) ≤ th ∧ th < 2 ^ 31
    · obtain ⟨ti, ho, ld, feeds⟩ := servoUpdate_frame (BitVec.ofInt 32 th) ({ s with net := Net.paired q.path del { s.net with
        delays := [{ d with rx := some ((mailTai o : Rat) - corrNs corr) }] } } : State)
      refine ⟨_, acts ((pairs.trans (if_pos feed)).trans feeds), rfl, rfl, fun _ low high => ?_, fun other => absurd feed.1 other, rfl, rfl⟩
      show (BitVec.ofInt 32 th).toInt = th
      rw [BitVec.toInt_ofInt, Int.bmod_eq_of_le (by omega) (by omega)]
    · exact ⟨_, acts (pairs.trans (if_neg feed)), rfl, rfl, fun source low high => absurd ⟨source, low, high⟩ feed, fun _ => rfl, rfl, rfl⟩
  · intro s a fw hears ours negotiated empty none_ class_
    have ok : s.accepts a = true := decide_eq_true class_
    obtain ⟨n, ki, announced, table, sel, qualified, unicast, other⟩ := announced_first empty none_ ok
    have qualifies := qualify_first (a := a) (s := ({ s with net := n, time := { s.time with ki := ki } } : State)) sel ok qualified
    refine ⟨_, congrArg Host.Outcome.next ((receive_ours hears ours).trans ((if_pos negotiated).trans ((ptpAnnounce_eq fw).trans
      ((congrArg (State.qualify a) announced).trans qualifies)))), rfl, table, sel, rfl, unicast, fun differs => ?_⟩
    rw [other differs]
  · intro s a hears unicast bad
    have refused : s.negotiated a = false := by
      rw [State.negotiated, unicast, ← Bool.not_eq_true]
      simp only [Bool.or_eq_true, Bool.and_eq_true, decide_eq_true_eq, List.contains_iff_mem]
      rintro (no | ⟨mem, rates⟩)
      · exact no rfl
      · exact bad.elim (fun out => out mem) (fun low => by omega)
    obtain ⟨counts, sel, foreign, -⟩ := dropped_counts s
    refine ⟨_, congrArg Host.Outcome.next (Eq.trans ?_ (dropFrame_drops (hears_on hears))), rfl, congrArg NetPort.rxDrop counts, foreign, sel⟩
    by_cases ours : s.ours ⟨a.domain, a.udp, a.vid⟩ = true
    · exact (receive_ours hears ours).trans (if_neg (by rw [refused]; exact Bool.noConfusion))
    · exact receive_other hears (Bool.eq_false_iff.2 ours)
  · intro s a fw hears ours negotiated
    obtain ⟨foreign, best⟩ := announced_selects a s
    have net := qualify_net a (s.announced a)
    refine ⟨_, congrArg Host.Outcome.next ((receive_ours hears ours).trans ((if_pos negotiated).trans (ptpAnnounce_eq fw))), ?_, fun b its => ?_⟩
    · rw [net]; exact foreign
    · rw [net] at its ⊢
      exact best b (foreign ▸ its)
  · intro s f c hears other which
    have drops : ∀ handle, s.receive f handle = { s with net := s.net.dropped } := fun handle =>
      (receive_other hears (ours_not other)).trans (dropFrame_drops (hears_on hears))
    obtain ⟨counts, sel, foreign, syncs, delays, -⟩ := dropped_counts s
    refine ⟨{ s with net := s.net.dropped }, ?_, rfl, counts, sel, foreign, syncs, delays⟩
    rcases which with ⟨m, seq, two, o, corr, rfl⟩ | ⟨m, seq, o, corr, rfl⟩ | ⟨m, seq, o, corr, rfl⟩ | ⟨a, rfl, rfl⟩
    all_goals exact congrArg Host.Outcome.next (drops _)
  · intro s addr fw speaks unicast real own
    have hears : s.hears = true := by
      rw [State.speaks, Bool.and_eq_true] at speaks
      exact speaks.1
    have sends : arpRequest addr s = ({ s with net := { s.net with arpSent := s.net.arpSent + 1 } } : State).sendFrame := by
      rw [arpRequest, if_neg (by rw [hears]; exact Bool.noConfusion)]
      dsimp only
      rw [if_pos ⟨real, own, unicast⟩, if_pos ⟨fw, speaks⟩]
      rfl
    obtain ⟨count, active⟩ := sendFrame_arp ({ s with net := { s.net with arpSent := s.net.arpSent + 1 } } : State)
    refine ⟨_, congrArg Host.Outcome.next sends, rfl, count, ?_⟩
    obtain ⟨still, -⟩ := sendFrame_port ({ s with net := { s.net with arpSent := s.net.arpSent + 1 } } : State) s.net.active
    have kept : (NetPort.still (Net.port _ s.net.active)).rxDrop = (NetPort.still (Net.port _ s.net.active)).rxDrop := congrArg NetPort.rxDrop still
    exact (congrArg (fun p => (Net.port _ p).rxDrop) active).trans kept
  · intro s hears on
    obtain ⟨counts, -, -, -, -, arp⟩ := dropped_counts s
    refine ⟨⟨_, congrArg Host.Outcome.next ((if_pos hears).trans (dropFrame_drops on)), rfl, congrArg NetPort.rxDrop counts⟩, fun addr other => ?_⟩
    refine ⟨_, congrArg Host.Outcome.next (Eq.trans ?_ (dropFrame_drops on)), rfl, congrArg NetPort.rxDrop counts, arp⟩
    rw [arpRequest, if_neg (by rw [hears]; exact Bool.noConfusion)]
    exact if_neg (fun own => other own.2.2)
  · intro s deaf
    exact congrArg Host.Outcome.next (if_neg (by rw [deaf]; exact Bool.noConfusion))

end Sys2Proof.Machine

/-! PROOFS. What hosts write in their windows (O35); commands taken, notices posted, mirrors and HOLDOFF (O36). -/

namespace Sys2Proof.Machine

/-! ### A port's own change -/

theorem modHost_some {s : State} {p : Nat} {q : HostPort} (at_ : s.hosts[p]? = some q) (f : HostPort → HostPort) :
    (s.modHost p f).hosts[p]? = some (f q) := getElem?_modAt_same at_

theorem modHost_hport {s : State} {p : Nat} {q : HostPort} (at_ : s.hosts[p]? = some q) (f : HostPort → HostPort) :
    (s.modHost p f).hport p = f q := getD_of_some (modHost_some at_ f) _

theorem byHost_acts {s : State} {p : Nat} (can : s.hostCan p = true) (f : State → State) : s.byHost p f = f s := if_pos can

theorem indexOk_iff {old limit v : Nat} (small : v < 65536) : indexOk old limit (v % 65536) = true ↔ (v + 65536 - old) % 65536 ≤ limit := by
  rw [indexOk, decide_eq_true_eq, Nat.mod_eq_of_lt small]

/-! ### Entries of a command ring -/

/-- Entries in a ring of 64 from a place on (R209). -/
def putRing (tail : Nat) (es : List (RawCmd × Nat)) (ring : List (Option RawCmd)) : List (Option RawCmd) :=
  es.foldl (fun ring q => setAt (some q.1) ((tail + q.2) % 64) ring) ring

theorem putEntries_eq (es : List RawCmd) (h : HostPort) : h.putEntries es =
    { h with cmdRing := putRing h.cmdTail (es.take (64 - (h.cmdTail + 65536 - h.cmdHead) % 65536)).zipIdx h.cmdRing } := by
  unfold HostPort.putEntries putRing
  dsimp only
  generalize (es.take (64 - (h.cmdTail + 65536 - h.cmdHead) % 65536)).zipIdx = l
  generalize ring : h.cmdRing = r
  have same : h = { h with cmdRing := r } := by rw [← ring]
  rw [same]
  generalize h.cmdTail = tail
  clear ring same
  induction l generalizing r with
  | nil => rfl
  | cons q l ih => exact ih _

theorem putRing_length (tail : Nat) (l : List (RawCmd × Nat)) (ring : List (Option RawCmd)) : (putRing tail l ring).length = ring.length := by
  induction l generalizing ring with
  | nil => rfl
  | cons q l ih => exact (ih _).trans (length_modAt _ _ _)

theorem putRing_away {tail k : Nat} {l : List (RawCmd × Nat)} (other : ∀ q ∈ l, k ≠ (tail + q.2) % 64) (ring : List (Option RawCmd)) :
    (putRing tail l ring).getD k none = ring.getD k none := by
  induction l generalizing ring with
  | nil => rfl
  | cons q l ih =>
    exact (ih (fun p mem => other p (List.mem_cons_of_mem _ mem)) _).trans (getD_modAt_other (other q List.mem_cons_self))

theorem putRing_at {tail : Nat} {es : List RawCmd} {n i : Nat} {e : RawCmd} (fits : n + es.length ≤ 64) (its : es[i]? = some e)
    {ring : List (Option RawCmd)} (size : ring.length = 64) : (putRing tail (es.zipIdx n) ring).getD ((tail + (n + i)) % 64) none = some e := by
  induction es generalizing n i ring with
  | nil => cases its
  | cons x es ih =>
    rw [List.length_cons] at fits
    rw [List.zipIdx_cons]
    cases i with
    | zero =>
      cases its
      show (putRing tail (es.zipIdx (n + 1)) (setAt (some e) ((tail + n) % 64) ring)).getD ((tail + (n + 0)) % 64) none = some e
      refine (putRing_away (fun q mem => ?_) _).trans ?_
      · obtain ⟨low, high, -⟩ := List.mem_zipIdx (x := q.1) (i := q.2) mem
        omega
      · exact getD_setAt (by rw [size]; omega) _ _
    | succ i =>
      have place : tail + (n + (i + 1)) = tail + (n + 1 + i) := by omega
      rw [place]
      exact ih (by omega) its ((length_modAt _ _ _).trans size)

/-- A write of the tail (R209). -/
theorem tailWrite_puts {v : Nat} {es : List RawCmd} {q : HostPort} (small : v < 65536) (ok : (v + 65536 - q.cmdHead) % 65536 ≤ 64) :
    (q.putEntries es).tailWrite v = { q with cmdTail := v, cmdRing := (q.putEntries es).cmdRing } := by
  have eq := putEntries_eq es q
  rw [HostPort.tailWrite, if_pos, Nat.mod_eq_of_lt small, eq]
  rw [indexOk_iff small, eq]
  exact ok

theorem tailWrite_ignored {v : Nat} {es : List RawCmd} {q : HostPort} (small : v < 65536) (bad : 64 < (v + 65536 - q.cmdHead) % 65536) :
    (q.putEntries es).tailWrite v = { q with err := q.err ||| 1, cmdRing := (q.putEntries es).cmdRing } := by
  have eq := putEntries_eq es q
  rw [HostPort.tailWrite, if_neg, eq]
  rw [indexOk_iff small, eq]
  exact Nat.not_le.2 bad

/-- Settles O35: what a host writes in its window is taken where its ring's state allows it, and otherwise counted. -/
theorem windowWrites : Obligations.WindowWrites := by
  unfold Obligations.WindowWrites
  intro s p q can at_
  have port (f : HostPort → HostPort) : s.byHost p.val (fun s => s.modHost p.val f) = s.modHost p.val f := byHost_acts can _
  refine ⟨?_, ?_, ?_, ?_, ?_, ?_, ?_, ?_⟩
  · intro v es small ok fits size
    have puts := tailWrite_puts (es := es) small ok
    have whole : es.take (64 - (q.cmdTail + 65536 - q.cmdHead) % 65536) = es := List.take_of_length_le (by omega)
    have ring : (q.putEntries es).cmdRing = putRing q.cmdTail es.zipIdx q.cmdRing := by rw [putEntries_eq, whole]
    have now := modHost_hport at_ (fun h => (h.putEntries es).tailWrite v)
    have shows : ((s.modHost p.val (fun h => (h.putEntries es).tailWrite v)).hport p.val).cmdRing = putRing q.cmdTail es.zipIdx q.cmdRing := by
      rw [now, puts, ring]
    refine ⟨_, congrArg Host.Outcome.next (port _), rfl, ?_, fun i e its => ?_, fun k other => ?_, fun r other => modHost_away other _⟩
    · rw [modHost_some at_, shows, puts, ring]
    · rw [shows]
      have place := putRing_at (tail := q.cmdTail) (n := 0) (i := i) (by omega) its size
      rwa [Nat.zero_add] at place
    · rw [shows]
      refine putRing_away (fun x mem => ?_) _
      obtain ⟨-, high, -⟩ := List.mem_zipIdx (x := x.1) (i := x.2) mem
      exact other x.2 (by omega)
  · intro v es small bad
    have now := modHost_hport at_ (fun h => (h.putEntries es).tailWrite v)
    rw [tailWrite_ignored small bad] at now
    exact ⟨_, congrArg Host.Outcome.next (port _), rfl, by rw [now], by rw [now]⟩
  · intro v small ok
    refine ⟨_, congrArg Host.Outcome.next (port _), rfl, ?_⟩
    rw [modHost_some at_, HostPort.cplHeadWrite, if_pos ((indexOk_iff small).2 ok), Nat.mod_eq_of_lt small]
  · intro v small bad
    refine ⟨_, congrArg Host.Outcome.next (port _), rfl, ?_⟩
    rw [modHost_some at_, HostPort.cplHeadWrite, if_neg (fun ok => absurd ((indexOk_iff small).1 ok) (Nat.not_le.2 bad))]
  · intro v small ok
    refine ⟨_, congrArg Host.Outcome.next (port _), rfl, ?_⟩
    rw [modHost_some at_, HostPort.ntcHeadWrite, if_pos ((indexOk_iff small).2 ok), Nat.mod_eq_of_lt small]
  · intro v small bad
    refine ⟨_, congrArg Host.Outcome.next (port _), rfl, ?_⟩
    rw [modHost_some at_, HostPort.ntcHeadWrite, if_neg (fun ok => absurd ((indexOk_iff small).1 ok) (Nat.not_le.2 bad))]
  · intro v
    refine ⟨_, congrArg Host.Outcome.next (port _), rfl, ?_⟩
    rw [modHost_some at_, HostPort.enableWrite, bit_toNat]
    cases v.getLsbD 0 <;> cases q.enable <;> rfl
  · exact ⟨_, congrArg Host.Outcome.next (byHost_acts can _), rfl, rfl⟩

/-! ### Commands are taken -/

/-- The first of four places in rotation that passes a test. -/
theorem find_rotated {may : Nat → Bool} {b k : Nat} (lo : 1 ≤ k) (hi : k ≤ 4) (before : ∀ j, 1 ≤ j → j < k → ¬ may ((b + j) % 4) = true)
    (here : may ((b + k) % 4) = true) : [(b + 1) % 4, (b + 2) % 4, (b + 3) % 4, (b + 4) % 4].find? may = some ((b + k) % 4) := by
  obtain rfl | rfl | rfl | rfl : k = 1 ∨ k = 2 ∨ k = 3 ∨ k = 4 := by omega
  · exact List.find?_cons_of_pos here
  · rw [List.find?_cons_of_neg (before 1 (by omega) (by omega)), List.find?_cons_of_pos here]
  · rw [List.find?_cons_of_neg (before 1 (by omega) (by omega)), List.find?_cons_of_neg (before 2 (by omega) (by omega)), List.find?_cons_of_pos here]
  · rw [List.find?_cons_of_neg (before 1 (by omega) (by omega)), List.find?_cons_of_neg (before 2 (by omega) (by omega)),
      List.find?_cons_of_neg (before 3 (by omega) (by omega)), List.find?_cons_of_pos here]

/-- The port served next, in rotation (R210). -/
theorem nextPort_of {s : State} {p k : Nat} (lo : 1 ≤ k) (hi : k ≤ 4) (its : p = (s.sys.servedPort + k) % 4)
    (before : ∀ j, 1 ≤ j → j < k → (s.hport ((s.sys.servedPort + j) % 4)).mayTake = false) (may : (s.hport p).mayTake = true) : s.nextPort = some p := by
  subst its
  exact find_rotated (may := fun p => (s.hport p).mayTake) lo hi (fun j low lt => by rw [before j low lt]; exact Bool.noConfusion) may

/-- A command as firmware copies it; an unknown code fails in its turn (R209, R212). -/
def copiedCmd (c : RawCmd) (k : Nat) : Taken :=
  if knownCodes.contains c.code then { cmd := c, seq := k }
  else { cmd := c, seq := k, begun := true, answer := some (cplBytes c.code stMalformed c.tag 0 []) }

theorem commandTake_takes {s : State} {p : Nat} {q : HostPort} {c : RawCmd} (serves : s.serves = true) (next : s.nextPort = some p)
    (at_ : s.hosts[p]? = some q) (head : q.cmdRing.getD (q.cmdHead % 64) none = some c) : commandTake p s =
    ({ s with sys := { s.sys with servedPort := p } } : State).modHost p (fun h => HostPort.flush 1 { h with
      cmdHead := (h.cmdHead + 1) % 65536, takes := q.takes + 1, taken := h.taken ++ [copiedCmd c q.takes] }) := by
  have port : s.hport p = q := getD_of_some at_ _
  have its : q.headCmd = c := by rw [HostPort.headCmd, head]; rfl
  rw [commandTake, if_neg (fun no => no.elim (fun no => Bool.noConfusion (serves.symm.trans no)) (fun no => no next)), port, its]
  rfl

/-! ### Notices and messages -/

theorem notice_short {l : List Byte} (four : l.length = 4) : ((l ++ List.replicate 10 0).take 10).take 4 = l := by
  rw [List.take_take]
  exact List.take_left' four

theorem putNotice_shows (n : Notice) (h : HostPort) : (h.putNotice n).backlog = h.backlog ∧ (h.putNotice n).ntcTail = (h.ntcTail + 1) % 65536 ∧
    (h.putNotice n).ntcSeq = (h.ntcSeq + 1) % 2 ^ 32 ∧ (h.putNotice n).ntcBody = setAt n.body (h.ntcTail % 32) h.ntcBody ∧
    (h.putNotice n).ntcDesc = setAt (leBytes 2 n.kind ++ leBytes 2 0 ++ leBytes 4 h.ntcSeq ++ leBytes 4 n.atNs ++ leBytes 6 n.atS ++ leBytes 2 0
      ++ leBytes 2 n.body.length ++ (n.short ++ List.replicate 10 0).take 10) (h.ntcTail % 32) h.ntcDesc := by
  unfold HostPort.putNotice
  dsimp only
  rw [msg_frame]
  exact ⟨rfl, rfl, rfl, rfl, rfl⟩

/-- A backlogged notice is posted where the ring has room (R211). -/
theorem postNext_posts {s : State} {p : Nat} {q : HostPort} {n : Notice} {b : Back} {rest : List Back} (fw : s.firmware = true)
    (at_ : s.hosts[p]? = some q) (on : q.enable = true) (up : q.linkUp = true) (room : (q.ntcTail + 65536 - q.ntcHead) % 65536 < 32)
    (due : q.backlog = b :: rest) (its : b = .note n ∨ ∃ k, b = .lost k ∧
      n = { kind := 8, atS := (mailOf s.tai).1, atNs := (mailOf s.tai).2, short := leBytes 4 k }) :
    s.postNext p = s.modHost p (fun h => HostPort.putNotice n { h with backlog := rest }) := by
  have port : s.hport p = q := getD_of_some at_ _
  rw [State.postNext, port]
  dsimp only
  rw [if_neg, due]
  · rcases its with rfl | ⟨k, rfl, rfl⟩
    · rfl
    · rfl
  · rw [fw, on, up]
    rintro (no | no | no | no)
    · cases no
    · cases no
    · exact Bool.noConfusion (no.symm.trans (decide_eq_true room))
    · cases no

/-- A message of a vector that is not masked, with HOLDOFF from then on (R219). -/
theorem fire_sends {h : HostPort} {v : Nat} (open_ : (h.msix.getD v {}).masked = false) : h.fire v = { h with sent := modAt (· + 1) v h.sent } := by
  rw [HostPort.fire, if_neg (by rw [open_]; exact Bool.noConfusion)]

theorem sends_open {h : HostPort} {v : Nat} (open_ : (h.msix.getD v {}).masked = false) : h.sends v = true := by
  rw [HostPort.sends, open_]
  rfl

/-- The end of HOLDOFF with a message held back: it is sent, and HOLDOFF runs anew (R219). -/
theorem holdEnd0_sends {q : HostPort} (hold : q.hold0 = true) (held : q.held0 = true) (up : q.linkUp = true) (off : q.holdoff ≠ 0)
    (open_ : (q.msix.getD 0 {}).masked = false) : q.holdEnd 0 = { q with hold0 := true, held0 := false, sent := modAt (· + 1) 0 q.sent } := by
  have again : (q.sends 0 && decide (q.holdoff ≠ 0)) = true := by rw [sends_open open_, decide_eq_true off]; rfl
  have msg : HostPort.msg 0 { q with hold0 := false, held0 := false } =
      { HostPort.fire 0 { q with hold0 := false, held0 := false } with hold0 := q.sends 0 && decide (q.holdoff ≠ 0) } := by
    rw [HostPort.msg, if_neg (by rw [up]; exact Bool.noConfusion)]
    rfl
  rw [HostPort.holdEnd, if_pos rfl, hold, held]
  refine msg.trans ?_
  rw [again, fire_sends (h := { q with hold0 := false, held0 := false }) open_]

theorem holdEnd1_sends {q : HostPort} (hold : q.hold1 = true) (held : q.held1 = true) (up : q.linkUp = true) (off : q.holdoff ≠ 0)
    (open_ : (q.msix.getD 1 {}).masked = false) : q.holdEnd 1 = { q with hold1 := true, held1 := false, sent := modAt (· + 1) 1 q.sent } := by
  have again : (q.sends 1 && decide (q.holdoff ≠ 0)) = true := by rw [sends_open open_, decide_eq_true off]; rfl
  have msg : HostPort.msg 1 { q with hold1 := false, held1 := false } =
      { HostPort.fire 1 { q with hold1 := false, held1 := false } with hold1 := q.sends 1 && decide (q.holdoff ≠ 0) } := by
    rw [HostPort.msg, if_neg (by rw [up]; exact Bool.noConfusion)]
    rfl
  rw [HostPort.holdEnd, if_neg (by decide), hold, held]
  refine msg.trans ?_
  rw [again, fire_sends (h := { q with hold1 := false, held1 := false }) open_]

/-! ### Mirrors -/

theorem notify_away {p r : Nat} (other : r ≠ p) (k : Nat) (b c : List Byte) (s : State) : (s.notify p k b c).hport r = s.hport r := modHost_away other _

/-- A notice to a port changes its notices and messages alone. -/
theorem hostNotify_frame (fw : Bool) (n : Notice) (h : HostPort) : h.notify fw n = { h with
    ntcDesc := (h.notify fw n).ntcDesc, ntcBody := (h.notify fw n).ntcBody, ntcTail := (h.notify fw n).ntcTail, ntcSeq := (h.notify fw n).ntcSeq,
    backlog := (h.notify fw n).backlog, ntcLost := (h.notify fw n).ntcLost, err := (h.notify fw n).err, held0 := (h.notify fw n).held0,
    held1 := (h.notify fw n).held1, hold0 := (h.notify fw n).hold0, hold1 := (h.notify fw n).hold1, pba := (h.notify fw n).pba,
    sent := (h.notify fw n).sent } := by
  unfold HostPort.notify
  split
  · rfl
  · split
    · unfold HostPort.putNotice
      dsimp only
      rw [msg_frame]
    · unfold HostPort.enqueue
      split <;> rfl

/-- A look at a host's entries changes nothing of another port, nor what the mirrors bracket (R208). -/
theorem healthCheck_port (p : Nat) (s : State) : ((s.healthCheck p).hport p).mirSeq = (s.hport p).mirSeq ∧
    ∀ r, r ≠ p → (s.healthCheck p).hport r = s.hport r := by
  have told (k : Nat) (b c : List Byte) (u : State) : ((u.notify p k b c).hport p).mirSeq = (u.hport p).mirSeq :=
    modHost_view HostPort.mirSeq (fun h => by rw [hostNotify_frame]) p p u
  have seen (es : List HEntry) (g : HostPort → Nat) : ((s.modHost p (fun h => { h with seen := es, health := g h })).hport p).mirSeq = (s.hport p).mirSeq :=
    modHost_view HostPort.mirSeq (f := fun h => { h with seen := es, health := g h }) (fun _ => rfl) p p s
  unfold State.healthCheck
  dsimp only
  split
  · refine ⟨?_, fun r other => ?_⟩
    · rw [owesLog_hport, told, seen]
    · rw [owesLog_hport, notify_away other, modHost_away other]
  · exact ⟨seen _ _, fun r other => modHost_away other _⟩

/-- What a refresh leaves in the mirrors (R208). -/
theorem mirror_shows {s : State} {p : Nat} (there : p < s.hosts.length) : ((s.mirror p).hport p).mirSeq = ((s.hport p).mirSeq + 2) % 2 ^ 32 ∧
    ((s.mirror p).hport p).mirState = s.mirState ∧ ((s.mirror p).hport p).mirTaiNs = (mailOf s.tai).2 ∧
    ((s.mirror p).hport p).mirTaiS = (mailOf s.tai).1 % 2 ^ 32 ∧ ((s.mirror p).hport p).mirHealth = ((s.mirror p).hport p).health ∧
    ((s.mirror p).hport p).mirInst = (List.range 4).map (s.mirInst p) ∧ (∀ r, r ≠ p → (s.mirror p).hport r = s.hport r) ∧
    s.mirror p = { s with hosts := (s.mirror p).hosts, rcd := { s.rcd with logDue := (s.mirror p).rcd.logDue } } := by
  have frame := healthCheck_frame p s
  obtain ⟨seq, away⟩ := healthCheck_port p s
  have length : p < (s.healthCheck p).hosts.length := by rw [healthCheck_hosts_length]; exact there
  unfold State.mirror
  generalize s.healthCheck p = u at frame seq away length
  dsimp only
  rw [modHost_at length]
  refine ⟨congrArg (fun k => (k + 2) % 2 ^ 32) seq, ?_, ?_, ?_, rfl, ?_, fun r other => ?_, ?_⟩
  · rw [frame]; rfl
  · rw [frame]; rfl
  · rw [frame]; rfl
  · rw [frame]; rfl
  · rw [modHost_away other, away r other]
  · rw [frame]; rfl

/-- Settles O36: commands are taken in rotation, notices posted in order, mirrors refreshed, and what HOLDOFF held back is sent once. -/
theorem takePostMirror : Obligations.TakePostMirror := by
  unfold Obligations.TakePostMirror
  refine ⟨?_, ?_, ?_, ?_, ?_⟩
  · intro s p q c k serves at_ lo hi its before room some_ head
    have port : s.hport p.val = q := getD_of_some at_ _
    have may : (s.hport p.val).mayTake = true := by
      rw [port, HostPort.mayTake, Bool.and_eq_true, decide_eq_true_eq, decide_eq_true_eq]
      exact ⟨room, some_⟩
    have takes := commandTake_takes serves (nextPort_of lo hi its before may) at_ head
    refine ⟨fun known unanswered => ?_, fun unknown empty size => ?_⟩
    · have copy : copiedCmd c q.takes = ⟨c, false, none, q.takes⟩ := if_pos (List.contains_iff_mem.2 known)
      rw [copy] at takes
      refine ⟨_, congrArg Host.Outcome.next takes, rfl, ?_, fun r other => modHost_away (s := { s with sys := { s.sys with servedPort := p.val } }) other _⟩
      refine (modHost_some (s := { s with sys := { s.sys with servedPort := p.val } }) at_ _).trans ?_
      rw [flush_stops]
      refine readyCpl_none (fun u mem => ?_)
      rcases List.mem_append.1 mem with old | new
      · exact unanswered u old
      · rw [List.mem_singleton.1 new]
    · have copy : copiedCmd c q.takes = ⟨c, true, some (cplBytes c.code stMalformed c.tag 0 []), q.takes⟩ :=
        if_neg (fun known => unknown (List.contains_iff_mem.1 known))
      rw [copy] at takes
      have posts := flush_posts (h := { q with
        cmdHead := (q.cmdHead + 1) % 65536, takes := q.takes + 1,
        taken := q.taken ++ [⟨c, true, some (cplBytes c.code stMalformed c.tag 0 []), q.takes⟩] }) (bs := cplBytes c.code stMalformed c.tag 0 []) (rest := [])
        (by rw [empty]; rfl) (fun u mem => nomatch mem) 0
      obtain ⟨taken, tail, ring, -, cmd, -⟩ := post_fields (cplBytes c.code stMalformed c.tag 0 []) { q with
        cmdHead := (q.cmdHead + 1) % 65536, takes := q.takes + 1, taken := [] }
      have now := modHost_hport (s := { s with sys := { s.sys with servedPort := p.val } }) at_ (fun h => HostPort.flush 1 { h with
        cmdHead := (h.cmdHead + 1) % 65536, takes := q.takes + 1,
        taken := h.taken ++ [⟨c, true, some (cplBytes c.code stMalformed c.tag 0 []), q.takes⟩] })
      refine ⟨_, congrArg Host.Outcome.next takes, rfl, ?_, ?_, ?_, ?_⟩
      all_goals rw [now, posts]
      · exact taken
      · exact cmd
      · exact tail
      · rw [ring]
        exact getD_setAt (by rw [size]; omega) _ _
  · intro s p q n rest fw at_ on up room due size
    have posts := postNext_posts fw at_ on up room due (.inl rfl)
    have now := modHost_hport at_ (fun h => HostPort.putNotice n { h with backlog := rest })
    obtain ⟨backlog, tail, seq, body, -⟩ := putNotice_shows n { q with backlog := rest }
    refine ⟨_, congrArg Host.Outcome.next posts, rfl, ?_, ?_, ?_, ?_, fun r other => modHost_away other _⟩
    all_goals rw [now]
    · exact backlog
    · exact tail
    · exact seq
    · rw [body]
      exact getD_setAt (by rw [size]; omega) _ _
  · intro s p q k rest fw at_ on up room due size
    have posts := postNext_posts fw at_ on up room due (.inr ⟨k, rfl, rfl⟩)
    have now := modHost_hport at_ (fun h => HostPort.putNotice { kind := 8, atS := (mailOf s.tai).1, atNs := (mailOf s.tai).2, short := leBytes 4 k }
      { h with backlog := rest })
    obtain ⟨backlog, tail, seq, -, desc⟩ := putNotice_shows { kind := 8, atS := (mailOf s.tai).1, atNs := (mailOf s.tai).2, short := leBytes 4 k }
      { q with backlog := rest }
    have entry := getD_setAt (l := q.ntcDesc) (i := q.ntcTail % 32) (by rw [size]; omega)
    refine ⟨_, congrArg Host.Outcome.next posts, rfl, ?_, ?_, ?_, ?_, ?_⟩
    all_goals rw [now]
    · exact backlog
    · exact tail
    · exact seq
    · rw [desc]
      refine (congrArg (List.take 2) (entry _ _)).trans ?_
      simp only [List.append_assoc]
      exact List.take_left' (length_leBytes _ _)
    · rw [desc]
      refine (congrArg (fun l => (l.drop 22).take 4) (entry _ _)).trans ?_
      dsimp only
      rw [List.drop_left' (by simp only [List.length_append, length_leBytes])]
      exact notice_short (length_leBytes _ _)
  · intro s p q serves at_
    obtain ⟨seq, state, ns, sec, count, insts, away, frame⟩ := mirror_shows (s := s) (lt_of_some at_)
    have port : s.hport p.val = q := getD_of_some at_ _
    refine ⟨_, congrArg Host.Outcome.next (if_pos serves), frame, seq.trans (by rw [port]), state, ns, sec, count, fun i low => ?_, away⟩
    rw [insts, List.getD_eq_getElem _ _ (by rw [List.length_map, List.length_range]; exact low), List.getElem_map, List.getElem_range]
  · intro s p q at_
    have ends (v : Fin 2) : exec (.msixHoldoffEnd p v) s = .next (s.modHost p.val (HostPort.holdEnd v.val)) := rfl
    have now (v : Fin 2) := modHost_hport at_ (HostPort.holdEnd v.val)
    refine ⟨fun hold held => ?_, fun hold held => ?_, fun hold held up off open_ size => ?_, fun hold held up off open_ size => ?_⟩
    · refine ⟨_, ends 0, rfl, ?_⟩
      rw [modHost_some at_]
      show some (if (q.hold0 && q.held0) = true then _ else _) = _
      rw [hold, held]
      rfl
    · refine ⟨_, ends 1, rfl, ?_⟩
      rw [modHost_some at_]
      show some (if (q.hold1 && q.held1) = true then _ else _) = _
      rw [hold, held]
      rfl
    · refine ⟨_, ends 0, rfl, ?_⟩
      rw [now 0, show ((0 : Fin 2).val) = 0 from rfl, holdEnd0_sends hold held up off open_]
      exact ⟨rfl, rfl, getD_modAt (by rw [size]; omega) _⟩
    · refine ⟨_, ends 1, rfl, ?_⟩
      rw [now 1, show ((1 : Fin 2).val) = 1 from rfl, holdEnd1_sends hold held up off open_]
      exact ⟨rfl, rfl, getD_modAt (by rw [size]; omega) _⟩

end Sys2Proof.Machine

/-! PROOFS. A host port goes and comes (O37). -/

namespace Sys2Proof.Machine

/-! ### The health counts of the ports -/

/-- The health counts of the ports: only a look at a host's entries moves them (R208). -/
def State.healths (s : State) : List Nat := s.hosts.map HostPort.health

theorem modHost_healths {f : HostPort → HostPort} (same : ∀ h, (f h).health = h.health) (p : Nat) (s : State) : (s.modHost p f).healths = s.healths :=
  map_modAt same p s.hosts

theorem msg_health (v : Nat) (h : HostPort) : (h.msg v).health = h.health := by rw [msg_frame]

theorem post_health (bs : List Byte) (h : HostPort) : (HostPort.post bs h).health = h.health := by
  rw [HostPort.post, msg_health]

theorem flush_health : ∀ (k : Nat) (h : HostPort), (h.flush k).health = h.health
  | 0, _ => rfl
  | k + 1, h => by
    rw [HostPort.flush]
    split
    · rfl
    · exact (flush_health k _).trans (post_health _ _)

theorem completeSeq_health (k code status : Nat) (tag : Word) (d : Nat) (res : List Byte) (h : HostPort) :
    (h.completeSeq k code status tag d res).health = h.health := by
  unfold HostPort.completeSeq
  split
  · rfl
  · exact flush_health _ _

theorem statusChanged_healths (s : State) : s.statusChanged.healths = s.healths := by
  show (s.hosts.map (HostPort.msg 2)).map HostPort.health = _
  rw [List.map_map]
  exact List.map_congr_left (fun h _ => msg_health 2 h)

theorem healths_of {s t : State} (same : t.hosts = s.hosts) : t.healths = s.healths := congrArg (List.map HostPort.health) same

theorem healths_foldl {α : Type} (f : State → α → State) (one : ∀ u a, (f u a).healths = u.healths) (l : List α) (s : State) :
    (l.foldl f s).healths = s.healths := foldl_keeps State.healths f one l s

theorem settle_healths (x status detail : Nat) (res : List Byte) (s : State) : (s.settle x status detail res).healths = s.healths := by
  unfold State.settle
  split
  · rfl
  · split
    · exact modHost_healths (completeSeq_health _ _ _ _ _ _) _ s
    · rfl

theorem postReport_healths (e : Epoch) (s : State) : (s.postReport e).healths = s.healths := by
  have logs : (s.logTo 1 [e.inst] s.stamp e.report).healths = s.healths := healths_of (by rw [logTo_frame])
  unfold State.postReport
  dsimp only
  split
  · exact logs
  · exact (modHost_healths (fun h => by rw [hostNotify_frame]) _ _).trans logs

theorem shadowWrite_healths (x : Nat) (t : CellTgt) (s : State) : (s.shadowWrite x t).healths = s.healths := by
  unfold State.shadowWrite
  split
  · rfl
  · split <;> rfl

theorem startEp_healths (x : Nat) (s : State) : (s.startEp x).healths = s.healths := by
  unfold State.startEp
  split
  · rfl
  · split
    · exact settle_healths _ _ _ _ s
    · rfl
    · exact healths_foldl (fun s t => s.shadowWrite x t) (fun u t => shadowWrite_healths x t u) _ _

theorem letEpochIn_healths (e : Epoch) (s : State) : (s.letEpochIn e).healths = s.healths := by
  have gives : (s.giveSlot e).healths = s.healths := by
    unfold State.giveSlot
    split <;> rfl
  unfold State.letEpochIn
  dsimp only
  split
  · exact (startEp_healths _ _).trans gives
  · exact gives

theorem freeEp_healths (x : Nat) (s : State) : (s.freeEp x).healths = s.healths := by
  have wakes (u : State) : u.wake.healths = u.healths := by
    unfold State.wake
    split
    · rfl
    · split
      · exact letEpochIn_healths _ _
      · rfl
  exact wakes _

theorem endEp_healths (x : Nat) (how : EpStatus) (s : State) : (s.endEp x how).healths = s.healths := by
  obtain none_ | ⟨again, ends⟩ := endEp_cases x how s
  · rw [none_]
  · rw [ends]
    split
    · unfold State.finishEp
      split
      · rfl
      · exact (freeEp_healths _ _).trans ((postReport_healths _ _).trans (settle_healths _ _ _ _ _))
    · rfl

theorem endAll_healths (p : Epoch → Bool) (how : EpStatus) (s : State) : (s.endAll p how).healths = s.healths :=
  healths_foldl (fun s x => s.endEp x how) (fun u x => endEp_healths x how u) _ s

/-! ### The port's epochs -/

/-- One epoch of the port gets no completion any more (R221). -/
def State.disownOne (s : State) (e : Epoch) : State := s.modEp e.ext (fun e => { e with owed := false })

theorem disown_quiet (p : Nat) (s : State) : Quiet s (s.disown p) ∧ Works s (s.disown p) ∧ (s.disown p).healths = s.healths :=
  ⟨quiet_foldl State.disownOne (fun u e => quiet_modEp e.ext _ u) _ s, works_foldl State.disownOne (fun u e => works_modEp (g := fun e => { e with owed := false }) (fun _ => rfl) e.ext u) _ s,
    healths_foldl State.disownOne (fun _ _ => rfl) _ s⟩

/-- The port's epochs before their seal end (R157, R221). -/
theorem portEpochs_quiet (p : Nat) (s : State) : Quiet s (s.portEpochs p) ∧ Works s (s.portEpochs p) ∧ (s.portEpochs p).healths = s.healths :=
  ⟨(quiet_endAll _ _ s).trans (quiet_endAll _ _ _), (works_endAll _ _ s).trans (works_endAll _ _ _), (endAll_healths _ _ _).trans (endAll_healths _ _ s)⟩

/-! ### The steward's own work (R221) -/

theorem hkcOvr_frame (n : Nat) (s : State) : s.hkcOvr n = { s with hkc := (s.hkcOvr n).hkc, evt := (s.hkcOvr n).evt } := by
  unfold State.hkcOvr
  split <;> rfl

theorem hkcWord_frame (n : Nat) (ovr mark abt : Bool) (code : Int) (s : State) :
    s.hkcWord n ovr mark abt code = { s with hkc := (s.hkcWord n ovr mark abt code).hkc, evt := (s.hkcWord n ovr mark abt code).evt } := by
  unfold State.hkcWord
  dsimp only
  split
  · split
    · rw [hkcOvr_frame n (State.hkcOvr n _), hkcOvr_frame n (State.modCore n _ s)]
      rfl
    · rw [hkcOvr_frame]
      rfl
  · split
    · rw [hkcOvr_frame]
      rfl
    · rfl

theorem startPass_frame (n : Nat) (origin : Option Nat) (s : State) :
    s.startPass n origin = { s with hkc := (s.startPass n origin).hkc, evt := (s.startPass n origin).evt } := by
  unfold State.startPass
  dsimp only
  rw [hkcWord_frame]
  rfl

theorem contStart_frame (n : Nat) (s : State) : s.contStart n = { s with hkc := (s.contStart n).hkc, evt := (s.contStart n).evt } := by
  unfold State.contStart
  split
  · exact startPass_frame _ _ _
  · rfl

/-- What the steward's port had under way ends: nothing but the mode of the device, the converters, their events and messages moves. -/
theorem dropSteward_drops (p : Nat) (s : State) : ∃ y hk ev ho, s.dropSteward p = { s with sys := y, hkc := hk, evt := ev, hosts := ho } ∧
    y.mode = s.sys.mode ∧ ho.map HostPort.health = s.hosts.map HostPort.health := by
  unfold State.dropSteward
  split
  · exact ⟨_, _, _, _, rfl, rfl, rfl⟩
  · have ends (x : State) (hk : Hkc) (ev : Evt) (its : x = { s with hkc := hk, evt := ev }) (z : Sys) (mode : z.mode = s.sys.mode) (rel : Bool) (h : Hkc) :
        ∃ y hk ev ho, (if rel = true then ({ x with sys := z, hkc := h } : State).statusChanged else { x with sys := z, hkc := h }) =
          { s with sys := y, hkc := hk, evt := ev, hosts := ho } ∧ y.mode = s.sys.mode ∧ ho.map HostPort.health = s.hosts.map HostPort.health := by
      subst its
      cases rel with
      | true => exact ⟨z, h, ev, _, rfl, mode, statusChanged_healths s⟩
      | false => exact ⟨z, h, ev, _, rfl, mode, rfl⟩
    cases s.hkc.sysRun with
    | none =>
      dsimp only
      refine ends s s.hkc s.evt rfl _ ?_ _ _
      rfl
    | some r =>
      dsimp only
      have passes : ∃ hk ev, (if r.resume = true then (s.modCore r.core (fun c => { c with st := .idle })).startPass r.core
          ((s.modCore r.core (fun c => { c with st := .idle })).core r.core).origin
          else (s.modCore r.core (fun c => { c with st := .idle })).contStart r.core) = { s with hkc := hk, evt := ev } := by
        split
        · exact ⟨_, _, startPass_frame _ _ _⟩
        · exact ⟨_, _, contStart_frame _ _⟩
      obtain ⟨hk, ev, frame⟩ := passes
      refine ends _ hk ev frame _ ?_ _ _
      exact (congrArg (fun u : State => u.sys.mode) frame :)

/-! ### The port's channels (R221) -/

/-- One channel is given up (R221). -/
def State.chanFreed (h : Nat) (s : State) (ch : Nat) : State :=
  if (s.chan ch).owner = h then (s.chanOff ch).modChan ch (fun c => { c with src := 0, vector := 0 }) else s

/-- A channel of the port is off, with no source (R221). -/
def State.chanClear (h ch : Nat) (s : State) : Prop := ∀ c, s.evt.chans[ch]? = some c → c.owner = h → c.en = false ∧ c.src = 0

theorem chanFreed_frame (h : Nat) (s : State) (ch : Nat) : s.chanFreed h ch = { s with evt := (s.chanFreed h ch).evt } := by
  unfold State.chanFreed
  split <;> rfl

theorem chanFreed_clears (h : Nat) (s : State) (ch : Nat) : (s.chanFreed h ch).chanClear h ch := by
  intro c its own
  unfold State.chanFreed at its
  split at its
  · have place : (modAt (fun c : Chan => { c with src := 0, vector := 0 }) ch (modAt (fun c => { c with en := false }) ch s.evt.chans))[ch]? = some c := its
    cases there : s.evt.chans[ch]? with
    | none =>
      rw [getElem?_modAt, if_pos rfl, getElem?_modAt, if_pos rfl, there] at place
      cases place
    | some k =>
      rw [getElem?_modAt_same (getElem?_modAt_same there)] at place
      cases place
      exact ⟨rfl, rfl⟩
  · rename_i other
    exact absurd own (by rw [State.chan, getD_of_some its] at other; exact other)

theorem chanFreed_stays {h ch d : Nat} {s : State} (clear : s.chanClear h ch) : (s.chanFreed h d).chanClear h ch := by
  by_cases here : d = ch
  · subst here
    exact chanFreed_clears h s d
  · intro c its own
    refine clear c ?_ own
    rw [← its]
    unfold State.chanFreed
    split
    · exact ((getElem?_modAt_other (Ne.symm here)).trans (getElem?_modAt_other (Ne.symm here))).symm
    · rfl

theorem chansFreed_clear (h : Nat) (l : List Nat) (s : State) : ∀ ch, (ch ∈ l ∨ s.chanClear h ch) → (l.foldl (State.chanFreed h) s).chanClear h ch := by
  induction l generalizing s with
  | nil => exact fun ch given => given.resolve_left List.not_mem_nil
  | cons d l ih =>
    intro ch given
    refine ih _ ch ?_
    rcases given with mem | clear
    · rcases List.mem_cons.1 mem with rfl | later
      · exact .inr (chanFreed_clears h s ch)
      · exact .inl later
    · exact .inr (chanFreed_stays clear)

theorem evtPortReset_clears (h : Nat) (s : State) : s.evtPortReset h = { s with evt := (s.evtPortReset h).evt } ∧
    ∀ ch, ch < 128 → (s.evtPortReset h).chanClear h ch := by
  refine ⟨?_, fun ch low => chansFreed_clear h (List.range 128) s ch (.inl (List.mem_range.2 low))⟩
  show (List.range 128).foldl (State.chanFreed h) s = { s with evt := ((List.range 128).foldl (State.chanFreed h) s).evt }
  generalize List.range 128 = l
  induction l generalizing s with
  | nil => rfl
  | cons d l ih => rw [List.foldl_cons, ih, chanFreed_frame]

/-! ### The reset -/

/-- A port's master is reset: none of its pieces waits, and no shadow of its stands (R253, R362). -/
theorem dropMaster_clears (m : Nat) (s : State) : (∀ l ∈ (s.dropMaster m).braid.waiting, ∀ w ∈ l, w.req.master.val ≠ m) ∧
    ∀ w ∈ (s.dropMaster m).shadows, w.master ≠ m := by
  unfold State.dropMaster
  refine ⟨fun l mem w there => ?_, fun w mem => of_decide_eq_true (List.mem_filter.1 mem).2⟩
  obtain ⟨k, -, rfl⟩ := List.mem_map.1 mem
  exact of_decide_eq_true (List.mem_filter.1 there).2

/-- Settles O37: a port's reset ends what it had and leaves circuits and live targets; its link comes up where its domain is on. -/
theorem portResetsAndLinks : Obligations.PortResetsAndLinks := by
  unfold Obligations.PortResetsAndLinks
  refine ⟨fun s p q at_ => ?_, fun s p q r at_ => ⟨fun on => ?_, fun off => ?_⟩⟩
  · have drops := dropMaster_frame (9 + p.val) s
    obtain ⟨waiting, shadows⟩ := dropMaster_clears (9 + p.val) s
    refine ⟨s.portReset p.val, rfl, ?_⟩
    unfold State.portReset
    dsimp only
    generalize s.dropMaster (9 + p.val) = a at drops waiting shadows ⊢
    obtain ⟨quiet, works, healths⟩ := portEpochs_quiet p.val (({ a with fab := a.fab.dropWork p.val (fun i => decide (a.owner i = some p.val)) } : State).modHost
      p.val (fun h => { h with taken := [], linkUp := false }))
    generalize State.portEpochs p.val _ = b at quiet works healths ⊢
    obtain ⟨quiet', works', healths'⟩ := disown_quiet p.val b
    generalize b.disown p.val = c at quiet' works' healths' ⊢
    obtain ⟨y, hk, ev, ho, steward, mode, same⟩ := dropSteward_drops p.val c
    rw [steward]
    obtain ⟨frame, clear⟩ := evtPortReset_clears p.val ({ c with sys := y, hkc := hk, evt := ev, hosts := ho } : State)
    generalize State.evtPortReset p.val _ = d at frame clear ⊢
    have kept : d.hosts.map HostPort.health = s.hosts.map HostPort.health := by
      have before : c.healths = a.healths := healths'.trans (healths.trans (modHost_healths (f := fun h => { h with taken := [], linkUp := false }) (fun _ => rfl) p.val _))
      rw [frame]
      exact same.trans (before.trans (by rw [State.healths, drops]))
    have there : p.val < d.hosts.length := by
      have len := congrArg List.length kept
      rw [List.length_map, List.length_map] at len
      exact len ▸ lt_of_some at_
    have health : (d.hport p.val).health = q.health := by
      have at_p := congrArg (fun l => l[p.val]?) kept
      rw [List.getElem?_map, List.getElem?_map, at_, List.getElem?_eq_getElem there] at at_p
      have its : d.hport p.val = d.hosts[p.val] := List.getD_eq_getElem _ _ there
      rw [its]
      exact Option.some.inj at_p
    have reset := modHost_at (s := ({ d with sys := { d.sys with
      modeCmd := dropOf p.val d.sys.modeCmd, darkNext := d.sys.darkNext.filter (fun m => decide (m.port ≠ p.val)),
      restartCmd := dropOf p.val d.sys.restartCmd } } : State)) there HostPort.reset
    have braid : d.braid = a.braid := by rw [frame, quiet'.frame, quiet.frame]; rfl
    have shadow : d.shadows = a.shadows := by rw [frame, quiet'.frame, quiet.frame]; rfl
    refine ⟨?_, ?_, ?_, ?_, ?_, ?_, ?_, ?_, fun ch k its low own => clear ch low k its own, ?_, fun n => ?_, ?_⟩
    · rw [reset]; rfl
    · rw [reset]; rfl
    · rw [reset]; rfl
    · rw [reset]; rfl
    · rw [reset]; rfl
    · rw [reset]; exact health
    · show ∀ l ∈ d.braid.waiting, _
      rw [braid]; exact waiting
    · show ∀ w ∈ d.shadows, _
      rw [shadow]; exact shadows
    · show d.fab.circuits = _
      rw [frame]
      exact works'.circuits.trans (works.circuits.trans (by rw [drops]; rfl))
    · have live : (d.cell n).live = (c.cell n).live := by rw [frame]; rfl
      exact live.trans ((works'.live n).trans ((works.live n).trans (by rw [drops]; rfl)))
    · show d.sys.mode = _
      rw [frame]
      exact mode.trans (by rw [quiet'.sys, quiet.sys, drops]; rfl)
  · refine ⟨_, congrArg Host.Outcome.next (if_pos on), rfl, modHost_some at_ _, fun o other => modHost_away other _⟩
  · exact congrArg Host.Outcome.next (if_neg off)

end Sys2Proof.Machine

/-! PROOFS. The counters tick and cross their bounds (O41). -/

namespace Sys2Proof.Machine

/-! ### One tick, and the load of INC -/

theorem step_empty {s : State} (empty : s.pending = []) : step s = .next (idle s) := by
  unfold step
  rw [empty]

theorem wrapSph_below {s : State} (h : s.time.sph < 1000000000) : wrapSph s = s := if_neg (by omega)

/-- Ticks that cross no bound change the counters, and perhaps the capture list, alone. -/
theorem ticks_within {k : Nat} {s : State} (wns : s.time.wns + (s.time.gain k).1 < 2 ^ 31)
    (sph : s.time.sph + (s.time.gain k).1 < 1000000000) :
    ticks k s = capRenew s.time.sph (s.time.sph + (s.time.gain k).1) (gained k s) := by
  rw [ticks_eq, wrapWns_below (s := gained k s) (Nat.lt_trans wns (by decide)), eraAuto_below (s := gained k s) wns,
    wrapSph_below (s := gained k s) sph]

theorem capRenew_frame (a b : Nat) (s : State) : capRenew a b s =
    { s with rcd := if s.rcd.capDirty = true ∧ a / 4000 < b / 4000 then { s.rcd with capNow := s.capList, capDirty := false } else s.rcd } := by
  unfold capRenew
  split <;> rfl

/-- A real within whole bounds rounds to within them. -/
theorem clampI_roundNear {lo hi : Int} {x : Rat} (low : (lo : Rat) ≤ x) (high : x ≤ (hi : Rat)) : clampI lo hi (roundNear x) = roundNear x := by
  have under : x + 1 / 2 < ((hi + 1 : Int) : Rat) := by
    push_cast
    linarith
  have over_ : (lo : Rat) ≤ x + 1 / 2 := by linarith
  have below : lo ≤ roundNear x := Int.le_floor.mpr over_
  have above : roundNear x ≤ hi := Int.lt_add_one_iff.mp (Int.floor_lt.mpr under)
  unfold clampI
  omega

/-- Rounding moves a real by at most a half. -/
theorem roundNear_near (x : Rat) : -(1 / 2) ≤ x - roundNear x ∧ x - roundNear x ≤ 1 / 2 := by
  have low := Int.floor_le (x + 1 / 2)
  have high := Int.lt_floor_add_one (x + 1 / 2)
  have eq : (roundNear x : Rat) = (⌊x + 1 / 2⌋ : Int) := rfl
  rw [eq]
  constructor <;> linarith

/-- INC is what is nearest to the correction, and the residue is the rest (R163). -/
theorem incReload_loads {s : State} {raw : Rat} (at_raw : 4 * 2 ^ 32 + s.yInc * 4 * 2 ^ 32 / 1000000000000 + s.time.residue = raw)
    (low : 1 ≤ raw) (high : raw ≤ 2 ^ 40 - 1) :
    ((incReload s).time.inc : Rat) = roundNear raw ∧ (incReload s).time.residue = raw - roundNear raw := by
  have inside : clampI 1 (2 ^ 40 - 1) (roundNear raw) = roundNear raw := clampI_roundNear (by exact_mod_cast low) (high.trans_eq (by norm_num))
  have pos : 0 ≤ roundNear raw := by
    rw [← inside]
    exact Int.le_trans (by decide) (Int.le_max_left _ _)
  have inc : ((incReload s).time.inc : Rat) = roundNear raw := by
    unfold incReload
    simp only [at_raw, inside]
    exact_mod_cast congrArg (Int.cast (R := Rat)) (Int.toNat_of_nonneg pos)
  refine ⟨inc, ?_⟩
  rw [← inc, ← at_raw]
  rfl

/-! ### An advance, leg by leg -/

/-- A leg passes its end by less than one tick's gain. -/
theorem Time.leg_over {t : Time} (c : t.Counts) {d : Nat} (pos : 0 < d) :
    min d t.nextBound ≤ (t.gain (t.leg d)).1 ∧ (t.gain (t.leg d)).1 ≤ min d t.nextBound + t.inc / 2 ^ 32 := by
  have ahead := Time.leg_min_pos c pos
  have least := Time.ticksFor_least c.inc_pos c.frac_lt ahead
  have sum := t.gain_sum (t.leg d)
  refine ⟨Time.le_gain_ticksFor c.inc_pos c.frac_lt ahead, ?_⟩
  have one := t.one_le_ticksFor (min d t.nextBound)
  have more : t.leg d * t.inc = (t.leg d - 1) * t.inc + t.inc := by
    rw [Nat.sub_mul, Nat.one_mul, Nat.sub_add_cancel (Nat.le_mul_of_pos_left t.inc (show 0 < t.leg d from one))]
  unfold Time.leg at *
  omega

/-- What every leg of an advance keeps holds at the advance's end, if the legs that come before it use up what bounds their number. -/
theorem advanceFor_ends {P : Nat → State → Prop} {μ : Nat → State → Nat}
    (leg : ∀ d s, s.time.Counts → 0 < d → P d s → P (d - (s.time.gain (s.time.leg d)).1) (ticks (s.time.leg d) s))
    (spend : ∀ d s, s.time.Counts → P d s → (s.time.gain (s.time.leg d)).1 < d →
      μ (d - (s.time.gain (s.time.leg d)).1) (ticks (s.time.leg d) s) + 1000000000 ≤ μ d s) :
    ∀ (fuel d : Nat) (s : State), s.time.Counts → P d s → μ d s < fuel * 1000000000 → P 0 (advanceFor fuel d s)
  | 0, _, _, _, _, enough => absurd enough (by omega)
  | fuel + 1, d, s, c, h, enough => by
    obtain rfl | pos := Nat.eq_zero_or_pos d
    · rwa [advanceFor_zero]
    · rw [advanceFor_succ fuel c pos]
      have kept := leg d s c pos h
      by_cases last : d ≤ (s.time.gain (s.time.leg d)).1
      · rw [Nat.sub_eq_zero_of_le last] at kept ⊢
        rwa [advanceFor_zero]
      · have spent := spend d s c h (Nat.lt_of_not_le last)
        exact advanceFor_ends leg spend fuel _ _ (ticks_counts _ c) kept (by omega)

theorem ticks_time_tail (k : Nat) (s : State) : (ticks k s).time =
    (wrapSph (eraAuto (wrapWns (gained k s)))).time := by rw [ticks_eq, capRenew_time]

@[simp] theorem wrapSph_era (s : State) : (wrapSph s).time.era = s.time.era := by rw [wrapSph_time]

@[simp] theorem wrapSph_stale (s : State) : (wrapSph s).time.eraStale = s.time.eraStale := by rw [wrapSph_time]

/-! #### The wrap of WNS -/

@[simp] theorem gained_era (k : Nat) (s : State) : (gained k s).time.era = s.time.era := rfl

@[simp] theorem gained_stale (k : Nat) (s : State) : (gained k s).time.eraStale = s.time.eraStale := rfl

/-- Below its wrap, and with ERA_STALE clear, WNS counts on and ERA stands. -/
theorem gained_fresh {k : Nat} {s : State} (below : s.time.wns + (s.time.gain k).1 < 2 ^ 32) (fresh : s.time.eraStale = false) :
    eraAuto (wrapWns (gained k s)) = gained k s := by
  rw [wrapWns_below (s := gained k s) below]
  exact if_neg fun h => absurd (h.1.symm.trans fresh) (by decide)

theorem gained_low {k : Nat} {s : State} (low : s.time.wns + (s.time.gain k).1 < 2 ^ 31) : eraAuto (wrapWns (gained k s)) = gained k s := by
  rw [wrapWns_below (s := gained k s) (Nat.lt_trans low (by decide))]
  exact eraAuto_below low

/-- At 2³¹ with ERA_STALE set ERA is incremented (R170). -/
theorem gained_half {k : Nat} {s : State} (below : s.time.wns + (s.time.gain k).1 < 2 ^ 32) (stale : s.time.eraStale = true)
    (high : 2 ^ 31 ≤ s.time.wns + (s.time.gain k).1) : eraAuto (wrapWns (gained k s)) =
      { gained k s with
        time := { (gained k s).time with era := (s.time.era + 1) % 2 ^ 32, eraStale := false, eraAuto := true } } := by
  rw [wrapWns_below (s := gained k s) below]
  exact if_pos ⟨stale, high⟩

/-- On the way to the wrap of WNS: ERA stands, and ERA_STALE is clear until the wrap. -/
def ToWrap (e d : Nat) (s : State) : Prop := s.time.era = e ∧ (0 < d → s.time.eraStale = false ∧ s.time.wns + d = 2 ^ 32)

theorem ticks_toWrap {e d : Nat} {s : State} (c : s.time.Counts) (pos : 0 < d) (h : ToWrap e d s) :
    ToWrap e (d - (s.time.gain (s.time.leg d)).1) (ticks (s.time.leg d) s) := by
  obtain ⟨era, way⟩ := h
  obtain ⟨fresh, left⟩ := way pos
  obtain ⟨-, most⟩ := Time.leg_over c pos
  have inc := c.inc_lt
  have wns : (wrapWns (gained (s.time.leg d) s)).time.wns = (s.time.wns + (s.time.gain (s.time.leg d)).1) % 2 ^ 32 := wrapWns_wns _
  by_cases below : s.time.wns + (s.time.gain (s.time.leg d)).1 < 2 ^ 32
  · have still := gained_fresh below fresh
    refine ⟨?_, fun _ => ⟨?_, ?_⟩⟩
    · rw [ticks_time_tail, wrapSph_era, still, gained_era]
      exact era
    · rw [ticks_time_tail, wrapSph_stale, still, gained_stale]
      exact fresh
    · rw [ticks_wns, Nat.mod_eq_of_lt below]
      omega
  · refine ⟨?_, fun more => absurd more (by omega)⟩
    rw [ticks_time_tail, wrapSph_era, eraAuto_below (by omega), wrapWns_time, gained_era]
    exact era

theorem nsWrap_era {s : State} (c : s.time.Counts) (fresh : s.time.eraStale = false) : (nsWrap s).time.era = s.time.era := by
  have wns := c.wns_lt
  have sph := c.sph_lt
  rw [nsWrap_eq c.run]
  refine (advanceFor_ends (P := fun d t => ToWrap s.time.era d t) (μ := fun d t => t.time.budget d)
    (fun d t c pos h => ticks_toWrap c pos h) (fun d t c h short => ticks_budget c (h.2 (by omega)).2 short) 256 _ s c
    ⟨rfl, fun _ => ⟨fresh, by omega⟩⟩ ?_).1
  · unfold Time.budget
    split <;> omega

/-- WNS passes its wrap by less than one tick's gain. -/
theorem WrapsAt.wns_le {k : Nat} {s t : State} (w : WrapsAt k s t) : t.time.wns ≤ s.time.inc / 2 ^ 32 := by
  have before := w.before
  have after := w.after
  have more : k * s.time.inc = (k - 1) * s.time.inc + s.time.inc := by
    rw [Nat.sub_mul, Nat.one_mul, Nat.sub_add_cancel (Nat.le_mul_of_pos_left _ w.pos)]
  have counted : t.time.counted = t.time.wns * 2 ^ 32 + t.time.frac := rfl
  omega

/-! #### WNS at 2³¹ -/

/-- On the way to 2³¹ with ERA_STALE set, or there, with ERA incremented; nothing is raised (R170). -/
def ToHalf (e : Nat) (v : Evt) (d : Nat) (s : State) : Prop := s.evt = v ∧
  ((0 < d ∧ s.time.eraStale = true ∧ s.time.era = e ∧ s.time.wns + d = 2 ^ 31) ∨
    (d = 0 ∧ s.time.eraStale = false ∧ s.time.eraAuto = true ∧ s.time.era = (e + 1) % 2 ^ 32 ∧ 2 ^ 31 ≤ s.time.wns))

theorem ticks_toHalf {e d : Nat} {v : Evt} {s : State} (c : s.time.Counts) (pos : 0 < d) (h : ToHalf e v d s) :
    ToHalf e v (d - (s.time.gain (s.time.leg d)).1) (ticks (s.time.leg d) s) := by
  obtain ⟨evt, ⟨-, stale, era, left⟩ | ⟨done, -⟩⟩ := h
  · obtain ⟨-, most⟩ := Time.leg_over c pos
    have inc := c.inc_lt
    have below : s.time.wns + (s.time.gain (s.time.leg d)).1 < 2 ^ 32 := by omega
    refine ⟨(ticks_below below).trans evt, ?_⟩
    by_cases short : (s.time.gain (s.time.leg d)).1 < d
    · have still : eraAuto (wrapWns (gained (s.time.leg d) s)) = gained (s.time.leg d) s := gained_low (by omega)
      refine .inl ⟨by omega, ?_, ?_, ?_⟩
      · rw [ticks_time_tail, wrapSph_stale, still, gained_stale]
        exact stale
      · rw [ticks_time_tail, wrapSph_era, still, gained_era]
        exact era
      · rw [ticks_wns, Nat.mod_eq_of_lt below]
        omega
    · have moves := gained_half below stale (by omega)
      refine .inr ⟨by omega, ?_, ?_, ?_, ?_⟩
      · rw [ticks_time_tail, wrapSph_stale, moves]
      · rw [ticks_time_tail, wrapSph_time, moves]
      · rw [ticks_time_tail, wrapSph_era, moves]
        exact congrArg (fun n => (n + 1) % 2 ^ 32) era
      · rw [ticks_wns, Nat.mod_eq_of_lt below]
        omega
  · omega

theorem ticks_toHalf_budget {e d : Nat} {v : Evt} {s : State} (c : s.time.Counts) (h : ToHalf e v d s)
    (short : (s.time.gain (s.time.leg d)).1 < d) :
    (ticks (s.time.leg d) s).time.sph + (d - (s.time.gain (s.time.leg d)).1) + 1000000000 ≤ s.time.sph + d := by
  have reached := Time.nextBound_le_leg c short
  have sph := c.sph_lt
  obtain ⟨-, ⟨-, -, -, left⟩ | ⟨done, -⟩⟩ := h
  · rw [ticks_sph]
    generalize s.time.gain (s.time.leg d) = g at *
    obtain wrap | second | ⟨low, half⟩ := s.time.nextBound_cases <;> omega
  · omega

theorem reachEraAuto_eq {s : State} (c : s.time.Counts) (stale : s.time.eraStale = true) (low : s.time.wns < 2 ^ 31) :
    reachEraAuto s = advanceFor 256 (2 ^ 31 - s.time.wns) s := by
  have near : ¬(s.time.run = false ∨ ((2200000000 : Nat) : Int) < s.now + (2 ^ 31 - s.time.wns : Nat) - s.now) := by
    simp only [c.run, Bool.true_eq_false, false_or]
    omega
  have ahead : (s.now + (2 ^ 31 - s.time.wns : Nat) - s.now).toNat = 2 ^ 31 - s.time.wns := by omega
  rw [reachEraAuto, if_pos ⟨stale, low⟩, reach, if_neg near, advanceTo, ahead]

theorem reachEraAuto_reaches {s : State} (c : s.time.Counts) (stale : s.time.eraStale = true) (low : s.time.wns < 2 ^ 31) :
    ToHalf s.time.era s.evt 0 (reachEraAuto s) := by
  have sph := c.sph_lt
  rw [reachEraAuto_eq c stale low]
  refine advanceFor_ends (P := fun d t => ToHalf s.time.era s.evt d t) (μ := fun d t => t.time.sph + d)
    (fun d t c pos h => ticks_toHalf c pos h) (fun d t c h short => ticks_toHalf_budget c h short) 256 _ s c
    ⟨rfl, .inl ⟨by omega, stale, rfl, by omega⟩⟩ ?_
  omega

/-! #### The top of a second -/

/-- On the way to the top of the second, or there, with the counters latched (R165). -/
def ToTop (i d : Nat) (s : State) : Prop := s.time.inc = i ∧ ((0 < d ∧ s.time.sph + d = 1000000000) ∨
  (d = 0 ∧ s.time.sph ≤ i / 2 ^ 32 ∧ s.time.tosEra = s.time.era ∧ s.time.tosWns = s.time.wns ∧ s.rcd.k = 0))

/-- The top of a second latches ERA and WNS, and the snapshots count anew (R165). -/
theorem wrapSph_latches {s : State} (h : 1000000000 ≤ s.time.sph) : (wrapSph s).time.tosEra = (wrapSph s).time.era ∧
    (wrapSph s).time.tosWns = (wrapSph s).time.wns ∧ (wrapSph s).rcd.k = 0 := by
  unfold wrapSph
  rw [if_pos h]
  exact ⟨rfl, rfl, rfl⟩

theorem capRenew_k (a b : Nat) (s : State) : (capRenew a b s).rcd.k = s.rcd.k := by
  unfold capRenew
  split <;> rfl

theorem Time.nextBound_le_sph (t : Time) : t.nextBound ≤ 1000000000 - t.sph := by
  unfold Time.nextBound
  dsimp only
  split <;> omega

theorem ticks_toTop {i d : Nat} {s : State} (c : s.time.Counts) (pos : 0 < d) (h : ToTop i d s) :
    ToTop i (d - (s.time.gain (s.time.leg d)).1) (ticks (s.time.leg d) s) := by
  obtain ⟨inc, ⟨-, left⟩ | ⟨done, -⟩⟩ := h
  · obtain ⟨-, most⟩ := Time.leg_over c pos
    have small := c.inc_lt
    refine ⟨(ticks_inc _ s).trans inc, ?_⟩
    by_cases short : (s.time.gain (s.time.leg d)).1 < d
    · refine .inl ⟨by omega, ?_⟩
      rw [ticks_sph, Nat.mod_eq_of_lt (by omega)]
      omega
    · have crossed : 1000000000 ≤ (eraAuto (wrapWns (gained (s.time.leg d) s))).time.sph := by
        rw [eraAuto_time, wrapWns_time]
        show 1000000000 ≤ s.time.sph + (s.time.gain (s.time.leg d)).1
        omega
      obtain ⟨era, wns, k⟩ := wrapSph_latches crossed
      refine .inr ⟨by omega, ?_, ?_, ?_, ?_⟩
      · rw [ticks_sph]
        omega
      · rw [ticks_time_tail, era]
      · rw [ticks_time_tail, wns]
      · rw [ticks_eq, capRenew_k, k]
  · omega

theorem ticks_toTop_bound {i d : Nat} {s : State} (c : s.time.Counts) (h : ToTop i d s) (short : (s.time.gain (s.time.leg d)).1 < d) :
    (if d - (s.time.gain (s.time.leg d)).1 ≤ (ticks (s.time.leg d) s).time.nextBound then 0 else 1000000000) + 1000000000 ≤
      if d ≤ s.time.nextBound then 0 else 1000000000 := by
  have reached := Time.nextBound_le_leg c short
  have wns := c.wns_lt
  obtain ⟨-, ⟨-, left⟩ | ⟨done, -⟩⟩ := h
  · have ahead : d - (s.time.gain (s.time.leg d)).1 ≤ (ticks (s.time.leg d) s).time.nextBound := by
      have cases' := (ticks (s.time.leg d) s).time.nextBound_cases
      rw [ticks_sph, ticks_wns] at cases'
      generalize s.time.gain (s.time.leg d) = g at *
      obtain wrap | second | ⟨low, half⟩ := s.time.nextBound_cases <;> omega
    rw [if_pos ahead, if_neg (by omega)]
  · omega

theorem topOfSecond_eq {s : State} (run : s.time.run = true) : topOfSecond s = advanceFor 256 (1000000000 - s.time.sph) s := by
  have near : ¬(s.time.run = false ∨ ((1100000000 : Nat) : Int) < s.now + (1000000000 - s.time.sph : Nat) - s.now) := by
    simp only [run, Bool.true_eq_false, false_or]
    omega
  have ahead : (s.now + (1000000000 - s.time.sph : Nat) - s.now).toNat = 1000000000 - s.time.sph := by omega
  rw [topOfSecond, reach, if_neg near, advanceTo, ahead]

theorem topOfSecond_reaches {s : State} (c : s.time.Counts) : ToTop s.time.inc 0 (topOfSecond s) := by
  have sph := c.sph_lt
  rw [topOfSecond_eq c.run]
  refine advanceFor_ends (P := fun d t => ToTop s.time.inc d t) (μ := fun d t => if d ≤ t.time.nextBound then 0 else 1000000000)
    (fun d t c pos h => ticks_toTop c pos h) (fun d t c h short => ticks_toTop_bound c h short) 256 _ s c
    ⟨rfl, .inl ⟨by omega, by omega⟩⟩ ?_
  split <;> omega

/-! ### The obligation -/

/-- Settles O41: an advance goes leg by leg, each to the next bound of a counter, and only few of them come before its end. -/
theorem countersCrossTheirBounds : Obligations.CountersCrossTheirBounds := by
  unfold Obligations.CountersCrossTheirBounds
  refine ⟨fun s empty stands => ?_, fun s empty run frac wns sph => ?_, fun s run low high => ?_, fun s run pos small frac wns sph => ?_,
    fun s v => ⟨fun stale next => ?_, fun other => ?_⟩⟩
  · rw [step_empty empty, idle, if_neg (by simp [stands])]
  · have g : s.time.gain 1 = ((s.time.frac + s.time.inc) / 2 ^ 32, (s.time.frac + s.time.inc) % 2 ^ 32) := by rw [Time.gain, Nat.one_mul]
    have within := ticks_within (k := 1) (s := s) (by rw [g]; exact wns) (by rw [g]; exact sph)
    have time : (ticks 1 s).time = (gained 1 s).time := by rw [within, capRenew_time]
    refine ⟨ticks 1 s, ?_, ?_, ?_, ?_, ?_, by rw [time, gained_era]⟩
    · rw [step_empty empty, idle, if_pos run]
    · conv_lhs => rw [within, capRenew_frame]
      rw [time]
      rfl
    all_goals
      rw [time]
      simp only [gained, g]
      omega
  · obtain ⟨inc, residue⟩ := incReload_loads rfl low high
    obtain ⟨lower, upper⟩ := roundNear_near (4 * 2 ^ 32 + s.yInc * 4 * 2 ^ 32 / 1000000000000 + s.time.residue)
    refine ⟨incReload s, congrArg Host.Outcome.next (if_pos run), rfl, ?_, ?_, ?_⟩
    · rw [inc, residue]
      ring
    · rwa [residue]
    · rwa [residue]
  · have c : s.time.Counts := ⟨run, pos, small, frac, wns, sph⟩
    refine ⟨fun fresh => ?_, fun stale low => ?_, ?_⟩
    · obtain ⟨k, w⟩ := nsWrap_wrapsAt c
      refine ⟨nsWrap s, exec_nsWrap s, ?_, w.stale, nsWrap_era c fresh, w.wns_le, ?_⟩
      · rw [nsWrap_eq run]
        exact advanceFor_frame _ _ _
      · rw [w.raised, raise_evt]
    · obtain ⟨evt, ⟨again, -⟩ | ⟨-, fresh, auto, era, high⟩⟩ := reachEraAuto_reaches c stale low
      · exact absurd again (Nat.lt_irrefl 0)
      refine ⟨reachEraAuto s, rfl, ?_, fresh, auto, era, high⟩
      have frame : reachEraAuto s = { s with time := (reachEraAuto s).time, rcd := (reachEraAuto s).rcd, evt := (reachEraAuto s).evt } := by
        rw [reachEraAuto_eq c stale low]
        exact advanceFor_frame _ _ _
      rwa [evt] at frame
    · obtain ⟨-, ⟨again, -⟩ | ⟨-, over_, era, wns', k⟩⟩ := topOfSecond_reaches c
      · exact absurd again (Nat.lt_irrefl 0)
      refine ⟨topOfSecond s, rfl, ?_, over_, era, wns', k⟩
      rw [topOfSecond_eq run]
      exact advanceFor_frame _ _ _
  · exact congrArg Host.Outcome.next (if_pos ⟨stale, next⟩)
  · refine congrArg Host.Outcome.next (if_neg fun ⟨stale, next⟩ => ?_)
    obtain fresh | differs := other
    · exact absurd (stale.symm.trans fresh) (by decide)
    · exact differs next

end Sys2Proof.Machine

/-! PROOFS. The servo and its states (O44). -/

namespace Sys2Proof.Machine

/-! ### A change of the servo's state -/

/-- The time base at a servo state's entry (R180, R183, R184). -/
def Time.enter (n : SrvState) (x : Int) (t : Time) : Time :=
  let t := { t with srv := n, hoAt := if n = .holdover then some x else none, hoSpec := false, yD := 0, ppsGood := 0 }
  if n = .locked then { t with lockedAt := x, learnY := 0, learnT := 0, learnN := 0, learnBad := false, hours := [], hourI := 0, hourN := 0 } else t

theorem setSrv_same {n : SrvState} {s : State} (h : s.time.srv = n) : s.setSrv n = s := if_pos h

theorem setSrv_other {n : SrvState} {s : State} (h : s.time.srv ≠ n) : s.setSrv n =
    ({ s with time := s.time.enter n s.now } : State).notifyAll 4 (leBytes 1 n.code ++ leBytes 1 (b2n s.traceable)) := if_neg h

/-- What the entry of a servo state leaves alone, its change leaves alone. -/
theorem setSrv_time {α : Type} {v : Time → α} (same : ∀ n x t, v (Time.enter n x t) = v t) (n : SrvState) (s : State) :
    v (s.setSrv n).time = v s.time := by
  by_cases h : s.time.srv = n
  · rw [setSrv_same h]
  · rw [setSrv_other h, notifyAll_frame]
    exact same _ _ _

theorem Time.enter_ySrv (n : SrvState) (x : Int) (t : Time) : (t.enter n x).ySrv = t.ySrv := by cases n <;> rfl

theorem Time.enter_y (n : SrvState) (x : Int) (t : Time) : (t.enter n x).y = t.y := by cases n <;> rfl

theorem Time.enter_i (n : SrvState) (x : Int) (t : Time) : (t.enter n x).i = t.i := by cases n <;> rfl

theorem Time.enter_stepPend (n : SrvState) (x : Int) (t : Time) : (t.enter n x).stepPend = t.stepPend := by cases n <;> rfl

theorem Time.enter_overRun (n : SrvState) (x : Int) (t : Time) : (t.enter n x).overRun = t.overRun := by cases n <;> rfl

/-- The reference's flags, and WNS. -/
def Time.refs (t : Time) : Bool × Bool × Bool × Nat := (t.refLost, t.refLostSeen, t.pllLock, t.wns)

theorem Time.enter_refs (n : SrvState) (x : Int) (t : Time) : (t.enter n x).refs = t.refs := by cases n <;> rfl

/-- A change of state owes the log its record (R180, R347). -/
theorem setSrv_owes {n : SrvState} {s : State} (other : s.time.srv ≠ n) (on : s.rcd.on = true) :
    ∃ q : LogDue, (s.setSrv n).rcd.logDue = s.rcd.logDue ++ [q] ∧ q.kind = 7 ∧ q.insts = [0, 1, 2, 3] := by
  rw [setSrv_other other, State.notifyAll, notices_frame, State.owesLog]
  rw [if_pos (by exact on)]
  exact ⟨_, rfl, rfl, rfl⟩

/-! ### One update -/

/-- The state with a θ noted (R179). -/
def State.heard (v : Word) (s : State) : State := { s with net := { s.net with lastTheta := v.toInt } }

/-- The time base after the PI part, the runs and the sums of an update (R179, R183, R184). -/
def Time.updated (th : Rat) (t : Time) : Time := learnSums th (servoRuns th (servoPi th t))

/-- LOCKED after a run of 64 (R180). -/
def State.servoLock (s : State) : State := if s.time.srv = .acquire ∧ 64 ≤ s.time.lockRun then s.setSrv .locked else s

/-- ACQUIRE after eight updates far beyond the limit (R180). -/
def State.servoDrop (s : State) : State := if s.time.srv = .locked ∧ 8 ≤ s.time.overRun then s.setSrv .acquire else s

/-- What an update that asks for no step leads to (R179, R180). -/
def State.servoJudge (s : State) : State := s.servoLock.servoDrop

theorem servoUpdate_ignored {s : State} (v : Word) (idle : s.time.srv = .freerun ∨ s.time.srv = .holdover) : servoUpdate v s =
    { s with time := { s.time with ofsIgn := sat8 s.time.ofsIgn }, net := { s.net with lastTheta := v.toInt } } := by
  unfold servoUpdate
  obtain h | h := idle
  all_goals simp only [h]

theorem servoUpdate_steps {s : State} {v : Word} (runs : s.time.srv = .acquire ∨ s.time.srv = .locked) (en : s.time.stepEn = true)
    (far : (s.time.stepThr.toNat : Rat) < |thetaNs v|) :
    servoUpdate v s = ({ s.heard v with time := { s.time with stepPend := some (-(roundAway (thetaNs v))) } } : State).setSrv .acquire := by
  unfold servoUpdate
  dsimp only
  split
  next h => exact absurd runs (by rw [h]; decide)
  next h => exact absurd runs (by rw [h]; decide)
  next h =>
    refine (if_pos ⟨en, far⟩).trans ?_
    exact (if_neg (by rw [h]; decide)).trans (setSrv_same (by exact h)).symm
  next h =>
    exact (if_pos ⟨en, far⟩).trans (if_pos h)

theorem servoUpdate_moves {s : State} {v : Word} (runs : s.time.srv = .acquire ∨ s.time.srv = .locked)
    (near : s.time.stepEn = false ∨ |thetaNs v| ≤ (s.time.stepThr.toNat : Rat)) :
    servoUpdate v s = ({ s.heard v with time := s.time.updated (thetaNs v) } : State).servoJudge := by
  have stays : ¬(s.time.stepEn = true ∧ (s.time.stepThr.toNat : Rat) < |thetaNs v|) := fun ⟨en, far⟩ =>
    near.elim (fun off => absurd (en.symm.trans off) (by decide)) (fun le => absurd far (not_lt.mpr le))
  unfold servoUpdate
  obtain h | h := runs
  · simp only [h, stays, if_false]
    rfl
  · simp only [h, stays, if_false]
    rfl

/-- What a change of the servo's state leaves alone, the judgement of an update leaves alone. -/
theorem servoJudge_time {α : Type} {v : Time → α} (same : ∀ n x t, v (Time.enter n x t) = v t) (s : State) :
    v s.servoJudge.time = v s.time := by
  have lock : v s.servoLock.time = v s.time := by
    unfold State.servoLock
    split
    · exact setSrv_time same _ _
    · rfl
  rw [← lock, State.servoJudge, State.servoDrop]
  split
  · exact setSrv_time same _ _
  · rfl

/-! #### The PI part -/

theorem Time.updated_pi (th : Rat) (t : Time) : (t.updated th).ySrv = (servoPi th t).ySrv ∧ (t.updated th).y = (servoPi th t).y ∧
    (t.updated th).i = (servoPi th t).i ∧ (t.updated th).stepPend = (servoPi th t).stepPend ∧ (t.updated th).srv = (servoPi th t).srv := by
  unfold Time.updated learnSums
  split <;> exact ⟨rfl, rfl, rfl, rfl, rfl⟩

theorem servoPi_kept (th : Rat) (t : Time) : (servoPi th t).stepPend = t.stepPend ∧ (servoPi th t).srv = t.srv ∧
    (servoPi th t).lockRun = t.lockRun ∧ (servoPi th t).overRun = t.overRun ∧ (servoPi th t).lockThr = t.lockThr := by
  unfold servoPi
  dsimp only
  split <;> exact ⟨rfl, rfl, rfl, rfl, rfl⟩

theorem servoPi_ySrv (th : Rat) (t : Time) : (servoPi th t).ySrv =
    (t.fin.toInt : Rat) - ((t.kp.toNat : Rat) / 65536 * th + (t.i + (t.ki.toNat : Rat) / 65536 * th)) := by
  unfold servoPi
  dsimp only
  split <;> rfl

/-- The correction stays within 200 ppm (R179). -/
theorem servoPi_limits (th : Rat) (t : Time) : |(servoPi th t).y| ≤ 200000000 := by
  unfold servoPi
  dsimp only
  split
  next =>
    dsimp only
    split
    next => norm_num
    next => norm_num
  next within => exact not_lt.mp within

/-- Within the limit I moves by Ki × θ (R179). -/
theorem servoPi_within {th : Rat} {t : Time} (within : |t.yT + t.yD + (servoPi th t).ySrv| ≤ 200000000) :
    (servoPi th t).i = t.i + (t.ki.toNat : Rat) / 65536 * th ∧ (servoPi th t).y = t.yT + t.yD + (servoPi th t).ySrv := by
  rw [servoPi_ySrv] at within ⊢
  unfold servoPi
  dsimp only
  rw [if_neg (not_lt.mpr within)]
  exact ⟨rfl, rfl⟩

/-! #### The runs -/

theorem learnSums_runs (th : Rat) (t : Time) : (learnSums th t).lockRun = t.lockRun ∧ (learnSums th t).overRun = t.overRun := by
  unfold learnSums
  split <;> exact ⟨rfl, rfl⟩

theorem Time.updated_runs (th : Rat) (t : Time) :
    (t.updated th).lockRun = (if |th| ≤ ((t.lockThr.toNat % 65536 : Nat) : Rat) then sat8 t.lockRun else 0) ∧
    (t.updated th).overRun = (if 4 * ((t.lockThr.toNat % 65536 : Nat) : Rat) < |th| then t.overRun + 1 else 0) := by
  obtain ⟨-, -, lock, over_, thr⟩ := servoPi_kept th t
  obtain ⟨lock', over'⟩ := learnSums_runs th (servoRuns th (servoPi th t))
  rw [Time.updated, lock', over', ← lock, ← over_, ← thr]
  exact ⟨rfl, rfl⟩

/-- A run of 64 ends in LOCKED, unless the θ is far beyond the limit (R179, R180). -/
theorem servoJudge_locks {s : State} (acq : s.time.srv = .acquire) (run : 64 ≤ s.time.lockRun) (calm : s.time.overRun = 0) :
    s.servoJudge.time.srv = .locked := by
  have over_ : (s.setSrv .locked).time.overRun = 0 := (setSrv_time Time.enter_overRun .locked s).trans calm
  have locks : s.servoLock = s.setSrv .locked := if_pos ⟨acq, run⟩
  rw [State.servoJudge, locks, State.servoDrop, if_neg (by rw [over_]; exact fun h => absurd h.2 (by decide)), setSrv_srv]

theorem servoJudge_waits {s : State} (acq : s.time.srv = .acquire) (short : s.time.lockRun < 64) : s.servoJudge = s := by
  have waits : s.servoLock = s := if_neg fun h => absurd h.2 (by omega)
  rw [State.servoJudge, waits]
  exact if_neg fun h => absurd (acq.symm.trans h.1) (by decide)

/-- A servo that follows its reference does so after the judgement. -/
theorem servoJudge_follows {s : State} (runs : s.time.srv = .acquire ∨ s.time.srv = .locked) :
    s.servoJudge.time.srv = .acquire ∨ s.servoJudge.time.srv = .locked := by
  have lock : s.servoLock.time.srv = .acquire ∨ s.servoLock.time.srv = .locked := by
    unfold State.servoLock
    split
    · exact .inr (setSrv_srv _ _)
    · exact runs
  unfold State.servoJudge State.servoDrop
  split
  · exact .inl (setSrv_srv _ _)
  · exact lock

/-! ### The obligation -/

/-- Settles O44: an update is its PI part and its runs, judged by the run of good and of bad θ; a change of state is one entry. -/
theorem servoFollows : Obligations.ServoFollows := by
  unfold Obligations.ServoFollows
  refine ⟨fun s v idle => ⟨_, congrArg Host.Outcome.next (servoUpdate_ignored v idle), rfl⟩, ?_, fun s v => ⟨fun two => ?_, fun other => ?_⟩,
    fun s run has => ?_, fun s f lost => ?_⟩
  · rintro s v th kp ki i ys runs rfl rfl rfl rfl rfl
    refine ⟨fun en far => ?_, fun near => ?_⟩
    · refine ⟨_, congrArg Host.Outcome.next (servoUpdate_steps runs en far), ?_, ?_, ?_, setSrv_srv _ _⟩
      · rw [setSrv_time Time.enter_stepPend]
        rfl
      · rw [setSrv_time Time.enter_i]
      · rw [setSrv_time Time.enter_y]
    · obtain ⟨ti, ho, ld, frame⟩ := servoUpdate_frame v s
      obtain ⟨ys, y, i, pend, srv⟩ := s.time.updated_pi (thetaNs v)
      obtain ⟨pend', srv', -⟩ := servoPi_kept (thetaNs v) s.time
      obtain ⟨lock, over_⟩ := s.time.updated_runs (thetaNs v)
      have moves := servoUpdate_moves runs near
      have here : ∀ {α : Type} {w : Time → α}, (∀ n x t, w (Time.enter n x t) = w t) → w (servoUpdate v s).time = w (s.time.updated (thetaNs v)) :=
        fun same => by rw [moves, servoJudge_time same]
      refine ⟨_, rfl, ?_, ?_, ?_, ?_, ?_, fun within => ⟨?_, ?_⟩, fun acq run good => ?_, fun acq bad => ?_⟩
      · rw [here Time.enter_ySrv, ys, servoPi_ySrv]
        rfl
      · rw [here Time.enter_y, y]
        exact servoPi_limits _ _
      · rw [here Time.enter_stepPend, pend, pend']
      · rw [frame]
      · rw [frame]
      · rw [here Time.enter_i, i]
        refine (servoPi_within ?_).1
        rw [servoPi_ySrv]
        exact within
      · rw [here Time.enter_y, y, (servoPi_within (th := thetaNs v) (t := s.time) (by rw [servoPi_ySrv]; exact within)).2, servoPi_ySrv]
        rfl
      · rw [moves]
        rw [if_pos (by exact good)] at lock
        have thr : (0 : Rat) ≤ ((s.time.lockThr.toNat % 65536 : Nat) : Rat) := Nat.cast_nonneg _
        rw [if_neg (not_lt.mpr (le_trans (show |thetaNs v| ≤ _ from good) (by linarith)))] at over_
        refine servoJudge_locks (srv.trans (srv'.trans acq)) ?_ over_
        show 64 ≤ (s.time.updated (thetaNs v)).lockRun
        rw [lock]
        unfold sat8 satAdd
        omega
      · rw [moves]
        rw [if_neg (not_le.mpr (show _ < |thetaNs v| from bad))] at lock
        rw [servoJudge_waits (srv.trans (srv'.trans acq)) (show (s.time.updated (thetaNs v)).lockRun < 64 by rw [lock]; decide)]
        exact srv.trans (srv'.trans acq)
  · show Host.Outcome.next (servoStateWrite v s) = _
    unfold servoStateWrite
    rw [two]
    rfl
  · obtain ⟨n, writes, zero, one, three⟩ : ∃ n, servoStateWrite v s = s.setSrv n ∧ (v.toNat % 4 = 0 → n = .freerun) ∧
        (v.toNat % 4 = 1 → n = .acquire) ∧ (v.toNat % 4 = 3 → n = .holdover) := by
      unfold servoStateWrite
      split
      next h => exact ⟨.freerun, rfl, fun _ => rfl, by omega, by omega⟩
      next h => exact ⟨.acquire, rfl, by omega, fun _ => rfl, by omega⟩
      next h => exact absurd h other
      next h0 h1 h2 => exact ⟨.holdover, rfl, fun h => absurd h h0, fun h => absurd h h1, fun _ => rfl⟩
    have srv := setSrv_srv n s
    refine ⟨_, congrArg Host.Outcome.next writes, setSrv_frame n s, fun h => ?_, fun h => ?_, fun h => ?_, fun changed on => ?_⟩
    · rw [srv, zero h]
    · rw [srv, one h]
    · rw [srv, three h]
    · rw [srv] at changed
      exact setSrv_owes changed.symm on
  · have frame := setSrv_frame .freerun { s with time := { s.time with refLost := true, refLostSeen := true, pllLock := false } }
    have refs := setSrv_time Time.enter_refs .freerun { s with time := { s.time with refLost := true, refLostSeen := true, pllLock := false } }
    obtain ⟨lost, seen, lock, wns⟩ := (by simpa [Time.refs] using refs :
      _ ∧ _ ∧ _ ∧ _)
    exact ⟨_, congrArg Host.Outcome.next (if_pos ⟨run, has⟩), frame, lost, seen, lock, setSrv_srv _ _, wns⟩
  · have returns : referenceReturn f.val s = _ := if_neg (by rw [lost]; decide)
    dsimp only at returns
    split at returns
    next told =>
      obtain ⟨new, image, mismatch⟩ := told
      refine ⟨_, congrArg Host.Outcome.next returns, rfl, rfl, fun _ _ _ => rfl, fun known => ?_⟩
      obtain valid | same := known
      · exact absurd new (by rw [valid]; decide)
      · exact absurd same mismatch
    next quiet =>
      exact ⟨_, congrArg Host.Outcome.next returns, rfl, rfl,
        fun new image mismatch => absurd ⟨by rw [new]; rfl, image, mismatch⟩ quiet, fun _ => rfl⟩

end Sys2Proof.Machine

/-! PROOFS. Learning, drift, holdover, syntonisation and the oscillator trim (O45). -/

namespace Sys2Proof.Machine

/-! ### Whole numbers and bits -/

theorem viewInt_whole (n : Int) : viewInt (n : Rat) = n := by
  have floor : (n : Rat).floor = n := Rat.floor_intCast n
  unfold viewInt
  rw [floor, if_pos rfl]

/-! ### The bins -/

theorem ftCommit_ft (b : Nat) (y : Int) (n : Nat) (valid iadj : Bool) (t : Time) : (ftCommit b y n valid iadj t).ft =
    modAt (fun f => { f with y := y, yReg := y, n := min 64 n, valid := valid }) b t.ft := by
  cases iadj <;> rfl

/-- With IADJ the change in y_T is taken out of I and of y_srv (R183, log 48). -/
theorem ftCommit_keeps_sums (b : Nat) (y : Int) (n : Nat) (valid : Bool) (t : Time) :
    (ftCommit b y n valid true t).yT + (ftCommit b y n valid true t).ySrv = t.yT + t.ySrv ∧
    (ftCommit b y n valid true t).yT + (ftCommit b y n valid true t).i = t.yT + t.i := by
  constructor
  · show t.yT + _ + (t.ySrv - _) = t.yT + t.ySrv
    ring
  · show t.yT + _ + (t.i - _) = t.yT + t.i
    ring

/-- Without IADJ both stay. -/
theorem ftCommit_plain (b : Nat) (y : Int) (n : Nat) (valid : Bool) (t : Time) :
    (ftCommit b y n valid false t).ySrv = t.ySrv ∧ (ftCommit b y n valid false t).i = t.i := ⟨rfl, rfl⟩

/-- What one bin learns (R183). -/
def learnPut (yObs yNow : Rat) (b : Int) (w : Rat) (t : Time) : Time :=
  if b < 0 ∨ 127 < b then t
  else match learnBin (t.ft.getD b.toNat {}) w yObs yNow with
    | none => t
    | some q => ftCommit b.toNat q.1 q.2 true true t

/-- The sums of learning begin anew. -/
def Time.unlearnt (t : Time) : Time := { t with learnY := 0, learnT := 0, learnN := 0, learnBad := false }

theorem ftLearn_resets {s : State} (no : s.time.srv ≠ .locked ∨ s.image.time.learn = false) : ftLearn s = { s with time := s.time.unlearnt } := by
  refine if_pos ?_
  obtain away | off := no
  · exact .inr (.inl away)
  · exact .inl off

theorem ftLearn_learns {s : State} {yObs tm yNow : Rat} {b : Int} (fw : s.firmware = true) (learn : s.image.time.learn = true)
    (locked : s.time.srv = .locked) (long : 300000000000 ≤ s.now - s.time.lockedAt) (good : s.time.learnBad = false) (sums : s.time.learnN ≠ 0)
    (obs : yObs = s.time.learnY / s.time.learnN) (mean : tm = s.time.learnT / s.time.learnN) (bin : (tm + 40).floor = b)
    (now : yNow = yTemp s.time.ft tm) : ftLearn s =
      { s with time := (learnPut yObs yNow (b + 1) (tm + 40 - b) (learnPut yObs yNow b (1 - (tm + 40 - b)) s.time)).unlearnt } := by
  subst obs mean now bin
  exact if_neg (by simp [fw, learn, locked, good, sums]; exact long)

/-- The bin after its learning (R183). -/
def learntBin (w yObs yNow : Rat) (f : FtBin) : FtBin :=
  match learnBin f w yObs yNow with
  | none => f
  | some q => { f with y := q.1, yReg := q.1, n := min 64 q.2, valid := true }

/-- One bin learns, and the sums that IADJ keeps stay (R183, log 48). -/
theorem learnPut_learns {yObs yNow w : Rat} {b : Nat} {t : Time} {f : FtBin} (in_range : b ≤ 127) (there : t.ft[b]? = some f) :
    (learnPut yObs yNow b w t).ft[b]? = some (learntBin w yObs yNow f) ∧ (∀ j, j ≠ b → (learnPut yObs yNow b w t).ft[j]? = t.ft[j]?) ∧
    (learnPut yObs yNow b w t).yT + (learnPut yObs yNow b w t).ySrv = t.yT + t.ySrv ∧
    (learnPut yObs yNow b w t).yT + (learnPut yObs yNow b w t).i = t.yT + t.i := by
  have here : t.ft.getD ((b : Nat) : Int).toNat {} = f := getD_of_some there _
  unfold learnPut learntBin
  rw [if_neg (by omega), here]
  cases learnBin f w yObs yNow with
  | none => exact ⟨there, fun _ _ => rfl, rfl, rfl⟩
  | some q =>
    refine ⟨?_, fun j other => ?_, ftCommit_keeps_sums _ _ _ _ _⟩
    · rw [ftCommit_ft]
      exact getElem?_modAt_same there
    · rw [ftCommit_ft]
      exact getElem?_modAt_other other

theorem learnPut_idle {yObs yNow w : Rat} {b : Nat} {t : Time} : (learnPut yObs yNow b w t).unlearnt.learnY = 0 := rfl

theorem learntBin_valid {w yObs yNow : Rat} {f : FtBin} (valid : f.valid = true) (n : f.n ≤ 64) :
    learntBin w yObs yNow f = { f with
      y := viewInt (f.y + w * (yObs - yNow) / (min (f.n + 1) 64 : Nat)), yReg := viewInt (f.y + w * (yObs - yNow) / (min (f.n + 1) 64 : Nat)),
      n := if 1 / 2 ≤ w then min 64 (f.n + 1) else f.n } := by
  have few : min 64 (if 1 / 2 ≤ w then min 64 (f.n + 1) else f.n) = if 1 / 2 ≤ w then min 64 (f.n + 1) else f.n := by
    split <;> omega
  unfold learntBin learnBin
  rw [if_pos valid]
  dsimp only
  rw [few, ← valid]

theorem learntBin_first {w yObs yNow : Rat} {f : FtBin} (blank : f.valid = false) (near : 1 / 2 ≤ w) :
    learntBin w yObs yNow f = { f with y := viewInt yObs, yReg := viewInt yObs, n := 1, valid := true } := by
  unfold learntBin learnBin
  rw [if_neg (by rw [blank]; decide), if_pos near]
  rfl

theorem learntBin_far {w yObs yNow : Rat} {f : FtBin} (blank : f.valid = false) (far : w < 1 / 2) : learntBin w yObs yNow f = f := by
  unfold learntBin learnBin
  rw [if_neg (by rw [blank]; decide), if_neg (not_le.mpr far)]

/-! ### The table in the record area -/

/-- A copy that has its CRC passes. -/
theorem FreqCopy_sealed (q : FreqCopy) : q.sealCrc.crcOk = true := decide_eq_true rfl

theorem freqSeq_some {f : Flash} {i : Nat} {q : FreqCopy} (there : f.freqs.getD i none = some q) (ok : q.crcOk = true) :
    f.freqSeq i = some q.seq := by
  rw [Flash.freqSeq, there]
  exact if_pos ok

theorem freqSeq_of {f g : Flash} {i : Nat} (same : f.freqs.getD i none = g.freqs.getD i none) : f.freqSeq i = g.freqSeq i := by
  rw [Flash.freqSeq, Flash.freqSeq, same]

/-- The place whose turn it is, with the next number, holds the later copy (R325). -/
theorem laterCopy_next (a b : Option Nat) :
    (otherPlace a b = 0 ∧ laterCopy (some (nextSeq a b)) b = 0) ∨ (otherPlace a b = 1 ∧ laterCopy a (some (nextSeq a b)) = 1) := by
  cases a with
  | none =>
    cases b with
    | none => exact .inl ⟨rfl, rfl⟩
    | some y => exact .inl ⟨rfl, if_neg (by simp [nextSeq])⟩
  | some x =>
    cases b with
    | none => exact .inr ⟨rfl, if_pos (by simp [nextSeq])⟩
    | some y =>
      by_cases later : x < y
      · refine .inl ⟨?_, if_neg (by simp [nextSeq]; omega)⟩
        rw [otherPlace, laterCopy, if_pos later]
        rfl
      · refine .inr ⟨?_, if_pos (by simp [nextSeq])⟩
        rw [otherPlace, laterCopy, if_neg later]
        rfl

/-- What is written is what the record area then gives (R183, R325). -/
theorem putFreq_freq {f : Flash} (two : f.freqs.length = 2) (l : List (Nat × Int × Nat)) : (f.putFreq l).freq = some l := by
  obtain ⟨q, seq, ok, bins, freqs⟩ : ∃ q : FreqCopy, q.seq = nextSeq (f.freqSeq 0) (f.freqSeq 1) ∧ q.crcOk = true ∧ q.bins = l ∧
      (f.putFreq l).freqs = setAt (some q) (otherPlace (f.freqSeq 0) (f.freqSeq 1)) f.freqs :=
    ⟨_, rfl, FreqCopy_sealed _, rfl, rfl⟩
  obtain ⟨place, later⟩ | ⟨place, later⟩ := laterCopy_next (f.freqSeq 0) (f.freqSeq 1)
  · have new : (f.putFreq l).freqs.getD 0 none = some q := by rw [freqs, place, getD_setAt (by omega)]
    have old : (f.putFreq l).freqSeq 1 = f.freqSeq 1 := freqSeq_of (by rw [freqs, place]; exact getD_modAt_other (by omega))
    have held := freqSeq_some new ok
    rw [Flash.freq, held, old, seq, later]
    rw [held, new, ← bins]
    rfl
  · have new : (f.putFreq l).freqs.getD 1 none = some q := by rw [freqs, place, getD_setAt (by omega)]
    have old : (f.putFreq l).freqSeq 0 = f.freqSeq 0 := freqSeq_of (by rw [freqs, place]; exact getD_modAt_other (by omega))
    have held := freqSeq_some new ok
    rw [Flash.freq, held, old, seq, later]
    rw [held, new, ← bins]
    rfl

/-! ### A master that falls silent -/

theorem bestMaster_mem : ∀ (l : List Announce) (a : Announce), bestMaster l = some a → a ∈ l
  | [], _, h => absurd h nofun
  | b :: l, a, h => by
    unfold bestMaster at h
    cases best : bestMaster l with
    | none =>
      rw [best] at h
      cases h
      exact List.mem_cons_self
    | some c =>
      rw [best] at h
      dsimp only at h
      split at h
      · cases h
        exact List.mem_cons_self
      · cases h
        exact List.mem_cons_of_mem _ (bestMaster_mem l _ best)

/-- With no master selected, the one selected is of the table, or there is none (R181, R188). -/
theorem select_of {s : State} (none_ : s.net.sel = none) : s.select.net.sel = none ∨ ∃ a ∈ s.net.foreign, s.select.net.sel = some a.master := by
  unfold State.select
  cases best : bestMaster (s.net.foreign.filter s.accepts) with
  | none => exact .inl none_
  | some a =>
    have listed := (List.mem_filter.1 (bestMaster_mem _ _ best)).1
    dsimp only
    rw [if_neg (by rw [none_]; exact nofun)]
    exact .inr ⟨a, listed, rfl⟩

theorem select_parts (s : State) : s.select.net.active = s.net.active ∧ s.select.net.autoAnn = s.net.autoAnn := by
  unfold State.select
  split
  · exact ⟨rfl, rfl⟩
  · split <;> exact ⟨rfl, rfl⟩

/-- The network with a master struck out of the table, and none selected (R181). -/
def Net.struck (m : Nat) (n : Net) : Net :=
  { n with qualified := 0, sel := none, syncs := [], delays := [], snapDue := true, foreign := n.foreign.filter (fun a => a.master ≠ m) }

/-- A selected master that falls silent leaves the table and is no longer selected, and the servo holds over (R181). -/
theorem announceTimeout_strikes {s : State} {m : Nat} (sel : s.net.sel = some m) (fw : s.firmware = true) (locked : s.time.srv = .locked)
    (quiet : s.net.autoAnn = false) : (∀ a ∈ (announceTimeout s).net.foreign, a.master ≠ m) ∧ (announceTimeout s).net.sel ≠ some m ∧
      (announceTimeout s).time.srv = .holdover ∧ (announceTimeout s).net.active = s.net.active := by
  have held := enterHoldover_locked fw locked
  have net : s.enterHoldover.net = s.net := by rw [enterHoldover_frame]
  obtain ⟨selects, table, -⟩ := select_selects (s.enterHoldover.modNet (Net.struck m))
  obtain ⟨active, auto⟩ := select_parts (s.enterHoldover.modNet (Net.struck m))
  have out : ∀ a ∈ (s.enterHoldover.modNet (Net.struck m)).net.foreign, a.master ≠ m := fun a listed =>
    of_decide_eq_true (List.mem_filter.1 listed).2
  have rate := rateCheck_frame (s.enterHoldover.modNet (Net.struck m)).select
  have strikes : announceTimeout s = (s.enterHoldover.modNet (Net.struck m)).select.rateCheck := by
    unfold announceTimeout
    rw [sel]
    refine (if_neg (by rw [fw]; decide)).trans (if_neg fun h => ?_)
    have still : (s.enterHoldover.modNet (Net.struck m)).select.rateCheck.net.autoAnn = false := by
      rw [rate]
      exact auto.trans ((congrArg Net.autoAnn net).trans quiet)
    exact absurd (h.1.symm.trans still) (by decide)
  rw [strikes, rate]
  refine ⟨?_, ?_, ?_, active.trans (show s.enterHoldover.net.active = s.net.active by rw [net])⟩
  · show ∀ a ∈ (s.enterHoldover.modNet (Net.struck m)).select.net.foreign, a.master ≠ m
    rw [table]
    exact out
  · show (s.enterHoldover.modNet (Net.struck m)).select.net.sel ≠ some m
    obtain none_ | ⟨a, listed, other⟩ := select_of (s := s.enterHoldover.modNet (Net.struck m)) rfl
    · rw [none_]
      exact nofun
    · rw [other]
      exact fun same => out a listed (Option.some.inj same)
  · show (s.enterHoldover.modNet (Net.struck m)).select.time.srv = .holdover
    rw [selects]
    exact held

/-! ### The gates -/

theorem syntGate_unheard {s : State} (c : Word) (synt : s.image.time.synt = true) (silent : s.hears = false) :
    syntGate c s = { s with time := { s.time with syntCnt := c } } := by
  have off : s.activePort.pow ≠ .on ∨ s.activePort.link = false := by
    rw [State.hears, Bool.and_eq_false_iff, decide_eq_false_iff_not] at silent
    exact silent
  refine (if_neg (by rw [synt]; decide)).trans ?_
  exact if_pos off

/-- A gate of a path with link joins those held; FIN is their mean once sixteen have been counted (R186, log 54). -/
theorem syntGate_heard {s : State} (c : Word) (fw : s.firmware = true) (synt : s.image.time.synt = true) (hears : s.hears = true) :
    ∃ gs : List Rat, gs.length ≤ 16 ∧ syntGate c s = { s with
      net := { s.net with gatesOk := min 16 (s.net.gatesOk + 1) },
      time := { s.time with
        syntCnt := c, gates := gs,
        fin := if min 16 (s.net.gatesOk + 1) < 16 then s.time.fin else BitVec.ofInt 32 (viewInt (sumR gs / gs.length)) } } := by
  have on : ¬(s.activePort.pow ≠ .on ∨ s.activePort.link = false) := by
    rw [State.hears, Bool.and_eq_true, decide_eq_true_eq] at hears
    rw [hears.2]
    simp [hears.1]
  refine ⟨_, List.length_take_le 16 ((((c.toNat : Rat) / gateNominal s.activePort.rate - 1) * 1000000000000) :: s.time.gates), ?_⟩
  refine (if_neg (by rw [synt]; decide)).trans ((if_neg on).trans ?_)
  by_cases few : min 16 (s.net.gatesOk + 1) < 16
  · rw [if_pos few]
    exact if_pos ⟨fw, few⟩
  · rw [if_neg few]
    exact (if_neg fun h => few h.2).trans (if_pos fw)

/-! ### The obligation -/

/-- Settles O45: what each bin learns, one commit at a time; the copy whose turn it is; the gates counted; a silent master struck out. -/
theorem learningAndHoldover : Obligations.LearningAndHoldover := by
  unfold Obligations.LearningAndHoldover
  refine ⟨fun s b v f there => ?_, fun s no => ⟨_, congrArg Host.Outcome.next (ftLearn_resets no), rfl⟩, ?_,
    fun s fw => ⟨fun queue => ?_, fun f held answers => ?_, fun f two => putFreq_freq two _, fun locked some_hours => ?_, fun mode => ?_,
      fun c synt silent => congrArg Host.Outcome.next (syntGate_unheard c synt silent), fun c synt hears => ?_⟩,
    fun s ho long => congrArg Host.Outcome.next (if_pos ⟨ho, long⟩), fun s m sel fw locked quiet => ?_⟩
  · have here := getD_of_some there {}
    refine ⟨_, rfl, rfl, fun j other => ?_, ?_, fun iadj => ?_, fun plain => ?_⟩
    · rw [ftCommit_ft]
      exact getElem?_modAt_other other
    · rw [ftCommit_ft, getElem?_modAt_same there, here, bit_toNat]
    · rw [bit_toNat, bit_toNat, iadj]
      exact ftCommit_keeps_sums _ _ _ _ _
    · rw [bit_toNat, bit_toNat, plain]
      exact ftCommit_plain _ _ _ _ _
  · intro s b yObs tm w yNow f g fw learn locked long good sums obs mean bin weight now small at_b at_next fn gn
    have learns := ftLearn_learns fw learn locked long good sums obs mean bin now
    rw [Int.cast_natCast, ← weight] at learns
    obtain ⟨b_new, b_rest, b_srv, b_i⟩ := learnPut_learns (yObs := yObs) (yNow := yNow) (w := 1 - w) (by omega) at_b
    obtain ⟨n_new, n_rest, n_srv, n_i⟩ := learnPut_learns (yObs := yObs) (yNow := yNow) (w := w)
      (t := learnPut yObs yNow b (1 - w) s.time) (b := b + 1) (by omega) ((b_rest _ (by omega)).trans at_next)
    refine ⟨_, congrArg Host.Outcome.next learns, rfl, rfl, rfl, n_srv.trans b_srv, n_i.trans b_i,
      fun j not_b not_next => (n_rest j not_next).trans (b_rest j not_b), fun k h v which => ?_⟩
    obtain ⟨new, few⟩ : (learnPut yObs yNow ((b + 1 : Nat) : Int) w (learnPut yObs yNow b (1 - w) s.time)).ft[k]? =
        some (learntBin v yObs yNow h) ∧ h.n ≤ 64 := by
      obtain ⟨rfl, rfl, rfl⟩ | ⟨rfl, rfl, rfl⟩ := which
      · exact ⟨(n_rest _ (by omega)).trans b_new, fn⟩
      · exact ⟨n_new, gn⟩
    refine ⟨fun valid y eq => ?_, fun blank near => ?_, fun blank far => ?_⟩
    · rw [eq, ← learntBin_valid valid few]
      exact new
    · rw [← learntBin_first blank near]
      exact new
    · rw [← learntBin_far (yObs := yObs) (yNow := yNow) blank far]
      exact new
  · have saves : ftSave s = { s with sys := { s.sys.tested with ftCopy := some s.time.ftTable } } :=
      (if_neg (by rw [fw]; decide)).trans (if_pos queue)
    refine ⟨_, congrArg Host.Outcome.next saves, rfl, ?_, fun dead => ?_⟩
    · rw [sysTested_frame]
    · have absent : s.sys.tested.absent = true := by
        rw [Sys.tested, if_pos (by obtain h | h := dead <;> simp [h])]
      exact absent
  · refine congrArg Host.Outcome.next ((if_neg (by rw [fw]; decide)).trans ((if_neg (by rw [answers]; decide)).trans ?_))
    rw [held]
    rfl
  · have on : ¬(s.time.srv ≠ .locked ∨ s.time.hourN = 0 ∨ s.firmware = false) := by simp [locked, some_hours, fw]
    have updates : driftUpdate s = _ := if_neg on
    dsimp only at updates
    split at updates
    next day => exact ⟨_, congrArg Host.Outcome.next updates, rfl, rfl, rfl, fun short => absurd day.2 (by omega), fun _ _ => rfl⟩
    next early =>
      exact ⟨_, congrArg Host.Outcome.next updates, rfl, rfl, rfl, fun _ => rfl, fun long all => absurd ⟨all, long⟩ early⟩
  · have updates : efcUpdate s = _ := if_neg (by simp [mode, fw])
    refine ⟨_, congrArg Host.Outcome.next updates, rfl, Nat.mod_lt _ (by decide), rfl, fun flat centre => ?_⟩
    have code : ∀ y : Rat, (clampI 0 0xFFFFFF (viewInt ((s.image.time.efcCentre : Rat) + s.efcG * y))).toNat % 2 ^ 24 = s.image.time.efcCentre := by
      intro y
      rw [flat, zero_mul, add_zero, ← Int.cast_natCast, viewInt_whole, clampI]
      omega
    exact code _
  · obtain ⟨gs, few, gate⟩ := syntGate_heard c fw synt hears
    refine ⟨_, congrArg Host.Outcome.next gate, rfl, rfl, fun short => if_pos (by omega), fun enough => ⟨if_neg (by omega), few⟩⟩
  · obtain ⟨free, sel', srv, active⟩ := announceTimeout_strikes sel fw locked quiet
    exact ⟨_, rfl, srv, free, sel', active⟩

end Sys2Proof.Machine

/-! PROOFS. Compare units, capture units and PPS (O43). -/

namespace Sys2Proof.Machine

/-! ### What an advance keeps of the time base -/

/-- A time base on which the counters alone may have run on. -/
def Time.Ran (t u : Time) : Prop := u =
  { t with wns := u.wns, sph := u.sph, frac := u.frac, era := u.era, eraStale := u.eraStale, eraAuto := u.eraAuto,
           tosEra := u.tosEra, tosWns := u.tosWns, tosStale := u.tosStale }

theorem Time.Ran.refl (t : Time) : t.Ran t := rfl

theorem Time.Ran.trans {t u w : Time} (h : t.Ran u) (k : u.Ran w) : t.Ran w := by
  unfold Time.Ran at *
  rw [k, h]

theorem wrapWns_ran (s : State) : s.time.Ran (wrapWns s).time := by
  unfold wrapWns
  split <;> exact rfl

theorem eraAuto_ran (s : State) : s.time.Ran (eraAuto s).time := by
  unfold eraAuto
  split <;> exact rfl

theorem wrapSph_ran (s : State) : s.time.Ran (wrapSph s).time := by
  unfold wrapSph
  split <;> exact rfl

theorem ticks_ran (k : Nat) (s : State) : s.time.Ran (ticks k s).time := by
  rw [ticks_time_tail]
  exact (Time.Ran.trans (t := s.time) (u := (gained k s).time) rfl (wrapWns_ran _)).trans ((eraAuto_ran _).trans (wrapSph_ran _))

/-- An advance runs the counters, and no more of the time base. -/
theorem advanceFor_ran : ∀ (fuel d : Nat) (s : State), s.time.Ran (advanceFor fuel d s).time
  | 0, _, s => .refl _
  | fuel + 1, d, s => by
    unfold advanceFor
    split
    · exact .refl _
    · exact (ticks_ran _ s).trans (advanceFor_ran fuel _ _)

theorem Ticked.trans {s t u : State} (h : Ticked s t) (k : Ticked t u) : Ticked s u := by
  obtain ⟨_, _, _, rfl⟩ := h
  obtain ⟨_, _, _, rfl⟩ := k
  exact ⟨_, _, _, rfl⟩

theorem advanceFor_ticked : ∀ (fuel d : Nat) (s : State), Ticked s (advanceFor fuel d s)
  | 0, _, s => ⟨_, _, _, rfl⟩
  | fuel + 1, d, s => by
    unfold advanceFor
    split
    · exact ⟨_, _, _, rfl⟩
    · exact (ticks_ticked _ s).trans (advanceFor_ticked fuel _ _)

theorem reach_advances {w : Nat} {x : Int} {s t : State} (h : reach w x s = some t) : t = advanceTo x s := by
  unfold reach at h
  split at h
  · cases h
  · exact (Option.some.inj h).symm

theorem reach_ran {w : Nat} {x : Int} {s t : State} (h : reach w x s = some t) : s.time.Ran t.time := by
  rw [reach_advances h]
  exact advanceFor_ran _ _ _

theorem reach_ticked {w : Nat} {x : Int} {s t : State} (h : reach w x s = some t) : Ticked s t := by
  rw [reach_advances h]
  exact advanceFor_ticked _ _ _

theorem Ticked.takers {s t : State} (h : Ticked s t) (src : Nat) : t.evt.takers src = s.evt.takers src := by
  obtain ⟨_, _, _, rfl⟩ := h
  rfl

theorem Time.Ran.cmps {t u : Time} (h : t.Ran u) : u.cmps = t.cmps := by
  unfold Time.Ran at h
  rw [h]

theorem Time.Ran.caps {t u : Time} (h : t.Ran u) : u.caps = t.caps := by
  unfold Time.Ran at h
  rw [h]

theorem Time.Ran.srv {t u : Time} (h : t.Ran u) : u.srv = t.srv := by
  unfold Time.Ran at h
  rw [h]

/-- With the counters running, an instant that is not too far is reached. -/
theorem reach_runs {w : Nat} {x : Int} {s : State} (run : s.time.run = true) (near : x - s.now ≤ (w : Int)) : ∃ t, reach w x s = some t :=
  ⟨_, if_neg (by rw [run]; simpa using near)⟩

/-! ### Compare units -/

theorem modCmp_other {i j : Nat} (f : Cmp → Cmp) (s : State) (other : j ≠ i) : (s.modCmp i f).time.cmps[j]? = s.time.cmps[j]? :=
  getElem?_modAt_other other

theorem modCmp_same {i : Nat} {f : Cmp → Cmp} {s : State} {c : Cmp} (there : s.time.cmps[i]? = some c) :
    (s.modCmp i f).time.cmps[i]? = some (f c) := getElem?_modAt_same there

theorem targetAhead_true {tgt wns : Nat} (low : 16 ≤ (tgt + 2 ^ 32 - wns) % 2 ^ 32) (high : (tgt + 2 ^ 32 - wns) % 2 ^ 32 < 2 ^ 31) :
    targetAhead tgt wns = true := by
  rw [targetAhead, decide_eq_true low, decide_eq_true high]
  rfl

theorem targetAhead_false {tgt wns : Nat} (out : (tgt + 2 ^ 32 - wns) % 2 ^ 32 < 16 ∨ 2 ^ 31 ≤ (tgt + 2 ^ 32 - wns) % 2 ^ 32) :
    targetAhead tgt wns = false := by
  unfold targetAhead
  dsimp only
  obtain h | h := out
  · rw [decide_eq_false (Nat.not_le.mpr h), Bool.false_and]
  · rw [decide_eq_false (Nat.not_lt.mpr h), Bool.and_false]

/-- A unit that fires: the time base has run on, and its source is raised (R174). -/
theorem compareFire_fires {i : Nat} {s : State} {c : Cmp} (there : s.time.cmps[i]? = some c) (armed : c.armed = true) (run : s.time.run = true) :
    ∃ s1, Ticked s s1 ∧ s.time.Ran s1.time ∧ compareFire i s = (s1.modCmp i fireCmp).raise (0x10 + i) none := by
  obtain ⟨s1, reached⟩ := reach_runs (w := 2200000000) (x := if (c.tgt + 2 ^ 32 - s.time.wns) % 2 ^ 32 ≤ 2 ^ 31 then
      s.now + (((c.tgt + 2 ^ 32 - s.time.wns) % 2 ^ 32 : Nat) : Int) else s.now) run (by split <;> omega)
  refine ⟨s1, reach_ticked reached, reach_ran reached, ?_⟩
  unfold compareFire
  rw [there]
  dsimp only
  rw [if_neg (by rw [armed]; decide), reached]

/-! ### Capture units -/

/-- The occurrences after a capture of unit `i` (R176, R236). -/
def State.capEvt (i : Nat) (full : Bool) (o : Option Nat) (s : State) : Evt := if full then s.evt else (s.raise (0x18 + i) o).evt

/-- A capture unit takes a stamp, or counts what it cannot take (R176). -/
theorem capture_takes {i : Nat} {s : State} {c : Cap} (there : s.time.caps[i]? = some c) (p : Stamp) (o : Option Nat) : s.capture i p o =
    { s with time := { s.time with caps := modAt (takeStamp p) i s.time.caps }, evt := s.capEvt i c.full o } := by
  unfold State.capture State.capEvt
  rw [there]
  dsimp only
  cases c.full <;> rfl

theorem takeStamp_empty {c : Cap} (h : c.full = false) (p : Stamp) : takeStamp p c = { c with full := true, stamp := p } := if_neg (by rw [h]; decide)

theorem takeStamp_full {c : Cap} (h : c.full = true) (p : Stamp) : takeStamp p c = { c with ovr := true, ovrCnt := sat8 c.ovrCnt } := if_pos h

theorem takeStamp_src (p : Stamp) (c : Cap) : (takeStamp p c).src = c.src := by
  unfold takeStamp
  split <;> rfl

theorem capSrc_of {i : Nat} {s : State} {c : Cap} (there : s.time.caps[i]? = some c) : s.capSrc i = c.src :=
  congrArg Cap.src (getD_of_some there {})

/-- What comes of an instruction that captures: from a state that may have one occurrence fewer on its way to a unit (R176). -/
theorem captures_of {s u : State} {i : Nat} {c : Cap} {p : Stamp} {o : Option Nat} {e : Evt} (there : s.time.caps[i]? = some c)
    (from_ : u = { s with evt := e }) (chans : e.chans = s.evt.chans) (chanIn : e.chanIn = s.evt.chanIn) :
    u.capture i p o = { s with
      time := { s.time with caps := (u.capture i p o).time.caps }, evt := (u.capture i p o).evt } ∧
    (∀ j, j ≠ i → (u.capture i p o).time.caps[j]? = s.time.caps[j]?) ∧
    (c.full = false → (u.capture i p o).time.caps[i]? = some { c with full := true, stamp := p } ∧
      (u.capture i p o).evt.chanIn = s.evt.chanIn ++ (s.evt.takers (0x18 + i)).map (fun ch => ⟨ch, o⟩)) ∧
    (c.full = true → (u.capture i p o).time.caps[i]? = some { c with ovr := true, ovrCnt := sat8 c.ovrCnt } ∧
      (u.capture i p o).evt.chanIn = s.evt.chanIn) := by
  subst from_
  have takes := capture_takes (s := { s with evt := e }) there p o
  have taken : ({ s with evt := e } : State).time.caps[i]? = some c := there
  rw [takes]
  refine ⟨rfl, fun j other => getElem?_modAt_other other, fun empty => ⟨?_, ?_⟩, fun full => ⟨?_, ?_⟩⟩
  · rw [← takeStamp_empty empty]
    exact getElem?_modAt_same taken
  · show (State.capEvt i c.full o { s with evt := e }).chanIn = _
    rw [State.capEvt, empty]
    show e.chanIn ++ (e.takers (0x18 + i)).map _ = _
    rw [chanIn, Evt.takers, chans]
    rfl
  · rw [← takeStamp_full full]
    exact getElem?_modAt_same taken
  · show (State.capEvt i c.full o { s with evt := e }).chanIn = _
    rw [State.capEvt, full]
    exact chanIn

/-! ### The captures of a PPS edge -/

/-- One unit at a PPS edge that qualifies (R176). -/
def State.capPps (p : Stamp) (s : State) (i : Nat) : State := if s.capSrc i = 1 then s.capture i p none else s

/-- What captures change: the units, and the occurrences on their way. -/
def Captures (s t : State) : Prop :=
  (∃ caps ci, t = { s with time := { s.time with caps := caps }, evt := { s.evt with chanIn := s.evt.chanIn ++ ci } })

theorem Captures.trans {s t u : State} (h : Captures s t) (k : Captures t u) : Captures s u := by
  obtain ⟨caps, ci, rfl⟩ := h
  obtain ⟨caps', di, rfl⟩ := k
  refine ⟨caps', ci ++ di, ?_⟩
  rw [← List.append_assoc]

theorem capture_captures {i : Nat} {s : State} {c : Cap} (there : s.time.caps[i]? = some c) (p : Stamp) (o : Option Nat) :
    Captures s (s.capture i p o) := by
  rw [capture_takes there, State.capEvt]
  cases c.full
  · exact ⟨_, _, rfl⟩
  · refine ⟨modAt (takeStamp p) i s.time.caps, [], ?_⟩
    rw [List.append_nil]
    rfl

theorem capPps_captures (p : Stamp) (s : State) (i : Nat) : Captures s (s.capPps p i) := by
  have still : Captures s s := by
    refine ⟨s.time.caps, [], ?_⟩
    rw [List.append_nil]
  unfold State.capPps
  split
  · cases there : s.time.caps[i]? with
    | none =>
      unfold State.capture
      rw [there]
      exact still
    | some c => exact capture_captures there p none
  · exact still

theorem capPps_other {p : Stamp} {s : State} {i j : Nat} (other : j ≠ i) : (s.capPps p i).time.caps[j]? = s.time.caps[j]? := by
  unfold State.capPps
  split
  · cases there : s.time.caps[i]? with
    | none =>
      unfold State.capture
      rw [there]
    | some c =>
      rw [capture_takes there]
      exact getElem?_modAt_other other
  · rfl

theorem capPps_deaf {p : Stamp} {s : State} {i : Nat} {c : Cap} (there : s.time.caps[i]? = some c) (deaf : c.src ≠ 1) : s.capPps p i = s :=
  if_neg (by rwa [capSrc_of there])

theorem capPps_takes {p : Stamp} {s : State} {i : Nat} {c : Cap} (there : s.time.caps[i]? = some c) (hears : c.src = 1) (empty : c.full = false) :
    (s.capPps p i).time.caps[i]? = some { c with full := true, stamp := p } := by
  rw [State.capPps, if_pos (by rw [capSrc_of there, hears]), capture_takes there, ← takeStamp_empty empty]
  exact getElem?_modAt_same there

theorem capsPps_captures (p : Stamp) : ∀ (l : List Nat) (s : State), Captures s (l.foldl (State.capPps p) s)
  | [], s => by
    refine ⟨s.time.caps, [], ?_⟩
    rw [List.append_nil]
    rfl
  | i :: l, s => (capPps_captures p s i).trans (capsPps_captures p l _)

theorem capsPps_other (p : Stamp) {j : Nat} : ∀ (l : List Nat) (s : State), j ∉ l → (l.foldl (State.capPps p) s).time.caps[j]? = s.time.caps[j]?
  | [], _, _ => rfl
  | i :: l, s, out => by
    rw [List.mem_cons, not_or] at out
    exact (capsPps_other p l _ out.2).trans (capPps_other out.1)

theorem capsPps_deaf (p : Stamp) {j : Nat} {c : Cap} (deaf : c.src ≠ 1) : ∀ (l : List Nat) (s : State), s.time.caps[j]? = some c →
    (l.foldl (State.capPps p) s).time.caps[j]? = some c
  | [], _, there => there
  | i :: l, s, there => by
    refine capsPps_deaf p deaf l _ ?_
    by_cases same : j = i
    · rw [← same, capPps_deaf there deaf]
      exact there
    · rw [capPps_other same]
      exact there

/-- Each unit that selects PPS_IN takes the stamp once (R176). -/
theorem capsPps_takes (p : Stamp) {j : Nat} {c : Cap} (hears : c.src = 1) (empty : c.full = false) : ∀ (l : List Nat) (s : State), l.Nodup →
    j ∈ l → s.time.caps[j]? = some c → (l.foldl (State.capPps p) s).time.caps[j]? = some { c with full := true, stamp := p }
  | [], _, _, mem, _ => absurd mem List.not_mem_nil
  | i :: l, s, once, mem, there => by
    obtain ⟨fresh, once'⟩ := List.nodup_cons.1 once
    rw [List.foldl_cons]
    by_cases same : j = i
    · rw [← same] at fresh ⊢
      rw [capsPps_other p l _ fresh]
      exact capPps_takes there hears empty
    · refine capsPps_takes p hears empty l _ once' ((List.mem_cons.1 mem).resolve_left same) ?_
      rw [capPps_other same]
      exact there

theorem capsPps_none (p : Stamp) : ∀ (l : List Nat) (s : State), (∀ i ∈ l, s.capSrc i ≠ 1) → l.foldl (State.capPps p) s = s
  | [], _, _ => rfl
  | i :: l, s, none_ => by
    have idle : s.capPps p i = s := if_neg (none_ i List.mem_cons_self)
    rw [List.foldl_cons, idle]
    exact capsPps_none p l s fun j mem => none_ j (List.mem_cons_of_mem _ mem)

/-! ### A PPS edge -/

/-- An update of a servo that follows its reference leaves it so (R180). -/
theorem servoUpdate_follows {s : State} (v : Word) (runs : s.time.srv = .acquire ∨ s.time.srv = .locked) :
    (servoUpdate v s).time.srv = .acquire ∨ (servoUpdate v s).time.srv = .locked := by
  by_cases step : s.time.stepEn = true ∧ (s.time.stepThr.toNat : Rat) < |thetaNs v|
  · rw [servoUpdate_steps runs step.1 step.2, setSrv_srv]
    exact .inl rfl
  · have near : s.time.stepEn = false ∨ |thetaNs v| ≤ (s.time.stepThr.toNat : Rat) := by
      by_cases en : s.time.stepEn = true
      · exact .inr (not_lt.mp fun far => step ⟨en, far⟩)
      · exact .inl (Bool.not_eq_true _ ▸ en)
    rw [servoUpdate_moves runs near]
    have before : (s.time.updated (thetaNs v)).srv = s.time.srv := by
      rw [(s.time.updated_pi (thetaNs v)).2.2.2.2, (servoPi_kept _ _).2.1]
    exact servoJudge_follows (by rw [← before] at runs; exact runs)

/-- 100 ns after the edge, with nothing left to qualify (R177). -/
theorem ppsQualified_eq {s s1 : State} {p : Stamp} {x : Int} (ns : Nat) (rise : s.time.ppsRise = some p) (edge : s.time.ppsInAt = some x)
    (waits : reach 1000 (x + 100) s = some s1) :
    (ns < 96 → ppsQualified ns s = { s1 with time := { s1.time with ppsRise := none, ppsInAt := none } }) ∧
    (104 ≤ ns → ppsQualified ns s = ppsQualify p { s1 with time := { s1.time with ppsRise := none, ppsInAt := none } }) := by
  have waited : s.ppsWait = s1 := by
    rw [State.ppsWait, edge]
    dsimp only
    rw [waits]
    rfl
  unfold ppsQualified
  rw [rise]
  dsimp only
  rw [waited]
  exact ⟨fun short => (if_neg (by omega)).trans (if_pos short), fun long => if_pos long⟩

theorem ppsQualify_eq (p : Stamp) (s : State) : ppsQualify p s = ((List.range 8).foldl (State.capPps p) (s.raise 0x20 none)).ppsFeed p := rfl

theorem ppsFeed_idle {p : Stamp} {s : State} (other : s.image.time.source ≠ 2) : s.ppsFeed p = s := if_pos (.inl other)

theorem ppsFeed_feeds {p : Stamp} {s : State} (source : s.image.time.source = 2) (fw : s.firmware = true)
    (runs : s.time.srv = .acquire ∨ s.time.srv = .locked) (low : -(2 ^ 31) ≤ s.ppsTheta p) (high : s.ppsTheta p < 2 ^ 31) :
    s.ppsFeed p = servoUpdate (BitVec.ofInt 32 (s.ppsTheta p)) s := by
  have follows := servoUpdate_follows (BitVec.ofInt 32 (s.ppsTheta p)) runs
  have feeds : s.ppsFeed p = _ := if_neg (by simp [source, fw])
  have inner : (if -(2 ^ 31) ≤ s.ppsTheta p ∧ s.ppsTheta p < 2 ^ 31 then servoUpdate (BitVec.ofInt 32 (s.ppsTheta p)) s else s) =
      servoUpdate (BitVec.ofInt 32 (s.ppsTheta p)) s := if_pos ⟨low, high⟩
  dsimp only at feeds
  rw [feeds, inner]
  refine if_neg fun lost => ?_
  obtain h | h := follows
  all_goals exact absurd lost (by rw [h]; simp)

/-! ### The obligation -/

/-- The instructions of a capture that finds its stamp (R176, R228, R236). -/
theorem captureStamp_captures {s : State} {i : Fin 8} {c : Cap} (there : s.time.caps[i.val]? = some c) {x : Instr} {p : Stamp} {o : Option (Fin 128)}
    (how : (2 ≤ c.src ∧ c.src ≤ 17 ∧ x = .captureStamp i o ∧ s.evt.pinIn.find? (fun q => q.1 = i.val) = some (i.val, p)) ∨
      (c.src = 18 ∧ x = .captureStamp i o ∧ p = s.stamp ∧ ∃ ch, o = some ch ∧ (i.val, ch.val) ∈ s.evt.capIn) ∨
      (c.src = 19 ∧ x = .captureSwTrigger i ∧ p = s.stamp)) :
    ∃ e : Evt, e.chans = s.evt.chans ∧ e.chanIn = s.evt.chanIn ∧
      exec x s = .next (({ s with evt := e } : State).capture i.val p (if c.src = 18 then o.map Fin.val else none)) := by
  have src := capSrc_of there
  obtain ⟨low, high, rfl, found⟩ | ⟨eq, rfl, rfl, ch, rfl, comes⟩ | ⟨eq, rfl, rfl⟩ := how
  · refine ⟨{ s.evt with pinIn := removeFirst (fun c => c.1 = i.val) s.evt.pinIn }, rfl, rfl, congrArg Host.Outcome.next ?_⟩
    unfold captureStamp
    rw [src, if_pos ⟨low, high⟩, found, if_neg (by omega)]
  · refine ⟨{ s.evt with
      capIn := removeFirst (fun c => c.1 = i.val && some c.2 = (some ch).map Fin.val) s.evt.capIn }, rfl, rfl, congrArg Host.Outcome.next ?_⟩
    have any : s.evt.capIn.any (fun c => c.1 = i.val && some c.2 = (some ch).map Fin.val) = true :=
      List.any_eq_true.2 ⟨_, comes, by simp⟩
    unfold captureStamp
    rw [src, eq]
    exact (if_neg (by omega)).trans (if_pos ⟨rfl, any⟩)
  · refine ⟨s.evt, rfl, rfl, congrArg Host.Outcome.next ?_⟩
    rw [src, eq]
    exact if_pos rfl

/-- A read by a master: its shadow of ERA, and FULL cleared for firmware (R173, R176). -/
theorem captureRead_reads {s : State} {i : Fin 8} {c : Cap} (there : s.time.caps[i.val]? = some c) (m : Nat) :
    captureRead i m s = { s with time := (captureRead i m s).time, shadows := (captureRead i m s).shadows } ∧
    (captureRead i m s).time.caps[i.val]? = some (if m < 9 ∨ m = 13 then { c with full := false } else c) ∧
    ⟨m, .timeCap i, BitVec.ofNat 32 c.stamp.era⟩ ∈ (captureRead i m s).shadows := by
  have here : s.time.caps.getD i.val {} = c := getD_of_some there {}
  unfold captureRead
  rw [here]
  by_cases fw : m < 9 ∨ m = 13
  · have firm : isFirmware m = true := by rw [isFirmware, Bool.or_eq_true, decide_eq_true_eq, decide_eq_true_eq]; exact fw
    rw [if_pos fw, firm]
    exact ⟨rfl, getElem?_modAt_same there, List.mem_append_right _ (List.mem_singleton.2 rfl)⟩
  · have host : isFirmware m = false := by
      rw [Bool.eq_false_iff, isFirmware, Ne, Bool.or_eq_true, decide_eq_true_eq, decide_eq_true_eq]
      exact fw
    rw [if_neg fw, host]
    exact ⟨rfl, there, List.mem_append_right _ (List.mem_singleton.2 rfl)⟩

/-- Settles O43: a unit's own change, and what an advance of the counters keeps of the units. -/
theorem compareCaptureAndPps : Obligations.CompareCaptureAndPps := by
  unfold Obligations.CompareCaptureAndPps
  refine ⟨fun s i c there => ⟨?_, ?_, fun armed run => ?_⟩, fun s i c there => ⟨fun x p o how => ?_, fun o low high none_ => ?_, fun m => ?_⟩,
    fun s => ⟨rfl, fun ns p x s1 s2 rise edge waits at_s2 => ⟨fun short => ?_, fun long other => ?_, fun long source fw runs deaf th at_th low high => ?_⟩,
      fun source fw locked => ?_⟩, fun s s1 reached => ?_, fun s s1 r rose out reached => ?_⟩
  · refine ⟨_, rfl, rfl, fun j other => modCmp_other _ s other, fun low high => ?_, fun outside => ?_⟩
    · refine (modCmp_same there).trans ?_
      rw [targetAhead_true low high]
      rfl
    · refine (modCmp_same there).trans ?_
      rw [targetAhead_false outside]
      rfl
  · exact ⟨_, rfl, rfl, modCmp_same there, fun j other => modCmp_other _ s other⟩
  · obtain ⟨s1, ticked, ran, fires⟩ := compareFire_fires there armed run
    refine ⟨_, congrArg Host.Outcome.next fires, ?_, fun j other => ?_, fun ch takes => ?_⟩
    · refine modCmp_same ?_
      rw [ran.cmps]
      exact there
    · refine (modCmp_other fireCmp s1 other).trans ?_
      rw [ran.cmps]
    · refine List.mem_append_right _ (List.mem_map.2 ⟨ch, ?_, rfl⟩)
      exact (ticked.takers _).symm ▸ takes
  · obtain ⟨e, chans, chanIn, runs⟩ := captureStamp_captures there how
    obtain ⟨frame, others, empty, full⟩ := captures_of (p := p) (o := if c.src = 18 then o.map Fin.val else none) there rfl chans chanIn
    refine ⟨_, runs, frame, others, fun h => ⟨(empty h).1, ?_⟩, full⟩
    rw [(empty h).2]
  · refine congrArg Host.Outcome.next ?_
    have found : s.evt.pinIn.find? (fun c => c.1 = i.val) = none := List.find?_eq_none.2 fun q mem => by simpa using none_ q mem
    unfold captureStamp
    rw [capSrc_of there, if_pos ⟨low, high⟩, found]
  · obtain ⟨frame, cap, shadow⟩ := captureRead_reads there m.val
    exact ⟨_, rfl, frame, cap, shadow⟩
  · rw [at_s2]
    exact congrArg Host.Outcome.next ((ppsQualified_eq ns rise edge waits).1 short)
  · have ticked := reach_ticked waits
    have qualifies := (ppsQualified_eq ns rise edge waits).2 long
    rw [← at_s2, ppsQualify_eq] at qualifies
    obtain ⟨caps, ci, after⟩ := capsPps_captures p (List.range 8) (s2.raise 0x20 none)
    have image : ((List.range 8).foldl (State.capPps p) (s2.raise 0x20 none)).image.time.source ≠ 2 := by
      rw [after, at_s2]
      obtain ⟨_, _, _, rfl⟩ := ticked
      exact other
    rw [ppsFeed_idle image] at qualifies
    refine ⟨_, congrArg Host.Outcome.next qualifies, ?_, fun ch takes => ?_, fun j q small there => ⟨fun deaf => ?_, fun hears empty => ?_⟩⟩
    · rw [after]
      rfl
    · rw [after]
      refine List.mem_append_left _ (List.mem_append_right _ (List.mem_map.2 ⟨ch, ?_, rfl⟩))
      rw [at_s2]
      exact takes
    · exact capsPps_deaf p deaf _ _ (by rw [at_s2]; exact there)
    · exact capsPps_takes p hears empty _ _ List.nodup_range (List.mem_range.2 small) (by rw [at_s2]; exact there)
  · have ticked := reach_ticked waits
    have ran := reach_ran waits
    have qualifies := (ppsQualified_eq ns rise edge waits).2 long
    have silent : ∀ j ∈ List.range 8, (s2.raise 0x20 none).capSrc j ≠ 1 := by
      intro j small
      have caps : (s2.raise 0x20 none).capSrc j = s.capSrc j := by
        rw [at_s2, State.capSrc, State.capSrc, ← ran.caps]
        rfl
      rw [caps]
      exact deaf j (List.mem_range.1 small)
    have image : (s2.raise 0x20 none).image = s.image ∧ (s2.raise 0x20 none).firmware = s.firmware := by
      rw [at_s2]
      obtain ⟨_, _, _, rfl⟩ := ticked
      exact ⟨rfl, rfl⟩
    have theta : (s2.raise 0x20 none).ppsTheta p = th := by rw [State.ppsTheta, image.1, at_th]
    have srv : (s2.raise 0x20 none).time.srv = s.time.srv := by
      rw [at_s2]
      exact ran.srv
    rw [← at_s2, ppsQualify_eq, capsPps_none p _ _ silent, ppsFeed_feeds (by rw [image.1, source]) (by rw [image.2, fw]) (by rw [srv]; exact runs)
      (by rw [theta]; exact low) (by rw [theta]; exact high), theta] at qualifies
    exact ⟨_, congrArg Host.Outcome.next qualifies, rfl⟩
  · have fw' : ({ s with time := { s.time with ppsGood := 0 } } : State).firmware = true := fw
    have run : execPpsInTimeout s = _ := congrArg Host.Outcome.next (if_pos source)
    refine ⟨_, run, enterHoldover_locked fw' locked, ?_⟩
    rw [State.enterHoldover, if_pos ⟨fw', .inr locked⟩, setSrv_other (by rw [locked]; decide), notifyAll_frame]
    rfl
  · have rises : ppsOutRise s = { s1 with time := { s1.time with ppsRiseAt := some s1.now, ppsGate := false, ppsOut := s1.ppsMay } } := by
      unfold ppsOutRise
      rw [reached]
    exact ⟨_, congrArg Host.Outcome.next rises, rfl, rfl, rfl, rfl⟩
  · refine congrArg Host.Outcome.next ?_
    unfold ppsOutFall
    rw [rose]
    dsimp only
    rw [if_neg (by rw [out]; decide), reached]

end Sys2Proof.Machine

/-! PROOFS. Steps and loads of the counters (O42). -/

namespace Sys2Proof.Machine

/-! ### The parts of a step -/

/-- WNS and SPH take the step in one tick (R167, R169, R170). -/
def State.stepCount (d : Int) (s : State) : State :=
  let t : State := { s with
    time := { s.time with wns := (((s.time.wns : Int) + d) % 2 ^ 32).toNat, sph := (((s.time.sph : Int) + d) % 1000000000).toNat,
                          stepPend := none, stepCnt := sat16 s.time.stepCnt } }
  eraAuto { t with time := { t.time with stepZ := some t.now } }

/-- The instants and the compare units follow (R169, R175). -/
def State.stepShift (d : Int) (s : State) : State := ((s.stepCount d).shiftX d).stepCmps d s.time.wns (s.stepCount d).time.wns

/-- Firmware's origin follows (R166). -/
def State.stepOrigin (s : State) : State := if s.firmware then s.rebaseOrigin else s

/-- A locked servo acquires anew (R180). -/
def State.stepServo (s : State) : State := if s.time.srv = .locked then s.setSrv .acquire else s

/-- A step from the state at its instant: its parts, and the epochs that it has passed (R148). -/
def State.stepDone (d : Int) (s : State) : State :=
  ((s.stepShift d).stepOrigin.stepServo).stepPassed s.tai ((s.stepShift d).stepOrigin.stepServo).tai

theorem stepApply_waits {s : State} {d : Int} (pend : s.time.stepPend = some d)
    (sealed_ : s.fab.epochs.any (fun e => e.st = .sealedE) = true) : stepApply s = s := by
  unfold stepApply
  rw [pend]
  exact if_pos sealed_

theorem stepApply_applies {s s1 : State} {d : Int} (pend : s.time.stepPend = some d)
    (none_ : s.fab.epochs.any (fun e => e.st = .sealedE) = false) (reached : reach 3000000000 s.stepAt s = some s1) :
    stepApply s = s1.stepDone d := by
  unfold stepApply
  rw [pend]
  dsimp only
  rw [if_neg (by rw [none_]; decide), reached]
  rfl

/-! ### What each part leaves -/

/-- What the parts of a step after the shift leave alone. -/
def State.afterShift (s : State) : List Cluster × Int × Int × Int × List Con × Nat :=
  (s.clusters, s.sys.efcEdge, s.hkc.slotAt, s.net.trigX, s.evt.cons, s.rcd.k)

/-- The counters, and what else of the time base only the count of a step moves. -/
def Time.counters (t : Time) : Nat × Nat × Nat × Bool × Bool × Option Int × Nat × List Cmp :=
  (t.wns, t.sph, t.era, t.eraStale, t.eraAuto, t.stepPend, t.stepCnt, t.cmps)

theorem Time.enter_counters (n : SrvState) (x : Int) (t : Time) : (t.enter n x).counters = t.counters := by cases n <;> rfl

/-- The origin pair. -/
def Time.origin (t : Time) : Nat × Int := (t.originS, t.originX)

theorem Time.enter_origin (n : SrvState) (x : Int) (t : Time) : (t.enter n x).origin = t.origin := by cases n <;> rfl

theorem setSrv_afterShift (n : SrvState) (s : State) : (s.setSrv n).afterShift = s.afterShift := by
  rw [setSrv_frame]
  rfl

theorem stepServo_counters (s : State) : s.stepServo.time.counters = s.time.counters := by
  unfold State.stepServo
  split
  · exact setSrv_time Time.enter_counters _ _
  · rfl

theorem stepServo_origin (s : State) : s.stepServo.time.origin = s.time.origin := by
  unfold State.stepServo
  split
  · exact setSrv_time Time.enter_origin _ _
  · rfl

theorem stepServo_rest (s : State) : s.stepServo.afterShift = s.afterShift ∧ s.stepServo.mem = s.mem := by
  unfold State.stepServo
  split
  · exact ⟨setSrv_afterShift _ _, by rw [setSrv_frame]⟩
  · exact ⟨rfl, rfl⟩

theorem stepServo_srv (s : State) : (s.time.srv = .locked → s.stepServo.time.srv = .acquire) ∧
    (s.time.srv ≠ .locked → s.stepServo.time.srv = s.time.srv) := by
  refine ⟨fun locked => ?_, fun other => ?_⟩
  · rw [State.stepServo, if_pos locked, setSrv_srv]
  · rw [State.stepServo, if_neg other]

/-- What a step passes of the epochs is in the FAB alone (R148). -/
theorem stepPassed_frame (a b : Int) (s : State) : s.stepPassed a b = { s with fab := (s.stepPassed a b).fab } := by
  unfold State.stepPassed
  refine foldl_frame (fun s f => { s with fab := f }) State.fab (fun _ => rfl) (fun _ _ _ => rfl) _ (fun s x => ?_) _ s
  split <;> rfl

theorem stepPassed_rest (a b : Int) (s : State) : (s.stepPassed a b).time = s.time ∧ (s.stepPassed a b).afterShift = s.afterShift ∧
    (s.stepPassed a b).mem = s.mem := by
  rw [stepPassed_frame]
  exact ⟨rfl, rfl, rfl⟩

/-- The occurrences of the compare units that a step fires. -/
theorem raises_frame (b : Nat → Bool) (src : Nat → Nat) (l : List Nat) (s : State) :
    ∃ ci, l.foldl (fun s i => if b i then s.raise (src i) none else s) s = { s with evt := { s.evt with chanIn := ci } } := by
  induction l generalizing s with
  | nil => exact ⟨_, rfl⟩
  | cons i l ih =>
    obtain ⟨ci, next⟩ := ih (if b i then s.raise (src i) none else s)
    refine ⟨ci, ?_⟩
    rw [List.foldl_cons, next]
    cases b i <;> rfl

theorem stepCmps_frame (d : Int) (old new : Nat) (s : State) : ∃ ci, s.stepCmps d old new =
    { s with
      time := { s.time with cmps := (s.time.cmps.map (stepCmp d old new)).map (·.1) }, evt := { s.evt with chanIn := ci } } :=
  raises_frame _ _ _ _

theorem stepCmp_disarmed {d : Int} {old new : Nat} {c : Cmp} (off : c.armed = false) : stepCmp d old new c = (c, false) := if_pos off

/-! #### The origin -/

theorem refreshHeader_k (i : Nat) (s : State) : (s.refreshHeader i).rcd.k = s.rcd.k := by
  unfold State.refreshHeader
  split <;> rfl

theorem refreshAll_k (s : State) : s.refreshAll.rcd.k = s.rcd.k := by
  unfold State.refreshAll
  exact foldl_keeps (fun s => s.rcd.k) _ (fun s i => refreshHeader_k i s) _ s

/-- A rebased origin gives the same TAI (R166). -/
theorem rebase_taiOf (t : Time) (x : Int) : t.rebase.taiOf x = t.taiOf x := by
  have most : min (min (ceilDiv (2000000000 - (t.x - t.originX)) 1000000000).toNat t.originS) (t.originX / 1000000000).toNat ≤ t.originS := by
    omega
  unfold Time.rebase Time.taiOf
  dsimp only
  omega

/-- It lies 2 s behind the counters, or as far as they and TAI reach back (R166). -/
theorem rebase_behind (t : Time) : 2000000000 ≤ t.x - t.rebase.originX ∨ t.rebase.originS = 0 ∨ t.rebase.originX < 1000000000 := by
  unfold Time.rebase ceilDiv
  dsimp only
  omega

theorem rebaseOrigin_eq (s : State) : s.rebaseOrigin.time = { s.time with originS := s.time.rebase.originS, originX := s.time.rebase.originX } ∧
    s.rebaseOrigin.afterShift = s.afterShift ∧ (s.rebaseOrigin.time.originS = s.time.originS → s.rebaseOrigin.mem = s.mem) := by
  by_cases same : s.time.rebase.originS = s.time.originS
  · have stays : s.rebaseOrigin = s := if_pos same
    have none_ : min (min (ceilDiv (2000000000 - (s.time.x - s.time.originX)) 1000000000).toNat s.time.originS)
        (s.time.originX / 1000000000).toNat = 0 := by
      have least : s.time.originS - min (min (ceilDiv (2000000000 - (s.time.x - s.time.originX)) 1000000000).toNat s.time.originS)
        (s.time.originX / 1000000000).toNat = s.time.originS := same
      omega
    have x : s.time.rebase.originX = s.time.originX := by
      unfold Time.rebase
      dsimp only
      rw [none_]
      omega
    rw [stays, same, x]
    exact ⟨rfl, rfl, fun _ => rfl⟩
  · have moves : s.rebaseOrigin = ({ s with time := s.time.rebase } : State).refreshAll := if_neg same
    have k := refreshAll_k { s with time := s.time.rebase }
    rw [moves]
    rw [refreshAll_frame] at k ⊢
    refine ⟨rfl, ?_, fun h => absurd h same⟩
    unfold State.afterShift
    rw [k]

/-! ### The counters and the instants of a step -/

theorem eraAuto_frame (s : State) : eraAuto s = { s with
    time := { s.time with era := (eraAuto s).time.era, eraStale := (eraAuto s).time.eraStale, eraAuto := (eraAuto s).time.eraAuto } } := by
  unfold eraAuto
  split <;> rfl

theorem eraAuto_stays {s : State} (h : s.time.eraStale = false ∨ s.time.wns < 2 ^ 31) : eraAuto s = s :=
  if_neg fun ⟨stale, high⟩ => h.elim (fun fresh => absurd (stale.symm.trans fresh) (by decide)) (fun low => absurd high (Nat.not_le.mpr low))

theorem eraAuto_moves {s : State} (h : s.time.eraStale = true ∧ 2 ^ 31 ≤ s.time.wns) :
    (eraAuto s).time.era = (s.time.era + 1) % 2 ^ 32 ∧ (eraAuto s).time.eraStale = false ∧ (eraAuto s).time.eraAuto = true := by
  unfold eraAuto
  rw [if_pos h]
  exact ⟨rfl, rfl, rfl⟩

/-- The tick of a step: ERA is incremented where WNS comes to 2³¹ with ERA_STALE set (R170). -/
theorem stepCount_counts (d : Int) (s : State) : ∃ e st au z, s.stepCount d = { s with
      time := { s.time with wns := (((s.time.wns : Int) + d) % 2 ^ 32).toNat, sph := (((s.time.sph : Int) + d) % 1000000000).toNat,
                            stepPend := none, stepCnt := sat16 s.time.stepCnt, era := e, eraStale := st, eraAuto := au, stepZ := z } } ∧
    (s.time.eraStale = false ∨ (((s.time.wns : Int) + d) % 2 ^ 32).toNat < 2 ^ 31 → e = s.time.era ∧ st = s.time.eraStale) ∧
    (s.time.eraStale = true → 2 ^ 31 ≤ (((s.time.wns : Int) + d) % 2 ^ 32).toNat → e = (s.time.era + 1) % 2 ^ 32 ∧ st = false ∧ au = true) := by
  unfold State.stepCount
  rw [eraAuto_frame]
  refine ⟨_, _, _, _, rfl, fun stays => ?_, fun stale high => ?_⟩
  · rw [eraAuto_stays (by exact stays)]
    exact ⟨rfl, rfl⟩
  · exact eraAuto_moves (by exact ⟨stale, high⟩)

/-- The shift of a step moves the instants with the counters (R169). -/
theorem stepShift_shifts (d : Int) (s : State) : ∃ e st au,
    (s.stepShift d).time.counters = ((((s.time.wns : Int) + d) % 2 ^ 32).toNat, (((s.time.sph : Int) + d) % 1000000000).toNat, e, st, au, none,
      sat16 s.time.stepCnt, (s.time.cmps.map (stepCmp d s.time.wns (((s.time.wns : Int) + d) % 2 ^ 32).toNat)).map (·.1)) ∧
    (s.time.eraStale = false ∨ (((s.time.wns : Int) + d) % 2 ^ 32).toNat < 2 ^ 31 → e = s.time.era ∧ st = s.time.eraStale) ∧
    (s.time.eraStale = true → 2 ^ 31 ≤ (((s.time.wns : Int) + d) % 2 ^ 32).toNat → e = (s.time.era + 1) % 2 ^ 32 ∧ st = false ∧ au = true) ∧
    (s.stepShift d).time.origin = s.time.origin ∧ (s.stepShift d).time.srv = s.time.srv ∧ (s.stepShift d).mem = s.mem ∧
    (s.stepShift d).firmware = s.firmware ∧
    (s.stepShift d).afterShift = (s.clusters.map (Cluster.shift d), s.sys.efcEdge + d, s.hkc.slotAt + d, s.net.trigX + d,
      s.evt.cons.map (fun x => { x with arrAt := shiftOpt d x.arrAt }), 0) := by
  obtain ⟨e, st, au, z, count, stays, moves⟩ := stepCount_counts d s
  obtain ⟨ci, cmps⟩ := stepCmps_frame d s.time.wns (s.stepCount d).time.wns ((s.stepCount d).shiftX d)
  refine ⟨e, st, au, ?_, stays, moves, ?_⟩
  · rw [State.stepShift, cmps, count]
    rfl
  · rw [State.stepShift, cmps, count]
    exact ⟨rfl, rfl, rfl, rfl, rfl⟩

theorem origin_parts {t u : Time} (same : t.origin = u.origin) : t.originS = u.originS ∧ t.originX = u.originX := Prod.ext_iff.1 same

theorem x_counters {t u : Time} (same : t.counters = u.counters) : t.x = u.x := by
  simp only [Time.counters, Prod.mk.injEq] at same
  obtain ⟨wns, -, era, stale, -⟩ := same
  rw [Time.x, Time.x, wns, era, stale]

theorem taiOf_origin {t u : Time} (same : t.origin = u.origin) (x : Int) : t.taiOf x = u.taiOf x := by
  obtain ⟨os, ox⟩ := origin_parts same
  rw [Time.taiOf, Time.taiOf, os, ox]

theorem stepOrigin_parts (s : State) : s.stepOrigin.time = { s.time with
      originS := s.stepOrigin.time.originS, originX := s.stepOrigin.time.originX } ∧ (∀ x, s.stepOrigin.time.taiOf x = s.time.taiOf x) ∧
    s.stepOrigin.afterShift = s.afterShift ∧ (s.stepOrigin.time.originS = s.time.originS → s.stepOrigin.mem = s.mem) ∧
    (s.firmware = true → 2000000000 ≤ s.time.x - s.stepOrigin.time.originX ∨ s.stepOrigin.time.originS = 0 ∨
      s.stepOrigin.time.originX < 1000000000) := by
  obtain ⟨time, rest, mem⟩ := rebaseOrigin_eq s
  unfold State.stepOrigin
  cases fw : s.firmware with
  | false => exact ⟨rfl, fun _ => rfl, rfl, fun _ => rfl, nofun⟩
  | true =>
    rw [if_pos rfl]
    refine ⟨by rw [time], fun x => ?_, rest, mem, fun _ => ?_⟩
    · rw [← rebase_taiOf s.time x, time]
      rfl
    · rw [time]
      exact rebase_behind s.time

/-! ### A load -/

theorem originPair_taiOf (sec : Nat) (top : Int) (t : Time) :
    Time.taiOf { t with originS := (originPair sec top).1, originX := (originPair sec top).2 } top = (sec : Int) * 1000000000 := by
  unfold originPair Time.taiOf
  dsimp only
  omega

/-- With no epoch held, there is none to move (R148). -/
theorem shift_noEpochs {d : Int} {f : Fab} (none_ : f.epochs = []) :
    { f with slots := f.slots.map (fun q => { q with ep := q.ep.map (Epoch.shift d) }) } = f := by
  have held : ∀ q ∈ f.slots, q.ep = none := List.filterMap_eq_nil_iff.1 (List.append_eq_nil_iff.1 none_).1
  have slots : f.slots.map (fun q => { q with ep := q.ep.map (Epoch.shift d) }) = f.slots := by
    refine (List.map_congr_left fun q mem => ?_).trans (List.map_id _)
    rw [held q mem]
    show ({ q with ep := none } : FabSlot) = q
    rw [← held q mem]
  rw [slots]

/-- The counters, the origin and the compare units after a load (R166, R168). -/
def State.loaded (taiS : Nat) (s : State) : State :=
  let t := s.time
  let sph : Nat := t.loadSph.toNat % 2 ^ 30 % 1000000000
  let x : Int := (t.loadEra.toNat : Int) * 2 ^ 32 + t.loadWns.toNat
  let o := originPair taiS (x - sph)
  { s with
    time := { t with
      era := t.loadEra.toNat, wns := t.loadWns.toNat, sph := sph, eraStale := false,
      cmps := t.cmps.map (fun c => { c with armed := false }),
      stepZ := some x, originS := o.1, originX := o.2, originPtp := t.originPtp || decide (s.image.time.source = 1) } }

theorem timeLoad_loads {s : State} (taiS : Nat) (free : s.fab.epochs = []) (run : s.time.run = true) : timeLoad taiS s =
      ((s.loaded taiS).shiftX ((s.time.loadEra.toNat : Int) * 2 ^ 32 + s.time.loadWns.toNat - s.now)).refreshAll ∧
    ((s.loaded taiS).shiftX ((s.time.loadEra.toNat : Int) * 2 ^ 32 + s.time.loadWns.toNat - s.now)).fab = s.fab :=
  ⟨if_neg (by simp [free, run]), shift_noEpochs free⟩

/-! ### The obligation -/

/-- Settles O42: a step is the tick that takes it, the shift of the instants, the origin, the servo and the epochs passed, in this order. -/
theorem stepsAndLoads : Obligations.StepsAndLoads := by
  unfold Obligations.StepsAndLoads
  refine ⟨fun s v => ⟨fun high low => ?_, fun beyond => ?_⟩, fun s s1 d pend => ⟨fun sealed_ => ?_, fun none_ reached => ?_⟩,
    fun s taiS => ⟨fun used => ?_, fun free run => ?_⟩⟩
  · exact congrArg Host.Outcome.next (if_neg (by omega))
  · exact congrArg Host.Outcome.next (if_pos beyond)
  · exact congrArg Host.Outcome.next (stepApply_waits pend sealed_)
  · obtain ⟨e, st, au, counters, stays, moves, origin, srv, mem, fw, shifted⟩ := stepShift_shifts d s1
    obtain ⟨o_time, o_tai, o_rest, o_mem, o_behind⟩ := stepOrigin_parts (s1.stepShift d)
    obtain ⟨s_rest, s_mem⟩ := stepServo_rest (s1.stepShift d).stepOrigin
    obtain ⟨lock, keep⟩ := stepServo_srv (s1.stepShift d).stepOrigin
    have applies := stepApply_applies pend none_ reached
    obtain ⟨time, p_rest, p_mem⟩ := stepPassed_rest s1.tai ((s1.stepShift d).stepOrigin.stepServo).tai (s1.stepShift d).stepOrigin.stepServo
    rw [show ((s1.stepShift d).stepOrigin.stepServo).stepPassed s1.tai ((s1.stepShift d).stepOrigin.stepServo).tai = s1.stepDone d from rfl]
      at time p_rest p_mem
    have all : (s1.stepDone d).time.counters = (s1.stepShift d).time.counters := by
      rw [time, stepServo_counters, o_time]
      rfl
    have srv' : (s1.stepShift d).stepOrigin.time.srv = s1.time.srv := by rw [o_time, ← srv]
    have org : (s1.stepDone d).time.origin = (s1.stepShift d).stepOrigin.time.origin := by rw [time, stepServo_origin]
    have rest : (s1.stepDone d).afterShift = (s1.stepShift d).afterShift := by rw [p_rest, s_rest, o_rest]
    have all' := all
    rw [counters] at all
    rw [shifted] at rest
    simp only [Time.counters, Prod.mk.injEq] at all
    simp only [State.afterShift, Prod.mk.injEq] at rest
    obtain ⟨wns, sph, era, stale, auto, pend', cnt, cmps⟩ := all
    obtain ⟨clusters, efc, slot, trig, cons, k⟩ := rest
    refine ⟨_, congrArg Host.Outcome.next applies, wns, sph, fun h => ?_, fun h high => ?_, pend', cnt, fun i c there off => ?_,
      fun h => ?_, fun h => ?_, clusters, efc, slot, trig, ?_, k, fun x => ?_, fun h => ?_, fun same => ?_⟩
    · rw [wns] at h
      rw [era, stale]
      exact stays h
    · rw [wns] at high
      rw [era, stale, auto]
      exact moves h high
    · rw [cmps, List.getElem?_map, List.getElem?_map, there]
      exact congrArg (fun r : Cmp × Bool => some r.1) (stepCmp_disarmed off)
    · rw [time]
      exact lock (srv'.trans h)
    · rw [time, keep (by rw [srv']; exact h), srv']
    · rw [cons, List.map_map]
      rfl
    · rw [taiOf_origin org, o_tai, taiOf_origin origin]
    · have x : (s1.stepDone d).time.x = (s1.stepShift d).time.x := by
        rw [x_counters all']
      obtain ⟨os, ox⟩ := origin_parts org
      rw [State.now, x, os, ox]
      exact o_behind (fw.trans h)
    · rw [p_mem, s_mem, o_mem ?_, mem]
      obtain ⟨os, -⟩ := origin_parts org
      obtain ⟨os', -⟩ := origin_parts origin
      rw [← os, same, os']
  · exact congrArg Host.Outcome.next (if_pos (.inl used))
  · obtain ⟨loads, fab⟩ := timeLoad_loads taiS free run
    refine ⟨_, congrArg Host.Outcome.next loads, ?_⟩
    rw [refreshAll_frame]
    refine ⟨rfl, rfl, rfl, rfl, originPair_taiOf taiS _ s.time, fun i c there => ?_, fab, rfl⟩
    have there : (s.time.cmps.map (fun c => { c with armed := false }))[i]? = some c := there
    rw [List.getElem?_map] at there
    obtain ⟨q, -, rfl⟩ := Option.map_eq_some_iff.1 there
    rfl

end Sys2Proof.Machine

/-! PROOFS. A channel's gate: what it lets pass, and its trip (O51). -/

namespace Sys2Proof.Machine

/-! ### Channels -/

theorem chan_of {s : State} {ch : Nat} {c : Chan} (there : s.evt.chans[ch]? = some c) : s.chan ch = c := getD_of_some there {}

theorem modChan_same {s : State} {ch : Nat} {c : Chan} {f : Chan → Chan} (there : s.evt.chans[ch]? = some c) :
    (s.modChan ch f).evt.chans[ch]? = some (f c) := getElem?_modAt_same there

theorem modChan_other {s : State} {ch d : Nat} (f : Chan → Chan) (other : d ≠ ch) : (s.modChan ch f).evt.chans[d]? = s.evt.chans[d]? :=
  getElem?_modAt_other other

/-- Who takes a source is a matter of what the channels select. -/
theorem takers_of {e f : Evt} (same : ∀ ch : Nat, e.chans[ch]?.map Chan.src = f.chans[ch]?.map Chan.src) (src : Nat) : e.takers src = f.takers src := by
  refine List.filter_congr fun ch _ => ?_
  have h := same ch
  cases he : e.chans[ch]? with
  | none =>
    rw [he] at h
    rw [Option.map_eq_none_iff.1 h.symm]
  | some c =>
    rw [he] at h
    obtain ⟨d, hd, src'⟩ := Option.map_eq_some_iff.1 h.symm
    rw [hd]
    dsimp only
    rw [src']

theorem modAt_srcs {f : Chan → Chan} (same : ∀ c, (f c).src = c.src) (k : Nat) (l : List Chan) (ch : Nat) :
    (modAt f k l)[ch]?.map Chan.src = l[ch]?.map Chan.src := by
  rw [getElem?_modAt]
  split
  · rw [Option.map_map]
    congr 1
    exact funext same
  · rfl

/-! ### A closed gate -/

/-- Nothing that changes a channel's group is on its way (R234). -/
theorem groupFirst_idle {s : State} {g : Nat} (calm : ∀ q ∈ s.evt.conIn, q.x ≠ 64 + g ∧ q.x ≠ 80 + g) (none_ : s.groupComing g = []) :
    s.groupFirst g = s := by
  have no_change : s.evt.conIn.filter (fun q => decide (q.x = 64 + g ∨ q.x = 80 + g)) = [] :=
    List.filter_eq_nil_iff.2 fun q mem => by simpa using calm q mem
  rw [State.groupFirst, none_, List.foldl_nil, State.groupNow, no_change, List.foldl_nil]

/-- The occurrence meets its channel's gate at once where no change of the group is on its way (R228, R234). -/
theorem channelAccept_meets {s : State} {ch : Nat} {o : Option Nat} (comes : s.evt.chanIn.contains ⟨ch, o⟩ = true)
    (calm : ∀ q ∈ s.evt.conIn, q.x ≠ 64 + ch / 8 ∧ q.x ≠ 80 + ch / 8) (none_ : (s.takeOcc ⟨ch, o⟩).groupComing (ch / 8) = []) :
    channelAccept ch o s = (s.takeOcc ⟨ch, o⟩).accept ch o := by
  have idle := groupFirst_idle (s := s.takeOcc ⟨ch, o⟩) calm none_
  unfold channelAccept
  rw [if_pos comes, idle]

theorem accept_closed {s : State} {ch : Nat} (closed : s.chanOpen ch = false) (o : Option Nat) : s.accept ch o = s := if_pos closed

theorem chanOpen_closed {s : State} {ch : Nat} {c : Chan} (there : s.evt.chans[ch]? = some c) (closed : c.tripped = true ∨ c.en = false) :
    s.chanOpen ch = false := by
  unfold State.chanOpen
  rw [chan_of there]
  obtain h | h := closed <;> simp [h]

/-! ### The trip -/

theorem reenter_count (now : Int) (c : Chan) : (c.reenter now).reCnt = (if c.winEnd ≤ now then 0 else c.reCnt) + 1 ∧
    (c.reenter now).reMax = c.reMax ∧ (c.reenter now).fired = c.fired ∧ (c.reenter now).src = c.src := by
  unfold Chan.reenter
  dsimp only
  split <;> exact ⟨rfl, rfl, rfl, rfl⟩

theorem accept_trips {s : State} {ch : Nat} {c : Chan} (there : s.evt.chans[ch]? = some c) (gate : s.chanOpen ch = true) (held : c.holdEnd ≤ s.now)
    (over_ : max 1 c.reMax < (if c.winEnd ≤ s.now then 0 else c.reCnt) + 1) :
    s.accept ch (some ch) = (s.modChan ch (Chan.reenter s.now)).trip ch := by
  obtain ⟨cnt, top, -⟩ := reenter_count s.now c
  have here := chan_of (modChan_same (f := Chan.reenter s.now) there)
  unfold State.accept
  rw [if_neg (by rw [gate]; decide), if_neg (by rw [chan_of there]; omega)]
  dsimp only
  rw [if_pos rfl, here, cnt, top, if_pos ⟨rfl, over_⟩]

/-- What a trip leaves: the channel off and tripped, its selects purged, EVT_LOOP_TRIP raised (R233, R238). -/
theorem trip_trips {s : State} {ch : Nat} {c : Chan} (there : s.evt.chans[ch]? = some c) :
    s.trip ch = { s with evt := (s.trip ch).evt } ∧
    (s.trip ch).evt = { s.evt with
      chans := (s.trip ch).evt.chans, cons := s.evt.cons.map (Con.purge ch),
      chanIn := s.evt.chanIn ++ (s.evt.takers 0xF0).map (fun d => ⟨d, none⟩) } ∧
    (s.trip ch).evt.chans[ch]? = some { c with en := false, tripped := true } ∧
    ∀ d, d ≠ ch → (s.trip ch).evt.chans[d]? = s.evt.chans[d]? := by
  have takers : ((s.chanOff ch).modChan ch (fun c => { c with tripped := true })).evt.takers 0xF0 = s.evt.takers 0xF0 :=
    takers_of (fun d => (modAt_srcs (f := fun c => { c with tripped := true }) (fun _ => rfl) _ _ _).trans
      (modAt_srcs (f := fun c => { c with en := false }) (fun _ => rfl) _ _ _)) _
  refine ⟨rfl, ?_, getElem?_modAt_same (f := fun c : Chan => { c with tripped := true })
    (getElem?_modAt_same (f := fun c : Chan => { c with en := false }) there), fun d other =>
    (getElem?_modAt_other other).trans (getElem?_modAt_other other)⟩
  unfold State.trip
  rw [raise_evt, takers]
  rfl

/-! ### The obligation -/

/-- A write of the configuration of a channel that is off and tripped leaves it so (R230, log 69). -/
theorem chanCfgWrite_tripped {s : State} {ch : Nat} {c : Chan} (there : s.evt.chans[ch]? = some c) (trip : c.tripped = true) (off : c.en = false)
    (w : Writer) (v : Word) : ∃ q, (s.chanCfgWrite w ch v).evt.chans[ch]? = some q ∧ q.tripped = true ∧ q.en = false := by
  unfold State.chanCfgWrite
  split
  · exact ⟨c, there, trip, off⟩
  · dsimp only
    rw [chan_of there]
    split
    · exact ⟨_, modChan_same there, trip, off⟩
    · exact ⟨_, modChan_same (s := s.modChan ch _) (modChan_same there), trip, rfl⟩

/-- Settles O51: the count of the re-entry is above RE_MAX, so the channel trips; a channel that is off lets nothing pass. -/
theorem reentryTripsChannel : Obligations.ReentryTripsChannel := by
  unfold Obligations.ReentryTripsChannel
  refine ⟨fun s ch c oc at_oc comes there gate held calm none_ over_ => ?_, fun s ch c w v there trip off => ?_,
    fun s ch c o there closed calm none_ => ?_⟩
  · subst at_oc
    have meets : channelAccept ch.val (some ch.val) s = ((s.takeOcc ⟨ch.val, some ch.val⟩).modChan ch.val (Chan.reenter s.now)).trip ch.val :=
      (channelAccept_meets comes calm none_).trans (accept_trips (s := s.takeOcc ⟨ch.val, some ch.val⟩) there gate held over_)
    obtain ⟨cnt, top, fired, src⟩ := reenter_count s.now c
    have there' := modChan_same (s := s.takeOcc ⟨ch.val, some ch.val⟩) (f := Chan.reenter s.now) there
    obtain ⟨frame, evt, at_ch, others⟩ := trip_trips there'
    have takers : (((s.takeOcc ⟨ch.val, some ch.val⟩).modChan ch.val (Chan.reenter s.now)).evt.takers 0xF0) = s.evt.takers 0xF0 :=
      takers_of (fun d => modAt_srcs (fun c => (reenter_count s.now c).2.2.2) _ _ _) _
    rw [takers] at evt
    refine ⟨_, _, congrArg Host.Outcome.next meets, frame, ?_, ?_, at_ch, rfl, rfl, fired, fun d other => (others d other).trans
      (modChan_other _ other)⟩
    · conv_lhs => rw [evt]
      conv_rhs => rw [evt]
      rfl
    · rw [evt]
      rfl
  · by_cases up : s.writerUp w = true
    · obtain ⟨q, at_ch, q_trip, q_off⟩ := chanCfgWrite_tripped there trip off w v
      exact ⟨_, q, congrArg Host.Outcome.next (if_pos up), at_ch, q_trip, q_off⟩
    · exact ⟨s, c, congrArg Host.Outcome.next (if_neg up), there, trip, off⟩
  · by_cases comes : s.evt.chanIn.contains ⟨ch.val, o.map Fin.val⟩ = true
    · have meets := channelAccept_meets comes calm none_
      rw [accept_closed (s := s.takeOcc ⟨ch.val, o.map Fin.val⟩) (chanOpen_closed there closed)] at meets
      exact ⟨_, congrArg Host.Outcome.next meets, rfl⟩
    · exact ⟨s, congrArg Host.Outcome.next (if_neg comes), rfl⟩

end Sys2Proof.Machine

/-! PROOFS. Channels, groups, pins and consumers of the event fabric (O49). -/

namespace Sys2Proof.Machine

/-! ### An open gate -/

theorem accept_holdsOff {s : State} {ch : Nat} {c : Chan} (there : s.evt.chans[ch]? = some c) (gate : s.chanOpen ch = true) (held : s.now < c.holdEnd)
    (o : Option Nat) : s.accept ch o = s.modChan ch (fun c => { c with holdCnt := sat16 c.holdCnt }) := by
  unfold State.accept
  rw [if_neg (by rw [gate]; decide), if_pos (by rw [chan_of there]; exact held)]

/-- The channel after an occurrence that it passes (R228). -/
def Chan.fire (now : Int) (c : Chan) : Chan := { c with fired := sat16 c.fired, holdEnd := now + (max 1 c.holdoff) * 64 }

theorem accept_passes {s : State} {ch : Nat} {c : Chan} {o : Option Nat} (there : s.evt.chans[ch]? = some c) (gate : s.chanOpen ch = true)
    (free : c.holdEnd ≤ s.now) (other : o ≠ some ch) : s.accept ch o = (s.modChan ch (Chan.fire s.now)).forward ch (o.getD ch) := by
  unfold State.accept
  rw [if_neg (by rw [gate]; decide), if_neg (by rw [chan_of there]; omega)]
  dsimp only
  rw [if_neg other, if_neg fun h => other h.1]
  rfl

/-- Where an accepted occurrence goes (R228). -/
theorem forward_goes {s : State} {ch : Nat} {c : Chan} (there : s.evt.chans[ch]? = some c) (origin : Nat) :
    s.forward ch origin = { s with
      evt := { s.evt with conIn := (s.forward ch origin).evt.conIn, capIn := (s.forward ch origin).evt.capIn },
      hosts := (s.forward ch origin).hosts } ∧
    (∀ x j, 8 ≤ x → x < 96 → j ∈ (s.con x).selects ch → (⟨x, j, origin⟩ : ConOcc) ∈ (s.forward ch origin).evt.conIn) ∧
    (∀ (i : Nat) (u : Cap), i < 8 → s.time.caps[i]? = some u → u.src = 18 → u.channel = ch → (i, origin) ∈ (s.forward ch origin).evt.capIn) ∧
    (c.owner < 4 → 8 ≤ c.vector → (s.forward ch origin).hosts = (s.modHost c.owner (HostPort.msg c.vector)).hosts) ∧
    (4 ≤ c.owner ∨ c.vector < 8 → (s.forward ch origin).hosts = s.hosts) := by
  have sent : (s.forward ch origin).evt = { s.evt with
      conIn := s.evt.conIn ++ (s.goSlots ch).map (fun i => (⟨i, 0, origin⟩ : ConOcc)) ++
        (List.range 88).flatMap (fun k => ((s.con (8 + k)).selects ch).map (fun j => (⟨8 + k, j, origin⟩ : ConOcc))),
      capIn := s.evt.capIn ++ ((List.range 8).filter (fun i => s.capSrc i = 18 && decide ((s.time.caps.getD i {}).channel = ch))).map
        (fun i => (i, origin)) } := by
    unfold State.forward
    dsimp only
    split <;> rfl
  have told : (c.owner < 4 → 8 ≤ c.vector → (s.forward ch origin).hosts = (s.modHost c.owner (HostPort.msg c.vector)).hosts) ∧
      (4 ≤ c.owner ∨ c.vector < 8 → (s.forward ch origin).hosts = s.hosts) := by
    have here : s.evt.chans.getD ch {} = c := getD_of_some there {}
    unfold State.forward State.chan
    dsimp only
    rw [here]
    refine ⟨fun low vec => ?_, fun no => ?_⟩
    · rw [if_pos ⟨low, vec⟩]
      rfl
    · rw [if_neg (by omega)]
  refine ⟨?_, fun x j low high sel => ?_, fun i u small at_i src channel => ?_, told⟩
  · unfold State.forward
    dsimp only
    split <;> rfl
  · rw [sent]
    refine List.mem_append_right _ (List.mem_flatMap.2 ⟨x - 8, List.mem_range.2 (by omega), ?_⟩)
    rw [Nat.add_sub_cancel' low]
    exact List.mem_map.2 ⟨j, sel, rfl⟩
  · rw [sent]
    refine List.mem_append_right _ (List.mem_map.2 ⟨i, List.mem_filter.2 ⟨List.mem_range.2 small, ?_⟩, rfl⟩)
    rw [capSrc_of at_i, src, getD_of_some at_i {}, channel]
    simp

/-- A channel's gate with its occurrence before it, no hold-off running. -/
theorem fires {s : State} {ch : Nat} {c : Chan} {o : Option Nat} (there : s.evt.chans[ch]? = some c) (gate : s.chanOpen ch = true)
    (free : c.holdEnd ≤ s.now) (other : o ≠ some ch) : s.accept ch o = { s with evt := (s.accept ch o).evt, hosts := (s.accept ch o).hosts } ∧
    (s.accept ch o).evt.chans[ch]? = some { c with fired := sat16 c.fired, holdEnd := s.now + (max 1 c.holdoff) * 64 } ∧
    (s.accept ch o).evt.cons = s.evt.cons ∧
    (∀ x j, 8 ≤ x → x < 96 → j ∈ (s.con x).selects ch → (⟨x, j, o.getD ch⟩ : ConOcc) ∈ (s.accept ch o).evt.conIn) ∧
    (∀ (i : Nat) (u : Cap), i < 8 → s.time.caps[i]? = some u → u.src = 18 → u.channel = ch → (i, o.getD ch) ∈ (s.accept ch o).evt.capIn) ∧
    (c.owner < 4 → 8 ≤ c.vector → (s.accept ch o).hosts = (s.modHost c.owner (HostPort.msg c.vector)).hosts) ∧
    (4 ≤ c.owner ∨ c.vector < 8 → (s.accept ch o).hosts = s.hosts) ∧
    (∀ d, d ≠ ch → (s.accept ch o).evt.chans[d]? = s.evt.chans[d]?) := by
  have there' := modChan_same (f := Chan.fire s.now) there
  obtain ⟨frame, cons, caps, told, quiet⟩ := forward_goes there' (o.getD ch)
  rw [accept_passes there gate free other]
  refine ⟨?_, ?_, ?_, cons, caps, told, quiet, fun d away => ?_⟩
  · conv_lhs => rw [frame]
    conv_rhs => rw [frame]
    rfl
  · rw [frame]
    exact there'
  · rw [frame]
    rfl
  · rw [frame]
    exact modChan_other _ away

/-! ### A consumer that is free -/

theorem con_of {s : State} {x : Nat} {c : Con} (there : s.evt.cons[x]? = some c) : s.con x = c := getD_of_some there {}

theorem modCon_at {s : State} {x : Nat} {c : Con} {f : Con → Con} (there : s.evt.cons[x]? = some c) :
    (s.modCon x f).evt.cons[x]? = some (f c) := getElem?_modAt_same there

theorem modCon_away {s : State} {x y : Nat} (f : Con → Con) (other : y ≠ x) : (s.modCon x f).evt.cons[y]? = s.evt.cons[y]? :=
  getElem?_modAt_other other

/-- The state in which an arrival of its own meets its consumer (R232). -/
def State.atConsumer (o : ConOcc) (s : State) : State := (s.takeConOcc o).modCon o.x (fun c => { c with arrAt := some s.now })

/-- An arrival of its own (R232). -/
theorem consumerArrive_meets {x j o k : Nat} {s : State} {c : Con} (coming : s.evt.conIn.contains ⟨x, j, o⟩ = true) (there : s.evt.cons[x]? = some c)
    (ordinary : 8 ≤ x) (notReserved : x ≠ 47) (apart : ∀ a, c.arrAt = some a → a + 8 < s.now ∨ s.now < a)
    (alone : ∀ q ∈ removeFirst (fun q => decide (q = ⟨x, j, o⟩)) s.evt.conIn, q.x ≠ x) :
    consumerArrive x j o k s = (s.atConsumer ⟨x, j, o⟩).conArrive x j o := by
  rw [consumerArrive_ordinary coming (by omega) notReserved,
    newArrival_apart (s := s.takeConOcc ⟨x, j, o⟩) (fun a => by rw [con_of (s := s.takeConOcc ⟨x, j, o⟩) there]; exact apart a) alone]
  rfl

theorem atConsumer_at {x j o : Nat} {s : State} {c : Con} (there : s.evt.cons[x]? = some c) :
    (s.atConsumer ⟨x, j, o⟩).evt.cons[x]? = some { c with arrAt := some s.now } := modCon_at (s := s.takeConOcc ⟨x, j, o⟩) there

/-- A consumer begins to act (R231, R232). -/
def State.conBegins (x ch o : Nat) (s : State) : State :=
  (s.modCon x (fun c => { c with busy := true })).conAct x ch o

/-- A free consumer acts; one that is never busy is free at once (R231, R232). -/
theorem conArrive_free {x j o : Nat} {s : State} {c : Con} (there : s.evt.cons[x]? = some c) (on : s.conOff x = false) (live : s.deadPin x = false)
    (free : c.busy = false) : s.conArrive x j o =
      if (s.conBegins x (c.chanAt j) o).neverBusy x then (s.conBegins x (c.chanAt j) o).modCon x (fun c => { c with busy := false })
      else s.conBegins x (c.chanAt j) o := by
  have busy : (s.modCon x (fun c => { c with busy := true })).con x = { c with busy := true } := con_of (modCon_at there)
  unfold State.conArrive
  rw [on, live, Bool.or_false, if_neg Bool.false_ne_true, con_of there, free, if_neg Bool.false_ne_true]
  dsimp only
  rw [busy]
  rfl

/-- A busy consumer holds the arrival, or drops it (R232). -/
theorem conArrive_busy {x j o : Nat} {s : State} {c : Con} (there : s.evt.cons[x]? = some c) (on : s.conOff x = false) (live : s.deadPin x = false)
    (busy : c.busy = true) : s.conArrive x j o = s.modCon x (Con.hold j o) := by
  unfold State.conArrive
  rw [on, live, Bool.or_false, if_neg Bool.false_ne_true, con_of there, busy, if_pos rfl]

/-- The consumer after it has acted on an occurrence, free again or not. -/
def Con.acted (o : Nat) (busy : Bool) (c : Con) : Con := { c with origin := some o, rel := false, busy := busy }

theorem acted_free {c : Con} (free : c.busy = false) (o : Nat) : c.acted o false = { c with origin := some o, rel := false } := by
  rw [Con.acted, ← free]

/-- What a consumer's own record takes when it begins to act. -/
theorem begins_at {x o : Nat} {s : State} {c : Con} (there : s.evt.cons[x]? = some c) :
    ((s.modCon x (fun c => { c with busy := true })).modCon x (fun c => { c with origin := some o, rel := false })).evt.cons[x]? =
      some (c.acted o true) := modCon_at (modCon_at there)

/-- A consumer that has acted and clears its busy bit at once. -/
theorem unbusy_at {x o : Nat} {s : State} {c : Con} (there : s.evt.cons[x]? = some (c.acted o true)) :
    (s.modCon x (fun c => { c with busy := false })).evt.cons[x]? = some (c.acted o false) := modCon_at there

/-! #### PPS_GATE, the GPIO pins and the groups -/

theorem ppsGate_acts {j o : Nat} {s : State} {c : Con} (there : s.evt.cons[46]? = some c) (on : s.conOff 46 = false)
    (live : s.deadPin 46 = false) (free : c.busy = false) : s.conArrive 46 j o = { s with
      evt := (s.conArrive 46 j o).evt, time := { s.time with ppsGate := true } } ∧
    (s.conArrive 46 j o).evt.cons[46]? = some (c.acted o false) := by
  have acts : s.conArrive 46 j o = _ := (conArrive_free there on live free).trans (if_pos rfl)
  rw [acts]
  exact ⟨rfl, unbusy_at (s := s.conBegins 46 _ o) (begins_at there)⟩

theorem conBegins_pin {x ch o : Nat} {s : State} {c : Con} (there : s.evt.cons[x]? = some c) (low : 48 ≤ x) (high : x < 64) : s.conBegins x ch o =
    ((s.modCon x (fun c => { c with busy := true })).modCon x (fun c => { c with origin := some o, rel := false })).modPin (x - 48)
      (Gpio.act c.action c.width s.now) := by
  have here := con_of (begins_at (o := o) there)
  unfold State.conBegins State.conAct
  dsimp only
  rw [if_neg (by omega), if_neg (by omega), if_neg (by omega), if_neg (by omega), if_neg (by omega), if_neg (by omega), if_neg (by omega),
    if_neg (by omega), if_pos high, here]
  rfl

theorem neverBusy_pin {x : Nat} {s : State} (low : 48 ≤ x) (high : x < 64) : s.neverBusy x = decide ((s.con x).action ≠ 0) := by
  unfold State.neverBusy
  rw [decide_eq_false (show ¬ x = 43 by omega), decide_eq_false (show ¬ x = 46 by omega), decide_eq_false (show ¬ 64 ≤ x by omega),
    decide_eq_true low, decide_eq_true high]
  rfl

/-- A GPIO_OUT pin takes its level, or begins its pulse (R227, R231). -/
theorem pin_acts {x j o : Nat} {s : State} {c : Con} {g : Gpio} (there : s.evt.cons[x]? = some c) (on : s.conOff x = false)
    (live : s.deadPin x = false) (free : c.busy = false) (low : 48 ≤ x) (high : x < 64) (pin : s.evt.gpio[x - 48]? = some g) :
    s.conArrive x j o = { s with evt := (s.conArrive x j o).evt } ∧
    (s.conArrive x j o).evt.cons[x]? = some (c.acted o (decide (c.action = 0))) ∧
    (s.conArrive x j o).evt.gpio[x - 48]? = some (Gpio.act c.action c.width s.now g) := by
  have acts := conArrive_free (j := j) (o := o) there on live free
  rw [conBegins_pin there low high] at acts
  have never : (((s.modCon x (fun c => { c with busy := true })).modCon x (fun c => { c with origin := some o, rel := false })).modPin (x - 48)
      (Gpio.act c.action c.width s.now)).neverBusy x = decide (c.action ≠ 0) := by
    rw [neverBusy_pin low high]
    exact (congrArg (fun c : Con => decide (c.action ≠ 0)) (getD_of_some (begins_at (o := o) there) {}) :)
  rw [never] at acts
  by_cases pulse : c.action = 0
  · rw [if_neg (by simp [pulse])] at acts
    rw [acts, decide_eq_true pulse]
    exact ⟨rfl, begins_at there, getElem?_modAt_same pin⟩
  · rw [if_pos (by simp [pulse])] at acts
    rw [acts, decide_eq_false pulse]
    exact ⟨rfl, unbusy_at (s := ((s.modCon x _).modCon x _).modPin _ _) (begins_at there), getElem?_modAt_same pin⟩

theorem neverBusy_group {x : Nat} {s : State} (low : 64 ≤ x) : s.neverBusy x = true := by
  unfold State.neverBusy
  rw [decide_eq_true low, Bool.or_true, Bool.true_or]

theorem conBegins_group {x ch o g : Nat} {s : State} (small : g < 16) (which : x = 64 + g ∨ x = 80 + g)
    (calm : x = 64 + g → s.evt.groupOff.getD g none = none) :
    ∃ off, s.conBegins x ch o = { s with
      evt := { s.evt with
        cons := modAt (fun c => { c with origin := some o, rel := false }) x (modAt (fun c => { c with busy := true }) x s.evt.cons),
        group := setAt (decide (x = 64 + g)) g s.evt.group, groupOff := off } } := by
  unfold State.conBegins State.conAct
  dsimp only
  rw [if_neg (by omega), if_neg (by omega), if_neg (by omega), if_neg (by omega), if_neg (by omega), if_neg (by omega), if_neg (by omega),
    if_neg (by omega), if_neg (by omega)]
  obtain rfl | rfl := which
  · rw [if_pos (by omega), Nat.add_sub_cancel_left, decide_eq_true rfl]
    refine ⟨s.evt.groupOff, ?_⟩
    unfold State.groupEnable
    dsimp only [modCon_evt]
    rw [calm rfl]
    rfl
  · rw [if_neg (by omega), Nat.add_sub_cancel_left, decide_eq_false (by omega)]
    exact ⟨_, rfl⟩

/-- A group is enabled or disabled (R231, R234). -/
theorem group_acts {x j o g : Nat} {s : State} {c : Con} (there : s.evt.cons[x]? = some c) (free : c.busy = false) (small : g < 16)
    (which : x = 64 + g ∨ x = 80 + g) (calm : x = 64 + g → s.evt.groupOff.getD g none = none) : ∃ off, s.conArrive x j o = { s with
      evt := { s.evt with cons := (s.conArrive x j o).evt.cons, group := setAt (decide (x = 64 + g)) g s.evt.group, groupOff := off } } ∧
    (s.conArrive x j o).evt.cons[x]? = some (c.acted o false) := by
  have on : s.conOff x = false := by
    cases off : s.conOff x with
    | false => rfl
    | true => have bounds := conOff_bounds off; omega
  have live : s.deadPin x = false := by
    unfold State.deadPin
    rw [decide_eq_false (show ¬ x < 64 by omega), Bool.and_false, Bool.false_and]
  obtain ⟨off, begins⟩ := conBegins_group (ch := c.chanAt j) (o := o) small which calm
  have acts : s.conArrive x j o = _ := (conArrive_free there on live free).trans (if_pos (neverBusy_group (by omega)))
  rw [begins] at acts
  have ends := unbusy_at (s := { s with
    evt := { s.evt with
      cons := modAt (fun c => { c with origin := some o, rel := false }) x (modAt (fun c => { c with busy := true }) x s.evt.cons),
      group := setAt (decide (x = 64 + g)) g s.evt.group, groupOff := off } }) (begins_at there)
  rw [← acts] at ends
  refine ⟨off, ?_, ends⟩
  rw [acts]
  rfl

/-! ### The group's change before the occurrence -/

/-- The only occurrence on its way disables the group of a channel (R234). -/
theorem groupNow_disables {s : State} {g : Nat} {q : ConOcc} {c : Con} (small : g < 16) (is_off : q.x = 80 + g) (only : s.evt.conIn = [q])
    (there : s.evt.cons[q.x]? = some c) (free : c.busy = false) (first_ : c.arrAt = none) : ∃ off cons, s.groupNow g = { s with
      evt := { s.evt with conIn := [], cons := cons, group := setAt false g s.evt.group, groupOff := off } } := by
  have now : s.groupNow g = consumerArrive q.x q.sel q.origin 0 s := by
    rw [State.groupNow, only, List.filter_cons, if_pos (by simp [is_off])]
    rfl
  have left : removeFirst (fun p => decide (p = q)) s.evt.conIn = [] := by
    rw [only, removeFirst, if_pos (by simp)]
  have meets := consumerArrive_meets (j := q.sel) (o := q.origin) (k := 0) (by rw [only]; simp) there (by omega) (by omega)
    (fun a h => absurd (first_.symm.trans h) nofun) (by rw [show (⟨q.x, q.sel, q.origin⟩ : ConOcc) = q from rfl, left]; exact nofun)
  obtain ⟨off, acts, -⟩ := group_acts (j := q.sel) (o := q.origin) (atConsumer_at (j := q.sel) (o := q.origin) there) free small (.inr is_off)
    (fun on => absurd (is_off.symm.trans on) (by omega))
  rw [decide_eq_false (by omega)] at acts
  generalize ((s.atConsumer ⟨q.x, q.sel, q.origin⟩).conArrive q.x q.sel q.origin).evt.cons = cons at acts
  rw [now, meets, acts, ← left]
  exact ⟨off, cons, rfl⟩

theorem chanOpen_shut {s : State} {ch : Nat} (shut : s.evt.group[ch / 8]? = some false) : s.chanOpen ch = false := by
  unfold State.chanOpen
  rw [getD_of_some shut, Bool.and_false]

/-! ### Writes of a channel -/

/-- Who may write a channel: secure firmware, and the host that owns it and whose window is open (R229, R230). -/
def State.Writes (s : State) (c : Chan) (w : Writer) : Prop :=
  w = .firmware true ∨ ∃ h : Fin 4, w = .host h ∧ s.hostCan h.val = true ∧ c.owner = h.val

theorem writes_may {s : State} {ch : Nat} {c : Chan} {w : Writer} (there : s.evt.chans[ch]? = some c) (may : s.Writes c w) :
    s.writerUp w = true ∧ s.mayWriteChan w ch = true := by
  obtain rfl | ⟨h, rfl, up, own⟩ := may
  · exact ⟨rfl, Bool.or_true _⟩
  · refine ⟨up, ?_⟩
    unfold State.mayWriteChan
    rw [chan_of there]
    exact decide_eq_true own

theorem other_mayNot {s : State} {ch : Nat} {c : Chan} {h : Fin 4} (there : s.evt.chans[ch]? = some c) (other : c.owner ≠ h.val) :
    s.mayWriteChan (.host h) ch = false := by
  unfold State.mayWriteChan
  rw [chan_of there]
  exact decide_eq_false other

/-- Firmware writes. -/
def writerIsFirmware : Writer → Bool
  | .firmware _ => true
  | .host _ => false

/-- What a write of the configuration leaves of the channel, but for EN (R230, R242). -/
def chanCfg (fw : Bool) (srcOk : Bool) (n : Nat) (c : Chan) : Chan :=
  let src := bits n 19 12
  let vec := bits n 24 20
  { c with holdoff := bits n 11 0, src := if fw && srcOk then src else c.src,
           vector := if fw && decide (c.owner < 4) && (decide (vec = 0) || decide (8 ≤ vec)) then vec else c.vector }

/-- A write of the configuration: the fields, then EN (R230, R233). -/
theorem chanCfgWrite_writes {s : State} {ch : Nat} {c : Chan} {w : Writer} (there : s.evt.chans[ch]? = some c)
    (may : s.mayWriteChan w ch = true) (v : Word) : ∃ fw ok, (∀ h, w = .host h → fw = false) ∧
    s.chanCfgWrite w ch v =
      if v.getLsbD 31 then
        (if c.tripped then s.modChan ch (chanCfg fw ok v.toNat) else (s.modChan ch (chanCfg fw ok v.toNat)).modChan ch (fun c => { c with en := true }))
      else (s.modChan ch (chanCfg fw ok v.toNat)).chanOff ch := by
  refine ⟨writerIsFirmware w, sourceOk s.steward s.pinOwner c.owner c.sec (bits v.toNat 19 12), fun h eq => by rw [eq, writerIsFirmware], ?_⟩
  have tripped : s.chan ch = c := chan_of there
  unfold State.chanCfgWrite
  rw [if_neg (by rw [may]; decide), ← bit_toNat]
  dsimp only
  rw [tripped]
  cases w with
  | firmware secure => cases c.tripped <;> rfl
  | host h => cases c.tripped <;> rfl

/-! ### Pins -/

theorem modPin_at {s : State} {n : Nat} {g : Gpio} {f : Gpio → Gpio} (there : s.evt.gpio[n]? = some g) :
    (s.modPin n f).evt.gpio[n]? = some (f g) := getElem?_modAt_same there

/-- The level of an input that has held for 20 ns (R226). -/
theorem pinHeld_holds {s : State} {n : Nat} {g : Gpio} (there : s.evt.gpio[n]? = some g) (level : Bool) :
    s.pinHeld n level = { s with evt := (s.pinHeld n level).evt } ∧ (s.pinHeld n level).evt.gpio[n]? = some { g with lvl := level } ∧
    (s.pinHeld n level).evt.pinIn = s.evt.pinIn ∧
    (s.pinHeld n level).evt.chanIn = s.evt.chanIn ++ (if g.lvl ≠ level ∧ g.selects level = true then
      (s.evt.takers (0xD0 + n)).map (fun ch => ⟨ch, none⟩) else []) := by
  have here : s.evt.gpio.getD n {} = g := getD_of_some there {}
  unfold State.pinHeld
  dsimp only
  rw [here]
  by_cases same : g.lvl = level
  · rw [if_pos same, if_neg fun h => h.1 same, List.append_nil, ← same]
    exact ⟨rfl, there, rfl, rfl⟩
  · rw [if_neg same]
    cases sel : g.selects level with
    | false =>
      rw [if_neg Bool.false_ne_true, if_neg (by simp), List.append_nil]
      exact ⟨rfl, modPin_at there, rfl, rfl⟩
    | true =>
      rw [if_pos rfl, if_pos ⟨same, rfl⟩]
      exact ⟨rfl, modPin_at there, rfl, rfl⟩

/-- An edge on an input pin (R226, R227). -/
theorem gpioInEdge_edges {s : State} {n : Nat} {g : Gpio} (there : s.evt.gpio[n]? = some g) (input : g.out = false) {level : Bool}
    (changes : g.pad ≠ level) (ns : Nat) :
    (s.evt.applied = false → gpioInEdge n level ns s = s.modPin n (fun g => { g with pad := level })) ∧
    (s.evt.applied = true → ns < 10 → gpioInEdge n level ns s = (s.modPin n (fun g => { g with pad := level })).pinCapture n level) ∧
    (s.evt.applied = true → 20 ≤ ns → gpioInEdge n level ns s =
      ((s.modPin n (fun g => { g with pad := level })).pinCapture n level).pinHeld n level) := by
  have here : s.evt.gpio.getD n {} = g := getD_of_some there {}
  have edge : gpioInEdge n level ns s = _ := if_neg (by rw [here, input]; simpa using changes)
  dsimp only at edge
  refine ⟨fun blank => ?_, fun applied short => ?_, fun applied long => ?_⟩
  · exact edge.trans (if_pos blank)
  · exact edge.trans ((if_neg (fun off => absurd (applied.symm.trans off) (by decide))).trans (if_pos short))
  · exact edge.trans ((if_neg (fun off => absurd (applied.symm.trans off) (by decide))).trans ((if_neg (by omega)).trans (if_pos long)))

theorem pinCapture_stamps {s : State} {n i : Nat} {level : Bool} {u : Cap} (small : i < 8) (there : s.time.caps[i]? = some u)
    (src : u.src = n + 2) (edge : u.edgeIs level = true) : (i, s.stamp) ∈ (s.pinCapture n level).evt.pinIn := by
  refine List.mem_append_right _ (List.mem_map.2 ⟨i, List.mem_filter.2 ⟨List.mem_range.2 small, ?_⟩, rfl⟩)
  rw [capSrc_of there, getD_of_some there {}, src, edge]
  simp

/-! ### The obligation -/

/-- Settles O49: a channel's gate open or closed, a pin's edge held or not, and an arrival at a consumer free or busy. -/
theorem eventFabricActs : Obligations.EventFabricActs := by
  unfold Obligations.EventFabricActs
  refine ⟨fun s ch o c oc at_oc comes there calm none_ => ?_, fun s ch o c q k comes there sixteen is_off only at_q free fresh none_ => ?_,
    fun s ch c there => ⟨fun gate free w may => ?_, fun h v other => ?_, fun v w may => ?_, fun w may => ?_⟩,
    fun s p level ns g there input changes => ⟨fun blank => ?_, fun applied held => ?_⟩,
    fun s s1 p g x there pulse reached => ?_,
    fun s x j o c k comes there on live apart alone => ⟨fun is46 free => ?_, fun g low high free pin => ?_, fun g small sixteen calm which free => ?_,
      fun low res busy f2 => ?_, fun low res busy f2 empty => ?_⟩,
    fun s x j o c a comes there low res latest after_ within => ?_, fun s x j o e k comes low slot armed event fresh queued => ?_,
    fun s x c there busy => ⟨fun released none_ => ?_, fun is46 pend => ?_, fun held => ?_⟩⟩
  · subst at_oc
    have meets := channelAccept_meets comes calm none_
    refine ⟨fun closed => ?_, fun gate held => ?_, fun gate free other => ?_⟩
    · exact congrArg Host.Outcome.next (meets.trans (accept_closed (s := s.takeOcc _) closed _))
    · have held := meets.trans (accept_holdsOff (s := s.takeOcc _) there gate held _)
      exact ⟨_, congrArg Host.Outcome.next held, rfl, modChan_same (s := s.takeOcc _) there, rfl⟩
    · have other' : o.map Fin.val ≠ some ch.val := fun same => other (by
        obtain ⟨d, rfl, eq⟩ := Option.map_eq_some_iff.1 same
        exact congrArg some (Fin.ext eq))
      obtain ⟨frame, at_ch, cons, sel, caps, told, quiet, rest⟩ := fires (s := s.takeOcc ⟨ch.val, o.map Fin.val⟩) there gate free other'
      exact ⟨_, congrArg Host.Outcome.next meets, frame, at_ch, cons, sel, caps, told, quiet, rest⟩
  · have small : ch.val / 8 < 16 := by omega
    obtain ⟨off, cons, disables⟩ := groupNow_disables (s := s.takeOcc ⟨ch.val, o.map Fin.val⟩) small is_off only at_q free fresh
    have shut : (setAt false (ch.val / 8) s.evt.group)[ch.val / 8]? = some false :=
      getElem?_modAt_same (List.getElem?_eq_getElem (by omega))
    have accepts : channelAccept ch.val (o.map Fin.val) s = (s.takeOcc ⟨ch.val, o.map Fin.val⟩).groupNow (ch.val / 8) := by
      have now : (s.takeOcc ⟨ch.val, o.map Fin.val⟩).groupFirst (ch.val / 8) = (s.takeOcc ⟨ch.val, o.map Fin.val⟩).groupNow (ch.val / 8) := by
        rw [State.groupFirst, none_, List.foldl_nil]
      unfold channelAccept
      rw [if_pos comes, now]
      refine accept_closed (chanOpen_shut ?_) _
      rw [disables]
      exact shut
    rw [disables] at accepts
    exact ⟨_, congrArg Host.Outcome.next accepts, rfl, shut, there, rfl⟩
  · obtain ⟨up, write⟩ := writes_may there may
    have fire : execSoftwareFire w ch s = .next (s.accept ch.val none) := congrArg Host.Outcome.next ((if_pos up).trans (if_pos write))
    obtain ⟨frame, at_ch, -⟩ := fires (o := none) there gate free nofun
    exact ⟨_, fire, frame, at_ch⟩
  · have no := other_mayNot there other
    refine ⟨congrArg Host.Outcome.next ?_, congrArg Host.Outcome.next ?_, congrArg Host.Outcome.next ?_⟩
    all_goals by_cases up : s.writerUp (.host h) = true
    · exact (if_pos up).trans (if_neg (by rw [no]; decide))
    · exact if_neg up
    · exact (if_pos up).trans (if_pos no)
    · exact if_neg up
    · exact (if_pos up).trans (if_neg (by rw [no]; decide))
    · exact if_neg up
  · obtain ⟨up, write⟩ := writes_may there may
    obtain ⟨fw, ok, host, writes⟩ := chanCfgWrite_writes there write v
    have runs : execEvtChCfgWrite w ch v s = .next (s.chanCfgWrite w ch.val v) := congrArg Host.Outcome.next (if_pos up)
    rw [writes] at runs
    have keeps : w ≠ .firmware true → (chanCfg fw ok v.toNat c).src = c.src ∧ (chanCfg fw ok v.toNat c).vector = c.vector := fun not_fw => by
      obtain rfl | ⟨h, rfl, -⟩ := may
      · exact absurd rfl not_fw
      · rw [host h rfl]
        exact ⟨rfl, rfl⟩
    have cfg := modChan_same (f := chanCfg fw ok v.toNat) there
    have twelve : bits v.toNat 11 0 = v.toNat % 4096 := by simp [bits]
    cases set : v.getLsbD 31 with
    | false =>
      rw [set, if_neg Bool.false_ne_true] at runs
      exact ⟨_, _, runs, rfl, modChan_same (s := s.modChan ch.val _) cfg, twelve, rfl, rfl, rfl, keeps, nofun, fun _ => ⟨rfl, rfl⟩,
        fun d other => (modChan_other _ other).trans (modChan_other _ other)⟩
    | true =>
      rw [set, if_pos rfl] at runs
      cases trip : c.tripped with
      | true =>
        rw [trip, if_pos rfl] at runs
        exact ⟨_, _, runs, rfl, cfg, twelve, trip, rfl, rfl, keeps, fun _ => ⟨(Bool.or_false _).symm, rfl⟩, nofun,
          fun d other => modChan_other _ other⟩
      | false =>
        rw [trip, if_neg Bool.false_ne_true] at runs
        exact ⟨_, _, runs, rfl, modChan_same cfg, twelve, trip, rfl, rfl, keeps, fun _ => ⟨(Bool.or_true _).symm, rfl⟩, nofun,
          fun d other => (modChan_other _ other).trans (modChan_other _ other)⟩
  · obtain ⟨up, write⟩ := writes_may there may
    have clears : execTrippedClear w ch s = _ := congrArg Host.Outcome.next ((if_pos up).trans (if_pos write))
    exact ⟨_, clears, rfl, modChan_same there, fun d other => modChan_other _ other⟩
  · have edge := (gpioInEdge_edges there input changes ns).1 blank
    exact ⟨_, congrArg Host.Outcome.next edge, rfl, modPin_at there⟩
  · obtain ⟨-, brief, held20⟩ := gpioInEdge_edges there input changes ns
    have padded := modPin_at (f := fun g => { g with pad := level }) there
    obtain short | long := held
    · refine ⟨_, congrArg Host.Outcome.next (brief applied short), rfl, ?_, fun i u small at_i src edge => pinCapture_stamps small at_i src edge, ?_⟩
      · rw [if_neg (by omega)]
        exact padded
      · rw [if_neg (by omega), List.append_nil]
        rfl
    · obtain ⟨frame, pin, pinIn, chanIn⟩ := pinHeld_holds (s := (s.modPin p.val (fun g => { g with pad := level })).pinCapture p.val level)
        padded level
      refine ⟨_, congrArg Host.Outcome.next (held20 applied long), frame, ?_, fun i u small at_i src edge => ?_, ?_⟩
      · rw [if_pos long]
        exact pin
      · rw [pinIn]
        exact pinCapture_stamps (s := s.modPin p.val _) small at_i src edge
      · rw [chanIn]
        simp only [long, true_and]
        rfl
  · obtain ⟨ti, rc, ci, ticked⟩ := reach_ticked reached
    have here : s.evt.gpio.getD p.val {} = g := getD_of_some there {}
    have ends : gpioPulseEnd p.val s = s1.modPin p.val (fun g => { g with lvl := g.rest, pulseEnd := none }) := by
      unfold gpioPulseEnd
      rw [here, pulse]
      dsimp only
      rw [reached]
    refine ⟨_, congrArg Host.Outcome.next ends, rfl, modPin_at ?_, rfl⟩
    rw [ticked]
    exact there
  · show ∃ t, Host.Outcome.next (consumerArrive x.val j.val o.val k s) = .next t ∧ _
    generalize x.val = n at *
    subst is46
    have meets := consumerArrive_meets (k := k) comes there (by decide) (by decide) apart alone
    obtain ⟨frame, acted⟩ := ppsGate_acts (j := j.val) (o := o.val) (atConsumer_at there) on live free
    rw [acted_free (by exact free)] at acted
    refine ⟨_, congrArg Host.Outcome.next meets, ?_, ?_, acted⟩
    · conv_lhs => rw [frame]
      conv_rhs => rw [frame]
      rfl
    · rw [frame]
      rfl
  · have meets := consumerArrive_meets (k := k) comes there (by omega) (by omega) apart alone
    obtain ⟨frame, acted, pin'⟩ := pin_acts (j := j.val) (o := o.val) (s := s.atConsumer _) (atConsumer_at there) on live free low high pin
    refine ⟨_, congrArg Host.Outcome.next meets, frame, acted, fun act => ?_, fun act => ?_, fun act => ?_, fun act => ?_⟩
    all_goals rw [pin', act]; rfl
  · have meets := consumerArrive_meets (k := k) comes there (by omega) (by omega) apart alone
    obtain ⟨off, frame, acted⟩ := group_acts (j := j.val) (o := o.val) (s := s.atConsumer _) (atConsumer_at there) free small which (fun _ => calm)
    rw [acted_free (by exact free)] at acted
    refine ⟨_, congrArg Host.Outcome.next meets, ?_, ?_, fun i other => ?_, acted⟩
    · conv_lhs => rw [frame]
      conv_rhs => rw [frame]
      rfl
    · have len : g < s.evt.group.length := by omega
      rw [frame]
      exact getElem?_modAt_same (List.getElem?_eq_getElem (l := s.evt.group) len)
    · rw [frame]
      exact getElem?_modAt_other other
  · have meets := consumerArrive_meets (k := k) comes there low res apart alone
    rw [conArrive_busy (atConsumer_at there) on live busy] at meets
    refine ⟨_, congrArg Host.Outcome.next meets, rfl, (modCon_at (atConsumer_at there)).trans ?_⟩
    rw [Con.hold, if_pos (by exact f2)]
    rfl
  · have meets := consumerArrive_meets (k := k) comes there low res apart alone
    rw [conArrive_busy (atConsumer_at there) on live busy] at meets
    refine ⟨_, congrArg Host.Outcome.next meets, rfl, (modCon_at (atConsumer_at there)).trans ?_⟩
    rw [Con.hold, if_neg (by rw [f2]; decide), if_pos (by exact empty)]
  · have same : (s.takeConOcc ⟨x.val, j.val, o.val⟩).sameArrival x.val = (true, s.takeConOcc ⟨x.val, j.val, o.val⟩) := by
      unfold State.sameArrival
      rw [con_of (s := s.takeConOcc _) there, latest]
      dsimp only
      have early : ¬((s.takeConOcc ⟨x.val, j.val, o.val⟩).now < a ∨ a + 8 < (s.takeConOcc ⟨x.val, j.val, o.val⟩).now) := by
        show ¬(s.now < a ∨ a + 8 < s.now)
        omega
      rw [if_neg early, if_pos (by exact within)]
    have merges : consumerArrive x.val j.val o.val 0 s =
        (s.takeConOcc ⟨x.val, j.val, o.val⟩).modCon x.val (fun c => { c with merge := sat8 c.merge }) := by
      rw [consumerArrive_ordinary comes (by omega) res]
      unfold State.newArrival
      rw [same]
      rfl
    exact ⟨_, congrArg Host.Outcome.next merges, rfl, modCon_at (s := s.takeConOcc _) there, fun y other => modCon_away _ other⟩
  · have slot' : ((s.takeConOcc ⟨x.val, j.val, o.val⟩).fab.slots.getD x.val {}).ep = some e := by
      obtain ⟨q, at_x, ep⟩ := slotEp_iff.1 slot
      rw [show (s.takeConOcc ⟨x.val, j.val, o.val⟩).fab.slots.getD x.val {} = q from getD_of_some at_x {}, ep]
    have goes : consumerArrive x.val j.val o.val k s =
        (s.takeConOcc ⟨x.val, j.val, o.val⟩).modEp e.ext (fun e => { e with goAt := some (s.takeConOcc ⟨x.val, j.val, o.val⟩).tai }) := by
      have runs : consumerArrive x.val j.val o.val k s = (s.takeConOcc ⟨x.val, j.val, o.val⟩).planGo x.val := (if_pos comes).trans (if_pos low)
      rw [runs, State.planGo, slot']
      exact (if_pos ⟨armed, event, by rw [fresh]; rfl⟩).trans (if_neg (by rw [queued]; decide))
    exact ⟨_, _, congrArg Host.Outcome.next goes, rfl, modEp_slotEp_own (s := s.takeConOcc ⟨x.val, j.val, o.val⟩) slot _, rfl, rfl⟩
  · have idle : consumerIdle x.val s = s.modCon x.val (fun c => { c with busy := false }) := by
      unfold consumerIdle
      dsimp only
      rw [con_of there, if_neg (by simp [busy, released]), if_neg (by rw [none_]; decide)]
    exact ⟨_, congrArg Host.Outcome.next idle, rfl, modCon_at there, fun y other => modCon_away _ other⟩
  · show ∃ t, Host.Outcome.next (consumerIdle x.val s) = .next t ∧ _
    generalize x.val = n at *
    subst is46
    have released : s.released 46 = true := rfl
    have acts : consumerIdle 46 s = _ :=
      (if_neg (by rw [con_of there, busy, released]; decide)).trans (if_pos (by rw [con_of there, pend]))
    refine ⟨_, congrArg Host.Outcome.next acts, rfl, rfl, ?_⟩
    rw [con_of there]
    exact modCon_at (s := s.modCon 46 _) (modCon_at there)
  · refine congrArg Host.Outcome.next (if_pos (.inr held))

end Sys2Proof.Machine

/-! PROOFS. The braid serves pieces, atomic operations and master resets (O53). -/

namespace Sys2Proof.Machine

/-! ### A piece that is granted -/

/-- A chosen piece leaves its queue, and what its target granted before is complete (R245, R253). -/
def State.taken (t : Nat) (w : Waiting) (s : State) : State :=
  State.settled t { s with braid := { s.braid with waiting := modAt (removeFirst (fun q => decide (q = w))) t s.braid.waiting } }

theorem taken_frame (t : Nat) (w : Waiting) (s : State) : s.taken t w = { s with
    braid := { s.braid with waiting := (s.taken t w).braid.waiting, granted := (s.taken t w).braid.granted } } := rfl

theorem taken_waiting (t : Nat) (w : Waiting) (s : State) : (s.taken t w).braid.waiting[t]? =
    (s.braid.waiting[t]?).map (removeFirst (fun q => decide (q = w))) := by
  show (modAt _ t s.braid.waiting)[t]? = _
  rw [getElem?_modAt, if_pos rfl]

/-- Whether a target answers is no matter of what waits or was granted. -/
theorem taken_noTarget (t : Nat) (w : Waiting) (s : State) (m a : Nat) : (s.taken t w).noTarget m a = s.noTarget m a := by
  unfold State.noTarget
  rfl

theorem taken_writeRsp (t : Nat) (w : Waiting) (s : State) (m : Nat) (sec : Bool) (a len : Nat) :
    (s.taken t w).writeRsp m sec a len = s.writeRsp m sec a len := by
  have may : (s.taken t w).mayWrite m sec a len = s.mayWrite m sec a len := by
    unfold State.mayWrite
    rfl
  rw [State.writeRsp, State.writeRsp, taken_noTarget, may]

theorem taken_readRsp (t : Nat) (w : Waiting) (s : State) (m : Nat) (sec : Bool) (a len : Nat) :
    (s.taken t w).readRsp m sec a len = s.readRsp m sec a len := by
  have may : (s.taken t w).mayRead m sec a len = s.mayRead m sec a len := by
    unfold State.mayRead
    rfl
  rw [State.readRsp, State.readRsp, taken_noTarget, may]

/-- What is answered OK does not count toward a channel's failure, nor what is not M6's (R350). -/
theorem recJudge_other {m t a resp : Nat} {data : List Byte} {s : State} (fine : m ≠ 6 ∨ resp = rspOk) :
    (s.answered m a resp data).recJudge m t = s.answered m a resp data := by
  unfold State.recJudge
  refine if_neg fun h => ?_
  obtain other | ok := fine
  · exact other h.1
  · exact h.2.2 ok

theorem grant_writes {s : State} {t : Nat} {w : Waiting} {bs : List Byte} (op : w.req.op = .write bs)
    (ok : s.writeRsp w.req.master.val w.req.sec w.req.addr bs.length = rspOk) (mem : isMemory w.req.addr = true) : s.grant t false w =
      State.answered w.req.master.val w.req.addr rspOk [] { s.taken t w with
        mem := Mem.writeN s.mem w.req.addr bs,
        braid := { (s.taken t w).braid with
          granted := setAt (some { addr := w.req.addr, old := Mem.readN s.mem bs.length w.req.addr }) w.req.master.val (s.taken t w).braid.granted } } := by
  have piece := writePiece_memory (s := s.taken t w) ((taken_writeRsp t w s _ _ _ _).trans ok) mem
  have beats : (s.taken t w).writeBeats w.req.master.val w.req.sec w.req.addr bs = (rspOk, { s.taken t w with
      mem := Mem.writeN s.mem w.req.addr bs,
      braid := { (s.taken t w).braid with
        granted := setAt (some { addr := w.req.addr, old := Mem.readN s.mem bs.length w.req.addr }) w.req.master.val (s.taken t w).braid.granted } }) := by
    unfold State.writeBeats
    dsimp only
    rw [piece, if_pos ⟨rfl, mem⟩]
    rfl
  unfold State.grant
  dsimp only
  rw [op]
  dsimp only
  rw [if_neg (by simp)]
  change (((s.taken t w).writeBeats w.req.master.val w.req.sec w.req.addr bs).2.answered _ _
    ((s.taken t w).writeBeats w.req.master.val w.req.sec w.req.addr bs).1 []).recJudge _ t = _
  rw [beats, recJudge_other (.inr rfl)]

theorem grant_reads {s : State} {t len : Nat} {w : Waiting} (op : w.req.op = .read len)
    (ok : s.readRsp w.req.master.val w.req.sec w.req.addr len = rspOk) (mem : isMemory w.req.addr = true) : s.grant t false w =
      (s.taken t w).answered w.req.master.val w.req.addr rspOk (Mem.readN s.mem len w.req.addr) := by
  have piece := readPiece_memory (s := s.taken t w) ((taken_readRsp t w s _ _ _ _).trans ok) mem
  unfold State.grant
  dsimp only
  rw [op]
  dsimp only
  rw [if_neg (by simp)]
  change ((((s.taken t w).readPiece w.req.master.val w.req.sec w.req.addr len).2.2).answered _ _
    ((s.taken t w).readPiece w.req.master.val w.req.sec w.req.addr len).1
    ((s.taken t w).readPiece w.req.master.val w.req.sec w.req.addr len).2.1).recJudge _ t = _
  rw [piece, recJudge_other (.inr rfl)]
  rfl

/-- An uncorrectable error: nothing is read, and the piece is answered TGTERR (R248). -/
theorem grant_loses {s : State} {t len : Nat} {w : Waiting} (op : w.req.op = .read len)
    (ok : s.readRsp w.req.master.val w.req.sec w.req.addr len = rspOk) (mem : isMemory w.req.addr = true) (other : w.req.master.val ≠ 6) :
    s.grant t true w = ((s.taken t w).refused w.req.master.val w.req.sec w.req.addr false rspTgterr).answered w.req.master.val w.req.addr rspTgterr
      (noRead w.req.master.val rspTgterr len) := by
  unfold State.grant
  dsimp only
  rw [op]
  dsimp only
  refine (if_pos ⟨by rw [mem]; rfl, (taken_readRsp t w s _ _ _ _).trans ok⟩).trans ?_
  exact recJudge_other (.inl other)

theorem noRead_tgterr (m len : Nat) : noRead m rspTgterr len = if 9 ≤ m ∧ m ≤ 12 then List.replicate len 0 else [] := by
  unfold noRead hostOf
  by_cases host : 9 ≤ m ∧ m ≤ 12
  · rw [if_pos host, if_pos host, if_pos (.inr rfl)]
  · rw [if_neg host, if_neg host, if_neg (by decide)]

/-- What records a refused piece takes nothing from the queues (R251). -/
theorem refused_waiting (m : Nat) (sec : Bool) (a : Nat) (w : Bool) (r : Nat) (s : State) :
    (s.refused m sec a w r).braid.waiting = s.braid.waiting ∧ (s.refused m sec a w r).braid.closed = s.braid.closed := by
  unfold State.refused
  split
  · unfold Braid.log
    dsimp only
    split <;> exact ⟨rfl, rfl⟩
  · split <;> exact ⟨rfl, rfl⟩

theorem refused_firmware {m : Nat} (fw : hostOf m = none) (sec : Bool) (a : Nat) (w : Bool) (r : Nat) (s : State) :
    s.refused m sec a w r = { s with braid := (s.refused m sec a w r).braid } := by
  unfold State.refused
  rw [fw]

theorem pieceGrant_none (t : Nat) (ecc : Bool) {s : State} (none_ : s.nextGrant t = none) : pieceGrant t [] ecc s = s := by
  unfold pieceGrant
  simp only [List.flatMap_nil, List.foldl_nil, none_]

theorem pieceGrant_some {t : Nat} {ecc : Bool} {s : State} {w : Waiting} (next : s.nextGrant t = some w) (on : s.power.braid = .on) :
    pieceGrant t [] ecc s = s.grant t ecc w := by
  unfold pieceGrant
  simp only [List.flatMap_nil, List.foldl_nil, next]
  exact if_pos on

/-- A request of one piece that finds its port empty waits there alone (R245). -/
theorem pieceGrant_arrival {t : Nat} {r : BraidReq} {ecc : Bool} {s : State} (one : splitReq r = [r]) (target : targetOf r.addr = t) (small : t < 11)
    (opened : s.braidOpen r.master.val = true) (empty : s.braid.waiting.getD t [] = []) : pieceGrant t [r] ecc s =
      pieceGrant t [] ecc { s with braid := { s.braid with waiting := setAt [{ req := r, since := s.now }] t s.braid.waiting } } := by
  have arrives : s.arrive r = { s with braid := { s.braid with waiting := setAt [{ req := r, since := s.now }] t s.braid.waiting } } := by
    unfold State.arrive
    dsimp only
    rw [target, if_neg (by rw [opened]; decide), if_neg (by omega), empty]
    rfl
  have split_ : ([r].flatMap splitReq).foldl (fun s r => s.arrive r) s = s.arrive r := by
    rw [List.flatMap_cons, one]
    rfl
  unfold pieceGrant
  rw [split_, arrives]
  rfl

/-! ### Atomic operations -/

theorem atomicOp_ok {m a size x c : Nat} {kind : AtomicKind} {ecc : Bool} {s s1 : State} (five : m < 5) (opened : s.braidOpen m = true)
    (turn : s1 = s.access m 0 a) (ok : s1.atomicRsp m a size ecc = rspOk) : atomicOp m a size kind x c ecc s =
      ({ s1 with
        mem := Mem.writeN s1.mem a (leBytes size (atomicNew size kind (Mem.readLe s1.mem size a) (x % 2 ^ (8 * size)) (c % 2 ^ (8 * size)))) }
        : State).answered m a rspOk (leBytes size (Mem.readLe s1.mem size a)) := by
  unfold atomicOp
  rw [if_neg (by rw [opened]; simp; omega), ← turn]
  exact if_neg (fun bad => bad ok)

theorem atomicOp_bad {m a size x c : Nat} {kind : AtomicKind} {ecc : Bool} {s s1 : State} (five : m < 5) (opened : s.braidOpen m = true)
    (turn : s1 = s.access m 0 a) (bad : s1.atomicRsp m a size ecc ≠ rspOk) : atomicOp m a size kind x c ecc s =
      (s1.refused m true a true (s1.atomicRsp m a size ecc)).answered m a (s1.atomicRsp m a size ecc) [] := by
  unfold atomicOp
  rw [if_neg (by rw [opened]; simp; omega), ← turn]
  exact if_pos bad

/-! ### A master reset -/

/-- A piece cut short is none under way. -/
theorem cutPiece_none (m beats : Nat) (s : State) : (s.cutPiece m beats).braid.granted.getD m none = none := by
  unfold State.cutPiece
  cases g : s.braid.granted.getD m none with
  | none => exact g
  | some q =>
    have there : m < s.braid.granted.length := by
      by_contra out
      rw [List.getD_eq_default _ _ (Nat.le_of_not_lt out)] at g
      exact absurd g nofun
    exact getD_setAt there none none

theorem cutPiece_frame (m beats : Nat) (s : State) : s.cutPiece m beats = { s with
    mem := (s.cutPiece m beats).mem, braid := { s.braid with granted := (s.cutPiece m beats).braid.granted } } := by
  unfold State.cutPiece
  split <;> rfl

/-- A reset: the port closes, and what waited of the master goes (R253, R362). -/
theorem masterReset_resets (m beats : Nat) (s : State) : masterReset m beats s = { s with
    mem := (s.cutPiece m beats).mem,
    braid := { s.braid with
      granted := (s.cutPiece m beats).braid.granted, closed := setAt true m s.braid.closed,
      waiting := s.braid.waiting.map (fun l => l.filter (fun w => decide (w.req.master.val ≠ m))) },
    shadows := s.shadows.filter (fun h => decide (h.master ≠ m)) } := by
  have whole : (s.cutPiece m beats).cutFree m = s.cutPiece m beats := by rw [State.cutFree, cutPiece_none]
  unfold masterReset State.dropMaster
  rw [whole, cutPiece_frame]

theorem setAt_map {α : Type} (a : α) (i : Nat) (l : List α) : (setAt a i l)[i]? = (l[i]?).map (fun _ => a) := by
  rw [setAt, getElem?_modAt, if_pos rfl]

/-! ### The obligation -/

/-- Settles O53: a granted piece in memory, an atomic operation and a reset, each by what it leaves of memory and of the braid. -/
theorem braidServesPieces : Obligations.BraidServesPieces := by
  unfold Obligations.BraidServesPieces
  refine ⟨fun s k w form next on => ⟨fun bs op ok mem => ?_, fun len op ok mem => ⟨?_, fun other => ?_⟩⟩,
    fun s k ecc none_ => congrArg Host.Outcome.next (pieceGrant_none k.val ecc none_),
    fun s k r ecc one target opened empty => congrArg Host.Outcome.next (pieceGrant_arrival one target k.isLt opened empty),
    fun s s1 m a size kind x c ecc five opened turn form => ⟨fun ok => ?_, fun bad => ?_⟩, fun s m beats => ?_,
    fun s on => congrArg Host.Outcome.next (if_pos on)⟩
  · have grants := (pieceGrant_some (ecc := false) next on).trans (grant_writes op ok mem)
    refine ⟨_, congrArg Host.Outcome.next grants, rfl, readN_writeN form.1 _ _, fun b out => read_writeN_other out, rfl, ?_,
      taken_waiting k.val w s⟩
    refine (setAt_map _ _ _).trans ?_
    show Option.map _ ((s.braid.granted.map _)[w.req.master.val]?) = _
    rw [List.getElem?_map, Option.map_map]
    rfl
  · have grants := (pieceGrant_some (ecc := false) next on).trans (grant_reads op ok mem)
    exact ⟨_, congrArg Host.Outcome.next grants, rfl, rfl⟩
  · have grants := (pieceGrant_some (ecc := true) next on).trans (grant_loses op ok mem other)
    refine ⟨_, congrArg Host.Outcome.next grants, ?_, ?_, ?_⟩
    · rw [refused_frame]
      rfl
    · rw [← noRead_tgterr]
      rfl
    · exact (congrArg (fun l : List (List Waiting) => l[k.val]?) (refused_waiting _ _ _ _ _ _).1).trans (taken_waiting k.val w s)
  · have runs := atomicOp_ok (kind := kind) (x := x) (c := c) five opened turn ok
    refine ⟨_, congrArg Host.Outcome.next runs, rfl, ?_, fun b out => ?_, rfl⟩
    · have reads := readN_writeN form.1 a (leBytes size (atomicNew size kind (Mem.readLe s1.mem size a) (x % 2 ^ (8 * size)) (c % 2 ^ (8 * size))))
      rwa [length_leBytes] at reads
    · exact read_writeN_other (by rw [length_leBytes]; exact out)
  · have runs := atomicOp_bad (kind := kind) (x := x) (c := c) five opened turn bad
    have fw : hostOf m.val = none := if_neg (by omega)
    refine ⟨_, congrArg Host.Outcome.next runs, ?_, rfl⟩
    rw [refused_firmware fw]
    rfl
  · have resets := masterReset_resets m.val beats s
    refine ⟨_, congrArg Host.Outcome.next resets, rfl, setAt_map _ _ _, fun l mem w there => ?_, fun w mem => of_decide_eq_true (List.mem_filter.1 mem).2,
      fun idle => ?_, fun g granted => ⟨fun form i low high => ?_, fun b out => ?_⟩, ⟨_, rfl, rfl, ?_, rfl⟩⟩
    · obtain ⟨q, -, rfl⟩ := List.mem_map.1 mem
      exact fun same => of_decide_eq_true (List.mem_filter.1 there).2 (congrArg Fin.val same)
    · show (s.cutPiece m.val beats).mem = s.mem
      rw [State.cutPiece, idle]
    · have len : i - 32 * beats < (g.old.drop (32 * beats)).length := by
        rw [List.length_drop]
        omega
      have beat := read_writeN_same (a := g.addr + 32 * beats) form.1 len
      rw [Nat.add_assoc, Nat.add_sub_cancel' low, List.getElem_drop] at beat
      show Mem.read (s.cutPiece m.val beats).mem _ = _
      rw [State.cutPiece, granted, List.getD_eq_getElem _ _ high]
      refine beat.trans ?_
      simp only [Nat.add_sub_cancel' low]
    · show Mem.read (s.cutPiece m.val beats).mem _ = _
      rw [State.cutPiece, granted]
      refine read_writeN_other ?_
      rw [List.length_drop]
      omega
    · refine (setAt_map _ _ _).trans ?_
      show Option.map _ ((setAt true m.val s.braid.closed)[m.val]?) = _
      rw [setAt_map, Option.map_map]
      rfl

end Sys2Proof.Machine

/-! PROOFS. Register and window accesses reach what they may (O52). -/

namespace Sys2Proof.Machine

/-! ### Addresses -/

theorem isMemory_lt {a : Nat} (mem : isMemory a = true) : a < 0x2002000000 := by
  by_contra high
  have big : 6 ≤ targetOf a := by
    unfold targetOf
    rw [if_neg (by omega), if_neg (by omega), if_neg (by omega)]
    split
    · exact Nat.le_refl _
    · split
      · split <;> decide
      · decide
  exact absurd (of_decide_eq_true mem) (Nat.not_lt.mpr big)

theorem isMemory_notMbx {a : Nat} (mem : isMemory a = true) (h : Nat) : inMbx h a = false := by
  have low := isMemory_lt mem
  unfold inMbx blockBase
  rw [decide_eq_false (by omega), Bool.false_and]

/-- No word of memory holds a RWS field (R336, R337). -/
theorem isMemory_noRws {a : Nat} (mem : isMemory a = true) : (wordsIn a 4).all holdsRws = false := by
  have low := isMemory_lt mem
  have head : a / 4 * 4 ∈ wordsIn a 4 := List.mem_map.2 ⟨0, List.mem_range.2 (by omega), rfl⟩
  refine List.all_eq_false.2 ⟨_, head, ?_⟩
  unfold holdsRws blockBase
  rw [decide_eq_false (by omega), decide_eq_false (by omega)]
  decide

theorem mem_allPairs (p : Pair) : p ∈ allPairs := by
  unfold allPairs
  cases p <;> simp [List.mem_finRange]

/-- The pairs are told apart by their low words (R363). -/
theorem find_pairLow (p : Pair) : allPairs.find? (fun q => pairLow q = pairLow p) = some p := by
  have all : ∀ p ∈ allPairs, allPairs.find? (fun q => pairLow q = pairLow p) = some p := by decide +kernel
  exact all p (mem_allPairs p)

theorem pairLow_notMemory (p : Pair) : isMemory (pairLow p) = false := by
  have all : ∀ p ∈ allPairs, isMemory (pairLow p) = false := by decide +kernel
  exact all p (mem_allPairs p)

/-! ### An access -/

/-- With no piece waiting at its target an access only completes what the target granted before (R245, R253). -/
theorem access_empty {m q a : Nat} {s : State} (empty : s.braid.waiting.getD (targetOf a) [] = []) :
    s.access m q a = s.settled (targetOf a) := by
  unfold State.access
  dsimp only
  rw [empty]
  rfl

/-- The bytes of a number give it back, but for what does not fit them. -/
theorem leNat_leBytes : ∀ (k n : Nat), leNat (leBytes k n) = n % 256 ^ k
  | 0, n => by rw [Nat.pow_zero, Nat.mod_one]; rfl
  | k + 1, n => by
    rw [leBytes, leNat, leNat_leBytes k, BitVec.toNat_ofNat, show 256 ^ (k + 1) = 256 * 256 ^ k from Nat.pow_succ', Nat.mod_mul]

theorem writeWords_one (m : Nat) (sec : Bool) (a : Nat) (v : Word) (s : State) :
    s.writeWords m sec 1 a (leBytes 4 v.toNat) = s.regWrite m sec a v := by
  have word : BitVec.ofNat 32 (leNat (leBytes 4 v.toNat)) = v := by
    rw [leNat_leBytes, Nat.mod_eq_of_lt (show v.toNat < 256 ^ 4 from v.isLt), BitVec.ofNat_toNat, BitVec.setWidth_eq]
  show s.regWrite m sec a (BitVec.ofNat 32 (leNat ((leBytes 4 v.toNat).take 4))) = _
  rw [List.take_of_length_le (by rw [length_leBytes]), word]

theorem registerWrite_up {m a : Nat} {v : Word} {s : State} (up : s.masterUp m = true) :
    registerWrite m a v s = ((s.access m 0 a).writePiece m false a (leBytes 4 v.toNat)).2 := if_pos up

/-! ### The low word of a pair -/

/-- A read of a pair's low word latches its high word (R362). -/
theorem readReg_latches {m : Nat} {p : Pair} {s : State} (on : s.pairOn p = true) :
    s.readReg m (pairLow p) = (s.regRead m (pairLow p), (s.latchPair m p).clearFull m p) := by
  unfold State.readReg
  dsimp only
  rw [find_pairLow]
  exact if_pos on

theorem latched_parts (m : Nat) (p : Pair) (s : State) :
    ⟨m, p, BitVec.ofNat 32 (s.regRead m (pairLow p + 4))⟩ ∈ ((s.latchPair m p).clearFull m p).shadows ∧
    ((s.latchPair m p).clearFull m p).mem = s.mem ∧ ((s.latchPair m p).clearFull m p).clusters = s.clusters := by
  have clear : ∀ u : State, (u.clearFull m p).shadows = u.shadows ∧ (u.clearFull m p).mem = u.mem ∧ (u.clearFull m p).clusters = u.clusters := by
    intro u
    unfold State.clearFull
    split
    case h_1 => split <;> exact ⟨rfl, rfl, rfl⟩
    all_goals exact ⟨rfl, rfl, rfl⟩
  have latch : ⟨m, p, BitVec.ofNat 32 (s.regRead m (pairLow p + 4))⟩ ∈ (s.latchPair m p).shadows ∧ (s.latchPair m p).mem = s.mem ∧
      (s.latchPair m p).clusters = s.clusters := by
    have held := List.mem_append_right (s.shadows.filter (fun q => !(q.master = m && q.pair = p)))
      (List.mem_singleton.2 (rfl : (⟨m, p, BitVec.ofNat 32 (s.regRead m (pairLow p + 4))⟩ : Shadow) = _))
    unfold State.latchPair
    cases p <;> exact ⟨held, rfl, rfl⟩
  obtain ⟨c_shadow, c_mem, c_clu⟩ := clear (s.latchPair m p)
  rw [c_shadow, c_mem, c_clu]
  exact latch

theorem pairLowRead_up {m : Nat} {p : Pair} {s : State} (up : s.masterUp m = true) : pairLowRead m p s =
    ((s.access m 0 (pairLow p)).readPiece m false (pairLow p) 4).2.2.answered m (pairLow p)
      ((s.access m 0 (pairLow p)).readPiece m false (pairLow p) 4).1 ((s.access m 0 (pairLow p)).readPiece m false (pairLow p) 4).2.1 := if_pos up

/-- A read of one register that is answered OK (R251, R252). -/
theorem readPiece_register {m a : Nat} {sec : Bool} {s : State} (ok : s.readRsp m sec a 4 = rspOk) (reg : isMemory a = false) :
    s.readPiece m sec a 4 = (rspOk, leBytes 4 (s.readReg m a).1, (s.readReg m a).2) := by
  unfold State.readPiece
  dsimp only
  rw [ok, if_neg (fun h => h rfl), reg, if_neg Bool.false_ne_true]
  show (rspOk, leBytes 4 (s.readReg m a).1 ++ [], (s.readReg m a).2) = _
  rw [List.append_nil]

theorem writePiece_register {m a : Nat} {v : Word} {sec : Bool} {s : State} (ok : s.writeRsp m sec a 4 = rspOk) (reg : isMemory a = false) :
    (s.writePiece m sec a (leBytes 4 v.toNat)).2 = s.regWrite m (secOf m sec) a v := by
  unfold State.writePiece
  dsimp only
  rw [length_leBytes, ok, if_neg (fun h => h rfl), reg, if_neg Bool.false_ne_true]
  exact writeWords_one m _ a v s

theorem noRead_four (m r : Nat) : noRead m r 4 = if r = 1 ∨ (9 ≤ m ∧ m ≤ 12) then [0, 0, 0, 0] else [] := by
  unfold noRead hostOf rspDeny
  by_cases host : 9 ≤ m ∧ m ≤ 12
  · rw [if_pos host, if_pos (.inr rfl), if_pos (.inr host)]
    rfl
  · rw [if_neg host]
    by_cases deny : r = 1
    · rw [if_pos (.inl deny), if_pos (.inl deny)]
      rfl
    · rw [if_neg (by simp [deny]), if_neg (by simp [deny, host])]

/-! ### BAR4 -/

theorem hostOf_port {p : Nat} (small : p < 4) : hostOf (9 + p) = some p := by
  rw [hostOf, if_pos (by omega), Nat.add_sub_cancel_left]

/-- The steward's write of memory through BAR4 is denied (R213, R251). -/
theorem writeRsp_steward {p a : Nat} {s : State} (small : p < 4) (answers : s.noTarget (9 + p) a = false) (mem : isMemory a = true) :
    s.writeRsp (9 + p) false a 4 = rspDeny := by
  have no : s.mayWrite (9 + p) false a 4 = false := by
    unfold State.mayWrite
    rw [hostOf_port small]
    dsimp only
    rw [isMemory_notMbx mem, isMemory_noRws mem, Bool.and_false, Bool.or_false]
  rw [State.writeRsp, answers, if_neg Bool.false_ne_true, if_pos no]

/-- What the steward's port keeps of a denied access outside its own window (R213). -/
theorem refused_steward {p a : Nat} {s : State} (small : p < 4) (steward : s.isSteward p = true) (outside : inMbx p a = false) (sec : Bool) :
    s.refused (9 + p) sec a true rspDeny = s.modHost p (HostPort.b4Fail true rspDeny) := by
  unfold State.refused
  rw [hostOf_port small]
  dsimp only
  rw [steward, outside]
  rfl

theorem b4Fail_deny (h : HostPort) : h.b4Fail true rspDeny = { h with b4Deny := sat32 h.b4Deny, err := h.err ||| 8 } := rfl

theorem bar4Write_denied {p offset : Nat} {v : Word} {s : State} (no : s.isSteward p = false ∨ 2 ^ 30 ≤ offset) : bar4Write p offset v s = s := by
  refine if_pos (.inr ?_)
  show (if s.isSteward p then 2 ^ 30 else 0) ≤ offset
  obtain not_ | beyond := no
  · rw [not_]
    exact Nat.zero_le _
  · split
    · exact beyond
    · exact Nat.zero_le _

theorem bar4Write_reaches {p offset : Nat} {v : Word} {s : State} {q : HostPort} (at_p : s.hosts[p]? = some q) (can : s.hostCan p = true)
    (steward : s.isSteward p = true) (small : offset < 2 ^ 30) : bar4Write p offset v s =
      if inMbx p (q.b4 * 2 ^ 30 + offset) && !holdsRws (q.b4 * 2 ^ 30 + offset) then s.modHost p (HostPort.b4Fail true rspDeny)
      else registerWrite (9 + p) (q.b4 * 2 ^ 30 + offset) v s := by
  have here : s.hport p = q := getD_of_some at_p _
  have size : ¬ s.barSize p 4 ≤ offset := by
    show ¬ (if s.isSteward p then 2 ^ 30 else 0) ≤ offset
    rw [steward, if_pos rfl]
    exact Nat.not_le.mpr small
  unfold bar4Write
  rw [here]
  exact if_neg (by rw [can]; exact fun h => h.elim (fun h => absurd h (by decide)) size)

/-! ### BAR2 -/

/-- The places of a BAR2 read in the host's images (R214, R351). -/
def State.b2Places (p offset len : Nat) (s : State) : List (Option (Option Nat)) :=
  (List.range len).map (fun k => s.viewAddr (s.viewOf p) ((s.hport p).b2 * 2 ^ 30 + offset + k))

/-- A place lies in a channel. -/
def placeIn (c : Nat) : Option (Option Nat) → Bool
  | some (some a) => decide (targetOf a = c)
  | some none => false
  | none => false

/-- The turn of a BAR2 read at the channels that it reaches (R245, R248). -/
def State.b2Turn (p : Nat) (ps : List (Option (Option Nat))) (s : State) : State :=
  let s := if ps.any (placeIn 0) then s.access (9 + p) 0 (chBase 0) else s
  if ps.any (placeIn 1) then s.access (9 + p) 0 (chBase 1) else s

/-- A place outside the host's images sets B2_OUT (R214). -/
def State.b2Out (p : Nat) (ps : List (Option (Option Nat))) (s : State) : State :=
  if ps.any Option.isNone then s.modHost p (fun h => { h with err := h.err ||| 16 }) else s

theorem bar2Read_beyond {p offset len : Nat} {s : State} (beyond : 2 ^ 30 < offset + len) : bar2Read p offset len s = s := if_pos (.inr beyond)

theorem bar2Read_reads {p offset len : Nat} {s : State} (can : s.hostCan p = true) (within : offset + len ≤ 2 ^ 30) : bar2Read p offset len s =
    ((s.b2Turn p (s.b2Places p offset len)).b2Out p (s.b2Places p offset len)).answered (9 + p) offset rspOk
      ((s.b2Places p offset len).map ((s.b2Turn p (s.b2Places p offset len)).b2Out p (s.b2Places p offset len)).viewByte) := by
  refine (if_neg ?_).trans ?_
  · rw [can]
    exact fun h => h.elim (fun h => absurd h (by decide)) (fun h => absurd h (Nat.not_lt.mpr within))
  · rfl

/-- With nothing waiting at the channels a BAR2 read's turn comes at once. -/
theorem b2Turn_empty {p : Nat} {ps : List (Option (Option Nat))} {s : State} (zero : s.braid.waiting.getD 0 [] = [])
    (one : s.braid.waiting.getD 1 [] = []) : ∃ g, s.b2Turn p ps = { s with braid := { s.braid with granted := g } } := by
  have turn : ∀ (b : Bool) (c : Nat) (u : State), targetOf (chBase c) = c → u.braid.waiting.getD c [] = [] →
      ∃ g, (if b then u.access (9 + p) 0 (chBase c) else u) = { u with braid := { u.braid with granted := g } } := by
    intro b c u target empty
    cases b with
    | false => exact ⟨u.braid.granted, rfl⟩
    | true =>
      rw [if_pos rfl, access_empty (by rw [target]; exact empty)]
      exact ⟨_, rfl⟩
  obtain ⟨g, first_⟩ := turn (ps.any (placeIn 0)) 0 s (by decide) zero
  obtain ⟨g', second⟩ := turn (ps.any (placeIn 1)) 1 { s with braid := { s.braid with granted := g } } (by decide) one
  refine ⟨g', ?_⟩
  unfold State.b2Turn
  rw [first_]
  exact second

theorem b2Out_mem (p : Nat) (ps : List (Option (Option Nat))) (s : State) : s.b2Out p ps = { s with hosts := (s.b2Out p ps).hosts } := by
  unfold State.b2Out
  split <;> rfl

/-- A host with no images reads zeros, and B2_OUT is set (R214). -/
theorem b2Places_none {p offset len : Nat} {s : State} (none_ : s.viewOf p = []) : s.b2Places p offset len = List.replicate len none := by
  unfold State.b2Places
  rw [none_]
  show (List.range len).map (fun _ => none) = _
  rw [List.map_const', List.length_range]

/-! ### The obligation -/

/-- Settles O52: what the rights and the size allow reaches its target; what they refuse leaves its record alone. -/
theorem accessesReachWhatTheyMay : Obligations.AccessesReachWhatTheyMay := by
  unfold Obligations.AccessesReachWhatTheyMay
  refine ⟨fun s m q a empty => ?_, fun s s1 m a v up turn form => ⟨fun ok mem => ?_, fun ok reg => ?_, fun bad => ?_⟩,
    fun s m a v down => congrArg Host.Outcome.next (if_neg (by rw [down]; decide)),
    fun s s1 m p up turn => ⟨fun ok on => ?_, fun bad => ?_⟩,
    fun s p offset a v q at_p at_a => ⟨fun no => congrArg Host.Outcome.next (bar4Write_denied no), fun can steward small => ?_⟩,
    fun s p offset len q at_p can => ⟨fun beyond => congrArg Host.Outcome.next (bar2Read_beyond beyond), fun within => ?_⟩,
    fun s => ⟨fun b fw may => ?_, fun no => ?_, fun v => ?_⟩⟩
  · rw [access_empty empty]
    exact ⟨_, rfl, List.length_map ..⟩
  · have writes := registerWrite_up (a := a) (v := v) up
    rw [← turn, writePiece_memory (by rw [length_leBytes]; exact ok) mem] at writes
    refine ⟨_, congrArg Host.Outcome.next writes, rfl, ?_, fun b out => read_writeN_other (by rw [length_leBytes]; exact out)⟩
    have reads := readN_writeN form.1 a (leBytes 4 v.toNat)
    rwa [length_leBytes] at reads
  · have writes := registerWrite_up (a := a) (v := v) up
    rw [← turn, writePiece_register ok reg] at writes
    exact congrArg Host.Outcome.next writes
  · have writes := registerWrite_up (a := a) (v := v) up
    rw [← turn, writePiece_refused (by rw [length_leBytes]; exact bad)] at writes
    obtain ⟨waiting, closed⟩ := refused_waiting m.val false a true (s1.writeRsp m.val false a (leBytes 4 v.toNat).length) s1
    exact ⟨_, congrArg Host.Outcome.next writes, refused_frame _ _ _ _ _ _, waiting, closed⟩
  · have reads := pairLowRead_up (p := p) up
    rw [← turn, readPiece_register ok (pairLow_notMemory p), readReg_latches on] at reads
    obtain ⟨shadow, mem, clu⟩ := latched_parts m.val p s1
    exact ⟨_, _, congrArg Host.Outcome.next reads, rfl, rfl, shadow, mem, clu⟩
  · have reads := pairLowRead_up (p := p) up
    rw [← turn, readPiece_refused bad, noRead_four] at reads
    refine ⟨_, congrArg Host.Outcome.next reads, ?_, rfl⟩
    rw [refused_frame]
    rfl
  · have reaches := bar4Write_reaches (v := v) at_p can steward small
    rw [← at_a] at reaches
    refine ⟨fun m at_m open_ => ?_, fun own plain => ?_, fun s1 q1 up mem turn answers steward1 at_q1 => ?_⟩
    · have through : bar4Write p.val offset v s = registerWrite (9 + p.val) a v s :=
        reaches.trans (if_neg (by obtain h | h := open_ <;> simp [h]))
      rw [← at_m] at through
      exact congrArg Host.Outcome.next through
    · have discarded := reaches.trans (if_pos (by rw [own, plain]; rfl))
      refine ⟨_, congrArg Host.Outcome.next discarded, rfl, ?_⟩
      rw [← b4Fail_deny]
      exact modHost_some at_p _
    · have outside := isMemory_notMbx mem p.val
      have through := (reaches.trans (if_neg (by rw [outside]; exact Bool.false_ne_true))).trans (registerWrite_up up)
      have deny := writeRsp_steward p.isLt answers mem
      rw [← turn, writePiece_refused (by rw [length_leBytes, deny]; decide), length_leBytes, deny, refused_steward p.isLt steward1 outside] at through
      refine ⟨_, congrArg Host.Outcome.next through, rfl, ?_⟩
      rw [← b4Fail_deny]
      exact modHost_some at_q1 _
  · have here : s.hport p.val = q := getD_of_some at_p _
    have places : s.b2Places p.val offset len =
        (List.range len).map (fun k => s.viewAddr (s.viewOf p.val) (q.b2 * 2 ^ 30 + offset + k)) := by rw [State.b2Places, here]
    refine ⟨_, _, congrArg Host.Outcome.next (bar2Read_reads can within), rfl, fun zero one => ?_, fun none_ some_ => ?_⟩
    · obtain ⟨g, turn⟩ := b2Turn_empty (p := p.val) (ps := s.b2Places p.val offset len) zero one
      rw [turn, b2Out_mem]
      refine ⟨rfl, ?_, fun all => ?_⟩
      · rw [places, List.map_map]
        rfl
      · have inside : (s.b2Places p.val offset len).any Option.isNone = false := by
          rw [places, List.any_eq_false]
          rintro x mem
          obtain ⟨k, small, rfl⟩ := List.mem_map.1 mem
          have some_ := all k (List.mem_range.1 small)
          rw [← Option.not_isSome, some_]
          decide
        rw [State.b2Out, inside]
        rfl
    · have nones := b2Places_none (p := p.val) (offset := offset) (len := len) none_
      have idle : s.b2Turn p.val (s.b2Places p.val offset len) = s := by
        have out : ∀ c, (List.replicate len (none : Option (Option Nat))).any (placeIn c) = false := fun c =>
          List.any_eq_false.2 fun x mem => by rw [(List.mem_replicate.1 mem).2]; exact Bool.false_ne_true
        unfold State.b2Turn
        rw [nones, out, out]
        rfl
      have marks : (List.replicate len (none : Option (Option Nat))).any Option.isNone = true :=
        List.any_eq_true.2 ⟨none, List.mem_replicate.2 ⟨by omega, rfl⟩, rfl⟩
      rw [idle, nones, State.b2Out, marks, if_pos rfl]
      refine ⟨?_, ?_⟩
      · rw [List.map_replicate]
        rfl
      · exact congrArg HostPort.err (modHost_hport at_p _)
  · refine congrArg Host.Outcome.next (if_neg ?_)
    rw [fw]
    obtain rfl | ⟨load, trims⟩ := may
    · simp
    · simp [load, trims]
  · refine congrArg Host.Outcome.next (if_pos ?_)
    obtain off | other := no
    · exact .inl off
    · exact .inr ⟨rfl, other⟩
  · have edge : s.now < (s.now / 32 + 1) * 32 := by omega
    refine ⟨_, rfl, rfl, edge, ?_, ?_, if_pos edge⟩
    · show (s.now / 32 + 1) * 32 ≤ s.now + 32
      omega
    · show (s.now / 32 + 1) * 32 % 32 = 0
      omega

end Sys2Proof.Machine

/-! PROOFS. DMA programs start, run and stop (O54). -/

namespace Sys2Proof.Machine

/-! ### A channel and its place -/

theorem dch_of {s : State} {n : Nat} {c : DmaCh} (there : s.dma.chs[n]? = some c) : s.dch n = c := getD_of_some there {}

theorem modDch_at {s : State} {n : Nat} {c : DmaCh} {f : DmaCh → DmaCh} (there : s.dma.chs[n]? = some c) :
    (s.modDch n f).dma.chs[n]? = some (f c) := getElem?_modAt_same there

theorem modDch_away {s : State} {n k : Nat} (f : DmaCh → DmaCh) (other : k ≠ n) : (s.modDch n f).dma.chs[k]? = s.dma.chs[k]? :=
  getElem?_modAt_other other

/-! ### Starts -/

theorem dmaStart_starts {s : State} {n : Nat} {c : DmaCh} {o : Option Nat} (there : s.dma.chs[n]? = some c) (runs : s.dma.stopped = false)
    (idle : c.active = false) (en : c.en = true) : s.dmaStart n o = (s.modDch n (DmaCh.start (decide (n < 16)) o)).dmaBusy n := by
  unfold State.dmaStart
  rw [dch_of there]
  dsimp only
  rw [if_neg (by simp [runs, idle]), if_neg (by simp [en])]

theorem dmaStart_ignored {s : State} {n : Nat} {c : DmaCh} {o : Option Nat} (there : s.dma.chs[n]? = some c)
    (no : s.dma.stopped = true ∨ c.active = true) : s.dmaStart n o = s.modDch n (fun c => { c with startIgn := sat8 c.startIgn }) := by
  unfold State.dmaStart
  rw [dch_of there]
  exact if_pos no

theorem dmaArrive_starts {s : State} {n o : Nat} {c : DmaCh} (there : s.dma.chs[n]? = some c) (other : c.st ≠ .waiting) :
    s.dmaArrive n o = s.dmaStart n (some o) := by
  unfold State.dmaArrive
  rw [dch_of there]
  exact if_neg other

theorem dmaArrive_resumes {s : State} {n o : Nat} {c : DmaCh} (there : s.dma.chs[n]? = some c) (waits : c.st = .waiting) :
    s.dmaArrive n o = (s.modDch n DmaCh.resume).dmaBusy n := by
  unfold State.dmaArrive
  rw [dch_of there]
  exact if_pos waits

/-- The consumer DMA_STARTn as an arrival through its first select, apart from all others, finds it (R232). -/
def State.dmaCalled (n o : Nat) (s : State) : State :=
  (((s.modCon (8 + n) (fun c => { c with arrAt := some s.now })).modCon (8 + n) (fun c => { c with busy := true })).modCon (8 + n)
    (fun c => { c with origin := some o, rel := false }))

theorem dmaCalled_frame (n o : Nat) (s : State) : s.dmaCalled n o = { s with evt := (s.dmaCalled n o).evt } := rfl

theorem dmaConsumer_live {s : State} {n : Nat} (small : n < 32) (on : s.power.dma = .on) :
    s.conOff (8 + n) = false ∧ s.deadPin (8 + n) = false := by
  refine ⟨?_, ?_⟩
  · unfold State.conOff
    rw [if_pos ⟨by omega, by omega⟩, on]
    decide
  · unfold State.deadPin
    rw [decide_eq_false (by omega : ¬ 48 ≤ 8 + n)]
    rfl

/-- An arrival at DMA_STARTn that is not busy acts on its channel (R231, R254). -/
theorem dmaCall_acts {s : State} {n o : Nat} {k : Con} (there : s.evt.cons[8 + n]? = some k) (small : n < 32) (on : s.power.dma = .on)
    (apart : k.arrAt = none) (free : k.busy = false) : s.newArrival (8 + n) 0 o 0 = (s.dmaCalled n o).dmaArrive n o := by
  obtain ⟨powered, live⟩ := dmaConsumer_live (s := s.modCon (8 + n) (fun c => { c with arrAt := some s.now })) small on
  have same : s.sameArrival (8 + n) = (false, s) := by
    unfold State.sameArrival
    rw [con_of there, apart]
  have meets : s.newArrival (8 + n) 0 o 0 = (s.modCon (8 + n) (fun c => { c with arrAt := some s.now })).conArrive (8 + n) 0 o := by
    unfold State.newArrival
    rw [same]
    rfl
  have stays : ∀ t : State, t.neverBusy (8 + n) = false := fun t => by
    unfold State.neverBusy
    simp only [Bool.or_eq_false_iff, Bool.and_eq_false_iff, decide_eq_false_iff_not]
    omega
  rw [meets, conArrive_free (modCon_at there) powered live free, stays, if_neg Bool.false_ne_true]
  unfold State.conBegins State.conAct
  dsimp only
  rw [if_neg (by omega), if_pos (by omega), Nat.add_sub_cancel_left]
  rfl

/-- A busy DMA_STARTn holds the arrival (R232, log 160). -/
theorem dmaCall_holds {s : State} {n o : Nat} {k : Con} (there : s.evt.cons[8 + n]? = some k) (small : n < 32) (on : s.power.dma = .on)
    (apart : k.arrAt = none) (busy : k.busy = true) : s.newArrival (8 + n) 0 o 0 =
      (s.modCon (8 + n) (fun c => { c with arrAt := some s.now })).modCon (8 + n) (Con.hold 0 o) := by
  obtain ⟨powered, live⟩ := dmaConsumer_live (s := s.modCon (8 + n) (fun c => { c with arrAt := some s.now })) small on
  have same : s.sameArrival (8 + n) = (false, s) := by
    unfold State.sameArrival
    rw [con_of there, apart]
  have meets : s.newArrival (8 + n) 0 o 0 = (s.modCon (8 + n) (fun c => { c with arrAt := some s.now })).conArrive (8 + n) 0 o := by
    unfold State.newArrival
    rw [same]
    rfl
  rw [meets, conArrive_busy (modCon_at there) powered live busy]

theorem hold_pends {k : Con} {o : Nat} (drops : k.f2 = false) (empty : k.pend = false) :
    k.hold 0 o = { k with pend := true, pmask := [true, false, false, false], porigin := o } := by
  unfold Con.hold
  rw [if_neg (by simp [drops]), if_pos empty]
  rfl

/-- What a start or a resumption at a channel leaves. -/
structure State.Started (n : Nat) (s : State) (f : DmaCh → DmaCh) (t : State) : Prop where
  frame : t = { s with dma := t.dma, evt := t.evt }
  chs : t.dma.chs = modAt f n s.dma.chs

theorem startsAt (n : Nat) (s : State) (e : Evt) (f : DmaCh → DmaCh) : s.Started n f ((State.modDch n f { s with evt := e }).dmaBusy n) := ⟨rfl, rfl⟩

theorem State.Started.at_n {n : Nat} {s t : State} {f : DmaCh → DmaCh} {c : DmaCh} (h : s.Started n f t) (there : s.dma.chs[n]? = some c) :
    t.dma.chs[n]? = some (f c) := by
  rw [h.chs]
  exact getElem?_modAt_same there

theorem State.Started.away {n k : Nat} {s t : State} {f : DmaCh → DmaCh} (h : s.Started n f t) (other : k ≠ n) :
    t.dma.chs[k]? = s.dma.chs[k]? := by
  rw [h.chs]
  exact getElem?_modAt_other other

/-- A START or an arrival at DMA_STARTn that is not busy, in a channel that does not wait, is a start (R254, R260). -/
theorem execDmaStart_starts {s : State} {n : Fin 32} {o : Option (Fin 128)} {c : DmaCh} (there : s.dma.chs[n.val]? = some c) (on : s.power.dma = .on)
    (way : o = none ∨ (c.st ≠ .waiting ∧ ∃ k, s.evt.cons[8 + n.val]? = some k ∧ k.busy = false ∧ k.arrAt = none)) :
    ∃ e : Evt, execDmaStart n o s = .next (State.dmaStart n.val (o.map Fin.val) { s with evt := e }) ∧ (o = none → e = s.evt) := by
  cases o with
  | none => exact ⟨s.evt, congrArg Host.Outcome.next (if_pos on), fun _ => rfl⟩
  | some a =>
    obtain no | ⟨other, k, at_k, free, apart⟩ := way
    · exact absurd no nofun
    · have acts := (dmaCall_acts (o := a.val) at_k n.isLt on apart free).trans (dmaArrive_starts (s := s.dmaCalled n.val a.val) there other)
      exact ⟨_, congrArg Host.Outcome.next acts, nofun⟩

/-! ### A row -/

/-- A row that finds the channel at an instruction that has come whole (R255). -/
theorem dmaRow_fetched {s s1 : State} {n op : Nat} {c : DmaCh} {w : List Nat} {act : List Nat → State → State} (there : s.dma.chs[n]? = some c)
    (may : s.dmaMay n = true) (fresh : c.ins = none) (fetched : s.fetchAt n c.pc = (0, w, s1)) : s.dmaRow n op act =
      if opKnown (opOf w) = false then s1.illegal n else if opOf w ≠ op then s else if insOk w = false then s1.illegal n else act w s1 := by
  unfold State.dmaRow
  rw [dch_of there]
  dsimp only
  rw [if_neg (by simp [may, fresh]), fetched]
  rfl

theorem dmaRow_acts {s s1 : State} {n op : Nat} {c : DmaCh} {w : List Nat} {act : List Nat → State → State} (there : s.dma.chs[n]? = some c)
    (may : s.dmaMay n = true) (fresh : c.ins = none) (fetched : s.fetchAt n c.pc = (0, w, s1)) (is : opOf w = op) (known : opKnown op = true)
    (ok : insOk w = true) : s.dmaRow n op act = act w s1 := by
  rw [dmaRow_fetched there may fresh fetched, is, if_neg (by simp [known]), if_neg (by simp), if_neg (by simp [ok])]

theorem dmaRow_illegal {s s1 : State} {n : Nat} {c : DmaCh} {w : List Nat} {act : List Nat → State → State} (there : s.dma.chs[n]? = some c)
    (may : s.dmaMay n = true) (fresh : c.ins = none) (fetched : s.fetchAt n c.pc = (0, w, s1))
    (bad : opKnown (opOf w) = false ∨ (opOf w = 0 ∧ insOk w = false)) : s.dmaRow n 0 act = s1.illegal n := by
  rw [dmaRow_fetched there may fresh fetched]
  obtain unknown | ⟨nop, bad⟩ := bad
  · exact if_pos unknown
  · rw [nop, if_neg (by decide), if_neg (by simp), if_pos bad]

/-! ### Instructions that move no data -/

theorem afterLoop_first {s s2 : State} {n fuel pc : Nat} {w : List Nat} (fetched : s.fetchAt n pc = (0, w, s2)) (ends : opOf w = 6) :
    State.afterLoop n (fuel + 1) pc 0 s = (some (rspOk, pc + 32), s2) := by
  unfold State.afterLoop
  rw [fetched]
  dsimp only
  rw [ends]
  rfl

theorem dmaLoop_opens {s : State} {n : Nat} {c : DmaCh} {w : List Nat} (there : s.dma.chs[n]? = some c) (few : c.loops.length < 4)
    (some_ : countOf w ≠ 0) : dmaLoop n w s = s.modDch n (fun d => { d.next with
      loops := { at_ := c.pc, left := if countOf w = 0xFFFFFFFF then none else some (countOf w), stride := untwos 32 (wd w 6) } :: d.loops }) := by
  unfold dmaLoop
  rw [dch_of there]
  dsimp only
  rw [if_neg (by omega), if_neg some_]

theorem dmaLoop_full {s : State} {n : Nat} {c : DmaCh} {w : List Nat} (there : s.dma.chs[n]? = some c) (many : 4 ≤ c.loops.length) :
    dmaLoop n w s = s.illegal n := by
  unfold dmaLoop
  rw [dch_of there]
  exact if_pos many

theorem dmaLoop_skips {s s2 : State} {n : Nat} {c : DmaCh} {w w2 : List Nat} (there : s.dma.chs[n]? = some c) (few : c.loops.length < 4)
    (zero : countOf w = 0) (fetched : s.fetchAt n (c.pc + 32) = (0, w2, s2)) (ends : opOf w2 = 6) :
    dmaLoop n w s = s2.modDch n (fun d => { d with pc := (c.pc + 64) % 2 ^ 32 }) := by
  have found : State.afterLoop n (2 ^ 27) (c.pc + 32) 0 s = (some (rspOk, c.pc + 32 + 32), s2) :=
    afterLoop_first (fuel := 2 ^ 27 - 1) fetched ends
  unfold dmaLoop
  rw [dch_of there]
  dsimp only
  rw [if_neg (by omega), if_pos zero, found]
  rfl

/-- ENDLOOP at an open level (R256). -/
theorem dmaEndloop_closes {s : State} {n k : Nat} {c : DmaCh} {l : LoopLvl} {ls : List LoopLvl} (there : s.dma.chs[n]? = some c)
    (open_ : c.loops = l :: ls) (left : l.left = some k) (last_ : k ≤ 1) : dmaEndloop n s = s.modDch n (fun c => { c.next with loops := ls }) := by
  unfold dmaEndloop
  rw [dch_of there, open_]
  dsimp only
  rw [left]
  exact if_pos last_

theorem dmaEndloop_again {s : State} {n k : Nat} {c : DmaCh} {l : LoopLvl} {ls : List LoopLvl} (there : s.dma.chs[n]? = some c)
    (open_ : c.loops = l :: ls) (left : l.left = some k) (more : 1 < k) : dmaEndloop n s = s.modDch n (fun c => { c.next with
      pc := (l.at_ + 32) % 2 ^ 32, loops := { l with left := some (k - 1), iter := l.iter + 1 } :: ls }) := by
  unfold dmaEndloop
  rw [dch_of there, open_]
  dsimp only
  rw [left]
  exact if_neg (Nat.not_le.mpr more)

theorem dmaEndloop_forever {s : State} {n : Nat} {c : DmaCh} {l : LoopLvl} {ls : List LoopLvl} (there : s.dma.chs[n]? = some c)
    (open_ : c.loops = l :: ls) (left : l.left = none) : dmaEndloop n s = s.modDch n (fun c => { c.next with
      pc := (l.at_ + 32) % 2 ^ 32, loops := { l with iter := l.iter + 1 } :: ls }) := by
  unfold dmaEndloop
  rw [dch_of there, open_]
  dsimp only
  rw [left]

theorem dmaEndloop_unmatched {s : State} {n : Nat} {c : DmaCh} (there : s.dma.chs[n]? = some c) (none_ : c.loops = []) :
    dmaEndloop n s = s.illegal n := by
  unfold dmaEndloop
  rw [dch_of there, none_]

/-- A channel that changes in its place leaves the rest of the machine. -/
theorem modDch_leaves {s : State} {n : Nat} {c : DmaCh} (f : DmaCh → DmaCh) (there : s.dma.chs[n]? = some c) :
    s.modDch n f = { s with dma := (s.modDch n f).dma } ∧ (s.modDch n f).dma.chs[n]? = some (f c) := ⟨rfl, modDch_at there⟩

theorem illegal_ends {s : State} {n : Nat} {c : DmaCh} (there : s.dma.chs[n]? = some c) :
    s.illegal n = { s with dma := (s.illegal n).dma } ∧ ((s.illegal n).dch n).st = .illegal :=
  ⟨rfl, congrArg DmaCh.st (dch_of (s := s.illegal n) (modDch_at there))⟩

/-! ### WAIT -/

theorem waitIns_of {c : DmaCh} {w : List Nat} (ins : c.ins = some w) (is : opOf w = 7) : c.waitIns = some w := by
  unfold DmaCh.waitIns
  rw [ins]
  exact if_pos is

theorem dmaWaitResume_arrival {s : State} {n : Nat} {c : DmaCh} {w : List Nat} {pins : List Byte} (there : s.dma.chs[n]? = some c)
    (on : s.power.dma = .on) (ins : c.ins = some w) (is : opOf w = 7) (waits : c.st = .waiting) :
    dmaWaitResume n pins s = (s.modDch n DmaCh.resume).dmaBusy n := by
  unfold dmaWaitResume
  rw [dch_of there, waitIns_of ins is]
  dsimp only
  rw [if_neg (by simp [on]), if_pos waits]

theorem dmaWaitResume_line {s : State} {n : Nat} {c : DmaCh} {w : List Nat} {pins : List Byte} (there : s.dma.chs[n]? = some c)
    (on : s.power.dma = .on) (ins : c.ins = some w) (is : opOf w = 7) (runs : c.st = .running) : dmaWaitResume n pins s =
      if (s.periPins (dreqOf w - 1) pins).lineOn (dreqOf w - 1) then (s.periPins (dreqOf w - 1) pins).modDch n DmaCh.resume
      else s.periPins (dreqOf w - 1) pins := by
  unfold dmaWaitResume
  rw [dch_of there, waitIns_of ins is]
  dsimp only
  rw [if_neg (by simp [on]), if_neg (by simp [runs])]

theorem dmaWaitTimeout_ends {s : State} {n : Nat} {c : DmaCh} {w : List Nat} (there : s.dma.chs[n]? = some c)
    (on : s.power.dma = .on) (ins : c.ins = some w) (is : opOf w = 7) (timed : countOf w ≠ 0) :
    dmaWaitTimeout n s = s.modDch n (DmaCh.finish .timeout) := by
  unfold dmaWaitTimeout
  rw [dch_of there, waitIns_of ins is]
  dsimp only
  rw [if_neg (by simp [on, timed])]

/-! ### HALT -/

theorem dmaHalt_ends {s : State} {n : Nat} {c : DmaCh} (w : List Nat) (there : s.dma.chs[n]? = some c) :
    dmaHalt n w s = { s with dma := (dmaHalt n w s).dma, evt := (dmaHalt n w s).evt } ∧
    (dmaHalt n w s).dma.chs[n]? = some (c.finish .done) ∧ (flagA w = false → (dmaHalt n w s).evt = s.evt) ∧
    (flagA w = true → (dmaHalt n w s).evt =
      { s.evt with chanIn := s.evt.chanIn ++ (s.evt.takers (0x80 + n)).map (fun ch => ⟨ch, c.origin⟩) }) := by
  have here : (s.modDch n (DmaCh.finish .done)).dma.chs[n]? = some (c.finish .done) := modDch_at there
  unfold dmaHalt
  by_cases tells : flagA w = true
  · simp only [tells, if_true]
    refine ⟨rfl, here, nofun, fun _ => ?_⟩
    show ((s.modDch n (DmaCh.finish .done)).raise (0x80 + n) ((s.modDch n (DmaCh.finish .done)).dch n).origin).evt = _
    rw [dch_of here]
    rfl
  · simp only [tells]
    exact ⟨rfl, here, fun _ => rfl, nofun⟩

/-! ### An access that fails -/

theorem finished_inactive (c : DmaCh) : (c.finish .error).active = false := rfl

/-- A stop leaves no channel active (R262). -/
theorem dmaStop_halts {n a resp k : Nat} {write : Bool} {l : List Nat} {s : State} {c : DmaCh} (there : (s.dmaStop n a write resp l).dma.chs[k]? = some c) :
    c.active = false := by
  have halted := (getElem?_mapIx _ 0 k s.dma.chs).symm.trans there
  obtain ⟨d, -, rfl⟩ := Option.map_eq_some_iff.1 halted
  by_cases active : d.active = true
  · simp only [active, if_true]
    exact finished_inactive d
  · simp only [active]
    exact Bool.eq_false_iff.mpr active

theorem dmaStop_stops (n a resp : Nat) (write : Bool) (l : List Nat) (s : State) : s.dmaStop n a write resp l = { s with
      dma := (s.dmaStop n a write resp l).dma, evt := (s.dmaStop n a write resp l).evt, freeIx := s.freeIx + 1 } ∧
    (s.dmaStop n a write resp l).dma.stopped = true ∧ (s.dmaStop n a write resp l).dma.errAddr = a % 2 ^ 40 ∧
    (s.dmaStop n a write resp l).dma.errWrite = write ∧ (s.dmaStop n a write resp l).dma.errResp = resp % 4 ∧
    (write = true → (s.dmaStop n a write resp l).dma.errWch = n) := ⟨rfl, rfl, rfl, rfl, rfl, fun w => by subst w; rfl⟩

theorem dmaStop_names {n a resp : Nat} (small : n < 32) (write : Bool) (l : List Nat) (s : State) :
    (s.dmaStop n a write resp l).dma.errMask[n]? = some true := by
  unfold State.dmaStop State.raise
  dsimp only
  rw [List.getElem?_map, List.getElem?_range small]
  simp

/-! ### The obligation -/

/-- Settles O54: starts and arrivals, the WAIT under way, each instruction that moves no data, and the stop at a failed access. -/
theorem dmaProgramsRun : Obligations.DmaProgramsRun := by
  unfold Obligations.DmaProgramsRun
  refine ⟨fun s n o c there on => ⟨fun way => ⟨fun runs idle en => ?_, fun no => ?_⟩, fun a k is_a at_k apart => ⟨fun free waits => ?_, fun busy drops empty => ?_⟩,
      fun active => ?_, congrArg Host.Outcome.next (if_pos on), fun w ins is => ⟨fun pins waits => ?_, fun pins s1 runs pinned => ?_, fun timed => ?_⟩⟩,
    fun s s1 n c w there may fresh fetched at_1 => ⟨fun bad => ?_, fun ok => ?_⟩, fun s n a write r l may bad _ => ?_⟩
  · obtain ⟨e, runs_, -⟩ := execDmaStart_starts there on way
    rw [dmaStart_starts (s := { s with evt := e }) there runs idle en] at runs_
    have started := startsAt n.val s e (DmaCh.start (decide (n.val < 16)) (o.map Fin.val))
    refine ⟨_, _, runs_, started.frame, started.at_n there, rfl, rfl, rfl, rfl, rfl, en, rfl, ?_, fun k other => started.away other⟩
    show (if (c.simple && decide (n.val < 16)) = true then some c.simplePair else none) = _
    simp only [Bool.and_eq_true, decide_eq_true_eq]
  · obtain ⟨e, ignores, same⟩ := execDmaStart_starts there on way
    rw [dmaStart_ignored (s := { s with evt := e }) there no] at ignores
    exact ⟨_, ignores, rfl, modDch_at (s := { s with evt := e }) there, same⟩
  · subst is_a
    have acts := (dmaCall_acts (o := a.val) at_k n.isLt on apart free).trans (dmaArrive_resumes (s := s.dmaCalled n.val a.val) there waits)
    have started := startsAt n.val s (s.dmaCalled n.val a.val).evt DmaCh.resume
    exact ⟨_, _, congrArg Host.Outcome.next acts, started.frame, started.at_n there, rfl, rfl, rfl, rfl⟩
  · subst is_a
    refine ⟨_, congrArg Host.Outcome.next (dmaCall_holds (o := a.val) at_k n.isLt on apart busy), rfl, ?_⟩
    have held := hold_pends (k := { k with arrAt := some s.now }) (o := a.val) drops empty
    exact (modCon_at (modCon_at at_k)).trans (congrArg some held)
  · have ends : s.dmaDisable n.val = s.modDch n.val (fun c =>
        if c.active then { c with en := false, st := .aborted, hold := [], ins := none, moved := 0, cut := none } else { c with en := false }) := rfl
    refine ⟨_, _, congrArg Host.Outcome.next ((if_pos on).trans ends), rfl, (modDch_at there).trans (congrArg some (if_pos active)), rfl, rfl, rfl, rfl, rfl⟩
  · have acts := dmaWaitResume_arrival (pins := pins) there on ins is waits
    have started := startsAt n.val s s.evt DmaCh.resume
    exact ⟨_, _, congrArg Host.Outcome.next acts, started.frame, started.at_n there, rfl, rfl, rfl⟩
  · have acts := dmaWaitResume_line (pins := pins) there on ins is runs
    rw [← pinned] at acts
    refine ⟨fun no => congrArg Host.Outcome.next (acts.trans (if_neg (by rw [no]; decide))), fun yes => ?_⟩
    have at_1 : s1.dma.chs[n.val]? = some c := by
      rw [pinned, periPins_frame]
      exact there
    refine ⟨_, congrArg Host.Outcome.next (acts.trans (if_pos yes)), rfl, ?_⟩
    refine (modDch_at at_1).trans (congrArg some ?_)
    rw [DmaCh.resume, ← runs]
  · exact ⟨_, _, congrArg Host.Outcome.next (dmaWaitTimeout_ends there on ins is timed), rfl, modDch_at there, rfl, rfl, rfl⟩
  · exact ⟨_, congrArg Host.Outcome.next (dmaRow_illegal there may fresh fetched bad), modDch_leaves _ at_1⟩
  · have row := fun (op : Nat) (act : List Nat → State → State) (is : opOf w = op) (known : opKnown op = true) =>
      congrArg (Host.Outcome.next (σ := State) (φ := Fault) (ρ := Refusal)) (dmaRow_acts (act := act) there may fresh fetched is known ok)
    refine ⟨fun is => ⟨_, row 0 _ is rfl, modDch_leaves _ at_1⟩, fun is few some_ => ?_, fun is many => ?_, fun is none_ => ?_,
      fun l ls k is open_ left => ?_, fun l ls is open_ left => ?_, fun w2 s2 is few zero fetched2 ends at_2 => ?_,
      fun is => ⟨_, row 7 _ is rfl, modDch_leaves _ at_1⟩, fun is => ?_, fun is => ?_⟩
    · exact ⟨_, (row 5 _ is rfl).trans (congrArg Host.Outcome.next (dmaLoop_opens at_1 few some_)), modDch_leaves _ at_1⟩
    · exact ⟨_, (row 5 _ is rfl).trans (congrArg Host.Outcome.next (dmaLoop_full at_1 many)), illegal_ends at_1⟩
    · exact ⟨_, (row 6 _ is rfl).trans (congrArg Host.Outcome.next (dmaEndloop_unmatched at_1 none_)), illegal_ends at_1⟩
    · obtain more | last_ := Nat.lt_or_ge 1 k
      · exact ⟨_, (row 6 _ is rfl).trans (congrArg Host.Outcome.next (dmaEndloop_again at_1 open_ left more)), rfl,
          fun last_ => absurd last_ (Nat.not_le.mpr more), fun _ => modDch_at at_1⟩
      · exact ⟨_, (row 6 _ is rfl).trans (congrArg Host.Outcome.next (dmaEndloop_closes at_1 open_ left last_)), rfl,
          fun _ => modDch_at at_1, fun more => absurd last_ (Nat.not_le.mpr more)⟩
    · exact ⟨_, (row 6 _ is rfl).trans (congrArg Host.Outcome.next (dmaEndloop_forever at_1 open_ left)), modDch_leaves _ at_1⟩
    · exact ⟨_, (row 5 _ is rfl).trans (congrArg Host.Outcome.next (dmaLoop_skips at_1 few zero fetched2 ends)), modDch_leaves _ at_2⟩
    · refine ⟨_, row 8 _ is rfl, rfl, modDch_at (s := s1.dmaDone n.val) at_1, ?_⟩
      show (s1.raise (0x80 + n.val) (s1.dch n.val).origin).evt = _
      rw [dch_of at_1]
      rfl
    · obtain ⟨frame, at_n, keeps, raises_⟩ := dmaHalt_ends w at_1
      exact ⟨_, row 15 _ is rfl, frame, at_n, keeps, raises_⟩
  · have stops : dmaAccessError n.val a write r.val (l.map Fin.val) s =
        (s.refused 5 (s.dch n.val).sec a write r.val).dmaStop n.val a write r.val (l.map Fin.val) := if_neg (by simp [may, bad, rspOk])
    rw [refused_firmware rfl] at stops
    obtain ⟨frame, stopped, addr, write_, resp, wch⟩ := dmaStop_stops n.val a r.val write (l.map Fin.val)
      { s with braid := (s.refused 5 (s.dch n.val).sec a write r.val).braid }
    refine ⟨_, congrArg Host.Outcome.next stops, frame, stopped, addr, write_, resp.trans (Nat.mod_eq_of_lt r.isLt), wch, dmaStop_names n.isLt _ _ _,
      fun k c at_k => dmaStop_halts at_k⟩

end Sys2Proof.Machine

/-! PROOFS. The housekeeping converters (O56). -/

namespace Sys2Proof.Machine

/-! ### A core, and a word of its FIFO -/

theorem modCore_at {s : State} {n : Nat} {c : HkcCore} {f : HkcCore → HkcCore} (there : s.hkc.cores[n]? = some c) :
    (s.modCore n f).hkc.cores[n]? = some (f c) := getElem?_modAt_same there

theorem hkcOvr_marks {n : Nat} {s : State} {c : HkcCore} (there : s.hkc.cores[n]? = some c) :
    ∃ src, (s.hkcOvr n).hkc = { s.hkc with cores := (s.hkcOvr n).hkc.cores, ovrSrc := src } ∧
    (s.hkcOvr n).hkc.cores[n]? = some { c with raised := true } := by
  unfold State.hkcOvr
  rw [core_of_at there]
  split
  next raised => exact ⟨_, rfl, there.trans (by rw [← raised])⟩
  next => exact ⟨_, rfl, modCore_at there⟩

/-- A word meets its FIFO: of the core's record the FIFO, the counts and the mark of the over-range; of the rest HKC_OVR (R275, R276). -/
theorem hkcWord_meets {n : Nat} {ovr mark abt : Bool} {code : Int} {s : State} {c : HkcCore} (there : s.hkc.cores[n]? = some c) :
    ∃ src fifo lost words raised, (s.hkcWord n ovr mark abt code).hkc =
      { s.hkc with cores := (s.hkcWord n ovr mark abt code).hkc.cores, ovrSrc := src } ∧
    (s.hkcWord n ovr mark abt code).hkc.cores[n]? = some { c with fifo := fifo, lost := lost, words := words, raised := raised } ∧
    (c.fifo.length < 64 → fifo = c.fifo ++ [fifoWord ovr (!mark && c.nrdy) c.probeFail mark abt code] ∧ lost = c.lost ∧ words = c.words + 1 ∧
      (ovr = false → raised = c.raised ∧ (s.hkcWord n ovr mark abt code).evt = s.evt)) := by
  unfold State.hkcWord
  rw [core_of_at there]
  dsimp only
  have last (u : State) (d : HkcCore) (at_u : u.hkc.cores[n]? = some d) (src : List Bool) (form : u.hkc = { s.hkc with cores := u.hkc.cores, ovrSrc := src }) :
      ∃ src raised, (if ovr then u.hkcOvr n else u).hkc = { s.hkc with cores := (if ovr then u.hkcOvr n else u).hkc.cores, ovrSrc := src } ∧
      (if ovr then u.hkcOvr n else u).hkc.cores[n]? = some { d with raised := raised } ∧
      (ovr = false → raised = d.raised ∧ (if ovr then u.hkcOvr n else u).evt = u.evt) := by
    cases ovr with
    | false => exact ⟨src, d.raised, form, at_u, fun _ => ⟨rfl, rfl⟩⟩
    | true =>
      obtain ⟨src, hkc, at_n⟩ := hkcOvr_marks at_u
      exact ⟨src, true, hkc.trans (by rw [form]; rfl), at_n, nofun⟩
  by_cases full : 64 ≤ c.fifo.length
  · rw [if_pos full]
    obtain ⟨src, hkc, at_n⟩ := hkcOvr_marks (modCore_at (f := fun c => { c with lost := sat6 c.lost }) there)
    obtain ⟨src, raised, hkc, at_n, -⟩ := last _ _ at_n src (hkc.trans rfl)
    exact ⟨src, _, _, _, _, hkc, at_n, fun room => absurd full (Nat.not_le.mpr room)⟩
  · rw [if_neg full]
    obtain ⟨src, raised, hkc, at_n, quiet⟩ := last (s.modCore n (fun d => { d with
      fifo := d.fifo ++ [fifoWord ovr (!mark && c.nrdy) c.probeFail mark abt code], words := d.words + 1 })) _ (modCore_at there) s.hkc.ovrSrc rfl
    exact ⟨src, _, _, _, _, hkc, at_n, fun _ => ⟨rfl, rfl, rfl, quiet⟩⟩

theorem startPass_starts {n : Nat} {origin : Option Nat} {s : State} {c : HkcCore} (there : s.hkc.cores[n]? = some c) :
    ∃ src fifo lost words raised, (s.startPass n origin).hkc = { s.hkc with cores := (s.startPass n origin).hkc.cores, ovrSrc := src } ∧
    (s.startPass n origin).hkc.cores[n]? = some { c with
      st := .running, lSeq := c.entries, lCoef := c.entries.map (s.coefOf n), lDiag := c.diag, lTrig := c.trig, pos := 0, smp := 0,
      origin := origin, nrdy := !s.hkc.refRdy, fifo := fifo, lost := lost, words := words, raised := raised } := by
  obtain ⟨src, fifo, lost, words, raised, hkc, at_n, -⟩ := hkcWord_meets (n := n) (ovr := false) (mark := true) (abt := false)
    (code := (((s.modCore n (fun c => { c with
      st := .running, lSeq := c.entries, lCoef := c.entries.map (s.coefOf n), lDiag := c.diag, lTrig := c.trig, pos := 0, smp := 0, words := 0,
      raised := false, origin := origin, nrdy := !s.hkc.refRdy })).core n).pass % 2 ^ 24 : Nat)) (modCore_at there)
  exact ⟨src, fifo, lost, words, raised, hkc, at_n⟩

/-- What a core that comes to CONT starts, of the converters' global part. -/
theorem contStart_hkc {n : Nat} {s : State} {c : HkcCore} (there : s.hkc.cores[n]? = some c) :
    ∃ src, (s.contStart n).hkc = { s.hkc with cores := (s.contStart n).hkc.cores, ovrSrc := src } := by
  unfold State.contStart
  split
  · obtain ⟨src, _, _, _, _, hkc, -⟩ := startPass_starts (origin := none) there
    exact ⟨src, hkc⟩
  · exact ⟨s.hkc.ovrSrc, rfl⟩

/-! ### The rounds of core 0 -/

/-- The slot at work, the rounds that have ended, and what lets them run (R268, R269). -/
def State.rhythm (s : State) : Nat × Nat × Bool × Bool := (s.hkc.slot, s.hkc.rounds, s.hkc.roundRun, s.hkc.refRdy)

theorem rhythm_parts {s : State} {a b : Nat} {c d : Bool} (is : s.rhythm = (a, b, c, d)) :
    s.hkc.slot = a ∧ s.hkc.rounds = b ∧ s.hkc.roundRun = c ∧ s.hkc.refRdy = d := by
  simpa [State.rhythm] using is

theorem hkcOvr_rhythm (n : Nat) (s : State) : (s.hkcOvr n).rhythm = s.rhythm := by
  unfold State.hkcOvr
  split <;> rfl

theorem hkcWord_rhythm (n : Nat) (ovr mark abt : Bool) (code : Int) (s : State) : (s.hkcWord n ovr mark abt code).rhythm = s.rhythm := by
  unfold State.hkcWord
  dsimp only
  split
  · split
    · exact (hkcOvr_rhythm _ _).trans (hkcOvr_rhythm n (s.modCore n _))
    · exact hkcOvr_rhythm n (s.modCore n _)
  · split
    · exact hkcOvr_rhythm n (s.modCore n _)
    · rfl

theorem hkcWord_zsum (n : Nat) (ovr mark abt : Bool) (code : Int) (s : State) : (s.hkcWord n ovr mark abt code).hkc.zsum = s.hkc.zsum := by
  have ovr_ (u : State) : (u.hkcOvr n).hkc.zsum = u.hkc.zsum := by
    unfold State.hkcOvr
    split <;> rfl
  unfold State.hkcWord
  dsimp only
  split
  · split
    · exact (ovr_ _).trans (ovr_ (s.modCore n _))
    · exact ovr_ (s.modCore n _)
  · split
    · exact ovr_ (s.modCore n _)
    · rfl

/-- Core 0 before its round's marker: the first slot, and the places of the census (R269, R271). -/
def State.roundReady (s : State) : State :=
  ((s.modHkc (fun h => { h with slot := 0, slotAt := s.now, zsum := 0, probeBad := false })).fillPlaces).modCore 0
    (fun c => { c with words := 0, raised := false })

theorem startRound_marks (s : State) : s.startRound = s.roundReady.hkcWord 0 false true false ((s.roundReady.core 0).pass % 2 ^ 24 : Nat) := rfl

theorem roundReady_frame (s : State) : ∃ places ptr retries prio, s.roundReady = { s with
    hkc := { s.hkc with
      slot := 0, slotAt := s.now, zsum := 0, probeBad := false, places := places, ptr := ptr, retries := retries, prio := prio,
      cores := modAt (fun c => { c with words := 0, raised := false }) 0 s.hkc.cores } } := by
  unfold State.roundReady State.fillPlaces
  exact ⟨_, _, _, _, rfl⟩

/-- A new round: slot 0, with nothing summed (R269). -/
theorem startRound_begins (s : State) : s.startRound.rhythm = (0, s.hkc.rounds, s.hkc.roundRun, s.hkc.refRdy) ∧ s.startRound.hkc.zsum = 0 := by
  obtain ⟨_, _, _, _, ready⟩ := roundReady_frame s
  rw [startRound_marks]
  refine ⟨(hkcWord_rhythm _ _ _ _ _ _).trans ?_, (hkcWord_zsum _ _ _ _ _ _).trans ?_⟩
  · rw [ready]; rfl
  · rw [ready]

theorem startRound_frame (s : State) : s.startRound = { s with hkc := s.startRound.hkc, evt := s.startRound.evt } := by
  obtain ⟨_, _, _, _, ready⟩ := roundReady_frame s
  rw [startRound_marks, hkcWord_frame, ready]

theorem startRound_core {s : State} {c : HkcCore} (there : s.hkc.cores[0]? = some c) :
    (s.startRound.core 0).en = c.en ∧ (s.startRound.core 0).st = c.st := by
  obtain ⟨_, _, _, _, ready⟩ := roundReady_frame s
  have at_0 : s.roundReady.hkc.cores[0]? = some { c with words := 0, raised := false } := by
    rw [ready]
    exact getElem?_modAt_same there
  obtain ⟨src, fifo, lost, words, raised, -, at_0, -⟩ := hkcWord_meets (ovr := false) (mark := true) (abt := false)
    (code := ((s.roundReady.core 0).pass % 2 ^ 24 : Nat)) at_0
  rw [← startRound_marks] at at_0
  have here := core_of_at at_0
  exact ⟨(congrArg HkcCore.en here :), (congrArg HkcCore.st here :)⟩

theorem judgeProbe_rhythm (n : Nat) (d code : Int) (ovr : Bool) (s : State) : (s.judgeProbe n d code ovr).rhythm = s.rhythm := rfl

theorem cenStart_rhythm (h : Nat) (s : State) : (s.cenStart h).rhythm = s.rhythm := by
  unfold State.cenStart
  split <;> rfl

theorem slotResult_rhythm (k : Nat) (raw val : Int) (ovr : Bool) (s : State) : (s.slotResult k raw val ovr).rhythm = s.rhythm := by
  unfold State.slotResult
  dsimp only
  split
  · exact hkcWord_rhythm ..
  split
  · refine (hkcWord_rhythm _ _ _ _ _ _).trans ?_
    split <;> rfl
  split
  · refine (hkcWord_rhythm _ _ _ _ _ _).trans ?_
    split
    · rfl
    · split
      · rfl
      · split <;> rfl
  split <;> exact hkcWord_rhythm ..

theorem modCell_rhythm (n : Nat) (f : Cell → Cell) (s : State) : (s.modCell n f).rhythm = s.rhythm := rfl

theorem heaterJudged_rhythm (n : Nat) (s : State) : (s.heaterJudged n).rhythm = s.rhythm := by
  unfold State.heaterJudged
  dsimp only
  split
  · rfl
  · rw [noted_frame]
    rfl

theorem censusTo_rhythm (n r : Nat) (s : State) : (s.censusTo n r).rhythm = s.rhythm := by
  unfold State.censusTo
  split
  · rfl
  dsimp only
  split
  · rfl
  split
  · rfl
  split
  · rfl
  split
  · exact heaterJudged_rhythm n s
  · rfl

theorem censusSlot_rhythm (h vUv iNa : Nat) (ovr : Bool) (s : State) : (s.censusSlot h vUv iNa ovr).rhythm = s.rhythm := by
  have pair (a b : Int) (o : Bool) (u : State) : ((u.hkcWord 0 false false false a).hkcWord 0 o false false b).rhythm = u.rhythm :=
    (hkcWord_rhythm _ _ _ _ _ _).trans (hkcWord_rhythm _ _ _ _ _ _)
  have owed (p : Place) (u : State) : (u.censusDefer p).rhythm = u.rhythm := rfl
  have held (f : Hkc → Hkc) (still : ∀ k, (f k).slot = k.slot ∧ (f k).rounds = k.rounds ∧ (f k).roundRun = k.roundRun ∧ (f k).refRdy = k.refRdy) (u : State) :
      (u.modHkc f).rhythm = u.rhythm := by
    obtain ⟨slot, rounds, run, ready⟩ := still u.hkc
    exact Prod.ext slot (Prod.ext rounds (Prod.ext run ready))
  have drawn (k : Nat) (u : State) : ({ u with freeIx := k } : State).rhythm = u.rhythm := rfl
  unfold State.censusSlot
  split
  · rfl
  split
  · exact pair _ _ _ s
  split
  · dsimp only
    rw [owed, held (fun h => { h with lastR := Config.freeNat s.freeIx % 65536 }) (fun _ => ⟨rfl, rfl, rfl, rfl⟩)]
    exact (pair _ _ _ _).trans (drawn _ s)
  next p _ _ _ r _ =>
    dsimp only
    split
    · exact pair _ _ _ s
    · rw [censusTo_rhythm, held (fun h => { h with lastR := r, lastDefer := false, lastCell := p.cell }) (fun _ => ⟨rfl, rfl, rfl, rfl⟩)]
      exact pair _ _ _ s

/-! ### The end of a round -/

theorem quiet_rhythm {s t : State} (quiet : Quiet s t) : t.rhythm = s.rhythm := by rw [quiet.frame]; rfl

theorem netDown_rhythm (p : Bool) (s : State) : (s.netDown p).rhythm = s.rhythm := by
  have lost (u : State) : (u.linkDown p).rhythm = u.rhythm := by
    have zero (v : State) : v.finZero.rhythm = v.rhythm := by
      unfold State.finZero
      dsimp only
      split <;> rfl
    have held (v : State) : v.enterHoldover.rhythm = v.rhythm := by
      rw [enterHoldover_frame]
      rfl
    unfold State.linkDown
    extract_lets v
    split
    · exact (held _).trans (zero _)
    · rfl
  have closes : (if (s.net.port p).pow = .off then s.modNet (Net.down p) else (s.modNet (Net.down p)).dropMaster (if p then 8 else 7)).rhythm =
      s.rhythm := by
    split
    · rfl
    · rw [dropMaster_frame]
      rfl
  unfold State.netDown
  dsimp only
  split
  · exact (lost _).trans closes
  · exact closes

theorem setMode_rhythm (m : Mode) (s : State) : (s.setMode m).rhythm = s.rhythm := by
  obtain ⟨ho, ld, its⟩ := setMode_eq m s
  rw [its]
  rfl

theorem dropModeCmd_rhythm (s : State) : s.dropModeCmd.rhythm = s.rhythm := by
  unfold State.dropModeCmd
  split
  · rfl
  · exact foldl_keeps State.rhythm (fun (s : State) (m : ModeCmd) => s.completeSeq m.port m.seq m.code stBadMode m.tag 0 []) (fun _ _ => rfl) _ _

theorem stopSpares_rhythm (s : State) : s.stopSpares.rhythm = s.rhythm :=
  foldl_keeps State.rhythm (fun s r => s.stopSpare r) (fun u r => by rw [stopSpare_frame]; rfl) (List.range 16) s

theorem enterSafe_rhythm (cause sensor : Nat) (t : Int) (s : State) : (s.enterSafe cause sensor t).rhythm = s.rhythm := by
  unfold State.enterSafe
  split
  · rfl
  dsimp only
  split
  · rfl
  · generalize its : State.stopSpares _ = u
    show u.rhythm = _
    rw [← its]
    refine (stopSpares_rhythm _).trans ?_
    refine (netDown_rhythm true _).trans ((netDown_rhythm false _).trans ((quiet_rhythm (safeEpochs_ends _).1).trans ?_))
    exact (setMode_rhythm .safe _).trans (dropModeCmd_rhythm _)

theorem throttleAll_rhythm (s : State) : s.throttleAll.rhythm = s.rhythm := by
  unfold State.throttleAll
  dsimp only
  split
  · exact setMode_rhythm _ _
  split
  · exact setMode_rhythm _ _
  · rfl

theorem railChecks_rhythm (s : State) : s.railChecks.rhythm = s.rhythm := by
  unfold State.railChecks
  dsimp only
  split <;> rfl

theorem raised_rhythm (b : Bool) (k : Nat) (o : Option Nat) (s : State) : (if b then s.raise k o else s).rhythm = s.rhythm := by
  cases b <;> rfl

theorem thermalRound_rhythm (rs : List DieReading) (s : State) : (thermalRound rs s).rhythm = s.rhythm := by
  have derates (u : State) : u.derateAll.rhythm = u.rhythm := rfl
  unfold thermalRound
  dsimp only
  rw [railChecks_rhythm]
  generalize its : State.throttleAll _ = u
  show u.rhythm = _
  rw [← its, throttleAll_rhythm, derates, raised_rhythm, raised_rhythm]
  split
  · rfl
  · exact enterSafe_rhythm _ _ _ _

/-! ### The end of a slot -/

/-- A slot before slot 49 gives way to the next (R269). -/
theorem slotEnd_next {r : SlotReading} {s : State} (runs : s.hkc.roundRun = true) (before : s.hkc.slot < 49) :
    (slotEnd r s).hkc.slot = s.hkc.slot + 1 ∧ (slotEnd r s).hkc.rounds = s.hkc.rounds := by
  have moved : (s.modHkc (fun h => { h with slot := s.hkc.slot + 1, slotAt := s.now })).rhythm = (s.hkc.slot + 1, s.hkc.rounds, s.hkc.roundRun, s.hkc.refRdy) := rfl
  have keeps : (slotEnd r s).rhythm = (s.hkc.slot + 1, s.hkc.rounds, s.hkc.roundRun, s.hkc.refRdy) := by
    unfold slotEnd
    dsimp only
    rw [if_neg (by simp [runs])]
    split
    · exact (slotResult_rhythm _ _ _ _ _).trans moved
    split
    · exact (cenStart_rhythm _ _).trans ((slotResult_rhythm _ _ _ _ _).trans moved)
    split
    · split
      · exact moved
      · exact (cenStart_rhythm _ _).trans ((censusSlot_rhythm _ _ _ _ _).trans moved)
    · rw [if_neg (by omega)]
      exact moved
  obtain ⟨slot, counted, -⟩ := rhythm_parts keeps
  exact ⟨slot, counted⟩

/-- A slot of the auto-zero adds its reading to the sum, and nothing else (R269, log 159). -/
theorem slotEnd_zero {r : SlotReading} {s : State} (runs : s.hkc.roundRun = true) (from_ : 42 ≤ s.hkc.slot) (before : s.hkc.slot < 49) :
    slotEnd r s = { s with hkc := { s.hkc with slot := s.hkc.slot + 1, slotAt := s.now, zsum := s.hkc.zsum + satCode r.raw } } := by
  unfold slotEnd
  dsimp only
  rw [if_neg (by simp [runs]), if_neg (by omega), if_neg (by omega), if_neg (by omega), if_neg (by omega)]
  rfl

theorem roundEnd_begins (die : List DieReading) (s : State) : (roundEnd die s).rhythm =
    (0, (s.hkc.rounds + 1) % 2 ^ 32, s.hkc.roundRun, s.hkc.refRdy) ∧ (roundEnd die s).hkc.zsum = 0 := by
  have kept (u : State) : (0, (thermalRound die u).hkc.rounds, (thermalRound die u).hkc.roundRun, (thermalRound die u).hkc.refRdy) =
      (0, u.hkc.rounds, u.hkc.roundRun, u.hkc.refRdy) := congrArg (fun q => ((0 : Nat), q.2)) (thermalRound_rhythm die u)
  unfold roundEnd
  dsimp only
  obtain ⟨starts, zero⟩ := startRound_begins (thermalRound die
    (((s.hkcDone 0).modCore 0 (fun c => { c with pass := (c.pass + 1) % 2 ^ 32 })).modHkc
      (fun h => { h with c0 := s.kT * ((s.hkc.zsum : Rat) / 8), rounds := (h.rounds + 1) % 2 ^ 32 })))
  exact ⟨starts.trans (kept _), zero⟩

/-- Slot 49 ends the round and begins the next (R269, R284). -/
theorem slotEnd_round {r : SlotReading} {s : State} (runs : s.hkc.roundRun = true) (last_ : s.hkc.slot = 49) :
    (slotEnd r s).hkc.slot = 0 ∧ (slotEnd r s).hkc.rounds = (s.hkc.rounds + 1) % 2 ^ 32 ∧ (slotEnd r s).hkc.zsum = 0 := by
  have ends : ∃ u, slotEnd r s = roundEnd r.die u ∧ u.hkc.rounds = s.hkc.rounds := by
    unfold slotEnd
    dsimp only
    rw [if_neg (by simp [runs]), if_neg (by omega), if_neg (by omega), if_neg (by omega), if_pos last_]
    exact ⟨_, rfl, rfl⟩
  obtain ⟨u, ends, rounds⟩ := ends
  obtain ⟨starts, zero⟩ := roundEnd_begins r.die u
  rw [ends, ← rounds]
  obtain ⟨slot, counted, -⟩ := rhythm_parts starts
  exact ⟨slot, counted, zero⟩

/-- REF_RDY: core 0 is enabled and its rounds begin (R268, R280). -/
theorem refReadySet_begins {s : State} (on : s.power.hkc = .on) (en : s.hkc.refEn = true) (late : s.hkc.refRdy = false) :
    ∃ t, refReadySet s = t ∧ t = { s with hkc := t.hkc, evt := t.evt } ∧ t.hkc.refRdy = true ∧ t.hkc.roundRun = true ∧ t.hkc.slot = 0 ∧
      (∀ c, s.hkc.cores[0]? = some c → (t.core 0).en = true ∧ (t.core 0).st = .running) := by
  have begins : ∃ u : State, refReadySet s = u.startRound ∧ u = { s with hkc := u.hkc } ∧ u.hkc.refRdy = true ∧ u.hkc.roundRun = true ∧
      (∀ c, s.hkc.cores[0]? = some c → u.hkc.cores[0]? = some { c with en := true, st := .running }) := by
    unfold refReadySet
    rw [if_neg (by simp [on, en, late])]
    exact ⟨_, rfl, rfl, rfl, rfl, fun c there => getElem?_modAt_same there⟩
  obtain ⟨u, is, frame, ready, run, core⟩ := begins
  obtain ⟨starts, -⟩ := startRound_begins u
  obtain ⟨slot, -, running, rdy⟩ := rhythm_parts starts
  refine ⟨_, is, ?_, rdy.trans ready, running.trans run, slot, fun c there => startRound_core (core c there)⟩
  rw [startRound_frame, frame]

/-! ### Passes of the user cores -/

theorem conversionDone_word {n : Nat} {raw : Int} {ovr : Bool} {s : State} {c : HkcCore} {e : SeqEntry} (there : s.hkc.cores[n]? = some c)
    (user : n ≠ 0) (runs : c.st = .running) (here : c.lSeq[c.pos]? = some e) (plain : e.input ≠ 17) : ∃ u v : State,
    u = s.hkcWord n ovr false false (c.trunc (s.codeOf (c.lCoef.getD c.pos (0, 1)).1 (c.lCoef.getD c.pos (0, 1)).2 raw ovr)) ∧
    v = u.modCore n (fun d => { d with
      pos := if c.results e ≤ c.smp + 1 then d.pos + 1 else d.pos, smp := if c.results e ≤ c.smp + 1 then 0 else d.smp + 1, nrdy := !u.hkc.refRdy }) ∧
    conversionDone n raw ovr s = if c.results e ≤ c.smp + 1 ∧ c.lSeq.length ≤ c.pos + 1 then v else v.syscalBegin n true := by
  refine ⟨_, _, rfl, rfl, ?_⟩
  unfold conversionDone
  rw [core_of_at there]
  dsimp only
  rw [here]
  dsimp only
  rw [if_neg (by simp [user, runs]), if_neg plain]
  simp only [decide_eq_true_eq]

theorem syscalBegin_begins {n : Nat} {resume : Bool} {s : State} {c : HkcCore} (there : s.hkc.cores[n]? = some c) :
    s.syscalBegin n resume = { s with hkc := (s.syscalBegin n resume).hkc } ∧
    (s.syscalBegin n resume).hkc.cores[n]? = some { c with st := if s.syscalWaits n = true then .syscal else c.st } := by
  unfold State.syscalBegin
  split
  next => exact ⟨rfl, modCore_at (s := s.modHkc _) there⟩
  next => exact ⟨rfl, there⟩

/-- A conversion of a pass leaves its word, and the core at the next one or in the capture that waits (R273, R275, R278). -/
theorem conversionDone_moves {n : Nat} {raw : Int} {ovr : Bool} {s : State} {c : HkcCore} {e : SeqEntry} (there : s.hkc.cores[n]? = some c)
    (user : n ≠ 0) (runs : c.st = .running) (here : c.lSeq[c.pos]? = some e) (plain : e.input ≠ 17) (room : c.fifo.length < 64) :
    ∃ t d, conversionDone n raw ovr s = t ∧ t = { s with hkc := t.hkc, evt := t.evt } ∧ (ovr = false → t.evt = s.evt) ∧
      t.hkc.cores[n]? = some d ∧ d.fifo = c.fifo ++
        [fifoWord ovr c.nrdy c.probeFail false false (c.trunc (s.codeOf (c.lCoef.getD c.pos (0, 1)).1 (c.lCoef.getD c.pos (0, 1)).2 raw ovr))] ∧
      d.st = (if s.syscalWaits n = true ∧ (c.smp + 1 < c.results e ∨ c.pos + 1 < c.lSeq.length) then .syscal else .running) ∧
      d.pos = (if c.results e ≤ c.smp + 1 then c.pos + 1 else c.pos) ∧ d.smp = (if c.results e ≤ c.smp + 1 then 0 else c.smp + 1) ∧
      d.words = c.words + 1 := by
  obtain ⟨u, v, is_u, is_v, done_⟩ := conversionDone_word (raw := raw) (ovr := ovr) there user runs here plain
  obtain ⟨src, fifo, lost, words, raised, hkc, at_u, fits⟩ := hkcWord_meets (ovr := ovr) (mark := false) (abt := false)
    (code := c.trunc (s.codeOf (c.lCoef.getD c.pos (0, 1)).1 (c.lCoef.getD c.pos (0, 1)).2 raw ovr)) there
  obtain ⟨rfl, rfl, rfl, quiet⟩ := fits room
  have frame := hkcWord_frame n ovr false false (c.trunc (s.codeOf (c.lCoef.getD c.pos (0, 1)).1 (c.lCoef.getD c.pos (0, 1)).2 raw ovr)) s
  rw [← is_u] at hkc at_u frame quiet
  have at_v := modCore_at (f := fun d => { d with
      pos := if c.results e ≤ c.smp + 1 then d.pos + 1 else d.pos, smp := if c.results e ≤ c.smp + 1 then 0 else d.smp + 1, nrdy := !u.hkc.refRdy }) at_u
  rw [← is_v] at at_v
  have waits : v.syscalWaits n = s.syscalWaits n := by
    have run : v.hkc.sysRun = s.hkc.sysRun := by
      rw [is_v]
      exact (congrArg Hkc.sysRun hkc :)
    rw [State.syscalWaits, State.syscalWaits, run]
  have frame_v : v = { s with hkc := v.hkc, evt := u.evt } := by rw [is_v, frame]; rfl
  have evt_v : v.evt = u.evt := by rw [frame_v]
  by_cases last_ : c.results e ≤ c.smp + 1 ∧ c.lSeq.length ≤ c.pos + 1
  · rw [if_pos last_] at done_
    refine ⟨v, _, done_, by rw [evt_v]; exact frame_v, fun no => evt_v.trans (quiet no).2, at_v, rfl, ?_, rfl, rfl, rfl⟩
    exact runs.trans (if_neg (fun h => by have more := h.2; omega)).symm
  · rw [if_neg last_] at done_
    obtain ⟨begins, at_t⟩ := syscalBegin_begins (resume := true) at_v
    have evt_t : (v.syscalBegin n true).evt = u.evt := by rw [begins]; exact evt_v
    refine ⟨_, _, done_, ?_, fun no => evt_t.trans (quiet no).2, at_t, rfl, ?_, rfl, rfl, rfl⟩
    · rw [evt_t]
      exact begins.trans (by rw [frame_v])
    · have more : c.smp + 1 < c.results e ∨ c.pos + 1 < c.lSeq.length := by omega
      simp only [waits, more, and_true]
      rw [← runs]

/-- The end of a pass: HKC_DONEn, and the core idle or in the pass that follows (R274). -/
theorem endPass_ends {n : Nat} {s : State} {c : HkcCore} (there : s.hkc.cores[n]? = some c) (free : s.syscalWaits n = false) (asked : c.trig ≠ 0) :
    ∃ t d, s.endPass n = t ∧ t = { s with hkc := t.hkc, evt := t.evt } ∧ t.hkc.cores[n]? = some d ∧ d.st = .idle ∧ d.pass = (c.pass + 1) % 2 ^ 32 ∧
      t.evt.chanIn = s.evt.chanIn ++ (s.evt.takers (0x60 + n)).map (fun ch => ⟨ch, c.origin⟩) := by
  have at_u := modCore_at (s := s.hkcDone n) (f := fun c => { c with st := .idle, pass := (c.pass + 1) % 2 ^ 32, origin := none }) there
  have ends : s.endPass n = (s.hkcDone n).modCore n (fun c => { c with st := .idle, pass := (c.pass + 1) % 2 ^ 32, origin := none }) := by
    unfold State.endPass
    dsimp only
    have still : ((s.hkcDone n).modCore n (fun c => { c with st := .idle, pass := (c.pass + 1) % 2 ^ 32, origin := none })).syscalWaits n = false := free
    rw [still, if_neg Bool.false_ne_true]
    unfold State.contStart
    rw [core_of_at at_u]
    exact if_neg (fun h => asked h.2.2)
  refine ⟨_, _, ends, rfl, at_u, rfl, rfl, ?_⟩
  show (s.raise (0x60 + n) (s.core n).origin).evt.chanIn = _
  rw [core_of_at there]
  rfl

/-! ### Starts, EN and the discharge -/

theorem swStart_ignored {n : Nat} {s : State} {c : HkcCore} (there : s.hkc.cores[n]? = some c) (runs : c.st = .running) :
    s.swStart n = s.startIgn n := by
  unfold State.swStart
  rw [core_of_at there]
  exact if_pos runs

theorem swStart_starts {n : Nat} {s : State} {c : HkcCore} (there : s.hkc.cores[n]? = some c) (en : c.en = true) (trig : c.trig = 2)
    (idle : c.st = .idle) : s.swStart n = s.startPass n none := by
  unfold State.swStart
  rw [core_of_at there]
  dsimp only
  rw [if_neg (by simp [idle]), if_neg (by simp [en, trig]), idle]

/-- What is held for system calibration of a core goes; with no capture in progress nothing more (R280). -/
theorem dropSyscal_idle {n : Nat} {s : State} (none_ : s.hkc.sysRun = none) : ∃ q, s.dropSyscal n = { s with hkc := { s.hkc with sys := q } } := by
  unfold State.dropSyscal
  dsimp only
  split
  next => exact ⟨_, rfl⟩
  next r run => exact absurd (none_.symm.trans run) nofun

/-- EN cleared between passes (R280). -/
theorem hkcDisable_between {n : Nat} {s : State} {c : HkcCore} (there : s.hkc.cores[n]? = some c) (user : n ≠ 0) (en : c.en = true)
    (idle : c.st = .idle) (none_ : s.hkc.sysRun = none) : ∃ q, s.hkcDisable n = State.modCore n (fun d => { d with
      en := false, enWait := false, st := if d.sigma then .idle else .discharge, origin := none }) { s with hkc := { s.hkc with sys := q } } := by
  obtain ⟨q, drops⟩ := dropSyscal_idle (n := n) none_
  refine ⟨q, Eq.trans ?_ (congrArg (State.modCore n _) drops)⟩
  unfold State.hkcDisable
  rw [core_of_at there]
  dsimp only
  rw [if_neg user, if_neg (by simp [en]), none_, idle, if_neg (by simp)]

/-- EN cleared in a pass: the marker of the pass cut short goes first, with the words that the pass has written (R275, R280). -/
theorem hkcDisable_inPass {n : Nat} {s : State} {c : HkcCore} (there : s.hkc.cores[n]? = some c) (user : n ≠ 0) (en : c.en = true)
    (runs : c.st = .running) (none_ : s.hkc.sysRun = none) : ∃ q, s.hkcDisable n = State.modCore n (fun d => { d with
      en := false, enWait := false, st := if d.sigma then .idle else .discharge, origin := none })
        ((State.hkcWord n false true true (c.words : Nat) { s with hkc := { s.hkc with sys := q } }).hkcDone n) := by
  obtain ⟨q, drops⟩ := dropSyscal_idle (n := n) none_
  refine ⟨q, Eq.trans ?_ (congrArg (fun u => State.modCore n _ ((State.hkcWord n false true true (c.words : Nat) u).hkcDone n)) drops)⟩
  unfold State.hkcDisable
  rw [core_of_at there]
  dsimp only
  rw [if_neg user, if_neg (by simp [en]), none_, runs, if_pos (by simp)]

/-- The discharge ends; an EN that waited takes effect (R280). -/
theorem dischargeEnd_ends {n : Nat} {s : State} {c : HkcCore} (there : s.hkc.cores[n]? = some c) (discharging : c.st = .discharge) :
    dischargeEnd n s = if c.enWait then (s.modCore n (fun d => { d with st := .idle, enWait := false, en := d.en || c.enWait })).contStart n
      else s.modCore n (fun d => { d with st := .idle, enWait := false, en := d.en || c.enWait }) := by
  unfold dischargeEnd
  rw [core_of_at there]
  exact if_neg (not_not_intro discharging)

theorem contStart_enabled {n : Nat} {s : State} {c : HkcCore} (there : s.hkc.cores[n]? = some c) (en : c.en = true) (idle : c.st = .idle) :
    ∃ d, (s.contStart n).hkc.cores[n]? = some d ∧ d.en = true ∧ d.enWait = c.enWait ∧ d.st = (if c.trig = 0 then .running else .idle) := by
  unfold State.contStart
  rw [core_of_at there]
  by_cases cont : c.trig = 0
  · rw [if_pos ⟨en, idle, cont⟩, if_pos cont]
    obtain ⟨_, _, _, _, _, -, at_n⟩ := startPass_starts (origin := none) there
    exact ⟨_, at_n, en, rfl, rfl⟩
  · rw [if_neg (fun h => cont h.2.2), if_neg cont]
    exact ⟨c, there, en, rfl, idle⟩

/-! ### Sequences, FIFOs, captures -/

theorem seqWrite_changes {n e : Nat} {v : Word} {s : State} {c : HkcCore} (there : s.hkc.cores[n]? = some c) (user : n ≠ 0) (on : s.power.hkc = .on) :
    s.seqWrite n e v = if s.seqLegal n { c with seq := setAt (seqEntryOf v) e c.seq } then
        s.modCore n (fun c => { c with seq := setAt (seqEntryOf v) e c.seq })
      else s.modCore n (fun c => { c with cfgErr := true }) := by
  unfold State.seqWrite State.seqChange
  rw [if_neg (by simp [user, on]), core_of_at there]

theorem fifoRead_firmware {n m : Nat} {s : State} (fw : isFirmware m = true) (on : s.power.hkc = .on) : s.fifoRead n m =
    s.modCore n (fun c => match c.fifo with | [] => { c with overread := sat6 c.overread } | _ :: ws => { c with fifo := ws }) :=
  if_neg (by simp [fw, on])

/-- What system calibration holds, and the capture in progress (R278). -/
def State.calib (s : State) : Option Syscal × Option SyscalRun := (s.hkc.sys, s.hkc.sysRun)

theorem hkcWord_calib (n : Nat) (ovr mark abt : Bool) (code : Int) (s : State) : (s.hkcWord n ovr mark abt code).calib = s.calib := by
  have ovr_ (u : State) : (u.hkcOvr n).calib = u.calib := by
    unfold State.hkcOvr
    split <;> rfl
  unfold State.hkcWord
  dsimp only
  split
  · split
    · exact (ovr_ _).trans (ovr_ (s.modCore n _))
    · exact ovr_ (s.modCore n _)
  · split
    · exact ovr_ (s.modCore n _)
    · rfl

theorem startPass_calib (n : Nat) (origin : Option Nat) (s : State) : (s.startPass n origin).calib = s.calib := hkcWord_calib _ _ _ _ _ _

theorem contStart_calib (n : Nat) (s : State) : (s.contStart n).calib = s.calib := by
  unfold State.contStart
  split
  · exact startPass_calib _ _ _
  · rfl

/-- A capture completes: its mean is held, and the core's next pass is what follows it (R278). -/
theorem captureDone_holds {n : Nat} {raws : List Int} {ovr : Bool} {s : State} {r : SyscalRun} {q : Syscal} (run : s.hkc.sysRun = some r)
    (core : r.core = n) (begun : r.waits = false) (whole : raws.length = (s.core n).captureLen) (held : s.hkc.sys = some q) :
    ∃ t cap, captureDone n raws ovr s = t ∧ t = { s with hkc := t.hkc, hosts := t.hosts, evt := t.evt } ∧ t.hkc.sysRun = none ∧
      cap = ({ v := ((viewInt (s.kT * (((raws.map satCode).sum : Rat) / raws.length)) : Int) : Rat), atX := s.now, ovr := ovr } : Capture) ∧
      t.hkc.sys = some (if r.step = 0 then { q with cz := some cap } else { q with cf := some cap }) := by
  have follows (u : State) : ∃ v, (if r.resume then u.startPass n (u.core n).origin else u.contStart n) = v ∧
      v = { u with hkc := v.hkc, evt := v.evt } ∧ v.calib = u.calib := by
    split
    · exact ⟨_, rfl, startPass_frame _ _ _, startPass_calib _ _ _⟩
    · exact ⟨_, rfl, contStart_frame _ _, contStart_calib _ _⟩
  unfold captureDone
  rw [run]
  dsimp only
  rw [if_neg (by simp [core, begun, whole])]
  generalize its : State.modCore n _ _ = u
  obtain ⟨v, is, frame, calib⟩ := follows u
  rw [is]
  subst its
  refine ⟨_, _, rfl, ?_, (congrArg Prod.snd calib :), rfl, (congrArg Prod.fst calib).trans ?_⟩
  · rw [frame]
    rfl
  · show Option.map _ s.hkc.sys = _
    rw [held]
    rfl

/-! ### The obligation -/

/-- Settles O56: the reference and the rounds of core 0, the passes of the user cores, their FIFOs and sequences, and a capture's mean. -/
theorem convertersRun : Obligations.ConvertersRun := by
  unfold Obligations.ConvertersRun
  refine ⟨fun s on => ⟨congrArg Host.Outcome.next (if_pos on), fun en late => ?_⟩,
    fun s r runs => ⟨fun before => ?_, fun last_ => ?_⟩,
    fun s n c there user => ⟨fun raw e ovr code runs here plain room is => ?_, fun p runs over_ plain asked free => ?_,
      fun on runs => ?_, fun on en trig idle => ?_, fun en idle none_ => ?_, fun runs none_ en room => ?_, fun discharging waits => ?_,
      fun discharging free => ?_, fun e v on => ⟨fun legal => ?_, fun bad => ?_⟩⟩,
    fun s n m c there on => ⟨?_, fun fw => ?_, fun low high => ?_⟩,
    fun s v on => ⟨fun room => ?_, fun full => ?_⟩, fun s n raws ovr r q run core begun whole held => ?_⟩
  · obtain ⟨t, is, rest⟩ := refReadySet_begins on en late
    exact ⟨t, congrArg Host.Outcome.next is, rest⟩
  · obtain ⟨slot, rounds⟩ := slotEnd_next (r := r) runs before
    exact ⟨_, rfl, slot, rounds, fun from_ => slotEnd_zero runs from_ before⟩
  · exact ⟨_, rfl, slotEnd_round runs last_⟩
  · obtain ⟨t, d, moves, rest⟩ := conversionDone_moves (raw := raw) (ovr := ovr) there user runs here plain room
    rw [is]
    exact ⟨t, d, congrArg Host.Outcome.next moves, rest⟩
  · have ends : passEnd n.val p false s = s.endPass n.val := by
      unfold passEnd
      rw [core_of_at there]
      dsimp only
      rw [if_neg (by simp [user, runs, over_]), plain]
      rfl
    obtain ⟨t, d, is, rest⟩ := endPass_ends there free asked
    exact ⟨t, d, congrArg Host.Outcome.next (ends.trans is), rest⟩
  · exact ⟨_, congrArg Host.Outcome.next ((if_pos on).trans (swStart_ignored there runs)), rfl, modCore_at there⟩
  · obtain ⟨_, _, _, _, _, -, at_n⟩ := startPass_starts (origin := none) there
    exact ⟨_, _, congrArg Host.Outcome.next ((if_pos on).trans (swStart_starts there en trig idle)), startPass_frame _ _ _, at_n, rfl, rfl, rfl⟩
  · obtain ⟨q, disables⟩ := hkcDisable_between there user en idle none_
    exact ⟨_, _, congrArg Host.Outcome.next disables, rfl, modCore_at (s := { s with hkc := { s.hkc with sys := q } }) there, rfl, rfl, rfl⟩
  · obtain ⟨q, disables⟩ := hkcDisable_inPass there user en runs none_
    obtain ⟨_, fifo, lost, words, raised, -, at_n, fits⟩ := hkcWord_meets (s := { s with hkc := { s.hkc with sys := q } }) (ovr := false)
      (mark := true) (abt := true) (code := (c.words : Nat)) there
    obtain ⟨rfl, -⟩ := fits room
    refine ⟨_, _, congrArg Host.Outcome.next disables, ?_, modCore_at (s := State.hkcDone _ _) at_n, rfl, rfl, rfl⟩
    rw [hkcWord_frame]
    rfl
  · have ends := (dischargeEnd_ends there discharging).trans (if_pos waits)
    obtain ⟨d, at_n, en, waited, st⟩ := contStart_enabled (modCore_at (f := fun d => { d with st := .idle, enWait := false, en := d.en || c.enWait }) there)
      (by simp [waits]) rfl
    refine ⟨_, d, congrArg Host.Outcome.next ends, ?_, at_n, en, waited, st⟩
    rw [contStart_frame]
    rfl
  · refine ⟨_, congrArg Host.Outcome.next ((dischargeEnd_ends there discharging).trans (if_neg (by simp [free]))), rfl, (modCore_at there).trans ?_⟩
    rw [free, Bool.or_false, ← free]
  · refine ⟨_, congrArg Host.Outcome.next ((seqWrite_changes there user on).trans (if_pos legal)), rfl, modCore_at there⟩
  · refine ⟨_, congrArg Host.Outcome.next ((seqWrite_changes there user on).trans (if_neg (by rw [bad]; decide))), rfl, modCore_at there⟩
  · exact ⟨_, congrArg Host.Outcome.next (if_pos on), rfl, modCore_at there⟩
  · have firm : isFirmware m.val = true := by simp [isFirmware, fw]
    refine ⟨_, _, congrArg Host.Outcome.next (fifoRead_firmware firm on), rfl, modCore_at there, fun w ws is => ?_, fun is => ?_⟩
    · rw [is]
    · rw [is]
  · have host : isFirmware m.val = false := by
      unfold isFirmware
      rw [decide_eq_false (by omega), decide_eq_false (by omega)]
      rfl
    exact congrArg Host.Outcome.next (if_pos (.inl host))
  · exact congrArg Host.Outcome.next ((if_neg (by simp [on])).trans (if_neg (by omega)))
  · exact congrArg Host.Outcome.next ((if_neg (by simp [on])).trans (if_pos full))
  · obtain ⟨t, cap, is, rest⟩ := captureDone_holds run core begun whole held
    exact ⟨t, cap, congrArg Host.Outcome.next is, rest⟩

end Sys2Proof.Machine

/-! PROOFS. The recorder stages, writes and logs (O57). -/

namespace Sys2Proof.Machine

/-! ### What staging, loss and freezing out change -/

theorem gapDue_frame (i k shed : Nat) (s : State) : ∃ gapAt due, s.gapDue i k shed =
    { s with rcd := { s.rcd with gapAt := gapAt, logDue := due } } := by
  unfold State.gapDue State.owesLog
  dsimp only
  repeat' split
  all_goals exact ⟨_, _, rfl⟩

theorem loseBlock_frame (i k : Nat) (s : State) : ∃ rings gapAt due, s.loseBlock i k =
    { s with rcd := { s.rcd with rings := rings, gapAt := gapAt, logDue := due } } := by
  obtain ⟨gapAt, due, told⟩ := gapDue_frame i k
    ((s.modRing i k (fun r => { r with seq := (r.seq + 1) % 2 ^ 32, shed := sat32 r.shed, gap := true })).ring i k).shed
    (s.modRing i k (fun r => { r with seq := (r.seq + 1) % 2 ^ 32, shed := sat32 r.shed, gap := true }))
  exact ⟨_, gapAt, due, told⟩

theorem loseBlocks_frame (k : Nat) (is : List Nat) (s : State) : ∃ rings gapAt due, is.foldl (fun s i => s.loseBlock i k) s =
    { s with rcd := { s.rcd with rings := rings, gapAt := gapAt, logDue := due } } := by
  induction is generalizing s with
  | nil => exact ⟨_, _, _, rfl⟩
  | cons i is ih =>
    obtain ⟨_, _, _, one⟩ := loseBlock_frame i k s
    obtain ⟨rings, gapAt, due, rest⟩ := ih (s.loseBlock i k)
    exact ⟨rings, gapAt, due, rest.trans (by rw [one])⟩

/-- Blocks of several instances are staged one after the other (R342, R343). -/
theorem stageBlocks_frame (p : State → Stamp) (k : Nat) (entries : State → Nat → List (List Byte)) (is : List Nat) (s : State) :
    ∃ rings new, is.foldl (fun s i => s.stageBlock (p s) i k (entries s i)) s =
      { s with rcd := { s.rcd with rings := rings, stage := s.rcd.stage ++ new } } ∧ new.length = is.length := by
  induction is generalizing s with
  | nil => exact ⟨_, [], by rw [List.append_nil]; rfl, rfl⟩
  | cons i is ih =>
    obtain ⟨rings, new, rest, len⟩ := ih (s.stageBlock (p s) i k (entries s i))
    obtain ⟨b, staged⟩ : ∃ b, (s.stageBlock (p s) i k (entries s i)).rcd.stage = s.rcd.stage ++ [b] := ⟨_, rfl⟩
    refine ⟨rings, b :: new, ?_, by rw [List.length_cons, len, List.length_cons]⟩
    rw [List.foldl_cons, rest, staged, List.append_assoc]
    rfl

/-- The latches of the clusters drained, one cluster at a time (R338). -/
theorem drainLatches_clu (p : Nat → Bool) (s : State) (c : Nat) :
    (s.drainLatches p).clu c = if p c then { s.clu c with latch := none } else s.clu c := by
  unfold State.drainLatches State.clu
  rw [List.getD_eq_getElem?_getD, getElem?_mapIx, List.getD_eq_getElem?_getD, Nat.zero_add]
  cases s.clusters[c]? with
  | some k => rfl
  | none => split <;> rfl

/-! ### The Skim stream -/

/-- A snapshot that the buffer has room for (R339, R342). -/
theorem skimBlocks_stages {b : Int} {s : State} (open_ : s.rcd.frozen = false) (room : s.rcd.fill ≤ stageSize * 7 / 8) :
    s.skimBlocks b = { s with rcd := (s.skimBlocks b).rcd } ∧ (s.skimBlocks b).rcd.stage.length = s.rcd.stage.length + s.regions.length ∧
    (s.skimBlocks b).rcd.snaps = (s.rcd.snaps ++ [((mailOf (s.time.taiOf b)).1, (mailOf (s.time.taiOf b)).2, s.snapBytes b)]).drop
      ((s.rcd.snaps.length + 1) - 2) := by
  obtain ⟨rings, new, staged, len⟩ := stageBlocks_frame (fun s => s.stampAt b) 1 (fun s i => (s.cellsOf i).map (s.recTake b)) s.regions s
  have blocks : ∃ u : State, s.skimBlocks b = u.recQos ∧ u = { s with rcd := { s.rcd with
      rings := rings, stage := s.rcd.stage ++ new,
      snaps := (s.rcd.snaps ++ [((mailOf (s.time.taiOf b)).1, (mailOf (s.time.taiOf b)).2, s.snapBytes b)]).drop ((s.rcd.snaps.length + 1) - 2) } } := by
    unfold State.skimBlocks
    rw [if_neg (by simp [open_]), if_neg (by omega)]
    dsimp only
    rw [staged]
    exact ⟨_, rfl, rfl⟩
  obtain ⟨u, is, form⟩ := blocks
  rw [is, recQos_rcd, form]
  refine ⟨rfl, ?_, rfl⟩
  show (s.rcd.stage ++ new).length = _
  rw [List.length_append, len]

/-- A snapshot that is shed (R343). -/
theorem skimBlocks_sheds {b : Int} {s : State} (open_ : s.rcd.frozen = false) (full : stageSize * 7 / 8 < s.rcd.fill) :
    ∃ rings gapAt due, s.skimBlocks b = { s with rcd := { s.rcd with
      rings := rings, gapAt := gapAt, logDue := due, shedCnt := sat32 s.rcd.shedCnt, shedW1c := true } } := by
  obtain ⟨rings, gapAt, due, lost⟩ := loseBlocks_frame 1 s.regions s
  refine ⟨rings, gapAt, due, ?_⟩
  unfold State.skimBlocks
  rw [if_neg (by simp [open_]), if_pos full, lost]

theorem snaps_two {α : Type} (l : List α) (a : α) : ((l ++ [a]).drop ((l.length + 1) - 2)).length ≤ 2 ∧
    ((l ++ [a]).drop ((l.length + 1) - 2)).getLast? = some a := by
  refine ⟨?_, ?_⟩
  · rw [List.length_drop, List.length_append, List.length_singleton]
    omega
  · rw [List.getLast?_drop, if_neg, List.getLast?_concat]
    rw [List.length_append, List.length_singleton]
    omega

theorem skimSnapshot_takes {s s1 : State} {b : Int} (on : s.rcd.on = true) (rate : s.rcd.f ≠ 0) (at_ : s.toSkim = some (b, s1)) :
    skimSnapshot s = (s1.skimBlocks b).drainLatches (fun _ => true) := by
  unfold skimSnapshot
  rw [if_neg (by simp [on, rate]), at_]

/-! ### Full-rate capture -/

theorem ticks_frozen (k : Nat) (s : State) : (ticks k s).rcd.frozen = s.rcd.frozen := by
  have wraps (u : State) : (wrapWns u).rcd.frozen = u.rcd.frozen := by unfold wrapWns; split <;> rfl
  have top (u : State) : (wrapSph u).rcd.frozen = u.rcd.frozen := by unfold wrapSph; split <;> rfl
  have renews (a b : Nat) (u : State) : (capRenew a b u).rcd.frozen = u.rcd.frozen := by unfold capRenew; split <;> rfl
  unfold ticks
  dsimp only
  rw [renews, top, eraAuto_frame]
  exact wraps _

/-- The advance of the counters neither freezes the recorder nor releases it. -/
theorem advanceFor_frozen : ∀ (fuel d : Nat) (s : State), (advanceFor fuel d s).rcd.frozen = s.rcd.frozen
  | 0, _, _ => rfl
  | fuel + 1, d, s => by
    unfold advanceFor
    split
    · rfl
    · exact (advanceFor_frozen fuel _ _).trans (ticks_frozen _ s)

theorem reach_frozen {w : Nat} {x : Int} {s t : State} (h : reach w x s = some t) : t.rcd.frozen = s.rcd.frozen := by
  rw [reach_advances h]
  exact advanceFor_frozen _ _ _

/-- What one capture block leaves: its ring's counts, and at most the block itself, none in a freeze (R341, R348). -/
structure Rec.Took (r : Rec) (n : Nat) (q : Rec) : Prop where
  frame : q = { r with
    rings := q.rings, gapAt := q.gapAt, logDue := q.logDue, capDrop := q.capDrop, shedW1c := q.shedW1c, stage := q.stage }
  staged : ∃ new, q.stage = r.stage ++ new ∧ (r.frozen = true → new = []) ∧ new.length ≤ n

theorem capBlock_takes (b : Int) (i : Nat) (cells : List Nat) (s : State) :
    s.capBlock b i cells = { s with rcd := (s.capBlock b i cells).rcd } ∧ s.rcd.Took 1 (s.capBlock b i cells).rcd := by
  have nothing {q : Rec} (same : q.stage = s.rcd.stage) : ∃ new, q.stage = s.rcd.stage ++ new ∧ (s.rcd.frozen = true → new = []) ∧ new.length ≤ 1 :=
    ⟨[], by rw [same, List.append_nil], fun _ => rfl, Nat.zero_le _⟩
  unfold State.capBlock
  split
  · exact ⟨rfl, rfl, nothing rfl⟩
  split
  · exact ⟨rfl, rfl, nothing rfl⟩
  next open_ =>
  split
  · obtain ⟨rings, gapAt, due, lost⟩ := loseBlock_frame i 2 s
    rw [lost]
    exact ⟨rfl, rfl, nothing rfl⟩
  · exact ⟨rfl, rfl, [_], rfl, fun frozen => absurd frozen open_, Nat.le_refl _⟩

theorem capBlocks_take (b : Int) (cells : State → Nat → List Nat) (is : List Nat) (s : State) :
    is.foldl (fun s i => s.capBlock b i (cells s i)) s = { s with rcd := (is.foldl (fun s i => s.capBlock b i (cells s i)) s).rcd } ∧
    s.rcd.Took is.length (is.foldl (fun s i => s.capBlock b i (cells s i)) s).rcd := by
  induction is generalizing s with
  | nil => exact ⟨rfl, rfl, [], by rw [List.append_nil]; rfl, fun _ => rfl, Nat.le_refl _⟩
  | cons i is ih =>
    obtain ⟨one, took⟩ := capBlock_takes b i (cells s i) s
    obtain ⟨rest, took2⟩ := ih (s.capBlock b i (cells s i))
    obtain ⟨new, stage, frozen, len⟩ := took.staged
    obtain ⟨new2, stage2, frozen2, len2⟩ := took2.staged
    rw [List.foldl_cons]
    refine ⟨rest.trans (by rw [one]), took2.frame.trans (by rw [took.frame]), new ++ new2, ?_, fun still => ?_, ?_⟩
    · rw [stage2, stage, List.append_assoc]
    · rw [frozen still, frozen2 (by rw [took.frame]; exact still)]
      rfl
    · rw [List.length_append, List.length_cons]
      omega

/-- The capture of an instant that the counters have reached (R341). -/
theorem captureBlock_takes {s s1 : State} {v : Int × Nat × List Nat} (on : s.rcd.on = true) (en : s.rcd.capEn = true) (next : s.nextCapture = some v)
    (reached : reach 10000 v.1 s = some s1) : ∃ (u : State) (p : Nat → Bool), captureBlock s = u.recQos.drainLatches p ∧
      u = { s1 with rcd := u.rcd } ∧ ({ s1.rcd with lastCap := some v.1 } : Rec).Took s1.regions.length u.rcd := by
  have blocks := capBlocks_take v.1 (fun s i => (v.2.2.filter (State.boundaryAt { s1 with rcd := { s1.rcd with lastCap := some v.1 } } v.2.1)).filter
    (fun n => (s.entry n).inst = i)) s1.regions { s1 with rcd := { s1.rcd with lastCap := some v.1 } }
  unfold captureBlock
  rw [if_neg (by simp [on, en]), next]
  dsimp only
  rw [reached]
  exact ⟨_, _, rfl, blocks.1, blocks.2⟩

/-! ### A block is written -/

theorem headerBytes_length (s : State) (i : Nat) : (s.headerBytes i).length = 640 := by
  have list : (((s.rcd.capNow ++ List.replicate 256 0xFFFF).take 256).flatMap (leBytes 2)).length = 512 := by
    rw [length_flatMap_const (k := 2) _ (fun _ _ => length_leBytes _ _), List.length_take, List.length_append, List.length_replicate]
    omega
  unfold State.headerBytes
  simp only [List.length_append, length_leBytes, list]

/-- A header's refresh writes its 640 bytes on each channel, and nothing else (R344, R346). -/
theorem refreshHeader_mem {i : Nat} {s : State} {a : Nat} (out : ∀ c, c < 2 → a < chBase c + s.rcd.place.getD i 0 ∨ chBase c + s.rcd.place.getD i 0 + 640 ≤ a) :
    Mem.read (s.refreshHeader i).mem a = Mem.read s.mem a := by
  have writes (bs : List Byte) (len : bs.length = 640) (cs : List Nat) (small : ∀ c ∈ cs, c < 2) (m : List Host.Cell) :
      Mem.read (cs.foldl (fun m c => Mem.writeN m (chBase c + s.rcd.place.getD i 0) bs) m) a = Mem.read m a := by
    induction cs generalizing m with
    | nil => rfl
    | cons c cs ih =>
      rw [List.foldl_cons, ih (fun c mem => small c (List.mem_cons_of_mem _ mem))]
      exact read_writeN_other (by rw [len]; exact out c (small c List.mem_cons_self))
  unfold State.refreshHeader
  split
  · refine writes _ (headerBytes_length _ i) _ (fun c mem => ?_) s.mem
    have two := (List.mem_filter.1 mem).1
    simp only [List.mem_cons, List.not_mem_nil, or_false] at two
    omega
  · rfl

/-- Bytes appended to a ring land at its addresses alone (R345). -/
theorem ringWrite_other {s : State} {i k a : Nat} : ∀ {bs : List Byte} {p : Nat} {m : List Host.Cell},
    (∀ j, j < bs.length → a ∉ s.ringAddrs i k ((p + j - (s.ring i k).base) % (s.ring i k).size)) →
    Mem.read (ringWrite s i k p bs m) a = Mem.read m a
  | [], _, _, _ => rfl
  | b :: bs, p, m, out => by
    have here : ∀ (as : List Nat) (m : List Host.Cell), a ∉ as → Mem.read (as.foldl (fun m a => Mem.write m a b) m) a = Mem.read m a := by
      intro as
      induction as with
      | nil => intros; rfl
      | cons x xs ih =>
        intro m not
        rw [List.foldl_cons, ih _ (fun mem => not (List.mem_cons_of_mem _ mem)), read_write_other]
        exact fun same => not (same ▸ List.mem_cons_self)
    unfold ringWrite
    dsimp only
    rw [ringWrite_other fun j small => ?_, here _ _ ?_]
    · exact out 0 (Nat.zero_lt_succ _)
    · have next := out (j + 1) (Nat.succ_lt_succ small)
      rwa [← Nat.add_assoc, Nat.add_right_comm] at next

/-- A block is appended to its ring: W moves on, and memory changes at its own addresses (R345). -/
theorem ringPut_puts {i k : Nat} {bs : List Byte} {s : State} {r : Ring} (there : s.ringAt i k = some r) :
    ((s.ringPut i k bs).ring i k).w = (if r.size = 0 then r.w else r.w + bs.length) ∧
    (∀ j l, ¬(j = i ∧ l = k) → (s.ringPut i k bs).ring j l = s.ring j l) ∧
    (∀ a, (∀ j, j < bs.length → a ∉ s.ringAddrs i k ((r.w + j - r.base) % r.size)) → Mem.read (s.ringPut i k bs).mem a = Mem.read s.mem a) := by
  have its := ring_of_at there
  unfold State.ringPut
  rw [its]
  by_cases empty : r.size = 0
  · rw [if_pos empty, if_pos empty]
    exact ⟨congrArg Ring.w its, fun _ _ _ => rfl, fun _ _ => rfl⟩
  · rw [if_neg empty, if_neg empty]
    refine ⟨?_, fun j l other => modRing_ring_away other _ _, fun a out => ?_⟩
    · exact congrArg Ring.w (modRing_ring_at (s := { s with mem := _ }) there _)
    · exact ringWrite_other fun j small => by rw [its]; exact out j small

theorem ringAt_of {s : State} {i k : Nat} {l : List Ring} {r : Ring} (at_i : s.rcd.rings[i]? = some l) (at_k : l[k]? = some r) : s.ringAt i k = some r := by
  rw [State.ringAt, getD_of_some at_i]
  exact at_k

theorem refreshHeader_ring (i j k : Nat) (s : State) : (s.refreshHeader i).ring j k = s.ring j k := by rw [State.ring, refreshHeader_rings]; rfl

/-- The oldest staged block goes to its ring and its region's header (R343, R345, R346). -/
theorem blockWriteDone_writes {s : State} {b : Block} {bs : List Block} {r : Ring} (stage : s.rcd.stage = b :: bs) (there : s.ringAt b.inst b.ring = some r) :
    blockWriteDone s = { s with rcd := (blockWriteDone s).rcd, mem := (blockWriteDone s).mem } ∧ (blockWriteDone s).rcd.stage = bs ∧
    ((blockWriteDone s).ring b.inst b.ring).w = (if r.size = 0 then r.w else r.w + b.bytes.length) ∧
    (∀ i k, ¬(i = b.inst ∧ k = b.ring) → (blockWriteDone s).ring i k = s.ring i k) ∧
    (∀ a, (∀ j, j < b.bytes.length → a ∉ s.ringAddrs b.inst b.ring ((r.w + j - r.base) % r.size)) →
      (∀ c, c < 2 → a < chBase c + s.rcd.place.getD b.inst 0 ∨ chBase c + s.rcd.place.getD b.inst 0 + 640 ≤ a) →
      Mem.read (blockWriteDone s).mem a = Mem.read s.mem a) := by
  have writes : ∃ u v : State, blockWriteDone s = (u.refreshHeader b.inst).recQos ∧ u = v.ringPut b.inst b.ring b.bytes ∧
      v = { s with rcd := { s.rcd with stage := bs } } := by
    unfold blockWriteDone
    rw [stage]
    exact ⟨_, _, rfl, rfl, rfl⟩
  obtain ⟨u, v, is, put, form⟩ := writes
  obtain ⟨w, rings, mem⟩ := ringPut_puts (s := v) (bs := b.bytes) (r := r) (by rw [form]; exact there)
  rw [← put] at w rings mem
  have rcd : u.rcd = { v.rcd with rings := u.rcd.rings } := by rw [put]; exact ringPut_rings _ _ _ _
  have ring (i k : Nat) : (blockWriteDone s).ring i k = u.ring i k := by
    rw [is, recQos_rcd]
    exact refreshHeader_ring b.inst i k u
  refine ⟨?_, ?_, ?_, fun i k other => ?_, fun a away header => ?_⟩
  · rw [is, recQos_rcd, refreshHeader_frame, put, ringPut_frame, form]
  · rw [is, recQos_rcd]
    show (u.refreshHeader b.inst).rcd.stage = bs
    rw [refreshHeader_rings, rcd, form]
  · rw [ring]
    exact w
  · rw [ring, rings i k other, form]
    rfl
  · have placed : u.rcd.place = s.rcd.place := by rw [rcd, form]
    rw [is, recQos_rcd]
    show Mem.read (u.refreshHeader b.inst).mem a = _
    rw [refreshHeader_mem (by rw [placed]; exact header), mem a (by rw [form]; exact away), form]

/-! ### The loss of a channel -/

theorem refreshAll_rcd (s : State) : ∃ seq, s.refreshAll.rcd = { s.rcd with hdrSeq := seq } := by
  unfold State.refreshAll
  refine foldl_holds (fun t => ∃ seq, t.rcd = { s.rcd with hdrSeq := seq }) _ (fun u i held => ?_) _ s ⟨_, rfl⟩
  obtain ⟨seq, held⟩ := held
  exact ⟨_, (refreshHeader_rings i u).trans (by rw [held])⟩

/-- A channel is lost while the other serves: the Skim and capture rings halve, from W on (R350). -/
theorem ddrChannelFail_halves {ch : Nat} {s : State} (ok : s.chOk ch = true) (other : s.chOk (1 - ch) = true) :
    ∃ t, ddrChannelFail ch s = t ∧ t = { s with rcd := t.rcd, mem := t.mem } ∧ t.rcd.chLost = setAt true ch s.rcd.chLost ∧
      t.rcd.rings = s.rcd.rings.map (fun l => mapIx (fun k r => if k = 0 then r else r.halve false) 0 l) := by
  have owes (is : List Nat) (body : State → Nat → List Byte) (u : State) : ∃ due, is.foldl (fun s i => s.owesLog 9 [i] (body s i)) u =
      { u with rcd := { u.rcd with logDue := due } } := by
    induction is generalizing u with
    | nil => exact ⟨_, rfl⟩
    | cons i is ih =>
      obtain ⟨d, one⟩ : ∃ d, u.owesLog 9 [i] (body u i) = { u with rcd := { u.rcd with logDue := d } } := by
        unfold State.owesLog
        split <;> exact ⟨_, rfl⟩
      obtain ⟨due, rest⟩ := ih (u.owesLog 9 [i] (body u i))
      exact ⟨due, rest.trans (by rw [one])⟩
  unfold ddrChannelFail
  rw [if_neg (by simp [ok]), other]
  dsimp only
  obtain ⟨due, told⟩ := owes allInsts (fun s i => s.lossBody i ch) (State.refreshAll { s with rcd := { s.rcd with
    chLost := setAt true ch s.rcd.chLost, rings := s.rcd.rings.map (fun l => mapIx (fun k r => if k = 0 then r else r.halve false) 0 l) } })
  obtain ⟨seq, rcd⟩ := refreshAll_rcd { s with rcd := { s.rcd with
    chLost := setAt true ch s.rcd.chLost, rings := s.rcd.rings.map (fun l => mapIx (fun k r => if k = 0 then r else r.halve false) 0 l) } }
  have frame := refreshAll_frame { s with rcd := { s.rcd with
    chLost := setAt true ch s.rcd.chLost, rings := s.rcd.rings.map (fun l => mapIx (fun k r => if k = 0 then r else r.halve false) 0 l) } }
  refine ⟨_, told, ?_, ?_, ?_⟩
  · rw [frame]
  · rw [rcd]
  · rw [rcd]

/-- The rings of a region with its Skim and capture rings halved. -/
theorem halved_ring {s t : State} (halved : t.rcd.rings = s.rcd.rings.map (fun l => mapIx (fun k r => if k = 0 then r else r.halve false) 0 l))
    (i k : Nat) : t.ring i k = if k = 0 then s.ring i k else (s.ring i k).halve false := by
  unfold State.ring
  rw [halved, List.getD_eq_getElem?_getD, List.getD_eq_getElem?_getD, List.getD_eq_getElem?_getD, List.getD_eq_getElem?_getD, List.getElem?_map]
  have none_ : ({} : Ring) = if k = 0 then ({} : Ring) else ({} : Ring).halve false := by split <;> rfl
  cases s.rcd.rings[i]? with
  | none => exact none_
  | some l =>
    show ((mapIx _ 0 l)[k]?).getD {} = if k = 0 then (l[k]?).getD {} else ((l[k]?).getD {}).halve false
    rw [getElem?_mapIx, Nat.zero_add]
    cases l[k]? with
    | none => exact none_
    | some r => rfl

/-! ### The log -/

theorem markRing_at {s : State} {i k : Nat} {r : Ring} (kind : k = 1 ∨ k = 2) (there : s.ringAt i k = some r) :
    (s.markRing i).ring i k = { r with marked := true } := by
  rw [State.markRing]
  obtain rfl | rfl := kind
  · rw [modRing_ring_away (by simp), modRing_ring_at there]
  · rw [modRing_ring_at (r := r) (by rw [modRing_ringAt, if_neg (by simp)]; exact there)]

/-- Firmware's own MARK (R347, R348). -/
theorem logRecordWrite_marks {s : State} {i : Nat} (v : Word) (fw : s.firmware = true) :
    logRecordWrite 2 [i] v s = (s.logTo 2 [i] s.stamp (leBytes 4 v.toNat ++ leBytes 1 4)).markRing i := by
  unfold logRecordWrite
  rw [if_neg (by simp [fw]), if_pos rfl]
  exact logMark_one i v 4 s

theorem logRecordWrite_none {s : State} {kind : Nat} {insts : List Nat} (v : Word) (fw : s.firmware = true) (other : kind ≠ 2)
    (none_ : s.rcd.logDue.find? (fun q => decide (q.kind = kind)) = none) : logRecordWrite kind insts v s = s := by
  unfold logRecordWrite
  rw [if_neg (by simp [fw]), if_neg other, none_]

/-- The record that an occurrence owes the log (R347, log 117). -/
theorem logRecordWrite_owed {s : State} {kind : Nat} {insts : List Nat} {q : LogDue} (v : Word) (fw : s.firmware = true) (other : kind ≠ 2)
    (due : s.rcd.logDue.find? (fun q => decide (q.kind = kind)) = some q) : logRecordWrite kind insts v s = State.logTo kind q.insts q.at_ q.body
      { s with rcd := { s.rcd with logDue := removeFirst (fun r => decide (r.kind = kind)) s.rcd.logDue } } := by
  unfold logRecordWrite
  rw [if_neg (by simp [fw]), if_neg other, due]

/-! ### The obligation -/

/-- Settles O57: the Skim stream and the capture, the block written, the lost channel, the log, and the control bits. -/
theorem recorderRecords : Obligations.RecorderRecords := by
  unfold Obligations.RecorderRecords
  refine ⟨fun s s1 b on rate at_ open_ => ⟨fun room => ?_, fun full => ?_⟩, fun s off => congrArg Host.Outcome.next (if_pos off),
    fun s s1 v on en next reached => ?_, fun s b bs l r stage at_i at_k => ?_, fun s ch ok other here => ?_,
    fun s i v l r fw on here at_i at_0 size => ⟨?_, fun kind insts other => ⟨fun none_ => ?_, fun q due plain only => ?_⟩⟩,
    fun s v off => congrArg Host.Outcome.next (if_pos off), fun s on idle => ⟨?_, ?_⟩,
    fun s on runs => ⟨fun open_ => ?_, fun frozen => ⟨?_, ?_⟩⟩, fun s v on => congrArg Host.Outcome.next (if_pos on)⟩
  · obtain ⟨frame, stage, snaps⟩ := skimBlocks_stages (b := b) open_ room
    obtain ⟨two, last_⟩ := snaps_two s1.rcd.snaps ((mailOf (s1.time.taiOf b)).1, (mailOf (s1.time.taiOf b)).2, s1.snapBytes b)
    have clu (c : Nat) : (s1.skimBlocks b).clu c = s1.clu c := by rw [frame]; rfl
    refine ⟨_, congrArg Host.Outcome.next (skimSnapshot_takes on rate at_), ?_, fun c => ?_, stage, ?_, ?_⟩
    · unfold State.drainLatches
      rw [frame]
    · rw [drainLatches_clu, if_pos rfl, clu]
    · exact (congrArg List.length snaps).trans_le two
    · exact (congrArg List.getLast? snaps).trans last_
  · obtain ⟨rings, gapAt, due, sheds⟩ := skimBlocks_sheds (b := b) open_ full
    have clu (c : Nat) : (s1.skimBlocks b).clu c = s1.clu c := by rw [sheds]; rfl
    refine ⟨_, congrArg Host.Outcome.next (skimSnapshot_takes on rate at_), ?_, fun c => ?_, ?_, ?_, ?_⟩
    · unfold State.drainLatches
      rw [sheds]
    · rw [drainLatches_clu, if_pos rfl, clu]
    · show (s1.skimBlocks b).rcd.stage = _
      rw [sheds]
    · show (s1.skimBlocks b).rcd.shedCnt = _
      rw [sheds]
    · show (s1.skimBlocks b).rcd.shedW1c = _
      rw [sheds]
  · obtain ⟨u, p, takes, frame, took⟩ := captureBlock_takes on en next reached
    obtain ⟨new, stage, frozen, len⟩ := took.staged
    have clu (c : Nat) : u.recQos.clu c = s1.clu c := by rw [recQos_rcd, frame]; rfl
    refine ⟨_, new, congrArg Host.Outcome.next takes, ?_, fun c => ?_, ?_, ?_, ?_, fun still => ?_, len⟩
    · unfold State.drainLatches
      rw [recQos_rcd, frame]
    · rw [drainLatches_clu, clu]
      split
      · exact .inr rfl
      · exact .inl rfl
    · show u.recQos.rcd.capNow = _
      rw [recQos_rcd, took.frame]
    · show u.recQos.rcd.lastCap = _
      rw [recQos_rcd, took.frame]
    · show u.recQos.rcd.stage = _
      rw [recQos_rcd]
      exact stage
    · exact frozen ((reach_frozen reached).trans still)
  · exact ⟨_, rfl, blockWriteDone_writes stage (ringAt_of at_i at_k)⟩
  · obtain ⟨t, is, frame, lost, rings⟩ := ddrChannelFail_halves ok other
    refine ⟨t, congrArg Host.Outcome.next is, frame, ?_, fun i k ring_ => ?_, fun i => ?_⟩
    · unfold State.chOk
      rw [lost, getD_setAt here, Bool.not_true, Bool.and_false, Bool.false_and]
    · rw [halved_ring rings, if_neg ring_]
      exact ⟨rfl, rfl, rfl⟩
    · rw [halved_ring rings, if_pos rfl]
  · have at_i0 := ringAt_of at_i at_0
    have writes := logRecordWrite_marks (i := i.val) v fw
    have moves := logTo_moves (kind := 2) on here (by rw [ring_of_at at_i0]; exact size) (by decide) s.stamp (leBytes 4 v.toNat ++ leBytes 1 4)
    refine ⟨_, congrArg Host.Outcome.next writes, ?_, ?_, fun j away => ?_, ?_, fun k q kind at_k => ?_⟩
    · rw [logTo_frame]
      rfl
    · rw [markRing_log, moves, ring_of_at at_i0]
    · rw [markRing_log, ring_eq, logTo_ringAt (.inl (by simpa using away)), ← ring_eq]
    · show (s.logTo 2 [i.val] s.stamp (leBytes 4 v.toNat ++ leBytes 1 4)).rcd.stage = _
      rw [logTo_rcd]
    · exact markRing_at kind ((logTo_ringAt (.inr (by omega)) _ _ _ _).trans (ringAt_of at_i at_k))
  · have none_ : s.rcd.logDue.find? (fun q => decide (q.kind = kind)) = none := by
      rw [List.find?_eq_none]
      exact fun q mem => by simpa using none_ q mem
    exact congrArg Host.Outcome.next (logRecordWrite_none v fw other none_)
  · have at_i0 := ringAt_of at_i at_0
    have writes := logRecordWrite_owed (insts := insts.map Fin.val) v fw other due
    rw [only] at writes
    refine ⟨_, congrArg Host.Outcome.next writes, ?_, ?_, ?_, fun j away => ?_⟩
    · rw [logTo_frame]
    · have size0 : (s.ring i.val 0).size ≠ 0 := by rw [ring_of_at at_i0]; exact size
      refine (logTo_moves (s := { s with rcd := { s.rcd with logDue := removeFirst (fun q => decide (q.kind = kind)) s.rcd.logDue } })
        on here size0 plain q.at_ q.body).trans ?_
      exact congrArg (fun r : Ring => r.w + 64) (ring_of_at at_i0)
    · rw [logTo_rcd]
    · rw [ring_eq, logTo_ringAt (.inl (by simpa using away)), ← ring_eq]
      rfl
  · refine congrArg Host.Outcome.next ((if_neg (by simp [on])).trans ((if_pos rfl).trans ?_))
    unfold State.freeze
    split
    next frozen => rw [← frozen]
    next => rfl
  · refine congrArg Host.Outcome.next ((if_neg (by simp [on])).trans ((if_neg (by decide)).trans ?_))
    unfold State.release
    split
    next open_ => rw [← open_]
    next => rfl
  · obtain ⟨frozen, stage, frame⟩ := freeze_freezes open_ runs
    exact ⟨_, congrArg Host.Outcome.next ((if_neg (by simp [on])).trans (if_pos rfl)), frame, frozen, stage⟩
  · exact congrArg Host.Outcome.next ((if_neg (by simp [on])).trans ((if_pos rfl).trans (if_pos frozen)))
  · obtain ⟨open_, stage, frame, -⟩ := release_releases frozen runs
    exact ⟨_, congrArg Host.Outcome.next ((if_neg (by simp [on])).trans (if_neg (by decide))), frame, open_, stage⟩

end Sys2Proof.Machine

/-! PROOFS. What a DMA data instruction does to memory and to its channel (R247, R257, R261), for O55. -/

namespace Sys2Proof.Machine

/-! ### Bytes in memory -/

theorem writeN_append (m : List Host.Cell) (a : Nat) (bs cs : List Byte) :
    Mem.writeN (Mem.writeN m a bs) (a + bs.length) cs = Mem.writeN m a (bs ++ cs) := by
  induction bs generalizing m a with
  | nil => rfl
  | cons b bs ih =>
    rw [List.cons_append, Mem.writeN, Mem.writeN, List.length_cons, ← ih]
    congr 1
    omega

theorem readN_append (m : List Host.Cell) (j k a : Nat) : Mem.readN m j a ++ Mem.readN m k (a + j) = Mem.readN m (j + k) a := by
  induction j generalizing a with
  | zero => rw [Nat.zero_add]; rfl
  | succ j ih =>
    rw [Mem.readN, List.cons_append, Nat.succ_add, Mem.readN, ← ih, Nat.add_right_comm]
    rfl

theorem readN_split (m : List Host.Cell) {k n : Nat} (le : k ≤ n) (a : Nat) :
    (Mem.readN m n a).take k = Mem.readN m k a ∧ (Mem.readN m n a).drop k = Mem.readN m (n - k) (a + k) := by
  obtain ⟨j, rfl⟩ := Nat.exists_eq_add_of_le le
  rw [← readN_append]
  exact ⟨List.take_left' (readN_length _ _ _), by rw [List.drop_left' (readN_length _ _ _), Nat.add_sub_cancel_left]⟩

theorem readN_getElem (m : List Host.Cell) : ∀ {n a i : Nat} (lt : i < (Mem.readN m n a).length), (Mem.readN m n a)[i] = Mem.read m (a + i)
  | _ + 1, _, 0, _ => rfl
  | n + 1, a, i + 1, lt => by
    show (Mem.readN m n (a + 1))[i]'_ = _
    rw [readN_getElem, Nat.add_right_comm, Nat.add_assoc]

/-- A read that no byte written reaches. -/
theorem readN_writeN_away {m : List Host.Cell} {a b n : Nat} {bs : List Byte} (away : b + n ≤ a ∨ a + bs.length ≤ b) :
    Mem.readN (Mem.writeN m a bs) n b = Mem.readN m n b := by
  refine readN_of_reads (readN_length _ _ _) fun i lt => ?_
  rw [readN_getElem]
  rw [readN_length] at lt
  exact read_writeN_other (by omega)

/-! ### The pieces of a burst -/

/-- Pieces that follow one another from an address on, each up to the end or to a 256 B-aligned address (R247). -/
def Chain : Nat → List (Nat × Nat) → Nat → Prop
  | _, [], len => len = 0
  | a, x :: xs, len => x.1 = a ∧ 0 < x.2 ∧ x.2 ≤ len ∧ (x.2 = len ∨ (a + x.2) % 256 = 0) ∧ Chain (a + x.2) xs (len - x.2)

theorem splitBurst_none (fuel a : Nat) : splitBurst fuel a 0 = [] := by
  cases fuel with
  | zero => rfl
  | succ fuel => rfl

theorem splitBurst_chain : ∀ {fuel a len : Nat}, a % 256 + len ≤ 256 * fuel → Chain a (splitBurst fuel a len) len
  | 0, a, len, fits => (by omega : len = 0)
  | fuel + 1, a, len, fits => by
    unfold splitBurst
    dsimp only
    split
    next zero => exact zero
    next some_ =>
      refine ⟨rfl, ?_, ?_, ?_, ?_⟩
      · show 0 < min len (256 - a % 256)
        omega
      · exact Nat.min_le_left _ _
      · show min len (256 - a % 256) = len ∨ (a + min len (256 - a % 256)) % 256 = 0
        omega
      · rcases Nat.le_total len (256 - a % 256) with whole | more
        · show Chain (a + min len (256 - a % 256)) (splitBurst fuel (a + min len (256 - a % 256)) (len - min len (256 - a % 256)))
            (len - min len (256 - a % 256))
          rw [Nat.min_eq_left whole, Nat.sub_self, splitBurst_none]
          rfl
        · refine splitBurst_chain ?_
          rw [Nat.min_eq_right more]
          omega

theorem piecesOf_chain (a len : Nat) : Chain a (piecesOf a len) len := splitBurst_chain (by omega)

/-- A burst that crosses no 256 B-aligned address is one piece at most. -/
theorem piecesOf_one {a len : Nat} (within : a % 256 + len ≤ 256) : (piecesOf a len).length ≤ 1 := by
  unfold piecesOf splitBurst
  dsimp only
  split
  · exact Nat.zero_le 1
  · rw [Nat.min_eq_left (by omega), Nat.sub_self, splitBurst_none]
    rfl

/-! ### The machine with a channel at work -/

/-- The machine with the record of one channel, its memory and the braid's granted pieces in another state. -/
def State.dmaIn (n : Nat) (d : DmaCh) (m : List Host.Cell) (g : List (Option Granted)) (s : State) : State :=
  { s with dma := { s.dma with chs := modAt (fun _ => d) n s.dma.chs }, mem := m, braid := { s.braid with granted := g } }

theorem modAt_const {α : Type} (f : α → α) (a : α) : ∀ (i : Nat) (l : List α), modAt f i (modAt (fun _ => a) i l) = modAt (fun _ => f a) i l
  | _, [] => by simp [modAt]
  | 0, _ :: _ => rfl
  | i + 1, x :: xs => congrArg (x :: ·) (modAt_const f a i xs)

theorem modAt_self {α : Type} : ∀ {i : Nat} {l : List α} {a : α}, l[i]? = some a → modAt (fun _ => a) i l = l
  | _, [], _, h => by simp at h
  | 0, x :: xs, a, h => by
    obtain rfl : x = a := by simpa using h
    rfl
  | i + 1, x :: xs, a, h => congrArg (x :: ·) (modAt_self (by simpa using h))

section
variable {s : State} {n : Nat} {c d : DmaCh} {m : List Host.Cell} {g : List (Option Granted)}

theorem dmaIn_self (there : s.dma.chs[n]? = some c) : s.dmaIn n c s.mem s.braid.granted = s := by
  unfold State.dmaIn
  rw [modAt_self there]

theorem dmaIn_at (there : s.dma.chs[n]? = some c) : (s.dmaIn n d m g).dma.chs[n]? = some d := getElem?_modAt_same (f := fun _ => d) there

theorem dmaIn_dch (there : s.dma.chs[n]? = some c) : (s.dmaIn n d m g).dch n = d := dch_of (dmaIn_at there)

theorem dmaIn_modDch (f : DmaCh → DmaCh) : (s.dmaIn n d m g).modDch n f = s.dmaIn n (f d) m g := by
  unfold State.dmaIn State.modDch
  dsimp only
  rw [modAt_const]

theorem dmaIn_frame : s.dmaIn n d m g = { s with
    dma := (s.dmaIn n d m g).dma, mem := (s.dmaIn n d m g).mem, braid := { s.braid with granted := (s.dmaIn n d m g).braid.granted } } := rfl

/-- The rights of a piece are no matter of the channel, of memory, or of what has been granted (R251). -/
theorem dmaIn_rsp (sec : Bool) (a len : Nat) : (s.dmaIn n d m g).readRsp 5 sec a len = s.readRsp 5 sec a len ∧
    (s.dmaIn n d m g).writeRsp 5 sec a len = s.writeRsp 5 sec a len := by
  have target : (s.dmaIn n d m g).noTarget 5 a = s.noTarget 5 a := by unfold State.noTarget; rfl
  have reads : (s.dmaIn n d m g).mayRead 5 sec a len = s.mayRead 5 sec a len := by unfold State.mayRead; rfl
  have writes : (s.dmaIn n d m g).mayWrite 5 sec a len = s.mayWrite 5 sec a len := by unfold State.mayWrite; rfl
  exact ⟨by rw [State.readRsp, State.readRsp, target, reads], by rw [State.writeRsp, State.writeRsp, target, writes]⟩

/-- With nothing waiting at the braid an access has its turn at once (R245). -/
theorem dmaIn_access (alone : ∀ l ∈ s.braid.waiting, l = []) (q a : Nat) :
    ∃ g', (s.dmaIn n d m g).access 5 q a = s.dmaIn n d m g' := by
  have empty : (s.dmaIn n d m g).braid.waiting.getD (targetOf a) [] = [] := by
    show s.braid.waiting.getD (targetOf a) [] = []
    rw [List.getD_eq_getElem?_getD]
    cases at_t : s.braid.waiting[targetOf a]? with
    | none => rfl
    | some l => exact alone l (List.mem_of_getElem? at_t)
  rw [access_empty empty]
  exact ⟨_, rfl⟩

/-! ### One access -/

theorem cutLen_whole (uncut : d.cut = none) (x : Nat × Nat) : d.cutLen x = x.2 := by
  unfold DmaCh.cutLen
  rw [uncut]

theorem spend_whole (uncut : d.cut = none) (x : Nat × Nat) : d.spend x = d := by
  unfold DmaCh.spend
  rw [uncut, Option.map_none, ← uncut]

theorem over_no (there : s.dma.chs[n]? = some c) (goes : d.cut ≠ some 0) : Mv.over n { s := s.dmaIn n d m g } = false := by
  unfold Mv.over
  rw [dmaIn_dch there]
  simp [goes]

theorem over_cut (there : s.dma.chs[n]? = some c) (stops : d.cut = some 0) : Mv.over n { s := s.dmaIn n d m g } = true := by
  unfold Mv.over
  rw [dmaIn_dch there]
  simp [stops]

/-- Source bytes enter the holding register (R257). -/
theorem read_takes (there : s.dma.chs[n]? = some c) (alone : ∀ l ∈ s.braid.waiting, l = []) (uncut : d.cut = none) {x : Nat × Nat}
    (may : s.readRsp 5 d.sec x.1 x.2 = 0 ∧ isMemory x.1 = true) :
    ∃ g', Mv.read n { s := s.dmaIn n d m g } x = { s := s.dmaIn n { d with hold := d.hold ++ Mem.readN m x.2 x.1 } m g' } := by
  obtain ⟨g', turn⟩ := dmaIn_access (n := n) (d := d) (m := m) (g := g) alone d.dataQos x.1
  refine ⟨g', ?_⟩
  unfold Mv.read
  rw [over_no there (by rw [uncut]; exact nofun), if_neg Bool.false_ne_true]
  dsimp only
  rw [dmaIn_dch there, turn, cutLen_whole uncut, readPiece_memory ((dmaIn_rsp d.sec x.1 x.2).1.trans may.1) may.2]
  dsimp only
  rw [if_neg (by simp), dmaIn_modDch]
  exact congrArg (fun e => Mv.mk (s.dmaIn n e m g') none) (spend_whole (d := { d with hold := d.hold ++ Mem.readN m x.2 x.1 }) uncut x)

/-- Bytes leave the holding register for the destination, as many as the cut lets go (R257, R261). -/
theorem write_puts (there : s.dma.chs[n]? = some c) (alone : ∀ l ∈ s.braid.waiting, l = []) (goes : d.cut ≠ some 0) {x : Nat × Nat}
    (may : s.writeRsp 5 d.sec x.1 (d.hold.take (d.cutLen x)).length = 0 ∧ isMemory x.1 = true) :
    ∃ g', Mv.write n { s := s.dmaIn n d m g } x =
      { s := s.dmaIn n ((d.wrote (d.cutLen x)).spend x) (Mem.writeN m x.1 (d.hold.take (d.cutLen x))) g' } := by
  obtain ⟨g', turn⟩ := dmaIn_access (n := n) (d := d) (m := m) (g := g) alone d.dataQos x.1
  have piece := writePiece_memory (m := 5) (bs := d.hold.take (d.cutLen x)) ((dmaIn_rsp (s := s) (n := n) (d := d) (m := m) (g := g') d.sec x.1 _).2.trans may.1) may.2
  have beats : ∃ g'', (s.dmaIn n d m g').writeBeats 5 d.sec x.1 (d.hold.take (d.cutLen x)) =
      (rspOk, s.dmaIn n d (Mem.writeN m x.1 (d.hold.take (d.cutLen x))) g'') := by
    unfold State.writeBeats
    dsimp only
    rw [piece, if_pos ⟨rfl, may.2⟩]
    exact ⟨_, rfl⟩
  obtain ⟨g'', beats⟩ := beats
  refine ⟨g'', ?_⟩
  unfold Mv.write
  rw [over_no there goes, if_neg Bool.false_ne_true]
  dsimp only
  rw [dmaIn_dch there, turn, beats]
  dsimp only
  rw [if_neg (by simp), dmaIn_modDch]

/-! ### Bursts -/

/-- A burst of reads (R247, R257). -/
theorem reads_take (there : s.dma.chs[n]? = some c) (alone : ∀ l ∈ s.braid.waiting, l = []) : ∀ {xs : List (Nat × Nat)} {a len : Nat} {d : DmaCh}
    {g : List (Option Granted)}, Chain a xs len → d.cut = none →
    (∀ b k, a ≤ b → 0 < k → b + k ≤ a + len → s.readRsp 5 d.sec b k = 0 ∧ isMemory b = true) →
    ∃ g', xs.foldl (Mv.read n) { s := s.dmaIn n d m g } = { s := s.dmaIn n { d with hold := d.hold ++ Mem.readN m len a } m g' }
  | [], a, len, d, g, chain, _, _ => by
    obtain rfl : len = 0 := chain
    exact ⟨g, by rw [Mem.readN, List.append_nil]; rfl⟩
  | x :: xs, a, len, d, g, chain, uncut, may => by
    obtain ⟨rfl, some_, le, -, rest⟩ := chain
    obtain ⟨g1, one⟩ := read_takes (m := m) (g := g) there alone uncut (may x.1 x.2 (Nat.le_refl _) some_ (by omega))
    obtain ⟨g2, more⟩ := reads_take there alone (d := { d with hold := d.hold ++ Mem.readN m x.2 x.1 }) (g := g1) rest uncut
      (fun b k lo pos hi => may b k (by omega) pos (by omega))
    refine ⟨g2, ?_⟩
    rw [List.foldl_cons, one, more]
    dsimp only
    rw [List.append_assoc, readN_append, Nat.add_sub_cancel' le]

/-- A burst of writes out of the holding register (R247, R257). -/
theorem writes_put (there : s.dma.chs[n]? = some c) (alone : ∀ l ∈ s.braid.waiting, l = []) : ∀ {xs : List (Nat × Nat)} {a len : Nat} {d : DmaCh}
    {m : List Host.Cell} {g : List (Option Granted)}, Chain a xs len → d.cut = none → len ≤ d.hold.length →
    (∀ b k, a ≤ b → 0 < k → b + k ≤ a + len → s.writeRsp 5 d.sec b k = 0 ∧ isMemory b = true) →
    ∃ g' r, xs.foldl (Mv.write n) { s := s.dmaIn n d m g } =
      { s := s.dmaIn n { d with hold := d.hold.drop len, moved := d.moved + len, remain := r } (Mem.writeN m a (d.hold.take len)) g' } ∧
      (d.ent = none → r = d.remain - len)
  | [], a, len, d, m, g, chain, _, _, _ => by
    obtain rfl : len = 0 := chain
    exact ⟨g, d.remain, rfl, fun _ => rfl⟩
  | x :: xs, a, len, d, m, g, chain, uncut, has, may => by
    obtain ⟨rfl, some_, le, -, rest⟩ := chain
    have whole := cutLen_whole uncut x
    have bytes : (d.hold.take x.2).length = x.2 := by
      rw [List.length_take]
      omega
    obtain ⟨g1, one⟩ := write_puts (m := m) (g := g) (x := x) there alone (by rw [uncut]; exact nofun)
      (by rw [whole, bytes]; exact may x.1 x.2 (Nat.le_refl _) some_ (by omega))
    rw [whole, spend_whole (d := d.wrote x.2) uncut] at one
    obtain ⟨g2, r, more, left⟩ := writes_put there alone (d := d.wrote x.2) (m := Mem.writeN m x.1 (d.hold.take x.2)) (g := g1) rest uncut
      (by show len - x.2 ≤ (d.hold.drop x.2).length; rw [List.length_drop]; omega)
      (fun b k lo pos hi => may b k (by omega) pos (by omega))
    have appended := writeN_append m x.1 (d.hold.take x.2) ((d.hold.drop x.2).take (len - x.2))
    rw [bytes, ← List.take_add, Nat.add_sub_cancel' le] at appended
    refine ⟨g2, r, ?_, fun none_ => ?_⟩
    · rw [List.foldl_cons, one, more]
      show Mv.mk (s.dmaIn n { d with hold := (d.hold.drop x.2).drop (len - x.2), moved := d.moved + x.2 + (len - x.2), remain := r }
        (Mem.writeN (Mem.writeN m x.1 (d.hold.take x.2)) (x.1 + x.2) ((d.hold.drop x.2).take (len - x.2))) g2) none = _
      rw [appended, List.drop_drop, Nat.add_assoc, Nat.add_sub_cancel' le]
    · have first_ : (d.wrote x.2).remain = d.remain - x.2 := by
        unfold DmaCh.wrote
        dsimp only
        rw [none_]
      rw [left none_, first_]
      omega

/-- What is complete of the destination's accesses leaves as one burst (R247, R257). -/
theorem put_puts (there : s.dma.chs[n]? = some c) (alone : ∀ l ∈ s.braid.waiting, l = []) {a width base top k : Nat} (uncut : d.cut = none)
    (most : min d.hold.length (top - d.moved) / width * width = k) (fits : k ≠ 0 → a + (d.moved - base) + k ≤ 2 ^ 40)
    (may : ∀ b j, a + (d.moved - base) ≤ b → 0 < j → b + j ≤ a + (d.moved - base) + k → s.writeRsp 5 d.sec b j = 0 ∧ isMemory b = true) :
    ∃ g' r, Mv.put n a width true base top { s := s.dmaIn n d m g } =
      { s := s.dmaIn n { d with hold := d.hold.drop k, moved := d.moved + k, remain := r } (Mem.writeN m (a + (d.moved - base)) (d.hold.take k)) g' } ∧ (d.ent = none → r = d.remain - k) := by
  have has : k ≤ d.hold.length := by
    rw [← most]
    exact (Nat.div_mul_le_self _ _).trans (Nat.min_le_left _ _)
  have start : Mv.put n a width true base top { s := s.dmaIn n d m g } =
      (piecesOf ((a + (d.moved - base)) % 2 ^ 40) k).foldl (Mv.write n) { s := s.dmaIn n d m g } := by
    unfold Mv.put
    dsimp only
    rw [dmaIn_dch there, if_pos rfl, most]
  have chain : Chain (a + (d.moved - base)) (piecesOf ((a + (d.moved - base)) % 2 ^ 40) k) k := by
    by_cases none_ : k = 0
    · rw [none_, piecesOf, splitBurst_none]
      rfl
    · rw [Nat.mod_eq_of_lt (by have := fits none_; omega)]
      exact piecesOf_chain _ _
  rw [start]
  exact writes_put there alone chain uncut has may

end

end Sys2Proof.Machine

/-! PROOFS. FILL and COMPARE, whole, cut short and paced (R255, R258, R259, R261), for O55. -/

namespace Sys2Proof.Machine

/-! ### Blocks one after the other -/

/-- Blocks of 64 bytes up to a stream position, after which the channel has no instruction under way. -/
theorem allBlocks_ends {P : Nat → State → Prop} {Q : State → Prop} {stop n : Nat} {w : List Nat}
    (works : ∀ j u, P j u → (u.dch n).ins.isNone = false ∧ (u.dch n).st = .running)
    (block : ∀ j u, P j u → (j + 64 < stop → P (j + 64) (dataBlock n w u)) ∧ (stop ≤ j + 64 → Q (dataBlock n w u)))
    (ends : ∀ u, Q u → (u.dch n).ins.isNone = true) :
    ∀ (fuel j : Nat) (u : State), P j u → 0 < fuel → stop ≤ j + 64 * fuel → Q (allBlocks n w fuel u)
  | 0, _, _, _, some_, _ => absurd some_ (Nat.lt_irrefl 0)
  | fuel + 1, j, u, at_j, _, enough => by
    obtain ⟨ins, runs⟩ := works j u at_j
    obtain ⟨more, last_⟩ := block j u at_j
    have one : allBlocks n w (fuel + 1) u = allBlocks n w fuel (dataBlock n w u) := by
      conv_lhs => unfold allBlocks
      exact if_neg (by simp [ins, runs])
    rw [one]
    by_cases on : j + 64 < stop
    · exact allBlocks_ends works block ends fuel (j + 64) _ (more on) (by omega) (by omega)
    · have over_ := last_ (Nat.le_of_not_lt on)
      cases fuel with
      | zero => exact over_
      | succ fuel =>
        conv => unfold allBlocks
        rw [if_pos (.inl (ends _ over_))]
        exact over_

/-- A channel whose data instruction begins (R257, R261). -/
def DmaCh.began (w : List Nat) (cut : Option Nat) (c : DmaCh) : DmaCh :=
  { c with
    ins := some w, moved := 0, hold := [], ent := none, entBase := 0, ents := 0, remain := if opOf w = 4 then 0 else countOf w,
    gidx := if opOf w = 4 then 0 else c.gidx, cut := cut }

theorem strided_plain {c : DmaCh} {a : Nat} (flat : c.loops = []) (small : a < 2 ^ 40) : strided c a = a := by
  unfold strided
  rw [flat]
  simp only [List.map_nil, List.foldl_nil]
  omega

/-- A data instruction that no line paces runs block after block (R257). -/
theorem dataIns_runs {s : State} {n : Nat} {c : DmaCh} {w : List Nat} {cut : Option Nat} (there : s.dma.chs[n]? = some c)
    (straight : aligned c w = true) (some_ : 0 < countOf w) (unpaced : dreqOf w = 0) : s.dataIns n cut w =
      (allBlocks n w (2 ^ 64) (s.dmaIn n (c.began w cut) s.mem s.braid.granted)).rowDone n := by
  have self := dmaIn_self there
  have begins : (s.modDch n (fun c => { c with
      ins := some w, moved := 0, hold := [], ent := none, entBase := 0, ents := 0,
      remain := if decide (opOf w = 4) then 0 else countOf w, gidx := if decide (opOf w = 4) then 0 else c.gidx })).modDch n
        (fun c => { c with cut := cut }) = s.dmaIn n (c.began w cut) s.mem s.braid.granted := by
    conv_lhs => rw [← self]
    rw [dmaIn_modDch, dmaIn_modDch]
    unfold DmaCh.began
    simp only [decide_eq_true_eq]
  unfold State.dataIns
  rw [dch_of there, if_neg (by simp [straight]), if_neg (by omega)]
  dsimp only
  rw [if_pos unpaced, begins]

section
variable {s : State} {n : Nat} {c d : DmaCh} {m : List Host.Cell} {g : List (Option Granted)}

/-- The end of a block whose accesses were all answered (R257). -/
theorem close_goes (there : s.dma.chs[n]? = some c) (goes : d.cut ≠ some 0) (done : State → Bool) :
    Mv.close n done { s := s.dmaIn n d m g } = s.dmaIn n (if done (s.dmaIn n d m g) then d.next else d) m g := by
  unfold Mv.close State.cutEnd
  dsimp only
  have kept : ∀ e : DmaCh, e.cut ≠ some 0 → (if ((s.dmaIn n e m g).dch n).cut = some 0 then (s.dmaIn n e m g).dmaDisable n else s.dmaIn n e m g) =
      s.dmaIn n e m g := by
    intro e goes
    rw [dmaIn_dch there]
    exact if_neg goes
  split
  · rw [dmaIn_modDch]
    exact kept d.next goes
  · exact kept d goes

/-- The end of a block at whose beats EN is cleared (R261). -/
theorem close_cut (there : s.dma.chs[n]? = some c) (stops : d.cut = some 0) {done : State → Bool} (on : done (s.dmaIn n d m g) = false)
    (runs : d.st = .running) : Mv.close n done { s := s.dmaIn n d m g } = s.dmaIn n { d with
      en := false, st := .aborted, hold := [], ins := none, moved := 0, cut := none } m g := by
  unfold Mv.close State.cutEnd
  dsimp only
  rw [on, if_neg Bool.false_ne_true, dmaIn_dch there, if_pos stops]
  unfold State.dmaDisable
  rw [dmaIn_modDch]
  unfold DmaCh.active
  rw [runs]
  rfl

/-! ### Patterns -/

theorem patternBytes_length (pat width : Nat) (inc : Bool) (done len : Nat) : (patternBytes pat width inc done len).length = len := by
  unfold patternBytes
  rw [List.length_map, List.length_range]

theorem patternBytes_getElem {pat width done len i : Nat} (lt : i < (patternBytes pat width true done len).length) :
    (patternBytes pat width true done len)[i] = BitVec.ofNat 8 (pat / 256 ^ ((done + i) % 4)) := by
  unfold patternBytes
  simp

theorem patternBytes_append (pat width done j k : Nat) :
    patternBytes pat width true done j ++ patternBytes pat width true (done + j) k = patternBytes pat width true done (j + k) := by
  unfold patternBytes
  rw [List.range_add, List.map_append, List.map_map]
  congr 1
  refine List.map_congr_left fun i _ => ?_
  simp only [Function.comp, Nat.add_assoc, if_true]

/-! ### One block of a FILL -/

theorem fillBlock_fills (there : s.dma.chs[n]? = some c) (alone : ∀ l ∈ s.braid.waiting, l = []) {w : List Nat} {dst : Nat} (uncut : d.cut = none)
    (flat : d.loops = []) (to_ : dst = addrAt w 3) (inc : dinc w = true) (within : d.moved < countOf w) (even : countOf w % dwOf w = 0)
    (at_ : d.moved % dwOf w = 0) (width : 64 % dwOf w = 0) (may : Safe.dmaWrites s d.sec dst (countOf w)) :
    ∃ g' r, fillBlock n w (s.dmaIn n d m g) = s.dmaIn n
        (if countOf w ≤ d.moved + min 64 (countOf w - d.moved)
          then DmaCh.next { d with hold := [], moved := d.moved + min 64 (countOf w - d.moved), remain := r }
          else { d with hold := [], moved := d.moved + min 64 (countOf w - d.moved), remain := r })
        (Mem.writeN m (dst + d.moved) (patternBytes (wd w 6) (dwOf w) true d.moved (min 64 (countOf w - d.moved)))) g' ∧
      (d.ent = none → r = d.remain - min 64 (countOf w - d.moved)) := by
  obtain ⟨low, high, answers⟩ := may
  generalize is_len : min 64 (countOf w - d.moved) = len
  have whole : len / dwOf w * dwOf w = len := by
    refine Nat.div_mul_cancel (Nat.dvd_of_mod_eq_zero ?_)
    rw [← is_len]
    rcases Nat.le_total 64 (countOf w - d.moved) with more | last_
    · rw [Nat.min_eq_left more]
      exact width
    · rw [Nat.min_eq_right last_]
      exact Nat.mod_eq_zero_of_dvd (Nat.dvd_sub (Nat.dvd_of_mod_eq_zero even) (Nat.dvd_of_mod_eq_zero at_))
  have fits : d.moved + len ≤ countOf w := by omega
  have aimed : effective d (dinc w) (addrAt w 3) = dst := by
    rw [inc, ← to_]
    exact strided_plain flat low
  obtain ⟨g', r, puts, left⟩ := put_puts (m := m) (g := g) (d := { d with hold := patternBytes (wd w 6) (dwOf w) true d.moved len })
    (a := dst) (width := dwOf w) (base := 0) (top := d.moved + len) (k := len) there alone uncut
    (by dsimp only; rw [patternBytes_length, Nat.add_sub_cancel_left, Nat.min_self, whole]) (fun _ => by dsimp only; omega)
    (fun b j lo pos hi => answers b j (by dsimp only at lo; omega) pos (by dsimp only at hi; omega))
  have len_ := patternBytes_length (wd w 6) (dwOf w) true d.moved len
  refine ⟨g', r, ?_, left⟩
  unfold fillBlock
  rw [dmaIn_dch there]
  dsimp only
  rw [aimed, is_len, dmaIn_modDch, inc, puts]
  have closes := close_goes (m := Mem.writeN m (dst + d.moved) (patternBytes (wd w 6) (dwOf w) true d.moved len)) (g := g')
    (d := { d with hold := [], moved := d.moved + len, remain := r }) there (by dsimp only; rw [uncut]; exact nofun) (fun s => decide (countOf w ≤ (s.dch n).moved))
  rw [dmaIn_dch there] at closes
  simp only [decide_eq_true_eq] at closes
  rw [← closes, Nat.sub_zero, List.drop_of_length_le (Nat.le_of_eq len_), List.take_of_length_le (Nat.le_of_eq len_)]

/-! ### A FILL as a whole -/

theorem dataBlock_fill {w : List Nat} (is : opOf w = 2) (n : Nat) (u : State) : dataBlock n w u = fillBlock n w u := by
  unfold dataBlock
  rw [is]
  rfl

theorem pattern_grows (m : List Host.Cell) (a pat width j k : Nat) : Mem.writeN (Mem.writeN m a (patternBytes pat width true 0 j)) (a + j)
    (patternBytes pat width true j k) = Mem.writeN m a (patternBytes pat width true 0 (j + k)) := by
  have bytes := patternBytes_append pat width 0 j k
  have whole := writeN_append m a (patternBytes pat width true 0 j) (patternBytes pat width true j k)
  rw [patternBytes_length] at whole
  rw [whole, ← bytes, Nat.zero_add]

/-- What insOk says of the widths of a data instruction (R255). -/
theorem insOk_data {w : List Nat} (ok : insOk w = true) :
    (opOf w = 1 → bits (wd w 0) 23 21 ≤ 5 ∧ bits (wd w 0) 20 18 ≤ 5 ∧ countOf w % swOf w = 0 ∧ countOf w % dwOf w = 0) ∧
    (opOf w = 2 → bits (wd w 0) 20 18 ≤ 5 ∧ countOf w % dwOf w = 0) ∧
    (opOf w = 3 → bits (wd w 0) 23 21 ≤ 5 ∧ countOf w % swOf w = 0) ∧
    (opOf w = 4 → bits (wd w 0) 23 21 ≤ 5 ∧ bits (wd w 0) 20 18 ≤ 5) := by
  unfold insOk at ok
  refine ⟨fun is => ?_, fun is => ?_, fun is => ?_, fun is => ?_⟩ <;>
  · rw [is] at ok
    simp only [Bool.and_eq_true, decide_eq_true_eq] at ok
    omega

/-- A width of at most 32 bytes divides a block (R255). -/
theorem width_divides {k : Nat} (small : k ≤ 5) : 64 % 2 ^ k = 0 :=
  Nat.mod_eq_zero_of_dvd (Nat.pow_dvd_pow 2 (by omega : k ≤ 6))

/-- A FILL with no cut leaves its pattern, and the channel at the next instruction (R258). -/
theorem fill_whole (there : s.dma.chs[n]? = some c) (alone : ∀ l ∈ s.braid.waiting, l = []) {w : List Nat} {dst : Nat} (runs : c.st = .running)
    (flat : c.loops = []) (to_ : dst = addrAt w 3) (some_ : 0 < countOf w) (unpaced : dreqOf w = 0) (ok : insOk w = true) (is : opOf w = 2)
    (inc : dinc w = true) (straight : dst % dwOf w = 0) (may : Safe.dmaWrites s c.sec dst (countOf w)) : ∃ g' r, s.dataIns n none w =
      s.dmaIn n (DmaCh.next { c.began w none with moved := countOf w, remain := r })
        (Mem.writeN s.mem dst (patternBytes (wd w 6) (dwOf w) true 0 (countOf w))) g' := by
  obtain ⟨narrow, even⟩ := (insOk_data ok).2.1 is
  have width : 64 % dwOf w = 0 := width_divides narrow
  have aligned_ : aligned c w = true := by
    unfold aligned
    rw [is]
    show decide (effective c (dinc w) (addrAt w 3) % dwOf w = 0) = true
    rw [inc, ← to_]
    exact decide_eq_true (by show strided c dst % dwOf w = 0; rw [strided_plain flat may.1]; exact straight)
  rw [dataIns_runs there aligned_ some_ unpaced]
  have fills := allBlocks_ends (n := n) (w := w) (stop := countOf w)
    (P := fun j u => j < countOf w ∧ j % dwOf w = 0 ∧ ∃ g' r, u = s.dmaIn n { c.began w none with moved := j, remain := r }
      (Mem.writeN s.mem dst (patternBytes (wd w 6) (dwOf w) true 0 j)) g')
    (Q := fun u => ∃ g' r, u = s.dmaIn n (DmaCh.next { c.began w none with moved := countOf w, remain := r })
      (Mem.writeN s.mem dst (patternBytes (wd w 6) (dwOf w) true 0 (countOf w))) g')
    (fun j u => ?_) (fun j u => ?_) (fun u => ?_) (2 ^ 64) 0 (s.dmaIn n (c.began w none) s.mem s.braid.granted) ⟨some_, Nat.zero_mod _, _, _, rfl⟩ (by omega) (by have := may.2.1; omega)
  · obtain ⟨g', r, is_u⟩ := fills
    rw [is_u]
    exact ⟨g', r, dmaIn_modDch _⟩
  · rintro ⟨-, -, g', r, rfl⟩
    rw [dmaIn_dch there]
    exact ⟨rfl, runs⟩
  · rintro ⟨within, at_, g', r, rfl⟩
    obtain ⟨g2, r2, block, -⟩ := fillBlock_fills (m := Mem.writeN s.mem dst (patternBytes (wd w 6) (dwOf w) true 0 j)) (g := g')
      (d := { c.began w none with moved := j, remain := r }) there alone rfl flat to_ inc within even at_ width may
    rw [dataBlock_fill is, block]
    dsimp only
    rw [pattern_grows]
    refine ⟨fun more => ?_, fun last_ => ?_⟩
    · rw [Nat.min_eq_left (by omega), if_neg (by omega)]
      exact ⟨more, by rw [Nat.add_mod, at_, width]; rfl, g2, r2, rfl⟩
    · rw [Nat.min_eq_right (by omega), Nat.add_sub_cancel' (Nat.le_of_lt within), if_pos (Nat.le_refl _)]
      exact ⟨g2, r2, rfl⟩
  · rintro ⟨g', r, rfl⟩
    rw [dmaIn_dch there]
    rfl

/-! ### A FILL cut short -/

/-- The channel after bytes have left, with the beats that are left before EN is cleared (R261). -/
def DmaCh.sent (k : Nat) (cut : Option Nat) (c : DmaCh) : DmaCh :=
  { c with hold := c.hold.drop k, moved := c.moved + k, remain := c.remain - k, cut := cut }

theorem chain_end {a : Nat} : ∀ {xs : List (Nat × Nat)}, Chain a xs 0 → xs = []
  | [], _ => rfl
  | _ :: _, chain => by
    obtain ⟨-, some_, le, -⟩ := chain
    omega

/-- No further access once EN is cleared (R261). -/
theorem writes_over (there : s.dma.chs[n]? = some c) (stops : d.cut = some 0) (xs : List (Nat × Nat)) :
    xs.foldl (Mv.write n) { s := s.dmaIn n d m g } = { s := s.dmaIn n d m g } := by
  induction xs with
  | nil => rfl
  | cons x xs ih =>
    rw [List.foldl_cons, Mv.write, over_cut there stops, if_pos rfl]
    exact ih

/-- A burst of writes that the clearing of EN cuts after some beats (R261). -/
theorem writes_cut (there : s.dma.chs[n]? = some c) (alone : ∀ l ∈ s.braid.waiting, l = []) : ∀ {xs : List (Nat × Nat)} {a len k : Nat} {d : DmaCh}
    {m : List Host.Cell} {g : List (Option Granted)}, Chain a xs len → d.cut = some k → a % 32 = 0 → len ≤ d.hold.length → d.ent = none →
    (∀ b k, a ≤ b → 0 < k → b + k ≤ a + len → s.writeRsp 5 d.sec b k = 0 ∧ isMemory b = true) →
    ∃ g', xs.foldl (Mv.write n) { s := s.dmaIn n d m g } =
      { s := s.dmaIn n (d.sent (min len (32 * k)) (some (k - (len + 31) / 32))) (Mem.writeN m a (d.hold.take (min len (32 * k)))) g' }
  | [], a, len, k, d, m, g, chain, cut, _, _, _, _ => by
    obtain rfl : len = 0 := chain
    refine ⟨g, ?_⟩
    rw [Nat.zero_min, show k - (0 + 31) / 32 = k from rfl, ← cut]
    rfl
  | x :: xs, a, len, 0, d, m, g, chain, cut, _, _, _, _ => by
    refine ⟨g, (writes_over there cut _).trans ?_⟩
    rw [Nat.mul_zero, Nat.min_zero, Nat.zero_sub, ← cut]
    rfl
  | x :: xs, a, len, k + 1, d, m, g, chain, cut, even, has, whole, may => by
    obtain ⟨rfl, some_, le, end_, rest⟩ := chain
    have beats : d.cutLen x = min x.2 (32 * (k + 1)) := by
      unfold DmaCh.cutLen
      rw [cut, even]
      rfl
    have bytes : (d.hold.take (min x.2 (32 * (k + 1)))).length = min x.2 (32 * (k + 1)) := by
      rw [List.length_take]
      omega
    obtain ⟨g1, one⟩ := write_puts (m := m) (g := g) (x := x) there alone (by rw [cut]; simp)
      (by rw [beats, bytes]; exact may x.1 _ (Nat.le_refl _) (by omega) (by omega))
    have next : (d.wrote (d.cutLen x)).spend x = d.sent (min x.2 (32 * (k + 1))) (some (k + 1 - (x.2 + 31) / 32)) := by
      unfold DmaCh.spend DmaCh.wrote DmaCh.sent
      dsimp only
      rw [beats, cut, whole, even, Nat.zero_add]
      rfl
    rw [next, beats] at one
    rw [List.foldl_cons, one]
    obtain rfl | aligned_ := end_
    · rw [Nat.sub_self] at rest
      rw [chain_end rest]
      exact ⟨g1, rfl⟩
    · obtain ⟨g2, more⟩ := writes_cut there alone (d := d.sent (min x.2 (32 * (k + 1))) (some (k + 1 - (x.2 + 31) / 32)))
        (m := Mem.writeN m x.1 (d.hold.take (min x.2 (32 * (k + 1))))) (g := g1) rest rfl (by omega)
        (by show len - x.2 ≤ (d.hold.drop _).length; rw [List.length_drop]; omega) whole (fun b k lo pos hi => may b k (by omega) pos (by omega))
      refine ⟨g2, ?_⟩
      rw [more]
      have total : min x.2 (32 * (k + 1)) + min (len - x.2) (32 * (k + 1 - (x.2 + 31) / 32)) = min len (32 * (k + 1)) := by omega
      have spent : k + 1 - (x.2 + 31) / 32 - (len - x.2 + 31) / 32 = k + 1 - (len + 31) / 32 := by omega
      have written : Mem.writeN (Mem.writeN m x.1 (d.hold.take (min x.2 (32 * (k + 1))))) (x.1 + x.2)
          ((d.hold.drop (min x.2 (32 * (k + 1)))).take (min (len - x.2) (32 * (k + 1 - (x.2 + 31) / 32)))) =
            Mem.writeN m x.1 (d.hold.take (min len (32 * (k + 1)))) := by
        rcases Nat.le_total x.2 (32 * (k + 1)) with most | least
        · have appended := writeN_append m x.1 (d.hold.take (min x.2 (32 * (k + 1))))
            ((d.hold.drop (min x.2 (32 * (k + 1)))).take (min (len - x.2) (32 * (k + 1 - (x.2 + 31) / 32))))
          rw [bytes, ← List.take_add, total] at appended
          rw [← appended, Nat.min_eq_left most]
        · have none_ : min (len - x.2) (32 * (k + 1 - (x.2 + 31) / 32)) = 0 := by omega
          rw [none_, Nat.add_zero] at total
          rw [none_, total]
          rfl
      have channel : (d.sent (min x.2 (32 * (k + 1))) (some (k + 1 - (x.2 + 31) / 32))).sent (min (len - x.2) (32 * (k + 1 - (x.2 + 31) / 32)))
          (some (k + 1 - (x.2 + 31) / 32 - (len - x.2 + 31) / 32)) = d.sent (min len (32 * (k + 1))) (some (k + 1 - (len + 31) / 32)) := by
        unfold DmaCh.sent
        dsimp only
        rw [List.drop_drop, Nat.add_assoc, Nat.sub_sub, total, spent]
      exact congrArg₂ (fun e m => Mv.mk (s.dmaIn n e m g2) none) channel written

theorem patternBytes_take {pat width done j len : Nat} (le : j ≤ len) :
    (patternBytes pat width true done len).take j = patternBytes pat width true done j := by
  obtain ⟨k, rfl⟩ := Nat.exists_eq_add_of_le le
  rw [← patternBytes_append]
  exact List.take_left' (patternBytes_length _ _ _ _ _)

/-- A block of a FILL while EN is about to be cleared: its burst, as far as the beats go (R258, R261). -/
theorem fillBlock_beats (there : s.dma.chs[n]? = some c) (alone : ∀ l ∈ s.braid.waiting, l = []) {w : List Nat} {dst k : Nat} (cut : d.cut = some k)
    (flat : d.loops = []) (whole : d.ent = none) (to_ : dst = addrAt w 3) (inc : dinc w = true) (within : d.moved + 32 * k < countOf w)
    (even : countOf w % dwOf w = 0) (at_ : d.moved % 64 = 0) (width : 64 % dwOf w = 0) (straight : dst % 32 = 0)
    (may : Safe.dmaWrites s d.sec dst (countOf w)) : ∃ g' h, fillBlock n w (s.dmaIn n d m g) =
      Mv.close n (fun s => decide (countOf w ≤ (s.dch n).moved)) (Mv.mk (s.dmaIn n
        { d with hold := h, moved := d.moved + min 64 (32 * k), remain := d.remain - min 64 (32 * k), cut := some (if k ≤ 2 then 0 else k - 2) }
        (Mem.writeN m (dst + d.moved) (patternBytes (wd w 6) (dwOf w) true d.moved (min 64 (32 * k)))) g') none) := by
  obtain ⟨low, high, answers⟩ := may
  have go_on : min (min 64 (countOf w - d.moved)) (32 * k) = min 64 (32 * k) := by omega
  have left : k - (min 64 (countOf w - d.moved) + 31) / 32 = if k ≤ 2 then 0 else k - 2 := by
    split <;> omega
  have multiple : min 64 (countOf w - d.moved) / dwOf w * dwOf w = min 64 (countOf w - d.moved) := by
    refine Nat.div_mul_cancel (Nat.dvd_of_mod_eq_zero ?_)
    have at_w : dwOf w ∣ d.moved := (Nat.dvd_of_mod_eq_zero width).trans (Nat.dvd_of_mod_eq_zero at_)
    rcases Nat.le_total 64 (countOf w - d.moved) with more | last_
    · rw [Nat.min_eq_left more]
      exact width
    · rw [Nat.min_eq_right last_]
      exact Nat.mod_eq_zero_of_dvd (Nat.dvd_sub (Nat.dvd_of_mod_eq_zero even) at_w)
  have short : min 64 (32 * k) ≤ min 64 (countOf w - d.moved) := by omega
  have fits : d.moved + min 64 (countOf w - d.moved) ≤ countOf w := by omega
  have some_ : d.moved < countOf w := by omega
  generalize is_len : min 64 (countOf w - d.moved) = len at go_on left multiple short fits
  have aimed : effective d (dinc w) (addrAt w 3) = dst := by
    rw [inc, ← to_]
    exact strided_plain flat low
  have start : fillBlock n w (s.dmaIn n d m g) = Mv.close n (fun s => decide (countOf w ≤ (s.dch n).moved))
      ((piecesOf (dst + d.moved) len).foldl (Mv.write n) { s := s.dmaIn n { d with hold := patternBytes (wd w 6) (dwOf w) true d.moved len } m g }) := by
    unfold fillBlock
    rw [dmaIn_dch there]
    dsimp only
    rw [aimed, is_len, dmaIn_modDch, inc]
    unfold Mv.put
    dsimp only
    rw [dmaIn_dch there, if_pos rfl]
    dsimp only
    rw [patternBytes_length, Nat.add_sub_cancel_left, Nat.min_self, multiple, Nat.sub_zero, Nat.mod_eq_of_lt (by omega)]
  obtain ⟨g', burst⟩ := writes_cut (m := m) (g := g) (d := { d with hold := patternBytes (wd w 6) (dwOf w) true d.moved len }) there alone
    (piecesOf_chain (dst + d.moved) len) cut (by omega) (Nat.le_of_eq (patternBytes_length _ _ _ _ _).symm) whole
    (fun b j lo pos hi => answers b j (by omega) pos (by omega))
  refine ⟨g', (patternBytes (wd w 6) (dwOf w) true d.moved len).drop (min 64 (32 * k)), start.trans ?_⟩
  rw [burst, go_on, left]
  dsimp only
  rw [patternBytes_take short]
  rfl

/-- A FILL that EN, cleared after some of its beats, cuts short: what they wrote stays, and the channel is aborted (R261, log 148). -/
theorem fill_cut (there : s.dma.chs[n]? = some c) (alone : ∀ l ∈ s.braid.waiting, l = []) {w : List Nat} {dst k : Nat} (runs : c.st = .running)
    (flat : c.loops = []) (to_ : dst = addrAt w 3) (short : 32 * k < countOf w) (unpaced : dreqOf w = 0) (ok : insOk w = true) (is : opOf w = 2)
    (inc : dinc w = true) (straight : dst % 32 = 0) (may : Safe.dmaWrites s c.sec dst (countOf w)) : ∃ g', s.dataIns n (some k) w =
      s.dmaIn n { c.began w none with en := false, st := .aborted, ins := none, remain := countOf w - 32 * k }
        (Mem.writeN s.mem dst (patternBytes (wd w 6) (dwOf w) true 0 (32 * k))) g' := by
  obtain ⟨narrow, even⟩ := (insOk_data ok).2.1 is
  have width : 64 % dwOf w = 0 := width_divides narrow
  have aligned_ : aligned c w = true := by
    unfold aligned
    rw [is]
    show decide (effective c (dinc w) (addrAt w 3) % dwOf w = 0) = true
    rw [inc, ← to_]
    refine decide_eq_true ?_
    show strided c dst % dwOf w = 0
    rw [strided_plain flat may.1]
    exact Nat.mod_eq_zero_of_dvd ((Nat.pow_dvd_pow 2 narrow : dwOf w ∣ 2 ^ 5).trans (Nat.dvd_of_mod_eq_zero straight))
  rw [dataIns_runs there aligned_ (by omega) unpaced]
  have fills := allBlocks_ends (n := n) (w := w) (stop := 32 * k)
    (P := fun j u => j % 64 = 0 ∧ j ≤ 32 * k ∧ ∃ g' h, u = s.dmaIn n
      { c.began w none with hold := h, moved := j, remain := countOf w - j, cut := some (k - j / 32) }
      (Mem.writeN s.mem dst (patternBytes (wd w 6) (dwOf w) true 0 j)) g')
    (Q := fun u => ∃ g', u = s.dmaIn n { c.began w none with en := false, st := .aborted, ins := none, remain := countOf w - 32 * k }
      (Mem.writeN s.mem dst (patternBytes (wd w 6) (dwOf w) true 0 (32 * k))) g')
    (fun j u => ?_) (fun j u => ?_) (fun u => ?_) (2 ^ 64) 0 (s.dmaIn n (c.began w (some k)) s.mem s.braid.granted)
    ⟨Nat.zero_mod _, Nat.zero_le _, s.braid.granted, [], ?_⟩ (by omega) (by have := may.2.1; omega)
  · obtain ⟨g', is_u⟩ := fills
    rw [is_u]
    exact ⟨g', dmaIn_modDch _⟩
  · rintro ⟨-, -, g', h, rfl⟩
    rw [dmaIn_dch there]
    exact ⟨rfl, runs⟩
  · rintro ⟨even_j, le, g', h, rfl⟩
    obtain ⟨g2, h2, block⟩ := fillBlock_beats (m := Mem.writeN s.mem dst (patternBytes (wd w 6) (dwOf w) true 0 j)) (g := g')
      (d := { c.began w none with hold := h, moved := j, remain := countOf w - j, cut := some (k - j / 32) }) there alone rfl flat rfl to_ inc
      (by show j + 32 * (k - j / 32) < countOf w; omega) even even_j width straight may
    rw [dataBlock_fill is, block]
    dsimp only
    rw [pattern_grows]
    refine ⟨fun more => ?_, fun last_ => ?_⟩
    · have beats : min 64 (32 * (k - j / 32)) = 64 := by omega
      rw [beats, if_neg (by omega), close_goes there (by simp; omega), dmaIn_dch there]
      dsimp only
      rw [if_neg (by simp; omega)]
      refine ⟨by omega, by omega, g2, h2, ?_⟩
      have left : k - j / 32 - 2 = k - (j + 64) / 32 := by omega
      rw [left, Nat.sub_sub]
    · have beats : min 64 (32 * (k - j / 32)) = 32 * k - j := by omega
      have moves : j + (32 * k - j) = 32 * k := Nat.add_sub_cancel' le
      have closes := close_cut (m := Mem.writeN s.mem dst (patternBytes (wd w 6) (dwOf w) true 0 (32 * k))) (g := g2)
        (d := { c.began w none with hold := h2, moved := 32 * k, remain := countOf w - 32 * k, cut := some 0 }) there rfl
        (done := fun s => decide (countOf w ≤ (s.dch n).moved))
        (by dsimp only; rw [dmaIn_dch there]; exact decide_eq_false (by dsimp only; omega)) runs
      rw [beats, if_pos (by omega), moves, Nat.sub_sub, moves]
      exact ⟨g2, closes⟩
  · rintro ⟨g', rfl⟩
    rw [dmaIn_dch there]
    rfl
  · have fill : opOf w ≠ 4 := by omega
    unfold DmaCh.began
    rw [if_neg fill, if_neg fill]
    rfl

end

end Sys2Proof.Machine

/-! PROOFS. MOVE, whole (R247, R257), for O55. -/

namespace Sys2Proof.Machine

/-! ### Pieces of a block on their way -/

/-- A channel that has read the bytes below one stream position and written those below another (R257, R261). -/
def DmaCh.under (w : List Nat) (m : List Host.Cell) (src p r : Nat) (c : DmaCh) : DmaCh :=
  { c with hold := Mem.readN m (r - p) (src + p), moved := p, remain := countOf w - p }

/-- The stream position up to which bytes leave: whole accesses of the destination's width (R257). -/
def moved (w : List Nat) (r : Nat) : Nat := r / dwOf w * dwOf w

section
variable {s : State} {n : Nat} {c d : DmaCh} {w : List Nat} {M : List Host.Cell}

theorem moved_le (w : List Nat) (r : Nat) : moved w r ≤ r := Nat.div_mul_le_self _ _

theorem moved_of {r : Nat} (multiple : r % dwOf w = 0) : moved w r = r := Nat.div_mul_cancel (Nat.dvd_of_mod_eq_zero multiple)

theorem moved_grows (w : List Nat) (r k : Nat) : moved w r + (r + k - moved w r) / dwOf w * dwOf w = moved w (r + k) := by
  have wide : 0 < dwOf w := Nat.two_pow_pos _
  have part : r + k = (r + k - moved w r) + r / dwOf w * dwOf w := by
    have := moved_le w r
    unfold moved at this ⊢
    omega
  conv_rhs => rw [moved, part, Nat.add_mul_div_right _ _ wide, Nat.add_mul]
  rw [Nat.add_comm]
  rfl

/-- One piece of the source is read, and what it completes of the destination's accesses leaves (R257). -/
theorem move_piece (there : s.dma.chs[n]? = some d) (alone : ∀ l ∈ s.braid.waiting, l = []) (uncut : c.cut = none) (whole : c.ent = none)
    {src dst r top : Nat} {x : Nat × Nat} {g : List (Option Granted)} (at_ : x.1 = src + r) (some_ : 0 < x.2) (within : r + x.2 ≤ top) (most : top ≤ countOf w)
    (reads : Safe.dmaReads s c.sec src (countOf w)) (writes : Safe.dmaWrites s c.sec dst (countOf w))
    (apart : src + countOf w ≤ dst ∨ dst + countOf w ≤ src ∨ r = 0) : ∃ g',
    Mv.put n dst (dwOf w) true 0 top (Mv.read n { s := s.dmaIn n (c.under w M src (moved w r) r) (Mem.writeN M dst (Mem.readN M (moved w r) src)) g } x) =
      { s := s.dmaIn n (c.under w M src (moved w (r + x.2)) (r + x.2)) (Mem.writeN M dst (Mem.readN M (moved w (r + x.2)) src)) g' } := by
  have below := moved_le w r
  have below2 := moved_le w (r + x.2)
  have grows := moved_grows w r x.2
  obtain ⟨g1, read⟩ := read_takes (m := Mem.writeN M dst (Mem.readN M (moved w r) src)) (g := g) (d := c.under w M src (moved w r) r)
    there alone uncut (x := x) (reads.2.2 x.1 x.2 (by omega) some_ (by omega))
  have same : Mem.readN (Mem.writeN M dst (Mem.readN M (moved w r) src)) x.2 x.1 = Mem.readN M x.2 (src + r) := by
    rw [at_]
    by_cases start : r = 0
    · rw [start, show moved w 0 = 0 by rw [moved, Nat.zero_div, Nat.zero_mul]]
      rfl
    · refine readN_writeN_away ?_
      rw [readN_length]
      omega
  have holds : Mem.readN M (r - moved w r) (src + moved w r) ++ Mem.readN M x.2 (src + r) = Mem.readN M (r + x.2 - moved w r) (src + moved w r) := by
    have appended := readN_append M (r - moved w r) x.2 (src + moved w r)
    rwa [show src + moved w r + (r - moved w r) = src + r by omega, show r - moved w r + x.2 = r + x.2 - moved w r by omega] at appended
  generalize is_k : (r + x.2 - moved w r) / dwOf w * dwOf w = k at grows
  have read_ : Mv.read n { s := s.dmaIn n (c.under w M src (moved w r) r) (Mem.writeN M dst (Mem.readN M (moved w r) src)) g } x =
      { s := s.dmaIn n { c.under w M src (moved w r) r with hold := Mem.readN M (r + x.2 - moved w r) (src + moved w r) }
          (Mem.writeN M dst (Mem.readN M (moved w r) src)) g1 } := by
    rw [read, same, ← holds]
    rfl
  obtain ⟨g2, left, put, is_left⟩ := put_puts (m := Mem.writeN M dst (Mem.readN M (moved w r) src)) (g := g1) (base := 0) (top := top) (width := dwOf w)
    (k := k) (a := dst) (d := { c.under w M src (moved w r) r with hold := Mem.readN M (r + x.2 - moved w r) (src + moved w r) }) there alone uncut
    (by
      show min (Mem.readN M (r + x.2 - moved w r) (src + moved w r)).length (top - moved w r) / dwOf w * dwOf w = k
      rw [readN_length, Nat.min_eq_left (by omega), is_k])
    (fun _ => by show dst + (moved w r - 0) + k ≤ 2 ^ 40; omega)
    (fun b j low pos high => writes.2.2 b j (by have : dst + (moved w r - 0) ≤ b := low; omega) pos
      (by have : b + j ≤ dst + (moved w r - 0) + k := high; omega))
  refine ⟨g2, ?_⟩
  rw [read_, put, is_left whole]
  obtain ⟨taken, kept⟩ := readN_split M (show k ≤ r + x.2 - moved w r by omega) (src + moved w r)
  have written := writeN_append M dst (Mem.readN M (moved w r) src) (Mem.readN M k (src + moved w r))
  rw [readN_length, readN_append, grows] at written
  rw [← written, taken, kept, ← grows, Nat.sub_zero]
  unfold DmaCh.under
  rw [Nat.add_assoc, Nat.sub_sub, Nat.sub_sub]

/-- The pieces of a block, one after the other (R257). -/
theorem move_pieces (there : s.dma.chs[n]? = some d) (alone : ∀ l ∈ s.braid.waiting, l = []) (uncut : c.cut = none) (whole : c.ent = none)
    {src dst top : Nat} (most : top ≤ countOf w) (reads : Safe.dmaReads s c.sec src (countOf w)) (writes : Safe.dmaWrites s c.sec dst (countOf w)) :
    ∀ {xs : List (Nat × Nat)} {r len : Nat} {g : List (Option Granted)}, Chain (src + r) xs len → r + len = top →
      (src + countOf w ≤ dst ∨ dst + countOf w ≤ src ∨ (r = 0 ∧ xs.length ≤ 1)) → ∃ g',
      xs.foldl (fun q x => Mv.put n dst (dwOf w) true 0 top (Mv.read n q x))
          { s := s.dmaIn n (c.under w M src (moved w r) r) (Mem.writeN M dst (Mem.readN M (moved w r) src)) g } =
        { s := s.dmaIn n (c.under w M src (moved w top) top) (Mem.writeN M dst (Mem.readN M (moved w top) src)) g' }
  | [], r, len, g, chain, to_, _ => by
    obtain rfl : len = 0 := chain
    rw [Nat.add_zero] at to_
    rw [to_]
    exact ⟨g, rfl⟩
  | x :: xs, r, len, g, chain, to_, apart => by
    obtain ⟨at_, some_, le, -, rest⟩ := chain
    obtain ⟨g1, one⟩ := move_piece (M := M) (g := g) there alone uncut whole at_ some_ (by omega) most reads writes (by omega)
    rw [Nat.add_assoc] at rest
    by_cases last_ : xs = []
    · subst last_
      have all : len - x.2 = 0 := rest
      rw [show r + x.2 = top by omega] at one
      exact ⟨g1, one⟩
    · have more : src + countOf w ≤ dst ∨ dst + countOf w ≤ src := by
        rcases apart with before | after | ⟨-, single⟩
        · exact .inl before
        · exact .inr after
        · exact absurd (List.length_eq_zero_iff.1 (Nat.le_zero.1 (Nat.le_of_succ_le_succ single))) last_
      obtain ⟨g2, rest_⟩ := move_pieces there alone uncut whole most reads writes (r := r + x.2) (g := g1) rest (by omega) (by omega)
      refine ⟨g2, ?_⟩
      rw [List.foldl_cons, one]
      exact rest_

/-! ### A MOVE as a whole -/

/-- One block of a MOVE between incrementing sides (R257). -/
theorem moveBlock_moves (there : s.dma.chs[n]? = some d) (alone : ∀ l ∈ s.braid.waiting, l = []) (uncut : c.cut = none) (whole : c.ent = none)
    (flat : c.loops = []) {src dst j : Nat} {g : List (Option Granted)} (from_ : src = addrAt w 1) (to_ : dst = addrAt w 3) (sincs : sinc w = true)
    (dincs : dinc w = true) (within : j < countOf w) (even : countOf w % dwOf w = 0) (at_ : j % 64 = 0) (width : 64 % dwOf w = 0)
    (reads : Safe.dmaReads s c.sec src (countOf w)) (writes : Safe.dmaWrites s c.sec dst (countOf w))
    (apart : (countOf w ≤ 64 ∧ src % 256 + countOf w ≤ 256) ∨ src + countOf w ≤ dst ∨ dst + countOf w ≤ src) :
    ∃ g', moveBlock n w (s.dmaIn n (c.under w M src j j) (Mem.writeN M dst (Mem.readN M j src)) g) =
      s.dmaIn n (if countOf w ≤ j + 64 then DmaCh.next (c.under w M src (countOf w) (countOf w)) else c.under w M src (j + 64) (j + 64))
        (Mem.writeN M dst (Mem.readN M (min (j + 64) (countOf w)) src)) g' := by
  have wide : dwOf w ∣ 64 := Nat.dvd_of_mod_eq_zero width
  have at_w : moved w j = j := moved_of (Nat.mod_eq_zero_of_dvd (wide.trans (Nat.dvd_of_mod_eq_zero at_)))
  have top_w : moved w (min (j + 64) (countOf w)) = min (j + 64) (countOf w) := by
    refine moved_of ?_
    rcases Nat.le_total (j + 64) (countOf w) with more | last_
    · rw [Nat.min_eq_left more, Nat.add_mod, Nat.mod_eq_zero_of_dvd (wide.trans (Nat.dvd_of_mod_eq_zero at_)), width]
      rfl
    · rw [Nat.min_eq_right last_]
      exact even
  obtain ⟨g', moves⟩ := move_pieces (M := M) (g := g) there alone uncut whole (top := min (j + 64) (countOf w)) (r := j) (Nat.min_le_right _ _)
    reads writes (piecesOf_chain (src + j) (min 64 (countOf w - j))) (by omega) (by
      rcases apart with ⟨few, line⟩ | apart
      · have start : j = 0 := by omega
        subst start
        exact .inr (.inr ⟨rfl, piecesOf_one (by omega)⟩)
      · omega)
  rw [at_w, top_w] at moves
  have aims : effective (c.under w M src j j) (sinc w) (addrAt w 1) = src ∧ effective (c.under w M src j j) (dinc w) (addrAt w 3) = dst := by
    rw [sincs, dincs, ← from_, ← to_]
    exact ⟨strided_plain flat reads.1, strided_plain flat writes.1⟩
  have block : moveBlock n w (s.dmaIn n (c.under w M src j j) (Mem.writeN M dst (Mem.readN M j src)) g) =
      Mv.close n (fun s => decide (countOf w ≤ (s.dch n).moved))
        { s := s.dmaIn n (c.under w M src (min (j + 64) (countOf w)) (min (j + 64) (countOf w))) (Mem.writeN M dst (Mem.readN M (min (j + 64) (countOf w)) src)) g' } := by
    rw [← moves]
    unfold moveBlock accesses
    rw [dmaIn_dch there]
    dsimp only
    rw [aims.1, aims.2, sincs, dincs, if_pos rfl]
    show Mv.close n _ (List.foldl (fun q x => Mv.put n dst (dwOf w) true 0 (j + min 64 (countOf w - j)) (Mv.read n q x)) _
      (piecesOf ((src + j) % 2 ^ 40) (min 64 (countOf w - j)))) = _
    rw [Nat.mod_eq_of_lt (by have := reads.2.1; omega), show j + min 64 (countOf w - j) = min (j + 64) (countOf w) by omega]
  refine ⟨g', ?_⟩
  rw [block, close_goes there (by show c.cut ≠ _; rw [uncut]; exact nofun), dmaIn_dch there]
  refine congrArg (fun e => s.dmaIn n e _ g') ?_
  show (if decide (countOf w ≤ min (j + 64) (countOf w)) = true then _ else _) = _
  by_cases last_ : countOf w ≤ j + 64
  · rw [Nat.min_eq_right last_, if_pos (by simp), if_pos last_]
  · rw [Nat.min_eq_left (by omega), if_neg (by simpa using last_), if_neg last_]

theorem dataBlock_move (is : opOf w = 1) (n : Nat) (u : State) : dataBlock n w u = moveBlock n w u := by
  unfold dataBlock
  rw [is]
  rfl

/-- A MOVE leaves the source's bytes at the destination, and the channel at the next instruction (R257). -/
theorem move_whole (there : s.dma.chs[n]? = some c) (alone : ∀ l ∈ s.braid.waiting, l = []) {src dst : Nat} (runs : c.st = .running)
    (flat : c.loops = []) (from_ : src = addrAt w 1) (to_ : dst = addrAt w 3) (some_ : 0 < countOf w) (unpaced : dreqOf w = 0) (ok : insOk w = true)
    (is : opOf w = 1) (sincs : sinc w = true) (dincs : dinc w = true) (straight : src % swOf w = 0 ∧ dst % dwOf w = 0)
    (reads : Safe.dmaReads s c.sec src (countOf w)) (writes : Safe.dmaWrites s c.sec dst (countOf w))
    (apart : (countOf w ≤ 64 ∧ src % 256 + countOf w ≤ 256) ∨ src + countOf w ≤ dst ∨ dst + countOf w ≤ src) : ∃ g', s.dataIns n none w =
      s.dmaIn n (DmaCh.next ((c.began w none).under w s.mem src (countOf w) (countOf w))) (Mem.writeN s.mem dst (Mem.readN s.mem (countOf w) src)) g' := by
  obtain ⟨-, narrow, -, even⟩ := (insOk_data ok).1 is
  have width : 64 % dwOf w = 0 := width_divides narrow
  have aligned_ : aligned c w = true := by
    unfold aligned
    rw [is]
    show (decide (effective c (sinc w) (addrAt w 1) % swOf w = 0) && decide (effective c (dinc w) (addrAt w 3) % dwOf w = 0)) = true
    rw [sincs, dincs, ← from_, ← to_]
    exact Bool.and_eq_true_iff.2 ⟨decide_eq_true (by show strided c src % swOf w = 0; rw [strided_plain flat reads.1]; exact straight.1),
      decide_eq_true (by show strided c dst % dwOf w = 0; rw [strided_plain flat writes.1]; exact straight.2)⟩
  rw [dataIns_runs there aligned_ some_ unpaced]
  have moves := allBlocks_ends (n := n) (w := w) (stop := countOf w)
    (P := fun j u => j < countOf w ∧ j % 64 = 0 ∧ ∃ g', u = s.dmaIn n ((c.began w none).under w s.mem src j j) (Mem.writeN s.mem dst (Mem.readN s.mem j src)) g')
    (Q := fun u => ∃ g', u = s.dmaIn n (DmaCh.next ((c.began w none).under w s.mem src (countOf w) (countOf w)))
      (Mem.writeN s.mem dst (Mem.readN s.mem (countOf w) src)) g')
    (fun j u => ?_) (fun j u => ?_) (fun u => ?_) (2 ^ 64) 0 (s.dmaIn n (c.began w none) s.mem s.braid.granted)
    ⟨some_, Nat.zero_mod _, s.braid.granted, ?_⟩ (by omega) (by have := writes.2.1; omega)
  · obtain ⟨g', is_u⟩ := moves
    rw [is_u]
    exact ⟨g', dmaIn_modDch _⟩
  · rintro ⟨-, -, g', rfl⟩
    rw [dmaIn_dch there]
    exact ⟨rfl, runs⟩
  · rintro ⟨within, at_, g', rfl⟩
    obtain ⟨g2, block⟩ := moveBlock_moves (M := s.mem) (g := g') (c := c.began w none) there alone rfl rfl flat from_ to_ sincs dincs within even at_ width
      reads writes apart
    rw [dataBlock_move is, block]
    refine ⟨fun more => ?_, fun last_ => ?_⟩
    · rw [if_neg (by omega), Nat.min_eq_left (by omega)]
      exact ⟨more, by omega, g2, rfl⟩
    · rw [if_pos last_, Nat.min_eq_right last_]
      exact ⟨g2, rfl⟩
  · rintro ⟨g', rfl⟩
    rw [dmaIn_dch there]
    rfl
  · have move : opOf w ≠ 4 := by omega
    unfold DmaCh.under DmaCh.began
    rw [if_neg move, if_neg move]
    rfl

end

end Sys2Proof.Machine

/-! PROOFS. COMPARE and a GATHER of one entry (R255, R257, R258), for O55. -/

namespace Sys2Proof.Machine

/-! ### Bytes that differ -/

theorem readN_map (m : List Host.Cell) (n a : Nat) : Mem.readN m n a = (List.range n).map (fun i => Mem.read m (a + i)) :=
  List.ext_getElem (by simp) fun i _ _ => by rw [readN_getElem]; simp

/-- The stream positions below `k` at which memory differs from a pattern (R258). -/
def mismatches (m : List Host.Cell) (a pat k : Nat) : List Nat :=
  (List.range k).filter (fun i => decide (Mem.read m (a + i) ≠ BitVec.ofNat 8 (pat / 256 ^ (i % 4))))

theorem differing_length (done : Nat) (a b : List Byte) : (differing done a b).length = (a.zip b).countP (fun x => decide (x.1 ≠ x.2)) := by
  unfold differing
  generalize a.zip b = l
  induction l generalizing done with
  | nil => rfl
  | cons x l ih =>
    rw [List.zipIdx_cons, List.filterMap_cons, List.countP_cons, ← ih (done + 1)]
    by_cases same : x.1 = x.2
    · simp [same]
    · simp [same]

/-- What a block finds adds to what was found before it (R258). -/
theorem mismatches_grow (m : List Host.Cell) (a pat width done len : Nat) :
    (mismatches m a pat (done + len)).length = (mismatches m a pat done).length +
      (differing done (Mem.readN m len (a + done)) (patternBytes pat width true done len)).length := by
  have block : (Mem.readN m len (a + done)).zip (patternBytes pat width true done len) =
      (List.range len).map (fun i => (Mem.read m (a + (done + i)), BitVec.ofNat 8 (pat / 256 ^ ((done + i) % 4)))) := by
    rw [readN_map, patternBytes, List.zip_map']
    simp only [Nat.add_assoc, if_true]
  unfold mismatches
  rw [differing_length, block, List.countP_map, List.range_add, List.filter_append, List.length_append, List.filter_map, List.length_map,
    List.countP_eq_length_filter]
  rfl

section
variable {s : State} {n : Nat} {c d : DmaCh} {m : List Host.Cell} {g : List (Option Granted)} {w : List Nat}

/-! ### COMPARE -/

theorem compared_counts (src width len : Nat) (inc : Bool) (diffs : List Nat) (c : DmaCh) : ∃ a, c.compared src width len inc diffs =
    { c with hold := [], moved := c.moved + len, remain := c.remain - len, mismCnt := min 0xFFFFFFFF (c.mismCnt + diffs.length), mismAddr := a } :=
  ⟨_, rfl⟩

/-- A channel that has compared the bytes below a stream position (R258, R261). -/
def DmaCh.counted (w : List Nat) (m : List Host.Cell) (src j left at_ : Nat) (c : DmaCh) : DmaCh :=
  { c with moved := j, remain := left, mismAddr := at_, mismCnt := min 0xFFFFFFFF (c.mismCnt + (mismatches m src (wd w 6) j).length) }

/-- One block of a COMPARE with a pattern, which does not stop at a byte that differs (R258). -/
theorem compareBlock_counts (there : s.dma.chs[n]? = some d) (alone : ∀ l ∈ s.braid.waiting, l = []) {src j left at_ : Nat} (uncut : c.cut = none)
    (flat : c.loops = []) (empty : c.hold = []) (from_ : src = addrAt w 1) (sincs : sinc w = true) (pattern : flagA w = false) (on : flagB w = false)
    (within : j < countOf w) (reads : Safe.dmaReads s c.sec src (countOf w)) :
    ∃ g' left' at_', compareBlock n w (s.dmaIn n (c.counted w m src j left at_) m g) = s.dmaIn n
      (if countOf w ≤ j + 64 then DmaCh.next (c.counted w m src (countOf w) left' at_') else c.counted w m src (j + 64) left' at_') m g' := by
  have aimed : effective (c.counted w m src j left at_) (sinc w) (addrAt w 1) = src := by
    rw [sincs, ← from_]
    exact strided_plain flat reads.1
  have top : j + min 64 (countOf w - j) = min (j + 64) (countOf w) := by omega
  generalize is_len : min 64 (countOf w - j) = len at top
  obtain ⟨g', burst⟩ := reads_take (m := m) (g := g) (d := c.counted w m src j left at_) there alone (piecesOf_chain (src + j) len) uncut
    (fun b k low pos high => reads.2.2 b k (by omega) pos (by omega))
  have taken : (c.counted w m src j left at_).hold ++ Mem.readN m len (src + j) = Mem.readN m len (src + j) := by
    show c.hold ++ _ = _
    rw [empty, List.nil_append]
  rw [taken] at burst
  have emptied : { c.counted w m src j left at_ with hold := [] } = c.counted w m src j left at_ := by
    unfold DmaCh.counted
    rw [← empty]
  obtain ⟨at_', found⟩ := compared_counts src (swOf w) len true (differing j (Mem.readN m len (src + j)) (patternBytes (wd w 6) (swOf w) true j len))
    (c.counted w m src j left at_)
  have grown : (c.counted w m src j left at_).compared src (swOf w) len true
      (differing j (Mem.readN m len (src + j)) (patternBytes (wd w 6) (swOf w) true j len)) = c.counted w m src (j + len) (left - len) at_' := by
    rw [found]
    unfold DmaCh.counted
    dsimp only
    rw [mismatches_grow m src (wd w 6) (swOf w) j len, ← empty]
    congr 1
    omega
  have block : compareBlock n w (s.dmaIn n (c.counted w m src j left at_) m g) = Mv.close n (fun s => decide (countOf w ≤ (s.dch n).moved))
      { s := s.dmaIn n (c.counted w m src (j + len) (left - len) at_') m g' } := by
    rw [← grown]
    unfold compareBlock accesses
    rw [dmaIn_dch there]
    dsimp only
    rw [aimed, sincs, if_pos rfl]
    rw [show (c.counted w m src j left at_).moved = j from rfl, is_len, Nat.mod_eq_of_lt (by have := reads.2.1; omega), burst]
    dsimp only
    simp only [dmaIn_dch there, dmaIn_modDch, pattern, Bool.false_eq_true, if_false, Option.isSome_none, false_or, readN_length, patternBytes_length,
      Nat.lt_irrefl, on, false_and]
    rw [emptied]
  refine ⟨g', left - len, at_', ?_⟩
  rw [block, close_goes there (by show c.cut ≠ _; rw [uncut]; exact nofun), dmaIn_dch there, top]
  refine congrArg (fun e => s.dmaIn n e _ g') ?_
  show (if decide (countOf w ≤ min (j + 64) (countOf w)) = true then _ else _) = _
  by_cases last_ : countOf w ≤ j + 64
  · rw [Nat.min_eq_right last_, if_pos (by simp), if_pos last_]
  · rw [Nat.min_eq_left (by omega), if_neg (by simpa using last_), if_neg last_]

theorem dataBlock_compare (is : opOf w = 3) (n : Nat) (u : State) : dataBlock n w u = compareBlock n w u := by
  unfold dataBlock
  rw [is]
  rfl

/-- A COMPARE with a pattern counts the bytes that differ, and leaves memory and the channel at the next instruction (R258). -/
theorem compare_whole (there : s.dma.chs[n]? = some c) (alone : ∀ l ∈ s.braid.waiting, l = []) {src : Nat} (runs : c.st = .running)
    (flat : c.loops = []) (from_ : src = addrAt w 1) (some_ : 0 < countOf w) (unpaced : dreqOf w = 0) (is : opOf w = 3) (sincs : sinc w = true)
    (pattern : flagA w = false) (on : flagB w = false) (straight : src % swOf w = 0) (reads : Safe.dmaReads s c.sec src (countOf w))
    (small : c.mismCnt < 2 ^ 32) : ∃ g' left at_, s.dataIns n none w =
      s.dmaIn n (DmaCh.next ((c.began w none).counted w s.mem src (countOf w) left at_)) s.mem g' := by
  have aligned_ : aligned c w = true := by
    unfold aligned
    rw [is]
    show (decide (effective c (sinc w) (addrAt w 1) % swOf w = 0) && (!flagA w || decide (effective c (dinc w) (addrAt w 3) % dwOf w = 0))) = true
    rw [sincs, ← from_, pattern]
    simp only [Bool.not_false, Bool.true_or, Bool.and_true]
    exact decide_eq_true (by show strided c src % swOf w = 0; rw [strided_plain flat reads.1]; exact straight)
  rw [dataIns_runs there aligned_ some_ unpaced]
  have counts := allBlocks_ends (n := n) (w := w) (stop := countOf w)
    (P := fun j u => j < countOf w ∧ ∃ g' left at_, u = s.dmaIn n ((c.began w none).counted w s.mem src j left at_) s.mem g')
    (Q := fun u => ∃ g' left at_, u = s.dmaIn n (DmaCh.next ((c.began w none).counted w s.mem src (countOf w) left at_)) s.mem g')
    (fun j u => ?_) (fun j u => ?_) (fun u => ?_) (2 ^ 64) 0 (s.dmaIn n (c.began w none) s.mem s.braid.granted)
    ⟨some_, s.braid.granted, (c.began w none).remain, c.mismAddr, ?_⟩ (by omega) (by have := reads.2.1; omega)
  · obtain ⟨g', left, at_, is_u⟩ := counts
    rw [is_u]
    exact ⟨g', left, at_, dmaIn_modDch _⟩
  · rintro ⟨-, g', left, at_, rfl⟩
    rw [dmaIn_dch there]
    exact ⟨rfl, runs⟩
  · rintro ⟨within, g', left, at_, rfl⟩
    obtain ⟨g2, left2, at_2, block⟩ := compareBlock_counts (m := s.mem) (g := g') (c := c.began w none) (left := left) (at_ := at_)
      there alone rfl flat rfl from_ sincs pattern on within reads
    rw [dataBlock_compare is, block]
    refine ⟨fun more => ?_, fun last_ => ?_⟩
    · rw [if_neg (by omega)]
      exact ⟨more, g2, left2, at_2, rfl⟩
    · rw [if_pos last_]
      exact ⟨g2, left2, at_2, rfl⟩
  · rintro ⟨g', left, at_, rfl⟩
    rw [dmaIn_dch there]
    rfl
  · have none_ : min 0xFFFFFFFF (c.mismCnt + (mismatches s.mem src (wd w 6) 0).length) = c.mismCnt := by
      show min 0xFFFFFFFF (c.mismCnt + 0) = c.mismCnt
      omega
    unfold DmaCh.counted
    show s.dmaIn n _ s.mem _ = s.dmaIn n { c.began w none with
      moved := 0, remain := (c.began w none).remain, mismAddr := c.mismAddr, mismCnt := min 0xFFFFFFFF (c.mismCnt + (mismatches s.mem src (wd w 6) 0).length) } s.mem _
    rw [none_]
    rfl

/-! ### A GATHER of one entry -/

/-- What the 16 bytes of a list entry say (R255). -/
theorem entry_fields {lo len : Nat} (low : lo < 2 ^ 40) (few : len ≤ 64) {bs : List Byte} (is : bs = leBytes 8 lo ++ leBytes 4 len ++ leBytes 4 0) :
    leNat (bs.take 8) = lo ∧ wordOf bs 8 = len ∧ wordOf bs 12 = 0 := by
  subst is
  refine ⟨?_, ?_, rfl⟩
  · exact (leNat_leBytes 8 lo).trans (Nat.mod_eq_of_lt (by omega))
  · exact (leNat_leBytes 4 len).trans (Nat.mod_eq_of_lt (by omega))

/-- The entry of a list is loaded and is good (R255). -/
theorem loadEntry_loads (there : s.dma.chs[n]? = some d) (alone : ∀ l ∈ s.braid.waiting, l = []) {src lo len : Nat} (uncut : c.cut = none)
    (flat : c.loops = []) (none_ : c.ent = none) (begins : c.ents = 0) (empty : c.hold = []) (from_ : src = addrAt w 1) (first_ : flagA w = false)
    (few : len ≤ 64) (wide : len % swOf w = 0) (straight : lo % swOf w = 0) (low : lo < 2 ^ 40)
    (is : Mem.readN m 16 src = leBytes 8 lo ++ leBytes 4 len ++ leBytes 4 0) (reads : Safe.dmaReads s c.sec src 16) :
    ∃ g', loadEntry n w (s.dmaIn n c m g) = ({ s := s.dmaIn n { c with ent := some (lo, len), remain := len, gidx := 0 } m g' }, true) := by
  obtain ⟨address, length_, zero⟩ := entry_fields low few is
  obtain ⟨g', burst⟩ := reads_take (m := m) (g := g) (d := { c with hold := [] }) there alone (piecesOf_chain src 16) uncut
    (fun b k lo pos high => reads.2.2 b k lo pos high)
  refine ⟨g', ?_⟩
  unfold loadEntry
  rw [dmaIn_dch there]
  dsimp only
  rw [none_]
  dsimp only
  rw [begins, ← from_, strided_plain flat reads.1, Nat.mul_zero, Nat.add_zero, Nat.mod_eq_of_lt reads.1, dmaIn_modDch, burst]
  dsimp only
  rw [over_no there (by dsimp only; rw [uncut]; exact nofun), dmaIn_dch there, if_neg (by simp)]
  dsimp only
  rw [List.nil_append, address, length_, zero, first_, if_neg Bool.false_ne_true, dmaIn_modDch, empty]
  have good : (decide (lo < 2 ^ 40) && decide (0 = 0) && decide (len % swOf w = 0) && decide (lo % swOf w = 0)) = true := by
    rw [decide_eq_true low, wide, straight]
    rfl
  rw [good, begins]

/-- The one block of an entry of at most 64 bytes: its bytes are read and leave for the destination (R255, R257). -/
theorem entryBlock_moves (there : s.dma.chs[n]? = some d) (alone : ∀ l ∈ s.braid.waiting, l = []) {dst lo len : Nat} (uncut : c.cut = none)
    (flat : c.loops = []) (start : c.moved = 0 ∧ c.entBase = 0) (empty : c.hold = []) (to_ : dst = addrAt w 3) (first_ : flagA w = false)
    (sincs : sinc w = true) (few : len ≤ 64) (wide : len % dwOf w = 0) (reads : Safe.dmaReads s c.sec lo len) (writes : Safe.dmaWrites s c.sec dst len) :
    ∃ g' left, entryBlock n w lo len (s.dmaIn n c m g) =
      { s := s.dmaIn n { c with moved := len, remain := left } (Mem.writeN m dst (Mem.readN m len lo)) g' } := by
  obtain ⟨g1, burst⟩ := reads_take (m := m) (g := g) (d := c) there alone (piecesOf_chain lo len) uncut
    (fun b k low pos high => reads.2.2 b k low pos high)
  rw [empty, List.nil_append] at burst
  obtain ⟨g2, left, put, -⟩ := put_puts (m := m) (g := g1) (d := { c with hold := Mem.readN m len lo }) (a := dst) (width := dwOf w) (base := 0)
    (top := len) (k := len) there alone uncut
    (by
      dsimp only
      rw [readN_length, start.1, Nat.sub_zero, Nat.min_self]
      exact Nat.div_mul_cancel (Nat.dvd_of_mod_eq_zero wide))
    (fun _ => by dsimp only; rw [start.1]; exact writes.2.1)
    (fun b k low pos high => writes.2.2 b k (by dsimp only at low; omega) pos (by dsimp only at high; rw [start.1] at high; exact high))
  refine ⟨g2, left, ?_⟩
  unfold entryBlock accesses
  rw [dmaIn_dch there]
  dsimp only
  rw [if_pos first_, sincs, if_pos rfl, ← to_, strided_plain flat writes.1, empty, start.1, start.2]
  show Mv.put n dst (dwOf w) true 0 (0 + len) (List.foldl (Mv.read n) { s := s.dmaIn n c m g } (piecesOf ((lo + 0) % 2 ^ 40) (min 64 (len - 0)))) = _
  rw [Nat.add_zero, Nat.zero_add, Nat.mod_eq_of_lt reads.1, Nat.sub_zero, Nat.min_eq_right few, burst, put]
  dsimp only
  have len_ := readN_length m len lo
  rw [start.1, List.drop_of_length_le (Nat.le_of_eq len_), List.take_of_length_le (Nat.le_of_eq len_), start.2, Nat.zero_add, Nat.sub_zero, Nat.add_zero]

theorem dataBlock_gather (is : opOf w = 4) (n : Nat) (u : State) : dataBlock n w u = gatherBlock n w u := by
  unfold dataBlock
  rw [is]
  rfl

/-- The one block of a list of one entry (R255, R257). -/
theorem gatherBlock_gathers (there : s.dma.chs[n]? = some d) (alone : ∀ l ∈ s.braid.waiting, l = []) {src dst lo len : Nat} (uncut : c.cut = none)
    (flat : c.loops = []) (fresh : c.ent = none ∧ c.ents = 0 ∧ c.moved = 0 ∧ c.entBase = 0 ∧ c.hold = []) (from_ : src = addrAt w 1)
    (to_ : dst = addrAt w 3) (one : countOf w = 1) (first_ : flagA w = false) (sincs : sinc w = true) (few : len ≤ 64)
    (wide : len % swOf w = 0 ∧ len % dwOf w = 0) (straight : lo % swOf w = 0) (is : Mem.readN m 16 src = leBytes 8 lo ++ leBytes 4 len ++ leBytes 4 0)
    (list : Safe.dmaReads s c.sec src 16) (reads : Safe.dmaReads s c.sec lo len) (writes : Safe.dmaWrites s c.sec dst len) :
    ∃ g' left, gatherBlock n w (s.dmaIn n c m g) = s.dmaIn n (DmaCh.next { c with remain := left, gidx := 0 }) (Mem.writeN m dst (Mem.readN m len lo)) g' := by
  obtain ⟨none_, begins, start, base, empty⟩ := fresh
  obtain ⟨g1, loads⟩ := loadEntry_loads (m := m) (g := g) there alone uncut flat none_ begins empty from_ first_ few wide.1 straight reads.1 is list
  obtain ⟨g2, left, moves⟩ := entryBlock_moves (m := m) (g := g1) (c := { c with ent := some (lo, len), remain := len, gidx := 0 })
    there alone uncut flat ⟨start, base⟩ empty to_ first_ sincs few wide.2 reads writes
  refine ⟨g2, left, ?_⟩
  unfold gatherBlock
  rw [loads]
  dsimp only
  rw [Option.isSome_none, if_neg Bool.false_ne_true, if_neg (by simp), dmaIn_dch there]
  dsimp only
  rw [moves]
  dsimp only
  rw [dmaIn_dch there]
  have done_ : DmaCh.entryDone w len { c with ent := some (lo, len), remain := left, gidx := 0, moved := len } = true := by
    unfold DmaCh.entryDone
    dsimp only
    rw [base, empty, first_]
    simp
  rw [if_pos done_, dmaIn_modDch, close_goes there (by unfold DmaCh.nextEntry; dsimp only; rw [uncut]; exact nofun), dmaIn_dch there]
  refine congrArg (fun e => s.dmaIn n e _ g2) ?_
  unfold DmaCh.nextEntry
  dsimp only
  rw [one, begins, if_pos (by simp)]
  rfl

/-- A GATHER of one entry leaves the entry's bytes at the destination, and the channel at the next instruction (R255). -/
theorem gather_whole (there : s.dma.chs[n]? = some c) (alone : ∀ l ∈ s.braid.waiting, l = []) {src dst lo len : Nat} (runs : c.st = .running)
    (flat : c.loops = []) (from_ : src = addrAt w 1) (to_ : dst = addrAt w 3) (one : countOf w = 1) (unpaced : dreqOf w = 0) (is : opOf w = 4)
    (first_ : flagA w = false) (sincs : sinc w = true) (few : len ≤ 64) (wide : len % swOf w = 0 ∧ len % dwOf w = 0)
    (straight : dst % dwOf w = 0 ∧ lo % swOf w = 0) (entry : Mem.readN s.mem 16 src = leBytes 8 lo ++ leBytes 4 len ++ leBytes 4 0)
    (list : Safe.dmaReads s c.sec src 16) (reads : Safe.dmaReads s c.sec lo len) (writes : Safe.dmaWrites s c.sec dst len) :
    ∃ g' left, s.dataIns n none w =
      s.dmaIn n (DmaCh.next { c.began w none with remain := left, gidx := 0 }) (Mem.writeN s.mem dst (Mem.readN s.mem len lo)) g' := by
  have aligned_ : aligned c w = true := by
    unfold aligned
    rw [is]
    show decide (strided c (addrAt w 3) % (if flagA w then swOf w else dwOf w) = 0) = true
    rw [first_, if_neg Bool.false_ne_true, ← to_, strided_plain flat writes.1]
    exact decide_eq_true straight.1
  rw [dataIns_runs there aligned_ (by omega) unpaced]
  have gathers := allBlocks_ends (n := n) (w := w) (stop := 1)
    (P := fun j u => j = 0 ∧ u = s.dmaIn n (c.began w none) s.mem s.braid.granted)
    (Q := fun u => ∃ g' left, u = s.dmaIn n (DmaCh.next { c.began w none with remain := left, gidx := 0 }) (Mem.writeN s.mem dst (Mem.readN s.mem len lo)) g')
    (fun j u => ?_) (fun j u => ?_) (fun u => ?_) (2 ^ 64) 0 (s.dmaIn n (c.began w none) s.mem s.braid.granted) ⟨rfl, rfl⟩ (by omega) (by omega)
  · obtain ⟨g', left, is_u⟩ := gathers
    rw [is_u]
    exact ⟨g', left, dmaIn_modDch _⟩
  · rintro ⟨-, rfl⟩
    rw [dmaIn_dch there]
    exact ⟨rfl, runs⟩
  · rintro ⟨rfl, rfl⟩
    refine ⟨fun more => by omega, fun _ => ?_⟩
    rw [dataBlock_gather is]
    exact gatherBlock_gathers there alone rfl flat ⟨rfl, rfl, rfl, rfl, rfl⟩ from_ to_ one first_ sincs few wide straight.2 entry list reads writes
  · rintro ⟨g', left, rfl⟩
    rw [dmaIn_dch there]
    rfl

end

end Sys2Proof.Machine

/-! PROOFS. DMA instructions that move data, one block at a line's request among them (R255, R257-R259, R261), for O55. -/

namespace Sys2Proof.Machine

section
variable {s : State} {n : Nat} {c d : DmaCh} {w : List Nat}

/-! ### What memory holds afterwards -/

theorem writeN_copies {m : List Host.Cell} {a b len : Nat} (wf : Mem.wf m = true) :
    (∀ i, i < len → Mem.read (Mem.writeN m a (Mem.readN m len b)) (a + i) = Mem.read m (b + i)) ∧
    (∀ x, x < a ∨ a + len ≤ x → Mem.read (Mem.writeN m a (Mem.readN m len b)) x = Mem.read m x) := by
  refine ⟨fun i lt => ?_, fun x away => read_writeN_other (by rwa [readN_length])⟩
  rw [read_writeN_same wf (by rwa [readN_length]), readN_getElem]

theorem writeN_fills {m : List Host.Cell} {a len : Nat} (pat width done : Nat) (wf : Mem.wf m = true) :
    (∀ i, i < len → Mem.read (Mem.writeN m a (patternBytes pat width true done len)) (a + i) = BitVec.ofNat 8 (pat / 256 ^ ((done + i) % 4))) ∧
    (∀ x, x < a ∨ a + len ≤ x → Mem.read (Mem.writeN m a (patternBytes pat width true done len)) x = Mem.read m x) := by
  refine ⟨fun i lt => ?_, fun x away => read_writeN_other (by rwa [patternBytes_length])⟩
  rw [read_writeN_same wf (by rwa [patternBytes_length]), patternBytes_getElem]

/-! ### Paced blocks -/

theorem dmaMay_runs (there : s.dma.chs[n]? = some c) (may : s.dmaMay n = true) : c.st = .running := by
  unfold State.dmaMay at may
  rw [dch_of there] at may
  simp only [Bool.and_eq_true, decide_eq_true_eq] at may
  exact may.1.1

/-- A paced block waits for its line (R259). -/
theorem pacedBlock_asks (there : s.dma.chs[n]? = some c) (may : s.dmaMay n = true) (ins : c.ins = some w) (moves : opOf w ≠ 7) (pins : List Byte) :
    pacedBlock n pins none s = if (s.periPins (dreqOf w - 1) pins).lineOn (dreqOf w - 1) = false then s.periPins (dreqOf w - 1) pins
      else (dataBlock n w ((s.periPins (dreqOf w - 1) pins).modDch n (fun c => { c with cut := none }))).rowDone n := by
  unfold pacedBlock
  rw [dch_of there, ins]
  dsimp only
  rw [if_neg (by simp [moves, may])]

/-- One block of a paced FILL (R258, R259). -/
theorem pacedFill_fills (there : s.dma.chs[n]? = some c) (alone : ∀ l ∈ s.braid.waiting, l = []) {dst : Nat} (flat : c.loops = [])
    (to_ : dst = addrAt w 3) (is : opOf w = 2) (inc : dinc w = true) (within : c.moved < countOf w) (at_ : c.moved % dwOf w = 0) (narrow : dwOf w ≤ 32)
    (even : countOf w % dwOf w = 0) (may : Safe.dmaWrites s c.sec dst (countOf w)) : ∃ g' left,
    (dataBlock n w (s.modDch n (fun c => { c with cut := none }))).rowDone n = s.dmaIn n
      (if countOf w ≤ c.moved + 64 then DmaCh.next { c with cut := none, hold := [], moved := countOf w, remain := left }
        else { c with cut := none, hold := [], moved := c.moved + 64, remain := left })
      (Mem.writeN s.mem (dst + c.moved) (patternBytes (wd w 6) (dwOf w) true c.moved (min (countOf w) (c.moved + 64) - c.moved))) g' := by
  have width : 64 % dwOf w = 0 := width_divides ((Nat.pow_le_pow_iff_right (by omega)).1 (show 2 ^ bits (wd w 0) 20 18 ≤ 2 ^ 5 from narrow))
  obtain ⟨g', left, block, -⟩ := fillBlock_fills (m := s.mem) (g := s.braid.granted) (d := { c with cut := none })
    there alone rfl flat to_ inc within even at_ width may
  have begins : s.modDch n (fun c => { c with cut := none }) = s.dmaIn n { c with cut := none } s.mem s.braid.granted := by
    conv_lhs => rw [← dmaIn_self there]
    rw [dmaIn_modDch]
  refine ⟨g', left, ?_⟩
  rw [dataBlock_fill is, begins, block]
  dsimp only
  rw [State.rowDone, dmaIn_modDch, show min 64 (countOf w - c.moved) = min (countOf w) (c.moved + 64) - c.moved by omega]
  refine congrArg (fun e => s.dmaIn n e _ g') ?_
  by_cases last_ : countOf w ≤ c.moved + 64
  · rw [Nat.min_eq_left last_, Nat.add_sub_cancel' (Nat.le_of_lt within), if_pos (Nat.le_refl _), if_pos last_]
    rfl
  · rw [Nat.min_eq_right (by omega), Nat.add_sub_cancel_left, if_neg last_, if_neg last_]

end

/-! ### The obligation -/

/-- Settles O55: a MOVE, a FILL, a COMPARE and a GATHER block by block, a FILL cut short, and a block at a line's request. -/
theorem dmaMovesData : Obligations.DmaMovesData := by
  unfold Obligations.DmaMovesData
  intro s s1 n c w src dst count memory there may flat from_ to_ is_count some_ at_1 alone
  subst is_count
  have wf := memory.1
  have runs := dmaMay_runs there may
  refine ⟨fun fresh fetched unpaced ok => ?_, fun pins ins paced moves pinned => ?_⟩
  · have row := fun (op : Nat) (act : List Nat → State → State) (is : opOf w = op) (known : opKnown op = true) =>
      congrArg (Host.Outcome.next (σ := State) (φ := Fault) (ρ := Refusal)) (dmaRow_acts (act := act) there may fresh fetched is known ok)
    refine ⟨fun is sincs dincs straight straight2 reads writes apart => ?_, fun is inc straight writes => ?_, fun k is inc straight short writes => ?_,
      fun is sincs pattern on straight reads small => ?_, fun lo len is one sincs first_ straight few wide wide2 straight2 entry list reads writes => ?_⟩
    · obtain ⟨g', moved⟩ := move_whole at_1 alone runs flat from_ to_ some_ unpaced ok is sincs dincs ⟨straight, straight2⟩ reads writes apart
      obtain ⟨copied, away⟩ := writeN_copies (a := dst) (b := src) (len := countOf w) wf
      exact ⟨_, _, (row 1 _ is rfl).trans (congrArg Host.Outcome.next moved), dmaIn_frame, dmaIn_at at_1, runs, rfl, Nat.sub_self _, copied, away⟩
    · obtain ⟨g', r, filled⟩ := fill_whole at_1 alone runs flat to_ some_ unpaced ok is inc straight writes
      obtain ⟨bytes, away⟩ := writeN_fills (m := s1.mem) (a := dst) (len := countOf w) (wd w 6) (dwOf w) 0 wf
      simp only [Nat.zero_add] at bytes
      exact ⟨_, _, (row 2 _ is rfl).trans (congrArg Host.Outcome.next filled), dmaIn_frame, dmaIn_at at_1, runs, rfl, bytes, away⟩
    · obtain ⟨g', filled⟩ := fill_cut at_1 alone runs flat to_ short unpaced ok is inc straight writes
      obtain ⟨bytes, away⟩ := writeN_fills (m := s1.mem) (a := dst) (len := 32 * k) (wd w 6) (dwOf w) 0 wf
      simp only [Nat.zero_add] at bytes
      exact ⟨_, _, (row 2 _ is rfl).trans (congrArg Host.Outcome.next filled), dmaIn_frame, dmaIn_at at_1, rfl, rfl, rfl, rfl, bytes, away⟩
    · obtain ⟨g', left, at_, counted⟩ := compare_whole at_1 alone runs flat from_ some_ unpaced is sincs pattern on straight reads small
      exact ⟨_, _, (row 3 _ is rfl).trans (congrArg Host.Outcome.next counted), rfl, dmaIn_at at_1, runs, rfl, rfl⟩
    · obtain ⟨g', left, gathered⟩ := gather_whole at_1 alone runs flat from_ to_ one unpaced is first_ sincs few ⟨wide, wide2⟩ ⟨straight, straight2⟩ entry
        list reads writes
      obtain ⟨copied, away⟩ := writeN_copies (a := dst) (b := lo) (len := len) wf
      exact ⟨_, _, (row 4 _ is rfl).trans (congrArg Host.Outcome.next gathered), dmaIn_frame, dmaIn_at at_1, runs, rfl, rfl, copied, away⟩
  · have asks := pacedBlock_asks there may ins moves pins
    rw [← pinned] at asks
    refine ⟨fun no => congrArg Host.Outcome.next (asks.trans (if_pos no)), fun yes is inc within at_ narrow even writes => ?_⟩
    obtain ⟨g', left, filled⟩ := pacedFill_fills at_1 alone flat to_ is inc within at_ narrow even writes
    obtain ⟨bytes, away⟩ := writeN_fills (m := s1.mem) (a := dst + c.moved) (len := min (countOf w) (c.moved + 64) - c.moved) (wd w 6) (dwOf w) c.moved wf
    refine ⟨_, _, congrArg Host.Outcome.next ((asks.trans (if_neg (by rw [yes]; decide))).trans filled), dmaIn_frame, dmaIn_at at_1, ?_,
      fun more => ?_, fun last_ => ?_, fun i low high => ?_, fun x out => away x (by omega)⟩
    · split
      · exact runs
      · exact runs
    · rw [if_neg (by omega)]
      exact ⟨rfl, ins, rfl⟩
    · rw [if_pos last_]
      exact ⟨rfl, rfl⟩
    · have byte := bytes (i - c.moved) (by omega)
      rwa [Nat.add_assoc, Nat.add_sub_cancel' low] at byte

end Sys2Proof.Machine
